-- ==== Sys2Proof/Word.lean ====
section
/-! DEFINITION. The word, the byte and the sparse table that every other file is written with. -/

namespace Sys2Proof

/-- A register of the device (R5: every register is 32 bits wide and little-endian). -/
abbrev Word := BitVec 32

/-- One byte of a frame, of a record or of memory. -/
abbrev Byte := BitVec 8

/-- A sparse table: key and value pairs, keys strictly rising, no value equal to what an unlisted key
reads as (`Machine.tabWf` says so, `Machine.tabGet` and `Machine.tabSet` are the only ways in). -/
abbrev Tab (α : Type) := List (Nat × α)

/-- Byte-addressed memory: a sparse table of bytes, so a list of `Host.Cell`. -/
abbrev Memory := Tab Byte

end Sys2Proof
end

