-- ==== Sys2Proof/Syntax.lean ====
section
/-! DEFINITION. The commands of the block. -/
namespace Sys2Proof
/-- A request as its sender writes it into a mailbox and rings it (R59): the header's fields but COMMAND, and the
inline payload. -/
structure Req where
  mb : Fin 16
  seq : BitVec 16
  flags : Byte
  deck : Byte
  len : BitVec 16
  txn : BitVec 32
  rsv : BitVec 32
  payload : List Byte
deriving DecidableEq, Repr
/-- What a decision meets: the twin comparison (0 match, 1 match after the retry, 2 hard mismatch, R276), a single-bit
table error corrected, an entry found uncorrectable by DIAG table code and index (R209; 7 stands for the Fallback set, 8 for
the LIN ID tables), and a mismatch of the safety
enqueue check (R526). -/
structure Upset where
  twin : Fin 3
  fall : Bool
  corrected : Bool
  bad : Option (Fin 9 × BitVec 17)
  safety : Bool
deriving DecidableEq, Repr

/-- A CAN frame on the bus: identifier (base and XL priority identifiers in [10:0]), IDE, RTR, kind 0 classical, 1 FD, 2 XL,
BRS, ESI, the DLC of a classical frame, payload, and the XL fields SDT, VCID, SEC and AF (R157, R182 to R184). -/
structure CanFrame where
  id : BitVec 29
  ide : Bool
  rtr : Bool
  kind : Fin 3
  brs : Bool
  esi : Bool
  dlc : BitVec 4
  payload : List Byte
  sdt : Byte
  vcid : Byte
  sec : Bool
  af : BitVec 32
deriving DecidableEq, Repr

/-- What the outside answers to a command that went PENDING (R77): an outcome and the bytes it brings. 0 is success; the rule
of each command says what the others stand for. -/
structure Ext where
  code : Fin 8
  data : List Byte
deriving DecidableEq, Repr

/-- A HELLO body (R501), with the source address of its frame. `kind` 0 came from the peer itself; 1 is passed on by the Deck
`via`, which heard it on its Pier port `port` (R510); 2 is passed on and says that this peer is lost (log entry 24); 3 and 4 are
passed on and say that this Deck's quarantine has begun and has ended (R520, log entry 117). -/
structure Hello where
  rank : Fin 4
  variant : Bool
  uid : BitVec 64
  role : BitVec 2
  epoch : BitVec 32
  commitId : BitVec 32
  nonce : BitVec 128
  mac : BitVec 48
  kind : Fin 5
  via : Fin 4
  port : Fin 2
deriving DecidableEq, Repr

/-- Highest LSEQ received in each replayed class (R501, R504). -/
structure PierAcks where
  req : BitVec 16
  cpl : BitVec 16
  evt : BitVec 16
deriving DecidableEq, Repr

/-- What a time transfer gives of one clock of the neighbour (R357): its value now in 2^−32 ns, before the ASYMMETRY
correction, and its increment per cycle in 2^−32 ns. -/
structure ClockTime where
  value : BitVec 112
  inc : BitVec 64
deriving DecidableEq, Repr

/-- One constructor for every row of the command table: what comes to the block from outside, and what its units do on their
own. Operands are what the row carries, or what the outside adds to it (an outcome, a received frame). -/
inductive Instr where
  /-- R87: Common GET verb of any class reads the parameters named by the entries of an object. -/
  | verbGet (cls : Byte) (q : Req)
  /-- R88: Common SET verb stages every parameter entry of an object into the caller's draft, or stages none of them. -/
  | verbSet (cls : Byte) (q : Req)
  /-- R89: Common LIST verb returns up to 250 occupied indices of an object type from a start index. -/
  | verbList (cls : Byte) (q : Req)
  /-- R89: Common STATS verb returns the object's counters, all read from one instant. -/
  | verbStats (cls : Byte) (q : Req)
  /-- R89: Common CLEAR_STATS verb clears the object's counters. -/
  | clearStats (cls : Byte) (q : Req)
  /-- R104: Returns identity, variant, versions, epoch, role and the caller's client number. -/
  | deckIdentify (q : Req)
  /-- R105: Resets the Deck with scope FULL or CONFIG after checking CONFIRM. -/
  | deckReset (q : Req)
  /-- R108: Stages mailboxes, transport, weight and rights masks of a client. -/
  | deckClientSet (q : Req)
  /-- R78: Collects a ticket's final status and payload and frees the ticket, or answers PENDING. -/
  | deckTicketStatus (q : Req)
  /-- R79: Aborts a running ticket under its command's force-disable rule. -/
  | deckTicketAbort (q : Req)
  /-- R116: Copies a firmware image into the inactive bank and checks its header as the image arrives. -/
  | deckFwLoad (q : Req)
  /-- R116: Verifies the loaded firmware under R40 and against the REQUIRES field of the configuration in force. -/
  | deckFwVerify (q : Req)
  /-- R51: Switches execution to the verified firmware bank, with FORCE discarding drafts and aborting tickets. -/
  | deckFwSwitch (q : Req)
  /-- R50: Writes the running firmware into the non-booted flash slot with a higher GENERATION and clears that slot's attempt count. -/
  | deckFwProgram (q : Req)
  /-- R116: Verifies a configuration image and writes it to the configuration slot with the lower GENERATION. -/
  | deckConfigProgram (q : Req)
  /-- R103: Writes data into the SPI client's segment buffer. -/
  | deckSegWrite (q : Req)
  /-- R103: Runs an inner command on the segment buffer as if BULK pointed at it. -/
  | deckSegExec (q : Req)
  /-- R103: Reads bytes from the segment buffer. -/
  | deckSegRead (q : Req)
  /-- R392: Clears the caller's hold on a Span and, with NOW, ends keep-alive demand at once. -/
  | spanSleepReq (q : Req)
  /-- R392: Sets the caller's hold on a Span and wakes the Span if it is asleep or entering sleep. -/
  | spanWakeReq (q : Req)
  /-- R407: Returns a Span's consensus state, flags, holds and remaining timer times. -/
  | spanState (q : Req)
  /-- R400: Reads wake records from the Brim die, starting at FROM_SEQ. -/
  | spanWakeSources (q : Req)
  /-- R403: Returns stay-awake log entries, node accounts or client accounts of a Span. -/
  | spanStayAwakeLog (q : Req)
  /-- R109: Stages the move of a Channel into a Span while both Spans are awake. -/
  | spanMemberSet (q : Req)
  /-- R110: Enables a Channel and starts its link-up, transceiver command or role. -/
  | chanEnable (q : Req)
  /-- R111: Drains or force-disables a Channel until ENABLED reads 0. -/
  | chanDisable (q : Req)
  /-- R113: Returns the kind, enable, link, Span and status words of a Channel. -/
  | chanLinkState (q : Req)
  /-- R112: Commands an integrated CAN transceiver into a mode through the Brim die. -/
  | chanXcvrMode (fails : Bool) (q : Req)
  /-- R149: Stages the wake pattern, mask and length of a port's matcher. -/
  | ethWakePatternSet (q : Req)
  /-- R142: Ends the pause-storm state of the classes in a mask. -/
  | ethPauseStormClear (q : Req)
  /-- R152: Reads a register of an external PHY over an MDIO master. -/
  | ethMdioRead (q : Req)
  /-- R152: Writes a register of an external PHY over an MDIO master. -/
  | ethMdioWrite (q : Req)
  /-- R176: Starts or hastens bus-off recovery of a CAN Channel. -/
  | canBusOffRecover (q : Req)
  /-- R177: Schedules entry into, or exit from, restricted operation of a CAN Lane. -/
  | canRestrictedSet (q : Req)
  /-- R188: Sends one frame from firmware into the Channel's class queue. -/
  | canTxFrame (q : Req)
  /-- R114: Arms one frame in the Channel's transmit-at-time comparator. -/
  | canTxAtTime (q : Req)
  /-- R393: Stages the selective-wake ID and data masks of a CAN Channel. -/
  | canSwakeSet (q : Req)
  /-- R113: Returns the error counters, status and consecutive NO_ACK count of a CAN Channel. -/
  | canErrorState (q : Req)
  /-- R197: Stages a LIN schedule table. -/
  | linScheduleSet (q : Req)
  /-- R200: Runs or stops a schedule table from the end of the current slot. -/
  | linScheduleSelect (q : Req)
  /-- R201: Sends the LIN sleep command at the end of the current slot and stops the schedule. -/
  | linGotoSleep (q : Req)
  /-- R201: Drives a dominant wake-up pulse of WAKEUP_PULSE at once. -/
  | linWakeupSend (q : Req)
  /-- R195: Stages the LIN frame table of directions, checksums and lengths. -/
  | linResponseSet (q : Req)
  /-- R230: Stages a static FDB entry in its bucket. -/
  | fdbAddStatic (q : Req)
  /-- R230: Stages the deletion of a static FDB entry. -/
  | fdbDelete (q : Req)
  /-- R229: Removes learnt entries by port mask and VLAN, visiting buckets in ascending order. -/
  | fdbFlush (q : Req)
  /-- R230: Looks up a MAC address and FID and returns the index and the entry. -/
  | fdbLookup (q : Req)
  /-- R227: Stages the ageing period. -/
  | fdbAgeingSet (q : Req)
  /-- R226: Stages learning enable and learnt-entry limit of a port. -/
  | fdbLearnSet (q : Req)
  /-- R93: Opens a draft and returns its handle. -/
  | routeDraftOpen (q : Req)
  /-- R96: Validates a draft and writes it into shadow entries to switch a new epoch. -/
  | routeCommit (q : Req)
  /-- R118: Discards a draft of the caller. -/
  | routeDraftDiscard (q : Req)
  /-- R118: Returns the size, idle time and changed objects of a draft. -/
  | routeDraftStatus (q : Req)
  /-- R118: Returns the epoch, COMMIT_ID and stamp of the last switch. -/
  | routeEpoch (q : Req)
  /-- R232: Stages route indices for consecutive IDs of a CAN direct table. -/
  | routeDirectSet (q : Req)
  /-- R234: Stages the insert or delete of a 29-bit ID hash entry. -/
  | routeHashSet (q : Req)
  /-- R240: Stages a Fallback route entry. -/
  | routeFallbackSet (q : Req)
  /-- R291: Stages signal-map instructions into the program store. -/
  | sigProgramLoad (q : Req)
  /-- R296: Stages PDU definitions. -/
  | sigPduSet (q : Req)
  /-- R292: Stages signal definitions. -/
  | sigSignalSet (q : Req)
  /-- R295: Returns consistent signal states. -/
  | sigSignalRead (q : Req)
  /-- R295: Writes a signal value as an injected accepted write. -/
  | sigSignalInject (q : Req)
  /-- R305: Evaluates the EDF admission test and returns slack and bounds. -/
  | sigAdmission (q : Req)
  /-- R320: Stages a port's admin gate list. -/
  | qosGateListSet (q : Req)
  /-- R328: Returns the operational and pending gate list state of a port. -/
  | qosGateState (q : Req)
  /-- R317: Stages a credit-based shaper of a port class. -/
  | qosShaperSet (q : Req)
  /-- R329: Stages flow meter entries. -/
  | qosMeterSet (q : Req)
  /-- R255: Stages Keystone, alpha and reserved-minimum parameters in one request. -/
  | qosAdmissionSet (q : Req)
  /-- R333: Stages depth and sojourn histogram sampling of a queue. -/
  | qosHistogramSet (q : Req)
  /-- R335: Returns samples and histogram bins from one instant and clears them if asked. -/
  | qosHistogramRead (q : Req)
  /-- R340: Stages gPTP domain, working clock, capture and port timing parameters. -/
  | timeDomainSet (q : Req)
  /-- R359: Returns clock states, offsets, rates and slew left. -/
  | timeStatus (q : Req)
  /-- R347: Moves the working clock to a locked domain, bleeding or stepping. -/
  | timeWorkingSelect (q : Req)
  /-- R353: Stages a timed output. -/
  | timeOutputSet (q : Req)
  /-- R356: Removes and returns the oldest capture records converted at the read. -/
  | timeCaptureRead (q : Req)
  /-- R416: Installs a key, plaintext or wrapped, into an empty slot with its policy. -/
  | secKeyInstall (fails : Bool) (q : Req)
  /-- R418: Erases a key slot, invalidating its persistent copy first. -/
  | secKeyErase (fails : Bool) (q : Req)
  /-- R422: Installs a MACsec transmit or receive SA. -/
  | secSaInstall (q : Req)
  /-- R423: Takes a MACsec SA out of use after the frame in progress. -/
  | secSaRetire (q : Req)
  /-- R430: Submits a bulk cipher, hash or random job. -/
  | secJobSubmit (q : Req)
  /-- R435: Aborts a bulk job and zeroes its output. -/
  | secJobAbort (q : Req)
  /-- R409: Returns the lifecycle state. -/
  | secLifecycle (q : Req)
  /-- R410: Burns the fuses of a lifecycle transition or of a key revocation. -/
  | secLifecycleAdvance (key : Fin 4) (q : Req)
  /-- R445: Repeats self-test steps 3 to 7 on demand. -/
  | secSelftest (q : Req)
  /-- R447: Zeroises slots, counters, contexts or DRBG state by scope. -/
  | secZeroise (q : Req)
  /-- R412: Issues a challenge or opens debug scopes after verifying a signature. -/
  | secDebugUnlock (phase1 : Bool) (q : Req)
  /-- R441: Sets a CAN freshness counter VALID with a value. -/
  | secFreshnessSet (q : Req)
  /-- R107: Binds an event queue to targets, priority, vector and escalation timeout. -/
  | evtBind (q : Req)
  /-- R459: Sets count and time coalescing of an event queue. -/
  | evtCoalesceSet (q : Req)
  /-- R452: Sets or ends a source's client route to a queue. -/
  | evtSourceEnable (q : Req)
  /-- R468: Returns the binding, state, fill and coalescing of a queue. -/
  | evtQueueState (q : Req)
  /-- R468: Raises a source once as an injected occurrence. -/
  | evtInject (q : Req)
  /-- R492: Trains the storage link and configures the NVMe controller. -/
  | storeAttach (q : Req)
  /-- R492: Stops the recorder, shuts down the NVMe device and disables the link. -/
  | storeDetach (q : Req)
  /-- R496: Starts the trip recorder, restarting or continuing after the highest SEQ. -/
  | storeRecorderStart (q : Req)
  /-- R496: Closes the current block and writes every buffered block. -/
  | storeRecorderStop (q : Req)
  /-- R493: Reads logical blocks into a bulk buffer, optionally decrypting with XTS. -/
  | storeRead (q : Req)
  /-- R493: Writes logical blocks from a bulk buffer, optionally encrypting with XTS. -/
  | storeWrite (q : Req)
  /-- R494: Writes an image to the staging region, verifies it and optionally loads it. -/
  | storeStageImage (q : Req)
  /-- R497: Returns storage state, link, health and recorder position. -/
  | storeHealth (q : Req)
  /-- R523: Returns role, topology, reachability and per-Deck presence. -/
  | cascTopology (q : Req)
  /-- R509: Stages the designation of the ring standby link. -/
  | cascStandbyLinkSet (q : Req)
  /-- R520: Ends the quarantine of a Deck, accepting its values into the ledger. -/
  | cascHeal (q : Req)
  /-- R523: Returns split records, oldest first. -/
  | cascSplitLog (q : Req)
  /-- R106: Reads BAR0 registers, Brim registers or table entries without side effects. -/
  | diagRead (q : Req)
  /-- R119: Writes BAR0 or Brim registers word by word. -/
  | diagWrite (q : Req)
  /-- R120: Dumps table entries from one epoch into a bulk buffer. -/
  | diagTableDump (q : Req)
  /-- R121: Runs a loopback test on a disabled Channel. -/
  | diagLoopback (q : Req)
  /-- R495: Stages mirroring of a route or Channel to the recorder or to a port. -/
  | diagMirrorSet (q : Req)
  /-- R272: Returns leaked-buffer audit results. -/
  | diagAuditStatus (q : Req)
  /-- R531: Returns fault collection unit, watchdog and latch registers from one instant. -/
  | faultStatus (q : Req)
  /-- R530: Clears latched fault inputs whose conditions are false. -/
  | faultClear (q : Req)
  /-- R528: Stages the reaction of a fault input, no weaker than its least reaction. -/
  | faultReactionSet (q : Req)
  /-- R530: Raises a fault input for a duration for test. -/
  | faultInject (q : Req)
  /-- R531: Reads fault log entries from the Brim die. -/
  | faultLogRead (q : Req)
  /-- R533: Stages the watchdog window. -/
  | faultWatchdogSet (q : Req)
  /-- R6: A host write to a register field that has no row of its own stores, clears or sets the field under its access code. -/
  | registerWrite (bar4 : Bool) (off : BitVec 24) (len : BitVec 13) (req : BitVec 16) (w : Word) (fault : Fin 3)
  /-- R29: A host write into BAR2 is stored in a writable area or ignored and logged as READ_ONLY. -/
  | bar2Write (off : BitVec 26) (req : BitVec 16) (data : List Byte) (fault : Fin 3)
  /-- R472: An inbound read whose internal target fails completes with Completer Abort. -/
  | inboundReadAbort (bar2 : Bool) (off : BitVec 26)
  /-- R154: A read of a counter's low word latches its high word. -/
  | counterLowRead (bar : Fin 3) (off : BitVec 26) (len : BitVec 13)
  /-- R338: A read of STRAND_LO latches STRAND_HI. -/
  | strandLoRead
  /-- R282: A host read of Q_PEAK returns the peak occupancy and clears it. -/
  | qPeakRead (q : Fin 2048)
  /-- R310: A host read of SGE_READY returns the ready count and clears PEAK. -/
  | sgeReadyRead
  /-- R377: A host read of THERM_PEAK returns the peak temperatures and clears them. -/
  | thermPeakRead
  /-- R485: A host read of HR_DROPS returns the ring's drop count and clears it. -/
  | hrDropsRead (r : Fin 64)
  /-- R470: A host read of EVQ_DROPS returns the payload drop count and clears it. -/
  | evqDropsRead (q : Fin 64)
  /-- R55: A doorbell write moves an idle mailbox to POSTED, or is refused with PROTO_ERR. -/
  | mbDoorbell (n : Fin 16) (spi : Bool) (w : Word)
  /-- R55: Writing ACK in RESPONSE returns the mailbox to IDLE. -/
  | mbAck (n : Fin 16) (spi : Bool)
  /-- R55: Writing CANCEL in POSTED withdraws the request and sets CANCELLED. -/
  | mbCancel (n : Fin 16) (spi : Bool)
  /-- R73: Firmware takes the next POSTED request in weighted round order and writes its response within one slice. -/
  | serviceSlice (x : Ext)
  /-- R78: A PENDING command reaches its final status, stores its result and raises its completion event if asked. -/
  | ticketComplete (client : Fin 8) (num : Word) (x : Ext)
  /-- R94: A draft unused for 60 s is discarded, and the draft-expired event is raised. -/
  | draftIdleExpiry (handle : Word)
  /-- R66: An SPI write frame writes words into a mailbox after the CRC check and returns a status byte. -/
  | spiWriteFrame (frame : List Byte)
  /-- R66: An SPI read frame returns a status byte, words of a mailbox and a CRC. -/
  | spiReadFrame (frame : List Byte)
  /-- R68: An SPI Release frame makes the SPI client lost. -/
  | spiReleaseFrame
  /-- R68: CS_N rising early discards or applies a write by position, and changes nothing during a read. -/
  | spiCsEarlyRise (frame : List Byte)
  /-- R97: After any wait for the old epoch to drain, the commit re-checks and switches the epoch in one fabric cycle. -/
  | epochSwitch
  /-- R97: The old entries are released once every lookup latched under the old epoch has finished. -/
  | oldEpochRelease
  /-- R105: After DONE of a FULL reset, the 1 ms wait for ACK ends and the Crown die is reset. -/
  | deckResetAckTimeout
  /-- R31: VBAT below 4.2 V for 10 µs resets the whole device and moves it to Off. -/
  | vbatPowerOnReset
  /-- R36: VBAT above 4.6 V for 100 µs releases the Brim die from reset and moves the device to Waking. -/
  | brimResetRelease
  /-- R36: Brim non-volatile memory is loaded, and INH outputs and Causeway pairs start. -/
  | brimNvmLoaded
  /-- R31: A Crown supply out of tolerance for more than 5 µs resets the Crown die. -/
  | crownSupplyFault
  /-- R31: RESET_N low for at least 1 µs resets the Crown die and leaves Degraded. -/
  | boardReset
  /-- R32: PERST_N or a hot reset resets the endpoint configuration and releases PCIe clients' mailboxes. -/
  | pcieReset
  /-- R545: VCC5 leaving tolerance keeps integrated CAN transceivers in standby and stops Causeway repetition. -/
  | vcc5Loss
  /-- R36: All Crown supplies come into tolerance at SG, and the Crown die leaves reset. -/
  | suppliesGood
  /-- R34: The boot ROM takes a three-sample strap attempt, accepting agreeing values or retrying. -/
  | strapSample (a : BitVec 5) (b : BitVec 5) (c : BitVec 5)
  /-- R36: The 25 MHz crystal is stable and the PLLs lock, starting the fabric clock and the Strand counter. -/
  | crownClocksStable
  /-- R534: Boot BIST finishes with repair, or fails with BIST_FAIL. -/
  | bootBistDone (rows : Fin 4) (logic : Bool)
  /-- R444: Hatbox start-up self-tests finish, restoring persistent slots, or fail with SELFTEST_FAIL. -/
  | hatboxSelftestDone (ok : Bool)
  /-- R45: The first-light section is verified and its tables are written, or it is rejected. -/
  | firstLightVerify (flashOk : Bool)
  /-- R41: A firmware slot is verified and the Milliner pairs are released, or the other slot is tried. -/
  | firmwareImageVerify (flashOk : Bool)
  /-- R37: Firmware runs, mailboxes become ready, and doorbells rung earlier are served. -/
  | firmwareReady
  /-- R46: Firmware applies the configuration chunks as one draft and commits them as epoch 1. -/
  | configImageApply (flashOk : Bool)
  /-- R39: A Causeway pair is handed to the Crown die when both buses show 11 recessive bits. -/
  | causewayHandover (p : Fin 4)
  /-- R39: A pair without an idle instant within 10 ms is handed over at the 10 ms mark with a handover event. -/
  | causewayHandoverTimeout (p : Fin 4)
  /-- R52: The new firmware reports ready after a switchover and DECK.FW_SWITCH completes DONE. -/
  | switchReady
  /-- R53: Without readiness within 2 ms the switch stub returns to the old bank with SWITCH_FAILED. -/
  | switchReadyTimeout
  /-- R12: A Hatpin reply arrives and completes the access, or is retried on a CRC failure. -/
  | hatpinReply (crcOk : Bool)
  /-- R12: A Hatpin transfer draws no reply within 2 µs and is retried or, at the fourth failure, fails. -/
  | hatpinReplyTimeout
  /-- R128: A received Ethernet frame passes the MAC checks and reaches the decision pipeline, MAC control or gPTP. -/
  | ethFrameReceive (p : Fin 20) (frame : List Byte) (codeErr : Bool) (fragErr : Bool) (express : Bool) (lpi : Byte)
  /-- R134: Link-down clears LINK_UP and pause state and starts flushing the port's queues. -/
  | linkDown (p : Fin 20) (fault : Fin 3)
  /-- R135: The link-up conditions of the mode come to hold and LINK_HOLD starts. -/
  | linkUpConditions (p : Fin 20) (speed : Fin 3) (half : Bool)
  /-- R135: LINK_HOLD elapses without a break and, once the flush is complete, LINK_UP is set. -/
  | linkHoldExpiry (p : Fin 20)
  /-- R141: A received pause timer reaches 0 and transmission of its classes resumes. -/
  | pauseTimerExpiry (p : Fin 12) (c : Fin 8)
  /-- R138: A pause frame is sent again for classes still asserted. -/
  | pauseRefresh (p : Fin 12)
  /-- R142: A class held by pause for PAUSE_WATCHDOG enters pause-storm state. -/
  | pauseWatchdogExpiry (p : Fin 12) (c : Fin 8)
  /-- R142: STORM_HOLD ends and the class honours pause again. -/
  | stormHoldExpiry (p : Fin 12) (c : Fin 8)
  /-- R145: PLCA_OK falls and the port transmits under CSMA/CD. -/
  | plcaFallback (i : Fin 8)
  /-- R146: A collision on a T1S port starts back-off, or discards the frame at the limit or when late. -/
  | collision (i : Fin 8) (late : Bool) (logical : Bool)
  /-- R146: The back-off time ends and the frame is attempted again. -/
  | backoffExpiry (i : Fin 8)
  /-- R147: A preemption verify attempt times out and is repeated, or verification fails. -/
  | verifyTimeExpiry (p : Fin 12)
  /-- R147: A respond mPacket arrives and preemption becomes active. -/
  | verifyRespondReceive (p : Fin 12)
  /-- R150: An armed matcher matches a frame, writes a wake record and wakes the Span. -/
  | wakePatternMatch (p : Fin 12) (frame : List Byte)
  /-- R152: An MDIO access completes and the next access on the master starts. -/
  | mdioAccessDone (m : Fin 2) (data : BitVec 16)
  /-- R315: At a frame boundary a port chooses among candidate queues by express, group and WFQ tag. -/
  | egressSelect (p : Fin 22) (turn : Bool)
  /-- R252: A copy's transmission ends and the copy is released. -/
  | frameTransmitComplete (p : Fin 22)
  /-- R350: The host advances the transmit timestamp queue's read pointer. -/
  | tsqTailWrite (p : Fin 22) (w : Word)
  /-- R111: A drain disable of an Ethernet or Pier port continues as force after 100 ms. -/
  | ethDrainTimeout (p : Fin 22)
  /-- R157: A CAN Lane receives a frame to its end and acknowledges it. -/
  | canFrameReceive (n : Fin 64) (f : CanFrame) (age : BitVec 32) (u : Upset)
  /-- R168: The class scheduler moves the head of the highest class into the Lane FIFO while fewer than K entries wait. -/
  | classSchedulerFeed (n : Fin 64) (upset : Fin 7)
  /-- R168: The Lane offers its FIFO head to the bus at an SOF opportunity. -/
  | canAttemptStart (n : Fin 64)
  /-- R171: An attempt ends in success, an error or lost arbitration, updating counters, retries and the FIFO. -/
  | canAttemptEnd (n : Fin 64) (outcome : Fin 8) (dataPhase : Bool) (quiet : Bool)
  /-- R176: RECOVER_DELAY ends and the bus-off recovery count starts. -/
  | recoverDelayExpiry (n : Fin 64)
  /-- R176: 128 occurrences of 11 recessive bits end bus-off and unfreeze the FIFO. -/
  | recoveryCountDone (n : Fin 64)
  /-- R180: The Strand counter reaches AT_TIME and the armed frame goes ahead of the FIFO head. -/
  | atTimeRelease (n : Fin 64)
  /-- R180: A transmit-at-time frame whose window passes ends with LATE. -/
  | atTimeLate (n : Fin 64)
  /-- R165: A commanded transceiver mode is applied at the end of the frame on the bus. -/
  | xcvrModeApply (n : Fin 16)
  /-- R164: A transceiver reaches its commanded mode and XCVR_MODE reads the new code. -/
  | xcvrModeReached (n : Fin 16)
  /-- R166: A CAN transceiver releases the bus after 2.5 ms of continuous dominant TXD. -/
  | txdDominantTimeout (n : Fin 16)
  /-- R188: The device takes the transmit record at TXQ_TAIL once its class queue admits it. -/
  | hostTxRecordTake (n : Fin 64)
  /-- R186: The host advances the receive queue's consumer pointer, checked for order. -/
  | rxqTailWrite (n : Fin 64) (w : Word)
  /-- R186: The host advances the transmit ring's producer pointer, checked for order. -/
  | txqHeadWrite (n : Fin 64) (w : Word)
  /-- R186: The host advances the completion queue's consumer pointer, checked for order. -/
  | txcTailWrite (n : Fin 64) (w : Word)
  /-- R193: A CAN drain disable completes when queues, FIFO and comparator are empty. -/
  | canDrainDone (n : Fin 64)
  /-- R193: DRAIN_TIMEOUT passes and the drain continues as force. -/
  | canDrainTimeout (n : Fin 64)
  /-- R199: A commander starts the header of the next schedule slot. -/
  | linSlotBoundary (n : Fin 16) (upset : Fin 7)
  /-- R202: A responder answers a received header from its publish buffer or queue 1. -/
  | linHeaderReceive (n : Fin 16) (id : BitVec 6) (err : Fin 4) (age : BitVec 32) (upset : Fin 7)
  /-- R203: A complete subscribed LIN response is received, stamped and looked up. -/
  | linResponseReceive (n : Fin 16) (data : List Byte) (kind : Fin 4) (u : Upset)
  /-- R203: A subscribed response that is not complete in time counts NO_RESPONSE. -/
  | linResponseTimeout (n : Fin 16)
  /-- R202: Four seconds without bus activity set BUS_IDLE. -/
  | linBusIdleTimeout (n : Fin 16)
  /-- R201: The wake-up pulse ends and WAKEUP_SENT is set. -/
  | wakeupPulseEnd (n : Fin 16)
  /-- R201: A commander restarts the last table 100 ms after a wake-up pulse. -/
  | linScheduleRestart (n : Fin 16)
  /-- R206: A LIN transceiver releases the bus after 20 ms of dominant TXD. -/
  | linTxdTimeout (n : Fin 8)
  /-- R111: A LIN drain disable continues as force after 100 ms. -/
  | linDrainTimeout (n : Fin 16)
  /-- R196: A frame taken from LIN queue 0 overwrites the publish buffer of its ID. -/
  | publishBufferWrite (n : Fin 16) (upset : Fin 7)
  /-- R225: Firmware acts on a learn record by rewriting, adding or replacing an FDB entry. -/
  | learnRecordProcess
  /-- R227: Every PERIOD/2 firmware clears HIT bits and removes stale learnt entries. -/
  | ageingVisit
  /-- R229: Firmware removes the learnt entries that name a port that went down. -/
  | linkDownFdbRemoval (p : Fin 22)
  /-- R221: No frame passing for RESET_TIME resets the recovery history. -/
  | frerResetTimeout (f : Fin 1024)
  /-- R209: Firmware rewrites an entry reported uncorrectable from its SRAM copy. -/
  | tableEccRepair
  /-- R275: Both pipelines compute a decision, which is compared and passed to the queue engine. -/
  | twinDecision (u : Upset)
  /-- R279: A shadow interval without a hard mismatch ends Fallback operation. -/
  | shadowIntervalEnd
  /-- R256: The write arbiter grants the oldest complete cell and writes it to a bank. -/
  | cellWrite (link : Fin 5)
  /-- R257: The read arbiter grants the oldest read request and reads a cell to its egress unit. -/
  | cellRead (upset : Fin 7)
  /-- R268: A flush scan has passed every descriptor once since a flush began, and that flush ends. -/
  | flushScanEnd
  /-- R269: A draining queue becomes empty and the drain completes. -/
  | queueDrainDone (q : Fin 2048)
  /-- R269: A queue still draining 100 ms after the epoch continues as force. -/
  | queueDrainTimeout (q : Fin 2048)
  /-- R271: The audit checks a cell's owner and marks the cell suspect, reclaims it or clears its mark. -/
  | auditVisit (c : Fin 262144)
  /-- R272: At the end of an audit pass the descriptor counts are checked. -/
  | auditPassEnd (off : BitVec 17)
  /-- R284: The SGE feeder moves a copy from an F[25] queue into the ready list, or drops the job. -/
  | sgeFeederMove (upset : Fin 7)
  /-- R285: A free executor takes the ready job with the earliest deadline. -/
  | sgeDispatch (e : Fin 16)
  /-- R288: ENTRY starts a program and gives its deadline. -/
  | sgeEntry (e : Fin 16) (fault : Bool)
  /-- R293: UNPACK reads a field and writes it to a signal, unless the write is stale. -/
  | sgeUnpack (e : Fin 16) (fault : Bool)
  /-- R288: PACK writes a signal's value and update bit into the PDU field. -/
  | sgePack (e : Fin 16) (fault : Bool)
  /-- R302: CHECK applies the length, CRC and counter tests and ends the job at a failure. -/
  | sgeCheck (e : Fin 16) (fault : Bool)
  /-- R288: MATCH skips instructions when the input's ID or IDE differs. -/
  | sgeMatch (e : Fin 16) (fault : Bool)
  /-- R288: JUMP continues at its target. -/
  | sgeJump (e : Fin 16) (fault : Bool)
  /-- R288: PACKK writes a constant into the PDU field. -/
  | sgePackk (e : Fin 16) (fault : Bool)
  /-- R298: TRIG triggers a transmit PDU under its mode and clears CHANGED if asked. -/
  | sgeTrig (e : Fin 16) (fault : Bool)
  /-- R288: END ends the job, enqueuing a felted PDU and checking the deadline. -/
  | sgeEnd (e : Fin 16) (fault : Bool)
  /-- R294: The millisecond scanner times out signals and substitutes or triggers as configured. -/
  | signalTimeoutScan
  /-- R300: A PDU timer reaches a boundary and releases a felting job. -/
  | pduTimerRelease (t : Fin 8192)
  /-- R299: The end of MIN_GAP releases one job for the deferred triggers. -/
  | minGapEnd (p : Fin 16384)
  /-- R307: The bundler takes a message into the open bundle, or opens or closes one. -/
  | bundlerTakeMessage (upset : Fin 7)
  /-- R307: A bundle closes at WINDOW and its IEEE 1722 frame is enqueued. -/
  | bundleWindowClose (b : Fin 1249)
  /-- R308: The unbundler parses an IEEE 1722 frame into CAN and LIN records and routes them. -/
  | unbundleFrame (u : Upset)
  /-- R309: The SGE drain or force ends, DRAIN_DONE is set and the SGE island is gated. -/
  | sgeDrainDone
  /-- R322: A gate list entry begins and its gate states take effect. -/
  | gateEntryStart (p : Fin 22)
  /-- R325: A gate cycle starts, with the pending-list test for cut or extended cycles. -/
  | gateCycleStart (p : Fin 22)
  /-- R324: At C the pending gate list becomes operational. -/
  | gateChangeTime (p : Fin 22)
  /-- R334: A queue's depth and sojourn are sampled into histogram bins. -/
  | histogramSample (q : Fin 2048)
  /-- R341: Firmware handles a received gPTP message: Sync, Follow_Up, Announce or Pdelay. -/
  | gptpMessageReceive (p : Fin 12) (num : BitVec 7) (kind : Fin 6) (st : BitVec 48) (value : BitVec 96)
  /-- R343: No Sync for three intervals makes the domain LOST. -/
  | syncWatchdogExpiry (d : Fin 2)
  /-- R343: No Announce for three intervals makes the domain LOST. -/
  | announceTimeout (d : Fin 2)
  /-- R341: A master port's sync or announce interval elapses and the message is sent. -/
  | syncInterval (d : Fin 2) (announce : Bool)
  /-- R344: The PRIMARY domain locked for REVERT_HOLD becomes the source again. -/
  | revertHoldExpiry
  /-- R345: The bled offset reaches 0 and the working clock follows its source. -/
  | slewDone
  /-- R348: A conversion history entry is written every millisecond. -/
  | historyEntryWrite
  /-- R349: Writing GO to CONV_SEL starts a stamp conversion. -/
  | convGo (sel : BitVec 8)
  /-- R349: The conversion result and status become readable. -/
  | conversionDone
  /-- R358: Writing TIME_SNAP copies the Strand counter and all three clocks in one cycle. -/
  | timeSnap
  /-- R354: A timed output reaches START + n × PERIOD and drives its leading edge. -/
  | timedOutputLeadingEdge (i : Fin 4)
  /-- R354: WIDTH after the leading edge the output returns to idle. -/
  | timedOutputTrailingEdge (i : Fin 4)
  /-- R355: A selected edge on a capture input is recorded, or dropped. -/
  | captureEdge (i : Fin 8) (falling : Bool)
  /-- R361: XOSC32 becomes stable and a held Parked request takes effect. -/
  | xosc32Stable
  /-- R361: XOSC32 stopping while Parked moves the device to Waking with CRYSTAL_FAIL. -/
  | xosc32Stop
  /-- R366: The low-power entry conditions hold for ENTRY_HOLD and firmware requests Listening or Parked. -/
  | entryHoldExpiry (wakeFirst : Bool)
  /-- R368: VDD_CORE falls below 10% or 20 ms pass and the device is Parked. -/
  | parkSupplyFall
  /-- R371: The Core island clocks stop after the main PLLs, entering Listening. -/
  | coreClockStop
  /-- R372: A wake latched in Listening restarts the main PLLs and resumes the Core island. -/
  | listeningWake
  /-- R364: Core island clocks resume, the network clocks are advanced and firmware resumes. -/
  | coreClocksResume
  /-- R367: A wake, timer or crystal failure in Parked turns the role-1 INH on and boots the Crown die. -/
  | parkedWake
  /-- R367: WAKE_TIMER expires in Listening or Parked and the device wakes. -/
  | wakeTimerExpiry
  /-- R367: LISTEN_TO_PARK expires and the Brim removes the Crown supplies. -/
  | listenToParkExpiry
  /-- R367: Crown supplies not in tolerance within 50 ms move the device to Degraded. -/
  | supplyQualifyTimeout
  /-- R373: After 100 ms off, Degraded retries the supplies, unless the retry limit is reached. -/
  | supplyRetryExpiry
  /-- R373: After cooling and 1 s, Degraded retries the Crown die. -/
  | thermalRetryExpiry (brimTemp : Byte)
  /-- R375: The sensors are read every 1 ms and the thermal level rises or the device goes Degraded. -/
  | thermalRead (crown : Byte) (brimT : Byte)
  /-- R375: Temperature 5 °C below threshold for 100 ms lowers the thermal level. -/
  | thermalFallTimer
  /-- R370: Firmware writes committed INH, wake or Causeway parameters to Brim non-volatile memory. -/
  | inhNvmWrite (fails : Bool)
  /-- R382: IDLE_TIME passes without demanding keep-alives and keep-alive demand ends. -/
  | idleTimerExpiry (i : Fin 16)
  /-- R383: PREPARE_TIME expires and the Span enters ENTERING. -/
  | prepareTimeExpiry (i : Fin 16)
  /-- R383: FALSE_WAKE expires and the Span re-enters ENTERING or stays AWAKE. -/
  | falseWakeExpiry (i : Fin 16)
  /-- R385: The sleep-entry drain ends by emptiness or ENTRY_DRAIN, discarding leftovers and arming wake sources. -/
  | entryDrainEnd (i : Fin 16)
  /-- R385: The Brim die confirms arming and transceivers are commanded to sleep. -/
  | armingConfirmed (i : Fin 16) (fails : Bool)
  /-- R389: A waking Span's Lane islands are powered and transceivers commanded to their awake modes. -/
  | lanePowerUp (i : Fin 16)
  /-- R391: The device sends its own keep-alive on every CAN Channel of the Span. -/
  | kaTxPeriodExpiry (i : Fin 16)
  /-- R401: An awake period lasting a further LONG_AWAKE writes a log entry. -/
  | longAwakeExpiry (i : Fin 16)
  /-- R394: A selective-wake decoder matches a frame and latches a wake. -/
  | swakeFrame (n : Fin 16) (kind : Fin 3) (id : BitVec 30) (rtr : Bool) (dlc : BitVec 4) (data : BitVec 64)
  /-- R394: A transceiver latches a wake on a wake-up pattern. -/
  | wup (n : Fin 16)
  /-- R395: A filtered edge on a WAKE pin wakes the Spans that name it. -/
  | wakePin (pin : Fin 8) (level : Bool)
  /-- R396: A dominant level of 150 µs on a sleeping LIN transceiver latches a wake. -/
  | linWake (n : Fin 8)
  /-- R396: Bus activity of 250 µs on a sleeping T1S PHY latches a wake. -/
  | t1sWake (i : Fin 8)
  /-- R404: Deck 0 or a member acts on a Viaduct Span demand report or decision. -/
  | viaductSpanMessage (i : Fin 16) (deck : Fin 4) (kind : Fin 7) (arg : Byte)
  /-- R427: A bulk engine runs one quantum of the class that its round grants. -/
  | bulkQuantum (e : Fin 7) (upset : Fin 4)
  /-- R439: A CAN verify job checks length, freshness, window and MAC. -/
  | canAuthVerifyJob (keyFault : Bool)
  /-- R440: A CAN generate job appends freshness and MAC into new cells. -/
  | canAuthGenerateJob (keyFault : Bool)
  /-- R445: A continuous entropy test fails and the DRBG stops. -/
  | entropyFail
  /-- R445: Every 100 ms the Hatbox retries the entropy start-up tests. -/
  | entropyRetry (fails : Bool)
  /-- R411: An unused challenge expires after 60 s. -/
  | challengeExpiry
  /-- R447: Persistent key copies are invalidated after zeroisation. -/
  | persistInvalidate (fails : Bool)
  /-- R450: The event concentrator accepts a source doorbell and writes or accounts its record. -/
  | doorbellAccept (src : BitVec 12) (op : BitVec 2) (detail : BitVec 32) (pay : BitVec 96)
  /-- R459: Coalescing TIME passes and the queue enters PENDING. -/
  | coalesceTimeExpiry (q : Fin 64)
  /-- R461: A claim read takes the highest-priority pending queue of the target. -/
  | tgtClaim (t : Fin 5)
  /-- R462: A COMPLETE write resamples level routes and re-pends or idles the queue. -/
  | tgtComplete (t : Fin 5) (q : Fin 64)
  /-- R457: A read pointer write pops records, letting pending counts and armed levels write new records. -/
  | evqRdPtrWrite (q : Fin 64) (host : Bool) (w : Word)
  /-- R463: A queue unclaimed or unfinished for ESC_TIMEOUT is escalated. -/
  | escTimeoutExpiry (q : Fin 64)
  /-- R463: A target falling asleep escalates its pending queues. -/
  | targetSleepChange (t : Fin 6) (asleep : Bool)
  /-- R465: Unmasking a vector sends its message if a queue on it is pending. -/
  | msixVectorUnmask (v : Fin 64)
  /-- R477: A group of outbound writes closes and one flush read is issued. -/
  | flushGroupClose (cls : Fin 5)
  /-- R478: A flush read completes, confirming or failing its group. -/
  | flushReadCompletion (cls : Fin 5) (fails : Bool)
  /-- R478: A flush read not completed in 10 ms fails its group. -/
  | flushTimeout (cls : Fin 5)
  /-- R480: The host advances the inbound write error log's read pointer. -/
  | iwlRdWrite (w : Word)
  /-- R480: The host advances the prefetch discard log's read pointer. -/
  | pdlRdWrite (w : Word)
  /-- R484: A poller slot's period comes due and its read is issued or skipped. -/
  | pollDue (i : Fin 64)
  /-- R484: A poll read completes and the slot's source is raised on its condition. -/
  | pollReadComplete (i : Fin 64) (fails : Bool) (value : Word)
  /-- R486: The host hands ring descriptors to the device, checked for order. -/
  | hrHostPtrWrite (r : Fin 64) (w : Word)
  /-- R486: The host advances HR_SEEN, checked for order. -/
  | hrSeenWrite (r : Fin 64) (w : Word)
  /-- R486: Writing HR_CTRL enables or disables a ring and sets its size when idle. -/
  | hrCtrlWrite (r : Fin 64) (w : Word)
  /-- R487: A frame from a host receive-ring queue is written to a descriptor's buffer. -/
  | hostRxDeliver (upset : Fin 7)
  /-- R488: The device takes a transmit descriptor and admits its frame to F[22] ingress. -/
  | hostTxDescriptorFetch (ahead : Bool)
  /-- R493: An NVMe command completes for a STORE command or a recorder block. -/
  | nvmeCommandComplete (i : Fin 64) (fault : Fin 3) (data : List Byte)
  /-- R492: An unexpected storage link-down aborts STORE commands and stops the recorder. -/
  | storageLinkDown
  /-- R497: Every 10 s firmware reads the storage health log. -/
  | healthLogPoll (critWarn : Byte) (pctUsed : Byte) (temp : BitVec 16) (mediaErrors : BitVec 64)
  /-- R496: The recorder takes a mirrored copy into its current block, or drops it when the buffer is full. -/
  | recorderCopyConsume (upset : Fin 7)
  /-- R496: A full recorder block is closed, encrypted and written to the recorder region. -/
  | recorderBlockClose
  /-- R502: Signal detect on a Pier port starts bring-up. -/
  | pierSignalDetect (p : Fin 2)
  /-- R502: Block lock is reached and HELLO is sent every 100 µs. -/
  | pierBlockLock (p : Fin 2)
  /-- R511: A received HELLO is checked for rank and passed to Deck 0. -/
  | hello (p : Fin 2) (h : Hello)
  /-- R515: A received KEY_CONFIRM is verified and the link SAs are installed. -/
  | keyConfirm (p : Fin 2) (mac : BitVec 128)
  /-- R503: A received KEEPALIVE carries time transfer and acknowledges replayed units. -/
  | keepalive (p : Fin 2) (a : PierAcks) (time : List ClockTime)
  /-- R505: A received CREDIT unit returns credits per class. -/
  | credit (p : Fin 2) (back : List (Fin 11 × BitVec 16)) (a : PierAcks)
  /-- R501: A received ETH unit enters the decision pipeline as an Ethernet frame. -/
  | ethUnit (p : Fin 2) (cls : Fin 8) (src : Fin 4) (bad : Fin 6) (frame : List Byte)
  /-- R231: A received RECORD unit is routed by its REMOTE_ROUTE. -/
  | recordUnit (p : Fin 2) (cls : Fin 8) (src : Fin 4) (dst : Fin 4) (bad : Fin 6) (route : BitVec 14) (record : List Byte) (u : Upset)
  /-- R513: A received REQ unit enters a request slot or returns a stored response. -/
  | reqUnit (p : Fin 2) (src : Fin 4) (client : Fin 8) (sec : Bool) (num : BitVec 16) (lseq : BitVec 16) (cmd : BitVec 16) (q : Req)
  /-- R513: A received CPL unit completes the originating mailbox. -/
  | cplUnit (p : Fin 2) (src : Fin 4) (dst : Fin 4) (num : BitVec 16) (lseq : BitVec 16) (bulk : Bool) (off : BitVec 32) (data : List Byte)
  /-- R466: A received EVT unit enters the matching queue on Deck 0 as a payload record. -/
  | evtUnit (p : Fin 2) (src : Fin 4) (dst : Fin 4) (lseq : BitVec 16) (q : Fin 64) (rec : BitVec 128)
  /-- R502: Every 100 µs HELLO or KEEPALIVE units are sent. -/
  | pierHelloInterval (p : Fin 2)
  /-- R502: A 1 ms hold without a break brings the Pier link up and raises PEER_UP. -/
  | pierLinkHoldEnd (p : Fin 2)
  /-- R502: A failed bring-up retries every 100 ms. -/
  | bringupRetry (p : Fin 2)
  /-- R503: Missing keep-alives or lost block lock take the Pier link down. -/
  | peerLost (p : Fin 2) (lock : Bool)
  /-- R504: Unacknowledged management units are resent in order after 20 µs. -/
  | replayTimeout (p : Fin 2)
  /-- R510: At 200 ms Deck 0 fixes present and absent members. -/
  | discoveryDeadline
  /-- R517: The lowest reachable rank of the other half becomes acting master. -/
  | actingDelayExpiry
  /-- R513: A forwarded request without a path for 1 s is answered DECK_UNREACHABLE. -/
  | requestUnreachableTimeout
  /-- R527: A fault input rises and its reaction of FAULT_N, LATCH, RESET or HALT is applied. -/
  | faultInputRise (i : Fin 512) (detail : Word)
  /-- R530: A fault input's condition falls and the input clears unless latched. -/
  | faultInputFall (i : Fin 512)
  /-- R527: A lockstep mismatch of a core pair raises its fault input. -/
  | lockstepMismatch (pair : Fin 3)
  /-- R530: An injected fault's duration ends. -/
  | faultInjectEnd (i : Fin 512)
  /-- R533: Firmware writes the next token and the Brim die checks the window. -/
  | watchdogService (token : Byte) (hold : Bool) (fails : Bool)
  /-- R533: No service by CLOSE resets the Crown die and counts the booted slot's attempts. -/
  | watchdogExpiry
  /-- R533: 75% of CLOSE without service raises input 12. -/
  | watchdogWarning
  /-- R537: A repeater takes its pair when the Crown die enters reset or halts and both buses are idle. -/
  | causewayTakeover (p : Fin 4)
  /-- R538: A repeater receives a frame, calibrates and queues it for repetition. -/
  | causewayFrameReceive (p : Fin 4) (onB : Bool) (f : CanFrame)
  /-- R538: A repeater's transmit attempt ends in success, error or bus-off. -/
  | causewayAttemptEnd (p : Fin 4) (ba : Bool) (outcome : Fin 4)
  /-- R538: A repeater direction in bus-off recovers after 128 idle sequences. -/
  | causewayRecoveryDone (p : Fin 4) (ba : Bool)
  /-- R110: A CAN Lane that has seen 11 consecutive recessive bits integrates on its bus, clears INTEGRATING and starts taking part in bus traffic. -/
  | canIntegration (n : Fin 64)
  /-- R173: A CAN Lane detects a bit, stuff, form or CRC error while receiving, sends its error flag, raises REC and may change error state. -/
  | canRxError (n : Fin 64) (lec : Fin 7) (dataPhase : Bool) (dominant : Bool)
  /-- R145: The first BEACON that restores PLCA_OK returns a 10BASE-T1S port from CSMA/CD fallback to PLCA. -/
  | plcaOkRestore (i : Fin 8)
  /-- R545: VCC5 returns to tolerance, so the integrated CAN transceivers can leave standby again and Causeway pairs can repeat. -/
  | vcc5Restored
  /-- R341: On each gPTP port, every 2^LOG_PDELAY_INTERVAL s firmware sends a Pdelay request for the Common Mean Link Delay Service. -/
  | pdelayInterval (p : Fin 12)
  /-- R35: The boot ROM's recovery service takes a host request on the HOST_SEL transport, such as firmware delivered in host-loaded or recovery boot, and verifies it under R40. -/
  | recoveryServiceRequest (cmd : BitVec 16) (q : Req)
  /-- R463: The PCIe host link trains up, TR_STATUS reports its rate and width, and target 3 may cease to be asleep. -/
  | hostLinkUp (gen : Fin 5) (width : Fin 5)
  /-- R463: A host write to PCIe configuration space changes MSI-X Enable, Function Mask or Bus Master Enable, putting target 3 to sleep or waking it. -/
  | pcieConfigWrite (msixEnable : Bool) (funcMask : Bool) (busMaster : Bool) (bar0 bar2 bar4 : BitVec 64)
deriving DecidableEq, Repr
end Sys2Proof
end

