-- ==== Sys2Proof/Decode.lean ====
section
/-! DEFINITION. Words of the command table: no row of it gives bits. -/

namespace Sys2Proof

/-- The command that a word spells by the table's bits. Every row of spec/opcode_table.json has an empty list of fields, so no
word spells a command: commands come from outside through the queue. -/
def decodeTableWord (_nbits _w : Nat) : Option Instr := none

end Sys2Proof
end

