-- ==== Sys2Proof/Config.lean ====
section
/-! DEFINITION. What an implementation fixes and the spec leaves open: opaque constants, so that nothing can be proved of
their values, and every claim holds whatever they are (log entries 1 and 5). -/

namespace Sys2Proof.Config

/-- The value of draw `n` from the model's source of free values (log entry 1). -/
opaque freeValue : Nat → Nat

/-- Fused base MAC address of the device, the first of the ports' STATION_MAC values (R125). -/
opaque baseMac : BitVec 48
/-- Fused die identifier, UNIQUE_ID of R104. -/
opaque uniqueId : BitVec 64
/-- Silicon stepping, R104. -/
opaque stepping : BitVec 8
/-- Boot ROM version, R104. -/
opaque romVersion : BitVec 32

/-- HI_CREDIT of a port's thermal shedding shaper in bits: R376 states none (log entry 1). -/
opaque shedHiCredit : Nat → Nat
/-- Table code in the DETAIL of fault input 15 for the two tables without a DIAG code, 7 the Fallback set and 8 the LIN ID
tables (R207, R209; log entry 1). -/
opaque tableCode : Nat → Nat
/-- First ticket number of a client and first draft handle of the Deck: R77 and R93 give no numbering (log entry 15). -/
opaque ticketBase : Nat → Nat
opaque handleBase : Nat

/-- The grandmaster information that a domain announces as its own: R341 gives no contents (log entry 1). -/
opaque gmInfo : Nat → Nat

/-- Next token of the watchdog's LFSR, whose polynomial R533 does not give (log entry 1). -/
opaque watchdogNext : Nat → Nat

/-- The 10-bit SECDED code of a value of so many bits (R248, R251), which no rule states. -/
opaque secded10 : Nat → Nat → BitVec 10
/-- The 6-bit SECDED code of a cell link (R248), which no rule states. -/
opaque secded6 : Nat → BitVec 6

/-- SHA-256 of a byte string (R40, R413): 32 bytes. Only its use is modelled (log entry 5). -/
opaque sha256 : List Byte → BitVec 256
/-- SHA-384 of a byte string. -/
opaque sha384 : List Byte → BitVec 384
/-- SHA-512 of a byte string. -/
opaque sha512 : List Byte → BitVec 512
/-- Does an ECDSA P-384 or P-256 signature verify: public key, digest, signature (R40, R411)? -/
opaque sigVerify : List Byte → List Byte → List Byte → Bool
/-- AES-CMAC: key bytes, message (R438). -/
opaque aesCmac : List Byte → List Byte → BitVec 128
/-- An AES mode of R430: mode code, direction, key bytes, IV, associated data, input; output bytes. -/
opaque aesMode : Nat → Nat → List Byte → List Byte → List Byte → List Byte → List Byte
/-- GCM or CMAC tag of a job: mode code, key bytes, IV, associated data, ciphertext or message. -/
opaque aesTag : Nat → List Byte → List Byte → List Byte → List Byte → List Byte
/-- The DRBG's output: seed material, counter, length (R413). -/
opaque drbg : List Byte → Nat → Nat → List Byte
/-- Key wrapping and unwrapping of R416: wrapping key, wrapped bytes; `none` where the integrity check fails. -/
opaque keyUnwrap : List Byte → List Byte → Option (List Byte)
/-- The device's own key for persistent slots and wrapped keys (fused). -/
opaque deviceKey : List Byte

end Sys2Proof.Config
end

