-- ==== Sys2Proof/Machine/Bits.lean ====
section
/-! DEFINITION. Bit fields, little-endian and network byte order, masks, and the cyclic redundancy checks. -/

namespace Sys2Proof.Machine

/-- Bits `hi` down to `lo` of a number (`[hi:lo]` in the notation, bit 0 least significant). -/
def bitsOf (x hi lo : Nat) : Nat := (x / 2 ^ lo) % 2 ^ (hi + 1 - lo)

/-- Bit `i` of a number. -/
def bitOf (x i : Nat) : Bool := (x / 2 ^ i) % 2 == 1

/-- The number with bits `hi` down to `lo` replaced by the low bits of `v`. -/
def setBits (x hi lo v : Nat) : Nat :=
  x - bitsOf x hi lo * 2 ^ lo + (v % 2 ^ (hi + 1 - lo)) * 2 ^ lo

/-- The number with bit `i` set or cleared. -/
def setBit (x i : Nat) (b : Bool) : Nat := setBits x i i (if b then 1 else 0)

/-- 1 for true. -/
def b2n (b : Bool) : Nat := if b then 1 else 0

/-- The positions below `n` at which a mask has a 1. -/
def maskBits (n m : Nat) : List Nat := (List.range n).filter (fun i => bitOf m i)

/-- A mask from the positions listed. -/
def maskOf (l : List Nat) : Nat := l.foldl (fun m i => setBit m i true) 0

/-- Number of 1 bits among the low `n`. -/
def popCount (n m : Nat) : Nat := (maskBits n m).length

/-- `a / b` rounded up. -/
def ceilDiv (a b : Nat) : Nat := if b = 0 then 0 else (a + b - 1) / b

/-- Little-endian value of a byte list (R5). -/
def leVal : List Byte → Nat
  | [] => 0
  | b :: bs => b.toNat + 256 * leVal bs

/-- `n` bytes of a number, least significant first (R5). -/
def leBytes : Nat → Nat → List Byte
  | 0, _ => []
  | n + 1, x => BitVec.ofNat 8 x :: leBytes n (x / 256)

/-- Network-order value of a byte list (R5: frames on any network). -/
def beVal (l : List Byte) : Nat := l.foldl (fun a b => a * 256 + b.toNat) 0

/-- `n` bytes of a number, most significant first. -/
def beBytes (n x : Nat) : List Byte := (leBytes n x).reverse

/-- `n` bytes at offset `o` of a payload; bytes past its end read 0. -/
def sliceB (l : List Byte) (o n : Nat) : List Byte :=
  let t := (l.drop o).take n
  t ++ List.replicate (n - t.length) 0

/-- Little-endian field of `n` bytes at offset `o` of a payload. -/
def leAt (l : List Byte) (o n : Nat) : Nat := leVal (sliceB l o n)

/-- Network-order field of `n` bytes at offset `o`. -/
def beAt (l : List Byte) (o n : Nat) : Nat := beVal (sliceB l o n)

/-- The list with the bytes `v` put at offset `o`, extended with zeros as needed. -/
def putB (l : List Byte) (o : Nat) (v : List Byte) : List Byte :=
  let h := l.take o
  h ++ List.replicate (o - h.length) 0 ++ v ++ l.drop (o + v.length)

/-- Zero bytes. -/
def zeros (n : Nat) : List Byte := List.replicate n 0

/-- Pad with zeros to a multiple of `k` bytes. -/
def padTo (k : Nat) (l : List Byte) : List Byte :=
  l ++ zeros (ceilDiv l.length k * k - l.length)

/-- A signed value of `w` bits read from its two's complement. -/
def toSigned (w x : Nat) : Int :=
  if x % 2 ^ w < 2 ^ (w - 1) then (x % 2 ^ w : Int) else (x % 2 ^ w : Int) - 2 ^ w

/-- Two's complement of `w` bits of a signed value. -/
def ofSigned (w : Nat) (x : Int) : Nat := (x % (2 ^ w : Int)).toNat

/-- The order of `w` bits reversed. -/
def reflect (w x : Nat) : Nat :=
  (List.range w).foldl (fun a i => if bitOf x i then a + 2 ^ (w - 1 - i) else a) 0

/-- One message bit through a `w`-bit CRC register, most significant bit first. -/
def crcBit (w poly : Nat) (crc : Nat) (b : Bool) : Nat :=
  let top := bitOf crc (w - 1) != b
  let sh := (crc * 2) % 2 ^ w
  if top then sh ^^^ poly else sh

/-- One byte through the register; `refl` feeds its least significant bit first. -/
def crcByte (w poly : Nat) (refl : Bool) (crc : Nat) (x : Byte) : Nat :=
  let order := if refl then List.range 8 else (List.range 8).reverse
  order.foldl (fun c i => crcBit w poly c (bitOf x.toNat i)) crc

/-- A cyclic redundancy check (R301): width, polynomial, initial value, reflection, final XOR. -/
def crcOf (w poly ini : Nat) (refl : Bool) (fin : Nat) (l : List Byte) : Nat :=
  let c := l.foldl (crcByte w poly refl) ini
  (if refl then reflect w c else c) ^^^ fin

/-- The SPI transport's CRC-8 (R66): polynomial 0x07, initial value 0, no reflection, no final XOR. -/
def crcSpi (l : List Byte) : Nat := crcOf 8 0x07 0 false 0 l

end Sys2Proof.Machine
end

