-- ==== Sys2Proof/Machine/Operands.lean ====
section
/-! DEFINITION. Operand forms of the Gateway Command Interface: object references (R82 to R84), the keys under which
the configuration holds an object's parameters (R85), and the tables of R106. -/

namespace Sys2Proof.Machine

/-- An object reference, R82. -/
structure Oref where
  typ : Nat
  deck : Nat
  span : Nat
  chan : Nat
  idx : Nat
deriving DecidableEq, Repr

/-- The OREF in the first eight bytes of a payload, R82. -/
def orefOf (p : List Byte) : Oref :=
  ⟨leAt p 0 1, leAt p 1 1, leAt p 2 1, leAt p 3 1, leAt p 4 4⟩

/-- The OREF as eight bytes. -/
def orefBytes (o : Oref) : List Byte :=
  leBytes 1 o.typ ++ leBytes 1 o.deck ++ leBytes 1 o.span ++ leBytes 1 o.chan ++ leBytes 4 o.idx

/-- The all-ones values of R82 for fields that a type does not use. -/
def noIdx : Nat := 0xFFFFFFFF

/-- The object's key: the OREF with its DECK byte left out. -/
def okey (typ span chan idx : Nat) : Nat := typ + span * 2 ^ 16 + chan * 2 ^ 24 + idx * 2 ^ 32

def Oref.key (o : Oref) : Nat := okey o.typ o.span o.chan o.idx

/-- Objects by type (R84). -/
def oDeck : Nat := okey 0x01 0xFF 0xFF noIdx
def oClient (c : Nat) : Nat := okey 0x02 0xFF 0xFF c
def oSpan (i : Nat) : Nat := okey 0x03 i 0xFF noIdx
def oChan (c : Nat) : Nat := okey 0x04 0xFF c noIdx
def oIdx (typ i : Nat) : Nat := okey typ 0xFF 0xFF i
def oQueue (q : Nat) : Nat := oIdx 0x05 q
def oFdb (i : Nat) : Nat := oIdx 0x06 i
def oVlan (v : Nat) : Nat := oIdx 0x07 v
def oStream (i : Nat) : Nat := oIdx 0x08 i
def oFrer (i : Nat) : Nat := oIdx 0x09 i
def oMeter (i : Nat) : Nat := oIdx 0x0A i
def oDirect (c i : Nat) : Nat := okey 0x0B 0xFF c i
def oHash (i : Nat) : Nat := oIdx 0x0C i
def oRoute (i : Nat) : Nat := oIdx 0x0D i
def oFallback (i : Nat) : Nat := oIdx 0x0E i
def oRate (i : Nat) : Nat := oIdx 0x0F i
def oSignal (i : Nat) : Nat := oIdx 0x10 i
def oPdu (i : Nat) : Nat := oIdx 0x11 i
def oTimer (i : Nat) : Nat := oIdx 0x12 i
def oProgram (i : Nat) : Nat := oIdx 0x13 i
def oGate (p : Nat) : Nat := okey 0x14 0xFF p noIdx
def oShaper (p c : Nat) : Nat := okey 0x15 0xFF p c
def oSched (c i : Nat) : Nat := okey 0x16 0xFF c i
def oPattern (p : Nat) : Nat := okey 0x17 0xFF p noIdx
def oClock (i : Nat) : Nat := oIdx 0x18 i
def oOutput (i : Nat) : Nat := oIdx 0x19 i
def oCapture (i : Nat) : Nat := oIdx 0x1A i
def oSlot (i : Nat) : Nat := oIdx 0x1B i
def oAssoc (c i : Nat) : Nat := okey 0x1C 0xFF c i
def oProfile (i : Nat) : Nat := oIdx 0x1D i
def oEvq (q : Nat) : Nat := oIdx 0x1E q
def oSource (n : Nat) : Nat := oIdx 0x1F n
def oFault (i : Nat) : Nat := oIdx 0x20 i

/-- The key of one parameter of one object (R85: an ID has meaning only with an object type). -/
def pkey (o pid : Nat) : Nat := o * 2 ^ 16 + pid

/-- ENTRY, the one parameter of table objects (R210). -/
def pidEntry : Nat := 0x8000

/-- The object type of a key. -/
def keyTyp (k : Nat) : Nat := bitsOf k 7 0
def keySpan (k : Nat) : Nat := bitsOf k 23 16
def keyChan (k : Nat) : Nat := bitsOf k 31 24
def keyIdx (k : Nat) : Nat := bitsOf k 63 32
def pkeyObj (k : Nat) : Nat := k / 2 ^ 16
def pkeyPid (k : Nat) : Nat := k % 2 ^ 16

/-- The OREF that names the object of a key on Deck `d`. -/
def keyOref (d k : Nat) : Oref := ⟨keyTyp k, d, keySpan k, keyChan k, keyIdx k⟩

/-- One row of R84: does the type use a Span, a Channel or an index, and in which range. -/
structure TypeRow where
  typ : Nat
  spans : Bool
  chans : Nat → Bool
  usesChan : Bool
  idxLo : Nat
  idxHi : Nat
  usesIdx : Bool

def rowPlain (t : Nat) : TypeRow := ⟨t, false, fun _ => false, false, 0, 0, false⟩
def rowIdx (t lo hi : Nat) : TypeRow := ⟨t, false, fun _ => false, false, lo, hi, true⟩
def rowChan (t : Nat) (cs : Nat → Bool) : TypeRow := ⟨t, false, cs, true, 0, 0, false⟩
def rowChanIdx (t : Nat) (cs : Nat → Bool) (hi : Nat) : TypeRow := ⟨t, false, cs, true, 0, hi, true⟩

/-- MACsec channels: 0..11 and 20..21 (R84, R421). -/
def macsecChan (c : Nat) : Bool := decide (c ≤ 11) || c == 20 || c == 21

/-- The object types of R84. The index range of SECURE_ASSOC and of AUTH_PROFILE is the Hatbox chapter's:
associations 0..35 (R422), profiles 1..1,023 (R437). -/
def typeRows : List TypeRow :=
  [rowPlain 0x01, rowIdx 0x02 0 7, ⟨0x03, true, fun _ => false, false, 0, 0, false⟩,
   rowChan 0x04 (fun c => decide (c ≤ 103)), rowIdx 0x05 0 2047, rowIdx 0x06 0 32767, rowIdx 0x07 0 4095,
   rowIdx 0x08 0 4095, rowIdx 0x09 0 1023, rowIdx 0x0A 0 4095,
   rowChanIdx 0x0B (fun c => decide (24 ≤ c ∧ c ≤ 87)) 2047, rowIdx 0x0C 0 16383, rowIdx 0x0D 1 16383,
   rowIdx 0x0E 1 16383, rowIdx 0x0F 1 16383, rowIdx 0x10 0 65535] ++
  [rowIdx 0x11 0 16383, rowIdx 0x12 0 8191, rowIdx 0x13 0 262143, rowChan 0x14 (fun c => decide (c ≤ 21)),
   rowChanIdx 0x15 (fun c => decide (c ≤ 21)) 7, rowChanIdx 0x16 (fun c => decide (88 ≤ c ∧ c ≤ 103)) 31,
   rowChan 0x17 (fun c => decide (c ≤ 11)), rowIdx 0x18 0 2, rowIdx 0x19 0 3, rowIdx 0x1A 0 7,
   rowIdx 0x1B 0 2047, rowChanIdx 0x1C macsecChan 35, rowIdx 0x1D 1 1023, rowIdx 0x1E 0 63,
   rowIdx 0x1F 1 4094, rowIdx 0x20 0 511]

def typeRow (t : Nat) : Option TypeRow := typeRows.find? (fun r => r.typ == t)

/-- Is the OREF well formed under R83, apart from the DECK field? -/
def Oref.formOk (o : Oref) : Bool :=
  match typeRow o.typ with
  | none => false
  | some r =>
    (if r.spans then decide (o.span ≤ 15) else o.span == 0xFF) &&
    (if r.usesChan then r.chans o.chan else o.chan == 0xFF) &&
    (if r.usesIdx then decide (r.idxLo ≤ o.idx ∧ o.idx ≤ r.idxHi) else o.idx == noIdx)

end Sys2Proof.Machine
end

