-- ==== Sys2Proof/Machine/Params.lean ====
section
/-! DEFINITION. The parameters of the objects: identifier, class, object type, range and reset value, from the parameter
tables of spec/ (R85, R86, R125, R167, R194, R210, R211, R254, R300, R312, R329, R331, R340, R365, R379, R421, R427,
R436, R437, R473, R483, R491, R512, R536). -/

namespace Sys2Proof.Machine

/-- Class codes of R91. -/
def cDeck : Nat := 0x01
def cSpan : Nat := 0x02
def cChan : Nat := 0x03
def cEth : Nat := 0x04
def cCan : Nat := 0x05
def cLin : Nat := 0x06
def cFdb : Nat := 0x07
def cRoute : Nat := 0x08
def cSig : Nat := 0x09
def cQos : Nat := 0x0A
def cTime : Nat := 0x0B
def cSec : Nat := 0x0C
def cEvt : Nat := 0x0D
def cStore : Nat := 0x0E
def cCasc : Nat := 0x0F
def cDiag : Nat := 0x10
def cFault : Nat := 0x11

/-- A parameter, or an array of them with IDs `pid` to `last`: the class that accepts it, its object type and the
object numbers that have it, its size in bytes (R85), its range, its reset value by object number and ID, and the
condition of its Applies-to column over the object's other parameters. -/
structure ParamDesc where
  cls : Nat
  typ : Nat
  nLo : Nat
  nHi : Nat
  pid : Nat
  last : Nat
  size : Nat
  ok : Nat → Bool
  reset : Nat → Nat → Nat
  applies : (Nat → Nat) → Bool := fun _ => true

/-- `lo..hi`, unsigned. -/
def rng (lo hi : Nat) : Nat → Bool := fun v => decide (lo ≤ v ∧ v ≤ hi)
/-- `lo..hi`, signed two's complement of 32 bits (R340). -/
def srng (lo hi : Int) : Nat → Bool := fun v => decide (lo ≤ toSigned 32 v ∧ toSigned 32 v ≤ hi)
/-- A constant reset value. -/
def rst (v : Nat) : Nat → Nat → Nat := fun _ _ => v

/-- One parameter with a range and a constant reset value. -/
def p4 (cls typ nLo nHi pid lo hi r : Nat) : ParamDesc := ⟨cls, typ, nLo, nHi, pid, pid, 4, rng lo hi, rst r, fun _ => true⟩

/-- Timing words with reserved bits 0 and at least the least stored value of each field (R160, R161). -/
def nominalOk (w : Nat) : Bool := bitsOf w 31 31 == 0 && decide (1 ≤ bitsOf w 23 16) && decide (w < 2 ^ 32)
def dataOk (w : Nat) : Bool :=
  bitsOf w 7 5 == 0 && bitsOf w 15 14 == 0 && bitsOf w 23 21 == 0 && bitsOf w 31 30 == 0 && decide (w < 2 ^ 32)

/-- STATION_MAC's reset value: the fused base address plus the port number, first wire byte first (R125). -/
def stationMacReset (p : Nat) : Nat := leVal (beBytes 6 ((Config.baseMac.toNat + p) % 2 ^ 48))

/-- TX_SCI's reset value: STATION_MAC followed by port identifier 0x0001 (R421). -/
def txSciReset (p : Nat) : Nat := leVal (beBytes 6 ((Config.baseMac.toNat + p) % 2 ^ 48) ++ [0x00, 0x01])

/-- Ethernet port parameters, R125. Applicability by port number is the object range here. -/
def ethParams : List ParamDesc :=
  let e := fun (lo hi pid a b r : Nat) => p4 cEth 0x04 lo hi pid a b r
  [⟨cEth, 0x04, 0, 21, 0x0100, 0x0100, 4, rng 0 6,
     fun p _ => if p ≤ 3 then 1 else if p ≤ 11 then 3 else if p ≤ 19 then 5 else 6, fun _ => true⟩,
   { e 0 19 0x0101 0 1 1 with applies := fun g => g 0x0100 == 2 || g 0x0100 == 4 },
   { e 0 19 0x0102 10 1000 1000 with
       ok := fun v => v == 10 || v == 100 || v == 1000, applies := fun g => g 0x0100 == 4 && g 0x0101 == 0 },
   ⟨cEth, 0x04, 0, 21, 0x0103, 0x0103, 4, rng 1518 9216, fun p _ => if p ≤ 19 then 1522 else 9252, fun _ => true⟩,
   e 0 19 0x0104 1 1000 10, e 0 11 0x0200 0 2 0, e 0 11 0x0201 0 1 1,
   { e 0 11 0x0202 0 0xFF 0 with applies := fun g => g 0x0200 == 2 },
   { e 0 11 0x0203 1 65535 65535 with applies := fun g => g 0x0200 != 0 },
   { e 0 11 0x0204 0 16384 0 with applies := fun g => g 0x0200 != 0 },
   e 0 11 0x0205 1 10000 100, e 0 11 0x0206 1 60000 1000] ++
  [{ e 0 11 0x0210 1 16384 256 with applies := fun g => g 0x0200 != 0 },
   { e 0 11 0x0211 1 16384 256 with last := 0x0217, applies := fun g => g 0x0200 == 2 },
   { e 0 11 0x0220 0 16383 128 with applies := fun g => g 0x0200 != 0 },
   { e 0 11 0x0221 0 16383 128 with last := 0x0227, applies := fun g => g 0x0200 == 2 },
   { e 12 19 0x0300 0 1 0 with applies := fun g => g 0x0100 == 5 },
   { e 12 19 0x0301 0 254 0 with applies := fun g => g 0x0100 == 5 },
   { e 12 19 0x0302 1 255 8 with applies := fun g => g 0x0100 == 5 && g 0x0301 == 0 },
   { e 12 19 0x0303 1 255 32 with applies := fun g => g 0x0100 == 5 },
   { e 12 19 0x0304 0 255 0 with applies := fun g => g 0x0100 == 5 },
   { e 12 19 0x0305 1 255 128 with applies := fun g => g 0x0100 == 5 },
   ⟨cEth, 0x04, 12, 19, 0x0306, 0x0306, 4, rng 0 7, fun p _ => p - 12, fun g => g 0x0100 == 5⟩] ++
  [e 0 11 0x0400 0 1 0, e 0 11 0x0401 0 1 0, e 0 11 0x0402 1 128 10, e 0 11 0x0403 0 0xFF 0, e 0 11 0x0404 0 3 0,
   { e 0 19 0x0500 0 1000000 0 with applies := fun g => g 0x0100 == 2 || g 0x0100 == 4 },
   { e 0 19 0x0501 0 1000000 0 with applies := fun g => g 0x0100 == 2 || g 0x0100 == 4 },
   ⟨cEth, 0x04, 0, 21, 0x4106, 0x4106, 8, fun v => decide (v < 2 ^ 48), fun p _ => stationMacReset p, fun _ => true⟩]

/-- CAN parameters, R167. The modes of R156 that a Channel has are checked by `canModeOk` in `paramOk`. -/
def canParams : List ParamDesc :=
  let c := fun (pid a b r : Nat) => p4 cCan 0x04 24 87 pid a b r
  let fd := fun (g : Nat → Nat) => g 0x0100 != 0
  let xl := fun (g : Nat → Nat) => g 0x0100 == 3
  let tms := fun (g : Nat → Nat) => g 0x0100 == 3 && g 0x0104 == 1
  [c 0x0100 0 3 0, { c 0x0101 0 0 0x1F7E3E01 with ok := nominalOk },
   { c 0x0102 0 0 0x33133A00 with ok := dataOk, applies := fd }, { c 0x0103 0 127 60 with applies := fd },
   { c 0x0104 0 1 0 with applies := xl }, { c 0x0105 1 63 3 with applies := tms },
   { c 0x0106 1 63 5 with applies := tms }, { c 0x0107 0 63 0 with applies := tms }, c 0x0108 0 1 1,
   c 0x0200 1 4 1, c 0x0201 0 1 1, c 0x0202 0 255 16, c 0x0203 0 255 255, c 0x0204 1 255 8, c 0x0205 0 1 1,
   c 0x0206 0 10000 0] ++
  [c 0x0207 1 1000000 100, c 0x0208 1 10000 100, c 0x0300 0 1 0, c 0x0301 0 1 0, c 0x0302 0 1 0, c 0x0303 0 1 0]

/-- LIN parameters, R194. -/
def linParams : List ParamDesc :=
  let l := fun (pid a b r : Nat) => p4 cLin 0x04 88 103 pid a b r
  [l 0x0100 0 2 0, l 0x0101 1000 20000 19200, { l 0x0102 13 26 13 with applies := fun g => g 0x0100 == 1 },
   { l 0x0103 1 4 1 with applies := fun g => g 0x0100 == 1 }, l 0x0104 250 5000 1000]

/-- Port VLAN parameters, R211. -/
def fdbParams : List ParamDesc :=
  let f := fun (pid a b r : Nat) => p4 cFdb 0x04 0 22 pid a b r
  [f 0x0B00 1 4094 1, f 0x0B01 0 7 0, f 0x0B02 0 2 0, f 0x0B03 0 1 1,
   { f 0x0B04 0 0 0x00FAC688 with ok := fun v => decide (v < 2 ^ 24) }, f 0x0B05 0 31 0]

/-- RESERVED's reset value by queue, R254. -/
def reservedReset (q : Nat) : Nat :=
  if q ≤ 799 ∧ ¬ (176 ≤ q ∧ q ≤ 183) ∧ ¬ (192 ≤ q ∧ q ≤ 199) then 32 else 0

/-- Reserved bits and ranges of a meter entry (R329). -/
def meterOk (v : Nat) : Bool :=
  decide (bitsOf v 31 0 ≤ 10000000) && decide (bitsOf v 63 32 ≤ 10000000) && bitsOf v 127 99 == 0 && decide (v < 2 ^ 128)

/-- Switch core and scheduling parameters, R254, R312, R329, R331. -/
def qosParams : List ParamDesc :=
  [⟨cQos, 0x05, 0, 2047, 0x0100, 0x0100, 4, rng 0 4096, fun q _ => reservedReset q, fun _ => true⟩,
   ⟨cQos, 0x05, 0, 799, 0x0101, 0x0101, 4, rng 255 255, rst 255, fun _ => true⟩,
   ⟨cQos, 0x05, 800, 2047, 0x0101, 0x0101, 4, fun v => decide (v ≤ 21) || v == 25 || v == 255, rst 255, fun _ => true⟩,
   p4 cQos 0x05 0 2047 0x0102 0 2 0, p4 cQos 0x05 0 2047 0x0103 1 255 1, p4 cQos 0x05 800 2047 0x0104 0 7 0,
   p4 cQos 0x05 800 2047 0x0105 0 10000000 0, p4 cQos 0x05 800 2047 0x0106 0 16777215 0,
   p4 cQos 0x05 800 2047 0x0107 0 16777215 0, p4 cQos 0x01 0 0 0x0200 0 65536 4096, p4 cQos 0x01 0 0 0x0201 1 65536 1024,
   { p4 cQos 0x01 0 0 0x0210 0 10 7 with last := 0x0217 },
   { p4 cQos 0x01 0 0 0x0300 0 0x7FFFFF 0 with last := 0x0316 }, p4 cQos 0x01 0 0 0x0320 1 15 2,
   p4 cQos 0x04 0 21 0x0D00 0 0xFFFFFF 0x00FAC688] ++
  [⟨cQos, 0x0A, 0, 4095, 0x8000, 0x8000, 16, meterOk, rst 0, fun _ => true⟩,
   ⟨cQos, 0x0F, 1, 16383, 0x8000, 0x8000, 8,
     fun v => (v == 0 || (rng 1 60000000 (bitsOf v 31 0) && rng 1 255 (bitsOf v 39 32))) && decide (v < 2 ^ 40),
     rst 0, fun _ => true⟩]

/-- Reserved bits and ranges of a signal definition (R292); all zero is undefined. -/
def signalOk (v : Nat) : Bool :=
  decide (v < 2 ^ 128) && (v == 0 || (!bitOf v 95 && bitsOf v 103 99 == 0 && rng 1 64 (bitsOf v 111 104) && bitsOf v 127 112 == 0))

/-- Reserved bits and ranges of a PDU definition (R296); a receive definition uses six fields alone. MAX_DELTA, which only a
counter uses, is in its range where CNT_EN is set (DEDUCED, log entry 110). -/
def pduOk (v : Nat) : Bool :=
  decide (v < 2 ^ 256) && (v == 0 ||
    (bitsOf v 7 4 == 0 && rng 1 2048 (bitsOf v 31 16) &&
     (if bitOf v 0 then
        bitsOf v 15 12 == 0 && bitsOf v 95 93 == 0 && decide (bitsOf v 127 112 ≤ 1023) && bitsOf v 159 146 == 0 &&
        bitsOf v 175 171 == 0 && bitsOf v 191 188 == 0 && decide (bitsOf v 185 184 ≤ 2) && bitsOf v 223 221 == 0 &&
        bitsOf v 255 245 == 0
      else bitsOf v 2 1 == 0 && bitsOf v 255 80 == 0 && (!bitOf v 10 || rng 1 15 (bitsOf v 15 12)))))

/-- Reserved bits and ranges of a bundle definition (R306). -/
def bundleOk (v : Nat) : Bool :=
  decide (v < 2 ^ 256) && (v == 0 ||
    (bitsOf v 143 139 == 0 && (decide (bitsOf v 138 128 < 160) || decide (800 ≤ bitsOf v 138 128)) && decide (bitsOf v 159 144 ≤ 1000) && rng 16 8192 (bitsOf v 175 160) &&
     bitsOf v 191 179 == 0 && bitsOf v 255 224 == 0))

/-- The bits of an instruction that its row of R288 lists, beside the opcode. -/
def instrBits (op : Nat) : List (Nat × Nat) :=
  match op with
  | 0x01 => [(57, 36), (35, 22), (15, 0)]
  | 0x02 => [(57, 36), (35, 22), (16, 0)]
  | 0x03 => [(13, 0)]
  | 0x04 => [(57, 57), (44, 37), (28, 0)]
  | 0x05 => [(17, 0)]
  | 0x06 => [(57, 57), (55, 51), (49, 36), (31, 0)]
  | 0x07 => [(19, 0)]
  | 0x08 => [(16, 16), (13, 0)]
  | _ => []

/-- Ranges of an instruction's fields (R288): MATCH's SKIP and ENTRY's DEADLINE. -/
def instrRanges (op w : Nat) : Bool :=
  match op with
  | 0x04 => rng 1 255 (bitsOf w 44 37)
  | 0x07 => rng 1000 1000000 (bitsOf w 19 0)
  | _ => true

/-- Bits that a row does not list are 0 and its fields are in range (R288, R92). An opcode that is never valid is refused by
ROUTE.COMMIT (R290). -/
def instrOk (w : Nat) : Bool :=
  let op := bitsOf w 63 58
  decide (w < 2 ^ 64) && (op > 0x08 || (instrRanges op w &&
    (List.range 58).all (fun i => !bitOf w i || (instrBits op).any (fun r => decide (r.2 ≤ i ∧ i ≤ r.1)))))

/-- Signal gateway parameters, R292, R296, R300, R306, R307, R308, R309; the ENTRY of a PROGRAM object is 8 bytes (R291). -/
def sigParams : List ParamDesc :=
  [⟨cSig, 0x10, 0, 65535, 0x8000, 0x8000, 16, signalOk, rst 0, fun _ => true⟩,
   ⟨cSig, 0x11, 0, 16383, 0x8000, 0x8000, 32, pduOk, rst 0, fun _ => true⟩,
   ⟨cSig, 0x05, 800, 2047, 0x8000, 0x8000, 32, bundleOk, rst 0, fun _ => true⟩,
   ⟨cSig, 0x13, 0, 262143, 0x4000, 0x4000, 8, instrOk, rst 0, fun _ => true⟩,
   { p4 cSig 0x08 0 4095 0x0C00 0 16383 0 with last := 0x0C3F },
   ⟨cSig, 0x04, 24, 87, 0x0C40, 0x0C40, 4, rng 0 31, fun n _ => (n - 24) % 32, fun _ => true⟩,
   ⟨cSig, 0x04, 88, 103, 0x0C40, 0x0C40, 4, rng 0 31, fun n _ => (n - 88) % 32, fun _ => true⟩,
   { p4 cSig 0x12 0 8191 0x0100 100 60000000 10000 with applies := fun g => decide (g 0x0101 < g 0x0100) },
   { p4 cSig 0x12 0 8191 0x0101 0 59999999 0 with applies := fun g => decide (g 0x0101 < g 0x0100) },
   p4 cSig 0x12 0 8191 0x0102 0 1 0, p4 cSig 0x01 0 0 0x0C80 0 2 0]

/-- Time parameters, R340. -/
def timeParams : List ParamDesc :=
  [p4 cTime 0x18 0 1 0x0100 0 3 0, ⟨cTime, 0x18, 0, 1, 0x0101, 0x0101, 4, rng 0 127, fun n _ => n, fun _ => true⟩,
   { p4 cTime 0x18 0 1 0x0102 0 255 255 with ok := fun v => decide (v ≤ 11) || v == 255 },
   p4 cTime 0x18 0 1 0x0103 0 0xFFF 0, { p4 cTime 0x18 0 1 0x0104 0 0 0xFFFFFFFD with ok := srng (-5) 3 },
   p4 cTime 0x18 0 1 0x0105 10 100000 100, p4 cTime 0x18 0 1 0x0106 1000 1000000000 1000000,
   { p4 cTime 0x18 0 1 0x0107 0 0 0 with ok := srng (-3) 4 }, p4 cTime 0x18 2 2 0x0200 0 1 0,
   p4 cTime 0x18 2 2 0x0201 10 100000 500, p4 cTime 0x18 2 2 0x0202 0 1 0, p4 cTime 0x18 2 2 0x0203 1 600 10,
   { p4 cTime 0x18 2 2 0x0204 0 0 0 with ok := fun v => v == 0 || rng 1000 1000000000 v }] ++
  [p4 cTime 0x1A 0 7 0x0100 0 3 0, p4 cTime 0x1A 0 7 0x0101 0 2 2,
   { p4 cTime 0x04 0 11 0x0E00 0 0 0 with ok := srng (-3) 3 }, p4 cTime 0x04 0 11 0x0E01 1 100000 800,
   { p4 cTime 0x04 0 11 0x0E02 0 0 0 with ok := srng (-1000000) 1000000 },
   { p4 cTime 0x04 20 21 0x0E02 0 0 0 with ok := srng (-1000000) 1000000 }]

/-- Power and thermal parameters, R365. -/
def deckParams : List ParamDesc :=
  [p4 cDeck 0x01 0 0 0x0F00 0 2 0, p4 cDeck 0x01 0 0 0x0F01 0 10000 100, p4 cDeck 0x01 0 0 0x0F02 0 86400 0,
   p4 cDeck 0x01 0 0 0x0F03 0 86400 0, { p4 cDeck 0x01 0 0 0x0F10 0 3 0 with last := 0x0F13, reset := fun _ pid => if pid == 0x0F10 then 1 else 0 },
   { p4 cDeck 0x01 0 0 0x0F18 0 0xFFFF 0 with last := 0x0F1B }, { p4 cDeck 0x01 0 0 0x0F20 0 1 0 with last := 0x0F23, reset := fun _ pid => if pid == 0x0F20 then 1 else 0 },
   p4 cDeck 0x01 0 0 0x0F30 100 150 140, p4 cDeck 0x01 0 0 0x0F31 105 155 150, p4 cDeck 0x01 0 0 0x0F32 0 0x7FFFFF 0,
   p4 cDeck 0x01 0 0 0x0F33 10 100 50]

/-- Span parameters, R379. -/
def spanParams : List ParamDesc :=
  let s := fun (pid a b r : Nat) => p4 cSpan 0x03 0 15 pid a b r
  [p4 cSpan 0x03 0 0 0x0100 0 0 0, p4 cSpan 0x03 1 15 0x0100 0 1 0, s 0x0101 100 600000 3000, s 0x0102 0 60000 2000,
   s 0x0103 10 60000 500, s 0x0104 1 1000 20, { s 0x0105 0 0 0x500 with ok := fun v => decide (v < 2 ^ 30) },
   { s 0x0106 0 0 0x700 with ok := fun v => decide (v < 2 ^ 29) },
   { s 0x0107 0 0 0 with ok := fun v => v == 0 || rng 0x600 0xFFFF v },
   { s 0x0108 0 0 0 with ok := fun v => decide (v ≤ 63) || v == 255 },
   { s 0x0109 0 0 65535 with ok := fun v => decide (v ≤ 511) || v == 65535 },
   { s 0x010A 0 0 0 with ok := fun v => v == 0 || rng 10 10000 v }, s 0x010B 0 255 0, s 0x010C 2 3 3] ++
  [s 0x010D 0 0xFF 0, s 0x010E 0 1 0, s 0x010F 0 1 1, { s 0x0110 0 0 1800 with ok := fun v => v == 0 || rng 60 86400 v },
   s 0x0111 0 1 0,
   { p4 cSpan 0x01 0 0 0x1300 0 0 0 with
       last := 0x1307, ok := fun v => bitsOf v 7 2 == 0 && decide (v < 2 ^ 16) && decide (1 ≤ bitsOf v 15 8 ∨ v == 0) }]

/-- Security parameters, R421, R427, R436, R437. -/
def secParams : List ParamDesc :=
  let m := fun (lo hi pid a b r : Nat) => p4 cSec 0x04 lo hi pid a b r
  let both := fun (pid a b r : Nat) => [m 0 11 pid a b r, m 20 21 pid a b r]
  both 0x1000 0 1 0 ++ both 0x1001 1 4 1 ++ both 0x1002 0 1 1 ++ both 0x1003 0 1 1 ++
  [{ m 0 11 0x1004 0 0 0 with ok := fun v => v == 0 || v == 30 || v == 50 },
   { m 20 21 0x1004 0 0 0 with ok := fun v => v == 0 || v == 30 || v == 50 }] ++
  both 0x1005 0 2 2 ++ both 0x1006 0 1 1 ++ both 0x1007 0 4294967295 0 ++ both 0x1008 0 1 1 ++
  [⟨cSec, 0x04, 0, 11, 0x5009, 0x5009, 8, fun _ => true, fun p _ => txSciReset p, fun _ => true⟩,
   ⟨cSec, 0x04, 20, 21, 0x5009, 0x5009, 8, fun _ => true, fun p _ => txSciReset p, fun _ => true⟩,
   ⟨cSec, 0x01, 0, 0, 0x1100, 0x1103, 4, rng 1 16,
     fun _ pid => if pid == 0x1100 then 4 else if pid == 0x1101 then 2 else 1, fun _ => true⟩,
   p4 cSec 0x01 0 0 0x1110 0 2 0,
   -- a slot's policy is fixed at install (R415): no value is in range for a SET
   ⟨cSec, 0x1B, 0, 2047, 0x8000, 0x8000, 16, fun _ => false, rst 0, fun _ => true⟩,
   ⟨cSec, 0x1D, 1, 1023, 0x8000, 0x8000, 32, fun _ => true, rst 0, fun _ => true⟩]

/-- WINDOW[0]'s reset value: the whole address space, readable and writable (R473). -/
def window0Reset : Nat := (2 ^ 64 - 1) * 2 ^ 64 + 7 * 2 ^ 128

/-- Trestle and storage parameters, R473, R483, R491. -/
def storeParams : List ParamDesc :=
  [{ p4 cStore 0x01 0 0 0x1600 0 0 0xFFFF with ok := fun v => decide (v ≤ 2047) || v == 0xFFFF },
   p4 cStore 0x01 0 0 0x1601 0 1 1, p4 cStore 0x01 0 0 0x1602 1 4 4,
   ⟨cStore, 0x01, 0, 0, 0x4200, 0x4203, 8, fun _ => true, rst 0, fun _ => true⟩,
   ⟨cStore, 0x01, 0, 0, 0x9000, 0x900F, 24,
     fun v => bitsOf v 11 0 == 0 && (bitsOf v 75 64 == 0xFFF || v == 0) && bitsOf v 191 132 == 0,
     fun _ pid => if pid == 0x9000 then window0Reset else 0, fun _ => true⟩,
   ⟨cStore, 0x01, 0, 0, 0x9100, 0x913F, 24,
     fun v => v == 0 || (rng 0 3 (bitsOf v 7 0) && rng 0 2 (bitsOf v 15 8) && rng 0 3 (bitsOf v 23 16) &&
       rng 0 1 (bitsOf v 31 24) && bitsOf v 33 32 == 0 && rng 10 1000000 (bitsOf v 159 128) && bitsOf v 191 160 == 0),
     rst 0, fun _ => true⟩]

/-- Viaduct parameters, R512. -/
def cascParams : List ParamDesc :=
  [p4 cCasc 0x01 0 0 0x1700 10 10000 50, p4 cCasc 0x01 0 0 0x1701 0 0xF 0,
   { p4 cCasc 0x01 0 0 0x1702 0 0 0xFFFF with ok := fun v => decide (v ≤ 127) || v == 0xFFFF }]

/-- Causeway parameters, R536. -/
def faultParams : List ParamDesc :=
  [{ p4 cFault 0x01 0 0 0x1800 0 0 0 with
       last := 0x1803,
       ok := fun v => bitsOf v 7 4 == 0 && decide (v < 2 ^ 16) && (bitOf v 0 == false || decide (1 ≤ bitsOf v 15 8)) },
   ⟨cFault, 0x01, 0, 0, 0x8010, 0x8017, 64, fun _ => true, rst 0, fun _ => true⟩]

/-- VID 1's entry after a Deck reset: every port a member, untagged and flooded, FID 1, learning on (R214). -/
def vlan1Reset : Nat := 0x00FFFFFF + 0x007FFFFF * 2 ^ 32 + 0x007FFFFF * 2 ^ 64 + 0x1001 * 2 ^ 96

/-- Reserved bits of a VLAN entry are 0 (R213, R210). -/
def vlanOk (v : Nat) : Bool :=
  bitsOf v 31 24 == 0 && bitsOf v 63 55 == 0 && bitsOf v 95 87 == 0 && bitsOf v 127 109 == 0

/-- Reserved bits of a stream identification entry are 0, ACTION is assigned and MAX_SDU is in range (R218). -/
def streamOk (v : Nat) : Bool :=
  bitsOf v 63 62 == 0 && bitsOf v 79 78 != 3 && bitsOf v 95 90 == 0 && decide (bitsOf v 106 96 ≤ 1247) &&
  (bitsOf v 127 112 == 0 || rng 64 9216 (bitsOf v 127 112))

/-- An FRER entry's reserved bits and ranges (R220). -/
def frerOk (v : Nat) : Bool :=
  bitsOf v 15 8 == 0 && bitsOf v 63 32 == 0 && (v == 0 || (decide (1 ≤ bitsOf v 5 1) && decide (1 ≤ bitsOf v 31 16)))

/-- A route entry's reserved bits and ranges (R236). -/
def routeOk (v : Nat) : Bool :=
  !bitOf v 87 && bitsOf v 95 94 == 0 && bitsOf v 127 115 == 0 && decide (bitsOf v 143 128 ≤ 1248) &&
  decide (bitsOf v 159 144 ≤ 1023) && bitsOf v 191 190 == 0 && bitsOf v 207 206 == 0 && bitsOf v 215 212 == 0 &&
  decide (bitsOf v 221 216 ≤ 59) && !bitOf v 223 && !bitOf v 255

/-- Table entries of the FDB and ROUTE classes (R210), and the LIN ID table (R235). -/
def entryParams : List ParamDesc :=
  let vl := fun (lo hi : Nat) (ok : Nat → Bool) =>
    (⟨cFdb, 0x07, lo, hi, 0x8000, 0x8000, 16, ok, fun v _ => if v == 1 then vlan1Reset else 0, fun _ => true⟩ : ParamDesc)
  [vl 0 0 (fun v => vlanOk v && !bitOf v 23), vl 1 4094 vlanOk, vl 4095 4095 (fun v => vlanOk v && !bitOf v 23),
   ⟨cFdb, 0x08, 0, 4095, 0x8000, 0x8000, 16, streamOk, rst 0, fun _ => true⟩,
   ⟨cFdb, 0x09, 0, 1023, 0x8000, 0x8000, 8, frerOk, rst 0, fun _ => true⟩,
   ⟨cRoute, 0x0D, 1, 16383, 0x8000, 0x8000, 32, routeOk, rst 0, fun _ => true⟩,
   ⟨cRoute, 0x0E, 1, 16383, 0x8000, 0x8000, 32, routeOk, rst 0, fun _ => true⟩,
   ⟨cRoute, 0x04, 88, 103, 0x0A00, 0x0A3D, 4, rng 0 16383, rst 0, fun _ => true⟩,
   ⟨cRoute, 0x04, 88, 103, 0x0A3E, 0x0A3F, 4, rng 0 0, rst 0, fun _ => true⟩]

/-- Every parameter of the spec. -/
def paramDescs : List ParamDesc :=
  entryParams ++ ethParams ++ canParams ++ linParams ++ fdbParams ++ qosParams ++ sigParams ++ timeParams ++ deckParams ++
  spanParams ++ secParams ++ storeParams ++ cascParams ++ faultParams

/-- The number by which a parameter's object is selected: Span, Channel or index, as its type uses (R84). -/
def keyNum (k : Nat) : Nat :=
  if keyTyp k == 0x03 then keySpan k
  else if keyTyp k == 0x04 then keyChan k
  else if keyTyp k == 0x01 then 0
  else keyIdx k

/-- Does the row give the object of a type and number the parameter `pid`? -/
def ParamDesc.names (d : ParamDesc) (typ num pid : Nat) : Bool :=
  Nat.ble d.pid pid && Nat.ble pid d.last && Nat.beq d.typ typ && Nat.ble d.nLo num && Nat.ble num d.nHi

/-- The parameter that an object key and an ID name, if the tables give one. -/
def paramAt (okey pid : Nat) : Option ParamDesc := paramDescs.find? (fun d => d.names (keyTyp okey) (keyNum okey) pid)

/-- A mode of R156 that the CAN Channel has. -/
def canModeOk (chan v : Nat) : Bool :=
  if v == 2 then decide (chan < 40) else if v == 3 then decide (40 ≤ chan) else decide (v ≤ 1)

/-- The MODE codes of R122 that a port has: 10GBASE-R on F[0]..F[3], modes 2 to 4 on F[4]..F[11],
10BASE-T1S on F[12]..F[19], and mode 6 alone on the Pier ports (R125). -/
def ethModeOk (p v : Nat) : Bool :=
  if p ≤ 3 then v == 1
  else if p ≤ 11 then v == 2 || v == 3 || v == 4
  else if p ≤ 19 then v == 5
  else v == 6

/-- Is the value in the range of its parameter? -/
def paramOk (d : ParamDesc) (okey pid v : Nat) : Bool :=
  d.ok v &&
  (if d.cls == cCan && pid == 0x0100 then canModeOk (keyChan okey) v
   else if d.cls == cEth && pid == 0x0100 then ethModeOk (keyChan okey) v
   else if d.cls == cEth && pid == 0x0103 then decide (keyChan okey ≤ 19)
   else true)

/-! ### Committed configuration that is no parameter

Commands of kind C stage more than parameters. Each such value has a key with an ID from 0xC000 on, which WIDTH 3 keeps
out of every parameter's way (R85). -/

/-- Span of a Channel (R109, R19). -/
def pidSpan : Nat := 0xC001
/-- FDB.LEARN_SET's LEARN_EN and LIMIT of a port (R226), and FDB.AGEING_SET's PERIOD of the Deck (R227). -/
def pidLearnEn : Nat := 0xC010
def pidLearnLimit : Nat := 0xC011
def pidAgeing : Nat := 0xC012
/-- The raw value of an entry that no parameter names: static FDB, CAN direct, CAN hash, reaction of a fault input,
gate list, shaper, histogram, schedule, wake pattern, timed output, client (by object type). -/
def pidRaw (i : Nat) : Nat := 0xC020 + i
/-- Selective-wake masks of a CAN Channel (R393), frame table of a LIN Channel (R195), mirroring (R495). -/
def pidSwake : Nat := 0xC040
def pidFrameTable : Nat := 0xC041
def pidMirror : Nat := 0xC042
/-- Standby link of the ring (R509), and the watchdog's OPEN, CLOSE and BOOT (R533), on the DECK object. -/
def pidStandby : Nat := 0xC043
def pidWatchdog (i : Nat) : Nat := 0xC044 + i

/-- Reactions of R528: ACTION in [1:0], FAULT_N in [2], LATCH in [3]. -/
def rxNone : Nat := 0
def rxLatch : Nat := 8
def rxN : Nat := 4
def rxNLatch : Nat := 12
def rxNReset : Nat := 5
def rxNHalt : Nat := 6

/-- Default reaction of a fault input, R527. -/
def defaultReaction (i : Nat) : Nat :=
  match i with
  | 0 | 4 | 9 | 11 | 17 => rxNReset
  | 1 | 8 | 10 | 16 => rxNLatch
  | 3 | 5 | 7 | 15 => rxLatch
  | 6 => rxN
  | 13 => rxNHalt
  | _ => rxNone

/-- Least reaction of a fault input, R527. -/
def leastReaction (i : Nat) : Nat :=
  match i with
  | 0 | 4 | 6 | 16 | 17 => rxN
  | 1 | 8 | 10 => rxNLatch
  | 3 => rxLatch
  | 9 | 11 => rxNReset
  | 13 => rxNHalt
  | _ => rxNone

/-- Reset value of a configuration value that is no parameter. -/
def pseudoDefault (k : Nat) : Nat :=
  let t := keyTyp (pkeyObj k)
  let pid := pkeyPid k
  if t == 0x20 && pid == pidRaw 0 then defaultReaction (keyIdx (pkeyObj k))
  else if pid == pidLearnEn then 1
  else if pid == pidLearnLimit then 32768
  else if pid == pidAgeing then 300
  else if pid == pidWatchdog 0 then 5
  else if pid == pidWatchdog 1 then 100
  else if pid == pidWatchdog 2 then 500
  else if t == 0x05 && pid == pidRaw 1 then 1000
  else if t == 0x05 && pid == pidRaw 2 then 100
  else 0

/-- Reset value of a configuration key: the parameter's, or that of what is no parameter (an ID from 0xC000 on). -/
def cfgDefault (k : Nat) : Nat :=
  if Nat.ble 0xC000 (pkeyPid k) then pseudoDefault k
  else match paramAt (pkeyObj k) (pkeyPid k) with
  | some d => d.reset (keyNum (pkeyObj k)) (pkeyPid k)
  | none => pseudoDefault k

/-- Is the key's value kept in Brim non-volatile memory (R365, R379, R536)? -/
def inNvm (k : Nat) : Bool :=
  let pid := pkeyPid k
  pkeyObj k == oDeck && (decide (0x0F10 ≤ pid ∧ pid ≤ 0x0F23) || decide (0x1300 ≤ pid ∧ pid ≤ 0x1307) ||
    decide (0x1800 ≤ pid ∧ pid ≤ 0x1803) || decide (0x8010 ≤ pid ∧ pid ≤ 0x8017))

end Sys2Proof.Machine
end

