-- ==== Sys2Proof/Machine/Regs.lean ====
section
/-! DEFINITION. The registers of BAR0, from the register tables of spec/ (one row there, one field here):
their offsets (R26), their fields, access codes (R6), reset values and whether the host writes them (R9). -/

namespace Sys2Proof.Machine

/-- The access codes of R6. -/
inductive Access where
  | ro | rw | rc | w1c | w1s | wo
deriving DecidableEq, Repr

/-- A field of a register: the register's BAR0 offset and the bits `[hi:lo]`. -/
structure Field where
  off : Nat
  hi : Nat
  lo : Nat
deriving DecidableEq, Repr

/-- One row of a register table: the bits, the access code, and whether Written-by names the host. -/
structure FieldDesc where
  hi : Nat
  lo : Nat
  acc : Access
  host : Bool
deriving DecidableEq, Repr

/-- A register, or an array of like registers: `count` of them, `stride` bytes apart from `base` on. -/
structure RegDesc where
  name : String
  base : Nat
  stride : Nat
  count : Nat
  reset : Nat
  fields : List FieldDesc
deriving DecidableEq, Repr

/-- DECK_BOOT_STATUS (R47, spec/02_first_frame.md). -/
def DeckBootStatus.off : Nat := 0x40
def DeckBootStatus.stage : Field := ⟨DeckBootStatus.off, 3, 0⟩
def DeckBootStatus.flActive : Field := ⟨DeckBootStatus.off, 4, 4⟩
def DeckBootStatus.flSlot : Field := ⟨DeckBootStatus.off, 5, 5⟩
def DeckBootStatus.fwSlot : Field := ⟨DeckBootStatus.off, 6, 6⟩
def DeckBootStatus.cfSlot : Field := ⟨DeckBootStatus.off, 7, 7⟩
def DeckBootStatus.lastFail : Field := ⟨DeckBootStatus.off, 15, 8⟩
def DeckBootStatus.attemptsA : Field := ⟨DeckBootStatus.off, 17, 16⟩
def DeckBootStatus.attemptsB : Field := ⟨DeckBootStatus.off, 19, 18⟩
def DeckBootStatus.desc : RegDesc :=
  ⟨"DECK_BOOT_STATUS", 0x40, 0x0, 1, 0x1,
   [⟨3, 0, .ro, false⟩, ⟨4, 4, .ro, false⟩, ⟨5, 5, .ro, false⟩, ⟨6, 6, .ro, false⟩, ⟨7, 7, .ro, false⟩, ⟨15, 8, .ro, false⟩, ⟨17, 16, .ro, false⟩, ⟨19, 18, .ro, false⟩]⟩

/-- DECK_RESET_CAUSE (R47, spec/02_first_frame.md). -/
def DeckResetCause.off : Nat := 0x44
def DeckResetCause.vbatPor : Field := ⟨DeckResetCause.off, 0, 0⟩
def DeckResetCause.crownSupply : Field := ⟨DeckResetCause.off, 1, 1⟩
def DeckResetCause.boardPin : Field := ⟨DeckResetCause.off, 2, 2⟩
def DeckResetCause.watchdog : Field := ⟨DeckResetCause.off, 3, 3⟩
def DeckResetCause.fault : Field := ⟨DeckResetCause.off, 4, 4⟩
def DeckResetCause.command : Field := ⟨DeckResetCause.off, 5, 5⟩
def DeckResetCause.desc : RegDesc :=
  ⟨"DECK_RESET_CAUSE", 0x44, 0x0, 1, 0x1,
   [⟨0, 0, .w1c, true⟩, ⟨1, 1, .w1c, true⟩, ⟨2, 2, .w1c, true⟩, ⟨3, 3, .w1c, true⟩, ⟨4, 4, .w1c, true⟩, ⟨5, 5, .w1c, true⟩]⟩

/-- DECK_STRAPS (R47, spec/02_first_frame.md). -/
def DeckStraps.off : Nat := 0x48
def DeckStraps.bootSrc : Field := ⟨DeckStraps.off, 1, 0⟩
def DeckStraps.hostSel : Field := ⟨DeckStraps.off, 2, 2⟩
def DeckStraps.cascRank : Field := ⟨DeckStraps.off, 4, 3⟩
def DeckStraps.desc : RegDesc :=
  ⟨"DECK_STRAPS", 0x48, 0x0, 1, 0x0,
   [⟨1, 0, .ro, false⟩, ⟨2, 2, .ro, false⟩, ⟨4, 3, .ro, false⟩]⟩

/-- MB_CTRL (R54, spec/03_gci_mailboxes.md). -/
def MbCtrl.off (n : Nat) : Nat := 0x10000 + n * 0x1000
def MbCtrl.ack (n : Nat) : Field := ⟨MbCtrl.off n, 0, 0⟩
def MbCtrl.cancel (n : Nat) : Field := ⟨MbCtrl.off n, 1, 1⟩
def MbCtrl.respIrqEn (n : Nat) : Field := ⟨MbCtrl.off n, 2, 2⟩
def MbCtrl.desc : RegDesc :=
  ⟨"MB_CTRL", 0x10000, 0x1000, 16, 0x0,
   [⟨0, 0, .wo, true⟩, ⟨1, 1, .wo, true⟩, ⟨2, 2, .rw, true⟩]⟩

/-- MB_STATUS (R54, spec/03_gci_mailboxes.md). -/
def MbStatus.off (n : Nat) : Nat := 0x10004 + n * 0x1000
def MbStatus.state (n : Nat) : Field := ⟨MbStatus.off n, 2, 0⟩
def MbStatus.protoErr (n : Nat) : Field := ⟨MbStatus.off n, 3, 3⟩
def MbStatus.cancelled (n : Nat) : Field := ⟨MbStatus.off n, 4, 4⟩
def MbStatus.tickets (n : Nat) : Field := ⟨MbStatus.off n, 10, 8⟩
def MbStatus.desc : RegDesc :=
  ⟨"MB_STATUS", 0x10004, 0x1000, 16, 0x0,
   [⟨2, 0, .ro, false⟩, ⟨3, 3, .w1c, true⟩, ⟨4, 4, .ro, false⟩, ⟨10, 8, .ro, false⟩]⟩

/-- MB_DOORBELL (R54, spec/03_gci_mailboxes.md). -/
def MbDoorbell.off (n : Nat) : Nat := 0x10008 + n * 0x1000
def MbDoorbell.seq (n : Nat) : Field := ⟨MbDoorbell.off n, 15, 0⟩
def MbDoorbell.ring (n : Nat) : Field := ⟨MbDoorbell.off n, 31, 16⟩
def MbDoorbell.desc : RegDesc :=
  ⟨"MB_DOORBELL", 0x10008, 0x1000, 16, 0x0,
   [⟨15, 0, .wo, true⟩, ⟨31, 16, .wo, true⟩]⟩

/-- MB_SEQ (R54, spec/03_gci_mailboxes.md). -/
def MbSeq.off (n : Nat) : Nat := 0x1000C + n * 0x1000
def MbSeq.lastPosted (n : Nat) : Field := ⟨MbSeq.off n, 15, 0⟩
def MbSeq.lastAnswered (n : Nat) : Field := ⟨MbSeq.off n, 31, 16⟩
def MbSeq.desc : RegDesc :=
  ⟨"MB_SEQ", 0x1000C, 0x1000, 16, 0xFFFFFFFF,
   [⟨15, 0, .ro, false⟩, ⟨31, 16, .ro, false⟩]⟩

/-- MB_OWNER (R54, spec/03_gci_mailboxes.md). -/
def MbOwner.off (n : Nat) : Nat := 0x10010 + n * 0x1000
def MbOwner.client (n : Nat) : Field := ⟨MbOwner.off n, 2, 0⟩
def MbOwner.transport (n : Nat) : Field := ⟨MbOwner.off n, 4, 3⟩
def MbOwner.assigned (n : Nat) : Field := ⟨MbOwner.off n, 5, 5⟩
def MbOwner.session (n : Nat) : Field := ⟨MbOwner.off n, 15, 8⟩
def MbOwner.weight (n : Nat) : Field := ⟨MbOwner.off n, 19, 16⟩
def MbOwner.desc : RegDesc :=
  ⟨"MB_OWNER", 0x10010, 0x1000, 16, 0x0,
   [⟨2, 0, .ro, false⟩, ⟨4, 3, .ro, false⟩, ⟨5, 5, .ro, false⟩, ⟨15, 8, .ro, false⟩, ⟨19, 16, .ro, false⟩]⟩

/-- PORT_STATUS (R127, spec/05_ethernet_ports.md). -/
def PortStatus.off (n : Nat) : Nat := 0x100000 + n * 0x4000
def PortStatus.linkUp (n : Nat) : Field := ⟨PortStatus.off n, 0, 0⟩
def PortStatus.holding (n : Nat) : Field := ⟨PortStatus.off n, 1, 1⟩
def PortStatus.flushing (n : Nat) : Field := ⟨PortStatus.off n, 2, 2⟩
def PortStatus.modeActive (n : Nat) : Field := ⟨PortStatus.off n, 5, 3⟩
def PortStatus.speed (n : Nat) : Field := ⟨PortStatus.off n, 7, 6⟩
def PortStatus.anDone (n : Nat) : Field := ⟨PortStatus.off n, 8, 8⟩
def PortStatus.halfDuplex (n : Nat) : Field := ⟨PortStatus.off n, 9, 9⟩
def PortStatus.storm (n : Nat) : Field := ⟨PortStatus.off n, 10, 10⟩
def PortStatus.verify (n : Nat) : Field := ⟨PortStatus.off n, 12, 11⟩
def PortStatus.plcaOk (n : Nat) : Field := ⟨PortStatus.off n, 13, 13⟩
def PortStatus.laneGated (n : Nat) : Field := ⟨PortStatus.off n, 14, 14⟩
def PortStatus.desc : RegDesc :=
  ⟨"PORT_STATUS", 0x100000, 0x4000, 22, 0xC0,
   [⟨0, 0, .ro, false⟩, ⟨1, 1, .ro, false⟩, ⟨2, 2, .ro, false⟩, ⟨5, 3, .ro, false⟩, ⟨7, 6, .ro, false⟩, ⟨8, 8, .ro, false⟩, ⟨9, 9, .ro, false⟩, ⟨10, 10, .ro, false⟩, ⟨12, 11, .ro, false⟩, ⟨13, 13, .ro, false⟩, ⟨14, 14, .ro, false⟩]⟩

/-- PORT_EVENTS (R127, spec/05_ethernet_ports.md). -/
def PortEvents.off (n : Nat) : Nat := 0x100004 + n * 0x4000
def PortEvents.linkChange (n : Nat) : Field := ⟨PortEvents.off n, 0, 0⟩
def PortEvents.stormEnter (n : Nat) : Field := ⟨PortEvents.off n, 1, 1⟩
def PortEvents.stormExit (n : Nat) : Field := ⟨PortEvents.off n, 2, 2⟩
def PortEvents.verifyFail (n : Nat) : Field := ⟨PortEvents.off n, 3, 3⟩
def PortEvents.plcaFallback (n : Nat) : Field := ⟨PortEvents.off n, 4, 4⟩
def PortEvents.wakeMatch (n : Nat) : Field := ⟨PortEvents.off n, 5, 5⟩
def PortEvents.headroomEmpty (n : Nat) : Field := ⟨PortEvents.off n, 6, 6⟩
def PortEvents.desc : RegDesc :=
  ⟨"PORT_EVENTS", 0x100004, 0x4000, 22, 0x0,
   [⟨0, 0, .w1c, true⟩, ⟨1, 1, .w1c, true⟩, ⟨2, 2, .w1c, true⟩, ⟨3, 3, .w1c, true⟩, ⟨4, 4, .w1c, true⟩, ⟨5, 5, .w1c, true⟩, ⟨6, 6, .w1c, true⟩]⟩

/-- PORT_PAUSE_STATUS (R127, spec/05_ethernet_ports.md). -/
def PortPauseStatus.off (n : Nat) : Nat := 0x100008 + n * 0x4000
def PortPauseStatus.rxPaused (n : Nat) : Field := ⟨PortPauseStatus.off n, 7, 0⟩
def PortPauseStatus.txXoff (n : Nat) : Field := ⟨PortPauseStatus.off n, 15, 8⟩
def PortPauseStatus.stormClasses (n : Nat) : Field := ⟨PortPauseStatus.off n, 23, 16⟩
def PortPauseStatus.desc : RegDesc :=
  ⟨"PORT_PAUSE_STATUS", 0x100008, 0x4000, 22, 0x0,
   [⟨7, 0, .ro, false⟩, ⟨15, 8, .ro, false⟩, ⟨23, 16, .ro, false⟩]⟩

/-- CAN_STATUS (R191, spec/06_can_lin.md). -/
def CanStatus.off (n : Nat) : Nat := 0x80000 + n * 0x1000
def CanStatus.errState (n : Nat) : Field := ⟨CanStatus.off n, 1, 0⟩
def CanStatus.recovering (n : Nat) : Field := ⟨CanStatus.off n, 2, 2⟩
def CanStatus.warning (n : Nat) : Field := ⟨CanStatus.off n, 3, 3⟩
def CanStatus.restricted (n : Nat) : Field := ⟨CanStatus.off n, 4, 4⟩
def CanStatus.monitor (n : Nat) : Field := ⟨CanStatus.off n, 5, 5⟩
def CanStatus.lonely (n : Nat) : Field := ⟨CanStatus.off n, 6, 6⟩
def CanStatus.integrating (n : Nat) : Field := ⟨CanStatus.off n, 7, 7⟩
def CanStatus.xcvrMode (n : Nat) : Field := ⟨CanStatus.off n, 9, 8⟩
def CanStatus.atArmed (n : Nat) : Field := ⟨CanStatus.off n, 10, 10⟩
def CanStatus.enabled (n : Nat) : Field := ⟨CanStatus.off n, 11, 11⟩
def CanStatus.draining (n : Nat) : Field := ⟨CanStatus.off n, 12, 12⟩
def CanStatus.laneGated (n : Nat) : Field := ⟨CanStatus.off n, 13, 13⟩
def CanStatus.fifoLevel (n : Nat) : Field := ⟨CanStatus.off n, 18, 14⟩
def CanStatus.desc : RegDesc :=
  ⟨"CAN_STATUS", 0x80000, 0x1000, 64, 0x280,
   [⟨1, 0, .ro, false⟩, ⟨2, 2, .ro, false⟩, ⟨3, 3, .ro, false⟩, ⟨4, 4, .ro, false⟩, ⟨5, 5, .ro, false⟩, ⟨6, 6, .ro, false⟩, ⟨7, 7, .ro, false⟩, ⟨9, 8, .ro, false⟩, ⟨10, 10, .ro, false⟩, ⟨11, 11, .ro, false⟩, ⟨12, 12, .ro, false⟩, ⟨13, 13, .ro, false⟩, ⟨18, 14, .ro, false⟩]⟩

/-- CAN_EVENTS (R191, spec/06_can_lin.md). -/
def CanEvents.off (n : Nat) : Nat := 0x80004 + n * 0x1000
def CanEvents.errStateChange (n : Nat) : Field := ⟨CanEvents.off n, 0, 0⟩
def CanEvents.busOff (n : Nat) : Field := ⟨CanEvents.off n, 1, 1⟩
def CanEvents.recovered (n : Nat) : Field := ⟨CanEvents.off n, 2, 2⟩
def CanEvents.lonelyBus (n : Nat) : Field := ⟨CanEvents.off n, 3, 3⟩
def CanEvents.ringErr (n : Nat) : Field := ⟨CanEvents.off n, 4, 4⟩
def CanEvents.rxqOverrun (n : Nat) : Field := ⟨CanEvents.off n, 5, 5⟩
def CanEvents.protocolException (n : Nat) : Field := ⟨CanEvents.off n, 6, 6⟩
def CanEvents.desc : RegDesc :=
  ⟨"CAN_EVENTS", 0x80004, 0x1000, 64, 0x0,
   [⟨0, 0, .w1c, true⟩, ⟨1, 1, .w1c, true⟩, ⟨2, 2, .w1c, true⟩, ⟨3, 3, .w1c, true⟩, ⟨4, 4, .w1c, true⟩, ⟨5, 5, .w1c, true⟩, ⟨6, 6, .w1c, true⟩]⟩

/-- CAN_ERR_STATUS (R191, spec/06_can_lin.md). -/
def CanErrStatus.off (n : Nat) : Nat := 0x80008 + n * 0x1000
def CanErrStatus.tec (n : Nat) : Field := ⟨CanErrStatus.off n, 8, 0⟩
def CanErrStatus.rec (n : Nat) : Field := ⟨CanErrStatus.off n, 23, 16⟩
def CanErrStatus.lec (n : Nat) : Field := ⟨CanErrStatus.off n, 26, 24⟩
def CanErrStatus.lecData (n : Nat) : Field := ⟨CanErrStatus.off n, 27, 27⟩
def CanErrStatus.desc : RegDesc :=
  ⟨"CAN_ERR_STATUS", 0x80008, 0x1000, 64, 0x0,
   [⟨8, 0, .ro, false⟩, ⟨23, 16, .ro, false⟩, ⟨26, 24, .ro, false⟩, ⟨27, 27, .ro, false⟩]⟩

/-- RXQ_HEAD (R191, spec/06_can_lin.md). -/
def RxqHead.off (n : Nat) : Nat := 0x80010 + n * 0x1000
def RxqHead.index (n : Nat) : Field := ⟨RxqHead.off n, 10, 0⟩
def RxqHead.wrap (n : Nat) : Field := ⟨RxqHead.off n, 11, 11⟩
def RxqHead.desc : RegDesc :=
  ⟨"RXQ_HEAD", 0x80010, 0x1000, 64, 0x0,
   [⟨10, 0, .ro, false⟩, ⟨11, 11, .ro, false⟩]⟩

/-- TXQ_TAIL (R191, spec/06_can_lin.md). -/
def TxqTail.off (n : Nat) : Nat := 0x8001C + n * 0x1000
def TxqTail.index (n : Nat) : Field := ⟨TxqTail.off n, 10, 0⟩
def TxqTail.wrap (n : Nat) : Field := ⟨TxqTail.off n, 11, 11⟩
def TxqTail.desc : RegDesc :=
  ⟨"TXQ_TAIL", 0x8001C, 0x1000, 64, 0x0,
   [⟨10, 0, .ro, false⟩, ⟨11, 11, .ro, false⟩]⟩

/-- TXC_HEAD (R191, spec/06_can_lin.md). -/
def TxcHead.off (n : Nat) : Nat := 0x80020 + n * 0x1000
def TxcHead.index (n : Nat) : Field := ⟨TxcHead.off n, 10, 0⟩
def TxcHead.wrap (n : Nat) : Field := ⟨TxcHead.off n, 11, 11⟩
def TxcHead.desc : RegDesc :=
  ⟨"TXC_HEAD", 0x80020, 0x1000, 64, 0x0,
   [⟨10, 0, .ro, false⟩, ⟨11, 11, .ro, false⟩]⟩

/-- RXQ_TAIL (R191, spec/06_can_lin.md). -/
def RxqTail.off (n : Nat) : Nat := 0x80014 + n * 0x1000
def RxqTail.index (n : Nat) : Field := ⟨RxqTail.off n, 10, 0⟩
def RxqTail.wrap (n : Nat) : Field := ⟨RxqTail.off n, 11, 11⟩
def RxqTail.desc : RegDesc :=
  ⟨"RXQ_TAIL", 0x80014, 0x1000, 64, 0x0,
   [⟨10, 0, .rw, true⟩, ⟨11, 11, .rw, true⟩]⟩

/-- TXQ_HEAD (R191, spec/06_can_lin.md). -/
def TxqHead.off (n : Nat) : Nat := 0x80018 + n * 0x1000
def TxqHead.index (n : Nat) : Field := ⟨TxqHead.off n, 10, 0⟩
def TxqHead.wrap (n : Nat) : Field := ⟨TxqHead.off n, 11, 11⟩
def TxqHead.desc : RegDesc :=
  ⟨"TXQ_HEAD", 0x80018, 0x1000, 64, 0x0,
   [⟨10, 0, .rw, true⟩, ⟨11, 11, .rw, true⟩]⟩

/-- TXC_TAIL (R191, spec/06_can_lin.md). -/
def TxcTail.off (n : Nat) : Nat := 0x80024 + n * 0x1000
def TxcTail.index (n : Nat) : Field := ⟨TxcTail.off n, 10, 0⟩
def TxcTail.wrap (n : Nat) : Field := ⟨TxcTail.off n, 11, 11⟩
def TxcTail.desc : RegDesc :=
  ⟨"TXC_TAIL", 0x80024, 0x1000, 64, 0x0,
   [⟨10, 0, .rw, true⟩, ⟨11, 11, .rw, true⟩]⟩

/-- LIN_STATUS (R204, spec/06_can_lin.md). -/
def LinStatus.off (n : Nat) : Nat := 0xC0000 + n * 0x1000
def LinStatus.roleActive (n : Nat) : Field := ⟨LinStatus.off n, 1, 0⟩
def LinStatus.running (n : Nat) : Field := ⟨LinStatus.off n, 2, 2⟩
def LinStatus.table (n : Nat) : Field := ⟨LinStatus.off n, 7, 3⟩
def LinStatus.entry (n : Nat) : Field := ⟨LinStatus.off n, 13, 8⟩
def LinStatus.collRes (n : Nat) : Field := ⟨LinStatus.off n, 14, 14⟩
def LinStatus.sleepSent (n : Nat) : Field := ⟨LinStatus.off n, 15, 15⟩
def LinStatus.busIdle (n : Nat) : Field := ⟨LinStatus.off n, 16, 16⟩
def LinStatus.laneGated (n : Nat) : Field := ⟨LinStatus.off n, 17, 17⟩
def LinStatus.desc : RegDesc :=
  ⟨"LIN_STATUS", 0xC0000, 0x1000, 16, 0x0,
   [⟨1, 0, .ro, false⟩, ⟨2, 2, .ro, false⟩, ⟨7, 3, .ro, false⟩, ⟨13, 8, .ro, false⟩, ⟨14, 14, .ro, false⟩, ⟨15, 15, .ro, false⟩, ⟨16, 16, .ro, false⟩, ⟨17, 17, .ro, false⟩]⟩

/-- LIN_EVENTS (R204, spec/06_can_lin.md). -/
def LinEvents.off (n : Nat) : Nat := 0xC0004 + n * 0x1000
def LinEvents.noResponse (n : Nat) : Field := ⟨LinEvents.off n, 0, 0⟩
def LinEvents.checksumErr (n : Nat) : Field := ⟨LinEvents.off n, 1, 1⟩
def LinEvents.headerErr (n : Nat) : Field := ⟨LinEvents.off n, 2, 2⟩
def LinEvents.collision (n : Nat) : Field := ⟨LinEvents.off n, 3, 3⟩
def LinEvents.sleepSent (n : Nat) : Field := ⟨LinEvents.off n, 4, 4⟩
def LinEvents.wakeupSent (n : Nat) : Field := ⟨LinEvents.off n, 5, 5⟩
def LinEvents.busIdle (n : Nat) : Field := ⟨LinEvents.off n, 6, 6⟩
def LinEvents.bitErr (n : Nat) : Field := ⟨LinEvents.off n, 7, 7⟩
def LinEvents.desc : RegDesc :=
  ⟨"LIN_EVENTS", 0xC0004, 0x1000, 16, 0x0,
   [⟨0, 0, .w1c, true⟩, ⟨1, 1, .w1c, true⟩, ⟨2, 2, .w1c, true⟩, ⟨3, 3, .w1c, true⟩, ⟨4, 4, .w1c, true⟩, ⟨5, 5, .w1c, true⟩, ⟨6, 6, .w1c, true⟩, ⟨7, 7, .w1c, true⟩]⟩

/-- SW_STATUS (R281, spec/08_switch_core.md). -/
def SwStatus.off : Nat := 0x100
def SwStatus.fallback : Field := ⟨SwStatus.off, 0, 0⟩
def SwStatus.shadow : Field := ⟨SwStatus.off, 1, 1⟩
def SwStatus.scanning : Field := ⟨SwStatus.off, 2, 2⟩
def SwStatus.auditPass : Field := ⟨SwStatus.off, 15, 8⟩
def SwStatus.desc : RegDesc :=
  ⟨"SW_STATUS", 0x100, 0x0, 1, 0x0,
   [⟨0, 0, .ro, false⟩, ⟨1, 1, .ro, false⟩, ⟨2, 2, .ro, false⟩, ⟨15, 8, .ro, false⟩]⟩

/-- SW_FREE_CELLS (R281, spec/08_switch_core.md). -/
def SwFreeCells.off : Nat := 0x104
def SwFreeCells.count : Field := ⟨SwFreeCells.off, 18, 0⟩
def SwFreeCells.desc : RegDesc :=
  ⟨"SW_FREE_CELLS", 0x104, 0x0, 1, 0x0,
   [⟨18, 0, .ro, false⟩]⟩

/-- SW_SHARED_FREE (R281, spec/08_switch_core.md). -/
def SwSharedFree.off : Nat := 0x108
def SwSharedFree.count : Field := ⟨SwSharedFree.off, 18, 0⟩
def SwSharedFree.desc : RegDesc :=
  ⟨"SW_SHARED_FREE", 0x108, 0x0, 1, 0x0,
   [⟨18, 0, .ro, false⟩]⟩

/-- SW_KEYSTONE_FREE (R281, spec/08_switch_core.md). -/
def SwKeystoneFree.off : Nat := 0x10C
def SwKeystoneFree.count : Field := ⟨SwKeystoneFree.off, 18, 0⟩
def SwKeystoneFree.desc : RegDesc :=
  ⟨"SW_KEYSTONE_FREE", 0x10C, 0x0, 1, 0x0,
   [⟨18, 0, .ro, false⟩]⟩

/-- SW_FREE_DESC (R281, spec/08_switch_core.md). -/
def SwFreeDesc.off : Nat := 0x110
def SwFreeDesc.count : Field := ⟨SwFreeDesc.off, 18, 0⟩
def SwFreeDesc.desc : RegDesc :=
  ⟨"SW_FREE_DESC", 0x110, 0x0, 1, 0x0,
   [⟨18, 0, .ro, false⟩]⟩

/-- SW_EVENTS (R281, spec/08_switch_core.md). -/
def SwEvents.off : Nat := 0x114
def SwEvents.twinMismatch : Field := ⟨SwEvents.off, 0, 0⟩
def SwEvents.fallbackEnter : Field := ⟨SwEvents.off, 1, 1⟩
def SwEvents.fallbackExit : Field := ⟨SwEvents.off, 2, 2⟩
def SwEvents.leakReclaim : Field := ⟨SwEvents.off, 3, 3⟩
def SwEvents.linkMismatch : Field := ⟨SwEvents.off, 4, 4⟩
def SwEvents.eccUncorr : Field := ⟨SwEvents.off, 5, 5⟩
def SwEvents.descCountErr : Field := ⟨SwEvents.off, 6, 6⟩
def SwEvents.queueBroken : Field := ⟨SwEvents.off, 7, 7⟩
def SwEvents.desc : RegDesc :=
  ⟨"SW_EVENTS", 0x114, 0x0, 1, 0x0,
   [⟨0, 0, .w1c, true⟩, ⟨1, 1, .w1c, true⟩, ⟨2, 2, .w1c, true⟩, ⟨3, 3, .w1c, true⟩, ⟨4, 4, .w1c, true⟩, ⟨5, 5, .w1c, true⟩, ⟨6, 6, .w1c, true⟩, ⟨7, 7, .w1c, true⟩]⟩

/-- Q_STATUS (R282, spec/08_switch_core.md). -/
def QStatus.off (n : Nat) : Nat := 0x200000 + n * 0x400
def QStatus.occ (n : Nat) : Field := ⟨QStatus.off n, 18, 0⟩
def QStatus.disabled (n : Nat) : Field := ⟨QStatus.off n, 19, 19⟩
def QStatus.draining (n : Nat) : Field := ⟨QStatus.off n, 20, 20⟩
def QStatus.broken (n : Nat) : Field := ⟨QStatus.off n, 21, 21⟩
def QStatus.desc : RegDesc :=
  ⟨"Q_STATUS", 0x200000, 0x400, 2048, 0x0,
   [⟨18, 0, .ro, false⟩, ⟨19, 19, .ro, false⟩, ⟨20, 20, .ro, false⟩, ⟨21, 21, .ro, false⟩]⟩

/-- Q_DESC (R282, spec/08_switch_core.md). -/
def QDesc.off (n : Nat) : Nat := 0x200004 + n * 0x400
def QDesc.count (n : Nat) : Field := ⟨QDesc.off n, 16, 0⟩
def QDesc.desc : RegDesc :=
  ⟨"Q_DESC", 0x200004, 0x400, 2048, 0x0,
   [⟨16, 0, .ro, false⟩]⟩

/-- Q_PEAK (R282, spec/08_switch_core.md). -/
def QPeak.off (n : Nat) : Nat := 0x200008 + n * 0x400
def QPeak.peak (n : Nat) : Field := ⟨QPeak.off n, 18, 0⟩
def QPeak.desc : RegDesc :=
  ⟨"Q_PEAK", 0x200008, 0x400, 2048, 0x0,
   [⟨18, 0, .rc, false⟩]⟩

/-- SGE_STATUS (R310, spec/09_signal_gateway.md). -/
def SgeStatus.off : Nat := 0x300
def SgeStatus.modeActive : Field := ⟨SgeStatus.off, 1, 0⟩
def SgeStatus.busy : Field := ⟨SgeStatus.off, 12, 8⟩
def SgeStatus.desc : RegDesc :=
  ⟨"SGE_STATUS", 0x300, 0x0, 1, 0x0,
   [⟨1, 0, .ro, false⟩, ⟨12, 8, .ro, false⟩]⟩

/-- SGE_EVENTS (R310, spec/09_signal_gateway.md). -/
def SgeEvents.off : Nat := 0x304
def SgeEvents.deadlineMiss : Field := ⟨SgeEvents.off, 0, 0⟩
def SgeEvents.jobDrop : Field := ⟨SgeEvents.off, 1, 1⟩
def SgeEvents.e2eFail : Field := ⟨SgeEvents.off, 2, 2⟩
def SgeEvents.programFault : Field := ⟨SgeEvents.off, 3, 3⟩
def SgeEvents.drainDone : Field := ⟨SgeEvents.off, 4, 4⟩
def SgeEvents.desc : RegDesc :=
  ⟨"SGE_EVENTS", 0x304, 0x0, 1, 0x0,
   [⟨0, 0, .w1c, true⟩, ⟨1, 1, .w1c, true⟩, ⟨2, 2, .w1c, true⟩, ⟨3, 3, .w1c, true⟩, ⟨4, 4, .w1c, true⟩]⟩

/-- SGE_READY (R310, spec/09_signal_gateway.md). -/
def SgeReady.off : Nat := 0x308
def SgeReady.count : Field := ⟨SgeReady.off, 12, 0⟩
def SgeReady.peak : Field := ⟨SgeReady.off, 28, 16⟩
def SgeReady.desc : RegDesc :=
  ⟨"SGE_READY", 0x308, 0x0, 1, 0x0,
   [⟨12, 0, .ro, false⟩, ⟨28, 16, .rc, false⟩]⟩

/-- HIST_STATUS (R335, spec/10_egress_scheduling.md). -/
def HistStatus.off (n : Nat) : Nat := 0x200100 + n * 0x400
def HistStatus.depthEn (n : Nat) : Field := ⟨HistStatus.off n, 0, 0⟩
def HistStatus.sojEn (n : Nat) : Field := ⟨HistStatus.off n, 1, 1⟩
def HistStatus.desc : RegDesc :=
  ⟨"HIST_STATUS", 0x200100, 0x400, 2048, 0x0,
   [⟨0, 0, .ro, false⟩, ⟨1, 1, .ro, false⟩]⟩

/-- HIST_PERIOD (R335, spec/10_egress_scheduling.md). -/
def HistPeriod.off (n : Nat) : Nat := 0x200104 + n * 0x400
def HistPeriod.period (n : Nat) : Field := ⟨HistPeriod.off n, 19, 0⟩
def HistPeriod.desc : RegDesc :=
  ⟨"HIST_PERIOD", 0x200104, 0x400, 2048, 0x3E8,
   [⟨19, 0, .ro, false⟩]⟩

/-- HIST_BASE (R335, spec/10_egress_scheduling.md). -/
def HistBase.off (n : Nat) : Nat := 0x200108 + n * 0x400
def HistBase.sojBase (n : Nat) : Field := ⟨HistBase.off n, 19, 0⟩
def HistBase.desc : RegDesc :=
  ⟨"HIST_BASE", 0x200108, 0x400, 2048, 0x64,
   [⟨19, 0, .ro, false⟩]⟩

/-- TSQ_HEAD (R350, spec/11_time.md). -/
def TsqHead.off (n : Nat) : Nat := 0x102000 + n * 0x4000
def TsqHead.index (n : Nat) : Field := ⟨TsqHead.off n, 3, 0⟩
def TsqHead.wrap (n : Nat) : Field := ⟨TsqHead.off n, 4, 4⟩
def TsqHead.desc : RegDesc :=
  ⟨"TSQ_HEAD", 0x102000, 0x4000, 22, 0x0,
   [⟨3, 0, .ro, false⟩, ⟨4, 4, .ro, false⟩]⟩

/-- TSQ_TAIL (R350, spec/11_time.md). -/
def TsqTail.off (n : Nat) : Nat := 0x102004 + n * 0x4000
def TsqTail.index (n : Nat) : Field := ⟨TsqTail.off n, 3, 0⟩
def TsqTail.wrap (n : Nat) : Field := ⟨TsqTail.off n, 4, 4⟩
def TsqTail.desc : RegDesc :=
  ⟨"TSQ_TAIL", 0x102004, 0x4000, 22, 0x0,
   [⟨3, 0, .rw, true⟩, ⟨4, 4, .rw, true⟩]⟩

/-- TIME_STATUS (R358, spec/11_time.md). -/
def TimeStatus.off : Nat := 0x180000
def TimeStatus.aState : Field := ⟨TimeStatus.off, 1, 0⟩
def TimeStatus.bState : Field := ⟨TimeStatus.off, 3, 2⟩
def TimeStatus.source : Field := ⟨TimeStatus.off, 5, 4⟩
def TimeStatus.slewing : Field := ⟨TimeStatus.off, 6, 6⟩
def TimeStatus.pierFollow : Field := ⟨TimeStatus.off, 7, 7⟩
def TimeStatus.outOn : Field := ⟨TimeStatus.off, 11, 8⟩
def TimeStatus.desc : RegDesc :=
  ⟨"TIME_STATUS", 0x180000, 0x0, 1, 0x30,
   [⟨1, 0, .ro, false⟩, ⟨3, 2, .ro, false⟩, ⟨5, 4, .ro, false⟩, ⟨6, 6, .ro, false⟩, ⟨7, 7, .ro, false⟩, ⟨11, 8, .ro, false⟩]⟩

/-- TIME_EVENTS (R358, spec/11_time.md). -/
def TimeEvents.off : Nat := 0x180004
def TimeEvents.domainLost : Field := ⟨TimeEvents.off, 0, 0⟩
def TimeEvents.domainLocked : Field := ⟨TimeEvents.off, 1, 1⟩
def TimeEvents.workSwitch : Field := ⟨TimeEvents.off, 2, 2⟩
def TimeEvents.workStep : Field := ⟨TimeEvents.off, 3, 3⟩
def TimeEvents.slewDone : Field := ⟨TimeEvents.off, 4, 4⟩
def TimeEvents.outputMissed : Field := ⟨TimeEvents.off, 5, 5⟩
def TimeEvents.pierTimeLost : Field := ⟨TimeEvents.off, 6, 6⟩
def TimeEvents.captureDrop : Field := ⟨TimeEvents.off, 7, 7⟩
def TimeEvents.desc : RegDesc :=
  ⟨"TIME_EVENTS", 0x180004, 0x0, 1, 0x0,
   [⟨0, 0, .w1c, true⟩, ⟨1, 1, .w1c, true⟩, ⟨2, 2, .w1c, true⟩, ⟨3, 3, .w1c, true⟩, ⟨4, 4, .w1c, true⟩, ⟨5, 5, .w1c, true⟩, ⟨6, 6, .w1c, true⟩, ⟨7, 7, .w1c, true⟩]⟩

/-- CONV_SEL (R358, spec/11_time.md). -/
def ConvSel.off : Nat := 0x180088
def ConvSel.clock : Field := ⟨ConvSel.off, 1, 0⟩
def ConvSel.port : Field := ⟨ConvSel.off, 6, 2⟩
def ConvSel.dir : Field := ⟨ConvSel.off, 7, 7⟩
def ConvSel.go : Field := ⟨ConvSel.off, 8, 8⟩
def ConvSel.desc : RegDesc :=
  ⟨"CONV_SEL", 0x180088, 0x0, 1, 0x7E,
   [⟨1, 0, .rw, true⟩, ⟨6, 2, .rw, true⟩, ⟨7, 7, .rw, true⟩, ⟨8, 8, .wo, true⟩]⟩

/-- CONV_STATUS (R358, spec/11_time.md). -/
def ConvStatus.off : Nat := 0x18008C
def ConvStatus.busy : Field := ⟨ConvStatus.off, 0, 0⟩
def ConvStatus.stale : Field := ⟨ConvStatus.off, 1, 1⟩
def ConvStatus.err : Field := ⟨ConvStatus.off, 2, 2⟩
def ConvStatus.desc : RegDesc :=
  ⟨"CONV_STATUS", 0x18008C, 0x0, 1, 0x0,
   [⟨0, 0, .ro, false⟩, ⟨1, 1, .ro, false⟩, ⟨2, 2, .ro, false⟩]⟩

/-- PWR_STATUS (R377, spec/12_hatband_power.md). -/
def PwrStatus.off : Nat := 0x400
def PwrStatus.state : Field := ⟨PwrStatus.off, 2, 0⟩
def PwrStatus.prevState : Field := ⟨PwrStatus.off, 5, 3⟩
def PwrStatus.inhOn : Field := ⟨PwrStatus.off, 9, 6⟩
def PwrStatus.xoscOk : Field := ⟨PwrStatus.off, 10, 10⟩
def PwrStatus.lpBlocked : Field := ⟨PwrStatus.off, 11, 11⟩
def PwrStatus.retries : Field := ⟨PwrStatus.off, 13, 12⟩
def PwrStatus.desc : RegDesc :=
  ⟨"PWR_STATUS", 0x400, 0x0, 1, 0x4,
   [⟨2, 0, .ro, false⟩, ⟨5, 3, .ro, false⟩, ⟨9, 6, .ro, false⟩, ⟨10, 10, .ro, false⟩, ⟨11, 11, .ro, false⟩, ⟨13, 12, .ro, false⟩]⟩

/-- PWR_EVENTS (R377, spec/12_hatband_power.md). -/
def PwrEvents.off : Nat := 0x404
def PwrEvents.lowPowerAbort : Field := ⟨PwrEvents.off, 0, 0⟩
def PwrEvents.nvmFail : Field := ⟨PwrEvents.off, 1, 1⟩
def PwrEvents.crystalFail : Field := ⟨PwrEvents.off, 2, 2⟩
def PwrEvents.thermWarn : Field := ⟨PwrEvents.off, 3, 3⟩
def PwrEvents.thermShed : Field := ⟨PwrEvents.off, 4, 4⟩
def PwrEvents.thermClear : Field := ⟨PwrEvents.off, 5, 5⟩
def PwrEvents.degradedExit : Field := ⟨PwrEvents.off, 6, 6⟩
def PwrEvents.desc : RegDesc :=
  ⟨"PWR_EVENTS", 0x404, 0x0, 1, 0x0,
   [⟨0, 0, .w1c, true⟩, ⟨1, 1, .w1c, true⟩, ⟨2, 2, .w1c, true⟩, ⟨3, 3, .w1c, true⟩, ⟨4, 4, .w1c, true⟩, ⟨5, 5, .w1c, true⟩, ⟨6, 6, .w1c, true⟩]⟩

/-- THERM_STATUS (R377, spec/12_hatband_power.md). -/
def ThermStatus.off : Nat := 0x408
def ThermStatus.crownTemp : Field := ⟨ThermStatus.off, 7, 0⟩
def ThermStatus.brimTemp : Field := ⟨ThermStatus.off, 15, 8⟩
def ThermStatus.level : Field := ⟨ThermStatus.off, 17, 16⟩
def ThermStatus.desc : RegDesc :=
  ⟨"THERM_STATUS", 0x408, 0x0, 1, 0x0,
   [⟨7, 0, .ro, false⟩, ⟨15, 8, .ro, false⟩, ⟨17, 16, .ro, false⟩]⟩

/-- THERM_PEAK (R377, spec/12_hatband_power.md). -/
def ThermPeak.off : Nat := 0x40C
def ThermPeak.crownPeak : Field := ⟨ThermPeak.off, 7, 0⟩
def ThermPeak.brimPeak : Field := ⟨ThermPeak.off, 15, 8⟩
def ThermPeak.desc : RegDesc :=
  ⟨"THERM_PEAK", 0x40C, 0x0, 1, 0x0,
   [⟨7, 0, .rc, false⟩, ⟨15, 8, .rc, false⟩]⟩

/-- SPAN_STATE (R406, spec/13_wake_sleep.md). -/
def SpanState.off (n : Nat) : Nat := 0x500 + n * 0x4
def SpanState.state (n : Nat) : Field := ⟨SpanState.off n, 2, 0⟩
def SpanState.demand (n : Nat) : Field := ⟨SpanState.off n, 3, 3⟩
def SpanState.kaDemand (n : Nat) : Field := ⟨SpanState.off n, 4, 4⟩
def SpanState.linDemand (n : Nat) : Field := ⟨SpanState.off n, 5, 5⟩
def SpanState.remoteDemand (n : Nat) : Field := ⟨SpanState.off n, 6, 6⟩
def SpanState.falseWakeRun (n : Nat) : Field := ⟨SpanState.off n, 7, 7⟩
def SpanState.holds (n : Nat) : Field := ⟨SpanState.off n, 15, 8⟩
def SpanState.armed (n : Nat) : Field := ⟨SpanState.off n, 16, 16⟩
def SpanState.viaductActive (n : Nat) : Field := ⟨SpanState.off n, 17, 17⟩
def SpanState.desc : RegDesc :=
  ⟨"SPAN_STATE", 0x500, 0x4, 16, 0x0,
   [⟨2, 0, .ro, false⟩, ⟨3, 3, .ro, false⟩, ⟨4, 4, .ro, false⟩, ⟨5, 5, .ro, false⟩, ⟨6, 6, .ro, false⟩, ⟨7, 7, .ro, false⟩, ⟨15, 8, .ro, false⟩, ⟨16, 16, .ro, false⟩, ⟨17, 17, .ro, false⟩]⟩

/-- SPAN_EVENTS (R406, spec/13_wake_sleep.md). -/
def SpanEvents.off : Nat := 0x540
def SpanEvents.slept : Field := ⟨SpanEvents.off, 15, 0⟩
def SpanEvents.woke : Field := ⟨SpanEvents.off, 31, 16⟩
def SpanEvents.desc : RegDesc :=
  ⟨"SPAN_EVENTS", 0x540, 0x0, 1, 0x0,
   [⟨15, 0, .w1c, true⟩, ⟨31, 16, .w1c, true⟩]⟩

/-- SPAN_FAULTS (R406, spec/13_wake_sleep.md). -/
def SpanFaults.off : Nat := 0x544
def SpanFaults.armFail : Field := ⟨SpanFaults.off, 15, 0⟩
def SpanFaults.aborted : Field := ⟨SpanFaults.off, 31, 16⟩
def SpanFaults.desc : RegDesc :=
  ⟨"SPAN_FAULTS", 0x544, 0x0, 1, 0x0,
   [⟨15, 0, .w1c, true⟩, ⟨31, 16, .w1c, true⟩]⟩

/-- WAKE_PIN_STATUS (R406, spec/13_wake_sleep.md). -/
def WakePinStatus.off : Nat := 0x548
def WakePinStatus.level : Field := ⟨WakePinStatus.off, 7, 0⟩
def WakePinStatus.desc : RegDesc :=
  ⟨"WAKE_PIN_STATUS", 0x548, 0x0, 1, 0x0,
   [⟨7, 0, .ro, false⟩]⟩

/-- MACSEC_STATUS (R426, spec/14_hatbox_security.md). -/
def MacsecStatus.off (n : Nat) : Nat := 0x103000 + n * 0x4000
def MacsecStatus.enabled (n : Nat) : Field := ⟨MacsecStatus.off n, 0, 0⟩
def MacsecStatus.validate (n : Nat) : Field := ⟨MacsecStatus.off n, 2, 1⟩
def MacsecStatus.txAn (n : Nat) : Field := ⟨MacsecStatus.off n, 4, 3⟩
def MacsecStatus.txInUse (n : Nat) : Field := ⟨MacsecStatus.off n, 5, 5⟩
def MacsecStatus.rxScInUse (n : Nat) : Field := ⟨MacsecStatus.off n, 13, 6⟩
def MacsecStatus.desc : RegDesc :=
  ⟨"MACSEC_STATUS", 0x103000, 0x4000, 22, 0x4,
   [⟨0, 0, .ro, false⟩, ⟨2, 1, .ro, false⟩, ⟨4, 3, .ro, false⟩, ⟨5, 5, .ro, false⟩, ⟨13, 6, .ro, false⟩]⟩

/-- MACSEC_EVENTS (R426, spec/14_hatbox_security.md). -/
def MacsecEvents.off (n : Nat) : Nat := 0x103004 + n * 0x4000
def MacsecEvents.pnThreshold (n : Nat) : Field := ⟨MacsecEvents.off n, 0, 0⟩
def MacsecEvents.pnExhausted (n : Nat) : Field := ⟨MacsecEvents.off n, 1, 1⟩
def MacsecEvents.rxSaFirst (n : Nat) : Field := ⟨MacsecEvents.off n, 2, 2⟩
def MacsecEvents.rxFail (n : Nat) : Field := ⟨MacsecEvents.off n, 3, 3⟩
def MacsecEvents.desc : RegDesc :=
  ⟨"MACSEC_EVENTS", 0x103004, 0x4000, 22, 0x0,
   [⟨0, 0, .w1c, true⟩, ⟨1, 1, .w1c, true⟩, ⟨2, 2, .w1c, true⟩, ⟨3, 3, .w1c, true⟩]⟩

/-- HBX_STATUS (R448, spec/14_hatbox_security.md). -/
def HbxStatus.off : Nat := 0x600
def HbxStatus.lifecycle : Field := ⟨HbxStatus.off, 2, 0⟩
def HbxStatus.approved : Field := ⟨HbxStatus.off, 3, 3⟩
def HbxStatus.locked : Field := ⟨HbxStatus.off, 4, 4⟩
def HbxStatus.debugUnlocked : Field := ⟨HbxStatus.off, 5, 5⟩
def HbxStatus.zeroising : Field := ⟨HbxStatus.off, 6, 6⟩
def HbxStatus.bulkUp : Field := ⟨HbxStatus.off, 14, 7⟩
def HbxStatus.selftestRun : Field := ⟨HbxStatus.off, 15, 15⟩
def HbxStatus.bulkModeActive : Field := ⟨HbxStatus.off, 17, 16⟩
def HbxStatus.desc : RegDesc :=
  ⟨"HBX_STATUS", 0x600, 0x0, 1, 0x7F80,
   [⟨2, 0, .ro, false⟩, ⟨3, 3, .ro, false⟩, ⟨4, 4, .ro, false⟩, ⟨5, 5, .ro, false⟩, ⟨6, 6, .ro, false⟩, ⟨14, 7, .ro, false⟩, ⟨15, 15, .ro, false⟩, ⟨17, 16, .ro, false⟩]⟩

/-- HBX_EVENTS (R448, spec/14_hatbox_security.md). -/
def HbxEvents.off : Nat := 0x604
def HbxEvents.selftestFail : Field := ⟨HbxEvents.off, 0, 0⟩
def HbxEvents.freshExhausted : Field := ⟨HbxEvents.off, 1, 1⟩
def HbxEvents.zeroised : Field := ⟨HbxEvents.off, 2, 2⟩
def HbxEvents.entropyFail : Field := ⟨HbxEvents.off, 3, 3⟩
def HbxEvents.canAuthFail : Field := ⟨HbxEvents.off, 4, 4⟩
def HbxEvents.locked : Field := ⟨HbxEvents.off, 5, 5⟩
def HbxEvents.desc : RegDesc :=
  ⟨"HBX_EVENTS", 0x604, 0x0, 1, 0x0,
   [⟨0, 0, .w1c, true⟩, ⟨1, 1, .w1c, true⟩, ⟨2, 2, .w1c, true⟩, ⟨3, 3, .w1c, true⟩, ⟨4, 4, .w1c, true⟩, ⟨5, 5, .w1c, true⟩]⟩

/-- EVT_ERR (R470, spec/15_events.md). -/
def EvtErr.off : Nat := 0x20000
def EvtErr.badComplete : Field := ⟨EvtErr.off, 0, 0⟩
def EvtErr.badRdPtr : Field := ⟨EvtErr.off, 1, 1⟩
def EvtErr.desc : RegDesc :=
  ⟨"EVT_ERR", 0x20000, 0x0, 1, 0x0,
   [⟨0, 0, .w1c, true⟩, ⟨1, 1, .w1c, true⟩]⟩

/-- TGT_CLAIM (R470, spec/15_events.md). -/
def TgtClaim.off (n : Nat) : Nat := 0x20100 + n * 0x8
def TgtClaim.source (n : Nat) : Field := ⟨TgtClaim.off n, 11, 0⟩
def TgtClaim.queue (n : Nat) : Field := ⟨TgtClaim.off n, 17, 12⟩
def TgtClaim.valid (n : Nat) : Field := ⟨TgtClaim.off n, 18, 18⟩
def TgtClaim.escalated (n : Nat) : Field := ⟨TgtClaim.off n, 19, 19⟩
def TgtClaim.desc : RegDesc :=
  ⟨"TGT_CLAIM", 0x20100, 0x8, 2, 0xFFF,
   [⟨11, 0, .rc, false⟩, ⟨17, 12, .rc, false⟩, ⟨18, 18, .rc, false⟩, ⟨19, 19, .rc, false⟩]⟩

/-- TGT_COMPLETE (R470, spec/15_events.md). -/
def TgtComplete.off (n : Nat) : Nat := 0x20104 + n * 0x8
def TgtComplete.queue (n : Nat) : Field := ⟨TgtComplete.off n, 5, 0⟩
def TgtComplete.desc : RegDesc :=
  ⟨"TGT_COMPLETE", 0x20104, 0x8, 2, 0x0,
   [⟨5, 0, .wo, true⟩]⟩

/-- EVQ_STATUS (R470, spec/15_events.md). -/
def EvqStatus.off (n : Nat) : Nat := 0x21000 + n * 0x40
def EvqStatus.state (n : Nat) : Field := ⟨EvqStatus.off n, 1, 0⟩
def EvqStatus.escalated (n : Nat) : Field := ⟨EvqStatus.off n, 2, 2⟩
def EvqStatus.claimer (n : Nat) : Field := ⟨EvqStatus.off n, 5, 3⟩
def EvqStatus.fill (n : Nat) : Field := ⟨EvqStatus.off n, 12, 6⟩
def EvqStatus.target (n : Nat) : Field := ⟨EvqStatus.off n, 18, 16⟩
def EvqStatus.escTarget (n : Nat) : Field := ⟨EvqStatus.off n, 21, 19⟩
def EvqStatus.priority (n : Nat) : Field := ⟨EvqStatus.off n, 24, 22⟩
def EvqStatus.desc : RegDesc :=
  ⟨"EVQ_STATUS", 0x21000, 0x40, 64, 0x38,
   [⟨1, 0, .ro, false⟩, ⟨2, 2, .ro, false⟩, ⟨5, 3, .ro, false⟩, ⟨12, 6, .ro, false⟩, ⟨18, 16, .ro, false⟩, ⟨21, 19, .ro, false⟩, ⟨24, 22, .ro, false⟩]⟩

/-- EVQ_WR_PTR (R470, spec/15_events.md). -/
def EvqWrPtr.off (n : Nat) : Nat := 0x21004 + n * 0x40
def EvqWrPtr.index (n : Nat) : Field := ⟨EvqWrPtr.off n, 5, 0⟩
def EvqWrPtr.wrap (n : Nat) : Field := ⟨EvqWrPtr.off n, 6, 6⟩
def EvqWrPtr.desc : RegDesc :=
  ⟨"EVQ_WR_PTR", 0x21004, 0x40, 64, 0x0,
   [⟨5, 0, .ro, false⟩, ⟨6, 6, .ro, false⟩]⟩

/-- EVQ_RD_PTR (R470, spec/15_events.md). -/
def EvqRdPtr.off (n : Nat) : Nat := 0x21008 + n * 0x40
def EvqRdPtr.index (n : Nat) : Field := ⟨EvqRdPtr.off n, 5, 0⟩
def EvqRdPtr.wrap (n : Nat) : Field := ⟨EvqRdPtr.off n, 6, 6⟩
def EvqRdPtr.desc : RegDesc :=
  ⟨"EVQ_RD_PTR", 0x21008, 0x40, 64, 0x0,
   [⟨5, 0, .rw, true⟩, ⟨6, 6, .rw, true⟩]⟩

/-- EVQ_DROPS (R470, spec/15_events.md). -/
def EvqDrops.off (n : Nat) : Nat := 0x2100C + n * 0x40
def EvqDrops.payloadDrops (n : Nat) : Field := ⟨EvqDrops.off n, 15, 0⟩
def EvqDrops.desc : RegDesc :=
  ⟨"EVQ_DROPS", 0x2100C, 0x40, 64, 0x0,
   [⟨15, 0, .rc, false⟩]⟩

/-- HR_BASE_LO (R485, spec/16_trestle_storage.md). -/
def HrBaseLo.off (n : Nat) : Nat := 0x40000 + n * 0x20
def HrBaseLo.addr (n : Nat) : Field := ⟨HrBaseLo.off n, 31, 5⟩
def HrBaseLo.desc : RegDesc :=
  ⟨"HR_BASE_LO", 0x40000, 0x20, 64, 0x0,
   [⟨31, 5, .rw, true⟩]⟩

/-- HR_CTRL (R485, spec/16_trestle_storage.md). -/
def HrCtrl.off (n : Nat) : Nat := 0x40008 + n * 0x20
def HrCtrl.enable (n : Nat) : Field := ⟨HrCtrl.off n, 0, 0⟩
def HrCtrl.size (n : Nat) : Field := ⟨HrCtrl.off n, 3, 1⟩
def HrCtrl.desc : RegDesc :=
  ⟨"HR_CTRL", 0x40008, 0x20, 64, 0x0,
   [⟨0, 0, .rw, true⟩, ⟨3, 1, .rw, true⟩]⟩

/-- HR_HOST_PTR (R485, spec/16_trestle_storage.md). -/
def HrHostPtr.off (n : Nat) : Nat := 0x4000C + n * 0x20
def HrHostPtr.index (n : Nat) : Field := ⟨HrHostPtr.off n, 11, 0⟩
def HrHostPtr.wrap (n : Nat) : Field := ⟨HrHostPtr.off n, 12, 12⟩
def HrHostPtr.desc : RegDesc :=
  ⟨"HR_HOST_PTR", 0x4000C, 0x20, 64, 0x0,
   [⟨11, 0, .rw, true⟩, ⟨12, 12, .rw, true⟩]⟩

/-- HR_DEV_PTR (R485, spec/16_trestle_storage.md). -/
def HrDevPtr.off (n : Nat) : Nat := 0x40010 + n * 0x20
def HrDevPtr.index (n : Nat) : Field := ⟨HrDevPtr.off n, 11, 0⟩
def HrDevPtr.wrap (n : Nat) : Field := ⟨HrDevPtr.off n, 12, 12⟩
def HrDevPtr.desc : RegDesc :=
  ⟨"HR_DEV_PTR", 0x40010, 0x20, 64, 0x0,
   [⟨11, 0, .ro, false⟩, ⟨12, 12, .ro, false⟩]⟩

/-- HR_SEEN (R485, spec/16_trestle_storage.md). -/
def HrSeen.off (n : Nat) : Nat := 0x40014 + n * 0x20
def HrSeen.index (n : Nat) : Field := ⟨HrSeen.off n, 11, 0⟩
def HrSeen.wrap (n : Nat) : Field := ⟨HrSeen.off n, 12, 12⟩
def HrSeen.desc : RegDesc :=
  ⟨"HR_SEEN", 0x40014, 0x20, 64, 0x0,
   [⟨11, 0, .rw, true⟩, ⟨12, 12, .rw, true⟩]⟩

/-- HR_STATUS (R485, spec/16_trestle_storage.md). -/
def HrStatus.off (n : Nat) : Nat := 0x40018 + n * 0x20
def HrStatus.active (n : Nat) : Field := ⟨HrStatus.off n, 0, 0⟩
def HrStatus.ringFault (n : Nat) : Field := ⟨HrStatus.off n, 1, 1⟩
def HrStatus.badPtr (n : Nat) : Field := ⟨HrStatus.off n, 2, 2⟩
def HrStatus.desc : RegDesc :=
  ⟨"HR_STATUS", 0x40018, 0x20, 64, 0x0,
   [⟨0, 0, .ro, false⟩, ⟨1, 1, .w1c, true⟩, ⟨2, 2, .w1c, true⟩]⟩

/-- TR_STATUS (R499, spec/16_trestle_storage.md). -/
def TrStatus.off : Nat := 0x700
def TrStatus.hostGen : Field := ⟨TrStatus.off, 3, 0⟩
def TrStatus.hostWidth : Field := ⟨TrStatus.off, 7, 4⟩
def TrStatus.storeGen : Field := ⟨TrStatus.off, 11, 8⟩
def TrStatus.storeWidth : Field := ⟨TrStatus.off, 15, 12⟩
def TrStatus.desc : RegDesc :=
  ⟨"TR_STATUS", 0x700, 0x0, 1, 0x0,
   [⟨3, 0, .ro, false⟩, ⟨7, 4, .ro, false⟩, ⟨11, 8, .ro, false⟩, ⟨15, 12, .ro, false⟩]⟩

/-- IWL_WR (R499, spec/16_trestle_storage.md). -/
def IwlWr.off : Nat := 0x704
def IwlWr.index : Field := ⟨IwlWr.off, 4, 0⟩
def IwlWr.wrap : Field := ⟨IwlWr.off, 5, 5⟩
def IwlWr.desc : RegDesc :=
  ⟨"IWL_WR", 0x704, 0x0, 1, 0x0,
   [⟨4, 0, .ro, false⟩, ⟨5, 5, .ro, false⟩]⟩

/-- IWL_RD (R499, spec/16_trestle_storage.md). -/
def IwlRd.off : Nat := 0x708
def IwlRd.index : Field := ⟨IwlRd.off, 4, 0⟩
def IwlRd.wrap : Field := ⟨IwlRd.off, 5, 5⟩
def IwlRd.desc : RegDesc :=
  ⟨"IWL_RD", 0x708, 0x0, 1, 0x0,
   [⟨4, 0, .rw, true⟩, ⟨5, 5, .rw, true⟩]⟩

/-- PDL_WR (R499, spec/16_trestle_storage.md). -/
def PdlWr.off : Nat := 0x70C
def PdlWr.index : Field := ⟨PdlWr.off, 3, 0⟩
def PdlWr.wrap : Field := ⟨PdlWr.off, 4, 4⟩
def PdlWr.desc : RegDesc :=
  ⟨"PDL_WR", 0x70C, 0x0, 1, 0x0,
   [⟨3, 0, .ro, false⟩, ⟨4, 4, .ro, false⟩]⟩

/-- PDL_RD (R499, spec/16_trestle_storage.md). -/
def PdlRd.off : Nat := 0x710
def PdlRd.index : Field := ⟨PdlRd.off, 3, 0⟩
def PdlRd.wrap : Field := ⟨PdlRd.off, 4, 4⟩
def PdlRd.desc : RegDesc :=
  ⟨"PDL_RD", 0x710, 0x0, 1, 0x0,
   [⟨3, 0, .rw, true⟩, ⟨4, 4, .rw, true⟩]⟩

/-- CASC_STATUS (R522, spec/17_pier_viaduct.md). -/
def CascStatus.off : Nat := 0xC00
def CascStatus.role : Field := ⟨CascStatus.off, 1, 0⟩
def CascStatus.reachable : Field := ⟨CascStatus.off, 5, 2⟩
def CascStatus.topology : Field := ⟨CascStatus.off, 7, 6⟩
def CascStatus.p20Up : Field := ⟨CascStatus.off, 8, 8⟩
def CascStatus.p21Up : Field := ⟨CascStatus.off, 9, 9⟩
def CascStatus.p20Standby : Field := ⟨CascStatus.off, 10, 10⟩
def CascStatus.p21Standby : Field := ⟨CascStatus.off, 11, 11⟩
def CascStatus.split : Field := ⟨CascStatus.off, 12, 12⟩
def CascStatus.quarantine : Field := ⟨CascStatus.off, 13, 13⟩
def CascStatus.desc : RegDesc :=
  ⟨"CASC_STATUS", 0xC00, 0x0, 1, 0x0,
   [⟨1, 0, .ro, false⟩, ⟨5, 2, .ro, false⟩, ⟨7, 6, .ro, false⟩, ⟨8, 8, .ro, false⟩, ⟨9, 9, .ro, false⟩, ⟨10, 10, .ro, false⟩, ⟨11, 11, .ro, false⟩, ⟨12, 12, .ro, false⟩, ⟨13, 13, .ro, false⟩]⟩

/-- CASC_EVENTS (R522, spec/17_pier_viaduct.md). -/
def CascEvents.off : Nat := 0xC04
def CascEvents.topologyChange : Field := ⟨CascEvents.off, 0, 0⟩
def CascEvents.peerLost : Field := ⟨CascEvents.off, 1, 1⟩
def CascEvents.peerUp : Field := ⟨CascEvents.off, 2, 2⟩
def CascEvents.split : Field := ⟨CascEvents.off, 3, 3⟩
def CascEvents.actingMaster : Field := ⟨CascEvents.off, 4, 4⟩
def CascEvents.heal : Field := ⟨CascEvents.off, 5, 5⟩
def CascEvents.healMismatch : Field := ⟨CascEvents.off, 6, 6⟩
def CascEvents.rankConflict : Field := ⟨CascEvents.off, 7, 7⟩
def CascEvents.keyFail : Field := ⟨CascEvents.off, 8, 8⟩
def CascEvents.desc : RegDesc :=
  ⟨"CASC_EVENTS", 0xC04, 0x0, 1, 0x0,
   [⟨0, 0, .w1c, true⟩, ⟨1, 1, .w1c, true⟩, ⟨2, 2, .w1c, true⟩, ⟨3, 3, .w1c, true⟩, ⟨4, 4, .w1c, true⟩, ⟨5, 5, .w1c, true⟩, ⟨6, 6, .w1c, true⟩, ⟨7, 7, .w1c, true⟩, ⟨8, 8, .w1c, true⟩]⟩

/-- FCU_STATUS (R541, spec/18_dependability.md). -/
def FcuStatus.off : Nat := 0xD00
def FcuStatus.faultNLow : Field := ⟨FcuStatus.off, 0, 0⟩
def FcuStatus.active : Field := ⟨FcuStatus.off, 10, 1⟩
def FcuStatus.first : Field := ⟨FcuStatus.off, 19, 11⟩
def FcuStatus.firstValid : Field := ⟨FcuStatus.off, 20, 20⟩
def FcuStatus.resets : Field := ⟨FcuStatus.off, 22, 21⟩
def FcuStatus.desc : RegDesc :=
  ⟨"FCU_STATUS", 0xD00, 0x0, 1, 0x1,
   [⟨0, 0, .ro, false⟩, ⟨10, 1, .ro, false⟩, ⟨19, 11, .ro, false⟩, ⟨20, 20, .ro, false⟩, ⟨22, 21, .ro, false⟩]⟩

/-- WDT_STATUS (R541, spec/18_dependability.md). -/
def WdtStatus.off : Nat := 0xD04
def WdtStatus.nextToken : Field := ⟨WdtStatus.off, 7, 0⟩
def WdtStatus.running : Field := ⟨WdtStatus.off, 8, 8⟩
def WdtStatus.inWindow : Field := ⟨WdtStatus.off, 9, 9⟩
def WdtStatus.desc : RegDesc :=
  ⟨"WDT_STATUS", 0xD04, 0x0, 1, 0x1,
   [⟨7, 0, .ro, false⟩, ⟨8, 8, .ro, false⟩, ⟨9, 9, .ro, false⟩]⟩

/-- FCU_LATCHED (R541, spec/18_dependability.md). -/
def FcuLatched.off (n : Nat) : Nat := 0xD40 + n * 0x4
def FcuLatched.inputs (n : Nat) : Field := ⟨FcuLatched.off n, 31, 0⟩
def FcuLatched.desc : RegDesc :=
  ⟨"FCU_LATCHED", 0xD40, 0x4, 16, 0x0,
   [⟨31, 0, .ro, false⟩]⟩

/-- HR_BASE_HI (R485, spec/16_trestle_storage.md). -/
def HrBaseHi.off (n : Nat) : Nat := 0x40004 + n * 0x20
def HrBaseHi.addrHi (n : Nat) : Field := ⟨HrBaseHi.off n, 31, 0⟩
def HrBaseHi.desc : RegDesc :=
  ⟨"HR_BASE_HI", 0x40004, 0x20, 64, 0x0,
   [⟨31, 0, .rw, true⟩]⟩

/-- HR_DROPS (R485, spec/16_trestle_storage.md). -/
def HrDrops.off (n : Nat) : Nat := 0x4001C + n * 0x20
def HrDrops.drops (n : Nat) : Field := ⟨HrDrops.off n, 31, 0⟩
def HrDrops.desc : RegDesc :=
  ⟨"HR_DROPS", 0x4001C, 0x20, 64, 0x0,
   [⟨31, 0, .rc, false⟩]⟩

/-- TIME_SNAP (R358, spec/11_time.md). -/
def TimeSnap.off : Nat := 0x180008
def TimeSnap.snap : Field := ⟨TimeSnap.off, 31, 0⟩
def TimeSnap.desc : RegDesc :=
  ⟨"TIME_SNAP", 0x180008, 0x0, 1, 0x0,
   [⟨31, 0, .wo, true⟩]⟩

/-- STRAND_LO (R358, spec/11_time.md). -/
def StrandLo.off : Nat := 0x180010
def StrandLo.strandLo : Field := ⟨StrandLo.off, 31, 0⟩
def StrandLo.desc : RegDesc :=
  ⟨"STRAND_LO", 0x180010, 0x0, 1, 0x0,
   [⟨31, 0, .ro, false⟩]⟩

/-- STRAND_HI (R358, spec/11_time.md). -/
def StrandHi.off : Nat := 0x180014
def StrandHi.strandHi : Field := ⟨StrandHi.off, 15, 0⟩
def StrandHi.desc : RegDesc :=
  ⟨"STRAND_HI", 0x180014, 0x0, 1, 0x0,
   [⟨15, 0, .ro, false⟩]⟩

/-- SNAP_STRAND (R358, spec/11_time.md). -/
def SnapStrand.off (n : Nat) : Nat := 0x180020 + n * 0x4
def SnapStrand.value (n : Nat) : Field := ⟨SnapStrand.off n, 31, 0⟩
def SnapStrand.desc : RegDesc :=
  ⟨"SNAP_STRAND", 0x180020, 0x4, 2, 0x0,
   [⟨31, 0, .ro, false⟩]⟩

/-- SNAP_CLOCK (R358, spec/11_time.md). -/
def SnapClock.off (n : Nat) : Nat := 0x180028 + n * 0x4
def SnapClock.value (n : Nat) : Field := ⟨SnapClock.off n, 31, 0⟩
def SnapClock.desc : RegDesc :=
  ⟨"SNAP_CLOCK", 0x180028, 0x4, 12, 0x0,
   [⟨31, 0, .ro, false⟩]⟩

/-- CONV_STRAND_LO (R358, spec/11_time.md). -/
def ConvStrandLo.off : Nat := 0x180080
def ConvStrandLo.strand : Field := ⟨ConvStrandLo.off, 31, 0⟩
def ConvStrandLo.desc : RegDesc :=
  ⟨"CONV_STRAND_LO", 0x180080, 0x0, 1, 0x0,
   [⟨31, 0, .rw, true⟩]⟩

/-- CONV_STRAND_HI (R358, spec/11_time.md). -/
def ConvStrandHi.off : Nat := 0x180084
def ConvStrandHi.strand : Field := ⟨ConvStrandHi.off, 15, 0⟩
def ConvStrandHi.desc : RegDesc :=
  ⟨"CONV_STRAND_HI", 0x180084, 0x0, 1, 0x0,
   [⟨15, 0, .rw, true⟩]⟩

/-- CONV_RESULT (R358, spec/11_time.md). -/
def ConvResult.off (n : Nat) : Nat := 0x180090 + n * 0x4
def ConvResult.value (n : Nat) : Field := ⟨ConvResult.off n, 31, 0⟩
def ConvResult.desc : RegDesc :=
  ⟨"CONV_RESULT", 0x180090, 0x4, 4, 0x0,
   [⟨31, 0, .ro, false⟩]⟩

def regDescs0 : List RegDesc :=
  [DeckBootStatus.desc,
   DeckResetCause.desc,
   DeckStraps.desc,
   MbCtrl.desc,
   MbStatus.desc,
   MbDoorbell.desc,
   MbSeq.desc,
   MbOwner.desc,
   PortStatus.desc,
   PortEvents.desc,
   PortPauseStatus.desc,
   CanStatus.desc]

def regDescs1 : List RegDesc :=
  [CanEvents.desc,
   CanErrStatus.desc,
   RxqHead.desc,
   TxqTail.desc,
   TxcHead.desc,
   RxqTail.desc,
   TxqHead.desc,
   TxcTail.desc,
   LinStatus.desc,
   LinEvents.desc,
   SwStatus.desc,
   SwFreeCells.desc]

def regDescs2 : List RegDesc :=
  [SwSharedFree.desc,
   SwKeystoneFree.desc,
   SwFreeDesc.desc,
   SwEvents.desc,
   QStatus.desc,
   QDesc.desc,
   QPeak.desc,
   SgeStatus.desc,
   SgeEvents.desc,
   SgeReady.desc,
   HistStatus.desc,
   HistPeriod.desc]

def regDescs3 : List RegDesc :=
  [HistBase.desc,
   TsqHead.desc,
   TsqTail.desc,
   TimeStatus.desc,
   TimeEvents.desc,
   ConvSel.desc,
   ConvStatus.desc,
   PwrStatus.desc,
   PwrEvents.desc,
   ThermStatus.desc,
   ThermPeak.desc,
   SpanState.desc]

def regDescs4 : List RegDesc :=
  [SpanEvents.desc,
   SpanFaults.desc,
   WakePinStatus.desc,
   MacsecStatus.desc,
   MacsecEvents.desc,
   HbxStatus.desc,
   HbxEvents.desc,
   EvtErr.desc,
   TgtClaim.desc,
   TgtComplete.desc,
   EvqStatus.desc,
   EvqWrPtr.desc]

def regDescs5 : List RegDesc :=
  [EvqRdPtr.desc,
   EvqDrops.desc,
   HrBaseLo.desc,
   HrCtrl.desc,
   HrHostPtr.desc,
   HrDevPtr.desc,
   HrSeen.desc,
   HrStatus.desc,
   TrStatus.desc,
   IwlWr.desc,
   IwlRd.desc,
   PdlWr.desc]

def regDescs6 : List RegDesc :=
  [PdlRd.desc,
   CascStatus.desc,
   CascEvents.desc,
   FcuStatus.desc,
   WdtStatus.desc,
   FcuLatched.desc,
   HrBaseHi.desc,
   HrDrops.desc,
   TimeSnap.desc,
   StrandLo.desc,
   StrandHi.desc,
   SnapStrand.desc]

def regDescs7 : List RegDesc :=
  [SnapClock.desc,
   ConvStrandLo.desc,
   ConvStrandHi.desc,
   ConvResult.desc]

/-- Every register of the register tables. -/
def regDescs : List RegDesc :=
  regDescs0 ++ regDescs1 ++ regDescs2 ++ regDescs3 ++ regDescs4 ++ regDescs5 ++ regDescs6 ++ regDescs7

/-- Does BAR0 offset `a` hold a register of this array? -/
def RegDesc.covers (d : RegDesc) (a : Nat) : Bool :=
  if d.stride = 0 then a == d.base
  else decide (d.base ≤ a) && (a - d.base) % d.stride == 0 && decide ((a - d.base) / d.stride < d.count)

/-- The register at a BAR0 offset, if a table gives one. -/
def regAt (a : Nat) : Option RegDesc := regDescs.find? (fun d => d.covers a)

end Sys2Proof.Machine
end

