-- ==== Sys2Proof/Machine/Types.lean ====
section
/-! DEFINITION. The kinds of data State holds, block by block, each with the value it has after reset. -/

namespace Sys2Proof.Machine

/-! ### Event concentrator (R450 to R470) -/

/-- A record of an event queue, R453. -/
structure EvRec where
  src : Nat := 0
  kind : Nat := 0
  deck : Nat := 0
  count : Nat := 0
  sat : Bool := false
  lost : Bool := false
  inj : Bool := false
  payload : Nat := 0
deriving DecidableEq, Repr

/-- One route of one source: its pending counter and marks (R454) and whether a level route is disarmed (R455). -/
structure RouteSt where
  pend : Nat := 0
  sat : Bool := false
  inj : Bool := false
  detail : Nat := 0
  stamp : Nat := 0
  disarmed : Bool := false
deriving DecidableEq, Repr

/-- What an event queue holds beside its registers: binding fields of R107 that EVQ_STATUS lacks, coalescing (R459),
the LOST mark (R456), and the Strand values at which its timers end. -/
structure EvQueue where
  vector : Nat := 0
  escTimeout : Nat := 1000
  count : Nat := 1
  time : Nat := 1
  lostMark : Bool := false
  /-- Records written since the queue became IDLE, withdrawn ones left out: slot and Strand value, latest first. -/
  since : List (Nat × Nat) := []
  coalAt : Option Nat := none
  escAt : Option Nat := none
deriving DecidableEq, Repr

/-- The event concentrator. -/
structure EvtState where
  recs : Tab EvRec := []
  routes : Tab RouteSt := []
  /-- Client route of a source (R452): the queue it leads to. -/
  client : Tab Nat := []
  queues : Tab EvQueue := []
  /-- Level conditions held true by units outside the registers (fault inputs, poller). -/
  levels : Tab Bool := []
  /-- MSI-X table entries (R30): address, data and mask as one 128-bit word; masked after reset. -/
  msixTab : Tab Nat := []
  /-- MSI-X Pending Bit Array (R30). -/
  msixPba : Nat := 0
  /-- HOST_IRQ_N is driven low (R460). -/
  hostIrqLow : Bool := false
  /-- Learn records written in the last 1 ms, with their Strand values (R224). -/
  learnFilter : List (Nat × Nat) := []
deriving DecidableEq, Repr

/-- PCIe configuration of the host endpoint that the event concentrator and the Trestle read (R463). -/
structure PcieState where
  linkUp : Bool := false
  msixEnable : Bool := false
  funcMask : Bool := false
  busMaster : Bool := false
  laneGated : Bool := false
  /-- Addresses assigned to BAR0, BAR2 and BAR4 (R25), 0 for none. -/
  bars : Nat × Nat × Nat := (0, 0, 0)
deriving DecidableEq, Repr

/-! ### Gateway Command Interface (R54 to R121) -/

/-- A client's configuration, R70 and R108. -/
structure Client where
  transport : Nat := 3
  weight : Nat := 0
  query : Nat := 0
  control : Nat := 0
deriving DecidableEq, Repr

/-- A ticket, R77: what it runs, what it holds locked, and its outcome once complete. -/
structure Ticket where
  num : Nat
  client : Nat
  cmd : Nat
  payload : List Byte
  onDone : Bool
  locks : List Nat
  /-- Final status and result payload, once complete. -/
  result : Option (Nat × List Byte)
  /-- It runs on a segment buffer (R69, R103); the input bytes it took from there. -/
  seg : Bool := false
  input : List Byte := []
  /-- The Deck and request number that a forwarded request came under (R69). -/
  far : Option (Nat × Nat) := none
  /-- Buckets that FDB.FLUSH has visited (R229). -/
  pos : Nat := 0
deriving DecidableEq, Repr

/-- A draft, R93 to R95: the configuration values staged so far, latest first. -/
structure Draft where
  handle : Nat
  client : Nat
  lastUse : Nat
  bytes : Nat
  changes : List (Nat × Nat)
deriving DecidableEq, Repr

/-- A refused request remembered for RETRY_AFTER, R76. -/
structure Retry where
  client : Nat
  cmd : Nat
  deck : Nat
  flags : Nat
  txn : Nat
  payload : List Byte
  until_ : Nat
deriving DecidableEq, Repr

/-- An image transfer in pieces, R117. -/
structure Transfer where
  client : Nat
  cmd : Nat
  received : Nat
  total : Nat
  /-- The image's first 128 bytes, kept apart from a flash slot until the image verifies. -/
  head : List Byte := []
deriving DecidableEq, Repr

/-- A commit that has been served and waits for its epoch switch (R96, R97, R99). -/
structure PendCommit where
  handle : Nat
  client : Nat
  ticket : Nat
  flags : Nat
  baseEpoch : Nat
  served : Nat
deriving DecidableEq, Repr

/-- Mailbox service, clients, tickets and drafts. -/
structure GciState where
  clients : Tab Client := []
  /-- Arrival order of the mailboxes' posted requests (R55). -/
  arrival : Tab Nat := []
  arrivals : Nat := 0
  /-- Weighted rounds (R73): the client visited last and how many requests this visit has served. -/
  lastClient : Nat := 7
  served : Nat := 0
  tickets : List Ticket := []
  ticketCount : Tab Nat := []
  drafts : List Draft := []
  draftCount : Nat := 0
  retries : List Retry := []
  transfers : List Transfer := []
  /-- Segment buffers of the SPI clients, 64 KiB each (R103). -/
  seg : Memory := []
  commits : List PendCommit := []
  /-- The current epoch (R97), and the Strand value of its switch. -/
  epoch : Nat := 0
  switchAt : Nat := 0
  /-- Committed values that firmware still has to write into Brim non-volatile memory (R370, R379, R536). -/
  nvmPend : List (Nat × Nat) := []
  /-- DECK.RESET with scope CONFIG is running (R92). -/
  resetRunning : Bool := false
  /-- A FULL reset waits for ACK in this mailbox until the Strand value (R105). -/
  fullReset : Option (Nat × Nat) := none
deriving DecidableEq, Repr

/-! ### Shared buffer (R247 to R274) -/

/-- The pool a cell is debited to, R261. -/
inductive Pool where
  | free | shared | headroom | keystone
deriving DecidableEq, Repr

/-- Where an admitted cell of a copy came from, R260. -/
inductive Source where
  | reserve | shared | keystone | headroom
deriving DecidableEq, Repr

/-- A buffer cell with its sideband (R248) and its cell state memory (R270). Unlisted cells are FREE. -/
structure Cell where
  alloc : Bool := false
  data : List Byte := []
  first : Bool := false
  last : Bool := false
  next : Nat := 0
  owner : Nat := 0
  gen : Nat := 0
  pool : Pool := .free
  /-- Ingress port and class of the frame, for the ingress occupancy of R136; class 8 while undecided. -/
  port : Nat := 31
  cls : Nat := 8
  suspect : Bool := false
deriving DecidableEq, Repr

/-- Descriptor states, R250. -/
inductive DescState where
  | free | receiving | queued | active | retired
deriving DecidableEq, Repr

/-- A descriptor, R251, with the host transmit record it came from (R188) and the sources of its cells (R260). -/
structure Desc where
  state : DescState := .free
  gen : Nat := 0
  /-- Popped with the two free lists differing: on neither list, and never reclaimed (R272, R274). -/
  lost : Bool := false
  firstCell : Nat := 0
  length : Nat := 0
  ingress : Nat := 0
  cls : Nat := 0
  cut : Bool := false
  ownerFlag : Bool := false
  mirror : Bool := false
  safety : Bool := false
  yellow : Bool := false
  stamp : Nat := 0
  ageLimit : Nat := 0
  route : Nat := 0
  queue : Nat := 0
  owner : Nat := 0
  copies : Nat := 0
  deadline : Nat := 0
  /-- Egress transmit timestamp request of a host frame: TS_ID and clock (R350). -/
  tsReq : Option (Nat × Nat) := none
  /-- VLAN tag that egress puts on, or `none` to send as stored (R212). -/
  tagOut : Option Nat := none
  /-- Remove the tag, and the R-TAG, on egress (R212, R220). -/
  untag : Bool := false
  popRtag : Bool := false
  /-- Transmit record with a completion owed: its RING_INDEX (R189). -/
  comp : Option Nat := none
  /-- The frame came from a host transmit record or CAN.TX_FRAME, so it never ages (R174). -/
  hostTx : Bool := false
  attempts : Nat := 0
  arbLosses : Nat := 0
  requeued : Nat := 0
  /-- Transmit stamp of the last attempt on a CAN bus, 0 if none started (R189). -/
  txStamp : Nat := 0
  /-- Deck and REMOTE_ROUTE of a record for another Deck (R237, R501). -/
  remote : Option (Nat × Nat) := none
  /-- Channel it entered on (R18), Deck it came from if another, and the mark of R442. -/
  srcChan : Nat := 0
  srcDeck : Option Nat := none
  authFail : Bool := false
  /-- An Ethernet frame for the unbundler (R308), with the stream entry's index in ROUTE. -/
  avtp : Bool := false
  sources : List Source := []
  enqueuedAt : Nat := 0
deriving DecidableEq, Repr

/-- A copy that a decision asks for (R252), or that a unit enqueues. -/
structure CopySpec where
  queue : Nat
  cls : Nat := 0
  route : Nat := 0
  ageLimit : Nat := 0
  deadline : Nat := 0
  cut : Bool := false
  mirror : Bool := false
  safety : Bool := false
  yellow : Bool := false
  tsReq : Option (Nat × Nat) := none
  tagOut : Option Nat := none
  untag : Bool := false
  popRtag : Bool := false
  comp : Option Nat := none
  hostTx : Bool := false
  remote : Option (Nat × Nat) := none
  srcChan : Nat := 0
  srcDeck : Option Nat := none
  authFail : Bool := false
  avtp : Bool := false
deriving DecidableEq, Repr

/-- A frame that is arriving or waits for its decision (R256, R260, R275). -/
structure RxFrame where
  port : Nat
  bytes : List Byte
  stamp : Nat
  /-- Its length under R129: on the wire, a SecTAG and ICV included (R212). -/
  len : Nat := 0
  /-- Cells not yet written, each at most 64 bytes. -/
  todo : List (List Byte)
  written : List Nat := []
  /-- Owner descriptor, once the first cell is written. -/
  owner : Option Nat := none
  decided : Bool := false
  /-- Copies still admitted, once decided. -/
  live : List Nat := []
  /-- Found bad by FCS or as a giant (R129, R130): nothing of it is enqueued, and a copy that cuts through is ended. -/
  bad : Bool := false
  /-- It arrived express (R265). -/
  express : Bool := true
  /-- Transmit-timestamp request of a host frame (R350). -/
  tsReq : Option (Nat × Nat) := none
  /-- The Deck that a frame from a Pier port came from (R487). -/
  srcDeck : Option Nat := none
  /-- Class and cells of the link credit that goes back once the frame has left the receiver (R505). -/
  credit : Option (Nat × Nat) := none
deriving DecidableEq, Repr

/-- What protects a frame from its start on (R423): the association's AN, SSCI and salt, its key, and the frame's PN; and the
parameters of R421 in force at that start, which a commit changes for the next frame only (R98). -/
structure TxSa where
  an : Nat
  ssci : Nat
  salt : List Byte
  key : List Byte
  pn : Nat
  xpn : Bool := false
  enc : Bool := true
  confOffset : Nat := 0
  includeSci : Bool := true
  sci : Nat := 0
deriving DecidableEq, Repr

/-- A running egress read of a port, R257: the copy as it left its queue, the next cell and the bytes read so far. -/
structure EgressRead where
  desc : Nat
  d : Desc
  /-- The frame's first cell before any cell is read; then the cell read last, whose link leads to the next. -/
  cellAt : Nat
  cellsLeft : Nat
  data : List Byte := []
  age : Nat := 0
  /-- Bytes that have been sent by the Strand value `since`, the start of the frame or of the fragment in transmission; more leave at
  the port's rate (R148, R257). -/
  gone : Nat := 0
  since : Nat := 0
  /-- The copy has been released after its last cell (R252). -/
  released : Bool := false
  /-- The frame ends with an inverted FCS (R129, R130, R262, R274, R280). -/
  trunc : Bool := false
  /-- What protects it (R423). -/
  prot : Option TxSa := none
deriving DecidableEq, Repr

/-- A flush in progress, R268: the queues it covers, the port or the CAN Lane it ends for, and the Strand value at which it began. -/
structure Flush where
  queues : List Nat
  port : Option Nat
  can : Option Nat := none
  at_ : Nat := 0
deriving DecidableEq, Repr

/-- The buffer, its queues and its audit. -/
structure BufState where
  cells : Tab Cell := []
  descs : Tab Desc := []
  queues : Tab (List Nat) := []
  rx : Tab RxFrame := []
  rxSerial : Nat := 0
  egress : Tab EgressRead := []
  /-- Complete cells and read requests carry the order in which they came (R256, R257). -/
  ageCount : Nat := 0
  flushes : List Flush := []
  /-- Keystone cells held by queue q (R260). -/
  keystoneHeld : Tab Nat := []
  /-- Cells by which the shared pool and the Keystone reserve lend more than a commit has left them (R260, R263). -/
  sharedDebt : Nat := 0
  keystoneDebt : Nat := 0
  /-- Cells debited to the headroom of a port (R137). -/
  headUsed : Tab Nat := []
  /-- Drain deadline of a draining queue (R269). -/
  drainAt : Tab Nat := []
  /-- Cell numbers of the last 16 reclaims, newest first (R272). -/
  reclaims : List Nat := []
  /-- Descriptor totals by state at the end of the last audit pass (R272). -/
  auditTotals : List Nat := []
  /-- Strand values of recent hard mismatches (R277) and the end of a shadow interval (R279). -/
  hardAt : List Nat := []
  shadowEnd : Option Nat := none
  /-- Next cell the audit visits (R270). -/
  auditNext : Nat := 0
deriving DecidableEq, Repr

/-- A disable in progress, R111 and R193: mode 1 drain or 2 force, the ticket it completes, and the drain's end. -/
structure Disabling where
  mode : Nat
  ticket : Nat
  deadline : Nat
deriving DecidableEq, Repr

/-! ### Ethernet ports and egress (R122 to R155, R311 to R336) -/

/-- An Ethernet or Pier port beside its registers. -/
structure EthPort where
  /-- The link-up conditions of R122 hold. -/
  cond : Bool := false
  /-- End of LINK_HOLD (R135); the hold is over and only the flush is awaited. -/
  holdEnd : Option Nat := none
  holdOver : Bool := false
  /-- Received pause timers (R140), pause watchdogs and pause storms (R142) by class: their ends. -/
  rxTimer : Tab Nat := []
  dogAt : Tab Nat := []
  stormEnd : Tab Nat := []
  /-- Classes that the next flow control frame announces (R138), and when it is refreshed. -/
  fcPend : Nat := 0
  refreshAt : Option Nat := none
  /-- Preemption verification (R147): attempts made and the end of the running one. -/
  verifyTries : Nat := 0
  verifyAt : Option Nat := none
  /-- CSMA/CD (R146): collisions of the frame in transmission and the end of its back-off. -/
  collisions : Nat := 0
  backoffAt : Option Nat := none
  /-- PLCA (R144): until when a frame may start in the transmit opportunity in force, and how many more; and the frame in
  transmission waits for the next opportunity (R145). -/
  toEnd : Option Nat := none
  toLeft : Nat := 0
  deferred : Bool := false
  /-- Fault ordered sets that a 10GBASE-R port sends (R123): 0 none, 1 local fault, 2 remote fault. -/
  faultTx : Nat := 0
  /-- WFQ virtual time by group (R315). -/
  v : Tab Nat := []
  /-- Credit of class shapers (R318) in 1/800,000 bit (log entry 68) by class, of the thermal shedding shaper (R376) at 8, and the
  Strand value to which all are up to date. -/
  credit : Tab Int := []
  creditAt : Nat := 0
  /-- A preemptable frame held part-sent (R148, R314). -/
  held : Option EgressRead := none
  /-- Transmit timestamp entries that wait behind that of a frame held part-sent, since entries appear in the order in which transmission
  started (R351): TS_ID, clock, flags and stamp. -/
  tsWait : List (Nat × Nat × Nat × Nat) := []
  /-- A disable in progress: mode, ticket, end of the drain (R111). -/
  disabling : Option Disabling := none
deriving DecidableEq, Repr

/-- WFQ tags of a queue, and its own stream shaper's credit (R315, R318). -/
structure QTag where
  start : Nat := 0
  finish : Nat := 0
  last : Nat := 0
  /-- The head copy the tags were computed for, while the queue is active: descriptor + generation × 2^16. -/
  head : Option Nat := none
  credit : Int := 0
  /-- The copy seen at the head, and the working-clock value in ns at which it was first seen there (R323). -/
  seen : Option (Nat × Nat) := none
deriving DecidableEq, Repr

/-- A gate list (R320, R321): times in ns of the working clock; entries as states, operation, interval. -/
structure GateList where
  base : Nat
  cycle : Nat
  ext : Nat
  entries : List (Nat × Nat × Nat)
  pool : Nat
deriving DecidableEq, Repr

/-- Gate control of a port (R322 to R327). -/
structure GateSt where
  oper : Option GateList := none
  /-- A pending list and its change time C. -/
  pend : Option (GateList × Nat) := none
  entry : Nat := 0
  cycleStart : Nat := 0
  /-- Start of the entry in force. -/
  entryStart : Nat := 0
  gates : Nat := 0xFF
  hold : Bool := false
deriving DecidableEq, Repr

/-- Token buckets of a meter in 1/6,400,000 byte, 1/6,250 of the unit of R330, up to date at a Strand value (R330); unlisted buckets are full. -/
structure MeterSt where
  full : Bool := true
  c : Nat := 0
  e : Nat := 0
  at_ : Nat := 0
deriving DecidableEq, Repr

/-- Tokens of a CAN rate limiter (R331); an unlisted limiter is full. -/
structure RateSt where
  full : Bool := true
  tokens : Nat := 0
  at_ : Nat := 0
deriving DecidableEq, Repr

/-- Ports and egress. -/
structure EgrState where
  ports : Tab EthPort := []
  tags : Tab QTag := []
  gates : Tab GateSt := []
  meters : Tab MeterSt := []
  rates : Tab RateSt := []
  /-- Next sample of a queue's histograms (R333). -/
  histAt : Tab Nat := []
  /-- Running MDIO accesses by master, first the one in progress (R152): client, ticket, request. -/
  mdio : Tab (List (Nat × Nat × List Byte)) := []
deriving DecidableEq, Repr

/-! ### Forwarding (R207 to R246) -/

/-- FRER recovery state of a function, R221. -/
structure FrerSt where
  /-- Sequence numbers passed, latest first. -/
  passed : List Nat := []
  lastPass : Nat := 0
deriving DecidableEq, Repr

/-- Learning and recovery state. -/
structure FwdState where
  /-- Learnt FDB entries by index, raw entry of R215. -/
  learnt : Tab Nat := []
  frer : Tab FrerSt := []
  /-- Entries with an uncorrectable error: table code × 2^24 + index (R209). -/
  badEntries : List Nat := []
  /-- Ports whose learnt entries firmware is about to remove (R229). -/
  linkDownRemoval : List Nat := []
deriving DecidableEq, Repr

/-! ### Pier links and the Viaduct (R500 to R524) -/

/-- A request forwarded to another Deck, R513. -/
structure FwdReq where
  mb : Nat
  deck : Nat
  num : Nat
  cmd : Nat
  body : List Byte
  /-- The path was lost: DECK_UNREACHABLE at this Strand value unless one returns. -/
  lostAt : Option Nat
  /-- The client that sent it. -/
  client : Nat := 0
  /-- Bulk output could not be written to host memory (R63). -/
  failed : Bool := false
deriving DecidableEq, Repr

/-- A ticket that a client of this Deck holds on another Deck (R69): its number there, whether its commit checked the base, which
ends a quarantine (R520), the number of the request that opened it, the host buffer of its bulk output, and whether a write
there has failed (R63). -/
structure FarTicket where
  client : Nat
  deck : Nat
  num : Nat
  base : Bool := false
  req : Nat := 0
  addr : Nat := 0
  failed : Bool := false
deriving DecidableEq, Repr

/-- A request slot of a target Deck, R513: the origin's request, whether its client holds SEC control there (R516), the
mailbox that it stands in, and whether its bulk data is still awaited (R69). -/
structure ReqSlot where
  origin : Nat
  client : Nat
  num : Nat
  cmd : Nat
  req : List Byte
  sec : Bool
  mb : Option Nat := none
  waits : Bool := false
  /-- Its bulk data as far as it has arrived. -/
  data : List Byte := []
deriving DecidableEq, Repr

/-- What a Pier port knows of its peer and its link, R502 to R505. -/
structure PierPort where
  /-- Step of R502 reached: 0 down, 1 signal, 2 HELLO flowing, 3 peer known, 4 keys confirmed, 5 credits granted, 6 up. -/
  step : Nat := 0
  rank : Nat := 0
  uid : Nat := 0
  nonce : Nat := 0
  ownNonce : Nat := 0
  peerMac : Nat := 0
  /-- HELLO bodies sent and received last (R501). -/
  ownHello : List Byte := []
  peerHello : List Byte := []
  holdEnd : Option Nat := none
  retryAt : Option Nat := none
  /-- Last valid KEEPALIVE, as a Strand value, and the next interval. -/
  lastKa : Nat := 0
  nextAt : Nat := 0
  /-- Credit used by class, in cells: 0..7 DATA, 8 REQ, 9 CPL, 10 EVT. -/
  used : Tab Nat := []
  /-- Next LSEQ to send and the LSEQ expected, by class. -/
  txSeq : Tab Nat := []
  rxSeq : Tab Nat := []
  /-- Replay buffers: class, LSEQ, type, DECKS, body, in order; and when they are sent again. -/
  replay : List (Nat × Nat × Nat × Nat × List Byte) := []
  resendAt : Option Nat := none
  /-- KEY_CONFIRM has failed, or no usable key is held: the link stays at step 4 until the next attempt (R515). -/
  keyHeld : Bool := false
  /-- The link runs through bring-up again for a new session key; its peer is not lost (R515). -/
  rekeying : Bool := false
  /-- Management units that wait for credit, in order: class, type, DECKS, body. -/
  waiting : List (Nat × Nat × Nat × List Byte) := []
deriving DecidableEq, Repr

/-- A split record, R523. -/
structure SplitRec where
  stamp : Nat
  kind : Nat
  port : Nat
  before : Nat
  after : Nat
  leader : Nat
  epoch : Nat
deriving DecidableEq, Repr

/-- What a Deck knows of another: UNIQUE_ID, variant, hops, epoch and commit identifier, quarantine. -/
structure DeckInfo where
  known : Bool := false
  uid : Nat := 0
  variant : Nat := 0
  hops : Nat := 0
  epoch : Nat := 0
  commitId : Nat := 0
  quarantine : Bool := false
  /-- The contents of its last HELLO, to be passed on (R510). -/
  hello : List Byte := []
  /-- Pier port on the active path towards it. -/
  port : Nat := 0
deriving DecidableEq, Repr

/-- Pier and Viaduct state. -/
structure PierState where
  forwarded : List FwdReq := []
  reqNumber : Nat := 0
  ports : Tab PierPort := []
  decks : Tab DeckInfo := []
  /-- Ledger of Deck 0 (R519): epoch and commit identifier by Deck. -/
  ledger : Tab (Nat × Nat) := []
  commitId : Nat := 0
  /-- Request slots held (R513), oldest first; and responses remembered, newest first: origin, number, CPL body. -/
  slots : List ReqSlot := []
  answered : List (Nat × Nat × List Byte) := []
  /-- Tickets that this Deck's clients hold on another Deck (R69). -/
  farTickets : List FarTicket := []
  /-- What this member last reported of whether every Span but its carrier Span sleeps (R405). -/
  quietTold : Option Bool := none
  /-- Pier links known to be up: Deck, its port 20 or 21, and the Deck behind it (log entry 24). -/
  links : List (Nat × Nat × Nat) := []
  /-- The link of a ring that is standby, by one of its ends, once it is not the default one (R508, R509). -/
  standby : Option (Nat × Nat) := none
  splitLog : List SplitRec := []
  /-- Deck that leads this Deck's half. -/
  master : Nat := 0
  discoverAt : Option Nat := none
  actingAt : Option Nat := none
deriving DecidableEq, Repr

/-! ### Boot, firmware and the Hatpin link (R11 to R13, R34 to R53) -/

/-- A Hatpin access (R12): client and ticket of the command that waits for it, words still to come, words done, and the words to
write; or the mode command of an integrated transceiver, for which no ticket waits. -/
structure HatpinAccess where
  client : Nat
  ticket : Nat
  left : Nat
  data : List Byte := []
  write : Bool := false
  xcvr : Option (Nat × Nat) := none
deriving DecidableEq, Repr

/-- The Hatpin link as the Crown die sees it: accesses in order, and consecutive failures of the first one's transfer. -/
structure HatpinState where
  queue : List HatpinAccess := []
  fails : Nat := 0
deriving DecidableEq, Repr

/-- What firmware still has to decide about a Span, because it happened during a firmware switchover (R52): a wake with its record's
source, index and detail, its Channel and the holder of an abort; a keep-alive of a node; a decision of the Deck that leads; the
outcome of the arming writes. -/
inductive SpanDue where
  | wake (i source index detail chan : Nat) (h : Nat × Nat × Nat)
  | keepAlive (i chan node detail : Nat)
  | master (i deck kind arg : Nat)
  | armed (i : Nat) (fails : Bool)
deriving DecidableEq, Repr

/-- Boot and firmware: the two SRAM banks, bank b from address b × 2^22 on, as loaded images. -/
structure FwState where
  banks : Memory := []
  active : Nat := 0
  /-- Length of the image in the inactive bank, and whether DECK.FW_VERIFY passed it. -/
  loaded : Option Nat := none
  verified : Bool := false
  /-- VERSION and REQUIRES of the configuration image in force, 0 if configured by the host (R104). -/
  cfgVersion : Nat := 0
  cfgRequires : Nat := 0
  /-- Strap attempts that disagreed, and whether the straps have been accepted (R34). -/
  strapTries : Nat := 0
  straps : Bool := false
  /-- Boot BIST has passed (R534). -/
  bist : Bool := false
  /-- Channels of Causeway pairs with a CHANNEL record in first-light or the committed configuration (R39). -/
  chanRecords : List Nat := []
  /-- The running firmware was booted from the flash slot that FW_SLOT names, and not by the recovery service (R49). -/
  fromSlot : Bool := false
  /-- DECK.FW_SWITCH in progress: its mailbox, SEQ, the old bank, and the end of the 2 ms (R52, R53). -/
  switching : Option (Nat × Nat × Nat × Nat) := none
  /-- Span decisions that wait for the end of the switchover, oldest first (R52). -/
  spanDue : List SpanDue := []
  /-- The recovery service runs (R35). -/
  recovery : Bool := false
  /-- Boot failures to report once events are running, oldest first (R48). -/
  reports : List Nat := []
deriving DecidableEq, Repr

/-! ### Outputs -/

/-- What the device puts out: the model's record of what an observer outside sees, newest first. -/
inductive Emit where
  /-- An MSI-X message: vector, address, data (R465). -/
  | msix (vector addr data : Nat)
  /-- A write to host memory (R485, R62). -/
  | pcieWrite (addr : Nat) (data : List Byte)
  /-- A frame sent on an Ethernet or Pier port. -/
  | ethTx (port : Nat) (frame : List Byte) (bad : Bool)
  /-- A frame offered on a CAN bus, in receive form (R182). -/
  | canTx (lane : Nat) (frame : List Byte)
  /-- The acknowledge of a correctly received CAN frame (R157). -/
  | canAck (lane : Nat)
  /-- A header or response on a LIN bus. -/
  | linHeader (lane id : Nat)
  | linResponse (lane id : Nat) (data : List Byte)
  | linWakeup (lane : Nat)
  /-- A Viaduct unit sent on a Pier port (R500, R501): TYPE, class (0..7 DATA, 8 REQ, 9 CPL, 10 EVT, 11 CTRL), DECKS, LSEQ,
  body. -/
  | pierUnit (port typ cls decks lseq : Nat) (body : List Byte)
  /-- A Hatpin transfer to the Brim die: register or command number and value (R11). -/
  | hatpin (reg value : Nat)
  /-- Bytes driven on MISO (R66). -/
  | miso (data : List Byte)
  /-- An MDIO frame (R152): master, Clause 22 or 45, PHY address, register (Clause 22) or device (Clause 45), 0 address 1 write
  2 read, and the address or data. -/
  | mdio (master clause phy dev op value : Nat)
  /-- An NVMe command (R493), a debug or pin level change. -/
  | nvme (opcode lba count : Nat) (data : List Byte)
  | pin (name : String) (index level : Nat)
  /-- A Viaduct Span message: Span, kind and argument (R404). -/
  | spanMessage (span kind arg : Nat)
  /-- A port starts to send fault ordered sets, 1 local or 2 remote, or ends them (0) (R123). -/
  | faultSets (port kind : Nat)
  /-- Clause 37 negotiation starts, and advertises symmetric PAUSE or no PAUSE ability (R126). -/
  | advertise (port : Nat) (pause : Bool)
  /-- A PLCA coordinator's BEACON with the transmit opportunities of its cycle (R144). -/
  | beacon (port count : Nat)
  /-- A verify (0) or respond (1) mPacket sent (R147). -/
  | mpacket (port kind : Nat)
  /-- A gPTP message sent: port, domain number, message type of IEEE 802.1AS (R341). -/
  | gptp (port domain typ value : Nat)
  /-- A value that a read command returns to its requester. -/
  | readData (addr value : Nat)
  /-- The bytes that a host read of BAR2 or BAR4 returns (R28, R30): BAR, offset, bytes. -/
  | readBytes (bar off : Nat) (data : List Byte)
  /-- An inbound read completed with Completer Abort and reported through AER: BAR and offset (R472). -/
  | completerAbort (bar off : Nat)
deriving DecidableEq, Repr

/-! ### CAN and LIN Lanes (R156 to R206) -/

/-- A frame in a Lane's transmit-at-time comparator, R180: its receive-form bytes and the completion it owes. -/
structure AtFrame where
  bytes : List Byte
  at_ : Nat
  comp : Option Nat
  attempts : Nat := 0
  arbLosses : Nat := 0
  released : Bool := false
  /-- Transmit stamp of the last attempt, 0 if none started (R189). -/
  txStamp : Nat := 0
deriving DecidableEq, Repr

/-- What an attempt in flight offers: the FIFO head or the comparator's frame. -/
inductive Offer where
  | fifo | atTime
deriving DecidableEq, Repr

/-- A CAN Lane beside its registers. -/
structure CanLane where
  /-- FIFO entries, head first: descriptors (R168). -/
  fifo : List Nat := []
  inFlight : Option Offer := none
  /-- Transmit stamp of the attempt in flight (R179). -/
  txStamp : Nat := 0
  at_ : Option AtFrame := none
  /-- Consecutive NO_ACK discards (R172). -/
  noAckRun : Nat := 0
  /-- FIFO entries that are still to pass the age test, as after bus-off recovery (R174, R177). -/
  recheck : Nat := 0
  /-- The FIFO head that has passed it and been offered since (R174). -/
  tried : Option Nat := none
  /-- Entry into restricted operation scheduled (R177). -/
  restrictPend : Bool := false
  /-- End of RECOVER_DELAY (R176). -/
  recoverAt : Option Nat := none
  /-- Transceiver mode commanded and not yet applied, and applied and not yet reached (R165). -/
  xcvrPend : Option Nat := none
  xcvrGoing : Option Nat := none
  /-- The mode before its Span entered ENTERING (R389). -/
  xcvrBefore : Nat := 2
  /-- The next receive record carries OVERRUN (R187). -/
  overrun : Bool := false
  /-- Completion granules reserved (R188). -/
  compReserved : Nat := 0
  /-- A record of bad length stopped the taking (R188). -/
  ringStopped : Bool := false
  disabling : Option Disabling := none
deriving DecidableEq, Repr

/-- A LIN publish buffer, R196: bytes, and whether it changed since it was last sent (R199). -/
structure Publish where
  data : List Byte := []
  written : Bool := false
  changed : Bool := false
deriving DecidableEq, Repr

/-- What the current LIN slot is doing (R199). -/
inductive SlotKind where
  | idle | silent | publish | subscribe | event | diagReq | sleep
deriving DecidableEq, Repr

/-- A LIN Lane beside its registers. -/
structure LinLane where
  publish : Tab Publish := []
  /-- Select waiting for the slot end: table and action (R200). -/
  select : Option (Nat × Nat) := none
  /-- Interrupted tables and the entries to resume after collision resolution, the one interrupted last first (R199). -/
  resume : List (Nat × Nat) := []
  /-- A collision occurred in the current event-triggered slot. -/
  collided : Bool := false
  slot : SlotKind := .idle
  /-- Frame ID of the header sent or received last. -/
  lastId : Nat := 0
  slotEnd : Nat := 0
  /-- Stamp of the falling edge of the break (R203), and the end of the time for a subscribed response. -/
  brk : Nat := 0
  respEnd : Nat := 0
  /-- GOTO_SLEEP waiting for the slot end (R201). -/
  sleepPend : Bool := false
  /-- End of the wake-up pulse being driven (R201). -/
  pulseEnd : Option Nat := none
  /-- Restart of the last selected table 100 ms after the pulse (R201). -/
  restartAt : Option Nat := none
  /-- No SCHEDULE_SELECT has come since the pulse started (R201). -/
  wakeRestart : Bool := false
  /-- The table selected last. -/
  lastTable : Option Nat := none
  /-- Strand value of the last bus activity (R202). -/
  activity : Nat := 0
  /-- The responder has seen activity since its last BUS_IDLE, and no sleep command since that (R382). -/
  demand : Bool := false
  /-- Tables in use that a commit has changed: they restart at the slot's end (R200). -/
  reload : List Nat := []
  disabling : Option Disabling := none
deriving DecidableEq, Repr

/-! ### Time (R337 to R359) -/

/-- A clock: its history, newest first, each entry the Strand value, the clock value in units of 2^−32 ns and the
increment per cycle (R339, R348). -/
structure ClockSt where
  hist : List (Nat × Nat × Nat) := []
deriving DecidableEq, Repr

/-- A gPTP domain beside its state in TIME_STATUS (R341, R343). -/
structure DomainSt where
  /-- Consecutive Syncs within LOCK_THRESH, and beyond it. -/
  good : Nat := 0
  bad : Nat := 0
  /-- Last servo offset in ns. -/
  offset : Int := 0
  /-- Ends of the Sync watchdog and of the announce timeout. -/
  syncAt : Option Nat := none
  annAt : Option Nat := none
  /-- Next Sync and next Announce that the master ports owe (R341). -/
  masterAt : Option Nat := none
  masterAnn : Option Nat := none
  /-- Receive stamp of a two-step Sync whose Follow_Up is awaited. -/
  twoStep : Option Nat := none
  /-- Grandmaster information of the last Announce received (R341). -/
  gm : Option Nat := none
  lockedAt : Nat := 0
deriving DecidableEq, Repr

/-- The working clock's source: the direction of the bleeding with its end in Hatband time (R345), and the domain that
TIME.WORKING_SELECT named (R347). -/
structure WorkSt where
  slew : Option (Int × Nat) := none
  primary : Option Nat := none
deriving DecidableEq, Repr

/-- A timed output (R354): next leading edge on its clock in ns; the pulse in progress as the Strand value of its leading
edge and the clock value in ns of its trailing edge, or, after a step, the Strand value of its trailing edge. -/
structure OutputSt where
  next : Option Nat := none
  pulse : Option (Nat × Nat) := none
  pulseStrand : Option Nat := none
  /-- CLOCK, POLARITY and WIDTH of the pulse in progress, which a commit does not change (R354). -/
  pulseOf : Nat × Nat × Nat := (2, 0, 0)
  /-- A commit has changed the output while a pulse is in progress. -/
  changed : Bool := false
  /-- That commit's T_s + 10 µs on the new CLOCK, in ns: no edge of the changed output lies before it. -/
  floor : Nat := 0
deriving DecidableEq, Repr

/-- A capture input (R355): records, oldest first, as stamp and direction; the last recorded edge; drops since the last
read. -/
structure CaptureSt where
  recs : List (Nat × Nat) := []
  lastEdge : Option Nat := none
  dropsSince : Nat := 0
deriving DecidableEq, Repr

/-- The time unit and the gPTP instances. -/
structure TimeState where
  clocks : Tab ClockSt := []
  domains : Tab DomainSt := []
  work : WorkSt := {}
  outputs : Tab OutputSt := []
  captures : Tab CaptureSt := []
  /-- Next periodic history entry (R348). -/
  histAt : Option Nat := none
  /-- Mean link delay of a port in 2^−32 ns once measured (R341), its next Pdelay request and the stamp of the last. -/
  delay : Tab (Option Int) := []
  pdelayAt : Tab Nat := []
  pdelayT1 : Tab (Option Nat) := []
  /-- End of a running stamp conversion, its Strand value and its CONV_SEL (R349). -/
  conv : Option (Nat × Nat × Nat) := none
  /-- Pier time: 0 not a member, 1 following, 2 lost (R357, R359). -/
  pier : Nat := 0
deriving DecidableEq, Repr

/-! ### Hatbox (R408 to R449) -/

/-- A key slot: the policy of R415 and the key. `erasedAt` and `installedAt` order its installs and erasures against a
counter's exhaustion (R441). -/
structure KeySlot where
  typ : Nat := 0
  usage : Nat := 0
  callers : Nat := 0
  flags : Nat := 0
  gen : Nat := 0
  key : List Byte := []
  erasedAt : Nat := 0
  installedAt : Nat := 0
deriving DecidableEq, Repr

/-- A stored copy of a persistent slot in Brim non-volatile memory; `ok` while its tag verifies (R419, R447). -/
structure KeyCopy where
  slot : KeySlot
  ok : Bool := true
deriving DecidableEq, Repr

/-- A secure association, R422, with what R423, R426 and SEC.STATS keep of it. -/
structure SecAssoc where
  installed : Bool := false
  slot : Nat := 0
  enabled : Bool := false
  ssci : Nat := 0
  nextPn : Nat := 0
  lowestPn : Nat := 0
  threshold : Nat := 0
  salt : List Byte := []
  sci : Nat := 0
  /-- The PN threshold has been reported; a valid frame has been received. -/
  warned : Bool := false
  seen : Bool := false
  frames : Nat := 0
  octets : Nat := 0
deriving DecidableEq, Repr

/-- A freshness counter, R439: value and state (0 INVALID, 1 VALID, 2 EXHAUSTED). -/
structure Fresh where
  value : Nat := 0
  state : Nat := 0
  exhaustedAt : Nat := 0
deriving DecidableEq, Repr

/-- A CAN authentication job, R439 and R440: the frame in receive form, its profile as latched, and the copies that a pass
enqueues, each with whether the frame is converted for it (R238). -/
structure AuthJob where
  gen : Bool
  profile : Nat
  raw : Nat
  record : List Byte
  /-- Channel it entered on, Deck it came from, its route with the route's entry, and the Lane whose receive queue takes it. -/
  source : Nat
  deck : Option Nat
  route : Nat
  entry : Nat
  rxq : Option Nat
  specs : List CopySpec
deriving DecidableEq, Repr

/-- A bulk job, R430: its class (R427: 1 STORE, 2 HOST, 3 MILLINER, 4 SELF), caller, ticket, descriptor, the engine that
started it, and the input bytes whose quanta have run. -/
structure HbxJob where
  cls : Nat
  client : Nat
  ticket : Nat
  desc : List Byte
  seg : Bool
  engine : Option Nat := none
  done : Nat := 0
deriving DecidableEq, Repr

/-- A chained context, R434: what its segments have given so far, and the output areas to zero. -/
structure HbxCtx where
  client : Nat
  ctx : Nat
  mode : Nat
  slot : Nat
  iv : List Byte
  aad : List Byte
  data : List Byte
  outs : List (Nat × Nat)
deriving DecidableEq, Repr

/-- A shared engine's round, R427: the class it visits and the quanta granted in this visit. -/
structure EngineSt where
  cls : Nat := 1
  used : Nat := 0
deriving DecidableEq, Repr

/-- The Hatbox. -/
structure HbxState where
  slots : Tab KeySlot := []
  /-- Secure associations by Channel × 64 + index, and the transmit AN that takes over at the next frame start (R423). -/
  assocs : Tab SecAssoc := []
  txNext : Tab (Option Nat) := []
  fresh : Tab Fresh := []
  /-- Installs, erasures and exhaustions so far. -/
  serial : Nat := 0
  auth : List AuthJob := []
  jobs : List HbxJob := []
  contexts : List HbxCtx := []
  engines : Tab EngineSt := []
  /-- The challenge and the end of its life (R411). -/
  challenge : Option (List Byte × Nat) := none
  /-- Scopes unlocked since the Crown-die reset (R412). -/
  unlocked : Nat := 0
  /-- Every start-up self-test passed, and the running firmware was verified under a production key (R413). -/
  testsOk : Bool := false
  prodFw : Bool := false
  /-- The DRBG is stopped, consecutive entropy failures, the next retry (R445), and outputs drawn. -/
  drbgStopped : Bool := false
  entropyFails : Nat := 0
  retryAt : Option Nat := none
  drawn : Nat := 0
  /-- Seed of the DRBG, a free value of the entropy source (R408, R444, R447). -/
  seed : Nat := 0
  /-- The zeroisation in progress: client, ticket, scope (R447). -/
  zeroising : Option (Nat × Nat × Nat) := none
  /-- End of BULK_MODE's drain (R436). -/
  drainAt : Option Nat := none
  /-- Pier session keys by port (R515). -/
  pierKeys : Tab (List Byte) := []
deriving DecidableEq, Repr

/-! ### The Hatband domain on the Brim die (R360 to R377, R397, R531, R533, R537) -/

/-- An entry of the fault log, R531. -/
structure FaultEntry where
  time : Nat
  seq : Nat
  input : Nat
  action : Nat
  injected : Bool
  limited : Bool
  faultN : Bool
  detail : Nat
deriving DecidableEq, Repr

/-- A wake record, R397. -/
structure WakeRec where
  time : Nat
  seq : Nat
  source : Nat
  index : Nat
  span : Nat
  flags : Nat
  detail : Nat
deriving DecidableEq, Repr

/-- The sources armed for a Span on the Brim die (R385): WAKE pins, Channels with a transceiver or PHY, and the
selective-wake masks of its CAN Channels. -/
structure ArmedSpan where
  span : Nat
  pins : Nat
  chans : List Nat
  swake : List (Nat × Nat)
deriving DecidableEq, Repr

/-- One direction of a Causeway repeater, R538: the frames that wait, oldest first, each as its receive form and the
Hatband time of its end, the failed attempts of the first, and the error state on the bus it sends to. -/
structure RepeatDir where
  fifo : List (List Byte × Nat) := []
  attempts : Nat := 0
  tec : Nat := 0
  busOff : Bool := false
  /-- The bus this direction sends to has shown a correct frame (R539). -/
  calibrated : Bool := false
deriving DecidableEq, Repr

/-- A Causeway repeater, R537: whether it owns its pair, whether the pair has been handed over (R39), and since when
a takeover or a handover waits for both buses to be idle. -/
structure Repeater where
  owns : Bool := false
  handedOver : Bool := false
  waitUntil : Option Nat := none
  ab : RepeatDir := {}
  ba : RepeatDir := {}
deriving DecidableEq, Repr

/-- A wake that the Brim die latched for a Span while the Crown die could not act on it (R368, R371, R399): its record's source and
detail, and the Channel that was the source. -/
structure LatchedWake where
  span : Nat
  source : Nat
  detail : Nat
  chan : Nat
deriving DecidableEq, Repr

/-- What the Brim die holds beside the registers read from it. -/
structure BrimState where
  /-- Time since VBAT power-on in units of 1.25 ns (log entry 17); HB_TIME of R397 derives from it. -/
  hb : Nat := 0
  /-- Power state of R363. -/
  power : Nat := 0
  /-- State before the latest entry to Waking (PWR_STATUS.PREV_STATE at the next entry to Running). -/
  prev : Nat := 0
  /-- Brim non-volatile memory: parameter values by configuration key (R365, R379, R536). -/
  nvm : Tab Nat := []
  nvmLoaded : Bool := false
  /-- Stored copies of the persistent key slots (R419). -/
  keyStore : Tab KeyCopy := []
  faultLog : List FaultEntry := []
  faultSeq : Nat := 0
  /-- Times of fault-requested resets (R529). -/
  faultResets : List Nat := []
  /-- Degraded was entered by a halt, so it is never retried (R373). -/
  halted : Bool := false
  wakes : List WakeRec := []
  wakeSeq : Nat := 0
  /-- XOSC32 is stable, and has failed while Parked (R361). -/
  xoscOk : Bool := false
  crystalFail : Bool := false
  /-- A PARK request held until XOSC32 is stable (R361), and a low-power request accepted (R368, R371). -/
  parkHeld : Bool := false
  /-- A wake latched before the acceptance has made the Brim die refuse a request; its record is still to be written (R368). -/
  refused : Bool := false
  entering : Option Nat := none
  /-- A wake has been latched and not yet acted on, and the Spans it names (R399). -/
  wakeLatched : Bool := false
  latchedSpans : List LatchedWake := []
  /-- Wake records that have been overwritten (R400). -/
  wakesLost : Nat := 0
  /-- Firmware has run since the Brim reset, so the INH outputs follow their roles (R370), the Spans that were not asleep when it last
  ran, and what each output drives: 0 off, 1 on, 2 high-Z. -/
  inhRoles : Bool := false
  inhAwake : Nat := 0xFFFF
  inhDrive : Tab Nat := []
  /-- Modes of the LIN transceivers of LIN[0] to LIN[7] and of the T1S PHYs, by Channel: 0 normal, 3 sleep (R23, R385). -/
  lineModes : Tab Nat := []
  armedSpans : List ArmedSpan := []
  /-- Error counters of armed selective-wake decoders by Channel (R394). -/
  decErr : Tab Nat := []
  /-- WAKE_TIMER and LISTEN_TO_PARK in seconds, as the request carried them. -/
  wakeSecs : Nat := 0
  parkSecs : Nat := 0
  /-- Deadlines of the Hatband timers. -/
  wakeTimer : Option Nat := none
  parkTimer : Option Nat := none
  supplyTimer : Option Nat := none
  retryAt : Option Nat := none
  thermRetryAt : Option Nat := none
  supplyRetries : List Nat := []
  thermalTimes : List Nat := []
  supplyBad : Bool := false
  /-- Brim register words that DIAG.WRITE has written, by Brim word address (R13, R119). -/
  words : Tab Nat := []
  /-- The Hatpin link has failed four times running (R12). -/
  hatpinLost : Bool := false
  /-- VCC5 is in tolerance (R545). -/
  vcc5 : Bool := true
  repeaters : Tab Repeater := []
  /-- Causeway counters of R540 by pair × 4 + index. -/
  cwCtrs : Tab Nat := []
  /-- Watchdog (R533): end of the window, its opening, whether BOOT governs, the HOLD flag, and the warning given. -/
  wdClose : Option Nat := none
  wdOpen : Nat := 0
  wdWarnAt : Option Nat := none
  /-- Window in force: OPEN, CLOSE and BOOT in ms. -/
  wdSet : Nat × Nat × Nat := (5, 100, 500)
  /-- When the thermal level may fall. -/
  thermFallAt : Option Nat := none
deriving DecidableEq, Repr

/-! ### Signal Gateway Engine (R283 to R310) -/

/-- A signal's state, R293. -/
structure Signal where
  value : Nat := 0
  stamp : Nat := 0
  valid : Bool := false
  updated : Bool := false
  timedOut : Bool := false
  substituted : Bool := false
  injected : Bool := false
  seq : Nat := 0
deriving DecidableEq, Repr

/-- A job in the ready list or on an executor, R283 to R285: carding with its input copy and record, or felting of a PDU. -/
structure SgeJob where
  pdu : Option Nat
  desc : Nat := 0
  record : List Byte := []
  program : Nat
  release : Nat
  deadline : Nat
  order : Nat
deriving DecidableEq, Repr

/-- An executor's running job: the program counter, the payload composed so far, and CHANGED. -/
structure Running where
  job : SgeJob
  pc : Nat
  body : List Byte
  changed : Bool := false
  stamp : Nat
  /-- The committed configuration latched at dispatch is the old epoch's (R97, R285). -/
  old : Bool := false
deriving DecidableEq, Repr

/-- What the SGE keeps of a PDU definition: protection counters (R302), the previous dispatch and deferred triggers
(R299), and the timer's next boundary (R300). -/
structure PduSt where
  txCount : Nat := 0
  rxCount : Option Nat := none
  lastDispatch : Option Nat := none
  deferred : Bool := false
deriving DecidableEq, Repr

/-- A PDU timer, R300: the epoch it counts from, and its next boundary: a Strand value, or ns of the working clock. -/
structure PduTimer where
  next : Option Nat := none
  aligned : Bool := false
  /-- When it was set or last released: a wake of its Span since then moves its next boundary. -/
  since : Nat := 0
deriving DecidableEq, Repr

/-- A bundle, R307: the open frame's messages and the end of its window, the next sequence number. -/
structure Bundle where
  open_ : Bool := false
  msgs : List Byte := []
  until_ : Nat := 0
  seq : Nat := 0
deriving DecidableEq, Repr

/-- The SGE. -/
structure SgeState where
  signals : Tab Signal := []
  ready : List SgeJob := []
  running : Tab (Option Running) := []
  pdus : Tab PduSt := []
  timers : Tab PduTimer := []
  bundles : Tab Bundle := []
  orders : Nat := 0
  /-- Bundle that the bundler serves next in its round. -/
  turn : Nat := 0
  /-- Frames for the unbundler, oldest first: descriptors taken from queues 200..207. -/
  unbundle : List Nat := []
  /-- The end of a drain or force is awaited (R309): its SGE_MODE. -/
  ending : Option Nat := none
deriving DecidableEq, Repr

/-! ### Trestle bridges, storage and the recorder (R471 to R499) -/

/-- A group of outbound writes that one flush read confirms (R477): its class of R481 (1 REG, 2 RING, 3 BULK, 4 HBX), how many
writes it has, the address of the last, when it was opened, when its flush read was issued, and the descriptors it writes back
by ring (receive rings 0..31, transmit rings 32..63). -/
structure FlushGroup where
  cls : Nat
  writes : Nat := 0
  addr : Nat := 0
  openedAt : Nat := 0
  issued : Option Nat := none
  rings : Tab Nat := []
deriving DecidableEq, Repr

/-- A poller slot (R484): its baseline, its next due time, and whether a read is outstanding. -/
structure PollSt where
  base : Option Nat := none
  due : Option Nat := none
  busy : Bool := false
deriving DecidableEq, Repr

/-- An NVMe command in flight (R493, R496): for a ticket of a client or for a recorder block; the data it writes. -/
structure NvmeCmd where
  ticket : Option (Nat × Nat) := none
  write : Bool
  lba : Nat
  count : Nat
  xts : Bool := false
  /-- The bulk buffer of a read: its address, or its offset in the client's segment buffer. -/
  addr : Nat := 0
  seg : Bool := false
deriving DecidableEq, Repr

/-- Storage, the recorder, the flush groups and the rings. -/
structure StoreState where
  /-- Open and issued flush groups, oldest first. -/
  groups : List FlushGroup := []
  /-- Descriptors written back and not yet confirmed, by ring. -/
  unconf : Tab Nat := []
  /-- Prefetched bytes that a transmit ring holds: address and length (R474). -/
  prefetch : Tab (Nat × Nat) := []
  /-- Frames that transmit rings gave and that F[22] still holds, with the ring and the writeback's address (R489), by receive number. -/
  txHeld : Tab (Nat × Nat) := []
  /-- Transmit ring served last (R488). -/
  txTurn : Nat := 31
  polls : Tab PollSt := []
  /-- STATE of R497, and what STORE.HEALTH returns. -/
  state : Nat := 0
  critWarn : Nat := 0
  pctUsed : Nat := 0
  temp : Nat := 0
  lbaSize : Nat := 0
  nsLbas : Nat := 0
  mediaErrors : Nat := 0
  /-- The storage link's Lane island is gated (R23). -/
  laneGated : Bool := false
  /-- Next poll of the health log. -/
  healthAt : Option Nat := none
  nvme : List NvmeCmd := []
  /-- The recorder runs. -/
  recording : Bool := false
  /-- The tickets, as client and number, of the stops that wait until every block has been written (R496). -/
  stopping : List (Nat × Nat) := []
  /-- The recorder has run since the device was attached, so its place in the region is known. -/
  located : Bool := false
  /-- Next block number and its first LBA. -/
  seq : Nat := 0
  nextLba : Nat := 0
  /-- Bytes of records not yet in a closed block, and the offsets in them at which records start. -/
  recBytes : List Byte := []
  recStarts : List Nat := []
  /-- Copies were dropped since the last record, and before the current block. -/
  gapRec : Bool := false
  gapBlock : Bool := false
  /-- A firmware or configuration image being staged (R494): client and ticket. -/
  staging : Option (Nat × Nat) := none
deriving DecidableEq, Repr

/-! ### Spans (R378 to R407) -/

/-- An entry of a stay-awake log, R402. -/
structure StayEntry where
  time : Nat
  reason : Nat
  kind : Nat
  holder : Nat
  chan : Nat
  awake : Nat
deriving DecidableEq, Repr

/-- AWAKE_MS of a node (R401), in Hatband time: what is accounted, and the open interval from `since` to `until_`. -/
structure NodeAcc where
  acc : Nat := 0
  since : Nat := 0
  until_ : Nat := 0
deriving DecidableEq, Repr

/-- HOLD_MS of a client (R401), in Hatband time. -/
structure HoldAcc where
  acc : Nat := 0
  since : Nat := 0
deriving DecidableEq, Repr

/-- A Span beside its register. -/
structure SpanSt where
  /-- It has started under R399 since the Crown-die boot. -/
  started : Bool := false
  idleAt : Option Nat := none
  prepareAt : Option Nat := none
  falseAt : Option Nat := none
  drainAt : Option Nat := none
  /-- Step of R385 reached: 0 drain, 1 arming, 2 transceivers commanded. -/
  step : Nat := 0
  /-- A correct frame has been received since WAKING (R383). -/
  correct : Bool := false
  /-- Channel that was the wake source (R389). -/
  wakeChan : Nat := 0xFF
  /-- When the awake period began, in Hatband time, as the accounts below keep it (log entry 17). -/
  awakeSince : Nat := 0
  /-- When it last left ASLEEP (R300). -/
  wokeAt : Option Nat := none
  longAt : Option Nat := none
  kaAt : Option Nat := none
  /-- When the last keep-alive carrying demand arrived (R392). -/
  kaHeard : Option Nat := none
  /-- Decks that report demand (R404). -/
  remote : Nat := 0
  /-- Decks on which every other Span with enabled Channels is ASLEEP, as they report it for their carrier Span (R405). -/
  quiet : Nat := 0
  /-- Deck 0 has answered that its Span of this number is local, so this Deck runs its own locally (R404). -/
  masterLocal : Bool := false
  /-- Since when each kind of demand has held: keep-alive with its node and Channel, LIN, remote. -/
  kaSince : Nat := 0
  kaNode : Nat := 0
  kaChan : Nat := 0xFF
  linSince : Nat := 0
  linChan : Nat := 0xFF
  remoteSince : Nat := 0
  /-- The demand that ended last (R402): kind, holder, Channel. -/
  lastHolder : Nat × Nat × Nat := (0, 0, 0xFF)
  nodes : Tab NodeAcc := []
  holds : Tab HoldAcc := []
  log : List StayEntry := []
deriving DecidableEq, Repr

/-- The fault collection unit (R527 to R530): conditions and latches by input, and running injections. -/
structure FcuState where
  active : Tab Bool := []
  latched : Tab Bool := []
  injected : Tab Nat := []
  /-- Firmware has reported that no fault is present (R532). -/
  reported : Bool := false
deriving DecidableEq, Repr

/-- Fuses (R40, R409, R410): lifecycle state, revoked root keys, anti-rollback counters by image type, and root key
hashes by index. -/
structure Fuses where
  lifecycle : Nat := 0
  revoked : Nat := 0
  rollback : Tab Nat := []
  rootHash : Tab Nat := []
  /-- Lock code hash and other fused values by index. -/
  other : Tab Nat := []
deriving DecidableEq, Repr

end Sys2Proof.Machine
end

