-- ==== Sys2Proof/Machine/State.lean ====
section
/-! DEFINITION. The machine's state, its state after reset, and the reasons a step can stop. -/

namespace Sys2Proof.Machine

/-- Why a command ends in a fault. -/
inductive Fault where
  /-- None of the model's meanings raises it: every effect the spec gives ends in a next state. -/
  | none_
deriving DecidableEq, Repr

/-- Why a command is refused. -/
inductive Refusal where
  /-- An arm of `exec` whose meaning is not written. Safe: nothing can be proved of such a run. -/
  | notModelled (mnemonic : String)
deriving DecidableEq, Repr

/-- Everything the spec gives the machine. -/
structure State where
  /-- BAR0 registers by offset (R26); what an unlisted one reads as is `regReset`. -/
  regs : Tab Word := []
  /-- Committed configuration by parameter key (R85, R97); what an unlisted one reads as is `cfgDefault`. -/
  cfg : Tab Nat := []
  /-- Configuration of the old epoch while it is kept (R97, R242). -/
  oldCfg : Option (Tab Nat) := none
  /-- Statistics counters (R557) by object, class and index. -/
  ctrs : Tab Nat := []
  /-- Latched high words of counters, by BAR0 offset of the high word (R154). -/
  ctrLatch : Tab Nat := []
  /-- The Strand counter, 48 bits (R337). -/
  strand : Nat := 0
  /-- Byte memory of BAR0: mailbox request and response areas (R54). -/
  bar0 : Memory := []
  /-- Byte memory of BAR2: CAN message memory, recorder and staging buffers (R28). -/
  bar2 : Memory := []
  /-- The host's memory, as PCIe reaches it (R62, R485). -/
  host : Memory := []
  /-- Model's own: what the device has put out, newest first (log entry 2). -/
  out : List Emit := []
  evt : EvtState := {}
  pcie : PcieState := {}
  /-- Milliner pairs A and B halted or held in reset by a fault reaction (R463, R527). -/
  haltA : Bool := false
  haltB : Bool := false
  gci : GciState := {}
  /-- The Hatband domain and what else the Brim die holds; only a VBAT power-on reset touches it. -/
  brim : BrimState := {}
  fcu : FcuState := {}
  fuses : Fuses := {}
  /-- Flash (R42). -/
  flash : Memory := []
  /-- The fabric clock runs (R337). -/
  fabricOn : Bool := false
  pier : PierState := {}
  /-- The fuses of the ZW8632 are burnt (R1, R2). -/
  absentVariant : Bool := false
  buf : BufState := {}
  fwd : FwdState := {}
  egr : EgrState := {}
  time : TimeState := {}
  hbx : HbxState := {}
  store : StoreState := {}
  fw : FwState := {}
  hatpin : HatpinState := {}
  sge : SgeState := {}
  /-- Enabled Channels other than CAN, by Channel number (R110). -/
  chanOn : Tab Bool := []
  can : Tab CanLane := []
  lin : Tab LinLane := []
  spans : Tab SpanSt := []
  /-- Model's own: draws made so far from the source of free values (log entry 1). -/
  freeCount : Nat := 0
  /-- Commands waiting, first in, first out. -/
  pending : List Instr := []
deriving DecidableEq, Repr

/-- The machine after a VBAT power-on reset (R31). -/
def State.reset : State := {}

end Sys2Proof.Machine
end

