-- ==== Sys2Proof/Machine/Tab.lean ====
section
/-! DEFINITION. Sparse tables and byte memory: the one way State's tables are read and written. -/

namespace Sys2Proof.Machine

/-- The value listed for `k`, if one is listed. -/
def tabFind {α : Type} : Tab α → Nat → Option α
  | [], _ => none
  | (j, v) :: t, k => if k = j then some v else tabFind t k

/-- What key `k` reads as: the listed value, or the table's default there. -/
def tabGet {α : Type} (dflt : Nat → α) (t : Tab α) (k : Nat) : α :=
  (tabFind t k).getD (dflt k)

/-- List `v` at `k`, before the first larger key, in place of an entry for `k`. -/
def tabInsert {α : Type} : Tab α → Nat → α → Tab α
  | [], k, v => [(k, v)]
  | (j, w) :: t, k, v =>
    if k < j then (k, v) :: (j, w) :: t
    else if k = j then (k, v) :: t
    else (j, w) :: tabInsert t k v

/-- List nothing at `k`. -/
def tabErase {α : Type} : Tab α → Nat → Tab α
  | [], _ => []
  | (j, w) :: t, k => if k = j then tabErase t k else (j, w) :: tabErase t k

/-- Make key `k` read as `v`, keeping the canonical form: a default value is not listed. -/
def tabSet {α : Type} [DecidableEq α] (dflt : Nat → α) (t : Tab α) (k : Nat) (v : α) : Tab α :=
  if v = dflt k then tabErase t k else tabInsert t k v

/-- Keys rise strictly from `lo` on and no listed value is the default. -/
def tabWfFrom {α : Type} [DecidableEq α] (dflt : Nat → α) : Nat → Tab α → Bool
  | _, [] => true
  | lo, (k, v) :: t => decide (lo ≤ k) && decide (v ≠ dflt k) && tabWfFrom dflt (k + 1) t

/-- The canonical form of a table, so that equal tables are equal data. -/
def tabWf {α : Type} [DecidableEq α] (dflt : Nat → α) (t : Tab α) : Bool := tabWfFrom dflt 0 t

/-- What a byte of memory that nothing has written reads as: 0 in every memory of the model.
DESIGN CHOICE (log entry 3): the spec gives no contents for memory after power-on. -/
def memDefault (_ : Nat) : Byte := 0

/-- The byte at an address. -/
def memRead (m : Memory) (a : Nat) : Byte := tabGet memDefault m a

/-- Store one byte. -/
def memWrite (m : Memory) (a : Nat) (b : Byte) : Memory := tabSet memDefault m a b

/-- The canonical form of a memory. -/
def Memory.wf (m : Memory) : Bool := tabWf memDefault m

/-- `n` bytes from address `a` on, in rising address. -/
def memReads (m : Memory) (a : Nat) : Nat → List Byte
  | 0 => []
  | n + 1 => memRead m a :: memReads m (a + 1) n

/-- Store a list of bytes from address `a` on. -/
def memWrites (m : Memory) (a : Nat) : List Byte → Memory
  | [] => m
  | b :: bs => memWrites (memWrite m a b) (a + 1) bs

end Sys2Proof.Machine
end

