-- ==== Sys2Proof/Machine/Ops.lean ====
section
/-! DEFINITION. The named operations over the registers, the configuration, the counters, the Strand counter and the free
values: every meaning reads and writes State through them. -/

namespace Sys2Proof.Machine

/-! ### Registers -/

/-- Reset value of the register at a BAR0 offset: the register tables' value, with the entries that depend on the
instance (R54: mailboxes 0..3 assigned; R191: no transceiver
on CAN[16]..CAN[63]; R127: MODE_ACTIVE is the port's reset MODE; R281: what R247, R250 and R259 leave
free; R458: the firmware queues' bindings). Registers are told apart by their first instance's offset: MB_STATUS 0x10004,
MB_OWNER 0x10010, PORT_STATUS 0x100000, CAN_STATUS 0x80000, SW_FREE_CELLS to SW_FREE_DESC 0x104 to 0x110, EVQ_STATUS 0x21000. -/
def regReset (a : Nat) : Nat :=
  match regAt a with
  | none => 0
  | some d =>
    let n := if d.stride = 0 then 0 else (a - d.base) / d.stride
    if d.base == 0x10004 then (if n ≤ 3 then 0 else 4)
    else if d.base == 0x10010 then (if n ≤ 3 then 0x40020 else 0x18)
    else if d.base == 0x100000 then setBits d.reset 5 3 (cfgDefault (pkey (oChan n) 0x0100))
    else if d.base == 0x80000 then setBits d.reset 9 8 (if n < 16 then 2 else 0)
    else if d.base == 0x104 then 262144
    else if d.base == 0x108 then 262144 - 4096 - 784 * 32
    else if d.base == 0x10C then 4096
    else if d.base == 0x110 then 65536
    else if d.base == 0x21000 then
      let (t, e, p) := match n with
        | 0 => (0, 1, 7) | 1 => (1, 0, 2) | 2 => (0, 1, 5) | 3 => (1, 0, 6) | 4 => (2, 0, 6)
        | 5 => (0, 1, 4) | 6 => (1, 0, 3) | 7 => (1, 0, 5) | _ => (7, 7, 0)
      setBits (setBits (setBits d.reset 18 16 t) 21 19 e) 24 22 p
    else d.reset

def regDefault (a : Nat) : Word := BitVec.ofNat 32 (regReset a)

/-- The stored value of the register at a BAR0 offset. -/
def State.reg (s : State) (a : Nat) : Word := tabGet regDefault s.regs a

/-- Store a register. -/
def State.setReg (s : State) (a : Nat) (w : Word) : State := { s with regs := tabSet regDefault s.regs a w }

/-- The value of a register field. -/
def State.getF (s : State) (f : Field) : Nat := bitsOf (s.reg f.off).toNat f.hi f.lo

/-- Store a register field, leaving the register's other bits. -/
def State.setF (s : State) (f : Field) (v : Nat) : State :=
  s.setReg f.off (BitVec.ofNat 32 (setBits (s.reg f.off).toNat f.hi f.lo v))

/-- A one-bit field as a truth value. -/
def State.flag (s : State) (f : Field) : Bool := s.getF f != 0

/-- Set or clear a one-bit field. -/
def State.setFlag (s : State) (f : Field) (b : Bool) : State := s.setF f (b2n b)

/-! ### Configuration -/

/-- The committed value of a parameter of an object (R97). -/
def State.par (s : State) (o pid : Nat) : Nat := tabGet cfgDefault s.cfg (pkey o pid)

/-- Store a committed value. -/
def State.setPar (s : State) (o pid v : Nat) : State := { s with cfg := tabSet cfgDefault s.cfg (pkey o pid) v }

/-- The committed ENTRY of a table object (R210). -/
def State.entry (s : State) (o : Nat) : Nat := s.par o pidEntry

/-- Is a Channel enabled (R110)? The host link always is, and the storage link while it is attached (R113). -/
def State.chanEnabled (s : State) (c : Nat) : Bool :=
  if 24 ≤ c && c ≤ 87 then s.flag (CanStatus.enabled (c - 24))
  else if c = 22 then true
  else if c = 23 then s.store.state == 2
  else tabGet (fun _ => false) s.chanOn c

/-- Does the variant lack CAN[n], LIN[n] (R2)? -/
def State.lacksCan (s : State) (n : Nat) : Bool := s.absentVariant && decide (32 ≤ n)
def State.lacksLin (s : State) (n : Nat) : Bool := s.absentVariant && decide (8 ≤ n)

/-- Span of a Channel (R19, R109). -/
def State.spanOf (s : State) (c : Nat) : Nat := s.par (oChan c) pidSpan

/-! ### Counters (R153, R154, R557) -/

/-- The key of a counter: object, class whose STATS returns it, and its index in that class's list. -/
def ckey (o cls i : Nat) : Nat := (o * 2 ^ 8 + cls) * 2 ^ 8 + i

def ctrDefault (_ : Nat) : Nat := 0

/-- Mode of a Channel's LIN transceiver or T1S PHY: 0 normal, 3 sleep (R23). -/
def State.lineMode (s : State) (c : Nat) : Nat := tabGet ctrDefault s.brim.lineModes c

def State.ctr (s : State) (o cls i : Nat) : Nat := tabGet ctrDefault s.ctrs (ckey o cls i)

/-- Add to a counter, which saturates at 2^64 − 1. -/
def State.addCtr (s : State) (o cls i k : Nat) : State :=
  { s with ctrs := tabSet ctrDefault s.ctrs (ckey o cls i) (min (s.ctr o cls i + k) (2 ^ 64 - 1)) }

/-- Count one. -/
def State.inc (s : State) (o cls i : Nat) : State := s.addCtr o cls i 1

/-- Clear counters 0 to `n` − 1 of an object. -/
def State.clearCtrs (s : State) (o cls : Nat) : Nat → State
  | 0 => s
  | n + 1 => { (s.clearCtrs o cls n) with ctrs := tabErase (s.clearCtrs o cls n).ctrs (ckey o cls n) }

/-- Counters 0 to `n` − 1 of an object, each as eight bytes, low byte first (R89). -/
def State.ctrBytes (s : State) (o cls n : Nat) : List Byte :=
  (List.range n).flatMap (fun i => leBytes 8 (s.ctr o cls i))

/-- A firmware switchover is in progress (STAGE 11): what firmware decides or sends waits (R52). -/
def State.switchover (s : State) : Bool := s.getF DeckBootStatus.stage == 11

/-! ### The Strand counter and free values -/

/-- One microsecond, one millisecond and one second in Strand cycles of 1.25 ns (R337). -/
def usC (n : Nat) : Nat := n * 800
def msC (n : Nat) : Nat := n * 800000
def secC (n : Nat) : Nat := n * 800000000

/-- Is Strand value `a` at or after `b`? The comparison rule of R180 and R337. -/
def strandAfter (a b : Nat) : Bool := decide ((a + 2 ^ 48 - b % 2 ^ 48) % 2 ^ 48 < 2 ^ 47)

/-- Strand value `n` cycles after `a`, wrapping at 2^48 (R337). -/
def strandPlus (a n : Nat) : Nat := (a + n) % 2 ^ 48
/-- The Strand value `n` cycles before `a`. -/
def strandMinus (a n : Nat) : Nat := (a + 2 ^ 48 - n % 2 ^ 48) % 2 ^ 48

/-- Strand cycles from `b` to `a` (R180). -/
def strandDiff (a b : Nat) : Nat := (a % 2 ^ 48 + 2 ^ 48 - b % 2 ^ 48) % 2 ^ 48

/-- Let `n` cycles of 1.25 ns pass: the Hatband's time, and the Strand counter, which runs from SG + 1.5 ms on (R337). -/
def State.pass (s : State) (n : Nat) : State :=
  { s with strand := strandPlus s.strand n, brim := { s.brim with hb := s.brim.hb + n } }

/-- Let time pass until the Strand counter has reached `d`: what a timer's expiry implies. -/
def State.timeTo (s : State) (d : Nat) : State := if strandAfter s.strand d then s else s.pass (strandDiff d s.strand)

/-- Let time pass until the Hatband's time has reached `d`. -/
def State.hbTo (s : State) (d : Nat) : State :=
  let n := d - s.brim.hb
  if s.fabricOn then s.pass n else { s with brim := { s.brim with hb := s.brim.hb + n } }

/-- HB_TIME of R397: 48 bits of ticks at 32.768 kHz. -/
def State.hbTicks (s : State) : Nat := (s.brim.hb * 32768 / 800000000) % 2 ^ 48

/-- The deadline `n` cycles from now. -/
def State.after (s : State) (n : Nat) : Nat := strandPlus s.strand n

/-- Draw a free value, and step the source of free values (log entry 1). -/
def State.draw (s : State) : Nat × State :=
  (Config.freeValue s.freeCount, { s with freeCount := s.freeCount + 1 })

/-! ### Access to the Core island (R363) -/

/-- Power states of R363. -/
def pwOff : Nat := 0
def pwParked : Nat := 1
def pwListening : Nat := 2
def pwWaking : Nat := 3
def pwRunning : Nat := 4
def pwDegraded : Nat := 5

/-- Is the Core island accessible (R363)? In Listening its clocks stand and the host link's Lane is gated with its Span; in Parked the
Crown die is unpowered. -/
def State.coreOn (s : State) : Bool := s.brim.power != pwListening && s.brim.power != pwParked

/-- What an access to the Core island does: `t`, and nothing while the island is not accessible. -/
def State.hosted (s t : State) : State := if s.coreOn then t else s

end Sys2Proof.Machine
end

