-- ==== Sys2Proof/Machine/Events.lean ====
section
/-! DEFINITION. The event concentrator (R450 to R470): sources, records, queues, delivery, claim and completion. Other
chapters raise their events through `occur`, `level` and `payload` here. -/

namespace Sys2Proof.Machine

/-! ### Sources -/

/-- The kinds of R450. -/
inductive SrcKind where
  | counted | level | payload
deriving DecidableEq, Repr

/-- The fault inputs that R527 assigns. -/
def faultAssigned (i : Nat) : Bool :=
  decide (i ≤ 17) || decide (32 ≤ i ∧ i ≤ 63) || decide (496 ≤ i ∧ i ≤ 511)

/-- The kind of a source number; `none` where no rule assigns it (R451, R498, R522, R527). -/
def srcKind (n : Nat) : Option SrcKind :=
  if n = 0x001 || n = 0x002 then some .payload
  else if n = 0x003 || n = 0x004 then some .counted
  else if 0x008 ≤ n && n ≤ 0x00F then some .payload
  else if 0x010 ≤ n && n ≤ 0x017 then some .counted
  else if 0x018 ≤ n && n ≤ 0x027 then some .level
  else if 0x028 ≤ n && n ≤ 0x02F then some .counted
  else if 0x030 ≤ n && n ≤ 0x034 then some .counted
  else if 0x038 ≤ n && n ≤ 0x03F then some .counted
  else if 0x040 ≤ n && n ≤ 0x046 then some .counted
  else if 0x048 ≤ n && n ≤ 0x04D then some .counted
  else if 0x050 ≤ n && n ≤ 0x057 then some .counted
  else if 0x060 ≤ n && n ≤ 0x09F then some .counted
  else if 0x100 ≤ n && n ≤ 0x25F then
    let p := (n - 0x100) / 16
    let i := (n - 0x100) % 16
    if i = 15 then none
    else if 11 ≤ i && i ≤ 14 && 12 ≤ p && p ≤ 19 then none
    else if (i = 7 || i = 8) && 20 ≤ p then none
    else if i = 8 then some .level
    else some .counted
  else if 0x300 ≤ n && n ≤ 0x6FF then
    let i := (n - 0x300) % 16
    if i ≤ 6 then some .counted else if i ≤ 8 then some .level else none
  else if 0x700 ≤ n && n ≤ 0x77F then some .counted
  else if n = 0x800 || n = 0x801 then some .level
  else if 0x802 ≤ n && n ≤ 0x806 then some .counted
  else if 0x840 ≤ n && n ≤ 0x87F then some .counted
  else if 0x880 ≤ n && n ≤ 0x8BF then some .level
  else if 0x8C0 ≤ n && n ≤ 0x8FF then some .counted
  else if 0x900 ≤ n && n ≤ 0x908 then some .counted
  else if 0xC00 ≤ n && n ≤ 0xDFF then (if faultAssigned (n - 0xC00) then some .level else none)
  else none

/-- Sources of resources that the ZW8632 lacks (R2, R3). -/
def srcAbsent (n : Nat) : Bool :=
  decide (0x500 ≤ n ∧ n ≤ 0x6FF) || decide (0x740 ≤ n ∧ n ≤ 0x77F) || decide (0x803 ≤ n ∧ n ≤ 0x806)

/-- The firmware queue of a source, R458. -/
def firmwareQueue (n : Nat) : Option Nat :=
  if 0xC00 ≤ n && n ≤ 0xDFF then some 0
  else if n = 0x001 then some 1
  else if n = 0x002 || n = 0x003 || (0x040 ≤ n && n ≤ 0x046) || (0x060 ≤ n && n ≤ 0x09F) then some 2
  else if (0x038 ≤ n && n ≤ 0x03F) || (0x050 ≤ n && n ≤ 0x057) then some 3
  else if 0x048 ≤ n && n ≤ 0x04D then some 4
  else if n = 0x004 || (0x028 ≤ n && n ≤ 0x034) || (0x100 ≤ n && n ≤ 0x25F) || (0x300 ≤ n && n ≤ 0x77F) then some 5
  else if 0x800 ≤ n && n ≤ 0x8FF then some 6
  else if 0x900 ≤ n && n ≤ 0x9FF then some 7
  else none

/-! ### Queues -/

def recDefault (_ : Nat) : EvRec := {}
def routeDefault (_ : Nat) : RouteSt := {}
def evqDefault (_ : Nat) : EvQueue := {}
def boolDefault (_ : Nat) : Bool := false
def clientRouteDefault (_ : Nat) : Nat := 0xFF

/-- Both pointers of a queue as 7-bit numbers, INDEX and WRAP (R457). -/
def State.evqWr (s : State) (q : Nat) : Nat := bitsOf (s.reg (EvqWrPtr.off q)).toNat 6 0
def State.evqRd (s : State) (q : Nat) : Nat := bitsOf (s.reg (EvqRdPtr.off q)).toNat 6 0

/-- Unpopped records, 0..64. -/
def State.evqFill (s : State) (q : Nat) : Nat := (s.evqWr q + 128 - s.evqRd q) % 128

def State.evq (s : State) (q : Nat) : EvQueue := tabGet evqDefault s.evt.queues q

def State.setEvq (s : State) (q : Nat) (v : EvQueue) : State :=
  { s with evt := { s.evt with queues := tabSet evqDefault s.evt.queues q v } }

/-- Record `k` of the ring of queue `q`. -/
def State.evRec (s : State) (q k : Nat) : EvRec := tabGet recDefault s.evt.recs (q * 64 + k % 64)

def State.setEvRec (s : State) (q k : Nat) (r : EvRec) : State :=
  { s with evt := { s.evt with recs := tabSet recDefault s.evt.recs (q * 64 + k % 64) r } }

/-- Ring positions of the unpopped records, oldest first. -/
def State.evqSlots (s : State) (q : Nat) : List Nat :=
  (List.range (s.evqFill q)).map (fun i => (s.evqRd q + i) % 64)

/-- Does the queue hold a record that is not spurious (R457)? -/
def State.evqNonEmpty (s : State) (q : Nat) : Bool :=
  (s.evqSlots q).any (fun k => (s.evRec q k).src != 0xFFF)

/-- Is a record that of this Deck's own route of a source? Records that a member sent keep its DECK (R466), and an injected record of a
level source is not its route's (R468). -/
def State.evqOwn (s : State) (r : EvRec) (src : Nat) : Bool :=
  r.src == src && r.deck == s.getF DeckStraps.cascRank && !(r.kind == 1 && r.inj)

/-- Does the queue hold an unpopped record of this source's route? -/
def State.evqHolds (s : State) (q src : Nat) : Bool := (s.evqSlots q).any (fun k => s.evqOwn (s.evRec q k) src)

/-- Queue states of R460. -/
def evqIdle : Nat := 0
def evqPending : Nat := 1
def evqClaimed : Nat := 2

/-! ### Delivery (R460 to R466) -/

/-- Is the target asleep, R463? -/
def State.targetAsleep (s : State) (t : Nat) : Bool :=
  if t = 0 then s.haltA
  else if t = 1 then s.haltB
  else if t = 2 then s.flag HbxStatus.locked
  else if t = 3 then
    !s.pcie.msixEnable || s.pcie.funcMask || !s.pcie.busMaster || !s.pcie.linkUp || s.pcie.laneGated
  else if t = 5 then !bitOf (s.getF CascStatus.reachable) s.pier.master || s.pier.master == s.getF DeckStraps.cascRank
  else false

/-- Is queue `q` signalled to target `t`: bound or escalated to it (R460, R463)? -/
def State.evqFor (s : State) (q t : Nat) : Bool :=
  s.getF (EvqStatus.target q) == t || (s.flag (EvqStatus.escalated q) && s.getF (EvqStatus.escTarget q) == t)

/-- Queue numbers. -/
def allEvqs : List Nat := List.range 64

/-- Bring HOST_IRQ_N (R460) and the Pending Bit Array (R465) up to date with the queues' states. -/
def State.syncIrq (s : State) : State :=
  let pend := fun q => s.getF (EvqStatus.state q) == evqPending
  let irq := allEvqs.any (fun q => pend q && s.evqFor q 4)
  let pba := (List.range 64).filter (fun v => bitOf s.evt.msixPba v &&
    allEvqs.any (fun q => pend q && s.evqFor q 3 && (s.evq q).vector == v))
  { s with evt := { s.evt with hostIrqLow := irq, msixPba := maskOf pba } }

/-- MSI-X entry `v`: address [63:0], data [95:64], vector control [127:96] with MASK in bit 96 (R30). -/
def msixDefault (_ : Nat) : Nat := 2 ^ 96

def State.msixEntry (s : State) (v : Nat) : Nat := tabGet msixDefault s.evt.msixTab v

/-- Send or hold the MSI-X message of a queue that is PENDING for target 3 (R465). -/
def State.msixDeliver (s : State) (q : Nat) : State :=
  let v := (s.evq q).vector
  let e := s.msixEntry v
  if s.targetAsleep 3 then s
  else if bitOf e 96 then { s with evt := { s.evt with msixPba := setBit s.evt.msixPba v true } }
  else
    let s := { s with out := .msix v (bitsOf e 63 0) (bitsOf e 95 64) :: s.out }
    (s.setF (EvqStatus.state q) evqClaimed).setF (EvqStatus.claimer q) 3

/-- Signal a PENDING queue to its targets. -/
def State.evqSignal (s : State) (q : Nat) : State :=
  let s := if s.getF (EvqStatus.state q) == evqPending && s.evqFor q 3 then s.msixDeliver q else s
  let s := if s.getF (EvqStatus.state q) == evqPending && s.evqFor q 5 && !s.targetAsleep 5 then
      (s.setF (EvqStatus.state q) evqClaimed).setF (EvqStatus.claimer q) 5
    else s
  s.syncIrq

/-- The queue's escalation begins (R463): both targets are signalled. -/
def State.evqEscalate (s : State) (q : Nat) : State :=
  if s.getF (EvqStatus.escTarget q) == 7 then s
  else (s.setF (EvqStatus.escalated q) 1).evqSignal q

/-- The queue enters PENDING (R460), with its escalation timer started (R463). -/
def State.evqEnterPending (s : State) (q : Nat) : State :=
  let v := s.evq q
  let s := s.setEvq q { v with
    coalAt := none, since := [],
    escAt := if s.getF (EvqStatus.escTarget q) == 7 then none else some (s.after (usC v.escTimeout)) }
  let s := s.setF (EvqStatus.state q) evqPending
  if s.targetAsleep (s.getF (EvqStatus.target q)) && s.getF (EvqStatus.escTarget q) != 7
  then s.evqEscalate q else s.evqSignal q

/-- The queue becomes IDLE: nothing owed, escalation ended, coalescing starts afresh. -/
def State.evqToIdle (s : State) (q : Nat) : State :=
  let v := s.evq q
  let s := s.setEvq q { v with coalAt := none, since := [], escAt := none }
  let s := s.setF (EvqStatus.state q) evqIdle
  let s := s.setF (EvqStatus.escalated q) 0
  (s.setF (EvqStatus.claimer q) 7).syncIrq

/-! ### Records -/

/-- Own Deck number: the accepted strap CASC_RANK (R20). -/
def State.ownDeck (s : State) : Nat := s.getF DeckStraps.cascRank

/-- Write a record into a queue with room (R453, R457), and apply coalescing (R459). -/
def State.evqWrite (s : State) (q : Nat) (r : EvRec) : State :=
  let v := s.evq q
  let wr := s.evqWr q
  let s := s.setEvRec q wr { r with lost := v.lostMark }
  let s := (s.setF (EvqWrPtr.index q) ((wr + 1) % 64)).setF (EvqWrPtr.wrap q) (((wr + 1) % 128) / 64)
  let s := s.setEvq q { v with lostMark := false, since := (wr, s.strand) :: v.since }
  if s.getF (EvqStatus.state q) != evqIdle then s
  else if v.since.length + 1 ≥ v.count then s.evqEnterPending q
  else
    match v.coalAt with
    | some _ => s
    | none => s.setEvq q { s.evq q with coalAt := some (s.after (usC v.time)) }

/-- A payload record, or an injected one, that finds its queue full is dropped (R456). -/
def State.evqDrop (s : State) (q : Nat) : State :=
  let s := s.setF (EvqDrops.payloadDrops q) (min (s.getF (EvqDrops.payloadDrops q) + 1) 0xFFFF)
  s.setEvq q { s.evq q with lostMark := true }

/-- The queues a source leads to, with the route's number: 0 the firmware route, 1 the client route (R452). -/
def State.routesOf (s : State) (src : Nat) : List (Nat × Nat) :=
  if s.absentVariant && srcAbsent src then [] else
  (match firmwareQueue src with | some q => [(0, q)] | none => []) ++
  (let q := tabGet clientRouteDefault s.evt.client src
   if q = 0xFF then [] else [(1, q)])

def State.route (s : State) (src r : Nat) : RouteSt := tabGet routeDefault s.evt.routes (src * 2 + r)

def State.setRoute (s : State) (src r : Nat) (v : RouteSt) : State :=
  { s with evt := { s.evt with routes := tabSet routeDefault s.evt.routes (src * 2 + r) v } }

/-- STAMP, two bytes 0 and DETAIL, as R453 lays out the payload of other sources. -/
def stampDetail (stamp detail : Nat) : Nat := stamp % 2 ^ 48 + (detail % 2 ^ 32) * 2 ^ 64

/-- One occurrence of a counted source on one of its routes (R454). -/
def State.occurOn (s : State) (src detail : Nat) (inj : Bool) (rq : Nat × Nat) : State :=
  let (r, q) := rq
  if s.evqHolds q src || s.evqFill q ≥ 64 then
    let v := s.route src r
    s.setRoute src r { v with
      pend := min (v.pend + 1) 255, sat := v.sat || v.pend ≥ 255, inj := v.inj || inj,
      detail := detail, stamp := if v.pend = 0 then s.strand else v.stamp }
  else
    s.evqWrite q { src := src, kind := 0, deck := s.ownDeck, count := 1, inj := inj,
                   payload := stampDetail s.strand detail }

/-- A counted source occurs (R450, R454). -/
def State.occur (s : State) (src : Nat) (detail : Nat := 0) (inj : Bool := false) : State :=
  (s.routesOf src).foldl (fun s rq => s.occurOn src detail inj rq) s

/-- A payload source occurs on one route (R456). -/
def State.payloadOn (s : State) (src pay : Nat) (inj : Bool) (q : Nat) : State :=
  if s.evqFill q ≥ 64 then s.evqDrop q
  else s.evqWrite q { src := src, kind := 2, deck := s.ownDeck, count := 1, inj := inj, payload := pay }

/-- A payload source occurs (R450, R456). -/
def State.payload (s : State) (src pay : Nat) (inj : Bool := false) : State :=
  (s.routesOf src).foldl (fun s rq => s.payloadOn src pay inj rq.2) s

/-- The level condition the concentrator was last told. -/
def State.levelOf (s : State) (src : Nat) : Bool := tabGet boolDefault s.evt.levels src

/-- An armed level route whose condition has been true since `stamp` writes its record and disarms, or stays armed while full (R455). -/
def State.levelWrite (s : State) (src detail stamp : Nat) (rq : Nat × Nat) : State :=
  let (r, q) := rq
  let v := s.route src r
  if v.disarmed then s
  else if s.evqFill q ≥ 64 then s.setRoute src r { v with detail := detail, stamp := stamp }
  else
    let s := s.setRoute src r { v with disarmed := true, detail := detail, stamp := stamp }
    s.evqWrite q { src := src, kind := 1, deck := s.ownDeck, count := 1, payload := stampDetail stamp detail }

/-- The condition falls: the route arms, and an unpopped record of it in a queue not CLAIMED becomes spurious (R455);
a PENDING queue left with nothing but spurious records returns to IDLE (R460). -/
def State.levelFall (s : State) (src : Nat) (rq : Nat × Nat) : State :=
  let (r, q) := rq
  let s := s.setRoute src r { s.route src r with disarmed := false }
  if s.getF (EvqStatus.state q) == evqClaimed then s
  else
    let mine := (s.evqSlots q).filter (fun k => s.evqOwn (s.evRec q k) src)
    let s := mine.foldl (fun s k => s.setEvRec q k { s.evRec q k with src := 0xFFF }) s
    if s.getF (EvqStatus.state q) == evqPending && !mine.isEmpty && !s.evqNonEmpty q then s.evqToIdle q
    else if s.getF (EvqStatus.state q) == evqIdle && !mine.isEmpty then
      -- spurious records count towards neither COUNT nor TIME (R459)
      let v := s.evq q
      let since := mine.foldl (fun (l : List (Nat × Nat)) k => l.eraseP (fun x => x.1 % 64 == k % 64)) v.since
      s.setEvq q { v with since := since, coalAt := since.getLast?.map (fun x => strandPlus x.2 (usC v.time)) }
    else s

/-- A unit reports its level condition (R450, R455). -/
def State.level (s : State) (src : Nat) (cond : Bool) (detail : Nat := 0) : State :=
  if s.levelOf src = cond || (s.absentVariant && srcAbsent src) then s
  else
    let s := { s with evt := { s.evt with levels := tabSet boolDefault s.evt.levels src cond } }
    (s.routesOf src).foldl (fun s rq => if cond then s.levelWrite src detail s.strand rq else s.levelFall src rq) s

/-! ### Space, claim, completion -/

/-- Space has come free in queue `q`: pending counts and armed true levels write their records, in ascending source
number (R454, R455; DESIGN CHOICE, log entry 12: the order among sources is the model's). -/
def State.evqRefill (s : State) (q : Nat) : State :=
  let counted := s.evt.routes.filterMap (fun (k, v) => if v.pend > 0 then some k else none)
  let levels := s.evt.levels.filterMap (fun (k, b) => if b then some k else none)
  let s := counted.foldl (fun s k =>
    let src := k / 2
    let r := k % 2
    let v := s.route src r
    if (s.routesOf src).contains (r, q) && v.pend > 0 && !s.evqHolds q src && s.evqFill q < 64 then
      let s := s.setRoute src r { v with pend := 0, sat := false, inj := false }
      s.evqWrite q { src := src, kind := 0, deck := s.ownDeck, count := v.pend, sat := v.sat, inj := v.inj,
                     payload := stampDetail v.stamp v.detail }
    else s) s
  levels.foldl (fun s src =>
    (s.routesOf src).foldl (fun s rq =>
      if rq.2 = q then s.levelWrite src (s.route src rq.1).detail (s.route src rq.1).stamp rq else s) s) s

/-- The consumer moves a queue's read pointer (R457): ignored, with BAD_RD_PTR, where it would pass EVQ_WR_PTR. A PENDING
queue that it empties stays PENDING: only a withdrawal returns one to IDLE (R460, log entry 43). -/
def State.evqMoveRd (s : State) (q ptr : Nat) : State :=
  let adv := (ptr % 128 + 128 - s.evqRd q) % 128
  if adv > s.evqFill q then s.setF EvtErr.badRdPtr 1
  else
    let s := (s.setF (EvqRdPtr.index q) (ptr % 64)).setF (EvqRdPtr.wrap q) ((ptr % 128) / 64)
    s.evqRefill q

/-- The PENDING queue of highest PRIORITY for a target, ties to the lower number (R461). -/
def State.evqPick (s : State) (t : Nat) : Option Nat :=
  let c := allEvqs.filter (fun q => s.getF (EvqStatus.state q) == evqPending && s.evqFor q t)
  c.foldl (fun best q =>
    match best with
    | none => some q
    | some b => if s.getF (EvqStatus.priority q) > s.getF (EvqStatus.priority b) then some q else some b) none

/-- A claim by target `t`: the value read and the state after (R461). -/
def State.evqClaim (s : State) (t : Nat) : Nat × State :=
  match s.evqPick t with
  | none => (0xFFF, s)
  | some q =>
    let src := if s.evqFill q = 0 then 0xFFF else (s.evRec q (s.evqRd q)).src
    let v := src + q * 2 ^ 12 + 2 ^ 18 + b2n (s.flag (EvqStatus.escalated q)) * 2 ^ 19
    let s := (s.setF (EvqStatus.state q) evqClaimed).setF (EvqStatus.claimer q) t
    -- the escalation timer of target 3 runs on until COMPLETE (R463)
    let s := if s.getF (EvqStatus.target q) == 3 then s else s.setEvq q { s.evq q with escAt := none }
    (v, s.syncIrq)

/-- Level routes of a queue are sampled again: a disarmed route whose condition is true and that has no record in the
queue writes one (R455). -/
def State.evqResample (s : State) (q : Nat) : State :=
  let levels := s.evt.levels.filterMap (fun (k, b) => if b then some k else none)
  levels.foldl (fun s src =>
    (s.routesOf src).foldl (fun s rq =>
      let v := s.route src rq.1
      if rq.2 = q && v.disarmed && !s.evqHolds q src && s.evqFill q < 64 then
        s.evqWrite q { src := src, kind := 1, deck := s.ownDeck, count := 1,
                       payload := stampDetail s.strand v.detail }
      else s) s) s

/-- COMPLETE of queue `q` by target `t` (R462). -/
def State.evqComplete (s : State) (q t : Nat) : State :=
  if s.getF (EvqStatus.state q) != evqClaimed || s.getF (EvqStatus.claimer q) != t then s.setF EvtErr.badComplete 1
  else
    let s := s.evqResample q
    let ne := s.evqNonEmpty q
    let s := s.evqToIdle q
    if ne then s.evqEnterPending q else s

/-- A target falls asleep or wakes: PENDING queues of a target asleep escalate (R463). -/
def State.evqTargetSlept (s : State) (t : Nat) : State :=
  let s := allEvqs.foldl (fun s q =>
    if s.getF (EvqStatus.state q) == evqPending && s.getF (EvqStatus.target q) == t && s.targetAsleep t
       && !s.flag (EvqStatus.escalated q)
    then s.evqEscalate q else s) s
  s.syncIrq

/-- Target 3 follows its conditions: falling asleep escalates, and on waking the PENDING queues bound or escalated to it signal it. -/
def State.hostTarget (s : State) (was : Bool) : State :=
  if s.targetAsleep 3 then (if was then s else s.evqTargetSlept 3)
  else if was then
    (List.range 64).foldl (fun (s : State) q =>
      if s.evqFor q 3 && s.getF (EvqStatus.state q) == evqPending then s.evqSignal q else s) s
  else s

/-! ### Event registers -/

/-- Set a W1C bit of an event register, which raises its counted source (R451). -/
def State.event (s : State) (f : Field) (src : Nat) (detail : Nat := 0) : State := (s.setF f 1).occur src detail

/-- The STATE, RESP_IRQ_EN level of a mailbox (R451): response ready. -/
def State.syncMbLevel (s : State) (n : Nat) : State :=
  s.level (0x018 + n) (s.getF (MbStatus.state n) == 3 && s.flag (MbCtrl.respIrqEn n))

/-! ### The commands of the family -/

/-- DOORBELL_ACCEPT (R450): the concentrator accepts a unit's doorbell. Operation 0 occurrence, 1 level rise, 2 level
fall, 3 payload; an operation of another kind than the source's, or a number never assigned, is never raised (R451)
and changes nothing. -/
def execDoorbellAccept (src : BitVec 12) (op : BitVec 2) (detail : BitVec 32) (pay : BitVec 96) (s : State) :
    Host.Outcome State Fault Refusal :=
  let n := src.toNat
  .next (match srcKind n, op.toNat with
    | some .counted, 0 => s.occur n detail.toNat
    | some .level, 1 => s.level n true detail.toNat
    | some .level, 2 => s.level n false
    | some .payload, 3 => s.payload n pay.toNat
    | _, _ => s)

/-- COALESCE_TIME_EXPIRY (R459): TIME has passed since the first record of an IDLE queue. -/
def execCoalesceTimeExpiry (q : Fin 64) (s : State) : Host.Outcome State Fault Refusal :=
  .next (match (s.evq q).coalAt with
    | none => s
    | some d =>
      let s := s.timeTo d
      if s.getF (EvqStatus.state q) == evqIdle && s.evqNonEmpty q then s.evqEnterPending q
      else s.setEvq q { s.evq q with coalAt := none })

/-- TGT_CLAIM (R461): target 3 or 4 through TGT_CLAIM[3], TGT_CLAIM[4], or a private claim register of targets 0 to 2. -/
def execTgtClaim (t : Fin 5) (s : State) : Host.Outcome State Fault Refusal :=
  let (v, w) := s.evqClaim t
  .next (s.hosted { w with out := .readData (0x20100 + (t.val - 3) * 8) v :: w.out })

/-- TGT_COMPLETE (R462). -/
def execTgtComplete (t : Fin 5) (q : Fin 64) (s : State) : Host.Outcome State Fault Refusal :=
  .next (s.hosted (s.evqComplete q t))

/-- EVQ_RD_PTR_WRITE (R457): by firmware on EVQ[0]..EVQ[15], and by the host on EVQ[16]..EVQ[63] (R9). -/
def execEvqRdPtrWrite (q : Fin 64) (host : Bool) (w : Word) (s : State) : Host.Outcome State Fault Refusal :=
  .next (s.hosted (if host && q.val < 16 then s else s.evqMoveRd q (bitsOf w.toNat 6 0)))

/-- What an escalation timeout does: a PENDING queue escalates; one unfinished after its message is signalled again, to both targets. -/
def State.escDue (s : State) (q : Nat) : State :=
  if s.getF (EvqStatus.state q) == evqPending then s.evqEscalate q
  else if s.getF (EvqStatus.state q) == evqClaimed && s.getF (EvqStatus.target q) == 3
      && s.getF (EvqStatus.escTarget q) != 7 then
    -- unfinished after its message: the queue is signalled again, to both targets
    let s := (s.setF (EvqStatus.state q) evqPending).setF (EvqStatus.escalated q) 1
    (if s.evqFor q 5 && !s.targetAsleep 5 then (s.setF (EvqStatus.state q) evqClaimed).setF (EvqStatus.claimer q) 5 else s).syncIrq
  else s

/-- ESC_TIMEOUT_EXPIRY (R463): the queue is unclaimed, or for target 3 unfinished, for ESC_TIMEOUT. The timer of a
firmware-bound queue is held during a firmware switchover (R52). -/
def execEscTimeoutExpiry (q : Fin 64) (s : State) : Host.Outcome State Fault Refusal :=
  .next (match (s.evq q).escAt with
    | none => s
    | some d =>
      if q.val < 16 && s.getF DeckBootStatus.stage == 11 then s
      else
        let s := s.timeTo d
        let s := s.setEvq q { s.evq q with escAt := none }
        s.escDue q)

/-- TARGET_SLEEP_CHANGE (R463): a Milliner pair is halted or runs again, or the host link goes down (it comes up with
HOST_LINK_UP); the Hatbox's and Deck 0's conditions are their own units'. A target asleep has its PENDING queues
escalated. -/
def execTargetSleepChange (t : Fin 6) (asleep : Bool) (s : State) : Host.Outcome State Fault Refusal :=
  let s := if t.val = 0 then { s with haltA := asleep }
    else if t.val = 1 then { s with haltB := asleep }
    else if t.val = 3 && asleep then { s with pcie := { s.pcie with linkUp := false } }
    else s
  .next (s.evqTargetSlept t)

/-- PENDING queues on a vector. -/
def State.msixWaiting (s : State) (v : Nat) : List Nat :=
  allEvqs.filter (fun q => s.getF (EvqStatus.state q) == evqPending && s.evqFor q 3 && (s.evq q).vector == v)

/-- Store an MSI-X table entry (R30); one that is unmasked sends its message once, which takes every PENDING queue on the vector
(R465). -/
def State.msixSet (s : State) (v e : Nat) : State :=
  let s := { s with evt := { s.evt with msixTab := tabSet msixDefault s.evt.msixTab v e } }
  match s.msixWaiting v with
  | [] => s.syncIrq
  | q :: rest =>
    if bitOf e 96 || s.targetAsleep 3 then s.syncIrq
    else
      (rest.foldl (fun s q => (s.setF (EvqStatus.state q) evqClaimed).setF (EvqStatus.claimer q) 3) (s.msixDeliver q)).syncIrq

/-- MSIX_VECTOR_UNMASK (R465). -/
def execMsixVectorUnmask (v : Fin 64) (s : State) : Host.Outcome State Fault Refusal :=
  .next (s.msixSet v (setBit (s.msixEntry v) 96 false))

end Sys2Proof.Machine
end

