-- ==== Sys2Proof/Machine/Fault.lean ====
section
/-! DEFINITION. The fault collection unit and its reactions (R525 to R532), the resets of the Crown die (R31, R33, R369)
and the INH outputs (R370). -/

namespace Sys2Proof.Machine

/-! ### INH outputs -/

/-- A parameter held in Brim non-volatile memory, as the Hatband domain reads it. -/
def State.nvmPar (s : State) (pid : Nat) : Nat := tabGet cfgDefault s.brim.nvm (pkey oDeck pid)

/-- Span states of R378. -/
def spAwake : Nat := 0
def spPrepare : Nat := 1
def spEntering : Nat := 2
def spAsleep : Nat := 3
def spWaking : Nat := 4

/-- Firmware runs: STAGE 6, 7, 8 or 11 (R47). -/
def State.fwRunning (s : State) : Bool :=
  let g := s.getF DeckBootStatus.stage
  g == 6 || g == 7 || g == 8 || g == 11

/-- A boot failure is recorded (R48); its event is raised once events are running. -/
def State.bootFail (s : State) (code : Nat) : State :=
  let s := s.setF DeckBootStatus.lastFail code
  if s.fwRunning then s.payload 0x002 code else { s with fw := { s.fw with reports := s.fw.reports ++ [code] } }

/-- Boot attempts of a firmware slot that ended in a watchdog reset (R49). -/
def attemptsField (slot : Nat) : Field := if slot = 0 then DeckBootStatus.attemptsA else DeckBootStatus.attemptsB

/-- What INH[i] drives (R370): 0 sinking, which is off, 1 sourcing, which is on, 2 high-Z. Until firmware has first run it follows
INH_POWER_ON; a role-2 output follows the Spans as they were when the Crown die last ran. -/
def State.inhNow (s : State) (i : Nat) : Nat :=
  let role := s.nvmPar (0x0F10 + i)
  if s.brim.power == pwOff || !s.brim.nvmLoaded then 2
  else if role == 1 && (s.brim.power == pwParked || s.brim.power == pwDegraded || s.brim.entering == some pwParked) then 0
  else if !s.brim.inhRoles then s.nvmPar (0x0F20 + i) % 2
  else if role == 0 then 2
  else if role == 2 then b2n ((s.nvmPar (0x0F18 + i) &&& s.brim.inhAwake) % 2 ^ 16 != 0)
  else 1

def inhDefault (_ : Nat) : Nat := 2

/-- The Brim die knows which Spans are not asleep while firmware runs, and keeps it while it does not. -/
def State.inhLearn (s : State) : State :=
  if s.fwRunning && s.brim.power == pwRunning && s.brim.entering.isNone then
    { s with brim := { s.brim with
      inhRoles := true, inhAwake := maskOf ((List.range 16).filter (fun n => s.getF (SpanState.state n) != spAsleep)) } }
  else s

/-- PWR_STATUS.INH_ON follows R370, and each change of an INH ball is put out. -/
def State.syncInh (s : State) : State :=
  let s := s.inhLearn
  let changed := (List.range 4).filter (fun i => s.inhNow i != tabGet inhDefault s.brim.inhDrive i)
  let t := s.setF PwrStatus.inhOn (maskOf ((List.range 4).filter (fun i => s.inhNow i == 1)))
  { t with
    out := changed.map (fun i => Emit.pin "INH" i (s.inhNow i)) ++ t.out,
    brim := { t.brim with inhDrive := changed.foldl (fun d i => tabSet inhDefault d i (s.inhNow i)) t.brim.inhDrive } }

/-- The device enters a power state (R367): PWR_STATUS.STATE, and PREV_STATE at an entry to Running. -/
def State.setPower (s : State) (p : Nat) : State :=
  let old := s.brim.power
  let s := { s with brim := { s.brim with power := p } }
  let s := if p == pwRunning && old != pwRunning then
      let prev := if old == pwWaking then s.brim.prev else old
      let s := s.setF PwrStatus.prevState prev
      if prev == pwDegraded then s.event PwrEvents.degradedExit 0x046 else s
    else if p == pwWaking then { s with brim := { s.brim with prev := old } }
    else s
  -- the watchdog is held outside Running (R367, R533)
  let s := if p == pwRunning then s else { s with brim := { s.brim with wdClose := none, wdWarnAt := none } }
  (s.setF PwrStatus.state p).syncInh

/-! ### FAULT_N and the fault registers -/

/-- The committed reaction of an input (R528). -/
def State.reaction (s : State) (i : Nat) : Nat := s.par (oFault i) (pidRaw 0)

def State.faultCond (s : State) (i : Nat) : Bool := tabGet boolDefault s.fcu.active i
def State.faultLatched (s : State) (i : Nat) : Bool := tabGet boolDefault s.fcu.latched i

/-- Active or latched, FCU_LATCHED (R541). -/
def State.faultOn (s : State) (i : Nat) : Bool := s.faultCond i || s.faultLatched i

/-- Inputs active or latched. -/
def State.faultsOn (s : State) : List Nat := (List.range 512).filter s.faultOn

/-- FAULT_N is driven high (R532). -/
def State.faultNHigh (s : State) : Bool :=
  s.brim.power == pwRunning && s.fcu.reported && s.getF DeckBootStatus.stage != 10 && s.getF DeckBootStatus.stage != 9 &&
  (s.faultsOn).all (fun i => !bitOf (s.reaction i) 2)

/-- FCU_STATUS follows the inputs, and FAULT_N its condition (FAULT_N_CHANGE, R532). -/
def State.syncFault (s : State) : State :=
  let s := s.setF FcuStatus.active s.faultsOn.length
  let low := !s.faultNHigh
  if s.flag FcuStatus.faultNLow == low then s
  else { (s.setFlag FcuStatus.faultNLow low) with out := .pin "FAULT_N" 0 (b2n (!low)) :: s.out }

/-- FCU_LATCHED[i / 32] bit i mod 32. -/
def State.syncLatchBit (s : State) (i : Nat) : State :=
  s.setF ⟨FcuLatched.off (i / 32), i % 32, i % 32⟩ (b2n (s.faultOn i))

/-! ### Resets of the Crown die -/

def repeaterDefault (_ : Nat) : Repeater := {}

def State.repeater (s : State) (p : Nat) : Repeater := tabGet repeaterDefault s.brim.repeaters p

def State.setRepeater (s : State) (p : Nat) (r : Repeater) : State :=
  { s with brim := { s.brim with repeaters := tabSet repeaterDefault s.brim.repeaters p r } }

/-- Pair parameters in Brim non-volatile memory (R536). -/
def State.cwPar (s : State) (p : Nat) : Nat := s.nvmPar (0x1800 + p)
def cwEnable (v : Nat) : Bool := bitOf v 0
def cwRetain (v : Nat) : Bool := bitOf v 3

/-- New pair parameters are in force (R536, R537): a pair that is not enabled is not the repeater's, and one that is enabled and
retained, or has never been handed over, is; the repeater takes it as after a reset. -/
def State.cwFollow (s : State) : State :=
  (List.range 4).foldl (fun (s : State) p =>
    let r := s.repeater p
    let v := s.cwPar p
    if !cwEnable v then (if r.owns || r.waitUntil.isSome then s.setRepeater p { r with owns := false, waitUntil := none } else s)
    else if !r.owns && r.waitUntil.isNone && (cwRetain v || !r.handedOver) then
      s.setRepeater p { r with handedOver := false, waitUntil := some (s.brim.hb + usC 100) }
    else s) s

/-- The watchdog's window after a service, or the first one after the release of the Milliner pairs (`boot`) (R533). -/
def State.watchdogWindow (s : State) (boot hold : Bool) : State :=
  let (opn, cls, bt) := s.brim.wdSet
  let len := msC (if boot then bt else cls)
  { s with brim := { s.brim with
      wdOpen := if boot || hold then s.brim.hb else s.brim.hb + msC opn, wdClose := some (s.brim.hb + len),
      wdWarnAt := some (s.brim.hb + msC cls * 3 / 4) } }

/-- The window restarts where the device enters Running again with firmware that runs (R367). -/
def State.watchdogAgain (s : State) : State := if s.fwRunning then s.watchdogWindow false false else s

/-- Take-over of every enabled pair that the Crown had (R537): the repeater takes it once both buses are idle, and
within 100 µs. A handover that was awaited is not. -/
def State.causewayRelease (s : State) : State :=
  (List.range 4).foldl (fun s p =>
    let r := s.repeater p
    if bitOf (s.nvmPar (0x1800 + p)) 0 && !r.owns then
      s.setRepeater p { r with handedOver := false, waitUntil := some (s.brim.hb + usC 100) }
    else if r.owns then s.setRepeater p { r with waitUntil := none }
    else s) s

/-- SW_SHARED_FREE after a reset of the Crown die: the reserves of the queues that the ZW8632 lacks stay in the pool (R259). -/
def State.variantPools (s : State) : State :=
  if s.absentVariant then s.setF SwSharedFree.count (s.getF SwSharedFree.count + 280 * 32) else s

/-- Every state that a reset of the Crown die clears (R31, R369); what the Brim die, the fuses, the flash and the host
hold survives. Configuration values kept in Brim non-volatile memory return to what it holds. -/
def State.crownClear (s : State) : State :=
  let t : State := { cfg := s.brim.nvm, brim := { s.brim with
                       wdClose := none, wdWarnAt := none, parkHeld := false, thermFallAt := none },
                     fuses := s.fuses, flash := s.flash, host := s.host, out := s.out, absentVariant := s.absentVariant,
                     freeCount := s.freeCount, pending := s.pending }
  let t := (t.setReg DeckResetCause.off (s.reg DeckResetCause.off)).setReg PwrStatus.off (s.reg PwrStatus.off)
  let t := (t.setF DeckBootStatus.attemptsA (s.getF DeckBootStatus.attemptsA)).setF DeckBootStatus.attemptsB
    (s.getF DeckBootStatus.attemptsB)
  let t := t.setF WdtStatus.nextToken (s.getF WdtStatus.nextToken)
  let t := t.setReg WakePinStatus.off (s.reg WakePinStatus.off)
  let t := (t.setF HbxStatus.lifecycle s.fuses.lifecycle).variantPools
  (List.range 16).foldl (fun t n => t.setF (CanStatus.xcvrMode n) (s.getF (CanStatus.xcvrMode n))) t

/-- The watchdog expires in this Hatband cycle of 25 ns, and so does the wait of a FULL reset for its ACK (R33, R105). -/
def State.watchdogNow (s : State) : Bool := s.brim.wdClose.any (fun d => d / 20 == s.brim.hb / 20)
def State.fullResetNow (s : State) : Bool :=
  s.gci.fullReset.any (fun x => strandAfter x.2 s.strand && (s.brim.hb + strandDiff x.2 s.strand) / 20 == s.brim.hb / 20)

/-- A reset of the Crown die for one of the causes of DECK_RESET_CAUSE (R31, R33): the boot starts anew. A second cause of the same
Hatband cycle sets its bit too. CROWN_ISOLATION (R14): the Brim die drives nothing towards it, and its Causeway takes its pairs. -/
def State.crownReset (s : State) (cause : Field) : State :=
  let wd := s.watchdogNow
  let full := s.fullResetNow
  let s := s.crownClear.setF cause 1
  let s := if wd then s.setF DeckResetCause.watchdog 1 else s
  let s := if full then s.setF DeckResetCause.command 1 else s
  s.causewayRelease

/-- The Crown die halts (R528, R48): STAGE 10, Degraded with no island clocked (R363), never retried automatically (R367, R373). Only in
Running is there a Crown die to halt. -/
def State.crownHalt (s : State) : State :=
  if s.brim.power != pwRunning then s else
  let s := { (s.setF DeckBootStatus.stage 10) with
    haltA := true, haltB := true, fabricOn := false, brim := { s.brim with halted := true, parkHeld := false, entering := none } }
  (s.setPower pwDegraded).causewayRelease.syncFault

/-! ### Inputs -/

/-- The log keeps the 32 most recent entries, newest first (R531). -/
def State.logFault (s : State) (input action : Nat) (injected limited fn : Bool) (detail : Nat) : State :=
  let e : FaultEntry := ⟨s.hbTicks, s.brim.faultSeq, input, action, injected, limited, fn, detail⟩
  { s with brim := { s.brim with
      faultLog := (e :: s.brim.faultLog).take 32, faultSeq := (s.brim.faultSeq + 1) % 65536 } }

/-- A fault input rises (R527, R528, R529): registers, log, event and reaction. An injected rise without FULL logs a
RESET or HALT and does not carry it out (R530). -/
def State.faultRise (s : State) (i : Nat) (detail : Nat := 0) (injected : Bool := false) (full : Bool := true) : State :=
  if !faultAssigned i || s.faultCond i then s
  else
    let r := s.reaction i
    let s := { s with fcu := { s.fcu with
      active := tabSet boolDefault s.fcu.active i true,
      latched := tabSet boolDefault s.fcu.latched i (s.faultLatched i || bitOf r 3) } }
    let s := s.syncLatchBit i
    let s := if s.flag FcuStatus.firstValid then s else (s.setF FcuStatus.first i).setF FcuStatus.firstValid 1
    let recent := s.brim.faultResets.filter (fun t => s.brim.hb < t + secC 60)
    -- of the inputs of one fabric cycle the strongest action is carried out, once; a halted Crown die has nothing more to reset
    let once := s.brim.halted || (bitsOf r 1 0 == 1 && recent.head? == some s.brim.hb)
    let limited := !once && bitsOf r 1 0 == 1 && decide (recent.length ≥ 3)
    let action := if once then 0 else if limited then 2 else bitsOf r 1 0
    let s := s.logFault i action injected limited (bitOf r 2) detail
    let s := s.level (0xC00 + i) true detail
    let s := s.syncFault
    if injected && !full then s
    else if action == 1 then
      { s with brim := { s.brim with faultResets := s.brim.hb :: recent } }.crownReset DeckResetCause.fault
    else if action == 2 then s.crownHalt
    else if i == 10 then { s with haltB := true }.evqTargetSlept 1
    else s

/-- A Hatpin access has failed four times running (R12): the Hatpin fault input rises, and the Brim die notes the loss. -/
def State.hatpinDown (s : State) : State :=
  let s := s.faultRise 0
  { s with brim := { s.brim with hatpinLost := true } }

/-- A fault input's condition falls: the input clears unless it is latched (R530). -/
def State.faultFall (s : State) (i : Nat) : State :=
  if !s.faultCond i then s
  else
    let s := { s with fcu := { s.fcu with
      active := tabSet boolDefault s.fcu.active i false, injected := tabErase s.fcu.injected i } }
    ((s.syncLatchBit i).level (0xC00 + i) (s.faultOn i)).syncFault

/-- FAULT.CLEAR of the named inputs' latches (R530). -/
def State.faultUnlatch (s : State) (inputs : List Nat) : State :=
  let s := inputs.foldl (fun s i =>
    if s.faultLatched i && !s.faultCond i then
      let s := { s with fcu := { s.fcu with latched := tabSet boolDefault s.fcu.latched i false } }
      (s.syncLatchBit i).level (0xC00 + i) false
    else s) s
  (s.setF FcuStatus.firstValid 0).syncFault

/-! ### The commands -/

/-- FAULT_INPUT_RISE (R527). -/
def execFaultInputRise (i : Fin 512) (detail : Word) (s : State) : Host.Outcome State Fault Refusal :=
  .next (s.faultRise i detail.toNat)

/-- FAULT_INPUT_FALL (R530). -/
def execFaultInputFall (i : Fin 512) (s : State) : Host.Outcome State Fault Refusal := .next (s.faultFall i)

/-- FAULT_INJECT_END (R530): the injection's DURATION ends and the input falls. -/
def execFaultInjectEnd (i : Fin 512) (s : State) : Host.Outcome State Fault Refusal :=
  .next (match tabFind s.fcu.injected i with
    | none => s
    | some d => (s.timeTo d).faultFall i)

end Sys2Proof.Machine
end

