-- ==== Sys2Proof/Machine/CanRing.lean ====
section
/-! DEFINITION. What ends a CAN frame, for every part of the device that can end one: a Lane's ring pointers (R186), its completion
records (R189) and the counters of its outcomes (R171, R192). -/

namespace Sys2Proof.Machine

/-! ### Access -/

def canDefault (_ : Nat) : CanLane := {}
def State.canLane (s : State) (n : Nat) : CanLane := tabGet canDefault s.can n
def State.setCan (s : State) (n : Nat) (v : CanLane) : State := { s with can := tabSet canDefault s.can n v }

/-- A CAN parameter (R167). -/
def State.canPar (s : State) (n pid : Nat) : Nat := s.par (oChan (24 + n)) pid

/-- A counter of R192. -/
def State.incCan (s : State) (n i : Nat) (k : Nat := 1) : State := s.addCtr (oChan (24 + n)) cCan i k

/-- A bit of CAN_EVENTS and its source. -/
def State.canEvent (s : State) (n bit : Nat) (detail : Nat := 0) : State :=
  s.event ⟨CanEvents.off n, bit, bit⟩ (0x300 + n * 16 + bit) detail

/-! ### Rings (R186) -/

/-- A ring pointer as a count modulo twice the ring's size: INDEX plus size × WRAP. -/
def ptrPos (w size : Nat) : Nat := bitsOf w 10 0 + size * b2n (bitOf w 11)
def ptrWord (p size : Nat) : Nat := p % size + (if (p / size) % 2 = 1 then 2 ^ 11 else 0)

/-- Granules from TAIL up to HEAD. -/
def ringUsed (head tail size : Nat) : Nat := (ptrPos head size + 2 * size - ptrPos tail size) % (2 * size)

def State.word (s : State) (a : Nat) : Nat := (s.reg a).toNat
def State.setWord (s : State) (a v : Nat) : State := s.setReg a (BitVec.ofNat 32 v)

/-- The level sources RXQ_PENDING and TXC_PENDING (R191). -/
def State.syncCanLevels (s : State) (n : Nat) : State :=
  (s.level (0x307 + n * 16) (s.word (RxqHead.off n) != s.word (RxqTail.off n))).level (0x308 + n * 16)
    (s.word (TxcHead.off n) != s.word (TxcTail.off n))

/-! ### Outcomes (R171, R189) -/

/-- COMPLETION_RECORD_WRITE (R189) into the granule reserved at take. -/
def State.txcWrite (s : State) (n ring status attempts arb stamp : Nat) : State :=
  let head := ptrPos (s.word (TxcHead.off n)) 512
  let r := leBytes 2 ring ++ leBytes 1 status ++ leBytes 1 (min attempts 255) ++ leBytes 1 (min arb 255) ++ zeros 3 ++
    leBytes 6 stamp ++ zeros 2
  let s := { s with bar2 := memWrites s.bar2 (n * 65536 + 0xE000 + (head % 512) * 16) r }
  let l := s.canLane n
  let s := s.setCan n { l with compReserved := l.compReserved - 1 }
  (s.setWord (TxcHead.off n) (ptrWord (head + 1) 512)).syncCanLevels n

/-- Completion statuses of R189. -/
def csSent : Nat := 0
def csNoAck : Nat := 1
def csErrorLimit : Nat := 2
def csArbLimit : Nat := 3
def csAged : Nat := 4
def csFormat : Nat := 5
def csBadRecord : Nat := 6
def csLate : Nat := 7
def csBusy : Nat := 8
def csFlushed : Nat := 9

/-- The outcome's counter (R171, R192), if it has one. -/
def statusCounter (st : Nat) : Option Nat :=
  match st with
  | 1 => some 16 | 2 => some 17 | 3 => some 18 | 4 => some 19 | 5 => some 20 | 7 => some 21 | 9 => some 24 | _ => none

def State.countStatus (s : State) (n st : Nat) : State :=
  match statusCounter st with | some i => s.incCan n i | none => s

/-- A frame of CAN[n] ends with a status: its counter, and the completion record that it owes (R189): the RING_INDEX, the attempts
started, the lost arbitrations and the transmit stamp of the last attempt. -/
def State.canEnds (s : State) (n st : Nat) (comp : Option Nat) (attempts arbs stamp : Nat) : State :=
  let s := s.countStatus n st
  match comp with
  | some ring => s.txcWrite n ring st attempts arbs stamp
  | none => s

end Sys2Proof.Machine
end

