-- ==== Sys2Proof/Machine/Buffer.lean ====
section
/-! DEFINITION. The shared buffer (R247 to R282): cells, descriptors, queues, admission, flow control of the ingress ports
(R136 to R139), flush, drain, the audit and the duplicated lists. -/

namespace Sys2Proof.Machine

/-! ### Access -/

def cellDefault (_ : Nat) : Cell := {}
def descDefault (_ : Nat) : Desc := {}
def queueDefault (_ : Nat) : List Nat := []
def portDefault (_ : Nat) : EthPort := {}

def State.cell (s : State) (c : Nat) : Cell := tabGet cellDefault s.buf.cells c
def State.setCell (s : State) (c : Nat) (v : Cell) : State :=
  { s with buf := { s.buf with cells := tabSet cellDefault s.buf.cells c v } }
def State.desc (s : State) (d : Nat) : Desc := tabGet descDefault s.buf.descs d
def State.setDesc (s : State) (d : Nat) (v : Desc) : State :=
  { s with buf := { s.buf with descs := tabSet descDefault s.buf.descs d v } }
def State.port (s : State) (p : Nat) : EthPort := tabGet portDefault s.egr.ports p
def State.setPort (s : State) (p : Nat) (v : EthPort) : State :=
  { s with egr := { s.egr with ports := tabSet portDefault s.egr.ports p v } }

/-- Copies in a queue, head first. -/
def State.queue (s : State) (q : Nat) : List Nat := tabGet queueDefault s.buf.queues q

/-- Subtract from a register field, stopping at 0. -/
def State.decF (s : State) (f : Field) (k : Nat := 1) : State := s.setF f (s.getF f - k)
def State.incF (s : State) (f : Field) (k : Nat := 1) : State := s.setF f (s.getF f + k)

/-- Switch core counters (R281) and queue counters (R282). -/
def State.incSw (s : State) (i : Nat) : State := s.inc oDeck cQos i
def State.incQ (s : State) (q i : Nat) : State := s.inc (oQueue q) cQos i

/-- The Ethernet or Pier port that a queue feeds, if it feeds one (R253, R254). -/
def State.queuePort (s : State) (q : Nat) : Option Nat :=
  if q < 224 then some (q / 8)
  else if 800 ≤ q ∧ s.par (oQueue q) 0x0101 ≤ 21 then some (s.par (oQueue q) 0x0101)
  else none

/-- The class of a queue for α and Keystone (R260): the queue number's, SQ_CLASS of a stream queue bound to a port, and
otherwise the copy's own CLASS (DEDUCED, log entry 18). -/
def State.queueClass (s : State) (q cls : Nat) : Nat :=
  if q < 736 then q % 8
  else if 800 ≤ q ∧ s.par (oQueue q) 0x0101 ≤ 21 then s.par (oQueue q) 0x0104
  else cls

/-- Queues that feed a port: its class queues, and stream queues bound to it. -/
def State.portQueues (s : State) (p : Nat) : List Nat :=
  (List.range 8).map (fun c => p * 8 + c) ++
  (s.buf.queues.map (·.1)).filter (fun q => decide (800 ≤ q) && s.par (oQueue q) 0x0101 == p)

/-! ### Ethernet port basics -/

def gateDefault (_ : Nat) : GateSt := {}
def State.gate (s : State) (p : Nat) : GateSt := tabGet gateDefault s.egr.gates p
def State.setGate (s : State) (p : Nat) (g : GateSt) : State :=
  { s with egr := { s.egr with gates := tabSet gateDefault s.egr.gates p g } }
def tagDefault (_ : Nat) : QTag := {}
def State.tag (s : State) (q : Nat) : QTag := tabGet tagDefault s.egr.tags q
def State.setTag (s : State) (q : Nat) (v : QTag) : State :=
  { s with egr := { s.egr with tags := tabSet tagDefault s.egr.tags q v } }

/-- Rate of a fabric port in kbit/s: of F[22] to F[27] as R21 lists it, of the others in the mode in force (R21, R317). -/
def State.portRate (s : State) (p : Nat) : Nat :=
  if p = 22 then 40000000 else if p = 23 then 25000000 else if p = 24 then 4000000
  else if p = 25 ∨ p = 26 then 10000000 else if p = 27 then 20000000
  else match s.getF (PortStatus.modeActive p) with
  | 1 => 10000000
  | 2 => 1000000
  | 3 => 2500000
  | 4 => (match s.getF (PortStatus.speed p) with | 0 => 10000 | 1 => 100000 | _ => 1000000)
  | 5 => 10000
  | 6 => 25000000
  | _ => 10000000

/-- Fabric cycles that `n` bits take on a port. -/
def State.bitCycles (s : State) (p n : Nat) : Nat := ceilDiv (n * 800000) (s.portRate p)

/-! ### Credit-based shapers (R317, R318, R376)

Credit is held in 1/800,000 bit, 1/3,125 of the unit of R318, in which a rate of 1 kbit/s gives exactly one unit per fabric
cycle. A port's credits are brought up to date before anything they depend on changes. -/

/-- A shaper's parameters: IDLE_SLOPE, HI_CREDIT and LO_CREDIT. -/
structure ShaperPar where
  slope : Nat
  hi : Nat
  lo : Nat
deriving DecidableEq, Repr

def State.classShaper (s : State) (p c : Nat) : ShaperPar :=
  ⟨s.par (oShaper p c) (pidRaw 0), s.par (oShaper p c) (pidRaw 1), s.par (oShaper p c) (pidRaw 2)⟩
def State.streamShaper (s : State) (q : Nat) : ShaperPar :=
  ⟨s.par (oQueue q) 0x0105, s.par (oQueue q) 0x0106, s.par (oQueue q) 0x0107⟩

/-- The least LO_CREDIT that R319 allows. -/
def loBound (maxLen rate slope : Nat) : Nat := ceilDiv (8 * (maxLen + 20) * (rate - slope)) rate

/-- The thermal shedding shaper of a port (R376). Its HI_CREDIT is not stated: a free value. For F[22], which has no MAX_LEN, the bound
of R319 takes the largest MAX_LEN there is (DESIGN CHOICE, log entry 111). -/
def State.shedShaper (s : State) (p : Nat) : ShaperPar :=
  let r := s.portRate p
  let slope := s.par oDeck 0x0F33 * r / 100
  ⟨slope, Config.shedHiCredit p, loBound (if p = 22 then 9216 else s.par (oChan p) 0x0103) r slope⟩

/-- Shedding is in force on a port: level Shed, and a port of SHED_PORTS. -/
def State.shedding (s : State) (p : Nat) : Bool :=
  s.getF ThermStatus.level == 2 && bitOf (s.par oDeck 0x0F32) p

/-- A copy that shedding does not touch: class 7, SAFETY, gPTP; a record for another Deck is no Ethernet frame. -/
def State.shedExempt (s : State) (c : Nat) (d : Desc) : Bool :=
  c == 7 || d.safety || d.remote.isNone && (let b := (s.cell d.firstCell).data; beAt b (if beAt b 12 2 == 0x8100 then 16 else 12) 2 == 0x88F7)

/-- One shaper's credit after `n` cycles (R318). -/
def creditStep (h : ShaperPar) (rate n : Nat) (sending isOpen queued : Bool) (cr : Int) : Int :=
  let up : Int := (h.slope * n : Nat)
  let x :=
    if sending then cr + up - (rate * n : Nat)
    else if !isOpen then cr
    else if queued then cr + up
    else if cr > 0 then 0 else min 0 (cr + up)
  max (-(h.lo * 800000 : Nat)) (min (h.hi * 800000 : Nat) x)

def creditDefault (_ : Nat) : Int := 0

/-- Class 0..7 of a shaper's credit on a port, 8 for the shedding shaper. -/
def State.credit (s : State) (p c : Nat) : Int := tabGet creditDefault (s.port p).credit c
def State.setCredit (s : State) (p c : Nat) (v : Int) : State :=
  s.setPort p { s.port p with credit := tabSet creditDefault (s.port p).credit c v }

/-- The credit of F[22]'s shedding shaper after the cycles since it was brought up to date (R376): F[22] has no other shaper (R311). -/
def State.hostCredit (s : State) (sending : Bool) : State :=
  let waits := (List.range 32).any (fun r =>
    match s.queue (768 + r) with
    | [] => false
    | d :: _ => !s.shedExempt (s.desc d).cls (s.desc d))
  let n := strandDiff s.strand (s.port 22).creditAt
  let v := if s.shedding 22 then creditStep (s.shedShaper 22) (s.portRate 22) n sending true waits (s.credit 22 8) else 0
  let s := s.setCredit 22 8 v
  s.setPort 22 { s.port 22 with creditAt := s.strand }

/-- The wire of a port is busy with a fragment's overhead until `creditAt`, which then lies ahead. -/
def State.wireAhead (s : State) (p : Nat) : Bool :=
  (s.port p).creditAt != s.strand && decide (strandDiff (s.port p).creditAt s.strand < 2 ^ 20)

/-- Bring the credits of a port forward by `n` cycles, to the Strand value `at_`. A frame in back-off, or deferred by PLCA, is queued
and not on the wire. -/
def State.creditRun (s : State) (p n at_ : Nat) : State :=
  let rate := s.portRate p
  let read := tabFind s.buf.egress p
  let waits := (s.port p).backoffAt.isSome || (s.port p).deferred
  let wire := if waits then none else read
  let gates := (s.gate p).gates
  let qs := (s.portQueues p).filter (fun q => !(s.queue q).isEmpty)
  let queued := fun (c : Nat) => qs.any (fun q => s.queueClass q 0 == c) ||
    (match (s.port p).held with | some e => s.queueClass e.d.queue e.d.cls == c | none => false) ||
    (match read with | some e => waits && s.queueClass e.d.queue e.d.cls == c | none => false)
  let sends := fun (c : Nat) => match wire with | some e => s.queueClass e.d.queue e.d.cls == c | none => false
  let s := (List.range 8).foldl (fun (s : State) c =>
    let h := s.classShaper p c
    if h.slope = 0 then s
    else s.setCredit p c (creditStep h rate n (sends c) (bitOf gates c) (queued c) (s.credit p c))) s
  let s := if s.shedding p then
      let low := fun (f : Nat → Bool) => (List.range 7).any f
      let sending := match wire with | some e => !s.shedExempt (s.queueClass e.d.queue e.d.cls) e.d | none => false
      s.setCredit p 8 (creditStep (s.shedShaper p) rate n sending (low (fun c => queued c && bitOf gates c) || !low queued)
        (low queued) (s.credit p 8))
    else s.setCredit p 8 0
  let streams := ((s.egr.tags.map (·.1)) ++ qs).eraseDups.filter (fun q => decide (800 ≤ q) && s.queuePort q == some p)
  let s := streams.foldl (fun (s : State) q =>
    let h := s.streamShaper q
    if h.slope = 0 then s
    else
      let c := s.queueClass q 0
      let sending := match wire with | some e => e.d.queue == q | none => false
      s.setTag q { s.tag q with
        credit := creditStep h rate n sending (bitOf gates c) (!(s.queue q).isEmpty) (s.tag q).credit }) s
  s.setPort p { s.port p with creditAt := at_ }

/-- Bring every credit of a port up to date. -/
def State.creditSync (s : State) (p : Nat) : State :=
  let n := strandDiff s.strand (s.port p).creditAt
  if p > 22 || n = 0 || s.wireAhead p then s
  else if p = 22 then s.hostCredit false
  else s.creditRun p n s.strand

/-- The wire of a port is free. -/
def State.wireFree (s : State) (p : Nat) : State := if s.wireAhead p then s.timeTo (s.port p).creditAt else s

/-- Bring the credits of every port up to date. -/
def State.creditSyncAll (s : State) : State := (List.range 23).foldl (fun (s : State) p => s.creditSync p) s

/-- Bring the credits of the port that a queue feeds up to date. -/
def State.creditSyncQ (s : State) (q : Nat) : State :=
  match s.queuePort q with
  | some p => s.creditSync p
  | none => s

/-- Store a queue; Q_DESC.COUNT follows (R282). -/
def State.setQueue (s : State) (q : Nat) (l : List Nat) : State :=
  let s := s.creditSyncQ q
  { s with buf := { s.buf with queues := tabSet queueDefault s.buf.queues q l } }.setF (QDesc.count q) l.length

/-! ### Frames -/

/-- One pause quantum: 512 bit times. -/
def State.quanta (s : State) (p n : Nat) : Nat := s.bitCycles p (n * 512)

/-- The frame check sequence of IEEE 802.3, in wire order. -/
def ethFcs (l : List Byte) : List Byte := leBytes 4 (crcOf 32 0x04C11DB7 0xFFFFFFFF true 0xFFFFFFFF l)

/-- The frame check sequence holds (R128 step 5). -/
def fcsOk (b : List Byte) : Bool := ethFcs (b.take (b.length - 4)) == b.drop (b.length - 4)

/-- STATION_MAC in wire order (R125). -/
def State.stationMac (s : State) (p : Nat) : List Byte := leBytes 6 (s.par (oChan p) 0x4106)

/-- Pad to 60 bytes and append the FCS (R132). -/
def ethFinish (l : List Byte) : List Byte :=
  let b := l ++ zeros (60 - l.length)
  b ++ ethFcs b

/-- Overhead that MACsec adds on a protected egress (R421). -/
def State.macsecOverhead (s : State) (p : Nat) : Nat :=
  if (decide (p ≤ 11) || p == 20 || p == 21) && s.par (oChan p) 0x1000 == 1 && s.par (oChan p) 0x1002 == 1 then
    24 + (if s.par (oChan p) 0x1008 == 1 then 8 else 0)
  else 0

/-! ### Flow control generation (R136 to R139) -/

/-- FC_MODE of a port; 0 where the port has no flow control. -/
def State.fcMode (s : State) (p : Nat) : Nat := if p ≤ 11 then s.par (oChan p) 0x0200 else 0

/-- The classes of a port that flow control distinguishes. -/
def State.fcClasses (s : State) (p : Nat) : List Nat :=
  if s.fcMode p == 1 then [0] else if s.fcMode p == 2 then maskBits 8 (s.par (oChan p) 0x0202) else []

/-- The class under which flow control counts a frame of class `c`. -/
def State.fcClass (s : State) (p c : Nat) : Nat := if s.fcMode p == 1 then 0 else c

/-- Ingress occupancy (R136): cells in the buffer that entered on the port in the class, headroom cells left out. -/
def State.ingressOcc (s : State) (p c : Nat) : Nat :=
  (s.buf.cells.filter (fun kv => kv.2.alloc && kv.2.port == p && kv.2.pool != .headroom && decide (kv.2.cls ≤ 7) &&
    (s.fcMode p == 1 || kv.2.cls == c))).length

/-- Is XOFF asserted for a port and class? -/
def State.xoffOn (s : State) (p c : Nat) : Bool := decide (p ≤ 21) && bitOf (s.getF (PortPauseStatus.txXoff p)) c

/-- The flow control frame of a port (R138): opcode, times, addresses. Under FC_MODE 1 a deassertion sends PAUSE with time 0, as R138
states for a class of PFC (DESIGN CHOICE, log entry 131). -/
def State.fcFrame (s : State) (p : Nat) : List Byte :=
  let time := s.par (oChan p) 0x0203
  let head := [0x01, 0x80, 0xC2, 0x00, 0x00, 0x01] ++ s.stationMac p ++ [0x88, 0x08]
  if s.fcMode p == 1 then
    ethFinish (head ++ beBytes 2 1 ++ beBytes 2 (if s.xoffOn p 0 then time else 0))
  else
    let cs := s.fcClasses p
    let on := fun (c : Nat) => cs.contains c && s.xoffOn p c
    let en := fun (c : Nat) => on c || bitOf (s.port p).fcPend c
    ethFinish (head ++ beBytes 2 0x0101 ++ beBytes 2 (maskOf ((List.range 8).filter en)) ++
      (List.range 8).flatMap (fun c => beBytes 2 (if on c then time else 0)))

/-- Send the flow control frame that is due, at a frame boundary of a port that is up (R139). -/
def State.fcSend (s : State) (p : Nat) : State :=
  let e := s.port p
  if e.fcPend == 0 || (tabFind s.buf.egress p).isSome || !s.flag (PortStatus.linkUp p) then s
  else
    let f := s.fcFrame p
    let on := (s.fcClasses p).any (fun c => s.xoffOn p c)
    let next := if on then some (s.after (s.quanta p (max 1 (s.par (oChan p) 0x0203 / 2)))) else none
    let s := { s with out := .ethTx p f false :: s.out }
    let s := s.inc (oChan p) cEth (if s.fcMode p == 1 then 18 else 19)
    s.setPort p { s.port p with fcPend := 0, refreshAt := next }

/-- XOFF is asserted or ended for a class, and its announcement falls due (R136, R138): `xoffCheck`, which ends every admission and
every freeing, sends one frame for all that has fallen due. With FC_MODE 1 every bit takes the same value. -/
def State.setXoff (s : State) (p c : Nat) (b : Bool) : State :=
  if s.xoffOn p c == b then s
  else
    let m := if s.fcMode p == 1 then (if b then 0xFF else 0)
      else setBit (s.getF (PortPauseStatus.txXoff p)) c b
    let s := s.setF (PortPauseStatus.txXoff p) m
    s.setPort p { s.port p with fcPend := setBit (s.port p).fcPend c true }

/-- XOFF_ASSERT and XOFF_DEASSERT by occupancy (R136). What falls due for several classes at once leaves in one frame, which
carries every class still asserted and so refreshes those too (R138). -/
def State.xoffCheck (s : State) (p : Nat) : State :=
  ((s.fcClasses p).foldl (fun s c =>
    let occ := s.ingressOcc p c
    if occ ≥ s.par (oChan p) (0x0210 + c) then s.setXoff p c true
    else if s.xoffOn p c && occ ≤ s.par (oChan p) (0x0220 + c) then s.setXoff p c false
    else s) s).fcSend p

/-- Admission refused a cell of class `c` from `p` (R136). -/
def State.xoffRefused (s : State) (p c : Nat) : State :=
  let c := s.fcClass p c
  if (s.fcClasses p).contains c then s.setXoff p c true else s

/-! ### Cells (R247, R249, R273) -/

/-- Allocated cells of a bank. -/
def State.bankUsed (s : State) (b : Nat) : List Nat :=
  (s.buf.cells.filter (fun kv => kv.2.alloc && kv.1 % 8 == b)).map (·.1)

/-- Cells of a frame that an egress read has taken. -/
def EgressRead.taken (e : EgressRead) : Nat := ceilDiv e.data.length 64

/-- Bytes of a frame that port `p` has sent by now (R148). -/
def State.bytesGone (s : State) (p : Nat) (e : EgressRead) : Nat :=
  min e.data.length (e.gone + strandDiff s.strand e.since * s.portRate p / 800000 / 8)

/-- Cells that have left the read FIFO of port `p` by now. -/
def State.readGone (s : State) (p : Nat) (e : EgressRead) : Nat := e.taken - ceilDiv (e.data.length - s.bytesGone p e) 64

/-- The 8-cell read FIFO of port `p` is full, so that it makes no request (R257). -/
def State.readFull (s : State) (p : Nat) (e : EgressRead) : Bool := decide (8 ≤ e.taken - s.readGone p e)

/-- Is the next cell of an egress read in the buffer (R266)? -/
def State.cellReady (s : State) (e : EgressRead) : Bool :=
  match s.buf.rx.find? (fun kv => kv.2.owner == some e.d.owner) with
  | some (_, f) => decide (e.taken < f.written.length)
  | none => true

/-- The egress reads that have a next cell to read. -/
def State.readsOpen (s : State) : List (Nat × EgressRead) :=
  s.buf.egress.filter (fun kv => decide (0 < kv.2.cellsLeft) && !kv.2.trunc && s.cellReady kv.2)

/-- The oldest outstanding read request; ties go to the lower port (R257). -/
def State.oldestRead (s : State) : Option (Nat × EgressRead) :=
  (s.readsOpen.filter (fun kv => !s.readFull kv.1 kv.2)).foldl (fun (a : Option (Nat × EgressRead)) kv =>
    match a with
    | none => some kv
    | some b => if kv.2.age < b.2.age then some kv else some b) none

/-- The Strand value at which a full read FIFO has room again. -/
def State.roomAt (s : State) (p : Nat) (e : EgressRead) : Nat :=
  strandPlus e.since (s.bitCycles p ((64 * (e.taken - 7) - e.gone) * 8))

/-- The earliest room among the reads that wait for nothing else. -/
def State.readRoom (s : State) : Option Nat :=
  (s.readsOpen.map (fun kv => s.roomAt kv.1 kv.2)).foldl (fun (a : Option Nat) t =>
    match a with
    | none => some t
    | some b => if b != t && strandAfter b t then some t else some b) none

/-- The cell that an egress read takes next. -/
def State.nextCell (s : State) (e : EgressRead) : Nat := if e.data.isEmpty then e.cellAt else (s.cell e.cellAt).next

/-- The bank with the most free cells among those of `bs` that have one; the lowest among equals. -/
def State.pickBank (s : State) (bs : List Nat) : Option Nat :=
  (bs.foldl (fun (a : Option (Nat × Nat)) b =>
    let n := (s.bankUsed b).length
    match a with
    | none => if n < 32768 then some (b, n) else none
    | some x => if n < x.2 then some (b, n) else a) none).map (·.1)

/-- The cell that the next write takes (R247): in the bank with the most free cells among those that the read slot of the cycle, which
serves the oldest read request, does not address; where only that bank has a free cell, the write wins it. DESIGN CHOICE (log entry
19): the lowest bank among equals, the lowest free cell in it. -/
def State.pickCell (s : State) : Option Nat :=
  let slot := s.oldestRead.map (fun x => s.nextCell x.2 % 8)
  let bank := match s.pickBank ((List.range 8).filter (fun b => slot != some b)) with
    | some b => some b
    | none => slot.bind (fun b => s.pickBank [b])
  match bank with
  | none => none
  | some b =>
    let used := s.bankUsed b
    ((List.range (used.length + 1)).map (fun i => i * 8 + b)).find? (fun c => !used.contains c)

/-- The lowest free descriptor (log entry 19). -/
def State.pickDesc (s : State) : Option Nat :=
  let used := (s.buf.descs.filter (fun kv => kv.2.state != .free || kv.2.lost)).map (·.1)
  if used.length ≥ 65536 then none
  else (List.range (used.length + 1)).find? (fun d => !used.contains d)

/-- DESCRIPTOR_ALLOCATE (R250): a descriptor leaves FREE for RECEIVING and its generation advances. -/
def State.takeDesc (s : State) (init : Desc) : Option (Nat × State) :=
  match s.pickDesc with
  | none => none
  | some d => some (d, (s.setDesc d { init with state := .receiving, gen := ((s.desc d).gen + 1) % 16 }).decF SwFreeDesc.count)

/-- A descriptor returns to the free list; its generation stays. -/
def State.freeDesc (s : State) (d : Nat) : State :=
  (s.setDesc d { gen := (s.desc d).gen }).incF SwFreeDesc.count

/-- Return a cell's debit to its pool (R261). A pool that a commit has left smaller than what it lends takes the debt back first (R260,
R263). -/
def State.creditPool (s : State) (c : Nat) : State :=
  let v := s.cell c
  match v.pool with
  | .free => s
  | .shared =>
    if s.buf.sharedDebt = 0 then s.incF SwSharedFree.count
    else { s with buf := { s.buf with sharedDebt := s.buf.sharedDebt - 1 } }
  | .keystone =>
    if s.buf.keystoneDebt = 0 then s.incF SwKeystoneFree.count
    else { s with buf := { s.buf with keystoneDebt := s.buf.keystoneDebt - 1 } }
  | .headroom =>
    { s with buf := { s.buf with headUsed := tabSet ctrDefault s.buf.headUsed v.port (tabGet ctrDefault s.buf.headUsed v.port - 1) } }

/-- Debit a cell to the pool its admitted copies' sources choose (R261). -/
def State.debitCell (s : State) (c port : Nat) (srcs : List Source) : State :=
  if srcs.contains .shared then (s.setCell c { s.cell c with pool := .shared }).decF SwSharedFree.count
  else if srcs.contains .headroom then
    let s := s.setCell c { s.cell c with pool := .headroom, port := port }
    { s with buf := { s.buf with headUsed := tabSet ctrDefault s.buf.headUsed port (tabGet ctrDefault s.buf.headUsed port + 1) } }
  else if srcs.contains .keystone then (s.setCell c { s.cell c with pool := .keystone }).decF SwKeystoneFree.count
  else s

/-- Free one cell. -/
def State.freeCell (s : State) (c : Nat) : State :=
  let s := s.creditPool c
  ({ s with buf := { s.buf with cells := tabErase s.buf.cells c } }).incF SwFreeCells.count

/-- Follow NEXT for `n` cells from `c` on. -/
def State.chain (s : State) (c : Nat) : Nat → List Nat
  | 0 => []
  | n + 1 => c :: s.chain (s.cell c).next n

/-- The cells of a descriptor's frame. -/
def State.descCells (s : State) (d : Desc) : List Nat := s.chain d.firstCell (ceilDiv d.length 64)

/-- The stored bytes of a frame. -/
def State.frameOf (s : State) (d : Desc) : List Byte := (s.descCells d).flatMap (fun c => (s.cell c).data)

/-- Write one cell of a frame after cell `prev` of the same frame (R248). -/
def State.putCell (s : State) (owner port : Nat) (data : List Byte) (prev : Option Nat) (last : Bool) : Option (Nat × State) :=
  match s.pickCell with
  | none => none
  | some c =>
    let v : Cell := { alloc := true, data := data, first := prev.isNone, last := last, owner := owner,
                      gen := (s.desc owner).gen, port := port }
    let s := (s.setCell c v).decF SwFreeCells.count
    some (c, match prev with
      | none => s
      | some p => s.setCell p { s.cell p with next := c })

/-- Cut bytes into cells of 64. -/
def cellsOf : Nat → List Byte → List (List Byte)
  | 0, _ => []
  | n + 1, l => if l.isEmpty then [] else l.take 64 :: cellsOf n (l.drop 64)

def toCells (l : List Byte) : List (List Byte) := cellsOf (ceilDiv l.length 64) l

/-! ### Admission (R259 to R264) -/

/-- Headroom cells of a port still free (R137). -/
def State.headFree (s : State) (p : Nat) : Nat :=
  (if s.fcMode p == 0 then 0 else s.par (oChan p) 0x0204) - tabGet ctrDefault s.buf.headUsed p

/-- CELL_ADMISSION (R260): the source of a cell of a copy for queue `q`, in class `c`, from ingress port `p`. -/
def State.admitSource (s : State) (q c p : Nat) : Option Source :=
  let occ := s.getF (QStatus.occ q)
  let res := s.par (oQueue q) 0x0100
  if occ < res then some .reserve
  else if (occ - res) * 128 < 2 ^ s.par oDeck (0x0210 + c) * s.getF SwSharedFree.count then some .shared
  else if c == 7 && s.getF SwKeystoneFree.count > 0 &&
      tabGet ctrDefault s.buf.keystoneHeld q < s.par oDeck 0x0201 then some .keystone
  else if s.xoffOn p (s.fcClass p c) && s.fcMode p != 0 && s.headFree p > 0 then some .headroom
  else none

/-- Charge a cell to a queue: occupancy, peak and counters (R260, R282). -/
def State.charge (s : State) (q : Nat) (src : Source) : State :=
  let s := s.incF (QStatus.occ q)
  let s := s.setF (QPeak.peak q) (max (s.getF (QPeak.peak q)) (s.getF (QStatus.occ q)))
  let s := s.incQ q 1
  match src with
  | .keystone =>
    let s := { s with buf := { s.buf with keystoneHeld := tabSet ctrDefault s.buf.keystoneHeld q (tabGet ctrDefault s.buf.keystoneHeld q + 1) } }
    s.incQ q 6
  | .headroom => s.incQ q 7
  | _ => s

/-- A copy's cells leave its queue's account. -/
def State.uncharge (s : State) (d : Desc) : State :=
  let s := s.decF (QStatus.occ d.queue) d.sources.length
  let k := (d.sources.filter (· == .keystone)).length
  { s with buf := { s.buf with keystoneHeld := tabSet ctrDefault s.buf.keystoneHeld d.queue (tabGet ctrDefault s.buf.keystoneHeld d.queue - k) } }

/-! ### Copies (R252) -/

/-- When no copy remains the cell chain and the owner descriptor are freed, and XOFF is looked at again (R252, R136). -/
def State.ownerDone (s : State) (o : Nat) : State :=
  let v := s.desc o
  if v.copies > 0 || v.state == .free then s
  else
    let s := (s.descCells v).foldl (fun s c => s.freeCell c) s
    (s.freeDesc o).xoffCheck v.ingress

/-- COPY_RELEASE (R252). -/
def State.releaseCopy (s : State) (d : Nat) : State :=
  let v := s.desc d
  let s := s.uncharge v
  let o := v.owner
  let s := s.setDesc o { s.desc o with copies := (s.desc o).copies - 1 }
  let s := if d == o then s.setDesc d { s.desc d with state := .retired, sources := [] } else s.freeDesc d
  s.ownerDone o

/-- Copy descriptor from a specification. -/
def CopySpec.desc (c : CopySpec) (owner : Nat) : Desc :=
  { cls := c.cls, cut := c.cut, mirror := c.mirror, safety := c.safety, yellow := c.yellow, ageLimit := c.ageLimit,
    route := c.route, queue := c.queue, owner := owner, deadline := c.deadline, tsReq := c.tsReq, tagOut := c.tagOut,
    untag := c.untag, popRtag := c.popRtag, comp := c.comp, hostTx := c.hostTx, remote := c.remote, srcChan := c.srcChan,
    srcDeck := c.srcDeck, authFail := c.authFail, avtp := c.avtp }

/-- Is a frame tagged (R211)? -/
def frameTagged (b : List Byte) : Bool := beAt b 12 2 == 0x8100

/-- Bytes a copy has on egress, R132. -/
def egressLength (bytes : List Byte) (c : CopySpec) : Nat :=
  let t := frameTagged bytes
  bytes.length - (if c.untag && t then 4 else 0) + (if c.tagOut.isSome && !t then 4 else 0) - (if c.popRtag then 6 else 0)

/-- Does a queue refuse every enqueue now: the count of a refusal, or none (R134, R193, R268, R269, R274)? -/
def State.enqClosed (s : State) (q : Nat) : Option State :=
  let down := match s.queuePort q with
    | some p => if p ≤ 21 && (!s.flag (PortStatus.linkUp p) || (s.port p).disabling.isSome) then some p else none
    | none => none
  if s.flag (QStatus.disabled q) then some (s.incQ q 5)
  else if s.flag (QStatus.broken q) then some (s.incQ q 3)
  else
    match down with
    | some p => some (s.inc (oChan p) cEth 21)
    | none =>
      if 224 ≤ q && q < 736 then
        let n := (q - 224) / 8
        if !s.flag (CanStatus.enabled n) || s.flag (CanStatus.draining n) || (s.canLane n).disabling.isSome
        then some (s.incCan n 24) else none
      else if 736 ≤ q && q < 768 then
        let n := (q - 736) / 2
        if !s.chanEnabled (88 + n) || (tabGet (fun _ => ({} : LinLane)) s.lin n).disabling.isSome
        then some (s.inc (oChan (88 + n)) cLin 12) else none
      else none

/-- The tests made when a copy is enqueued: its queue is not closed, and it is not too long for its port (R132). A copy that cuts
through, whose length is not known then, is held to MAX_LEN by R131 instead (log entry 42). -/
def State.enqRefused (s : State) (c : CopySpec) (bytes : List Byte) : Option State :=
  match s.enqClosed c.queue, s.queuePort c.queue with
  | some t, _ => some t
  | none, some p =>
    if p ≤ 21 && !c.cut && egressLength bytes c + s.macsecOverhead p > s.par (oChan p) 0x0103 then some (s.inc (oChan p) cEth 22)
    else none
  | none, none => none

/-- Admission refuses a cell of a copy in class `cls`: its earlier cells are uncharged, the drop is counted, and XOFF asserted where flow
control applies (R262, R136). -/
def State.refuseCell (s : State) (d port cls : Nat) : State :=
  let v := s.desc d
  let s := (s.uncharge v).incQ v.queue 3
  let s := s.setDesc d { s.desc d with sources := [] }
  s.xoffRefused port cls

/-- Admit one cell of one copy; a refusal drops the copy whole (R262). -/
def State.admitCopy (s : State) (d port : Nat) : Option Source × State :=
  let v := s.desc d
  let cls := s.queueClass v.queue v.cls
  match s.admitSource v.queue cls port with
  | some src =>
    let s := s.charge v.queue src
    (some src, s.setDesc d { s.desc d with sources := src :: (s.desc d).sources })
  | none => (none, s.refuseCell d port cls)

/-- Admit cell `c` for every live copy; answers the copies still live. -/
def State.admitAll (s : State) (c port : Nat) (live : List Nat) : List Nat × State :=
  let (ok, srcs, s) := live.foldl (fun (a : List Nat × List Source × State) d =>
    match a.2.2.admitCopy d port with
    | (some src, s) => (a.1 ++ [d], src :: a.2.1, s)
    | (none, s) => (a.1, a.2.1, s)) ([], [], s)
  (ok, s.debitCell c port srcs)

/-- Copies dropped before they were linked: a non-owner is freed, the owner waits as RETIRED for the others. -/
def State.dropCopies (s : State) (owner : Nat) (ds : List Nat) : State :=
  ds.foldl (fun s d =>
    let s := s.setDesc owner { s.desc owner with copies := (s.desc owner).copies - 1 }
    if d == owner then s.setDesc d { s.desc d with state := .retired, sources := [] } else s.freeDesc d) s

/-- Link a copy into its queue: QUEUED. -/
def State.linkCopy (s : State) (d : Nat) : State :=
  let v := s.desc d
  let s := s.setDesc d { v with state := .queued, enqueuedAt := s.strand }
  (s.setQueue v.queue (s.queue v.queue ++ [d])).incQ v.queue 0

/-- Nothing of a frame is left to enqueue: cells and descriptors are freed, unless a copy on the wire, which ends cut, still reads them.
Where admission refused the frame (`adm`) with XOFF asserted and the headroom exhausted, the port counts it (R136, R262). -/
def State.frameRefused (s : State) (owner : Nat) (port cls : Nat) (adm : Bool) : State :=
  let lacks := adm && decide (port ≤ 11) && s.fcMode port != 0 && s.xoffOn port (s.fcClass port cls) && s.headFree port == 0
  let s := if s.buf.descs.any (fun kv => kv.2.owner == owner && kv.2.state == .active) then s
    else (s.setDesc owner { s.desc owner with copies := 0 }).ownerDone owner
  if lacks then
    (s.inc (oChan port) cEth 14).event (PortEvents.headroomEmpty port) (0x106 + port * 16)
  else s

/-- Take a descriptor for each copy that passes the tests made at enqueue; the first is the owner's. A further copy that
finds no descriptor is refused alone (R250). -/
def State.makeCopies (s : State) (owner : Nat) (bytes : List Byte) (specs : List CopySpec) : List Nat × State :=
  specs.foldl (fun (a : List Nat × State) c =>
    let s := a.2
    match s.enqRefused c bytes with
    | some s => (a.1, s)
    | none =>
      let o := s.desc owner
      let base : Desc := { c.desc owner with
        firstCell := o.firstCell, length := o.length, ingress := o.ingress, stamp := o.stamp }
      if a.1.isEmpty then (a.1 ++ [owner], s.setDesc owner { base with state := o.state, gen := o.gen, copies := 1, ownerFlag := true })
      else
        match s.takeDesc base with
        | none => (a.1, s.incQ c.queue 3)
        | some (d, s) => (a.1 ++ [d], s.setDesc owner { s.desc owner with copies := (s.desc owner).copies + 1 })) ([], s)

/-- The class of a frame's cells, for the ingress occupancy. -/
def State.classCells (s : State) (owner cls : Nat) (cells : List Nat) : State :=
  let _ := owner
  cells.foldl (fun s c => s.setCell c { s.cell c with cls := cls }) s

/-- Write a frame that a unit hands over whole and enqueue its copies (R249, R250, R252, R260): the descriptors of the
copies enqueued. A frame that finds no descriptor is dropped before any cell is taken; one that finds no free cell is
refused as a whole copy by copy (R280). -/
def State.storeFrame (s : State) (port stamp : Nat) (bytes : List Byte) (specs : List CopySpec) : List Nat × State :=
  match s.takeDesc { ingress := port, stamp := stamp, length := bytes.length } with
  | none => ([], s.incSw 10)
  | some (o, s) =>
    let s := s.setDesc o { s.desc o with owner := o }
    let cells := toCells bytes
    let n := cells.length
    let (written, full, s) := (cells.zip (List.range n)).foldl (fun (a : List Nat × Bool × State) (ci : List Byte × Nat) =>
      if a.2.1 then a
      else
        match a.2.2.putCell o port ci.1 a.1.getLast? (ci.2 + 1 == n) with
        | none => (a.1, true, a.2.2)
        | some (c, s) => (a.1 ++ [c], false, s)) ([], false, s)
    let s := s.setDesc o { s.desc o with firstCell := written.headD 0, length := if full then written.length * 64 else bytes.length }
    let cls := (specs.map (·.cls)).headD 0
    let s := s.classCells o cls written
    if full then
      let s := specs.foldl (fun s c => (s.incQ c.queue 3).xoffRefused port (s.queueClass c.queue c.cls)) s
      ([], s.frameRefused o port cls true)
    else
      let (copies, s) := s.makeCopies o bytes specs
      let (live, s) := written.foldl (fun (a : List Nat × State) c => a.2.admitAll c port a.1) (copies, s)
      if live.isEmpty then ([], s.frameRefused o port cls (!copies.isEmpty))
      else
        let s := s.dropCopies o (copies.filter (fun d => !live.contains d))
        (live, (live.foldl (fun s d => s.linkCopy d) s).xoffCheck port)

/-! ### Dequeue -/

/-- Take the head copy of a queue: ACTIVE (R250). -/
def State.dequeue (s : State) (q : Nat) : Option (Nat × State) :=
  match s.queue q with
  | [] => none
  | d :: t => some (d, (s.setQueue q t).setDesc d { s.desc d with state := .active })

/-- Take a given copy out of its queue. -/
def State.unqueue (s : State) (d : Nat) : State :=
  let q := (s.desc d).queue
  s.setQueue q ((s.queue q).filter (· != d))

/-- A copy whose last cell has been read is released and counted (R252, R282). -/
def State.finishCopy (s : State) (d : Nat) : State := (s.incQ (s.desc d).queue 2).releaseCopy d

/-- Take the head copy of a queue whole: its descriptor as it was, and its bytes. -/
def State.takeFrame (s : State) (q : Nat) : Option (Desc × List Byte × State) :=
  match s.dequeue q with
  | none => none
  | some (d, s') => some (s'.desc d, s'.frameOf (s'.desc d), s'.finishCopy d)

/-! ### Flush and disable (R268, R269) -/

/-- A copy that a flush finds: counted and released. A frame of a CAN queue ends with FLUSHED (R189, R193). -/
def State.flushCopy (s : State) (q d : Nat) : State :=
  let v := s.desc d
  let s := s.incQ q 4
  let s := if 224 ≤ q ∧ q < 736 then s.canEnds ((q - 224) / 8) csFlushed v.comp v.attempts v.arbLosses v.txStamp else s
  s.releaseCopy d

/-- Free every QUEUED copy of the queues named. A flush in progress covers copies by its queues; the copies found when
it starts are all that the scan can find, since a flushed queue admits nothing. -/
def State.flushQueue (s : State) (q : Nat) : State :=
  let ds := s.queue q
  let s := s.setQueue q []
  ds.foldl (fun s d => s.flushCopy q d) s

/-- A flush starts (R268): SW_STATUS.SCANNING, and a port's FLUSHING (R134). -/
def State.startFlush (s : State) (qs : List Nat) (port : Option Nat) (can : Option Nat := none) : State :=
  let s := { s with buf := { s.buf with
    flushes := s.buf.flushes ++ [({ queues := qs, port := port, can := can, at_ := s.strand } : Flush)] } }
  let s := s.setF SwStatus.scanning 1
  match port with
  | some p => s.setF (PortStatus.flushing p) 1
  | none => s

/-- A queue is marked BROKEN (R274): it admits nothing and is flushed. -/
def State.breakQueue (s : State) (q : Nat) : State :=
  if s.flag (QStatus.broken q) then s
  else ((s.setF (QStatus.broken q) 1).incSw 14).event SwEvents.queueBroken 0x02F |>.startFlush [q] none

/-- Force disable of a queue (R269). -/
def State.forceQueue (s : State) (q : Nat) : State :=
  let s := ((s.setF (QStatus.disabled q) 1).setF (QStatus.draining q) 0).startFlush [q] none
  { s with buf := { s.buf with drainAt := tabErase s.buf.drainAt q } }

/-- A commit has set a queue's DISABLE to 0: it is BROKEN no longer, once its flush has completed (R274). -/
def State.queueMended (s : State) (q : Nat) : State :=
  if s.buf.flushes.any (fun f => f.queues.contains q) then s else s.setF (QStatus.broken q) 0

/-- DISABLE takes effect at a commit epoch (R269). -/
def State.applyQueueDisable (s : State) (q : Nat) : State :=
  match s.par (oQueue q) 0x0102 with
  | 0 =>
    let s := (s.setF (QStatus.disabled q) 0).setF (QStatus.draining q) 0
    { s with buf := { s.buf with drainAt := tabErase s.buf.drainAt q } }
  | 1 =>
    let s := s.setF (QStatus.disabled q) 1
    if (s.queue q).isEmpty then s
    else
      let s := s.setF (QStatus.draining q) 1
      { s with buf := { s.buf with drainAt := tabSet ctrDefault s.buf.drainAt q (s.after (msC 100) + 1) } }
  | _ => s.forceQueue q

/-! ### Errors of the lists and of stored data (R273, R274, R280) -/

/-- LINK_MISMATCH in a list (R274): counted, evented, and the list-integrity input raised. -/
def State.linkMismatch (s : State) (detail : Nat) : State :=
  ((s.incSw 8).event SwEvents.linkMismatch 0x02C detail).faultRise 3 detail

/-- An uncorrectable data or descriptor error: counted, evented, and the buffer-ECC input raised (R280). -/
def State.eccUncorr (s : State) (detail : Nat) : State :=
  ((s.incSw 7).event SwEvents.eccUncorr 0x02D detail).faultRise 2 detail

/-- The copy behind `d` in its queue: NEXT_DESC (R251); 0 behind the last. -/
def State.nextDesc (s : State) (d : Nat) : Nat :=
  (((s.queue (s.desc d).queue).dropWhile (· != d)).drop 1).headD 0

/-- Bytes 0x00 to 0x1D of a descriptor as R251 lays them out. -/
def State.descHead (s : State) (d : Nat) : List Byte :=
  let v := s.desc d
  leBytes 4 (v.firstCell + v.length * 2 ^ 18) ++
  leBytes 4 (s.nextDesc d + v.ingress * 2 ^ 16 + v.cls * 2 ^ 21 + b2n v.cut * 2 ^ 24 + b2n v.ownerFlag * 2 ^ 25 +
    b2n v.mirror * 2 ^ 26 + b2n v.safety * 2 ^ 27 + b2n v.yellow * 2 ^ 28) ++
  leBytes 6 v.stamp ++ leBytes 2 (v.ageLimit / 80000) ++ leBytes 2 v.route ++ leBytes 2 v.queue ++ leBytes 2 v.owner ++
  leBytes 1 v.copies ++ leBytes 1 v.gen ++ leBytes 4 v.deadline ++ zeros 2

/-- A descriptor's 32 bytes, DESC_ECC last (R251). The rules state no SECDED code: a free value. -/
def State.descBytes (s : State) (d : Nat) : List Byte :=
  let h := s.descHead d
  h ++ leBytes 2 (Config.secded10 240 (leVal h)).toNat

/-- A cell's 8 sideband bytes (R248), with codes that are free values. -/
def State.cellSideband (s : State) (c : Nat) : Nat :=
  let v := s.cell c
  let b := padTo 64 v.data
  let next := if v.last then 0 else v.next
  (Config.secded10 256 (leVal (b.take 32))).toNat + (Config.secded10 256 (leVal (b.drop 32))).toNat * 2 ^ 10 +
  (v.data.length - 1) * 2 ^ 20 + b2n v.first * 2 ^ 26 + b2n v.last * 2 ^ 27 + next * 2 ^ 28 +
  (Config.secded6 next).toNat * 2 ^ 46

/-! ### The commands of the chapter -/

/-- QUEUE_DRAIN_DONE (R269): a draining queue is empty. -/
def execQueueDrainDone (q : Fin 2048) (s : State) : Host.Outcome State Fault Refusal :=
  .next (if s.flag (QStatus.draining q) && (s.queue q).isEmpty then
      { s.setF (QStatus.draining q) 0 with buf := { (s.setF (QStatus.draining q) 0).buf with drainAt := tabErase s.buf.drainAt q } }
    else s)

/-- QUEUE_DRAIN_TIMEOUT (R269): still draining 100 ms after the epoch, the queue continues as for force. -/
def execQueueDrainTimeout (q : Fin 2048) (s : State) : Host.Outcome State Fault Refusal :=
  .next (match tabFind s.buf.drainAt q with
    | none => s
    | some d => if s.flag (QStatus.draining q) then (s.timeTo (d - 1)).forceQueue q else s)

/-- A leaked cell is reclaimed and noted (R271). -/
def State.leakReclaim (s : State) (c : Nat) : State :=
  let s := (s.freeCell c).incSw 5
  let s := { s with buf := { s.buf with reclaims := (c :: s.buf.reclaims).take 16 } }
  s.event SwEvents.leakReclaim 0x02B c

/-- AUDIT_VISIT (R270, R271) to one cell. -/
def execAuditVisit (c : Fin 262144) (s : State) : Host.Outcome State Fault Refusal :=
  let v := s.cell c
  let o := s.desc v.owner
  .next (
    if !v.alloc then s
    else if o.state != .free && o.gen == v.gen then s.setCell c { v with suspect := false }
    else if !v.suspect then s.setCell c { v with suspect := true }
    else
      s.leakReclaim c)

/-- The totals of an audit pass are kept as they were found, and the pass is counted (R272). -/
def State.auditNote (s : State) (free : Nat) : State :=
  let count := fun (st : DescState) => (s.buf.descs.filter (fun kv => kv.2.state == st)).length
  let s := { s with buf := { s.buf with
    auditTotals := [free, count .receiving, count .queued, count .active, count .retired] } }
  (s.setF SwStatus.auditPass (s.getF SwStatus.auditPass + 1)).incSw 13

/-- Descriptors that are in use. -/
def State.liveDescs (s : State) : Nat :=
  let count := fun (st : DescState) => (s.buf.descs.filter (fun kv => kv.2.state == st)).length
  count .receiving + count .queued + count .active + count .retired

/-- AUDIT_PASS_END (R272): totals by state; where the FREE count and the free list differ, or the totals do not sum,
DESC_COUNT_ERR. `off` is what an upset of the descriptor states has added to the FREE count, modulo 2^17; 0 without one. -/
def execAuditPassEnd (off : BitVec 17) (s : State) : Host.Outcome State Fault Refusal :=
  let free := (65536 - s.liveDescs + off.toNat) % 2 ^ 17
  let t := s.auditNote free
  .next (if free + s.liveDescs != 65536 || free != t.getF SwFreeDesc.count then
      ((t.incSw 12).event SwEvents.descCountErr 0x02E).faultRise 4
    else t)

/-- Q_PEAK_READ (R282, R8): the peak is returned and cleared. -/
def execQPeakRead (q : Fin 2048) (s : State) : Host.Outcome State Fault Refusal :=
  .next (s.hosted { s.setF (QPeak.peak q) 0 with out := .readData (QPeak.off q) (s.getF (QPeak.peak q)) :: s.out })

end Sys2Proof.Machine
end

