-- ==== Sys2Proof/Machine/Macsec.lean ====
section
/-! DEFINITION. Key slots (R415, R417) and inline MACsec on the Ethernet and Pier ports (R420 to R426). -/

namespace Sys2Proof.Machine

/-! ### Key slots (R415 to R419) -/

def slotDefault (_ : Nat) : KeySlot := {}
def State.slot (s : State) (k : Nat) : KeySlot := tabGet slotDefault s.hbx.slots k
def State.setSlot (s : State) (k : Nat) (v : KeySlot) : State :=
  { s with hbx := { s.hbx with slots := tabSet slotDefault s.hbx.slots k v } }

def KeySlot.empty (k : KeySlot) : Bool := k.typ == 0
def KeySlot.persist (k : KeySlot) : Bool := bitOf k.flags 0

/-- USAGE bits of R415. -/
def usMacTx : Nat := 0
def usMacRx : Nat := 1
def usCanGen : Nat := 2
def usCanVerify : Nat := 3
def usXts : Nat := 4
def usWrap : Nat := 9

/-- Is zeroisation running over this slot (R447)? -/
def State.slotZeroing (s : State) (k : Nat) : Bool :=
  match s.hbx.zeroising with
  | none => false
  | some (_, _, scope) => scope != 0 || !(s.slot k).persist

/-- May a slot be used so (R417)? A use of a slot under zeroisation is refused as for an erased one. -/
def State.slotUsable (s : State) (k use : Nat) (types : List Nat) : Bool :=
  let v := s.slot k
  !s.slotZeroing k && types.contains v.typ && bitOf v.usage use

/-- Overwrite a slot with zeros (R418); GEN and the order of installs are kept apart. -/
def State.eraseSlot (s : State) (k : Nat) : State :=
  let v := s.slot k
  if v.empty then s
  else
    let n := s.hbx.serial + 1
    let s := s.setSlot k { gen := v.gen, installedAt := v.installedAt, erasedAt := n }
    { s with hbx := { s.hbx with serial := n } }

/-- The policy as parameter ENTRY (R415): 16 bytes; an empty slot reads 0. -/
def KeySlot.policy (k : KeySlot) : List Byte :=
  if k.empty then zeros 16
  else leBytes 1 k.typ ++ leBytes 1 k.key.length ++ leBytes 2 k.usage ++ leBytes 2 k.callers ++ leBytes 1 k.flags ++
    leBytes 1 k.gen ++ zeros 8

/-! ### Inline MACsec (R420 to R426) -/

/-- Ports with an inline engine. -/
def macsecPort (p : Nat) : Bool := decide (p ≤ 11) || p == 20 || p == 21

/-- MACSEC_EN. -/
def State.macsecOn (s : State) (p : Nat) : Bool := macsecPort p && s.par (oChan p) 0x1000 == 1

/-- A port validates MACsec strictly (R265, R421). -/
def State.macsecStrict (s : State) (p : Nat) : Bool := s.macsecOn p && s.par (oChan p) 0x1005 == 2

def assocDefault (_ : Nat) : SecAssoc := {}
def State.assoc (s : State) (p i : Nat) : SecAssoc := tabGet assocDefault s.hbx.assocs (p * 64 + i)
def State.setAssoc (s : State) (p i : Nat) (v : SecAssoc) : State :=
  { s with hbx := { s.hbx with assocs := tabSet assocDefault s.hbx.assocs (p * 64 + i) v } }

/-- A MACsec counter of R426. -/
def State.incMac (s : State) (p i : Nat) (k : Nat := 1) : State := s.addCtr (oChan p) cSec i k

/-- XPN suite, and the AES key TYPE of a suite (R421, R422). -/
def suiteXpn (n : Nat) : Bool := n == 3 || n == 4
def suiteType (n : Nat) : Nat := if n == 1 || n == 3 then 1 else 2

/-- The key of an association, if it may be used: slots from 2,048 on are the Pier session keys (R515). -/
def State.assocKey (s : State) (p : Nat) (a : SecAssoc) (use : Nat) : Option (List Byte) :=
  if s.flag HbxStatus.locked then none
  else if a.slot ≥ 2048 then tabFind s.hbx.pierKeys (a.slot - 2048)
  else if s.slotUsable a.slot use [suiteType (s.par (oChan p) 0x1001)] then some (s.slot a.slot).key
  else none

/-- A bit of MACSEC_EVENTS and its source (R451). -/
def State.macEvent (s : State) (p bit : Nat) (detail : Nat := 0) : State :=
  s.event ⟨MacsecEvents.off p, bit, bit⟩ (0x100 + p * 16 + 11 + bit) detail

/-- MACSEC_STATUS follows the parameters and the receive associations in use (R426). -/
def State.syncMacsec (s : State) (p : Nat) : State :=
  let rx := maskOf ((List.range 8).filter (fun c =>
    (List.range 4).any (fun an => (s.assoc p (4 + 4 * c + an)).installed && (s.assoc p (4 + 4 * c + an)).enabled)))
  ((s.setF (MacsecStatus.enabled p) (s.par (oChan p) 0x1000)).setF (MacsecStatus.validate p)
    (s.par (oChan p) 0x1005)).setF (MacsecStatus.rxScInUse p) rx

/-- Frames that pass unprotected (R420): EAPOL and MAC control. -/
def macsecBypass (b : List Byte) : Bool := beAt b 12 2 == 0x888E || beAt b 12 2 == 0x8808

/-- The initialisation vector: SCI and PN, or the salt with SSCI and PN (IEEE 802.1AE, 802.1AEbw). -/
def macsecIv (xpn : Bool) (sci pn ssci : Nat) (salt : List Byte) : List Byte :=
  if xpn then (beBytes 4 ssci ++ beBytes 8 pn).zipWith (fun a b => a ^^^ b) (sliceB salt 0 12)
  else beBytes 8 sci ++ beBytes 4 pn

/-- The transmit association in use takes over at this frame start (R423). -/
def State.macsecFrameStart (s : State) (p : Nat) : State :=
  match tabGet (fun _ => none) s.hbx.txNext p with
  | none => s
  | some an =>
    let s := { s with hbx := { s.hbx with txNext := tabErase s.hbx.txNext p } }
    (s.setF (MacsecStatus.txAn p) an).setF (MacsecStatus.txInUse p) 1


/-- A frame of `len` bytes starts on the controlled port, or a passing one where `bypass` (R420): how it is protected, or `none` where
it is dropped (R423). -/
def State.saStart (s : State) (p len : Nat) (bypass : Bool) : Option (Option TxSa) × State :=
  if !s.macsecOn p then (some none, s)
  else
    let s := s.macsecFrameStart p
    let g := fun (pid : Nat) => s.par (oChan p) pid
    if bypass || g 0x1002 == 0 then (some none, s.incMac p 2)
    else
    let an := s.getF (MacsecStatus.txAn p)
    let a := s.assoc p an
    match s.assocKey p a usMacTx with
    | none => (none, s.incMac p 3)
    | some key =>
    if !s.flag (MacsecStatus.txInUse p) || !a.installed then (none, s.incMac p 3)
    else
      let pn := a.nextPn
      let xpn := suiteXpn (g 0x1001)
      let top := if xpn then 2 ^ 64 - 1 else 2 ^ 32 - 1
      let warn := !a.warned && a.threshold != 0 && decide (pn + 1 ≥ a.threshold)
      let s := s.setAssoc p an { a with nextPn := pn + 1, warned := a.warned || warn, frames := a.frames + 1,
                                        octets := a.octets + len }
      let s := if warn then s.macEvent p 0 an else s
      let s := if pn ≥ top then (s.setF (MacsecStatus.txInUse p) 0).macEvent p 1 an else s
      (some (some ⟨an, a.ssci, a.salt, key, pn, xpn, g 0x1003 == 1, g 0x1004, g 0x1008 == 1, beVal (leBytes 8 (g 0x5009))⟩), s)

/-- A frame of the port starts. `body` is the frame as it leaves the queue. On a Pier link every unit but HELLO and KEY_CONFIRM is on
the controlled port, whatever frame it carries (R500, R515). -/
def State.macsecTxStart (s : State) (p : Nat) (body : List Byte) : Option (Option TxSa) × State :=
  s.saStart p body.length (decide (p ≤ 11) && macsecBypass body)

/-- Protect a frame under the association and key it started with (R420, R421, IEEE 802.1AE; DEDUCED, log entry 20: TCI bits ES and SCB are 0). -/
def State.macsecProtect (s : State) (p : Nat) (u : TxSa) (b : List Byte) : List Byte × State :=
  let ud := (b.take (b.length - 4)).drop 12
  let tci := u.an + (if u.enc then 12 else 0) + (if u.includeSci then 32 else 0)
  let tag := beBytes 2 0x88E5 ++ leBytes 1 tci ++ leBytes 1 (if ud.length < 48 then ud.length else 0) ++
    beBytes 4 (u.pn % 2 ^ 32) ++ (if u.includeSci then beBytes 8 u.sci else [])
  let key := u.key
  let iv := macsecIv u.xpn u.sci u.pn u.ssci u.salt
  let off := if u.enc then u.confOffset else ud.length
  let aad := b.take 12 ++ tag ++ ud.take off
  let ct := if u.enc then Config.aesMode 1 0 key iv aad (ud.drop off) else []
  let icv := sliceB (Config.aesTag 1 key iv aad ct) 0 16
  let f := b.take 12 ++ tag ++ ud.take off ++ ct ++ icv
  let s := ((s.incMac p (if u.enc then 1 else 0)).incMac p 14 ud.length)
  (f ++ ethFcs f, s)

/-- A receive association by SCI and AN. -/
def State.rxAssoc (s : State) (p : Nat) (sci : Option Nat) (an : Nat) : Option Nat :=
  (List.range 8).findSome? (fun c =>
    let i := 4 + 4 * c + an
    let a := s.assoc p i
    let same := match sci with | some x => a.sci == x | none => true
    if a.installed && a.enabled && same then some i else none)

/-- Recover the full PN of a frame from its low 32 bits (IEEE 802.1AEbw). -/
def recoverPn (xpn : Bool) (lowest low : Nat) : Nat :=
  if !xpn then low
  else
    let hi := lowest / 2 ^ 32
    if low < lowest % 2 ^ 32 && bitOf lowest 31 && !bitOf low 31 then (hi + 1) * 2 ^ 32 + low else hi * 2 ^ 32 + low

/-- MACSEC_RX_VERIFY (R424, IEEE 802.1AE Clause 10.6): the frame as it enters the controlled or uncontrolled port, or
`none` where it is dropped. -/
def State.macsecRx (s : State) (p : Nat) (b : List Byte) : Option (List Byte) × State :=
  if !s.macsecOn p then (some b, s)
  else if macsecBypass b then (some b, s.incMac p 13)
  else
    let g := fun (pid : Nat) => s.par (oChan p) pid
    let strict := g 0x1005 == 2
    if s.flag HbxStatus.locked then (none, s.incMac p 10)
    else if beAt b 12 2 != 0x88E5 then (if strict then none else some b, s.incMac p 11)
    else
      let tci := beAt b 14 1
      let sl := beAt b 15 1
      let low := beAt b 16 4
      let sc := bitOf tci 5
      let head := if sc then 28 else 20
      let enc := bitOf tci 3
      let c := bitOf tci 2
      let xpn := suiteXpn (g 0x1001)
      if bitOf tci 7 || (sc && (bitOf tci 6 || bitOf tci 4)) || sl ≥ 48 || (!xpn && low == 0) || b.length < head + 20 then
        (none, s.incMac p 12)
      else
        let sci := if sc then some (beAt b 20 8)
          else if bitOf tci 6 then some (beVal (sliceB b 6 6 ++ [0, if bitOf tci 4 then 0 else 1])) else none
        let sec := ((b.take (b.length - 20)).drop head)
        let plain := b.take 12 ++ sec
        let deliver := fun (f : List Byte) => some (f ++ ethFcs f)
        match s.rxAssoc p sci (bitsOf tci 1 0) with
        | none => (if strict || c then none else deliver plain, s.incMac p 10)
        | some i =>
          let a := s.assoc p i
          match s.assocKey p a usMacRx with
          | none => (if strict || c then none else deliver plain, s.incMac p 10)
          | some key =>
            let pn := recoverPn xpn a.lowestPn low
            let replay := g 0x1006 == 1
            if replay && pn < a.lowestPn then (none, s.incMac p 7)
            else if g 0x1005 == 0 then (if c then none else deliver plain, s.incMac p 5)
            else
              let iv := macsecIv xpn a.sci pn a.ssci a.salt
              let off := if enc then g 0x1004 else sec.length
              let aad := b.take head ++ sec.take off
              let ct := if enc then sec.drop off else []
              let icv := (b.take (b.length - 4)).drop (b.length - 20)
              if sliceB (Config.aesTag 1 key iv aad ct) 0 16 != icv then
                let s := s.macEvent p 3 i
                if strict || c then (none, s.incMac p 9) else (deliver plain, s.incMac p 8)
              else
                let f := b.take 12 ++ sec.take off ++ (if enc then Config.aesMode 2 0 key iv aad ct else [])
                let next := max a.nextPn (pn + 1)
                let late := pn < a.lowestPn
                let s := s.setAssoc p i { a with
                  nextPn := next, lowestPn := max a.lowestPn (next - g 0x1007), seen := true, frames := a.frames + 1,
                  octets := a.octets + sec.length }
                let s := if a.seen then s else s.macEvent p 2 i
                let s := s.incMac p 15 sec.length
                (deliver f, s.incMac p (if late then 6 else 4))

end Sys2Proof.Machine
end

