-- ==== Sys2Proof/Machine/PierLink.lean ====
section
/-! DEFINITION. Units on the Pier links: credit, numbering, replay and order of sending (R500, R501, R504 to R506). -/

namespace Sys2Proof.Machine

/-- Classes of a unit, in the model's own numbers (log entry 21): 0..7 DATA, then these. -/
def pcReq : Nat := 8
def pcCpl : Nat := 9
def pcEvt : Nat := 10
def pcCtrl : Nat := 11

/-- Unit types of R501. -/
def utHello : Nat := 1
def utKeyConfirm : Nat := 2
def utKeepalive : Nat := 3
def utCredit : Nat := 4
def utEth : Nat := 5
def utRecord : Nat := 6
def utReq : Nat := 7
def utCpl : Nat := 8
def utEvt : Nat := 9

def pierPortDefault (_ : Nat) : PierPort := {}
def State.pierPort (s : State) (p : Nat) : PierPort := tabGet pierPortDefault s.pier.ports p
def State.setPierPort (s : State) (p : Nat) (v : PierPort) : State :=
  { s with pier := { s.pier with ports := tabSet pierPortDefault s.pier.ports p v } }

def deckDefault (_ : Nat) : DeckInfo := {}
def State.deckInfo (s : State) (d : Nat) : DeckInfo := tabGet deckDefault s.pier.decks d
def State.setDeckInfo (s : State) (d : Nat) (v : DeckInfo) : State :=
  { s with pier := { s.pier with decks := tabSet deckDefault s.pier.decks d v } }

/-- Initial credit of a class in cells (R505). -/
def creditInit (c : Nat) : Nat := if c ≤ 7 then 160 else if c == pcCpl then 256 else 64

/-- Credit left on a link for a class. -/
def State.pierCredit (s : State) (p c : Nat) : Nat := creditInit c - tabGet ctrDefault (s.pierPort p).used c

/-- Cells of a unit with this body (log entry 21). -/
def unitCells (body : List Byte) : Nat := max 1 (ceilDiv body.length 64)

/-- DECKS of a unit header: source and destination (R500). -/
def deckPair (src dst : Nat) : Nat := src % 4 + dst % 4 * 4

/-- Octets of the Pier frame that carries a unit: addresses, EtherType, header, body, FCS, padded to 64. -/
def unitOctets (body : List Byte) : Nat := max 64 (26 + body.length)

/-- Is a unit of this type protected on the link (R515, R420)? HELLO and KEY_CONFIRM are not. -/
def State.unitSecure (s : State) (p typ : Nat) : Bool := s.par (oChan p) 0x1000 == 1 && decide (utKeyConfirm < typ)

/-- A unit goes onto the wire. -/
def State.unitWire (s : State) (p cls typ decks seq : Nat) (body : List Byte) : State :=
  let s := (s.inc (oChan p) cEth 17).addCtr (oChan p) cEth 16 (unitOctets body)
  { s with out := .pierUnit p typ cls decks seq body :: s.out }

/-- A protected unit of `len` bytes leaves (R426). -/
def State.unitProtected (s : State) (p len : Nat) (u : TxSa) : State := (s.incMac p (if u.enc then 1 else 0)).incMac p 14 len

/-- A unit goes onto the wire of a Pier link, protected as at its frame start (R423, R515): a DATA unit's is `prot`; a management unit
starts now, and one that no usable association in use protects is dropped and counted in TX_SA_DROPS, as while the Hatbox is LOCKED
(R446). -/
def State.unitOut (s : State) (p cls typ decks seq : Nat) (body : List Byte) (prot : Option (Option TxSa) := none) : State :=
  if !s.unitSecure p typ then s.unitWire p cls typ decks seq body
  else
    let (r, s) := match prot with
      | some u => (some u, s)
      | none => s.saStart p body.length false
    match r with
    | none => s
    | some none => s.unitWire p cls typ decks seq body
    | some (some u) => (s.unitProtected p body.length u).unitWire p cls typ decks seq body

/-- Send a unit now: credit is taken, a replayed class gets its LSEQ and is kept for replay (R504, R505). -/
def State.unitSend (s : State) (p cls typ decks : Nat) (body : List Byte) (prot : Option (Option TxSa) := none) : State :=
  let v := s.pierPort p
  let seq := if 8 ≤ cls && cls ≤ 10 then tabGet ctrDefault v.txSeq cls else 0
  let v := if cls == pcCtrl then v
    else { v with used := tabSet ctrDefault v.used cls (tabGet ctrDefault v.used cls + unitCells body) }
  let v := if 8 ≤ cls && cls ≤ 10 then
      { v with txSeq := tabSet ctrDefault v.txSeq cls ((seq + 1) % 65536),
               replay := v.replay ++ [(cls, seq, typ, decks, body)], resendAt := some (s.after (usC 20)) }
    else v
  (s.setPierPort p v).unitOut p cls typ decks seq body prot

/-- Units of a class that a replay buffer holds (R504: at most 64). -/
def PierPort.kept (v : PierPort) (cls : Nat) : Nat := (v.replay.filter (fun u => u.1 == cls)).length

/-- May the first waiting unit of a class leave? -/
def State.unitReady (s : State) (p : Nat) (u : Nat × Nat × Nat × List Byte) : Bool :=
  u.1 == pcCtrl || (s.flag (PortStatus.linkUp p) && !(s.pierPort p).rekeying && decide (unitCells u.2.2.2 ≤ s.pierCredit p u.1) &&
    decide ((s.pierPort p).kept u.1 < 64))

/-- The waiting unit that goes next: CTRL, CPL, EVT, REQ, each class in its order (R506). -/
def State.unitNext (s : State) (p : Nat) : Option (Nat × Nat × Nat × List Byte) :=
  let w := (s.pierPort p).waiting
  [pcCtrl, pcCpl, pcEvt, pcReq].findSome? (fun c =>
    match w.find? (fun u => u.1 == c) with
    | some u => if s.unitReady p u then some u else none
    | none => none)

/-- Send the waiting units that may go, at a frame boundary. -/
def State.unitFlush (s : State) (p : Nat) : Nat → State
  | 0 => s
  | n + 1 =>
    if (tabFind s.buf.egress p).isSome then s
    else
      match s.unitNext p with
      | none => s
      | some u =>
        let s := s.setPierPort p { s.pierPort p with waiting := (s.pierPort p).waiting.erase u }
        (s.unitSend p u.1 u.2.1 u.2.2.1 u.2.2.2).unitFlush p n

/-- Send what waits on a link. -/
def State.pierFlush (s : State) (p : Nat) : State := s.unitFlush p (s.pierPort p).waiting.length

/-- Hand a unit to a link: it goes at the next frame boundary, with credit. -/
def State.pierSend (s : State) (p cls typ decks : Nat) (body : List Byte) : State :=
  let v := s.pierPort p
  (s.setPierPort p { v with waiting := v.waiting ++ [(cls, typ, decks, body)] }).pierFlush p

/-- Highest LSEQ received in each replayed class, as sent. -/
def State.ackBytes (s : State) (p : Nat) : List Byte :=
  [pcReq, pcCpl, pcEvt].flatMap (fun c => leBytes 2 (tabGet ctrDefault (s.pierPort (20 + p)).rxSeq c + 65535))

/-- Credit returns to the peer (R505). -/
def State.creditBack (s : State) (p cls cells : Nat) : State :=
  s.pierSend (20 + p) pcCtrl utCredit (deckPair s.ownDeck (s.pierPort (20 + p)).rank)
    (leBytes 1 cls ++ leBytes 2 cells ++ s.ackBytes p)

end Sys2Proof.Machine
end

