-- ==== Sys2Proof/Machine/HostMem.lean ====
section
/-! DEFINITION. The device's accesses to host memory (R474, R475, R477, R478) and the two logs that they and the host's writes fill
(R475, R476, R479, R480). -/

namespace Sys2Proof.Machine

/-- Trestle counters: STORE class, DECK object (R499). -/
def State.incTr (s : State) (i : Nat) : State := s.inc oDeck cStore i

/-! ### The two logs (R475, R476, R479, R480) -/

/-- Causes of R476. -/
def iwMisaligned : Nat := 1
def iwReadOnly : Nat := 2
def iwTargetError : Nat := 3
def iwTargetTimeout : Nat := 4

/-- Enter a 16-byte entry in a log ring at `base` with `n` entries, or count the drop. -/
def State.logRing (s : State) (wr rd base n src drop : Nat) (e : List Byte) : State :=
  let w := (s.reg wr).toNat
  if (w + 2 * n - (s.reg rd).toNat % (2 * n)) % (2 * n) ≥ n then s.incTr drop
  else
    let s := { s with bar0 := memWrites s.bar0 (base + w % n * 16) e }
    (s.setReg wr (BitVec.ofNat 32 ((w + 1) % (2 * n)))).level src true

/-- INBOUND_WRITE_ERROR (R476, R479). -/
def State.iwl (s : State) (cause bar off req len : Nat) : State :=
  s.logRing IwlWr.off IwlRd.off 0x800 32 0x800 4
    (leBytes 6 s.strand ++ leBytes 1 cause ++ leBytes 1 bar ++ leBytes 4 off ++ leBytes 2 req ++ leBytes 2 len)

/-- A discard of prefetched bytes (R475): REASON, and the first address not delivered. -/
def State.pdl (s : State) (reason addr : Nat) : State :=
  (s.incTr 3).logRing PdlWr.off PdlRd.off 0xA00 16 0x801 5
    (leBytes 6 s.strand ++ [0] ++ leBytes 1 reason ++ leBytes 8 addr)

/-- Drop what a ring holds prefetched, for a reason. -/
def State.prefetchDrop (s : State) (t reason : Nat) : State :=
  match tabFind s.store.prefetch t with
  | none => s
  | some (a, n) =>
    let s := { s with store := { s.store with prefetch := tabErase s.store.prefetch t } }
    if n = 0 then s else s.pdl reason a

/-- A write to host memory discards prefetched data that it touches (R474). -/
def State.prefetchWritten (s : State) (addr len : Nat) : State :=
  s.store.prefetch.foldl (fun (s : State) kv =>
    if decide (addr < kv.2.1 + kv.2.2) && decide (kv.2.1 < addr + len) then s.prefetchDrop kv.1 2 else s) s

/-! ### Transfers (R474, R63) -/

/-- WINDOW[i]: does it grant reads (bit 1) or writes (bit 2) of a whole range (R474)? -/
def windowGrants (w : Nat) (addr len bit : Nat) : Bool :=
  bitOf w 128 && bitOf w (128 + bit) && decide (bitsOf w 63 0 ≤ addr) && decide (addr + len ≤ bitsOf w 127 64 + 1)

/-- Does some enabled window grant the access of one TLP (R474)? -/
def State.windowOk (s : State) (addr len bit : Nat) : Bool :=
  (List.range 16).any (fun i => windowGrants (s.par oDeck (0x9000 + i)) addr len bit)

/-- The ranges of a transfer's TLPs, as address and length: one for each 4 KiB page that it touches (log entry 114). -/
def tlpRanges (addr len : Nat) : List (Nat × Nat) :=
  (List.range ((addr % 4096 + len + 4095) / 4096)).map (fun k =>
    let lo := if k = 0 then addr else (addr / 4096 + k) * 4096
    (lo, min ((addr / 4096 + k + 1) * 4096) (addr + len) - lo))

/-- How many leading bytes of a transfer the windows grant, TLP by TLP (R474). -/
def State.grantedLen (s : State) (addr len bit : Nat) : Nat :=
  (((tlpRanges addr len).takeWhile (fun r => s.windowOk r.1 r.2 bit)).map (·.2)).sum

/-- Does the host link carry the device's requests? -/
def State.hostReach (s : State) : Bool := s.pcie.linkUp && s.pcie.busMaster

/-- Read host memory for a transfer: fails where no window grants one of its TLPs or the host link is down (R474, R63). -/
def State.hostRead (s : State) (addr len : Nat) : Option (List Byte) × State :=
  if s.grantedLen addr len 1 ≠ len then (none, s.incTr 2)
  else if !s.hostReach then (none, s)
  else (some (memReads s.host addr len), s)

/-- Bytes that the device puts into host memory: prefetched data that they touch is discarded (R474). -/
def State.hostStore (s : State) (addr : Nat) (d : List Byte) : State :=
  if d.isEmpty then s
  else
    let s := s.prefetchWritten addr d.length
    { s with host := memWrites s.host addr d, out := .pcieWrite addr d :: s.out }

/-- Write host memory for a transfer (R474, R63): where a TLP is refused, those before it have been written (log entry 114). -/
def State.hostWrite (s : State) (addr : Nat) (d : List Byte) : Bool × State :=
  let n := s.grantedLen addr d.length 2
  if !s.hostReach then (false, if n ≠ d.length then s.incTr 2 else s)
  else if n ≠ d.length then (false, (s.hostStore addr (d.take n)).incTr 2)
  else (true, s.hostStore addr d)

/-- The flush read that confirms a command's last output (R477); nothing is flushed where nothing was written. -/
def State.flushOne (s : State) (d : List Byte) : State := if d.isEmpty then s else s.incTr 0

/-- A flush fails (R478): counted and raised, DETAIL the low half of the flush address. -/
def State.flushFailed (s : State) (addr : Nat) : State := (s.incTr 1).occur 0x802 (addr % 2 ^ 32)

end Sys2Proof.Machine
end

