-- ==== Sys2Proof/Machine/Gci.lean ====
section
/-! DEFINITION. Mailboxes, requests, the order of checks, tickets and drafts (R54 to R103): what every command of the
Gateway Command Interface shares. The commands' own meanings stand in the families' files. -/

namespace Sys2Proof.Machine

/-! ### Status codes (R101) -/

def stDone : Nat := 0x0000
def stPending : Nat := 0x0001
def stBusyRetry : Nat := 0x0002
def stAborted : Nat := 0x0003
def stNothingToAbort : Nat := 0x0004
def stBadHeader : Nat := 0x0100
def stUnknownCommand : Nat := 0x0101
def stNoRight : Nat := 0x0102
def stQuotaExceeded : Nat := 0x0103
def stBadLength : Nat := 0x0104
def stBulkFailed : Nat := 0x0105
def stWrongState : Nat := 0x0106
def stBadObject : Nat := 0x0200
def stAbsentObject : Nat := 0x0201
def stBadParam : Nat := 0x0202
def stBadValue : Nat := 0x0203
def stNotFound : Nat := 0x0204
def stTableFull : Nat := 0x0205
def stAccessFailed : Nat := 0x0206
def stTxnRequired : Nat := 0x0300
def stTxnUnknown : Nat := 0x0301
def stTxnLimit : Nat := 0x0302
def stValidationFailed : Nat := 0x0303
def stEpochConflict : Nat := 0x0304
def stTxnNotAllowed : Nat := 0x0305
def stCapacityExceeded : Nat := 0x0400
def stVerifyHeader : Nat := 0x0500
def stVerifySignature : Nat := 0x0501
def stVerifyHash : Nat := 0x0502
def stVerifyRollback : Nat := 0x0503
def stVerifyVariant : Nat := 0x0504
def stVerifyLifecycle : Nat := 0x0505
def stVerifyRequires : Nat := 0x0506
def stSwitchFailed : Nat := 0x0507
def stFlashError : Nat := 0x0508
def stPolicyDenied : Nat := 0x0600
def stLifecycleDenied : Nat := 0x0601
def stCounterExhausted : Nat := 0x0602
def stDeckUnreachable : Nat := 0x0700
def stSplitFrozen : Nat := 0x0701

/-- Not a status: the body's mailbox stays SERVING and is answered later (R52). -/
def stHold : Nat := 0x10000

/-- Mailbox states of R54. -/
def mbIdle : Nat := 0
def mbPosted : Nat := 1
def mbServing : Nat := 2
def mbResponse : Nat := 3
def mbDisabled : Nat := 4

/-! ### Commands (R89 to R91) -/

/-- The kinds of R90. -/
inductive CmdKind where
  | q | c | o
deriving DecidableEq, Repr

/-- A class-specific verb of R91: its code, kind, whether it may go PENDING, the bytes of its payload's fixed part,
whether that is the whole payload, and whether the payload starts with an OREF (R82). -/
structure CmdRow where
  code : Nat
  kind : CmdKind
  p : Bool
  len : Nat
  exact : Bool
  oref : Bool
deriving DecidableEq, Repr

/-- The verbs of R91, with the payload lengths that their own rules give. Bulk commands carry the 16-byte descriptor. -/
def cmdRows1 : List CmdRow :=
  [⟨0x0110, .q, false, 0, true, false⟩, ⟨0x0111, .o, true, 8, true, false⟩, ⟨0x0112, .c, false, 20, true, true⟩,
   ⟨0x0113, .q, false, 4, true, false⟩, ⟨0x0114, .o, false, 4, true, false⟩, ⟨0x0115, .o, true, 16, true, false⟩,
   ⟨0x0116, .o, true, 0, true, false⟩, ⟨0x0117, .o, false, 4, true, false⟩, ⟨0x0118, .o, true, 0, true, false⟩,
   ⟨0x0119, .o, true, 16, true, false⟩, ⟨0x011A, .o, false, 8, false, false⟩, ⟨0x011B, .o, true, 12, true, false⟩,
   ⟨0x011C, .q, false, 8, true, false⟩, ⟨0x0210, .o, false, 12, true, true⟩, ⟨0x0211, .o, false, 8, true, true⟩,
   ⟨0x0212, .q, false, 8, true, true⟩, ⟨0x0213, .q, true, 12, true, true⟩, ⟨0x0214, .q, false, 16, true, true⟩,
   ⟨0x0215, .c, false, 12, true, true⟩, ⟨0x0310, .o, false, 8, true, true⟩, ⟨0x0311, .o, true, 12, true, true⟩,
   ⟨0x0312, .q, false, 8, true, true⟩, ⟨0x0313, .o, false, 12, true, true⟩, ⟨0x0410, .c, false, 156, true, true⟩,
   ⟨0x0411, .o, false, 12, true, true⟩, ⟨0x0412, .q, true, 8, true, false⟩, ⟨0x0413, .o, true, 8, true, false⟩]

def cmdRows2 : List CmdRow :=
  [⟨0x0510, .o, false, 8, true, true⟩, ⟨0x0511, .o, false, 12, true, true⟩, ⟨0x0512, .o, false, 24, false, true⟩,
   ⟨0x0513, .o, false, 24, false, true⟩, ⟨0x0514, .c, false, 28, true, true⟩, ⟨0x0515, .q, false, 8, true, true⟩,
   ⟨0x0610, .c, false, 12, false, true⟩, ⟨0x0611, .o, false, 12, true, true⟩, ⟨0x0612, .o, false, 8, true, true⟩,
   ⟨0x0613, .o, false, 8, true, true⟩, ⟨0x0614, .c, false, 72, true, true⟩, ⟨0x0710, .c, false, 24, true, true⟩,
   ⟨0x0711, .c, false, 16, true, true⟩, ⟨0x0712, .o, true, 16, true, true⟩, ⟨0x0713, .q, false, 16, true, true⟩,
   ⟨0x0714, .c, false, 12, true, true⟩, ⟨0x0715, .c, false, 16, true, true⟩, ⟨0x0810, .o, false, 0, true, false⟩,
   ⟨0x0811, .o, true, 8, true, false⟩, ⟨0x0812, .o, false, 4, true, false⟩, ⟨0x0813, .q, false, 4, true, false⟩,
   ⟨0x0814, .q, false, 8, true, true⟩, ⟨0x0815, .c, false, 12, false, true⟩, ⟨0x0816, .c, false, 20, true, true⟩,
   ⟨0x0817, .c, false, 40, true, true⟩]

/-- A payload whose length a count or a case of its own decides gives its fixed part here; the command checks the rest
(log entry 14). -/
def cmdRows3 : List CmdRow :=
  [⟨0x0910, .c, false, 12, false, true⟩, ⟨0x0911, .c, false, 12, false, true⟩, ⟨0x0912, .c, false, 12, false, true⟩,
   ⟨0x0913, .q, false, 10, true, true⟩, ⟨0x0914, .o, false, 16, true, true⟩, ⟨0x0915, .q, false, 0, true, false⟩,
   ⟨0x0A10, .c, false, 40, false, true⟩, ⟨0x0A11, .q, false, 8, true, true⟩, ⟨0x0A12, .c, false, 20, true, true⟩,
   ⟨0x0A13, .c, false, 12, false, true⟩, ⟨0x0A14, .c, false, 32, false, true⟩, ⟨0x0A15, .c, false, 20, true, true⟩,
   ⟨0x0A16, .q, false, 12, true, true⟩, ⟨0x0B10, .c, false, 12, false, true⟩, ⟨0x0B11, .q, false, 0, true, false⟩,
   ⟨0x0B12, .o, false, 12, true, true⟩, ⟨0x0B13, .c, false, 40, true, true⟩, ⟨0x0B14, .q, false, 12, true, true⟩,
   ⟨0x0C10, .o, false, 18, false, true⟩, ⟨0x0C11, .o, false, 12, true, true⟩, ⟨0x0C12, .o, false, 56, true, true⟩,
   ⟨0x0C13, .o, false, 8, true, true⟩, ⟨0x0C14, .o, true, 80, true, false⟩, ⟨0x0C15, .o, false, 4, true, false⟩,
   ⟨0x0C16, .q, false, 0, true, false⟩, ⟨0x0C17, .o, true, 8, false, false⟩, ⟨0x0C18, .o, true, 0, true, false⟩,
   ⟨0x0C19, .o, true, 4, true, false⟩, ⟨0x0C1A, .o, true, 0, false, false⟩, ⟨0x0C1B, .o, false, 16, true, true⟩]

def cmdRows4 : List CmdRow :=
  [⟨0x0D10, .o, false, 12, true, false⟩, ⟨0x0D11, .o, false, 12, true, true⟩, ⟨0x0D12, .o, false, 12, true, true⟩,
   ⟨0x0D13, .q, false, 8, true, true⟩, ⟨0x0D14, .o, false, 12, true, true⟩, ⟨0x0E10, .o, true, 0, true, false⟩,
   ⟨0x0E11, .o, true, 4, true, false⟩, ⟨0x0E12, .o, false, 4, true, false⟩, ⟨0x0E13, .o, true, 0, true, false⟩,
   ⟨0x0E14, .o, true, 16, true, false⟩, ⟨0x0E15, .o, true, 16, true, false⟩, ⟨0x0E16, .o, true, 8, false, false⟩,
   ⟨0x0E17, .q, false, 0, true, false⟩, ⟨0x0F10, .q, false, 0, true, false⟩, ⟨0x0F11, .c, false, 12, true, true⟩,
   ⟨0x0F12, .o, true, 4, true, false⟩, ⟨0x0F13, .q, false, 0, true, false⟩, ⟨0x1010, .q, true, 8, true, false⟩,
   ⟨0x1011, .o, true, 8, false, false⟩, ⟨0x1012, .q, true, 16, true, false⟩, ⟨0x1013, .o, true, 16, true, true⟩,
   ⟨0x1014, .c, false, 12, true, true⟩, ⟨0x1015, .q, false, 0, false, false⟩, ⟨0x1110, .q, false, 0, false, false⟩,
   ⟨0x1111, .o, false, 4, true, false⟩, ⟨0x1112, .c, false, 12, true, true⟩, ⟨0x1113, .o, false, 8, true, false⟩,
   ⟨0x1114, .q, true, 4, true, false⟩, ⟨0x1115, .c, false, 12, true, false⟩]

def cmdRows : List CmdRow := cmdRows1 ++ cmdRows2 ++ cmdRows3 ++ cmdRows4

/-- The common verbs of R89, accepted by every class 0x01..0x11. -/
def commonRow (code : Nat) : Option CmdRow :=
  let cls := code / 256
  let v := code % 256
  if cls < 1 || cls > 0x11 then none
  else if v = 1 then some ⟨code, .q, false, 12, false, true⟩
  else if v = 2 then some ⟨code, .c, false, 12, false, true⟩
  else if v = 3 then some ⟨code, .q, false, 8, true, true⟩
  else if v = 4 then some ⟨code, .q, false, 8, true, true⟩
  else if v = 5 then some ⟨code, .o, false, 8, true, true⟩
  else none

/-- The command of a code; `none` is UNKNOWN_COMMAND (R91). -/
def cmdRow (code : Nat) : Option CmdRow :=
  match commonRow code with
  | some r => some r
  | none => cmdRows.find? (fun r => r.code == code)

/-- The objects that a command's class accepts (the chapters' own lists). The FDB class takes the DECK object for its own commands
alone, the ROUTE class for those and for the Deck statistics, and no SET names a Fallback entry (R210). -/
def classAccepts (cmd : Nat) (o : Oref) : Bool :=
  let ch := fun (lo hi : Nat) => o.typ == 0x04 && decide (lo ≤ o.chan ∧ o.chan ≤ hi)
  let verb := cmd % 256
  match cmd / 256 with
  | 0x01 => o.typ == 0x01 || o.typ == 0x02
  | 0x02 => o.typ == 0x03 || o.typ == 0x01
  | 0x03 => o.typ == 0x04
  | 0x04 => ch 0 21 || o.typ == 0x17
  | 0x05 => ch 24 87
  | 0x06 => ch 88 103 || o.typ == 0x16
  | 0x07 => o.typ == 0x06 || o.typ == 0x07 || o.typ == 0x08 || o.typ == 0x09 || ch 0 22 ||
            (o.typ == 0x01 && decide (0x10 ≤ verb))
  | 0x08 => o.typ == 0x0D || (o.typ == 0x0E && verb != 2) || o.typ == 0x0B || o.typ == 0x0C || ch 88 103 ||
            (o.typ == 0x01 && decide (4 ≤ verb))
  | 0x09 => o.typ == 0x10 || o.typ == 0x11 || o.typ == 0x12 || o.typ == 0x13 || o.typ == 0x01 || o.typ == 0x08 ||
            ch 24 103 || (o.typ == 0x05 && decide (800 ≤ o.idx))
  | 0x0A => o.typ == 0x05 || o.typ == 0x01 || ch 0 22 || o.typ == 0x14 || o.typ == 0x15 || o.typ == 0x0A || o.typ == 0x0F
  | 0x0B => o.typ == 0x18 || o.typ == 0x19 || o.typ == 0x1A || o.typ == 0x01 || ch 0 11 || ch 20 21
  | 0x0C => o.typ == 0x1B || o.typ == 0x1C || o.typ == 0x1D || o.typ == 0x01 || ch 0 11 || ch 20 21
  | 0x0D => o.typ == 0x1E || o.typ == 0x1F
  | 0x0E => o.typ == 0x01
  | 0x0F => o.typ == 0x01 || ch 20 21
  | 0x10 => o.typ == 0x01 || o.typ == 0x04 || o.typ == 0x0D
  | 0x11 => o.typ == 0x20 || o.typ == 0x01
  | _ => false

/-- Resources that the ZW8632 lacks (R2): CAN[32] and up, LIN[8] and up, the storage link, their queues and sources. -/
def orefAbsent (o : Oref) : Bool :=
  let chanAbsent := decide (56 ≤ o.chan ∧ o.chan ≤ 87) || decide (96 ≤ o.chan ∧ o.chan ≤ 103) || o.chan == 23
  match o.typ with
  | 0x04 | 0x0B | 0x16 => chanAbsent
  | 0x05 => decide (480 ≤ o.idx ∧ o.idx ≤ 735) || decide (752 ≤ o.idx ∧ o.idx ≤ 767) || decide (184 ≤ o.idx ∧ o.idx ≤ 191)
  | 0x1F => srcAbsent o.idx
  | _ => false

/-! ### Requests and responses (R59 to R62) -/

/-- A bulk descriptor, R62; `seg` names the client's segment buffer in place of host memory (R103). -/
structure Bulk where
  addr : Nat
  len : Nat
  dir : Nat
  rsv : Nat
  seg : Bool
deriving DecidableEq, Repr

/-- What a command's body is given: who asked for what. -/
structure Ctx where
  cmd : Nat
  mb : Nat
  client : Nat
  deck : Nat
  flags : Nat
  txn : Nat
  payload : List Byte
  bulk : Option Bulk
deriving DecidableEq, Repr

/-- A body's answer, R60. -/
structure Resp where
  status : Nat
  payload : List Byte := []
  ticket : Nat := 0
  retry : Nat := 0
deriving DecidableEq, Repr

/-- A command's own checks and effect: step 11 of R92 and what follows. -/
abbrev Body := Ctx → State → Resp × State

/-- An answer that changes nothing. -/
def State.answer (s : State) (st : Nat) (payload : List Byte := []) : Resp × State := (⟨st, payload, 0, 0⟩, s)

/-- BUSY_RETRY with its RETRY_AFTER (R102). -/
def State.busy (s : State) (after : Nat) : Resp × State := (⟨stBusyRetry, [], 0, after⟩, s)

/-- The bulk descriptor at a payload offset. -/
def bulkAt (p : List Byte) (o : Nat) : Bulk := ⟨leAt p o 8, leAt p (o + 8) 4, leAt p (o + 12) 1, leAt p (o + 13) 3, false⟩

/-- The bulk descriptor of a request: its payload with BULK set (R62), or what follows the fields of STORE.STAGE_IMAGE with
SOURCE 0 (R494). -/
def bulkOf (cmd flags : Nat) (p : List Byte) : Option Bulk :=
  if bitOf flags 0 then some (bulkAt p 0)
  else if cmd == 0x0E16 && p.length == 24 && leAt p 0 1 == 0 then some (bulkAt p 8) else none

/-- Is a bulk descriptor in range and of one of the directions the command uses (R62)? -/
def Bulk.ok (b : Bulk) (dirs : List Nat) : Bool :=
  dirs.contains b.dir &&
    (b.seg || (b.addr % 8 == 0 && decide (8 ≤ b.len ∧ b.len ≤ 16777216) && b.len % 8 == 0 && b.rsv == 0))

/-- The bytes of a command's bulk or segment buffer. -/
def State.bulkRead (s : State) (c : Ctx) (b : Bulk) : Option (List Byte) × State :=
  if b.seg then (some (memReads s.gci.seg (c.client * 65536) b.len), s) else s.hostRead b.addr b.len

/-- The commands that take a bulk descriptor as their payload (R62: the catalogue states it): DECK.FW_LOAD,
DECK.CONFIG_PROGRAM, QOS.GATE_LIST_SET, STORE.READ, STORE.WRITE and DIAG.TABLE_DUMP. -/
def takesBulk (cmd : Nat) : Bool := [0x0115, 0x0119, 0x0A10, 0x0E14, 0x0E15, 0x1012].contains cmd

/-- Those that have no form without one. -/
def needsBulk (cmd : Nat) : Bool := takesBulk cmd && cmd != 0x0A10

/-- Write a command's result into its bulk or segment buffer; one flush read confirms it (R477). -/
def State.bulkWrite (s : State) (c : Ctx) (b : Bulk) (d : List Byte) : Bool × State :=
  if b.seg then (true, { s with gci := { s.gci with seg := memWrites s.gci.seg (c.client * 65536) d } })
  else
    let (ok, s) := s.hostWrite b.addr d
    (ok, if ok then s.flushOne d else s)

/-! ### Mailboxes (R54 to R58) -/

/-- BAR0 offset of a mailbox block. -/
def mbBase (n : Nat) : Nat := 0x10000 + n * 0x1000

/-- A doorbell write (R55, R56): accepted in IDLE with RING 0x5A5A and a new SEQ, otherwise refused with PROTO_ERR. -/
def State.mbDoorbell (s : State) (n : Nat) (w : Nat) : State :=
  if s.getF (MbStatus.state n) == mbIdle && bitsOf w 31 16 == 0x5A5A
      && bitsOf w 15 0 != s.getF (MbSeq.lastPosted n) then
    let s := (s.setF (MbStatus.state n) mbPosted).setF (MbSeq.lastPosted n) (bitsOf w 15 0)
    let s := s.setF (MbStatus.cancelled n) 0
    { s with gci := { s.gci with
        arrival := tabSet ctrDefault s.gci.arrival n (s.gci.arrivals + 1), arrivals := s.gci.arrivals + 1 } }
  else s.setF (MbStatus.protoErr n) 1

/-- ACK (R55): RESPONSE returns to IDLE. -/
def State.mbAck (s : State) (n : Nat) : State :=
  if s.getF (MbStatus.state n) == mbResponse then (s.setF (MbStatus.state n) mbIdle).syncMbLevel n else s

/-- CANCEL (R55, R56): POSTED returns to IDLE with CANCELLED; in any other state it sets PROTO_ERR. -/
def State.mbCancel (s : State) (n : Nat) : State :=
  if s.getF (MbStatus.state n) == mbPosted then (s.setF (MbStatus.state n) mbIdle).setF (MbStatus.cancelled n) 1
  else s.setF (MbStatus.protoErr n) 1

/-- A request's 16-byte header (R59). -/
def reqHeader (cmd : Nat) (q : Req) : List Byte :=
  leBytes 2 cmd ++ leBytes 2 q.seq.toNat ++ [q.flags, q.deck] ++ leBytes 2 q.len.toNat ++ leBytes 4 q.txn.toNat ++
  leBytes 4 q.rsv.toNat

/-- The sender writes its request into the request area, which takes writes in IDLE alone (R54). -/
def State.mbWriteReq (s : State) (cmd : Nat) (q : Req) : State :=
  if s.getF (MbStatus.state q.mb) == mbIdle then
    { s with bar0 := memWrites s.bar0 (mbBase q.mb + 0x400) (reqHeader cmd q ++ q.payload.take 1008) }
  else s

/-- Firmware takes the request: SERVING (R55). -/
def State.mbTake (s : State) (n : Nat) : State := s.setF (MbStatus.state n) mbServing

/-- The request of a mailbox that is unassigned or released is discarded (R55): nothing that is still done for it answers it. -/
def State.mbDiscard (s : State) (n : Nat) : State :=
  { s with
    fw := { s.fw with switching := s.fw.switching.map (fun w => if w.1 == n then (16, w.2) else w) }
    pier := { s.pier with
      forwarded := s.pier.forwarded.map (fun (f : FwdReq) => if f.mb == n then { f with mb := 16 } else f),
      slots := s.pier.slots.filter (fun x => x.mb != some n) } }

/-- Tickets of a client not yet collected (R77), on this Deck or on another (R69). -/
def State.clientTickets (s : State) (c : Nat) : Nat :=
  (s.gci.tickets.filter (fun t => t.client == c)).length + (s.pier.farTickets.filter (fun t => t.client == c)).length

/-- Is mailbox `n` the client's? -/
def State.mbOf (s : State) (n c : Nat) : Bool := s.flag (MbOwner.assigned n) && s.getF (MbOwner.client n) == c

/-- MB_STATUS.TICKETS of a client's mailboxes follows the client's tickets (R54). -/
def State.syncTickets (s : State) (c : Nat) : State :=
  (List.range 16).foldl (fun s n => if s.mbOf n c then s.setF (MbStatus.tickets n) (min (s.clientTickets c) 4) else s) s

/-- The bulk descriptor of a forwarded request (R62, R494): its payload stands behind the 16-byte header. -/
def ReqSlot.bulk (x : ReqSlot) : Option Bulk := bulkOf x.cmd (leAt x.req 4 1) (x.req.drop 16)

/-- The first of the requests that may move into a mailbox: one whose bulk data is there, and behind which no earlier request of its
client still waits (R81: a client's forwarded requests keep their order). `held` names the clients that wait. -/
def slotNext : List ReqSlot → List (Nat × Nat) → Option ReqSlot
  | [], _ => none
  | x :: xs, held =>
    if x.mb.isNone && !x.waits && !held.contains (x.origin, x.client) then some x
    else slotNext xs (if x.mb.isNone then (x.origin, x.client) :: held else held)

/-- Cascade requests that wait move into the idle mailboxes of client 7 (R513). -/
def State.slotFeed (s : State) : State :=
  [12, 13, 14, 15].foldl (fun (s : State) n =>
    if s.mbOf n 7 && s.getF (MbStatus.state n) == mbIdle then
      match slotNext s.pier.slots [] with
      | none => s
      | some x =>
        let seq := (s.getF (MbSeq.lastPosted n) + 1) % 65536
        let put := s.pier.slots.map (fun (y : ReqSlot) => if y == x then { y with mb := some n } else y)
        let s := { s with bar0 := memWrites s.bar0 (mbBase n + 0x400) (putB x.req 2 (leBytes 2 seq)),
                          pier := { s.pier with slots := put } }
        s.mbDoorbell n (0x5A5A0000 + seq)
    else s) s

/-- Send bytes to another Deck as bulk data of a request (R69), in units of at most 8,192 bytes (log entry 21). -/
def State.bulkUnits (s : State) (deck num : Nat) (d : List Byte) : State :=
  (List.range (ceilDiv d.length 8192)).foldl (fun (s : State) i =>
    s.pierSend (s.deckInfo deck).port pcCpl utCpl (deckPair s.ownDeck deck)
      (leBytes 2 num ++ [1, 0] ++ leBytes 4 (i * 8192) ++ sliceB d (i * 8192) (min 8192 (d.length - i * 8192)))) s

/-- The bulk data of the cascade client's request stands in its segment buffer while the request is served (R69). -/
def State.slotSeg (s : State) (n : Nat) : State :=
  if s.getF (MbOwner.transport n) != 2 then s
  else
    match s.pier.slots.find? (fun x => x.mb == some n) with
    | none => s
    | some x => { s with gci := { s.gci with seg := memWrites s.gci.seg (7 * 65536) x.data } }

/-- A response in a mailbox of client 7 goes to its origin as a CPL unit, and is remembered (R513). -/
def State.cplSend (s : State) (n : Nat) (resp : List Byte) : State :=
  match s.pier.slots.find? (fun x => x.mb == some n) with
  | none => s
  | some x =>
    let out := x.bulk.filter (fun b => decide (1 ≤ b.dir) && leAt resp 4 2 == stDone)
    let s := match out with
      | some b => s.bulkUnits x.origin x.num (memReads s.gci.seg (7 * 65536) b.len)
      | none => s
    let body := leBytes 2 x.num ++ [0, 0] ++ resp
    let mine := (s.pier.answered.filter (fun e => e.1 == x.origin)).take 255
    let rest := s.pier.answered.filter (fun e => e.1 != x.origin)
    let s := { s with pier := { s.pier with slots := s.pier.slots.erase x, answered := (x.origin, x.num, body) :: mine ++ rest } }
    let s := s.setF (MbStatus.state n) mbIdle
    (s.pierSend (s.deckInfo x.origin).port pcCpl utCpl (deckPair s.ownDeck x.origin) body).slotFeed

/-- Firmware writes the response (R60) and the mailbox enters RESPONSE (R55). -/
def State.mbRespond (s : State) (n cmd seq : Nat) (r : Resp) : State :=
  let c := s.getF (MbOwner.client n)
  let pay := r.payload.take 1008
  let hdr := leBytes 2 cmd ++ leBytes 2 seq ++ leBytes 2 r.status ++ leBytes 2 pay.length ++ leBytes 4 r.ticket ++
    leBytes 2 (if r.status = stBusyRetry then r.retry else 0) ++ leBytes 1 (4 - s.clientTickets c) ++ [0]
  let s := { s with bar0 := memWrites s.bar0 (mbBase n + 0x800) (hdr ++ pay) }
  let s := ((s.setF (MbStatus.state n) mbResponse).setF (MbSeq.lastAnswered n) seq).syncMbLevel n
  if c == 7 && s.getF (MbOwner.transport n) == 2 then s.cplSend n (hdr ++ pay) else s

/-! ### Clients (R70 to R72) -/

def clientDefault (c : Nat) : Client :=
  if c = 0 then ⟨0, 4, 0x3FFFE, 0x3FFFE⟩ else ⟨3, 0, 0, 0⟩

def State.client (s : State) (c : Nat) : Client := tabGet clientDefault s.gci.clients c

/-- Is the class admitted by the mask the command needs (R71, R90)? -/
def Client.right (cl : Client) (k : CmdKind) (cls : Nat) : Bool :=
  bitOf cl.control cls || (k == .q && bitOf cl.query cls)

/-! ### Tickets (R77 to R79) -/

/-- Open a ticket for a command that goes PENDING; its number runs on from the client's last (R77; DESIGN CHOICE, log
entry 15: they count up from a base that the spec leaves open). -/
def State.openTicket (s : State) (c : Ctx) (locks : List Nat) : Nat × State :=
  let k := tabGet ctrDefault s.gci.ticketCount c.client
  let num := (Config.ticketBase c.client + k) % (2 ^ 32 - 1) + 1
  let seg := c.bulk.filter (fun b => b.seg)
  let far := if c.client == 7 then (s.pier.slots.find? (fun x => x.mb == some c.mb)).map (fun x => (x.origin, x.num)) else none
  let t : Ticket := { num := num, client := c.client, cmd := c.cmd, payload := c.payload, onDone := bitOf c.flags 1,
                      locks := locks, result := none, far := far, seg := seg.isSome,
                      input := match seg with | some b => memReads s.gci.seg (c.client * 65536) b.len | none => [] }
  let s := { s with gci := { s.gci with
    tickets := s.gci.tickets ++ [t], ticketCount := tabSet ctrDefault s.gci.ticketCount c.client (k + 1) } }
  (num, s.syncTickets c.client)

/-- The command goes PENDING under a new ticket. -/
def State.pend (s : State) (c : Ctx) (locks : List Nat) : Resp × State :=
  let (num, s) := s.openTicket c locks
  (⟨stPending, [], num, 0⟩, s)

/-- A client's ticket by number. -/
def State.ticket (s : State) (client num : Nat) : Option Ticket :=
  s.gci.tickets.find? (fun t => t.client == client && t.num == num)

/-- The bulk output of a forwarded command that went PENDING goes to its origin before the ticket completes (R69, R63). -/
def State.farOutput (s : State) (t : Ticket) (status : Nat) : State :=
  match t.far with
  | none => s
  | some (origin, num) =>
    if t.seg && takesBulk t.cmd && status == stDone && decide (1 ≤ leAt t.payload 12 1) then
      s.bulkUnits origin num (memReads s.gci.seg (7 * 65536) (leAt t.payload 8 4))
    else s

/-- A ticket completes: the result is stored before the completion event is raised (R78). -/
def State.finishTicket (s : State) (client num status : Nat) (pay : List Byte) : State :=
  match s.ticket client num with
  | none => s
  | some t =>
    match t.result with
    | some _ => s
    | none =>
      let upd := fun (u : Ticket) =>
        if u.client == client && u.num == num then { u with result := some (status, pay), locks := [] } else u
      let s := s.farOutput t status
      let s := { s with gci := { s.gci with tickets := s.gci.tickets.map upd } }
      if t.onDone then s.payload (0x008 + client) (num % 2 ^ 32 + (status % 2 ^ 16) * 2 ^ 32) else s

/-- A collected ticket frees its quota (R78). -/
def State.freeTicket (s : State) (client num : Nat) : State :=
  let s := { s with gci := { s.gci with
    tickets := s.gci.tickets.filter (fun t => !(t.client == client && t.num == num)) } }
  s.syncTickets client

/-! ### Drafts and locks (R93 to R95) -/

/-- The object that a change of a key counts as (R96): the DECK's parameters each alone, any other object whole. -/
def unitOf (k : Nat) : Nat := if pkeyObj k == oDeck then k else pkeyObj k * 2 ^ 16

/-- What a configuration key locks (R95): its object, or the whole bucket of an FDB or hash entry. -/
def lockOf (k : Nat) : Nat :=
  let o := pkeyObj k
  if keyTyp o == 0x06 then oFdb (keyIdx o / 8 * 8) * 2 ^ 16
  else if keyTyp o == 0x0C then oHash (keyIdx o / 4 * 4) * 2 ^ 16
  else unitOf k

/-- The draft that a handle names, if it is the client's. -/
def State.draft (s : State) (client handle : Nat) : Option Draft :=
  s.gci.drafts.find? (fun d => d.client == client && d.handle == handle)

/-- The committed value of a key; what Brim non-volatile memory keeps is read there, or as committed and not yet written. -/
def State.committed (s : State) (k : Nat) : Nat :=
  if inNvm k then
    match s.gci.nvmPend.reverse.find? (fun kv => kv.1 == k) with
    | some kv => kv.2
    | none => tabGet cfgDefault s.brim.nvm k
  else tabGet cfgDefault s.cfg k

/-- The value of a key as a draft sees it: staged, or committed. -/
def State.draftGet (s : State) (d : Option Draft) (k : Nat) : Nat :=
  match d.bind (fun d => (d.changes.find? (fun kv => kv.1 == k)).map (·.2)) with
  | some v => v
  | none => s.committed k

/-- A parameter as the caller reads it: committed with TXN 0, its own draft otherwise (R90). -/
def State.view (s : State) (c : Ctx) (o pid : Nat) : Nat := s.draftGet (s.draft c.client c.txn) (pkey o pid)

/-- Is one of the locks held by another client's draft, or by any running ticket (R81, R95)? -/
def State.locked (s : State) (client : Nat) (locks : List Nat) : Bool :=
  s.gci.drafts.any (fun d => d.client != client && d.changes.any (fun kv => locks.contains (lockOf kv.1))) ||
  s.gci.tickets.any (fun t => t.result.isNone && t.locks.any (fun l => locks.contains l))

/-- RETRY_AFTER of a lock conflict (R102): 10, or 1 where a commit that waits for its epoch switch alone holds the locks
(DEDUCED, log entry 89). -/
def State.lockRetry (s : State) (client : Nat) (locks : List Nat) : Nat :=
  let other := { s with gci := { s.gci with
    drafts := s.gci.drafts.filter (fun d => !s.gci.commits.any (fun p => p.handle == d.handle)),
    tickets := s.gci.tickets.filter (fun t => !s.gci.commits.any (fun p => p.client == t.client && p.ticket == t.num)) } }
  if other.locked client locks then 10 else 1

/-- BUSY_RETRY for a lock conflict (R75, R102). -/
def State.busyLock (s : State) (c : Ctx) (locks : List Nat) : Resp × State := s.busy (s.lockRetry c.client locks)

/-- The caller's draft `d` takes changes: they stand over what it held, and the draft is used (R90, R94). Storage is counted as
the bytes of the staging commands' payloads (DESIGN CHOICE, log entry 16). -/
def State.putChanges (s : State) (c : Ctx) (d : Draft) (changes : List (Nat × Nat)) : State :=
  let d' := { d with lastUse := s.strand, bytes := d.bytes + c.payload.length, changes := changes.reverse ++ d.changes }
  { s with gci := { s.gci with drafts := s.gci.drafts.map (fun (e : Draft) => if e.handle == d.handle then d' else e) } }

/-- Is there room for the payload in the shared draft storage of 8 MiB (R93)? -/
def State.draftRoom (s : State) (c : Ctx) : Bool :=
  decide ((s.gci.drafts.map Draft.bytes).sum + c.payload.length ≤ 8388608)

/-- Stage changes into the caller's draft (R90, R93, R95): the locks, then the storage. -/
def State.stage (s : State) (c : Ctx) (changes : List (Nat × Nat)) (pay : List Byte := []) : Resp × State :=
  match s.draft c.client c.txn with
  | none => s.answer stTxnUnknown
  | some d =>
    if s.locked c.client (changes.map (fun kv => lockOf kv.1)) then s.busyLock c (changes.map (fun kv => lockOf kv.1))
    else if !s.draftRoom c then s.answer stTxnLimit
    else (s.putChanges c d changes).answer stDone pay

/-- End a draft (R94). -/
def State.dropDraft (s : State) (handle : Nat) : State :=
  { s with gci := { s.gci with drafts := s.gci.drafts.filter (fun d => d.handle != handle) } }

/-- Objects a draft changes, in the order first changed. -/
def Draft.objects (d : Draft) : List Nat := (d.changes.reverse.map (fun kv => pkeyObj kv.1)).eraseDups

/-! ### The order of checks (R92) -/

/-- Firmware that serves mailboxes is running (R37, R47): STAGE 6, 7 or 8, and 11 during a switchover. -/
def State.fwServing (s : State) : Bool :=
  let g := s.getF DeckBootStatus.stage
  s.coreOn && (g == 6 || g == 7 || g == 8 || g == 11)

/-- There is firmware to write a response: firmware that serves mailboxes, or the boot ROM's recovery service (STAGE 9, R35), or the
firmware that it has just started (STAGE 5). -/
def State.fwAnswers (s : State) : Bool :=
  s.fwServing || s.getF DeckBootStatus.stage == 9 || s.getF DeckBootStatus.stage == 5

/-- The two commands whose TXN names a draft although they are of kind O, and the query that must (R96, R118). -/
def txnRule (r : CmdRow) (txn : Nat) (live : Bool) : Option Nat :=
  if r.code == 0x0811 || r.code == 0x0813 then
    (if txn = 0 then some stTxnRequired else if live then none else some stTxnUnknown)
  else
    match r.kind with
    | .q => if txn = 0 || live then none else some stTxnUnknown
    | .c => if txn = 0 then some stTxnRequired else if live then none else some stTxnUnknown
    | .o => if txn = 0 then none else some stTxnNotAllowed

/-- Step 2 of R92: the header rules of R58 and R61. -/
def headerBad (q : Req) (lastPosted : Nat) (spi : Bool) : Bool :=
  q.seq.toNat != lastPosted || q.rsv.toNat != 0 || bitsOf q.flags.toNat 7 2 != 0 || decide (q.len.toNat > 1008) ||
  (bitOf q.flags.toNat 0 && q.len.toNat != 16) || (bitOf q.flags.toNat 0 && spi) || decide (q.deck.toNat > 3)

/-- Commands served while DECK.RESET with scope CONFIG runs (R92). -/
def servedInReset (cmd : Nat) : Bool := cmd == 0x0110 || cmd == 0x0113 || cmd == 0x0114

/-- The objects that a C or O command with an OREF touches (step 10 of R92): the object itself, unless it is the DECK. -/
def orefLocks (r : CmdRow) (p : List Byte) : List Nat :=
  let o := orefOf p
  if r.oref && r.kind != .q && o.typ != 0x01 then [o.key * 2 ^ 16] else []

/-- While a Deck is acting master after a split, ROUTE.COMMIT, every C command and every SEC command (R99). -/
def splitFrozen (r : CmdRow) : Bool := r.kind == .c || r.code == 0x0811 || r.code / 256 == cSec

/-- The key commands that R516 admits for the cascade client: a wrapped install into a persistent slot, and the erasure of
one, for an originating client that holds SEC control. -/
def State.farKeyCmd (s : State) (n cmd : Nat) (p : List Byte) : Bool :=
  let persist := decide ((orefOf p).idx ≤ 127)
  s.pier.slots.any (fun x => x.mb == some n && x.sec) && persist &&
    ((cmd == 0x0C10 && leAt p 15 1 == 1 && bitOf (leAt p 14 1) 0) || cmd == 0x0C11)

/-- The kind whose transaction rule a command follows: DECK.SEG_EXEC follows its inner command's (log entry 28). -/
def ruleRow (cmd : Nat) (p : List Byte) (r : CmdRow) : CmdRow :=
  if cmd == 0x011B then (cmdRow (leAt p 0 2)).getD r else r

/-- What remains of the RETRY_AFTER of the same request's last BUSY_RETRY, in units of 100 µs (R76). -/
def State.retryLeft (s : State) (cmd : Nat) (q : Req) : Option Nat :=
  (s.gci.retries.find? (fun e => e.client == s.getF (MbOwner.client q.mb) && e.cmd == cmd && e.deck == q.deck.toNat &&
    e.flags == q.flags.toNat && e.txn == q.txn.toNat &&
    e.payload == sliceB q.payload 0 q.len.toNat && !strandAfter s.strand e.until_)).map
    (fun e => ceilDiv (strandDiff e.until_ s.strand) 80000)

/-- Does the mailbox's client hold the right for a command (R71)? Client 7 runs no SEC command but those of R516 (R70). -/
def State.rightOk (s : State) (n cmd : Nat) (p : List Byte) (r : CmdRow) : Bool :=
  let client := s.getF (MbOwner.client n)
  if client == 7 && s.getF (MbOwner.transport n) == 2 && cmd / 256 == cSec then s.farKeyCmd n cmd p
  else (s.client client).right r.kind (cmd / 256)

/-- Is the payload of a wrong length at step 6 of R92? -/
def lengthBad (cmd : Nat) (bulk : Bool) (p : List Byte) (r : CmdRow) : Bool :=
  if bulk then !takesBulk cmd
  else needsBulk cmd || (if r.exact then p.length != r.len else decide (p.length < r.len))

/-- Steps 1 to 7 of R92 for a request whose doorbell was accepted in mailbox `q.mb`: the first failing answer. The length and
the transaction of a request for another Deck are checked there. A request that is sent again too early is answered BUSY_RETRY
before any other check (R76). The spec gives SPLIT_FROZEN (R99) no place among the steps: the model tests it after step 5
(DESIGN CHOICE, log entry 90). -/
def State.precheckTxn (s : State) (cmd : Nat) (q : Req) : Option Resp :=
  let n := q.mb.val
  let client := s.getF (MbOwner.client n)
  let p := sliceB q.payload 0 q.len.toNat
  let err := fun (st : Nat) => some (⟨st, [], 0, 0⟩ : Resp)
  let bad := headerBad q (s.getF (MbSeq.lastPosted n)) (s.getF (MbOwner.transport n) == 1)
  let left := if bad then none else s.retryLeft cmd q
  if left.isSome then some ⟨stBusyRetry, [], 0, left.getD 0⟩
  else if s.getF DeckBootStatus.stage == 11 then some ⟨stBusyRetry, [], 0, 20⟩
  else if s.gci.resetRunning && !servedInReset cmd then some ⟨stBusyRetry, [], 0, 100⟩
  else if bad then err stBadHeader
  else
    match cmdRow cmd with
    | none => err stUnknownCommand
    | some r =>
      if !s.rightOk n cmd p r then err stNoRight
      else if q.deck.toNat != s.ownDeck && !bitOf (s.getF CascStatus.reachable) q.deck.toNat then err stDeckUnreachable
      else if s.getF CascStatus.role == 3 && splitFrozen r then err stSplitFrozen
      else if q.deck.toNat != s.ownDeck then none
      else if lengthBad cmd (bitOf q.flags.toNat 0) p r then err stBadLength
      else
        match txnRule (ruleRow cmd p r) q.txn.toNat (s.draft client q.txn.toNat).isSome with
        | some st => err st
        | none => none

/-- Steps 8 to 10 of R92. -/
def State.precheckObject (s : State) (cmd : Nat) (q : Req) : Option Resp :=
  let client := s.getF (MbOwner.client q.mb)
  let p := sliceB q.payload 0 q.len.toNat
  let err := fun (st : Nat) => some (⟨st, [], 0, 0⟩ : Resp)
  match cmdRow cmd with
  | none => none
  | some r =>
    let quota := decide (s.clientTickets client ≥ 4)
    if q.deck.toNat != s.ownDeck then (if r.p && quota then err stQuotaExceeded else none)
    else
      let o := orefOf p
      let bulk := bitOf q.flags.toNat 0
      if r.oref && !bulk && (!o.formOk || o.deck != q.deck.toNat || !classAccepts cmd o) then err stBadObject
      else if r.oref && !bulk && s.absentVariant && orefAbsent o then err stAbsentObject
      else if r.p && client != 7 && quota then err stQuotaExceeded
      else if s.locked client (orefLocks r p) then some ⟨stBusyRetry, [], 0, s.lockRetry client (orefLocks r p)⟩
      else none

/-- Steps 1 to 10 of R92: the first failing answer. -/
def State.precheck (s : State) (cmd : Nat) (q : Req) : Option Resp :=
  match s.precheckTxn cmd q with
  | some r => some r
  | none => s.precheckObject cmd q

/-- A C command, or ROUTE.COMMIT, that names a draft of this Deck and passes step 7 uses the draft (R94), whatever a later step
answers. -/
def State.draftUse (s : State) (cmd : Nat) (q : Req) : State :=
  let p := sliceB q.payload 0 q.len.toNat
  let uses := match cmdRow cmd with
    | none => false
    | some r => (ruleRow cmd p r).kind == .c || cmd == 0x0811
  if uses && q.deck.toNat == s.ownDeck && (s.precheckTxn cmd q).isNone then
    let h := q.txn.toNat
    let ds := s.gci.drafts.map (fun (d : Draft) => if d.handle == h then { d with lastUse := s.strand } else d)
    { s with gci := { s.gci with drafts := ds } }
  else s

/-- Remember a BUSY_RETRY, so that an earlier resend is answered with the time that remains (R76). -/
def State.noteRetry (s : State) (cmd : Nat) (q : Req) (r : Resp) : State :=
  if r.status != stBusyRetry || (s.retryLeft cmd q).isSome then s
  else
    let client := s.getF (MbOwner.client q.mb)
    let p := sliceB q.payload 0 q.len.toNat
    let keep := s.gci.retries.filter (fun e => !strandAfter s.strand e.until_)
    { s with gci := { s.gci with
        retries := keep ++ [⟨client, cmd, q.deck.toNat, q.flags.toNat, q.txn.toNat, p, s.after (r.retry * 80000)⟩] } }

/-- The context a body runs in. -/
def State.ctxOf (s : State) (cmd : Nat) (q : Req) : Ctx :=
  { cmd := cmd, mb := q.mb.val, client := s.getF (MbOwner.client q.mb), deck := q.deck.toNat, flags := q.flags.toNat,
    txn := q.txn.toNat, payload := sliceB q.payload 0 q.len.toNat,
    bulk := (bulkOf cmd q.flags.toNat (sliceB q.payload 0 q.len.toNat)).map (fun (b : Bulk) =>
      if s.getF (MbOwner.transport q.mb) == 2 then { b with seg := true } else b) }

/-- Requests outstanding to a Deck (R513: at most 16). -/
def State.farCount (s : State) (d : Nat) : Nat := (s.pier.forwarded.filter (fun f => f.deck == d)).length

/-- A REQ unit goes to another Deck for a client, and its number; mailbox 16 is none: no client waits for the answer. -/
def State.sendReq (s : State) (mb deck client cmd : Nat) (req : List Byte) : Nat × State :=
  let num := s.pier.reqNumber % 65536
  let sec := bitOf (s.client client).control cSec
  let body := leBytes 1 s.ownDeck ++ leBytes 1 (client + 8 * b2n sec) ++ leBytes 2 num ++ req
  let f : FwdReq := { mb := mb, deck := deck, num := num, cmd := cmd, body := body, lostAt := none, client := client }
  let s := { s with pier := { s.pier with forwarded := s.pier.forwarded ++ [f], reqNumber := s.pier.reqNumber + 1 } }
  (num, s.pierSend (s.deckInfo deck).port pcReq utReq (deckPair s.ownDeck deck) body)

/-- A ticket that a lost client holds on another Deck is aborted there and its result collected for nobody (R80). -/
def State.farAbort (s : State) (deck client ticket : Nat) : State :=
  [0x0114, 0x0113].foldl (fun (s : State) cmd =>
    let q : Req := { mb := 0, seq := 0, flags := 0, deck := BitVec.ofNat 8 deck, len := 4, txn := 0, rsv := 0,
                     payload := leBytes 4 ticket }
    (s.sendReq 16 deck client cmd (reqHeader cmd q ++ q.payload)).2) s

/-- A request for another Deck leaves as a REQ unit and its mailbox stays SERVING (R69, R513); with 16 outstanding it stays
POSTED. This Deck serves its bulk descriptor: one out of range is answered BAD_VALUE, and the bulk input that the command reads
follows the request, or the answer is BULK_FAILED where that cannot be read. -/
def State.forwardReq (s : State) (cmd : Nat) (q : Req) : State :=
  let d := q.deck.toNat
  let c := s.getF (MbOwner.client q.mb.val)
  if s.farCount d ≥ 16 then s.setF (MbStatus.state q.mb.val) mbPosted
  else
    let b := bulkOf cmd q.flags.toNat (q.payload.take q.len.toNat)
    if b.any (fun b => !b.ok [0, 1, 2]) then s.mbRespond q.mb.val cmd q.seq.toNat ⟨stBadValue, [], 0, 0⟩
    else
      let (inp, s) := match b.filter (fun b => b.dir != 1) with
        | none => (some [], s)
        | some b => s.hostRead b.addr b.len
      match inp with
      | none => s.mbRespond q.mb.val cmd q.seq.toNat ⟨stBulkFailed, [], 0, 0⟩
      | some data =>
        let (num, s) := s.sendReq q.mb.val d c cmd (reqHeader cmd q ++ q.payload.take q.len.toNat)
        s.bulkUnits d num data

/-- Firmware serves a taken request (R92) and answers it: the checks, then the command's body. -/
def State.serveTaken (s : State) (cmd : Nat) (q : Req) (body : Body) : State :=
  let n := q.mb.val
  let seq := if q.seq.toNat != s.getF (MbSeq.lastPosted n) then s.getF (MbSeq.lastPosted n) else q.seq.toNat
  let res := s.precheck cmd q
  let s := s.draftUse cmd q
  match res with
  | some r => (s.noteRetry cmd q r).mbRespond n cmd seq r
  | none =>
    if q.deck.toNat != s.ownDeck then s.forwardReq cmd q
    else
      let (r, s) := body (s.ctxOf cmd q) (s.slotSeg n)
      -- a command whose effect resets or halts the Crown die leaves no firmware to answer it
      if r.status == stHold || !s.fwAnswers || s.getF (MbStatus.state n) != mbServing then s
      else (s.noteRetry cmd q r).mbRespond n cmd seq r

/-! ### Service order (R73) -/

/-- The POSTED requests: arrival, mailbox and client. -/
def State.posted (s : State) : List (Nat × Nat × Nat) :=
  ((List.range 16).filter (fun n => s.getF (MbStatus.state n) == mbPosted && s.flag (MbOwner.assigned n))).map
    (fun n => (tabGet ctrDefault s.gci.arrival n, n, s.getF (MbOwner.client n)))

/-- The mailbox of a client's oldest doorbell. -/
def oldestOf (l : List (Nat × Nat × Nat)) (c : Nat) : Option Nat :=
  match l.filter (fun x => x.2.2 == c) with
  | [] => none
  | a :: l => some (l.foldl (fun (m : Nat × Nat × Nat) b => if b.1 < m.1 then b else m) a).2.1

/-- The client and mailbox served next: the visit of the last client goes on while it has work and weight left; otherwise the
round goes on from the next client number. -/
def State.nextServed (s : State) : Option (Nat × Nat) :=
  let last := s.gci.lastClient
  let posted := s.posted
  let goesOn := decide (0 < s.gci.served) && decide (s.gci.served < (s.client last).weight)
  let order := (if goesOn then [last] else []) ++ (List.range 8).map (fun i => (last + 1 + i) % 8)
  order.findSome? (fun c => (oldestOf posted c).map (fun n => (c, n)))

/-- The visit of a client counts the request; its weight bounds the visit (R73). -/
def State.visit (s : State) (c : Nat) : State :=
  let served := if c == s.gci.lastClient && decide (0 < s.gci.served ∧ s.gci.served < (s.client c).weight)
    then s.gci.served + 1 else 1
  { s with gci := { s.gci with lastClient := c, served := served } }

/-- With nothing POSTED the client visited last loses the rest of its visit (R73). -/
def State.visitEnd (s : State) : State :=
  if s.posted.isEmpty then { s with gci := { s.gci with served := 0 } } else s

/-- Is a mailbox reached through a transport: 0 PCIe, 1 SPI (R64)? -/
def State.mbReached (s : State) (n tr : Nat) : Bool := s.flag (MbOwner.assigned n) && s.getF (MbOwner.transport n) == tr

/-- Does a client outside the device own the mailbox: through PCIe or SPI (R64)? -/
def State.mbClient (s : State) (n : Nat) : Bool := s.mbReached n 0 || s.mbReached n 1

/-- A client writes its request into the request area and rings the doorbell (R55). -/
def State.post (s : State) (cmd : Nat) (q : Req) : State :=
  (s.visitEnd.mbWriteReq cmd q).mbDoorbell q.mb.val (0x5A5A0000 + q.seq.toNat)

/-- The doorbell is accepted, firmware serves mailboxes, and the request is the next that the weighted round of R73 names. -/
def State.comes (s : State) (cmd : Nat) (q : Req) : Bool :=
  s.mbClient q.mb.val && s.getF (MbStatus.state q.mb.val) == mbIdle && q.seq.toNat != s.getF (MbSeq.lastPosted q.mb.val) &&
  s.fwServing && (s.post cmd q).nextServed == some (s.getF (MbOwner.client q.mb.val), q.mb.val)

/-- Firmware has taken the request from its mailbox: the request area is written, the doorbell accepted, the visit counted, and
the state SERVING (R55, R73). -/
def State.taken (s : State) (cmd : Nat) (q : Req) : State :=
  ((s.post cmd q).visit (s.getF (MbOwner.client q.mb.val))).mbTake q.mb.val

/-- A client's request, whole: it writes the request area and rings the doorbell through the mailbox's transport (R64), and
firmware takes the request and answers it where it is the next in order (R55, R73). Otherwise it stays POSTED for SERVICE_SLICE;
a doorbell refused changes what R56 says. -/
def State.request (s : State) (cmd : Nat) (q : Req) (body : Body) : State :=
  if !s.mbClient q.mb.val then s
  else if s.comes cmd q then (s.taken cmd q).serveTaken cmd q body
  else s.post cmd q

end Sys2Proof.Machine
end

