-- ==== Sys2Proof/Machine/Gates.lean ====
section
/-! DEFINITION. Network clocks and their conversion (R339, R348), and the gate lists that run on the working clock (R320 to
R328). -/

namespace Sys2Proof.Machine

/-! ### Clocks -/

/-- The nominal increment of 1.25 ns in units of 2^−32 ns. -/
def nominalInc : Nat := 5368709120

def clockDefault (_ : Nat) : ClockSt := {}
def State.clock (s : State) (k : Nat) : ClockSt := tabGet clockDefault s.time.clocks k
def State.setClock (s : State) (k : Nat) (v : ClockSt) : State :=
  { s with time := { s.time with clocks := tabSet clockDefault s.time.clocks k v } }

/-- The entry in force: Strand value, clock value, increment; from Strand 0 and 0 s at the nominal rate at first (R339). -/
def ClockSt.head (c : ClockSt) : Nat × Nat × Nat := c.hist.headD (0, 0, nominalInc)

/-- Increment of a clock. -/
def State.clockInc (s : State) (k : Nat) : Nat := (s.clock k).head.2.2

/-- A clock's value at the present Strand value, in units of 2^−32 ns. -/
def State.clockNow (s : State) (k : Nat) : Nat :=
  let (se, ce, inc) := (s.clock k).head
  ce + strandDiff s.strand se * inc

/-- A clock's history, newest entry first. Fewer than 2,048 entries stand after the clock's start at Strand 0 (R339). -/
def State.history (s : State) (k : Nat) : List (Nat × Nat × Nat) :=
  let h := (s.clock k).hist
  if h.length < 2048 then h ++ [(0, 0, nominalInc)] else h

/-- Convert a Strand value, with the STALE mark (R348). -/
def State.convert (s : State) (k st : Nat) : Nat × Bool :=
  let h := s.history k
  match h.find? (fun e => strandAfter st e.1) with
  | some (se, ce, inc) => (ce + strandDiff st se * inc, false)
  | none =>
    match h.getLast? with
    | none => (st * nominalInc, false)
    | some (se, ce, inc) => (ce - strandDiff se st * inc, true)

/-- Write a history entry: the clock has value `v` and increment `inc` from now on (R348). -/
def State.clockSet (s : State) (k v inc : Nat) : State :=
  s.setClock k { hist := ((s.strand, v, inc) :: (s.clock k).hist).take 2048 }

/-- A rate change of a clock, within ±1,000 ppm (R339). -/
def State.clockRate (s : State) (k inc : Nat) : State :=
  s.clockSet k (s.clockNow k) (max (nominalInc - nominalInc / 1000) (min (nominalInc + nominalInc / 1000) inc))

/-- History entries of all three clocks: the millisecond's (R348), or at the resumption after Listening (R364). -/
def State.historyAll (s : State) : State :=
  (List.range 3).foldl (fun s k => s.clockSet k (s.clockNow k) (s.clockInc k)) s

/-- Units of 2^−32 ns. -/
def nsU (n : Nat) : Nat := n * 2 ^ 32

/-- The first whole ns at which the working clock stands or that it has still to reach. -/
def State.workCeil (s : State) : Nat := ceilDiv (s.clockNow 2) (2 ^ 32)

/-- The working clock in ns. -/
def State.workNs (s : State) : Nat := s.clockNow 2 / 2 ^ 32

/-- Let time pass until clock `k` has reached `ns`. -/
def State.clockTo (s : State) (k ns : Nat) : State :=
  let now := s.clockNow k
  if nsU ns ≤ now then s else s.pass (ceilDiv (nsU ns - now) (s.clockInc k))

/-- Seconds, nanoseconds and fraction of a clock value, as a 16-byte clock value of R358. -/
def clockBytes (v : Nat) : List Byte :=
  let ns := v / 2 ^ 32
  leBytes 8 ((ns / 1000000000) % 2 ^ 48) ++ leBytes 4 (ns % 1000000000) ++ leBytes 4 (v % 2 ^ 32)

/-! ### Gate state -/

/-- Counters of a gate list: CONFIG_CHANGES, GATE_OVERRUNS, GATE_DROPS, GATE_RESYNCS, HOLD_PREEMPTS (R336). -/
def State.incGate (s : State) (p i : Nat) : State := s.inc (oGate p) cQos i

/-- Preemption is active on a port (R147). A commit that sets PREEMPT_EN to 0 on a port that is up leaves VERIFY, and with it
preemption, until the next link-down (DESIGN CHOICE, log entry 131). -/
def State.preemptOn (s : State) (p : Nat) : Bool := decide (p ≤ 11) && s.getF (PortStatus.verify p) == 2

/-- A class is preemptable (R148). -/
def State.preemptable (s : State) (p c : Nat) : Bool := s.preemptOn p && bitOf (s.par (oChan p) 0x0403) c

/-- May the frame on the wire be preempted now (R148)? -/
def State.canPreempt (s : State) (p : Nat) : Bool :=
  match tabFind s.buf.egress p with
  | none => false
  | some e =>
    s.preemptable p (s.queueClass e.d.queue e.d.cls) && decide ((1 + s.par (oChan p) 0x0404) * 64 ≤ s.bytesGone p e) &&
    decide (s.bytesGone p e + 64 ≤ e.d.length)

/-- Hold the preemptable frame part-sent, which sends a fragment (R148). Its 20 overhead bytes are still on the wire: the credits count
them (R318), and the next frame waits for them. -/
def State.preempt (s : State) (p : Nat) : State :=
  let s := s.creditSync p
  match tabFind s.buf.egress p with
  | none => s
  | some e =>
    let n := s.bitCycles p 160
    let s := s.creditRun p n (s.after n)
    let s := s.setPort p { s.port p with held := some { e with gone := s.bytesGone p e } }
    { s with buf := { s.buf with egress := tabErase s.buf.egress p } }.inc (oChan p) cEth 26

/-- An entry of the operational list begins (R322, R327): a frame on the wire whose gate closes counts GATE_OVERRUNS, one that is then
preempted too; a preemption that comes with a hold in force counts HOLD_PREEMPTS. -/
def State.gateApply (s : State) (p i at_ : Nat) : State :=
  let s := s.creditSync p
  let g := s.gate p
  match g.oper.bind (fun l => l.entries[i]?) with
  | none => s
  | some (gates, op, _) =>
    let hold := if s.preemptOn p then (if op == 1 then true else if op == 2 then false else g.hold) else false
    let s := s.setGate p { g with entry := i, entryStart := at_, gates := gates, hold := hold }
    match tabFind s.buf.egress p with
    | none => s
    | some e =>
      let c := s.queueClass e.d.queue e.d.cls
      let closes := bitOf g.gates c && !bitOf gates c
      let s := if closes then (s.incGate p 1).occur (0x100 + p * 16 + 9) else s
      if (closes || (hold && !g.hold)) && s.canPreempt p then (if hold then s.incGate p 4 else s).preempt p else s

/-- First instant base + n × cycle at or after `t`. -/
def firstCycle (base cycle t : Nat) : Nat := if t ≤ base then base else base + ceilDiv (t - base) cycle * cycle

/-- The change time C of a list staged with base and cycle, at the epoch switch (R324). -/
def changeTime (base cycle ts : Nat) : Nat :=
  if base ≥ ts + 10000 then base else firstCycle base cycle (ts + 10000)

/-- Pool ranges in use (R321). -/
def State.poolRanges (s : State) : List (Nat × Nat) :=
  s.egr.gates.flatMap (fun kv =>
    (match kv.2.oper with | some l => [(l.pool, l.entries.length)] | none => []) ++
    (match kv.2.pend with | some (l, _) => [(l.pool, l.entries.length)] | none => []))

/-- The lowest pool index at which `n` consecutive entries are free; behind the pool where there is none (log entry 19). -/
def poolFit (rs : List (Nat × Nat)) (n : Nat) : Nat :=
  let starts := 0 :: rs.map (fun r => r.1 + r.2)
  let free := fun (i : Nat) => decide (i + n ≤ 16384) && rs.all (fun r => decide (i + n ≤ r.1 ∨ r.1 + r.2 ≤ i))
  (starts.filter free).foldl min 16384

/-- The staged list of a port: entries unpacked from its configuration values. -/
def State.stagedEntries (s : State) (p : Nat) : List (Nat × Nat × Nat) :=
  let v := s.par (oGate p) (pidRaw 6)
  (List.range (s.par (oGate p) (pidRaw 1))).map (fun i =>
    let e := bitsOf v (64 * i + 63) (64 * i)
    (bitsOf e 7 0, bitsOf e 9 8, bitsOf e 63 32))

/-- A list moves to another place of the pool. -/
def GateList.at_ (l : GateList) (i : Nat) : GateList := { l with pool := i }

/-- Where a list has found no place, since no free range is long enough, the lists move together: the pool holds all that fit in it by
their number of entries (R321; log entry 19). -/
def State.poolSettle (s : State) : State :=
  if s.poolRanges.all (fun r => decide (r.1 + r.2 ≤ 16384)) then s
  else
    ((List.range 22).foldl (fun (a : Nat × State) p =>
      let g := a.2.gate p
      let n := match g.oper with | some l => l.entries.length | none => 0
      let m := match g.pend with | some (l, _) => l.entries.length | none => 0
      if n + m = 0 then a
      else (a.1 + n + m, a.2.setGate p { g with
        oper := g.oper.map (fun l => l.at_ a.1), pend := g.pend.map (fun lc => (lc.1.at_ (a.1 + n), lc.2)) })) (0, s)).2

/-- A commit has changed a port's list (R324). -/
def State.applyGateList (s : State) (p : Nat) : State :=
  let s := s.creditSync p
  let g := { s.gate p with pend := none }
  let s := s.setGate p g
  if s.par (oGate p) (pidRaw 0) == 0 then s.setGate p { gates := 0xFF }
  else
    let es := s.stagedEntries p
    let base := s.par (oGate p) (pidRaw 3) * 1000000000 + s.par (oGate p) (pidRaw 4)
    let cycle := s.par (oGate p) (pidRaw 5)
    let l : GateList := { base := base, cycle := cycle, ext := s.par (oGate p) (pidRaw 2), entries := es,
                          pool := poolFit s.poolRanges es.length }
    s.setGate p { g with pend := some (l, changeTime base cycle s.workCeil) }

/-- A step of the working clock (R326): each operational list restarts at its first cycle start at or after the stepped
time, in the states of its first entry. -/
def State.gateResync (s : State) : State :=
  let now := s.workCeil
  (List.range 22).foldl (fun s p =>
    let g := s.gate p
    match g.oper with
    | none => s
    | some l =>
      let t := firstCycle l.base l.cycle now
      ((s.setGate p { g with cycleStart := t }).gateApply p 0 t).incGate p 3) s

/-! ### The commands -/

/-- GATE_ENTRY_START (R322): the next entry of the cycle begins, unless the list is cut at the cycle's end or at C. -/
def execGateEntryStart (p : Fin 22) (s : State) : Host.Outcome State Fault Refusal :=
  let g := s.gate p
  .next (match g.oper with
    | none => s
    | some l =>
      match l.entries[g.entry]?, l.entries[g.entry + 1]? with
      | some (_, _, iv), some _ =>
        let t := g.entryStart + iv
        let cut := match g.pend with | some (_, c) => decide (c ≤ t) | none => false
        if t ≥ g.cycleStart + l.cycle || cut then s else (s.clockTo 2 t).gateApply p (g.entry + 1) t
      | _, _ => s)

/-- GATE_CYCLE_START (R325): a cycle starts, unless the running one is cut at C or extended to C. -/
def execGateCycleStart (p : Fin 22) (s : State) : Host.Outcome State Fault Refusal :=
  let g := s.gate p
  .next (match g.oper with
    | none => s
    | some l =>
      let t := g.cycleStart + l.cycle
      let held := match g.pend with | some (_, c) => decide (c < t + l.ext) || decide (c ≤ t) | none => false
      if held then s
      else
        let s := s.clockTo 2 t
        (s.setGate p { s.gate p with cycleStart := t }).gateApply p 0 t)

/-- GATE_CHANGE_TIME (R324): at C the pending list becomes operational with a cycle start. -/
def execGateChangeTime (p : Fin 22) (s : State) : Host.Outcome State Fault Refusal :=
  .next (match (s.gate p).pend with
    | none => s
    | some (l, c) =>
      let s := s.clockTo 2 c
      let s := s.setGate p { s.gate p with oper := some l, pend := none, cycleStart := c }
      ((s.gateApply p 0 c).incGate p 0).occur (0x100 + p.val * 16 + 10))

end Sys2Proof.Machine
end

