-- ==== Sys2Proof/Machine/Time.lean ====
section
/-! DEFINITION. Time (R337 to R359): domains and their servo, the working clock, stamp conversion, transmit timestamp queues,
timed outputs and capture inputs. -/

namespace Sys2Proof.Machine

/-! ### Access -/

def domainDefault (_ : Nat) : DomainSt := {}
def outputDefault (_ : Nat) : OutputSt := {}
def captureDefault (_ : Nat) : CaptureSt := {}
def delayDefault (_ : Nat) : Option Int := none
def stampDefault (_ : Nat) : Option Nat := none

def State.domain (s : State) (d : Nat) : DomainSt := tabGet domainDefault s.time.domains d
def State.setDomain (s : State) (d : Nat) (v : DomainSt) : State :=
  { s with time := { s.time with domains := tabSet domainDefault s.time.domains d v } }
def State.output (s : State) (i : Nat) : OutputSt := tabGet outputDefault s.time.outputs i
def State.setOutput (s : State) (i : Nat) (v : OutputSt) : State :=
  { s with time := { s.time with outputs := tabSet outputDefault s.time.outputs i v } }
def State.capture (s : State) (i : Nat) : CaptureSt := tabGet captureDefault s.time.captures i
def State.setCapture (s : State) (i : Nat) (v : CaptureSt) : State :=
  { s with time := { s.time with captures := tabSet captureDefault s.time.captures i v } }
def State.setWork (s : State) (w : WorkSt) : State := { s with time := { s.time with work := w } }

/-- Domain states of R343. -/
def dsOff : Nat := 0
def dsUnlocked : Nat := 1
def dsLocked : Nat := 2
def dsLost : Nat := 3

/-- Sources of R344. -/
def srcHoldover : Nat := 2
def srcFree : Nat := 3

def domainField (d : Nat) : Field := if d = 0 then TimeStatus.aState else TimeStatus.bState
def State.domainState (s : State) (d : Nat) : Nat := s.getF (domainField d)

/-- Parameters of a domain clock (R340). -/
def State.domPar (s : State) (d pid : Nat) : Nat := s.par (oClock d) pid
def State.domMode (s : State) (d : Nat) : Nat := s.domPar d 0x0100

/-- A bit of TIME_EVENTS and its source, 0x038 and up (R358). -/
def State.timeEvent (s : State) (bit : Nat) (detail : Nat := 0) : State :=
  s.event ⟨TimeEvents.off, bit, bit⟩ (0x038 + bit) detail

/-- Counters of R359. -/
def State.incClock (s : State) (k i : Nat) : State := s.inc (oClock k) cTime i

/-- Cycles of n × 2^log s, `log` a signed parameter. -/
def logCycles (n v : Nat) : Nat :=
  match toSigned 32 v with
  | .ofNat k => secC n * 2 ^ k
  | .negSucc k => secC n / 2 ^ (k + 1)

/-! ### Timed outputs and the working clock's steps -/

/-- Payload values of a timed output (R353): ENABLE, MODE, POLARITY, CLOCK, START, WIDTH, PERIOD. -/
def State.outPar (s : State) (i f : Nat) : Nat := s.par (oOutput i) (pidRaw f)
def State.outStart (s : State) (i : Nat) : Nat := s.outPar i 4 * 1000000000 + s.outPar i 5

/-- A clock in ns. -/
def State.clockNs (s : State) (k : Nat) : Nat := s.clockNow k / 2 ^ 32

def State.incOutput (s : State) (i k : Nat) : State := s.inc (oOutput i) cTime k

/-- Drive PPS_OUT[i]: level 0 or 1, or 2 for high-Z. -/
def State.drivePps (s : State) (i level : Nat) : State := { s with out := .pin "PPS_OUT" i level :: s.out }

/-- A once output produces no pulse: MISSED and OUTPUT_MISSED (R354). -/
def State.outputMissed (s : State) (i : Nat) : State := (s.incOutput i 1).timeEvent 5 i

/-- T_s + 10 µs on the output's clock, where now is T_s (R354). -/
def State.outputFloor (s : State) (i : Nat) : Nat := s.clockNs (s.outPar i 3) + 10000

/-- A commit brings an output's values into force (R354): the pin's idle level and the first edge, at or after `t`. -/
def State.outputStart (s : State) (i t : Nat) : State :=
  let on := s.outPar i 0 == 1
  let s := s.setF ⟨TimeStatus.off, 8 + i, 8 + i⟩ (b2n on)
  if !on then (s.setOutput i {}).drivePps i 2
  else
    let s := s.drivePps i (s.outPar i 2)
    if s.outPar i 1 == 1 then s.setOutput i { next := some (firstCycle (s.outStart i) (s.outPar i 7) t) }
    else if s.outStart i < t then (s.setOutput i {}).outputMissed i
    else s.setOutput i { next := some (s.outStart i) }

/-- The epoch switch of a commit that changes the output: a pulse in progress completes first. -/
def State.applyOutput (s : State) (i : Nat) : State :=
  if (s.output i).pulse.isSome || (s.output i).pulseStrand.isSome then
    s.setOutput i { s.output i with changed := true, next := none, floor := s.outputFloor i }
  else s.outputStart i (s.outputFloor i)

/-- Clock `k` has stepped from `before` ns (R354): a pulse in progress completes in Strand cycles, a periodic output resumes
at the first boundary at or after the stepped time, a once output whose START was crossed is missed. -/
def State.outputsStepped (s : State) (k before : Nat) : State :=
  (List.range 4).foldl (fun s i =>
    let o := s.output i
    let s := match o.pulse with
      | some (st, _) =>
        if o.pulseOf.1 != k then s
        else s.setOutput i { o with pulse := none, pulseStrand := some (strandPlus st (ceilDiv (o.pulseOf.2.2 * 4) 5)) }
      | none => s
    if s.outPar i 3 != k then s
    else
      match (s.output i).next with
      | none => s
      | some n =>
        if s.outPar i 1 == 1 then
          s.setOutput i { s.output i with next := some (firstCycle (s.outStart i) (s.outPar i 7) (s.clockNs k)) }
        else if before < n && n < s.clockNs k then (s.setOutput i { s.output i with next := none }).outputMissed i
        else s) s

/-- Clock `k` steps to value `v` with increment `inc` (R339, R346). -/
def State.clockStep (s : State) (k v inc : Nat) : State :=
  let before := s.clockNs k
  (s.clockSet k v inc).outputsStepped k before

/-! ### The working clock (R344 to R347) -/

/-- The domain that stands as PRIMARY (R347). -/
def State.primary (s : State) : Nat := s.time.work.primary.getD (s.par (oClock 2) 0x0200)

/-- SLEW_MAX as an increment: ns per s in 2^−32 ns per cycle. -/
def State.slewInc (s : State) : Nat := s.par (oClock 2) 0x0201 * 536870912 / 100000000

/-- The clock that the working clock follows: its source's, or clock 3, Deck 0's working clock as a member carries it (R357). -/
def State.workRef (s : State) : Nat := if s.time.pier == 1 then 3 else s.getF TimeStatus.source

/-- Working clock minus the clock it follows, in 2^−32 ns. -/
def State.workOffset (s : State) : Int := (s.clockNow 2 : Int) - (s.clockNow s.workRef : Int)

/-- The working clock follows its source, less the bleeding (R345). -/
def State.workRate (s : State) (sign : Int) : State :=
  s.clockSet 2 (s.clockNow 2) (((s.clockInc s.workRef : Int) - sign * (s.slewInc : Int)).toNat)

/-- Bleed the present offset (R345). It reaches 0 after as many cycles as SLEW_MAX, rounded down to an increment, takes. -/
def State.workBleed (s : State) : State :=
  let off := s.workOffset
  if off == 0 then ((s.setWork { s.time.work with slew := none }).setF TimeStatus.slewing 0).workRate 0
  else
    let sign : Int := if off > 0 then 1 else -1
    ((s.setWork { s.time.work with slew := some (sign, s.brim.hb + ceilDiv off.natAbs s.slewInc) }).setF TimeStatus.slewing 1).workRate
      sign

/-- The working clock steps (R346): any bleeding ends, WORK_STEP and STEPS, and the gate lists resynchronise. -/
def State.workStepTo (s : State) (v inc : Nat) : State :=
  let s := (s.setWork { s.time.work with slew := none }).setF TimeStatus.slewing 0
  (((s.clockStep 2 v inc).incClock 2 2).timeEvent 3).gateResync

/-- The working clock steps to the clock it follows. -/
def State.workStep (s : State) : State := s.workStepTo (s.clockNow s.workRef) (s.clockInc s.workRef)

/-- Does an offset exceed WORK_STEP_LIMIT (R346)? -/
def State.overStepLimit (s : State) (off : Int) : Bool :=
  let lim := s.par (oClock 2) 0x0204
  lim != 0 && decide (off.natAbs > nsU lim)

/-- Domain `d` becomes the source under any rule but rule 1 of R344: the offset is latched and bled, or stepped. WORK_SWITCH
and SWITCHES where the source was the other domain. -/
def State.workSwitch (s : State) (d : Nat) (step : Bool := false) : State :=
  let old := s.getF TimeStatus.source
  let s := s.setF TimeStatus.source d
  let s := if old ≤ 1 && old != d then (s.incClock 2 0).timeEvent 2 else s
  if step || s.overStepLimit s.workOffset then s.workStep else s.workBleed

/-- The source becomes HOLDOVER: the working clock keeps its last rate (R344 rule 3). -/
def State.workHoldover (s : State) : State :=
  let s := (s.setWork { s.time.work with slew := none }).setF TimeStatus.slewing 0
  ((s.setF TimeStatus.source srcHoldover).incClock 2 1).timeEvent 2

/-- The LOCKED domain that the rules prefer. -/
def State.lockedDomain (s : State) : Option Nat :=
  let p := s.primary
  if s.domainState p == dsLocked then some p
  else if s.domainState (1 - p) == dsLocked then some (1 - p) else none

/-- WORKING_SOURCE_CHANGE (R344): rules 1 to 3, after every state change of the cycle. -/
def State.workChoose (s : State) : State :=
  let src := s.getF TimeStatus.source
  if src == srcFree then
    match s.lockedDomain with
    | some d => (s.setF TimeStatus.source d).workStep
    | none => s
  else if src == srcHoldover then
    match s.lockedDomain with
    | some d => s.workSwitch d
    | none => s
  else if s.domainState src == dsLost || s.domainState src == dsOff then
    if s.domainState (1 - src) == dsLocked then s.workSwitch (1 - src) else s.workHoldover
  else s

/-! ### Domains (R341, R343) -/

/-- A domain enters a state (R343), without the choice of source. -/
def State.domainPut (s : State) (d st : Nat) : State :=
  if s.domainState d == st then s
  else
    let s := s.setF (domainField d) st
    let v := s.domain d
    if st == dsLocked then ((s.setDomain d { v with lockedAt := s.strand, bad := 0 }).incClock d 2).timeEvent 1 d
    else if st == dsLost then ((s.setDomain d { v with good := 0, syncAt := none }).incClock d 1).timeEvent 0 d
    else s.setDomain d { v with good := 0, bad := 0 }

/-- DOMAIN_STATE_CHANGE, and the choice of source that follows it. -/
def State.domainSet (s : State) (d st : Nat) : State := (s.domainPut d st).workChoose

/-- The watchdog of a MODE 1 domain: 3 × 2^LOG_SYNC_INTERVAL s (R343); the announce timeout likewise. -/
def State.syncDeadline (s : State) (d : Nat) : Nat := s.after (logCycles 3 (s.domPar d 0x0104))
def State.annDeadline (s : State) (d : Nat) : Nat := s.after (logCycles 3 (s.domPar d 0x0107))

/-- A commit brings a domain's parameters into force (R343): on a new MODE states, timers, and the master ports' messages; else the
messages of master ports that it had not. The choice of source follows all changes of the switch (R344). -/
def State.applyDomain (s : State) (d : Nat) (oldMode : Nat) : State :=
  let m := s.domMode d
  let due := fun (pid : Nat) => if s.domPar d 0x0103 != 0 && (m == 1 || m == 2) then some (s.after (logCycles 1 (s.domPar d pid))) else none
  if m == oldMode then
    let w := s.domain d
    let still := fun (f : Option Nat) (pid : Nat) => if f.isSome && s.domPar d 0x0103 != 0 then f else due pid
    s.setDomain d { w with masterAt := if m == 2 then still w.masterAt 0x0104 else none, masterAnn := still w.masterAnn 0x0107 }
  else
    let v : DomainSt := { offset := (s.domain d).offset, lockedAt := (s.domain d).lockedAt }
    let v := { v with
      syncAt := if m == 1 then some (s.syncDeadline d) else none, annAt := if m == 1 then some (s.annDeadline d) else none,
      masterAt := if m == 2 then due 0x0104 else none, masterAnn := due 0x0107 }
    (s.setDomain d v).domainPut d (match m with | 0 => dsOff | 2 => dsLocked | _ => dsUnlocked)

/-- A port's link goes down: a domain whose SLAVE_PORT it is becomes LOST (R343). -/
def State.timeLinkDown (s : State) (p : Nat) : State :=
  ((List.range 2).foldl (fun s d =>
    if s.domMode d == 1 && s.domPar d 0x0102 == p && s.domainState d != dsOff then s.domainPut d dsLost else s) s).workChoose

/-! ### Timestamp corrections (R155) -/

/-- Receive and transmit corrections of the mode in force, in tenths of a ns. -/
def State.modeCorr (s : State) (p : Nat) : Nat × Nat :=
  match s.getF (PortStatus.modeActive p) with
  | 1 => (384, 256)
  | 2 => (1040, 800)
  | 3 => (512, 384)
  | 4 => (match s.getF (PortStatus.speed p) with | 0 => (104000, 80000) | 1 => (10400, 8000) | _ => (1040, 800))
  | 5 => (24000, 12000)
  | _ => (0, 0)

/-- The signed correction of a stamp in 2^−32 ns; `tx` chooses the direction. PHY delays, in ps, count in modes 2 and 4. -/
def State.stampCorr (s : State) (p : Nat) (tx : Bool) : Int :=
  let (r, t) := s.modeCorr p
  let m := s.getF (PortStatus.modeActive p)
  let phy := fun (pid : Nat) => if m == 2 || m == 4 then nsU (s.par (oChan p) pid) / 1000 else 0
  if tx then ((nsU t / 10 + phy 0x0501 : Nat) : Int) else -((nsU r / 10 + phy 0x0500 : Nat) : Int)

/-- A stamp of port `p` in clock `k`, corrected. -/
def State.stampTime (s : State) (k p st : Nat) (tx : Bool) : Nat × Bool :=
  let (v, stale) := s.convert k st
  (((v : Int) + s.stampCorr p tx).toNat, stale)

/-! ### The servo -/

/-- Mean link delay of a port, if measured and within PDELAY_THRESH (neighborPropDelayThresh, R341). -/
def State.linkDelay (s : State) (p : Nat) : Option Int :=
  match tabGet delayDefault s.time.delay p with
  | none => none
  | some d => if d ≤ (nsU (s.par (oChan p) 0x0E01) : Int) then some d else none

/-- ASYMMETRY of a port in 2^−32 ns (ps in the parameter). -/
def State.asymmetry (s : State) (p : Nat) : Int := toSigned 32 (s.par (oChan p) 0x0E02) * (2 ^ 32 : Int) / 1000

/-- The rate that the servo sets: a free value within ±1,000 ppm (R339; log entry 1: the spec gives no servo law). -/
def State.servoInc (s : State) : Nat × State :=
  let (x, s) := s.draw
  (nominalInc - nominalInc / 1000 + x % (2 * (nominalInc / 1000) + 1), s)

/-- A domain clock steps to `v`, by the negative of `off`: STEPS counts, and where the domain is the source its step adds an offset that
the working clock bleeds (R345), or by which it steps beyond the limit (R346). -/
def State.domainStep (s : State) (d v inc : Nat) (off : Int) : State :=
  let s := (s.clockStep d v inc).incClock d 3
  if s.workRef != d then s else if s.overStepLimit off then s.workStep else s.workBleed

/-- A domain clock has a new rate, which the working clock takes in the same cycle where the domain is its source (R345). -/
def State.domainFollow (s : State) (d : Nat) : State :=
  if s.workRef != d then s
  else match s.time.work.slew with
    | some (sign, _) => s.workRate sign
    | none => s.workRate 0

/-- The servo of domain `d` has measured offset `off` in 2^−32 ns, the domain clock minus its master: it steps the clock
beyond STEP_THRESH and otherwise adjusts its rate (R340), the working clock follows (R345), and the domain's state moves on
(R343). -/
def State.servo (s : State) (d : Nat) (off : Int) : State :=
  let ns := off / (2 ^ 32 : Int)
  let within := decide (off.natAbs ≤ nsU (s.domPar d 0x0105))
  let v := s.domain d
  let s := s.setDomain d { v with
    offset := ns, good := if within then v.good + 1 else 0, bad := if within then 0 else v.bad + 1 }
  let s :=
    if off.natAbs > nsU (s.domPar d 0x0106) then
      s.domainStep d (((s.clockNow d : Int) - off).toNat) (s.clockInc d) off
    else
      let (inc, s) := s.servoInc
      (s.clockRate d inc).domainFollow d
  let v := s.domain d
  if s.domainState d == dsUnlocked && v.good ≥ 8 then s.domainSet d dsLocked
  else if s.domainState d == dsLocked && v.bad ≥ 2 then s.domainSet d dsUnlocked
  else s

/-- Put out gPTP messages, a type and a value each, on the master ports of a domain that are up; during a firmware switchover none
is sent, and transmission resumes with the next interval (R52). -/
def State.gptpMasters (s : State) (d : Nat) (msgs : Nat → List (Nat × Nat)) : State :=
  (List.range 12).foldl (fun s p =>
    if bitOf (s.domPar d 0x0103) p && s.flag (PortStatus.linkUp p) && !s.switchover then
      { s with out := ((msgs p).map (fun m => Emit.gptp p (s.domPar d 0x0101) m.1 m.2)).reverse ++ s.out }
    else s) s

/-- A two-step Sync with its Follow_Up on port `p` (R341), which leaves now: the Follow_Up carries the domain clock's time at
transmission, less `lag`, what that clock was ahead of its master at the Sync relayed. -/
def State.syncMsgs (s : State) (d : Nat) (lag : Int) (p : Nat) : List (Nat × Nat) :=
  [(0, 0), (8, (((s.stampTime d p s.strand true).1 : Int) - lag).toNat)]

/-- The Announce of a domain's master ports (R341): the grandmaster information received or, in MODE 2, its own. -/
def State.announceMsgs (s : State) (d : Nat) (_ : Nat) : List (Nat × Nat) :=
  [(11, if s.domMode d == 2 then Config.gmInfo d else (s.domain d).gm.getD (Config.gmInfo d))]

/-- A complete Sync: the time of the master at reception is its origin value plus the link delay and the asymmetry. The relayed
Follow_Ups carry that time plus the residence time between the hardware stamps, on the scale of the domain clock before the servo
acts. A port whose link delay is not known to be within the threshold is not asCapable in IEEE 802.1AS-2020, which neither
disciplines nor relays by it (log entry 121). -/
def State.syncDone (s : State) (d p st origin : Nat) : State :=
  match s.linkDelay p with
  | none => s
  | some dl =>
    let (here, _) := s.stampTime d p st false
    let off : Int := (here : Int) - ((origin : Int) + dl + s.asymmetry p)
    let sent := s.gptpMasters d (s.syncMsgs d off)
    ({ s with out := sent.out }).servo d off

/-- Domains that a message on a port belongs to: MODE 1, its DOMAIN_NUMBER, its SLAVE_PORT. -/
def State.slaveDomains (s : State) (p num : Nat) : List Nat :=
  (List.range 2).filter (fun d => s.domMode d == 1 && s.domPar d 0x0101 == num && s.domPar d 0x0102 == p)

/-- A Sync arrives (R343): SYNC_RX, the hardware watchdog restarts, and a LOST domain becomes UNLOCKED. -/
def State.syncArrives (s : State) (d : Nat) : State :=
  let s := s.incClock d 0
  let s := s.setDomain d { s.domain d with syncAt := some (s.syncDeadline d) }
  if s.domainState d == dsLost then
    let v := s.domain d
    (s.setDomain d { v with annAt := some (v.annAt.getD (s.annDeadline d)) }).domainSet d dsUnlocked
  else s

/-- Does a port take part in gPTP? -/
def State.gptpPort (s : State) (p : Nat) : Bool :=
  (List.range 2).any (fun d => (s.domMode d == 1 || s.domMode d == 2) &&
    (s.domPar d 0x0102 == p || bitOf (s.domPar d 0x0103) p))

/-! ### Transmit timestamp queues (R350 to R352) -/

/-- Both pointers of a 16-entry queue as 5-bit numbers. -/
def State.tsqHead (s : State) (p : Nat) : Nat := bitsOf (s.reg (TsqHead.off p)).toNat 4 0
def State.tsqTail (s : State) (p : Nat) : Nat := bitsOf (s.reg (TsqTail.off p)).toNat 4 0
def State.tsqFill (s : State) (p : Nat) : Nat := (s.tsqHead p + 32 - s.tsqTail p) % 32

/-- BAR0 offset of entry `i` of a port's queue (R350). -/
def tsqEntry (p i : Nat) : Nat := 0x100000 + p * 0x4000 + 0x2100 + i * 32

/-- The level source TSQ_PENDING (R352). -/
def State.syncTsq (s : State) (p : Nat) : State := s.level (0x108 + p * 16) (s.tsqHead p != s.tsqTail p)

/-- TSQ_ENTRY_WRITE (R351, R352): flags as given, stamp `none` for a copy whose first bit never left. -/
def State.tsqWrite (s : State) (p id clk flags : Nat) (st : Option Nat) : State :=
  if p ≥ 20 then s
  else if s.tsqFill p ≥ 16 then (s.inc (oChan p) cEth 32).occur (0x107 + p * 16)
  else
    let h := s.tsqHead p
    let body := match st with
      | none => leBytes 1 (setBits flags 1 0 clk) ++ zeros 29
      | some st =>
        let (v, stale) := s.stampTime clk p st true
        leBytes 1 (setBit (setBits flags 1 0 clk) 4 stale) ++ zeros 5 ++ leBytes 6 st ++ zeros 2 ++ clockBytes v
    let s := { s with bar0 := memWrites s.bar0 (tsqEntry p (h % 16)) (leBytes 2 id ++ body) }
    (s.setReg (TsqHead.off p) (BitVec.ofNat 32 ((h + 1) % 32))).syncTsq p

/-- The host moves TSQ_TAIL (R186, R350): ignored where it would pass TSQ_HEAD. -/
def State.tsqMoveTail (s : State) (p w : Nat) : State :=
  let adv := (w % 32 + 32 - s.tsqTail p) % 32
  if adv > s.tsqFill p || p ≥ 20 then s else (s.setReg (TsqTail.off p) (BitVec.ofNat 32 (w % 32))).syncTsq p

/-! ### Conversion registers (R349) -/

/-- A write of CONV_SEL: the fields are stored, and GO starts a conversion unless one runs. -/
def State.convSelect (s : State) (w : Nat) : State :=
  let s := s.setReg ConvSel.off (BitVec.ofNat 32 (bitsOf w 7 0))
  if !bitOf w 8 || s.flag ConvStatus.busy then s
  else
    let st := (s.reg ConvStrandLo.off).toNat + s.getF ConvStrandHi.strand * 2 ^ 32
    { s.setF ConvStatus.busy 1 with time := { s.time with conv := some (s.after 80, st, bitsOf w 7 0) } }

/-- Store a clock value in four registers (R358). -/
def State.putClockRegs (s : State) (f : Nat → Nat) (v : Nat) : State :=
  (List.range 4).foldl (fun s i => s.setReg (f i) (BitVec.ofNat 32 (leAt (clockBytes v) (4 * i) 4))) s

/-- The running conversion ends: CONV_RESULT and CONV_STATUS. -/
def State.convFinish (s : State) : State :=
  match s.time.conv with
  | none => s
  | some (d, st, sel) =>
    let s := { s.timeTo d with time := { s.time with conv := none } }.setReg ConvStatus.off 0
    let k := bitsOf sel 1 0
    let p := bitsOf sel 6 2
    if k == 3 || (20 ≤ p && p ≤ 30) then (List.range 4).foldl (fun s i => s.setReg (ConvResult.off i) 0) (s.setF ConvStatus.err 1)
    else
      let (v, stale) := if p == 31 then s.convert k st else s.stampTime k p st (bitOf sel 7)
      (s.putClockRegs ConvResult.off v).setF ConvStatus.stale (b2n stale)

/-- TIME_SNAP: the Strand counter and the three clocks in one cycle (R358). -/
def State.timeSnap (s : State) : State :=
  let s := (s.setReg (SnapStrand.off 0) (BitVec.ofNat 32 s.strand)).setReg (SnapStrand.off 1) (BitVec.ofNat 32 (s.strand / 2 ^ 32))
  (List.range 3).foldl (fun s k => s.putClockRegs (fun i => SnapClock.off (k * 4 + i)) (s.clockNow k)) s

/-! ### The commands -/

/-- A stamp of port `p` on the free-running local clock of the link delay service, corrected. -/
def State.localTime (s : State) (p st : Nat) (tx : Bool) : Nat := (((st * nominalInc : Nat) : Int) + s.stampCorr p tx).toNat

/-- A gPTP message of a port that is up. -/
def State.gptpIn (s : State) (p num kind st value : Nat) : State :=
  let fw := s.fwRunning && s.getF DeckBootStatus.stage != 11
  let ds := s.slaveDomains p num
  match kind with
  | 0 | 1 =>
    ds.foldl (fun s d =>
      let s := s.syncArrives d
      if !fw then s
      else if kind == 0 then s.syncDone d p st value
      else s.setDomain d { s.domain d with twoStep := some st }) s
  | 2 =>
    if !fw then s
    else ds.foldl (fun s d =>
      match (s.domain d).twoStep with
      | none => s
      | some t => (s.setDomain d { s.domain d with twoStep := none }).syncDone d p t value) s
  | 3 => if !fw then s else ds.foldl (fun s d => s.setDomain d { s.domain d with annAt := some (s.annDeadline d), gm := some value }) s
  | 4 =>
    if fw && s.gptpPort p then { s with out := .gptp p num 10 (s.localTime p s.strand true) :: .gptp p num 3 (s.localTime p st false) :: s.out }
    else s
  | _ =>
    match tabGet stampDefault s.time.pdelayT1 p with
    | none => s
    | some t1 =>
      if !fw then s
      else
        let rtt : Int := (strandDiff st t1 * nominalInc : Nat) + s.stampCorr p false - s.stampCorr p true
        { s with time := { s.time with
            pdelayT1 := tabSet stampDefault s.time.pdelayT1 p none,
            delay := tabSet delayDefault s.time.delay p (some ((rtt - (value : Int)) / 2)) } }

/-- GPTP_MESSAGE_RECEIVE (R341, R343): on port `p`, of domain number `num`. Kind 0 one-step Sync, 1 two-step Sync, 2 Follow_Up,
3 Announce, 4 Pdelay_Req, 5 Pdelay_Resp with its Follow_Up; `st` is the receive stamp. `value` is the origin timestamp plus
correction of a Sync or Follow_Up in 2^−32 ns, the grandmaster information of an Announce, or the responder's turnaround time of a
Pdelay_Resp. The hardware watchdog sees
every Sync; firmware handles the message unless it is being switched over (R52). -/
def execGptpMessageReceive (p : Fin 12) (num : BitVec 7) (kind : Fin 6) (st : BitVec 48) (value : BitVec 96) (s : State) :
    Host.Outcome State Fault Refusal :=
  .next (if !s.flag (PortStatus.linkUp p) then s else s.gptpIn p num.toNat kind.val st.toNat value.toNat)

/-- A commit changes SLEW_MAX while the working clock bleeds: what is left is bled at the new rate (R98, R345). -/
def State.applySlew (s : State) : State := if s.time.work.slew.isSome then s.workBleed else s

/-- SYNC_WATCHDOG_EXPIRY (R343). -/
def execSyncWatchdogExpiry (d : Fin 2) (s : State) : Host.Outcome State Fault Refusal :=
  .next (match (s.domain d).syncAt with
    | none => s
    | some t =>
      let s := s.timeTo t
      let s := s.setDomain d { s.domain d with syncAt := none }
      if s.domainState d == dsUnlocked || s.domainState d == dsLocked then s.domainSet d dsLost else s)

/-- ANNOUNCE_TIMEOUT (R343). -/
def execAnnounceTimeout (d : Fin 2) (s : State) : Host.Outcome State Fault Refusal :=
  .next (match (s.domain d).annAt with
    | none => s
    | some t =>
      let s := s.timeTo t
      let s := s.setDomain d { s.domain d with annAt := none }
      if s.domainState d == dsUnlocked || s.domainState d == dsLocked then s.domainSet d dsLost else s)

/-- SYNC_INTERVAL (R341): the sync interval of a grandmaster, or with `announce` the announce interval, has elapsed. -/
def execSyncInterval (d : Fin 2) (announce : Bool) (s : State) : Host.Outcome State Fault Refusal :=
  let v := s.domain d
  .next (match if announce then v.masterAnn else v.masterAt with
    | none => s
    | some t =>
      let s := s.timeTo t
      if announce then
        let s := s.setDomain d { s.domain d with masterAnn := some (s.after (logCycles 1 (s.domPar d 0x0107))) }
        s.gptpMasters d (s.announceMsgs d)
      else
        let s := s.setDomain d { s.domain d with masterAt := some (s.after (logCycles 1 (s.domPar d 0x0104))) }
        s.gptpMasters d (s.syncMsgs d 0))

/-- Time passes to a deadline, where one is set. -/
def State.dueTo (s : State) : Option Nat → State
  | some t => s.timeTo t
  | none => s

/-- The next Pdelay request of a port is due after its interval. -/
def State.pdelayArm (s : State) (p : Nat) : State :=
  { s with time := { s.time with
      pdelayAt := tabInsert s.time.pdelayAt p (s.after (logCycles 1 (s.par (oChan p) 0x0E00))) } }

/-- PDELAY_INTERVAL (R341): a Pdelay request leaves a gPTP port that is up. -/
def execPdelayInterval (p : Fin 12) (s : State) : Host.Outcome State Fault Refusal :=
  .next (
    if !s.gptpPort p then s
    else
      let s := (s.dueTo (tabFind s.time.pdelayAt p)).pdelayArm p
      if s.flag (PortStatus.linkUp p) && !s.switchover then
        { s with time := { s.time with pdelayT1 := tabSet stampDefault s.time.pdelayT1 p (some s.strand) },
                 out := .gptp p 0 2 0 :: s.out }
      else s)

/-- REVERT_HOLD_EXPIRY (R344 rule 4). -/
def execRevertHoldExpiry (s : State) : Host.Outcome State Fault Refusal :=
  let p := s.primary
  .next (
    if s.par (oClock 2) 0x0202 == 1 && s.getF TimeStatus.source != p && s.getF TimeStatus.source != srcFree
        && s.domainState p == dsLocked then
      (s.timeTo (strandPlus (s.domain p).lockedAt (secC (s.par (oClock 2) 0x0203)))).workSwitch p
    else s)

/-- SLEW_DONE (R345): the offset has reached 0 and the working clock takes the value and the rate of the clock it follows. -/
def execSlewDone (s : State) : Host.Outcome State Fault Refusal :=
  .next (match s.time.work.slew with
    | none => s
    | some (_, t) =>
      let d := s.workRef
      let s := s.hbTo t
      let s := ((s.setWork { s.time.work with slew := none }).setF TimeStatus.slewing 0).timeEvent 4
      s.clockSet 2 (s.clockNow d) (s.clockInc d))

/-- HISTORY_ENTRY_WRITE (R348). -/
def execHistoryEntryWrite (s : State) : Host.Outcome State Fault Refusal :=
  .next (
    let s := s.dueTo s.time.histAt
    { s with time := { s.time with histAt := some (s.after 800000) } }.historyAll)

/-- GO (R349): a write of CONV_SEL with GO set. -/
def execGo (sel : BitVec 8) (s : State) : Host.Outcome State Fault Refusal := .next (s.hosted (s.convSelect (sel.toNat + 256)))

/-- CONVERSION_DONE (R349). -/
def execConversionDone (s : State) : Host.Outcome State Fault Refusal := .next s.convFinish

/-- TIME_SNAP (R358). -/
def execTimeSnap (s : State) : Host.Outcome State Fault Refusal := .next (s.hosted s.timeSnap)

/-- TIMED_OUTPUT_LEADING_EDGE (R354). -/
def execTimedOutputLeadingEdge (i : Fin 4) (s : State) : Host.Outcome State Fault Refusal :=
  .next (match (s.output i).next with
    | none => s
    | some t =>
      let s := (s.clockTo (s.outPar i 3) t).incOutput i 0
      let next := if s.outPar i 1 == 1 then some (t + s.outPar i 7) else none
      (s.setOutput i { s.output i with
        next := next, pulse := some (s.strand, t + s.outPar i 6), pulseOf := (s.outPar i 3, s.outPar i 2, s.outPar i 6) }).drivePps i
        (1 - s.outPar i 2))

/-- The pulse is over; with `changed`, a change that waited takes effect, no edge of it before its T_s + 10 µs or before now. -/
def State.pulseOver (s : State) (i : Nat) (changed : Bool) : State :=
  let o := s.output i
  let s := (s.setOutput i { o with pulse := none, pulseStrand := none }).drivePps i o.pulseOf.2.1
  if changed then (s.setOutput i { s.output i with changed := false }).outputStart i (max o.floor (s.clockNs (s.outPar i 3))) else s

/-- TIMED_OUTPUT_TRAILING_EDGE (R354): WIDTH later, and a change that waited takes effect. -/
def execTimedOutputTrailingEdge (i : Fin 4) (s : State) : Host.Outcome State Fault Refusal :=
  .next (match (s.output i).pulse, (s.output i).pulseStrand with
    | some (_, t), _ => (s.clockTo (s.output i).pulseOf.1 t).pulseOver i (s.output i).changed
    | none, some t => (s.timeTo t).pulseOver i (s.output i).changed
    | none, none => s)

/-- An edge that is captured (R355): one within 16 cycles of the last is counted as too fast, one without room as dropped, and any
other is recorded. -/
def State.captureTake (s : State) (i e : Nat) : State :=
  let c := s.capture i
  let fast := match c.lastEdge with | some t => decide (strandDiff s.strand t < 16) | none => false
  if fast then s.inc (oCapture i) cTime 2
  else if c.recs.length ≥ 16 then
    ((s.setCapture i { c with dropsSince := min (c.dropsSince + 1) 65535 }).inc (oCapture i) cTime 1).timeEvent 7 i
  else
    ((s.setCapture i { c with recs := c.recs ++ [(s.strand, e)], lastEdge := some s.strand }).inc (oCapture i) cTime 0).occur (0x050 + i)

/-- CAPTURE_EDGE (R355). -/
def execCaptureEdge (i : Fin 8) (falling : Bool) (s : State) : Host.Outcome State Fault Refusal :=
  let edge := s.par (oCapture i) 0x0100
  .next (
    if !(bitOf edge (if falling then 1 else 0)) then s
    else s.captureTake i (b2n falling))

end Sys2Proof.Machine
end

