-- ==== Sys2Proof/Machine/ReadError.lean ====
section
/-! DEFINITION. What reading a copy of the shared buffer meets (R273, R274, R280): errors in its cells, in its descriptor and in the
links of the duplicated lists, for the ports and for the units that take a frame whole. -/

namespace Sys2Proof.Machine

/-- A frame has left the receivers: written, or refused. A Pier link returns the credit that it held (R505). -/
def State.eraseRx (s : State) (id : Nat) : State :=
  let gone := { s with buf := { s.buf with rx := tabErase s.buf.rx id } }
  match tabFind s.buf.rx id with
  | none => gone
  | some f => match f.credit with
    | none => gone
    | some (c, n) => gone.creditBack (f.port - 20) c n

/-- Port and egress read of an active copy, if a port reads it. -/
def State.readerOf (s : State) (d : Nat) : Option (Nat × EgressRead) := s.buf.egress.find? (fun kv => kv.2.desc == d)

/-- No read of port `p` is in progress any more. -/
def State.egressErase (s : State) (p : Nat) : State :=
  let s := s.creditSync p
  { s with buf := { s.buf with egress := tabErase s.buf.egress p } }

/-- Mark the egress read of a port to end with an inverted FCS (R129, R130). -/
def State.truncate (s : State) (p : Nat) : State :=
  match tabFind s.buf.egress p with
  | none => s
  | some e => { s with buf := { s.buf with egress := tabInsert s.buf.egress p { e with trunc := true } } }

/-- Transmit timestamp entries of copies that never left (R351): DISCARDED. -/
def State.tsqDiscard (s : State) (d : Desc) : State :=
  match d.tsReq, s.queuePort d.queue with
  | some (id, clk), some p => s.tsqWrite p id clk 4 none
  | _, _ => s

/-- The entry of a copy whose first bit has left (R351), and of those that waited for it. Behind a frame that is held part-sent and has
its own entry still to come, it waits. -/
def State.tsqEntry (s : State) (p : Nat) (d : Desc) (flags : Nat) : State :=
  match d.tsReq with
  | none => s
  | some (id, clk) =>
    if (s.port p).held.any (fun e => e.d.tsReq.isSome) then
      s.setPort p { s.port p with tsWait := (s.port p).tsWait ++ [(id, clk, flags, d.stamp)] }
    else
      let late := (s.port p).tsWait
      late.foldl (fun (s : State) w => s.tsqWrite p w.1 w.2.1 w.2.2.1 (some w.2.2.2))
        ((s.setPort p { s.port p with tsWait := [] }).tsqWrite p id clk flags (some d.stamp))

/-- The entry of a copy cut short after its first bit (R351): ABORTED. -/
def State.tsqAbort (s : State) (p : Nat) (d : Desc) : State := s.tsqEntry p d 8

/-- A copy with an uncorrectable error in what it reads: dropped before its first byte, otherwise ended (R280). -/
def State.readFails (s : State) (p : Nat) (e : EgressRead) : State :=
  if e.data.isEmpty then
    ((s.egressErase p).tsqDiscard e.d).releaseCopy e.desc
  else s.truncate p

/-- A copy that was not yet linked is dropped (R262, R268). -/
def State.dropUnlinked (s : State) (d : Nat) : State :=
  let v := s.desc d
  let s := s.uncharge v
  (s.setDesc d { s.desc d with sources := [] }).dropCopies v.owner [d]

/-- Other copies of a frame whose chain is broken behind its first `good` cells are released as dropped (R274): queued ones, those not
yet linked, with the frame's reception, and those on a port, which end as an uncorrectable error ends them. The owner keeps the cells
that can still be reached; the others are left to the audit. -/
def State.dropSiblings (s : State) (owner d good : Nat) : State :=
  let s := s.setDesc owner { s.desc owner with length := min (s.desc owner).length (64 * max 1 good) }
  let s := match s.buf.rx.find? (fun kv => kv.2.owner == some owner) with
    | some (id, _) => s.eraseRx id
    | none => s
  (s.buf.descs.filter (fun kv => kv.2.owner == owner && kv.1 != d)).foldl (fun (s : State) kv =>
    match kv.2.state with
    | .queued => ((s.tsqDiscard kv.2).unqueue kv.1).releaseCopy kv.1
    | .receiving => (s.tsqDiscard kv.2).dropUnlinked kv.1
    | .active =>
      match s.readerOf kv.1 with
      | some (p, e) => s.readFails p e
      | none => s
    | _ => s) s

/-- What a unit meets that reads copy `d` (R274, R280), `good` cells of it read before: 0 nothing, 1 a single-bit data error, corrected,
2 an uncorrectable data error, 3 one copy of a link repaired, 4 the copies of its cell chain differ, 5 an uncorrectable descriptor
error, 6 the copies of its queue's chain differ. Answers whether the copy can still be used. -/
def State.readMeets (s : State) (d good u : Nat) : Bool × State :=
  let v := s.desc d
  match u with
  | 1 => (true, s.incSw 6)
  | 2 => (false, s.eccUncorr v.firstCell)
  | 3 => (true, s.incSw 15)
  | 4 => (false, (s.linkMismatch v.firstCell).dropSiblings v.owner d good)
  | 5 => (false, (s.eccUncorr d).breakQueue v.queue)
  | 6 => (true, (s.linkMismatch d).breakQueue v.queue)
  | _ => (true, s)

/-- The cells of a copy read whole that are good where the copies of its cell chain differ (`u` 4): at which link is a free value (log
entry 106). -/
def State.goodCells (s : State) (v : Desc) (u : Nat) : Nat × State :=
  let n := ceilDiv v.length 64
  if u != 4 || n ≤ 1 then (n, s) else (1 + s.draw.1 % (n - 1), s.draw.2)

/-- What a unit meets that reads a copy whole. -/
def State.readWhole (s : State) (d u : Nat) : Bool × State := (s.goodCells (s.desc d) u).2.readMeets d (s.goodCells (s.desc d) u).1 u

/-- A unit takes the head copy of a queue whole and meets `u`: the descriptor and the bytes, or none where the copy is dropped. -/
def State.takeRead (s : State) (q u : Nat) : Option (Option (Desc × List Byte) × State) :=
  match s.dequeue q with
  | none => none
  | some (d, s) =>
    let v := s.desc d
    let b := s.frameOf v
    match s.readWhole d u with
    | (true, s) => some (some (v, b), s.finishCopy d)
    | (false, s) => some (none, s.releaseCopy d)

end Sys2Proof.Machine
end

