-- ==== Sys2Proof/Machine/CanLane.lean ====
section
/-! DEFINITION. CAN Lanes (R156 to R193): records, rings, the class scheduler, attempts, error states, recovery, transmission
at a time, transceivers and disable. Reception stands in Can.lean, after forwarding. -/

namespace Sys2Proof.Machine

/-! ### Access -/

def State.canMode (s : State) (n : Nat) : Nat := s.canPar n 0x0100

/-- First class queue of CAN[n] (R253). -/
def canQueue (n : Nat) : Nat := 224 + n * 8

/-- Restore FIFO_LEVEL after a change of the FIFO. -/
def State.setFifo (s : State) (n : Nat) (l : List Nat) : State :=
  (s.setCan n { s.canLane n with fifo := l }).setF (CanStatus.fifoLevel n) l.length

/-! ### Records (R182 to R185) -/

def recId (r : List Byte) : Nat := leAt r 0 4
def recFormat (r : List Byte) : Nat := leAt r 4 1
def recFlags (r : List Byte) : Nat := leAt r 5 1
def recLen (r : List Byte) : Nat := leAt r 6 2
def recStamp (r : List Byte) : Nat := leAt r 8 6
def recKind (r : List Byte) : Nat := bitsOf (recFormat r) 1 0
def recLin (r : List Byte) : Bool := bitOf (recFormat r) 2
def recIde (r : List Byte) : Bool := bitOf (recId r) 29
def recRtr (r : List Byte) : Bool := bitOf (recId r) 30
def recIdent (r : List Byte) : Nat := bitsOf (recId r) 28 0

/-- Header bytes before the payload: 16, and the XL extension's 8. -/
def recHead (r : List Byte) : Nat := if recKind r == 2 then 24 else 16
def recPayload (r : List Byte) : List Byte := sliceB r (recHead r) (recLen r)

/-- Bytes of a record without padding, and its granules (R184). -/
def recBytes (r : List Byte) : Nat := recHead r + recLen r
def recGranules (r : List Byte) : Nat := ceilDiv (recBytes r) 16

/-- Lengths of FD payloads (R157). -/
def fdLengths : List Nat := [0, 1, 2, 3, 4, 5, 6, 7, 8, 12, 16, 20, 24, 32, 48, 64]

/-- Is a length valid for a format (R157)? -/
def lenOk (kind len : Nat) : Bool :=
  match kind with
  | 0 => decide (len ≤ 8)
  | 1 => fdLengths.contains len
  | 2 => decide (1 ≤ len ∧ len ≤ 2048)
  | _ => false

/-- May a transmit record be sent: R157 and R183 (R188)? -/
def txRecordOk (r : List Byte) : Bool :=
  let k := recKind r
  let f := recFlags r
  let ctrl := leAt r 14 1
  recFormat r < 3 && lenOk k (recLen r) && !bitOf (recId r) 31 && bitsOf f 3 1 == 0 &&
  (k != 0 || !bitOf f 0) && (k == 0 || bitsOf f 7 4 == 0) &&
  (!recRtr r || (k == 0 && recLen r == 0)) && bitsOf ctrl 7 5 == 0 && leAt r 15 1 == 0 &&
  (k != 2 || (bitsOf (leAt r 18 1) 7 1 == 0 && leAt r 19 1 == 0 && decide (recIdent r < 2 ^ 11) && !recIde r)) &&
  (recIde r || decide (recIdent r < 2 ^ 11))

/-- The bytes that a transmit record puts into the buffer: the receive form of R182 with the DLC as it is sent (R183). -/
def txStored (r : List Byte) (stamp : Nat) : List Byte :=
  let f := recFlags r
  let dlc := bitsOf f 7 4
  let dlc' := if recKind r != 0 then 0
    else if recRtr r then dlc
    else if recLen r == 8 && 9 ≤ dlc then dlc else recLen r
  let r' := putB r 5 (leBytes 1 (setBits f 7 4 dlc'))
  (putB r' 8 (leBytes 6 stamp ++ [0, 0])).take (recBytes r)

/-- Can a Channel's mode carry a frame's format and length (R156 to R158, R162)? -/
def State.canCarries (s : State) (n : Nat) (r : List Byte) : Bool :=
  lenOk (recKind r) (recLen r) &&
  match recKind r, s.canMode n with
  | 0, _ => true
  | 1, 0 => false
  | 1, 3 =>
    let w := s.canPar n 0x0102
    let cyc := (bitsOf w 4 0 + 1) * (3 + bitsOf w 13 8 + bitsOf w 20 16)
    !(bitOf (recFlags r) 0 && decide (cyc * 10 < 160))
  | 1, _ => true
  | 2, 3 => true
  | _, _ => false

/-! ### Rings (R186) -/

/-- The host moves a consumer pointer: ignored with RING_ERR beyond HEAD, or beyond the area (R186). -/
def State.canMoveTail (s : State) (n head tail size w : Nat) : State :=
  let w := bitsOf w 11 0
  let adv := (ptrPos w size + 2 * size - ptrPos (s.word tail) size) % (2 * size)
  if bitsOf w 10 0 ≥ size || adv > ringUsed (s.word head) (s.word tail) size then s.canEvent n 4
  else (s.setWord tail w).syncCanLevels n

/-- The host moves TXQ_HEAD: ignored with RING_ERR more than the ring ahead of TXQ_TAIL, or beyond the area. -/
def State.canMoveTxq (s : State) (n w : Nat) : State :=
  let w := bitsOf w 11 0
  if bitsOf w 10 0 ≥ 1536 || ringUsed w (s.word (TxqTail.off n)) 1536 > 1536 then s.canEvent n 4
  else (s.setWord (TxqHead.off n) w).setCan n { s.canLane n with ringStopped := false }

/-- A PAD record's header (R184). -/
def padRecord : List Byte := leBytes 4 0 ++ [3] ++ zeros 11

/-- RX_RECORD_WRITE (R187): the record, with any PAD it needs, into the receive queue, or dropped on overrun. -/
def State.rxRecordWrite (s : State) (n : Nat) (r : List Byte) : State :=
  let g := recGranules r
  let head := ptrPos (s.word (RxqHead.off n)) 2048
  let idx := head % 2048
  let pad := if idx + g > 2048 then 2048 - idx else 0
  let free := 2048 - ringUsed (s.word (RxqHead.off n)) (s.word (RxqTail.off n)) 2048
  let l := s.canLane n
  if pad + g > free then ((s.setCan n { l with overrun := true }).incCan n 5).canEvent n 5
  else
    let base := n * 65536
    let r := if l.overrun then putB r 5 (leBytes 1 (setBit (recFlags r) 3 true)) else r
    let at_ := if pad > 0 then 0 else idx
    let m := if pad > 0 then memWrites s.bar2 (base + idx * 16) padRecord else s.bar2
    let s := { s with bar2 := memWrites m (base + at_ * 16) (padTo 16 r) }
    let s := s.setCan n { l with overrun := false }
    (s.setWord (RxqHead.off n) (ptrWord (head + pad + g) 2048)).syncCanLevels n

/-- Free completion granules, those reserved left out (R188). -/
def State.txcFree (s : State) (n : Nat) : Nat :=
  512 - ringUsed (s.word (TxcHead.off n)) (s.word (TxcTail.off n)) 512 - (s.canLane n).compReserved

/-- A copy's outcome on CAN[n]: counter, completion record, and release. -/
def State.canOutcome (s : State) (n d st : Nat) : State :=
  let v := s.desc d
  let s := s.canEnds n st v.comp v.attempts v.arbLosses v.txStamp
  if st == csSent then s.finishCopy d else s.releaseCopy d

/-- The outcome of the comparator's frame. -/
def State.atOutcome (s : State) (n : Nat) (a : AtFrame) (st : Nat) : State :=
  let s := s.canEnds n st a.comp a.attempts a.arbLosses a.txStamp
  (s.setCan n { s.canLane n with at_ := none }).setF (CanStatus.atArmed n) 0

/-! ### Error states (R173 to R176) -/

/-- ERR_STATE, WARNING and their event follow the counters. -/
def State.canErrSync (s : State) (n : Nat) : State :=
  let tec := s.getF (CanErrStatus.tec n)
  let rec_ := s.getF (CanErrStatus.rec n)
  let st := if tec > 255 then 2 else if tec > 127 || rec_ > 127 then 1 else 0
  let old := s.getF (CanStatus.errState n)
  let s := s.setFlag (CanStatus.warning n) (decide (tec ≥ 96 ∨ rec_ ≥ 96))
  if st == old then s
  else
    let s := (s.setF (CanStatus.errState n) st).canEvent n 0 st
    if st == 1 then s.incCan n 23 else s

/-- Are the error counters frozen (R164, R177)? -/
def State.canFrozenCounters (s : State) (n : Nat) : Bool := s.flag (CanStatus.restricted n) || s.flag (CanStatus.monitor n)

/-- TEC rises by 8 and may reach bus-off (R173, R174). -/
def State.tecRaise (s : State) (n : Nat) : State :=
  let t := s.getF (CanErrStatus.tec n) + 8
  let s := (s.setF (CanErrStatus.tec n) (if t > 255 then 256 else t)).canErrSync n
  if t > 255 then
    let l := s.canLane n
    let s := (s.incCan n 22).canEvent n 1
    s.setCan n { l with
      restrictPend := false,
      recoverAt := if s.canPar n 0x0205 == 1 then some (s.after (msC (s.canPar n 0x0206))) else none }
  else s

/-- REC rises (R173, ISO 11898-1). -/
def State.recRaise (s : State) (n k : Nat) : State :=
  if s.canFrozenCounters n then s
  else (s.setF (CanErrStatus.rec n) (min (s.getF (CanErrStatus.rec n) + k) 255)).canErrSync n

/-- A correct reception: REC falls by 1, or from above 127 to a value between 119 and 127 that ISO 11898-1 leaves open
(log entry 1). -/
def State.recFall (s : State) (n : Nat) : State :=
  if s.canFrozenCounters n then s
  else
    let r := s.getF (CanErrStatus.rec n)
    if r > 127 then
      let (x, s) := s.draw
      (s.setF (CanErrStatus.rec n) (119 + x % 9)).canErrSync n
    else (s.setF (CanErrStatus.rec n) (r - 1)).canErrSync n

/-- LONELY clears and its count restarts (R172). -/
def State.canNotLonely (s : State) (n : Nat) : State :=
  (s.setCan n { s.canLane n with noAckRun := 0 }).setF (CanStatus.lonely n) 0

/-- Counter and LEC code of an error, codes of LEC (R191, R192). -/
def State.canErrCount (s : State) (n lec : Nat) (dataPhase : Bool) : State :=
  let s := (s.setF (CanErrStatus.lec n) lec).setFlag (CanErrStatus.lecData n) dataPhase
  match lec with
  | 1 => s.incCan n 8
  | 2 => s.incCan n 9
  | 3 => s.incCan n 11
  | 4 | 5 => s.incCan n 7
  | 6 => s.incCan n 10
  | _ => s

/-! ### The frozen states of R168 -/

/-- Is the Span of a Channel neither ENTERING nor ASLEEP? -/
def State.spanOpen (s : State) (c : Nat) : Bool :=
  let st := s.getF (SpanState.state (s.spanOf c))
  !(st == spEntering || st == spAsleep)

/-- TXD of CAN[16] to CAN[63], and of LIN[8] to LIN[15], is held recessive from step 4 of R385 on, until the Span leaves ENTERING. -/
def State.txdHeld (s : State) (c : Nat) : Bool :=
  let i := s.spanOf c
  (decide (40 ≤ c ∧ c < 88) || decide (96 ≤ c)) && s.getF (SpanState.state i) == spEntering &&
  (tabGet (fun _ => ({} : SpanSt)) s.spans i).step == 2

/-- The Lane offers nothing and the scheduler does not feed: bus-off, restricted operation, bus monitoring, a transceiver mode
other than normal, a gated Lane, a Channel that is not enabled, TXD held recessive. -/
def State.canFrozen (s : State) (n : Nat) : Bool :=
  s.txdHeld (24 + n) ||
  s.getF (CanStatus.errState n) == 2 || s.flag (CanStatus.restricted n) || s.flag (CanStatus.monitor n) ||
  (decide (n < 16) && s.getF (CanStatus.xcvrMode n) != 0) || s.flag (CanStatus.laneGated n) || !s.flag (CanStatus.enabled n)

/-- Has a routed frame passed its route's age limit (R174)? Host frames never age. -/
def State.aged (s : State) (d : Nat) : Bool :=
  let v := s.desc d
  v.ageLimit != 0 && !v.hostTx && decide (strandDiff s.strand v.stamp > v.ageLimit)

/-- Highest class with a waiting frame. -/
def State.canTopClass (s : State) (n : Nat) : Option Nat :=
  [7, 6, 5, 4, 3, 2, 1, 0].find? (fun c => !(s.queue (canQueue n + c)).isEmpty)

/-- A copy that a Lane cannot read is dropped before it is offered: a completion that it owes carries ERROR_LIMIT with ATTEMPTS 0
(R280). -/
def State.canUnreadable (s : State) (n d : Nat) : State :=
  (match (s.desc d).comp with
    | some ring => s.txcWrite n ring csErrorLimit 0 0 0
    | none => s).releaseCopy d

/-- The class scheduler takes one frame (R168), dropping an aged one (R174). `u` is what it meets (R274, R280). -/
def State.canFeed (s : State) (n : Nat) (u : Nat := 0) : State :=
  let l := s.canLane n
  let forced := match l.disabling with | some d => d.mode != 1 | none => false
  let waiting := l.fifo.length - (if l.inFlight == some .fifo then 1 else 0)
  if s.canFrozen n || forced || waiting ≥ s.canPar n 0x0200 || l.fifo.length ≥ 16 then s
  else
    match s.canTopClass n with
    | none => s
    | some c =>
      match s.dequeue (canQueue n + c) with
      | none => s
      | some (d, s) =>
        match s.readWhole d u with
        | (false, s) => s.canUnreadable n d
        | (true, s) => if s.aged d then s.canOutcome n d csAged else s.setFifo n ((s.canLane n).fifo ++ [d])

/-- ABORT_REQUEUE (R169), after an attempt has ended. -/
def State.canAbortRequeue (s : State) (n : Nat) : State :=
  let l := s.canLane n
  match l.fifo.head?, s.canTopClass n with
  | some h, some c =>
    if s.canPar n 0x0201 == 1 && c > (s.desc h).cls then
      let s := l.fifo.reverse.foldl (fun s d =>
        let v := s.desc d
        let s := s.setDesc d { v with state := .queued, requeued := v.requeued + 1 }
        (s.setQueue v.queue (d :: s.queue v.queue)).incCan n 15) s
      (s.setCan n { l with recheck := 0 }).setFifo n []
    else s
  | _, _ => s

/-- Drop aged heads that waited through bus-off or restricted operation and have not been offered since (R174, R177), at most
`k` of them. -/
def State.canAgeHeads (s : State) (n : Nat) : Nat → State
  | 0 => s
  | k + 1 =>
    let l := s.canLane n
    match l.fifo with
    | d :: t =>
      if l.recheck > 0 && l.tried != some d && s.aged d then
        ((s.setCan n { l with recheck := l.recheck - 1 }).setFifo n t).canOutcome n d csAged |>.canAgeHeads n k
      else s
    | [] => s

/-- A frame as it goes onto the bus: the ESI of an FD frame matches the Lane's own error state (R173), and no other format has one. -/
def State.canEsi (s : State) (n : Nat) (r : List Byte) : List Byte :=
  putB r 5 (leBytes 1 (setBit (recFlags r) 1 (recKind r == 1 && s.getF (CanStatus.errState n) == 1)))

/-- Put out the attempt (R179). -/
def State.canOffer (s : State) (n : Nat) (o : Offer) (bytes : List Byte) : State :=
  let s := s.setCan n { s.canLane n with inFlight := some o, txStamp := s.strand }
  { s with out := .canTx n (s.canEsi n bytes) :: s.out }

/-- The comparator's window has passed (R180). -/
def State.atPast (s : State) (n : Nat) (a : AtFrame) : Bool :=
  let limit := strandPlus a.at_ (usC (s.canPar n 0x0207))
  !strandAfter limit s.strand

/-- CAN_ATTEMPT_START (R168): the comparator's released frame, or the FIFO head. -/
def State.canStart (s : State) (n : Nat) : State :=
  let l := s.canLane n
  if s.canFrozen n || s.flag (CanStatus.integrating n) || l.inFlight.isSome then s
  else
    match l.at_.filter (·.released) with
    | some a =>
      if s.atPast n a then s.atOutcome n a csLate
      else (s.setCan n { l with at_ := some { a with attempts := a.attempts + 1, txStamp := s.strand } }).canOffer n .atTime a.bytes
    | none =>
      let s := s.canAgeHeads n 16
      match (s.canLane n).fifo with
      | [] => s
      | d :: _ =>
        let v := s.desc d
        let l := s.canLane n
        let s := s.setCan n { l with recheck := l.recheck - b2n (l.tried != some d), tried := some d }
        (s.setDesc d { v with attempts := v.attempts + 1, txStamp := s.strand }).canOffer n .fifo (s.frameOf v)

/-- An echo record (R187): ECHO set, the transmit stamp, the route the frame came through. -/
def echoRecord (r : List Byte) (stamp route : Nat) : List Byte :=
  putB (putB r 5 (leBytes 1 (setBit (recFlags r) 2 true))) 8 (leBytes 6 stamp ++ leBytes 2 (route % 2 ^ 14))

/-- Discard without an attempt: FIFO entries but the one in flight, and the comparator's frame unless in flight, all with FLUSHED
(R193, R385). -/
def State.canDrop (s : State) (n : Nat) : State :=
  let l := s.canLane n
  let keep := if l.inFlight == some .fifo then l.fifo.take 1 else []
  let s := (s.setFifo n keep)
  let s := (l.fifo.drop keep.length).foldl (fun s d => s.canOutcome n d csFlushed) s
  match l.at_ with
  | some a => if l.inFlight == some .atTime then s else s.atOutcome n a csFlushed
  | none => s

/-- The class queues of CAN[n]. -/
def canQueues (n : Nat) : List Nat := (List.range 8).map (canQueue n + ·)

/-- Discard at once, class queues included. -/
def State.canDiscard (s : State) (n : Nat) : State := (canQueues n).foldl (fun s q => s.flushQueue q) (s.canDrop n)

/-- The mode command of an integrated transceiver has crossed the Hatpin link (R165): it is applied at the end of the frame on
the bus. -/
def State.xcvrSent (s : State) (n mode : Nat) : State :=
  { s.setCan n { s.canLane n with xcvrPend := some mode } with out := .hatpin (0x300 + n) mode :: s.out }

/-- Command an integrated transceiver to a mode (R110, R111, R385, R389): the command waits for its transfer over the Hatpin link,
which may fail (R12). -/
def State.xcvrCommand (s : State) (n mode : Nat) : State :=
  if n < 16 then
    { s with hatpin := { s.hatpin with queue := s.hatpin.queue ++
      [({ client := 0, ticket := 0, left := 1, write := true, xcvr := some (24 + n, mode) } : HatpinAccess)] } }
  else s

/-- The mode that a transceiver's latest command names while it waits for the Hatpin link. -/
def State.xcvrQueued (s : State) (n : Nat) : Option Nat :=
  (s.hatpin.queue.reverse.findSome? (fun a => a.xcvr.bind (fun x => if x.1 == 24 + n then some x.2 else none)))

/-- No mode command of a transceiver is on its way. -/
def State.xcvrSettled (s : State) (n : Nat) : Bool :=
  (s.xcvrQueued n).isNone && (s.canLane n).xcvrPend.isNone && (s.canLane n).xcvrGoing.isNone

/-- A ticket that a row completes: client and number in one value, 0 for none. -/
def ticketRef (client num : Nat) : Nat := client * 2 ^ 32 + num
def State.finishRef (s : State) (t status : Nat) (pay : List Byte := []) : State :=
  if t = 0 then s else s.finishTicket (t / 2 ^ 32) (t % 2 ^ 32) status pay

/-- The Channel reaches ENABLED 0 (R111, R193). -/
def State.canDisabled (s : State) (n : Nat) : State :=
  let l := s.canLane n
  let t := match l.disabling with | some d => d.ticket | none => 0
  let s := s.setCan n { l with disabling := none }
  let s := (s.setF (CanStatus.enabled n) 0).setF (CanStatus.draining n) 0
  (s.xcvrCommand n 2).finishRef t stDone

/-- No attempt is in flight: a force disable discards everything, the class queues by a flush (R193, R268); mode 3 while it scans. -/
def State.canFlush (s : State) (n ticket : Nat) : State :=
  let s := s.canDrop n
  (s.setCan n { s.canLane n with disabling := some ⟨3, ticket, 0⟩ }).startFlush (canQueues n) none (some n)

/-- The flush of a force disable has ended. -/
def State.canFlushed (s : State) (n : Nat) : State :=
  match (s.canLane n).disabling with
  | some d => if d.mode == 3 then s.canDisabled n else s
  | none => s

/-- Force disable (R193): the attempt in flight runs to its end, and then everything else is discarded. -/
def State.canForce (s : State) (n ticket : Nat) : State :=
  let s := (s.setF (CanStatus.draining n) 0).setCan n { s.canLane n with disabling := some ⟨2, ticket, 0⟩ }
  if (s.canLane n).inFlight.isNone then s.canFlush n ticket else s

/-- Everything queued has been sent (R193). -/
def State.canIdle (s : State) (n : Nat) : Bool :=
  (s.canLane n).fifo.isEmpty && (s.canLane n).at_.isNone && (s.canLane n).inFlight.isNone && (s.canTopClass n).isNone

/-- What follows the end of an attempt: a scheduled restricted operation, requeue, and a force disable that waited. -/
def State.canAfterAttempt (s : State) (n : Nat) : State :=
  let off := s.getF (CanStatus.errState n) == 2
  let l := s.canLane n
  let s := if l.restrictPend && !off then (s.setCan n { l with restrictPend := false }).setF (CanStatus.restricted n) 1 else s
  let s := if off then s else s.canAbortRequeue n
  match (s.canLane n).disabling with
  | some d => if d.mode == 2 then s.canFlush n d.ticket else s
  | none => s

/-- CAN_ATTEMPT_END with success (R171, R172, R187). -/
def State.canSent (s : State) (n : Nat) : State :=
  let l := s.canLane n
  let st := l.txStamp
  let bytes := s.canEsi n (match l.inFlight, l.fifo, l.at_ with
    | some .fifo, d :: _, _ => s.frameOf (s.desc d)
    | some .atTime, _, some a => a.bytes
    | _, _, _ => [])
  let route := match l.inFlight, l.fifo with | some .fifo, d :: _ => (s.desc d).route | _, _ => 0
  let s := ((s.incCan n 12).incCan n 13 (recLen bytes)).canNotLonely n
  let s := if s.canFrozenCounters n then s
    else (s.setF (CanErrStatus.tec n) (s.getF (CanErrStatus.tec n) - 1)).canErrSync n
  let s := s.setCan n { s.canLane n with inFlight := none }
  let s := match l.inFlight, l.fifo, l.at_ with
    | some .fifo, d :: t, _ => (s.setFifo n t).canOutcome n d csSent
    | some .atTime, _, some a => s.atOutcome n a csSent
    | _, _, _ => s
  if s.canPar n 0x0300 == 1 && s.canPar n 0x0302 == 1 then s.rxRecordWrite n (echoRecord bytes st route) else s

/-- Is a limit of R171 exceeded? 255 is unlimited. -/
def overLimit (count limit : Nat) : Bool := limit != 255 && decide (count > limit)

/-- A NO_ACK discard counts towards LONELY (R172). -/
def State.canNoAck (s : State) (n : Nat) : State :=
  let l := s.canLane n
  let s := s.setCan n { l with noAckRun := min (l.noAckRun + 1) 255 }
  if l.noAckRun + 1 ≥ s.canPar n 0x0204 && !s.flag (CanStatus.lonely n) then
    (s.setF (CanStatus.lonely n) 1).canEvent n 3
  else s

/-- CAN_ATTEMPT_END with a failure: `lec` 1..6 an error, 7 lost arbitration (R171, R173, R174). `quiet`: the error is one that leaves TEC
alone: an acknowledge error on which an error-passive transmitter saw no dominant bit during its passive error flag, or a stuff error in
arbitration, of a recessive stuff bit monitored dominant (ISO 11898-1; log entry 120). -/
def State.canFailed (s : State) (n lec : Nat) (dataPhase quiet : Bool) : State :=
  let l := s.canLane n
  let lost := lec == 7
  let s := if lost then s.incCan n 14 else s.canErrCount n lec dataPhase
  let passive := s.getF (CanStatus.errState n) == 1
  let s := s.setCan n { l with inFlight := none }
  let s := if lost || (lec == 3 && passive && quiet) || (lec == 1 && quiet && !dataPhase) || s.canFrozenCounters n then s else s.tecRaise n
  let off := s.getF (CanStatus.errState n) == 2
  let status := fun (errs arbs : Nat) =>
    if lost then (if overLimit arbs (s.canPar n 0x0203) then some csArbLimit else none)
    else if overLimit errs (s.canPar n 0x0202) then some (if lec == 3 then csNoAck else csErrorLimit) else none
  match l.inFlight, l.fifo, l.at_ with
  | some .fifo, d :: t, _ =>
    let v := s.desc d
    let arbs := v.arbLosses + b2n lost
    let s := s.setDesc d { v with arbLosses := arbs }
    match status (v.attempts - arbs) arbs with
    | some st => if off then s else
        let s := (s.setFifo n t).canOutcome n d st
        if st == csNoAck then s.canNoAck n else s
    | none => s
  | some .atTime, _, some a =>
    let a := { a with arbLosses := a.arbLosses + b2n lost }
    match status (a.attempts - a.arbLosses) a.arbLosses with
    | some st => if off then s.setCan n { s.canLane n with at_ := some a } else
        let s := s.atOutcome n a st
        if st == csNoAck then s.canNoAck n else s
    | none => s.setCan n { s.canLane n with at_ := some a }
  | _, _, _ => s

/-- The recovery count starts (R176). -/
def State.canRecoverStart (s : State) (n : Nat) : State :=
  (s.setCan n { s.canLane n with recoverAt := none }).setF (CanStatus.recovering n) 1

/-- Bus-off recovery ends (R176). -/
def State.canRecovered (s : State) (n : Nat) : State :=
  let s := ((s.setF (CanStatus.recovering n) 0).setF (CanErrStatus.tec n) 0).setF (CanErrStatus.rec n) 0
  let s := (s.canErrSync n).canEvent n 2
  s.setCan n { s.canLane n with recheck := (s.canLane n).fifo.length, tried := none }

/-! ### Host transmit ring and transmission at a time (R180, R188) -/

/-- Arm a frame in the comparator; one more than LATE_WINDOW in the past ends at once with LATE (R180). -/
def State.atArm (s : State) (n : Nat) (bytes : List Byte) (time : Nat) (comp : Option Nat) : State :=
  let a : AtFrame := { bytes := bytes, at_ := time, comp := comp }
  let past := !strandAfter time s.strand && decide (strandDiff s.strand time > usC (s.canPar n 0x0207))
  if past then s.atOutcome n a csLate
  else (s.setCan n { s.canLane n with at_ := some a }).setF (CanStatus.atArmed n) 1

/-- Copy a transmit record into its class queue (R188): none where admission would not grant every cell, or while the queues of the
Channel's Span do not admit (R385 step 1). -/
def State.canEnqueueTx (s : State) (n : Nat) (r : List Byte) (ring : Option Nat) : Option State :=
  let cls := bitsOf (leAt r 14 1) 2 0
  let spec : CopySpec := { queue := canQueue n + cls, cls := cls, comp := ring, hostTx := true }
  if !s.spanOpen (24 + n) then none else
  match s.storeFrame 24 s.strand (txStored r s.strand) [spec] with
  | ([], _) => none
  | (_, t) => some t

/-- Reserve a completion granule (R188). -/
def State.txcReserve (s : State) (n : Nat) : State :=
  s.setCan n { s.canLane n with compReserved := (s.canLane n).compReserved + 1 }

/-- HOST_TX_RECORD_TAKE (R188): the record at TXQ_TAIL, if it can be taken. -/
def State.canTake (s : State) (n : Nat) : State :=
  let tail := ptrPos (s.word (TxqTail.off n)) 1536
  let used := ringUsed (s.word (TxqHead.off n)) (s.word (TxqTail.off n)) 1536
  let idx := tail % 1536
  let r := memReads s.bar2 (n * 65536 + 0x8000 + idx * 16) 24
  let l := s.canLane n
  if s.canPar n 0x0303 != 1 || !s.flag (CanStatus.enabled n) || s.flag (CanStatus.draining n) || l.disabling.isSome ||
      l.ringStopped || !s.spanOpen (24 + n) || used == 0 then s
  else if recFormat r == 3 then s.setWord (TxqTail.off n) (ptrWord (tail + (1536 - idx)) 1536)
  else
    let g := recGranules r
    if g > used || idx + g > 1536 then (s.setCan n { l with ringStopped := true }).canEvent n 4
    else
      let r := memReads s.bar2 (n * 65536 + 0x8000 + idx * 16) (recBytes r)
      let want := bitOf (leAt r 14 1) 3
      if want && s.txcFree n == 0 then s
      else
        let ring := if want then some idx else none
        let next := fun (s : State) => s.setWord (TxqTail.off n) (ptrWord (tail + g) 1536)
        let s' := if want then s.txcReserve n else s
        let ended := fun (s : State) (st : Nat) =>
          let s := s.countStatus n st
          if want then s.txcWrite n idx st 0 0 0 else s
        if !txRecordOk r then ended (next s') csBadRecord
        else if !s.canCarries n r then ended (next s') csFormat
        else if bitOf (leAt r 14 1) 4 then
          if l.at_.isSome then ended (next s') csBusy
          else (next s').atArm n (txStored r s.strand) (leAt r 8 6) ring
        else
          match s'.canEnqueueTx n r ring with
          | none => s
          | some t => next t

/-! ### The commands of the Lane -/

/-- CLASS_SCHEDULER_FEED (R168); `upset` is what the read of the frame meets, as in `readMeets` (R274, R280). -/
def execClassSchedulerFeed (n : Fin 64) (upset : Fin 7) (s : State) : Host.Outcome State Fault Refusal := .next (s.canFeed n upset)

/-- CAN_ATTEMPT_START (R168, R180). -/
def execCanAttemptStart (n : Fin 64) (s : State) : Host.Outcome State Fault Refusal := .next (s.canStart n)

/-- CAN_ATTEMPT_END (R171): outcome 0 success, 1..6 the LEC code of an error, 7 lost arbitration. -/
def execCanAttemptEnd (n : Fin 64) (outcome : Fin 8) (dataPhase quiet : Bool) (s : State) :
    Host.Outcome State Fault Refusal :=
  .next (if (s.canLane n).inFlight.isNone then s
    else if outcome.val = 0 then (s.canSent n).canAfterAttempt n
    else (s.canFailed n outcome dataPhase quiet).canAfterAttempt n)

/-- RECOVER_DELAY_EXPIRY (R176). -/
def execRecoverDelayExpiry (n : Fin 64) (s : State) : Host.Outcome State Fault Refusal :=
  .next (match (s.canLane n).recoverAt with
    | none => s
    | some t => (s.timeTo t).canRecoverStart n)

/-- RECOVERY_COUNT_DONE (R176). -/
def execRecoveryCountDone (n : Fin 64) (s : State) : Host.Outcome State Fault Refusal :=
  .next (if s.flag (CanStatus.recovering n) && !s.flag (CanStatus.laneGated n) then s.canRecovered n else s)

/-- AT_TIME_RELEASE (R180): the Strand counter reaches AT_TIME. -/
def execAtTimeRelease (n : Fin 64) (s : State) : Host.Outcome State Fault Refusal :=
  .next (match (s.canLane n).at_ with
    | none => s
    | some a =>
      let s := s.timeTo a.at_
      s.setCan n { s.canLane n with at_ := some { a with released := true } })

/-- AT_TIME_LATE (R180): the window has passed and the frame is not in flight. -/
def execAtTimeLate (n : Fin 64) (s : State) : Host.Outcome State Fault Refusal :=
  .next (match (s.canLane n).at_ with
    | none => s
    | some a =>
      if (s.canLane n).inFlight == some .atTime then s
      else
        let s := s.timeTo (strandPlus a.at_ (usC (s.canPar n 0x0207) + 1))
        s.atOutcome n a csLate)

/-- XCVR_MODE_APPLY (R165): no frame is on the bus, and the commanded mode is applied. -/
def execXcvrModeApply (n : Fin 16) (s : State) : Host.Outcome State Fault Refusal :=
  .next (match (s.canLane n).xcvrPend with
    | none => s
    | some m =>
      if (s.canLane n).inFlight.isSome then s
      else s.setCan n { s.canLane n with xcvrPend := none, xcvrGoing := some m })

/-- TXD_DOMINANT_TIMEOUT (R166): TXD_TIMEOUTS. -/
def execTxdDominantTimeout (n : Fin 16) (s : State) : Host.Outcome State Fault Refusal := .next (s.incCan n 26)

/-- HOST_TX_RECORD_TAKE (R188). -/
def execHostTxRecordTake (n : Fin 64) (s : State) : Host.Outcome State Fault Refusal := .next (s.canTake n)

/-- RXQ_TAIL_WRITE, TXQ_HEAD_WRITE, TXC_TAIL_WRITE (R186); the registers of a Lane that the variant lacks ignore writes (R3). -/
def execRxqTailWrite (n : Fin 64) (w : Word) (s : State) : Host.Outcome State Fault Refusal :=
  .next (s.hosted (if s.lacksCan n then s else s.canMoveTail n (RxqHead.off n) (RxqTail.off n) 2048 w.toNat))
def execTxqHeadWrite (n : Fin 64) (w : Word) (s : State) : Host.Outcome State Fault Refusal :=
  .next (s.hosted (if s.lacksCan n then s else s.canMoveTxq n w.toNat))
def execTxcTailWrite (n : Fin 64) (w : Word) (s : State) : Host.Outcome State Fault Refusal :=
  .next (s.hosted (if s.lacksCan n then s else s.canMoveTail n (TxcHead.off n) (TxcTail.off n) 512 w.toNat))

/-- CAN_DRAIN_DONE (R193). -/
def execCanDrainDone (n : Fin 64) (s : State) : Host.Outcome State Fault Refusal :=
  .next (if s.flag (CanStatus.draining n) && s.canIdle n then s.canDisabled n else s)

/-- CAN_DRAIN_TIMEOUT (R193): the drain continues as force. -/
def execCanDrainTimeout (n : Fin 64) (s : State) : Host.Outcome State Fault Refusal :=
  .next (match (s.canLane n).disabling with
    | some d => if d.mode == 1 then (s.timeTo d.deadline).canForce n d.ticket else s
    | none => s)

/-- CAN_INTEGRATION (R110, R165): 11 recessive bits have been seen; a gated Lane sees none (R24). -/
def execCanIntegration (n : Fin 64) (s : State) : Host.Outcome State Fault Refusal :=
  .next (if s.flag (CanStatus.enabled n) && !s.flag (CanStatus.laneGated n) &&
      (decide (16 ≤ n.val) || decide (s.getF (CanStatus.xcvrMode n) ≤ 1))
    then s.setF (CanStatus.integrating n) 0 else s)

/-- Does the Lane take part in the bus as a receiver: enabled, integrated, not in bus-off, its transceiver in normal or
listen-only mode, its island powered? -/
def State.canListens (s : State) (n : Nat) : Bool :=
  s.flag (CanStatus.enabled n) && !s.flag (CanStatus.integrating n) && !s.flag (CanStatus.laneGated n) &&
  s.getF (CanStatus.errState n) != 2 && (decide (16 ≤ n) || decide (s.getF (CanStatus.xcvrMode n) ≤ 1))

/-- An error that the Lane detects as receiver (R173). Restricted operation and bus monitoring freeze the counters; in restricted
operation the Lane then waits for 11 recessive bits (R177). -/
def State.canRxErr (s : State) (n lec : Nat) (dataPhase : Bool) (k : Nat) : State :=
  let s := (s.canErrCount n lec dataPhase).recRaise n k
  if s.flag (CanStatus.restricted n) then s.setF (CanStatus.integrating n) 1 else s

/-- CAN_RX_ERROR (R173): an error as receiver, `lec` 1 stuff, 2 form, 4 and 5 bit, 6 CRC; `dominant` where the Lane sees a
dominant bit as the first bit after its error flag. A Lane that takes no part in the bus, its transceiver in standby or sleep say,
sees it recessive and detects nothing (R164). -/
def execCanRxError (n : Fin 64) (lec : Fin 7) (dataPhase dominant : Bool) (s : State) : Host.Outcome State Fault Refusal :=
  .next (if !s.canListens n || lec.val = 0 || lec.val = 3 then s
    else s.canRxErr n lec dataPhase (if dominant then 9 else 1))

end Sys2Proof.Machine
end

