-- ==== Sys2Proof/Machine/LinLane.lean ====
section
/-! DEFINITION. LIN Lanes (R194 to R206): publish buffers, schedules, sleep command, wake-up pulse and disable. The commands
that reach a Span stand in Lin.lean. -/

namespace Sys2Proof.Machine

/-! ### Access -/

def linDefault (_ : Nat) : LinLane := {}
def publishDefault (_ : Nat) : Publish := {}
def State.linLane (s : State) (n : Nat) : LinLane := tabGet linDefault s.lin n
def State.setLin (s : State) (n : Nat) (v : LinLane) : State := { s with lin := tabSet linDefault s.lin n v }
def State.linPar (s : State) (n pid : Nat) : Nat := s.par (oChan (88 + n)) pid
def State.incLin (s : State) (n i : Nat) : State := s.inc (oChan (88 + n)) cLin i

/-- A bit of LIN_EVENTS and its source. -/
def State.linEvent (s : State) (n bit : Nat) (detail : Nat := 0) : State :=
  s.event ⟨LinEvents.off n, bit, bit⟩ (0x700 + n * 8 + bit) detail

/-- Queue 0 (publish) and queue 1 (diagnostic) of LIN[n] (R196, R253). -/
def linQueue (n i : Nat) : Nat := 736 + n * 2 + i

/-- Frame table byte of a frame ID (R195): DIRECTION, ENHANCED, LENGTH. -/
def State.linFrame (s : State) (n id : Nat) : Nat :=
  bitsOf (s.par (oChan (88 + n)) pidFrameTable) (8 * id + 7) (8 * id)
def linDir (b : Nat) : Nat := bitsOf b 1 0
def linEnhanced (b : Nat) : Bool := bitOf b 2
def linLength (b : Nat) : Nat := bitsOf b 6 4 + 1

/-- Payload bytes of a frame ID: 8 for IDs 60 and 61. -/
def State.linLen (s : State) (n id : Nat) : Nat := if id ≥ 60 then 8 else linLength (s.linFrame n id)

/-- A schedule's COUNT and the fields of entry `e`: TYPE, ID, SLOT, ARG (R197). -/
def State.schedCount (s : State) (n t : Nat) : Nat := s.par (oSched (88 + n) t) (pidRaw 0)
def State.schedEntry (s : State) (n t e : Nat) : Nat × Nat × Nat × Nat :=
  let v := bitsOf (s.par (oSched (88 + n) t) (pidRaw 1)) (64 * e + 63) (64 * e)
  (bitsOf v 7 0, bitsOf v 15 8, bitsOf v 31 16, bitsOf v 63 32)

/-- Strand cycles of tenths of a bit time at BAUD. -/
def State.linBits (s : State) (n tenths : Nat) : Nat := ceilDiv (tenths * 80000000) (s.linPar n 0x0101)

/-- TFrame_Max in tenths of a bit time for N bytes (R198): 1.4 × (34 + 10 × (N + 1)). -/
def tFrameMax (n : Nat) : Nat := 14 * (34 + 10 * (n + 1))

/-! ### Activity and buffers -/

/-- The bus has shown activity (R202, R382). -/
def State.linActivity (s : State) (n : Nat) : State :=
  let l := s.linLane n
  (s.setLin n { l with activity := s.strand, demand := l.demand || s.getF (LinStatus.roleActive n) == 2 }).setF
    (LinStatus.busIdle n) 0

def State.publish (s : State) (n id : Nat) : Publish := tabGet publishDefault (s.linLane n).publish id
def State.setPublish (s : State) (n id : Nat) (p : Publish) : State :=
  let l := s.linLane n
  s.setLin n { l with publish := tabSet publishDefault l.publish id p }

/-- A subscribed response has not come in time (R203). -/
def State.linNoResponse (s : State) (n : Nat) : State := (s.incLin n 3).linEvent n 0

/-- Tenths of a bit time from the end of the protected ID to the end of the time for a response of frame ID `id` (R203). -/
def State.linWait (s : State) (n id : Nat) : Nat := 14 * 10 * (s.linLen n id + 1)

/-- Put out a header, whose break starts now (R199, R203): break, delimiter, sync field and protected ID come before the response. -/
def State.linHeader (s : State) (n id : Nat) : State :=
  let s := (s.incLin n 2).linActivity n
  let head := 10 * (s.linPar n 0x0102 + s.linPar n 0x0103 + 20)
  let s := s.setLin n { s.linLane n with brk := s.strand, respEnd := s.after (s.linBits n (head + s.linWait n id)) }
  { s with out := .linHeader n id :: s.out }

/-- Put out a response. -/
def State.linRespond (s : State) (n id : Nat) (data : List Byte) : State :=
  let s := (s.incLin n 1).linActivity n
  { s with out := .linResponse n id data :: s.out }

/-- Send the publish buffer of an ID, which is then unchanged until it is written again. -/
def State.linSendBuffer (s : State) (n id : Nat) : State :=
  let p := s.publish n id
  (s.setPublish n id { p with changed := false }).linRespond n id p.data

/-- Take the head of queue 1, dropping aged frames (R196, R174), at most `k`, and one that meets an error `u` (R274, R280). -/
def State.linTakeDiag (s : State) (n u : Nat) : Nat → Option (List Byte) × State
  | 0 => (none, s)
  | k + 1 =>
    match s.queue (linQueue n 1) with
    | [] => (none, s)
    | d :: t =>
      if s.aged d then ((s.setQueue (linQueue n 1) t).releaseCopy d).linTakeDiag n u k
      else
        match s.takeRead (linQueue n 1) u with
        | some (some (_, b), s) => (some (recPayload b), s)
        | some (none, s) => s.linTakeDiag n 0 k
        | none => (none, s)

/-- PUBLISH_BUFFER_WRITE (R196): the head of queue 0 overwrites the publish buffer of its ID. -/
def State.linPublishWrite (s : State) (n u : Nat) : State :=
  match s.queue (linQueue n 0) with
  | [] => s
  | d :: t =>
    if s.aged d then (s.setQueue (linQueue n 0) t).releaseCopy d
    else
      match s.takeRead (linQueue n 0) u with
      | none => s
      | some (none, s) => s
      | some (some (_, b), s) =>
        let id := bitsOf (recId b) 5 0
        let f := s.linFrame n id
        if linDir f != 1 || recLen b != linLength f then s.incLin n 12
        else s.setPublish n id { data := recPayload b, written := true, changed := true }

/-! ### Slots (R199) -/

/-- The slot's kind and end. -/
def State.linSlot (s : State) (n : Nat) (k : SlotKind) (id cycles : Nat) : State :=
  s.setLin n { s.linLane n with slot := k, lastId := id, slotEnd := s.after cycles, collided := false }

/-- A published ID's slot: header and response, or silence with NO_DATA. -/
def State.linPublished (s : State) (n id cyc : Nat) : State :=
  if (s.publish n id).written then ((s.linHeader n id).linSendBuffer n id).linSlot n .publish id cyc
  else (s.incLin n 9).linSlot n .silent id cyc

/-- Start entry `e` of table `t`; `u` is what the read of a diagnostic frame meets. -/
def State.linStartEntry (s : State) (n t e : Nat) (u : Nat := 0) : State :=
  let s := (s.setF (LinStatus.table n) t).setF (LinStatus.entry n) e
  if s.schedCount n t == 0 then s.linSlot n .idle 0 0
  else
    let (typ, id, slot, arg) := s.schedEntry n t e
    let cyc := usC (slot * 100)
    match typ with
    | 0 =>
      if linDir (s.linFrame n id) == 1 then s.linPublished n id cyc
      else (s.linHeader n id).linSlot n (if linDir (s.linFrame n id) == 2 then .subscribe else .silent) id cyc
    | 1 => (s.linHeader n id).linSlot n .event id cyc
    | 2 =>
      let ids := (List.range 4).map (fun i => bitsOf arg (8 * i + 7) (8 * i))
      match ids.find? (fun i => decide (i < 60) && (s.publish n i).changed) with
      | some i => ((s.linHeader n i).linSendBuffer n i).linSlot n .publish i cyc
      | none => s.linSlot n .silent 0 cyc
    | 3 =>
      match s.linTakeDiag n u 65536 with
      | (some d, s) => (((s.linHeader n 60).linRespond n 60 d).incLin n 10).linSlot n .diagReq 60 cyc
      | (none, s) => s.linSlot n .silent 60 cyc
    | _ => (s.linHeader n 61).linSlot n .subscribe 61 cyc

/-- Start a schedule table at entry 0 (R200, R201). -/
def State.linStartTable (s : State) (n t : Nat) (u : Nat := 0) : State :=
  let s := ((s.setF (LinStatus.running n) 1).setF (LinStatus.collRes n) 0).setF (LinStatus.sleepSent n) 0
  let s := s.setLin n { s.linLane n with resume := [], reload := [], restartAt := none, select := none }
  s.linStartEntry n t 0 u

/-- The schedule stops. -/
def State.linStop (s : State) (n : Nat) : State :=
  let s := (s.setF (LinStatus.running n) 0).setF (LinStatus.collRes n) 0
  s.setLin n { s.linLane n with slot := .idle, resume := [], select := none, reload := [] }

/-- The sleep command's data (R201). -/
def sleepData : List Byte := 0x00 :: List.replicate 7 0xFF

/-- Send the sleep command in a slot of TFrame_Max. -/
def State.linSendSleep (s : State) (n : Nat) : State :=
  let s := s.setLin n { s.linLane n with sleepPend := false, select := none }
  ((s.linHeader n 60).linRespond n 60 sleepData).linSlot n .sleep 60 (s.linBits n (tFrameMax 8))

/-- Resume the interrupted table that stands first, after collision resolution (R199); COLL_RES ends with the last of them. -/
def State.linResume (s : State) (n : Nat) (u : Nat := 0) : State :=
  let l := s.linLane n
  match l.resume with
  | (t, e) :: r =>
    let s := (s.setFlag (LinStatus.collRes n) (!r.isEmpty)).setLin n { l with resume := r }
    s.linStartEntry n t (if e < s.schedCount n t then e else 0) u
  | [] => s.linStartEntry n (s.getF (LinStatus.table n)) 0 u

/-- The entry after the one in use, or the interrupted table's after the last entry of collision resolution (R199). An interrupted
collision-resolution table whose last entry it was has run once too, and ends. -/
def State.linNextEntry (s : State) (n : Nat) (u : Nat := 0) : State :=
  let t := s.getF (LinStatus.table n)
  let e := s.getF (LinStatus.entry n) + 1
  if e < s.schedCount n t then s.linStartEntry n t e u
  else if s.flag (LinStatus.collRes n) then
    let l := s.linLane n
    -- a table below the outermost one resumes only where an entry of it is left
    let done := l.resume.dropLast.takeWhile (fun x => decide (s.schedCount n x.1 ≤ x.2))
    (s.setLin n { l with resume := l.resume.drop done.length }).linResume n u
  else s.linStartEntry n t 0 u

/-- The outermost table in use that a commit has changed restarts at entry 0 (R200): what it had interrupted stays interrupted, and the
collision resolution that ran inside it is abandoned. -/
def State.linReload (s : State) (n : Nat) (u : Nat := 0) : State :=
  let l := s.linLane n
  let chain := (l.resume.map (·.1)).reverse ++ [s.getF (LinStatus.table n)]
  let outer := chain.takeWhile (fun t => !l.reload.contains t)
  let s := s.setLin n { l with reload := [], resume := l.resume.drop (l.resume.length - outer.length) }
  (s.setFlag (LinStatus.collRes n) (!outer.isEmpty)).linStartEntry n (chain.getD outer.length (s.getF (LinStatus.table n))) 0 u

/-- A collision in the event-triggered slot that has ended: the collision-resolution table runs once. One in a table that itself
resolves a collision interrupts that table in its turn (DEDUCED, log entry 102). -/
def State.linCollision (s : State) (n : Nat) (u : Nat := 0) : State :=
  let t := s.getF (LinStatus.table n)
  let e := s.getF (LinStatus.entry n)
  let (_, _, _, arg) := s.schedEntry n t e
  let s := s.setLin n { s.linLane n with resume := (t, e + 1) :: (s.linLane n).resume, collided := false }
  (s.setF (LinStatus.collRes n) 1).linStartEntry n (bitsOf arg 4 0) 0 u

/-- The Channel reaches ENABLED 0 (R111). -/
def State.linDisabled (s : State) (n : Nat) : State :=
  let l := s.linLane n
  let t := match l.disabling with | some d => d.ticket | none => 0
  let s := s.linStop n
  let s := s.setLin n { s.linLane n with disabling := none, publish := [], sleepPend := false, pulseEnd := none, restartAt := none,
                                         wakeRestart := false, demand := false }
  let s := { s with chanOn := tabSet (fun _ => false) s.chanOn (88 + n) false }
  (s.setF (LinStatus.roleActive n) 0).finishRef t stDone

/-- Discard what the Channel's queues hold. -/
def State.linDiscard (s : State) (n : Nat) : State := (s.flushQueue (linQueue n 0)).flushQueue (linQueue n 1)

/-- Force disable (R111): queue 1 is flushed and the frame in progress completes at the slot's end. Queue 0 is flushed too, where the
table of R111 names queue 1 and the publish buffers (DESIGN CHOICE, log entry 130). -/
def State.linForce (s : State) (n ticket : Nat) : State :=
  let s := (s.setLin n { s.linLane n with disabling := some ⟨2, ticket, 0⟩ }).linDiscard n
  if s.flag (LinStatus.running n) || (s.linLane n).slot != .idle then s else s.linDisabled n

/-- A slot boundary of a commander (R199 to R201). -/
def State.linBoundary (s : State) (n : Nat) (u : Nat := 0) : State :=
  let l := s.linLane n
  if s.getF (LinStatus.roleActive n) != 1 || s.flag (LinStatus.laneGated n) then s
  else
    let busy := l.slot != .idle
    let s := if busy then s.timeTo l.slotEnd else s
    let s := if l.slot == .subscribe then s.linNoResponse n else s
    let ending := match l.disabling with
      | some d => d.mode == 2 || (s.queue (linQueue n 1)).isEmpty
      | none => false
    if l.slot == .sleep then
      let s := ((s.linStop n).setF (LinStatus.sleepSent n) 1).linEvent n 4
      if ending then s.linDisabled n else if l.sleepPend then s.linSendSleep n else s
    else if ending then s.linDisabled n
    else if l.sleepPend then s.linSendSleep n
    else
      match l.select with
      | some (t, 0) => s.linStartTable n t u
      | some (_, _) => s.linStop n
      | none =>
        if !s.flag (LinStatus.running n) then s
        else if !l.reload.isEmpty then s.linReload n u
        else if l.slot == .event && l.collided then s.linCollision n u
        else s.linNextEntry n u

/-! ### Responder (R202, R203) -/

/-- A header the responder has decoded. The subscribed response that it cuts short is not complete in time (R203). -/
def State.linHeaderIn (s : State) (n id : Nat) (u : Nat := 0) : State :=
  let wait := s.linBits n (s.linWait n id)
  let s := if (s.linLane n).slot == .subscribe then s.linNoResponse n else s
  let s := s.setLin n { s.linLane n with respEnd := s.after wait }
  if id ≥ 62 then s.linSlot n .idle id 0
  else if id == 61 then
    match s.linTakeDiag n u 65536 with
    | (some d, s) => ((s.linRespond n 61 d).incLin n 10).linSlot n .idle 61 0
    | (none, s) => s.linSlot n .idle 61 0
  else if id == 60 then s.linSlot n .subscribe 60 wait
  else
    match linDir (s.linFrame n id) with
    | 1 => if (s.publish n id).written then (s.linSendBuffer n id).linSlot n .idle id 0 else (s.incLin n 9).linSlot n .idle id 0
    | 2 => s.linSlot n .subscribe id wait
    | _ => s.linSlot n .idle id 0

/-- A header fault (R203): 1 break, 2 sync, 3 parity. -/
def State.linHeaderFault (s : State) (n err : Nat) : State :=
  (s.incLin n (match err with | 1 => 13 | 2 => 6 | _ => 5)).linEvent n 2 err

/-- The wake-up pulse (R201). -/
def State.linPulse (s : State) (n : Nat) : State :=
  let s := s.setLin n { s.linLane n with pulseEnd := some (s.after (usC (s.linPar n 0x0104))), wakeRestart := true }
  { s.linActivity n with out := .linWakeup n :: s.out }

/-- PUBLISH_BUFFER_WRITE (R196); `upset` is what the read of the frame meets (R274, R280). -/
def execPublishBufferWrite (n : Fin 16) (upset : Fin 7) (s : State) : Host.Outcome State Fault Refusal :=
  .next (s.linPublishWrite n upset)

/-- LIN_SLOT_BOUNDARY (R199 to R201); `upset` is what the read of a diagnostic frame meets (R274, R280). -/
def execLinSlotBoundary (n : Fin 16) (upset : Fin 7) (s : State) : Host.Outcome State Fault Refusal := .next (s.linBoundary n upset)

/-- LIN_SCHEDULE_RESTART (R201): 100 ms after the pulse, unless a SCHEDULE_SELECT came first. -/
def execLinScheduleRestart (n : Fin 16) (s : State) : Host.Outcome State Fault Refusal :=
  .next (match (s.linLane n).restartAt, (s.linLane n).lastTable with
    | some d, some t => (s.timeTo d).linStartTable n t
    | _, _ => s)

/-- The slot's response is over. The slot of the sleep command stays one (R201), and none begins. -/
def State.linResponseEnd (s : State) (n : Nat) : State :=
  let l := s.linLane n
  s.setLin n { l with slot := if s.getF (LinStatus.roleActive n) == 2 then .idle
    else if l.slot == .sleep || l.slot == .idle then l.slot else .silent }

/-- LIN_TXD_TIMEOUT (R206): counted in BIT_ERR, and the frame in progress ends. -/
def execLinTxdTimeout (n : Fin 8) (s : State) : Host.Outcome State Fault Refusal :=
  .next (
    let s := s.incLin n 7
    s.linResponseEnd n)

/-- WAKEUP_PULSE_END (R201): WAKEUP_SENT, and a commander's restart 100 ms later. -/
def execWakeupPulseEnd (n : Fin 16) (s : State) : Host.Outcome State Fault Refusal :=
  .next (match (s.linLane n).pulseEnd with
    | none => s
    | some d =>
      let s := s.timeTo d
      let l := s.linLane n
      let cmd := s.getF (LinStatus.roleActive n) == 1 && l.lastTable.isSome && !s.flag (LinStatus.running n) && l.wakeRestart
      let s := s.setLin n { l with pulseEnd := none, wakeRestart := false, restartAt := if cmd then some (s.after (msC 100)) else none }
      (s.incLin n 11).linEvent n 5)

/-- LIN_DRAIN_TIMEOUT (R111). -/
def execLinDrainTimeout (n : Fin 16) (s : State) : Host.Outcome State Fault Refusal :=
  .next (match (s.linLane n).disabling with
    | some d => if d.mode == 1 then (s.timeTo d.deadline).linForce n d.ticket else s
    | none => s)

end Sys2Proof.Machine
end

