-- ==== Sys2Proof/Machine/Ports.lean ====
section
/-! DEFINITION. Ethernet and Pier port state (R122 to R155): link up and down, flow control reception, preemption
verification, collisions, disable, MDIO, and the ends of flushes. -/

namespace Sys2Proof.Machine

/-! ### Frames on their way in and out -/

/-- A copy of a frame found bad (R130): one not yet linked, queued, or without a byte sent is released without being counted, and one
on the wire is ended with an inverted FCS. -/
def State.copyBad (s : State) (o d : Nat) : State :=
  match (s.desc d).state with
  | .receiving => if d == o && (s.desc o).copies == 0 then s else s.dropUnlinked d
  | .queued => (s.unqueue d).releaseCopy d
  | .active =>
    match s.readerOf d with
    | some (p, e) => if e.data.isEmpty then (s.egressErase p).releaseCopy d else s.truncate p
    | none => s
  | _ => s

/-- A frame found bad after cells were written (R130, R133): its copies go, and with the last of them its cells and its owner. -/
def State.rxDrop (s : State) (id : Nat) (f : RxFrame) : State :=
  let s := s.eraseRx id
  match f.owner with
  | none => s
  | some o =>
    let s := s.setDesc o { s.desc o with length := f.written.length * 64 }
    let copies := (s.buf.descs.filter (fun kv => kv.2.owner == o && kv.2.state != .free)).map (·.1)
    (copies.foldl (fun s d => s.copyBad o d) s).ownerDone o

/-- End a port's egress read without completing its frame: the copy is released, aborted where its first bit has left (R351). -/
def State.egressEnd (s : State) (p : Nat) (e : EgressRead) : State :=
  let s := s.egressErase p
  let s := if e.data.isEmpty then s.tsqDiscard e.d else s.tsqAbort p e.d
  if e.released then s else s.releaseCopy e.desc

/-! ### Link state (R133 to R135) -/

/-- Frames from port `p` with cells still to be written are freed (R133); one found bad has been counted (R128). -/
def State.rxAbort (s : State) (p : Nat) : State :=
  (s.buf.rx.filter (fun kv => kv.2.port == p && !kv.2.todo.isEmpty)).foldl (fun (s : State) kv =>
    let t := s.rxDrop kv.1 kv.2
    if kv.2.bad then t else t.inc (oChan p) cEth 9) s

/-- The frame in transmission, and one held part-sent, are lost (R133). -/
def State.txAbort (s : State) (p : Nat) : State :=
  let s := match tabFind s.buf.egress p with
    | some e => (s.egressEnd p e).inc (oChan p) cEth 21
    | none => s
  match (s.port p).held with
  | some e =>
    let s := (s.setPort p { s.port p with held := none }).tsqAbort p e.d
    (if e.released then s else s.releaseCopy e.desc).inc (oChan p) cEth 21
  | none => s

/-- Received pause timers, asserted XOFFs and pause storms of a port are cleared (R134). -/
def State.clearPause (s : State) (p : Nat) : State :=
  let s := (s.setReg (PortPauseStatus.off p) 0).setF (PortStatus.storm p) 0
  s.setPort p { s.port p with rxTimer := [], dogAt := [], stormEnd := [], fcPend := 0, refreshAt := none }

/-- A 10GBASE-R port sends fault ordered sets of a kind, 0 for none (R123). -/
def State.faultSend (s : State) (p kind : Nat) : State :=
  if (s.port p).faultTx == kind then s
  else { s.setPort p { s.port p with faultTx := kind } with out := .faultSets p kind :: s.out }

/-- 1000BASE-X negotiation starts anew and advertises symmetric PAUSE with FC_MODE 1 and RX_PAUSE_EN 1, else no PAUSE ability (R126). -/
def State.anStart (s : State) (p : Nat) : State :=
  if p ≤ 19 && s.chanEnabled p && s.getF (PortStatus.modeActive p) == 2 && s.par (oChan p) 0x0101 == 1 &&
      !s.flag (PortStatus.laneGated p) then
    { s with out := .advertise p (s.fcMode p == 1 && s.par (oChan p) 0x0201 == 1) :: s.out }
  else s

/-- The credit of every stream shaper on a port is 0 (R332). -/
def State.streamCreditsClear (s : State) (p : Nat) : State :=
  (s.egr.tags.filter (fun kv => s.queuePort kv.1 == some p)).foldl (fun (s : State) kv =>
    s.setTag kv.1 { s.tag kv.1 with credit := 0 }) s

/-- Link-down of a port (R133, R134, R343), and what firmware owes for it (R229). Its negotiation is no longer complete, its PHY reports
no duplex any more (R127), and a disable that waited for its frames has only the flush left to wait for (R111). -/
def State.portDown (s : State) (p : Nat) : State :=
  let s := ((s.setF (PortStatus.holding p) 0).setF (PortStatus.anDone p) 0).setF (PortStatus.halfDuplex p) 0
  let s := s.setPort p { s.port p with cond := false, holdEnd := none, holdOver := false }
  if !s.flag (PortStatus.linkUp p) then s
  else
    let s := (s.setF (PortStatus.linkUp p) 0).inc (oChan p) cEth 28
    let s := s.event (PortEvents.linkChange p) (0x100 + p * 16)
    let s := (s.clearPause p).setF (PortStatus.verify p) 0
    let s := (s.rxAbort p).txAbort p
    let s := s.setPort p { s.port p with
      verifyAt := none, verifyTries := 0, collisions := 0, backoffAt := none, credit := [], toEnd := none, toLeft := 0, deferred := false,
      disabling := (s.port p).disabling.map (fun d => { d with mode := 3 }) }
    let s := s.streamCreditsClear p
    let s := s.startFlush (s.portQueues p) (some p)
    let s := { s with fwd := { s.fwd with linkDownRemoval := (s.fwd.linkDownRemoval.filter (· != p)) ++ [p] } }
    s.timeLinkDown p

/-- LINK_UP is set (R135), WFQ starts anew, and preemption is verified (R147). -/
def State.portUp (s : State) (p : Nat) : State :=
  let s := (s.setF (PortStatus.linkUp p) 1).setF (PortStatus.holding p) 0
  let s := s.setPort p { s.port p with holdEnd := none, holdOver := false, v := [], credit := [], creditAt := s.strand }
  let s := { s with egr := { s.egr with tags := s.egr.tags.filter (fun kv => s.queuePort kv.1 != some p) } }
  let s := s.event (PortEvents.linkChange p) (0x100 + p * 16)
  if p ≤ 11 && s.par (oChan p) 0x0400 == 1 then
    if s.par (oChan p) 0x0401 == 1 then s.setF (PortStatus.verify p) 2
    else
      let s := s.setPort p { s.port p with verifyTries := 1, verifyAt := some (s.after (msC (s.par (oChan p) 0x0402))) }
      { s.setF (PortStatus.verify p) 1 with out := .mpacket p 0 :: s.out }
  else s

/-- The Lane island of a port is gated by Span sleep: LANE_GATED and R134. -/
def State.portGate (s : State) (p : Nat) : State := ((s.setF (PortStatus.laneGated p) 1).portDown p).faultSend p 0

/-! ### Disable (R111) -/

/-- Has the port nothing left to send? -/
def State.portIdle (s : State) (p : Nat) : Bool :=
  (tabFind s.buf.egress p).isNone && (s.port p).held.isNone && (s.portQueues p).all (fun q => (s.queue q).isEmpty)

/-- The MAC stops: the link goes down; the disable completes when the flush ends. -/
def State.portStop (s : State) (p ticket : Nat) : State :=
  let up := s.flag (PortStatus.linkUp p)
  let s := (s.portDown p).faultSend p 0
  let s := if up || s.getF (PortStatus.flushing p) == 1 then s else s.startFlush (s.portQueues p) (some p)
  s.setPort p { s.port p with disabling := some ⟨3, ticket, 0⟩ }

/-- A frame is on the wire of a port: one in back-off, or deferred by PLCA, is not. -/
def State.onWire (s : State) (p : Nat) : Option EgressRead :=
  if (s.port p).backoffAt.isSome || (s.port p).deferred then none else tabFind s.buf.egress p

/-- Force: the frame in transmission completes first. -/
def State.portForce (s : State) (p ticket : Nat) : State :=
  if (s.onWire p).isSome then s.setPort p { s.port p with disabling := some ⟨2, ticket, 0⟩ }
  else s.portStop p ticket

/-- No frame is on the wire: a disable that waits for that goes on. -/
def State.portDisableStep (s : State) (p : Nat) : State :=
  match (s.port p).disabling with
  | none => s
  | some d =>
    if d.mode == 2 && (s.onWire p).isNone then s.portStop p d.ticket
    else if d.mode == 1 && s.portIdle p then s.portStop p d.ticket
    else s

/-! ### Flow control reception (R140 to R143) -/

/-- Bits of a class in the pause fields: all of them under FC_MODE 1. -/
def State.pauseMask (s : State) (p c : Nat) : Nat := if s.fcMode p == 1 then 0xFF else 2 ^ c

def orMask (a b : Nat) : Nat := maskOf ((List.range 8).filter (fun i => bitOf a i || bitOf b i))
def andNot (a b : Nat) : Nat := maskOf ((List.range 8).filter (fun i => bitOf a i && !bitOf b i))

/-- A class's transmission resumes. -/
def State.pauseEnd (s : State) (p c : Nat) : State :=
  let s := s.setF (PortPauseStatus.rxPaused p) (andNot (s.getF (PortPauseStatus.rxPaused p)) (s.pauseMask p c))
  let e := s.port p
  s.setPort p { e with rxTimer := tabErase e.rxTimer c, dogAt := tabErase e.dogAt c }

/-- A received time for a class (R140, R141): it replaces the timer; 0 ends the pause. -/
def State.pauseSet (s : State) (p c quanta : Nat) : State :=
  if quanta = 0 then s.pauseEnd p c
  else
    let was := bitOf (s.getF (PortPauseStatus.rxPaused p)) c
    let s := s.setF (PortPauseStatus.rxPaused p) (orMask (s.getF (PortPauseStatus.rxPaused p)) (s.pauseMask p c))
    let e := s.port p
    let dog := if was then e.dogAt else tabInsert e.dogAt c (s.after (msC (s.par (oChan p) 0x0205)))
    s.setPort p { e with rxTimer := tabInsert e.rxTimer c (s.after (s.quanta p quanta)), dogAt := dog }

/-- Is a class in pause-storm state? -/
def State.inStorm (s : State) (p c : Nat) : Bool := bitOf (s.getF (PortPauseStatus.stormClasses p)) c

/-- A class leaves pause-storm state (R142). -/
def State.stormExit (s : State) (p c : Nat) : State :=
  if !s.inStorm p c then s
  else
    let m := andNot (s.getF (PortPauseStatus.stormClasses p)) (s.pauseMask p c)
    let s := (s.setF (PortPauseStatus.stormClasses p) m).setFlag (PortStatus.storm p) (m != 0)
    let e := s.port p
    let s := s.setPort p { e with stormEnd := tabErase e.stormEnd c }
    s.event (PortEvents.stormExit p) (0x102 + p * 16) c

/-- A class's watchdog has expired at `d`: its pause timer is cleared, and it enters pause-storm state, recorded, counted, held for
STORM_HOLD from `d` on, and reported (R142). -/
def State.stormEnter (s : State) (p c d : Nat) : State :=
  let s := s.pauseEnd p c
  let m := orMask (s.getF (PortPauseStatus.stormClasses p)) (s.pauseMask p c)
  let s := ((s.setF (PortPauseStatus.stormClasses p) m).setF (PortStatus.storm p) 1).inc (oChan p) cEth 27
  let e := s.port p
  let s := s.setPort p { e with stormEnd := tabInsert e.stormEnd c (strandPlus d (msC (s.par (oChan p) 0x0206))) }
  s.event (PortEvents.stormEnter p) (0x101 + p * 16) c

/-- What of a class's timers has fallen due when a MAC control frame completes (R141 to R143): its pause timer; a watchdog that
expired before this cycle, while a frame that completes in the cycle of the expiry comes first; and STORM_HOLD, which ends first in
its own cycle. -/
def State.pauseDue (s : State) (p c : Nat) : State :=
  let before := fun (t : Nat) => match tabFind (s.port p).dogAt c with | some d => strandAfter d t | none => true
  let s := match tabFind (s.port p).rxTimer c with
    | some t => if strandAfter s.strand t && before t then s.pauseEnd p c else s
    | none => s
  let s := match tabFind (s.port p).dogAt c with
    | some d => if strandAfter s.strand d && s.strand != d then s.stormEnter p c d else s
    | none => s
  match tabFind (s.port p).stormEnd c with
  | some d => if strandAfter s.strand d then s.stormExit p c else s
  | none => s

/-- MAC_CONTROL_RECEIVE (R140, R142, R143): opcode and parameters of a MAC control frame. A PFC frame that names a class in
pause-storm state and a live one counts RX_PFC alone (DESIGN CHOICE, log entry 131). -/
def State.macControl (s : State) (p : Nat) (b : List Byte) : State :=
  let s := if p ≤ 11 then (List.range 8).foldl (fun s c => s.pauseDue p c) s else s
  let dst := b.take 6
  let ours := dst == [0x01, 0x80, 0xC2, 0x00, 0x00, 0x01] || dst == s.stationMac p
  let op := beAt b 14 2
  let mode := s.fcMode p
  let en := p ≤ 11 && s.par (oChan p) 0x0201 == 1
  let ignored := fun (s : State) => s.inc (oChan p) cEth 12
  if !ours || !en then ignored s
  else if op == 0x0001 && mode == 1 then
    if s.inStorm p 0 then ignored s else (s.pauseSet p 0 (beAt b 16 2)).inc (oChan p) cEth 10
  else if op == 0x0101 && mode == 2 then
    let named := (List.range 8).filter (fun c => bitOf (beAt b 16 2) c && bitOf (s.par (oChan p) 0x0202) c)
    let live := named.filter (fun c => !s.inStorm p c)
    if live.isEmpty then ignored s
    else (live.foldl (fun s c => s.pauseSet p c (beAt b (18 + 2 * c) 2)) s).inc (oChan p) cEth 11
  else ignored s

/-! ### PLCA (R144, R145) -/

/-- A port runs PLCA. -/
def State.plcaRuns (s : State) (p : Nat) : Bool := decide (12 ≤ p ∧ p ≤ 19) && s.par (oChan p) 0x0300 == 1

/-- PLCA governs when a port transmits: it is enabled, and PLCA_OK. -/
def State.plcaOn (s : State) (p : Nat) : Bool := s.plcaRuns p && s.flag (PortStatus.plcaOk p)

/-- The port's transmit opportunity begins: a frame may start within PLCA_TO_TIMER, and PLCA_BURST_COUNT more after it. That of the
coordinator, node 0, follows the BEACON with which it opens a cycle of PLCA_NODE_COUNT opportunities. While PLCA_OK is 0 there is no
opportunity (R145), and the coordinator sends its BEACON all the same. -/
def State.plcaTurn (s : State) (p : Nat) : State :=
  let o := oChan p
  let s := if !s.plcaOn p then s
    else s.setPort p { s.port p with toEnd := some (s.after (s.bitCycles p (s.par o 0x0303))), toLeft := s.par o 0x0304 + 1 }
  if s.par o 0x0301 == 0 then { s with out := .beacon p (s.par o 0x0302) :: s.out } else s

/-- May a frame start now? Without PLCA, carrier sense alone decides (R145). -/
def State.plcaMay (s : State) (p : Nat) : Bool :=
  !s.plcaOn p || match (s.port p).toEnd with
    | some d => strandAfter d s.strand && decide (0 < (s.port p).toLeft)
    | none => false

/-- The frame at the head of port `p` starts anew, its first bit now (R144, R146). -/
def State.frameAnew (s : State) (p : Nat) : State :=
  match tabFind s.buf.egress p with
  | none => s
  | some e => { s with buf := { s.buf with
      egress := tabInsert s.buf.egress p { e with since := s.strand, gone := 0, d := { e.d with stamp := s.strand } } } }

/-- A frame starts in the opportunity. -/
def State.plcaUse (s : State) (p : Nat) : State :=
  if s.plcaOn p then s.setPort p { s.port p with toLeft := (s.port p).toLeft - 1, deferred := false } else s

/-- A frame has left: the next of the burst starts within PLCA_BURST_TIMER, or the opportunity is over. -/
def State.plcaBurst (s : State) (p : Nat) : State :=
  if !s.plcaOn p then s
  else
    s.setPort p { s.port p with
      toEnd := if (s.port p).toLeft = 0 then none else some (s.after (s.bitCycles p (s.par (oChan p) 0x0305))) }

/-- No opportunity is in force any more: a frame in deferral goes at once. -/
def State.plcaStop (s : State) (p : Nat) : State :=
  let t := if (s.port p).deferred then (s.creditSync p).frameAnew p else s
  t.setPort p { t.port p with toEnd := none, toLeft := 0, deferred := false }

/-! ### Collisions (R146) -/

/-- The frame in transmission is discarded, counted in counter `i`. -/
def State.collDiscard (s : State) (p : Nat) (e : EgressRead) (i : Nat) : State :=
  let s := (s.egressEnd p e).inc (oChan p) cEth i
  (s.setPort p { s.port p with collisions := 0, backoffAt := none }).portDisableStep p

/-- A collision: back-off with r drawn from 0 to 2^k − 1 (a free value, log entry 1), or discard. A logical collision, with which
PLCA defers the frame to the port's transmit opportunity, is none and is not counted (R144). -/
def State.collision (s : State) (p : Nat) (late logical : Bool) : State :=
  let s := s.creditSync p
  match s.onWire p with
  | none => s
  | some e =>
    if logical && s.plcaOn p then (s.setPort p { s.port p with deferred := true }).portDisableStep p
    else
    let s := s.inc (oChan p) cEth 23
    let n := (s.port p).collisions + 1
    if late then s.collDiscard p e 25
    else if n ≥ 16 then s.collDiscard p e 24
    else
      let (x, s) := s.draw
      let r := x % 2 ^ min n 10
      (s.setPort p { s.port p with collisions := n, backoffAt := some (s.after (r * 40960)) }).portDisableStep p

/-! ### MDIO (R152) -/

def mdioDefault (_ : Nat) : List (Nat × Nat × List Byte) := []
def State.mdioQueue (s : State) (m : Nat) : List (Nat × Nat × List Byte) := tabGet mdioDefault s.egr.mdio m
def State.setMdio (s : State) (m : Nat) (l : List (Nat × Nat × List Byte)) : State :=
  { s with egr := { s.egr with mdio := tabSet mdioDefault s.egr.mdio m l } }

/-- Drive an access of R152's fields onto a master: one frame under Clause 22, an address frame and a data frame under Clause 45. -/
def State.mdioStart (s : State) (m : Nat) (req : List Byte) (write : Bool) : State :=
  let op := if write then 1 else 2
  let data := leAt req 6 2
  let phy := leAt req 2 1
  let reg := leAt req 4 2
  if leAt req 1 1 == 22 then { s with out := .mdio m 22 phy reg op data :: s.out }
  else { s with out := .mdio m 45 phy (leAt req 3 1) op data :: .mdio m 45 phy (leAt req 3 1) 0 reg :: s.out }

/-! ### The commands -/

/-- Fault ordered sets that answer a link-down in 10GBASE-R (R123; PRESUMED from Clause 46, log entry 98): remote fault where the
port receives no valid code or local fault (`fault` 0 or 1), none where it receives remote fault (2). -/
def State.faultAnswer (s : State) (p fault : Nat) : State :=
  if s.getF (PortStatus.modeActive p) != 1 || !s.chanEnabled p then s else s.faultSend p (if fault = 2 then 0 else 2)

/-- LINK_DOWN (R134): the link-up conditions of R122 cease to hold, or the port receives local (1) or remote (2) fault ordered sets
(R123). A gated port is down already, and its status holds (R24). -/
def execLinkDown (p : Fin 20) (fault : Fin 3) (s : State) : Host.Outcome State Fault Refusal :=
  .next (if s.flag (PortStatus.laneGated p) then s else ((s.portDown p).faultAnswer p fault).anStart p)

/-- SGMII_SPEED as a code of PORT_STATUS.SPEED (R124, R125). -/
def State.sgmiiSpeed (s : State) (p : Nat) : Nat := match s.par (oChan p) 0x0102 with | 10 => 0 | 100 => 1 | _ => 2

/-- SPEED when a mode or its speed settings come into force (R124): the code for other modes outside mode 4, SGMII_SPEED with
auto-negotiation off, and with it on no stated value until the PHY reports one (a free value, log entry 1). -/
def State.speedStart (s : State) (p : Nat) : State :=
  if s.getF (PortStatus.modeActive p) != 4 then s.setF (PortStatus.speed p) 3
  else if s.par (oChan p) 0x0101 != 1 then s.setF (PortStatus.speed p) (s.sgmiiSpeed p)
  else if s.getF (PortStatus.speed p) != 3 then s
  else s.draw.2.setF (PortStatus.speed p) (s.draw.1 % 3)

/-- A port's committed MODE comes into force (R98, R126, R319). -/
def State.applyMode (s : State) (p : Nat) : State :=
  let s := ((s.portDown p).faultSend p 0).setF (PortStatus.modeActive p) (s.par (oChan p) 0x0100)
  let s := (s.setPort p { s.port p with credit := [] }).streamCreditsClear p
  if p ≤ 19 then (s.speedStart p).anStart p else s

/-- The conditions hold: the speed is recorded and LINK_HOLD starts (R135); `m` the mode, `sp` what the PHY reports. -/
def State.linkConds (s : State) (p m : Nat) (an : Bool) (speed : Nat) : State :=
  let sp := if m != 4 then 3 else if an then speed else s.sgmiiSpeed p
  let s := ((s.setF (PortStatus.speed p) sp).setF (PortStatus.halfDuplex p) 0).setF (PortStatus.holding p) 1
  let s := (if (m == 2 || m == 4) && an then s.setF (PortStatus.anDone p) 1 else s).faultSend p 0
  s.setPort p { s.port p with cond := true, holdOver := false,
                              holdEnd := some (s.after (msC (s.par (oChan p) 0x0104))) }

/-- The PHY's control word reports half duplex (R124): the port is kept down, and LINK_CHANGE tells of HALF_DUPLEX. -/
def State.halfDuplexDown (s : State) (p : Nat) : State :=
  let up := s.flag (PortStatus.linkUp p)
  let s := ((s.portDown p).setF (PortStatus.anDone p) 1).setF (PortStatus.halfDuplex p) 1
  if up then s else s.event (PortEvents.linkChange p) (0x100 + p * 16)

/-- LINK_UP_CONDITIONS (R122, R124, R135): they come to hold; in mode 4 with AUTONEG the PHY reports speed and duplex. A port
that is disabled or gated stays down, as does one whose PHY reports half duplex. -/
def execLinkUpConditions (p : Fin 20) (speed : Fin 3) (half : Bool) (s : State) : Host.Outcome State Fault Refusal :=
  let m := s.getF (PortStatus.modeActive p)
  let an := s.par (oChan p) 0x0101 == 1
  .next (
    if !s.chanEnabled p || s.flag (PortStatus.laneGated p) then s
    else if m == 4 && an && half then s.halfDuplexDown p
    else if s.flag (PortStatus.linkUp p) then s
    else s.linkConds p m an speed.val)

/-- LINK_HOLD_EXPIRY (R135). -/
def execLinkHoldExpiry (p : Fin 20) (s : State) : Host.Outcome State Fault Refusal :=
  .next (match (s.port p).holdEnd with
    | none => s
    | some d =>
      let s := s.timeTo d
      if s.flag (PortStatus.flushing p) then
        (s.setF (PortStatus.holding p) 0).setPort p { s.port p with holdEnd := none, holdOver := true }
      else s.portUp p)

/-- The frames of the flushed queues go; host frames among them leave their timestamp entries. -/
def State.flushQueues (s : State) (qs : List Nat) : State :=
  qs.foldl (fun s q =>
    let s := (s.queue q).foldl (fun s d => s.tsqDiscard (s.desc d)) s
    s.flushQueue q) s

/-- The flushes that are left; with none, scanning ends. -/
def State.flushNext (s : State) (rest : List Flush) : State :=
  let s := { s with buf := { s.buf with flushes := rest } }
  if rest.isEmpty then s.setF SwStatus.scanning 0 else s

/-- A port's flush has ended: a forced disable is complete; LINK_UP is set at the later of the flush end and the hold end (R135). -/
def State.portFlushed (s : State) (p : Nat) : State :=
  let s := s.setF (PortStatus.flushing p) 0
  match (s.port p).disabling with
  | some ⟨3, t, _⟩ =>
    let s := s.setPort p { s.port p with disabling := none, cond := false, holdEnd := none, holdOver := false }
    ({ s with chanOn := tabSet (fun _ => false) s.chanOn p false }).finishRef t stDone
  | _ => if (s.port p).holdOver then s.portUp p else s

/-- FLUSH_SCAN_END (R268): the scan has passed every descriptor once since the oldest flush began; that flush ends. Flushes that run at
the same time share the scan. -/
def execFlushScanEnd (s : State) : Host.Outcome State Fault Refusal :=
  .next (match s.buf.flushes with
    | [] => s
    | f :: rest =>
      let s := ((s.timeTo (strandPlus f.at_ 65536)).flushQueues f.queues).flushNext rest
      match f.port, f.can with
      | some p, _ => if rest.any (fun g => g.port == some p) then s else s.portFlushed p
      | none, some n => if rest.any (fun g => g.can == some n) then s else s.canFlushed n
      | none, none => s)

/-- ETH_DRAIN_TIMEOUT (R111). -/
def execEthDrainTimeout (p : Fin 22) (s : State) : Host.Outcome State Fault Refusal :=
  .next (match (s.port p).disabling with
    | some d => if d.mode == 1 then (s.timeTo d.deadline).portForce p d.ticket else s
    | none => s)

/-- PAUSE_TIMER_EXPIRY (R141). -/
def execPauseTimerExpiry (p : Fin 12) (c : Fin 8) (s : State) : Host.Outcome State Fault Refusal :=
  .next (match tabFind (s.port p).rxTimer c with
    | none => s
    | some d => (s.timeTo d).pauseEnd p c)

/-- PAUSE_REFRESH (R138). -/
def execPauseRefresh (p : Fin 12) (s : State) : Host.Outcome State Fault Refusal :=
  .next (match (s.port p).refreshAt with
    | none => s
    | some d =>
      let s := s.timeTo d
      let on := maskOf ((s.fcClasses p).filter (fun c => s.xoffOn p c))
      (s.setPort p { s.port p with refreshAt := none, fcPend := orMask (s.port p).fcPend on }).fcSend p)

/-- PAUSE_WATCHDOG_EXPIRY (R142, R143): it takes effect once the cycle of the expiry is over, since a frame with time 0 that
completes in that cycle wins. -/
def execPauseWatchdogExpiry (p : Fin 12) (c : Fin 8) (s : State) : Host.Outcome State Fault Refusal :=
  .next (match tabFind (s.port p).dogAt c with
    | none => s
    | some d => (s.timeTo (strandPlus d 1)).stormEnter p c d)

/-- STORM_HOLD_EXPIRY (R142). -/
def execStormHoldExpiry (p : Fin 12) (c : Fin 8) (s : State) : Host.Outcome State Fault Refusal :=
  .next (match tabFind (s.port p).stormEnd c with
    | none => s
    | some d => (s.timeTo d).stormExit p c)

/-- PLCA_FALLBACK (R145) on PORT[12 + i]. -/
def execPlcaFallback (i : Fin 8) (s : State) : Host.Outcome State Fault Refusal :=
  let p := 12 + i.val
  .next (if s.par (oChan p) 0x0300 == 1 && s.flag (PortStatus.plcaOk p) && !s.flag (PortStatus.laneGated p) then
      (((s.plcaStop p).setF (PortStatus.plcaOk p) 0).inc (oChan p) cEth 29).event (PortEvents.plcaFallback p) (0x104 + p * 16)
    else s)

/-- PLCA_OK_RESTORE (R145): a frame in deferral waits for the port's transmit opportunity. -/
def execPlcaOkRestore (i : Fin 8) (s : State) : Host.Outcome State Fault Refusal :=
  let p := 12 + i.val
  .next (if s.par (oChan p) 0x0300 == 1 && !s.flag (PortStatus.laneGated p) then
      (s.setF (PortStatus.plcaOk p) 1).setPort p { s.port p with
        backoffAt := none, deferred := (s.port p).deferred || (s.port p).backoffAt.isSome }
    else s)

/-- COLLISION (R144, R146) on PORT[12 + i]; `late` after the first 512 bits, `logical` one that PLCA signals for deferral. -/
def execCollision (i : Fin 8) (late logical : Bool) (s : State) : Host.Outcome State Fault Refusal :=
  .next (s.collision (12 + i.val) late logical)

/-- BACKOFF_EXPIRY (R146): the frame is attempted again. -/
def execBackoffExpiry (i : Fin 8) (s : State) : Host.Outcome State Fault Refusal :=
  let p := 12 + i.val
  .next (match (s.port p).backoffAt with
    | none => s
    | some d =>
      let s := ((s.timeTo d).creditSync p).frameAnew p
      s.setPort p { s.port p with backoffAt := none })

/-- No answer within VERIFY_TIME: the mPacket is sent up to three times more, then verification has failed (R147). -/
def State.verifyAgain (s : State) (p : Nat) : State :=
  let e := s.port p
  if e.verifyTries < 3 then
    let s := s.setPort p { e with verifyTries := e.verifyTries + 1,
                                  verifyAt := some (s.after (msC (s.par (oChan p) 0x0402))) }
    { s with out := .mpacket p 0 :: s.out }
  else
    let s := (s.setPort p { e with verifyAt := none }).setF (PortStatus.verify p) 3
    (s.inc (oChan p) cEth 31).event (PortEvents.verifyFail p) (0x103 + p * 16)

/-- VERIFY_TIME_EXPIRY (R147). -/
def execVerifyTimeExpiry (p : Fin 12) (s : State) : Host.Outcome State Fault Refusal :=
  .next (match (s.port p).verifyAt with
    | none => s
    | some d => (s.timeTo d).verifyAgain p)

/-- VERIFY_RESPOND_RECEIVE (R147). -/
def execVerifyRespondReceive (p : Fin 12) (s : State) : Host.Outcome State Fault Refusal :=
  .next (if s.getF (PortStatus.verify p) == 1 then
      (s.setPort p { s.port p with verifyAt := none }).setF (PortStatus.verify p) 2
    else s)

/-- Is a client's MDIO access a write? -/
def State.mdioWrites (s : State) (client num : Nat) : Bool :=
  match s.ticket client num with
  | some t => t.cmd == 0x0413
  | none => true

/-- The access that waits longest starts. -/
def State.mdioNext (s : State) (m : Nat) (rest : List (Nat × Nat × List Byte)) : State :=
  match rest with
  | [] => s
  | (c, n, req) :: _ => s.mdioStart m req (s.mdioWrites c n)

/-- MDIO_ACCESS_DONE (R152): the running access completes with `data` (0xFFFF where no PHY answers), and the next starts. -/
def execMdioAccessDone (m : Fin 2) (data : BitVec 16) (s : State) : Host.Outcome State Fault Refusal :=
  .next (match s.mdioQueue m with
    | [] => s
    | (client, num, _) :: rest =>
      (State.finishTicket (s.setMdio m rest) client num stDone (if s.mdioWrites client num then [] else leBytes 2 data.toNat)).mdioNext m rest)

/-- TSQ_TAIL_WRITE (R350). -/
def execTsqTailWrite (p : Fin 22) (w : Word) (s : State) : Host.Outcome State Fault Refusal := .next (s.hosted (s.tsqMoveTail p w.toNat))

end Sys2Proof.Machine
end

