-- ==== Sys2Proof/Machine/Spans.lean ====
section
/-! DEFINITION. Spans (R378 to R407): demand, consensus, sleep entry, wake, wake records, accounts and Viaduct-wide Spans. -/

namespace Sys2Proof.Machine

/-! ### Access -/

def spanDefault (_ : Nat) : SpanSt := {}
def State.span (s : State) (i : Nat) : SpanSt := tabGet spanDefault s.spans i
def State.setSpan (s : State) (i : Nat) (v : SpanSt) : State := { s with spans := tabSet spanDefault s.spans i v }
def State.spanPar (s : State) (i pid : Nat) : Nat := s.par (oSpan i) pid
def State.spanState (s : State) (i : Nat) : Nat := s.getF (SpanState.state i)

/-- Counters of R407: SLEEPS, WAKES, SLEEP_ABORTS, ENTRY_REWAKES, FALSE_WAKES, ARM_FAILS, SLEEP_DROPS, KA_MALFORMED,
LONG_AWAKES. -/
def State.incSpan (s : State) (i k : Nat) : State := s.inc (oSpan i) cSpan k

/-- Bits of SPAN_EVENTS and SPAN_FAULTS with their sources (R406). -/
def State.spanEvent (s : State) (bit : Nat) : State := s.event ⟨SpanEvents.off, bit, bit⟩ (0x060 + bit)
def State.spanFault (s : State) (bit : Nat) : State := s.event ⟨SpanFaults.off, bit, bit⟩ (0x080 + bit)

/-- Channels of a Span. -/
def State.spanChans (s : State) (i : Nat) : List Nat := (List.range 104).filter (fun c => s.spanOf c == i)

/-- CAN Lanes, LIN Lanes and Ethernet or Pier ports of a Span, by their own numbers. -/
def State.spanCans (s : State) (i : Nat) : List Nat := (List.range 64).filter (fun n => s.spanOf (24 + n) == i)
def State.spanLins (s : State) (i : Nat) : List Nat := (List.range 16).filter (fun n => s.spanOf (88 + n) == i)
def State.spanPorts (s : State) (i : Nat) : List Nat := (List.range 22).filter (fun p => s.spanOf p == i)

/-- Is the Span's consensus Deck 0's, on a member (R404)? -/
def State.spanRemote (s : State) (i : Nat) : Bool :=
  s.spanPar i 0x0111 == 1 && s.getF CascStatus.role == 2 && !(s.span i).masterLocal

/-- Does this Deck run the consensus of a Viaduct Span for the others (R404)? -/
def State.spanLeads (s : State) (i : Nat) : Bool :=
  s.spanPar i 0x0111 == 1 && (s.getF CascStatus.role == 1 || s.getF CascStatus.role == 3)

/-- A message of a Viaduct Span, where it is one (R404): kinds 0, 1 and 6 are a member's, 2 to 5 the leading Deck's. -/
def State.spanTell (s : State) (i kind arg : Nat) : State :=
  if (if decide (2 ≤ kind ∧ kind ≤ 5) then s.spanLeads i else s.spanRemote i) then { s with out := .spanMessage i kind arg :: s.out } else s

/-! ### Accounts and log (R401, R402) -/

/-- HB_TIME-stamped log entry, newest first, at most 64. -/
def State.stayLog (s : State) (i reason : Nat) (h : Nat × Nat × Nat) : State :=
  let v := s.span i
  let e : StayEntry := ⟨s.hbTicks, reason, h.1, h.2.1, h.2.2, min ((s.brim.hb - v.awakeSince) / secC 1) (2 ^ 32 - 1)⟩
  s.setSpan i { v with log := (e :: v.log).take 64 }

/-- Cycles of a node's account up to now, in Hatband time, which does not wrap. -/
def NodeAcc.total (a : NodeAcc) (now : Nat) : Nat := a.acc + (min now a.until_ - a.since)

/-- The accounts of nodes run while the Span is AWAKE or in PREPARE (R401). -/
def State.nodesRun (s : State) (i : Nat) : Bool := s.spanState i == spAwake || s.spanState i == spPrepare

/-- Cycles of a node's account. -/
def State.nodeTotal (s : State) (i k : Nat) : Nat :=
  let a := tabGet (fun _ => ({} : NodeAcc)) (s.span i).nodes k
  if s.nodesRun i then a.total s.brim.hb else a.acc

/-- Close every node's account at the end of AWAKE or PREPARE. -/
def State.nodesClose (s : State) (i : Nat) : State :=
  let v := s.span i
  s.setSpan i { v with nodes := v.nodes.map (fun (kv : Nat × NodeAcc) =>
    (kv.1, ({ kv.2 with acc := kv.2.total s.brim.hb } : NodeAcc))) }

/-- The accounts of the nodes run on from now. -/
def State.nodesOpen (s : State) (i : Nat) : State :=
  let v := s.span i
  s.setSpan i { v with nodes := v.nodes.map (fun (kv : Nat × NodeAcc) => (kv.1, ({ kv.2 with since := s.brim.hb } : NodeAcc))) }

/-- The demand that has held the longest without a break (R402, REASON 3). -/
def State.longestHolder (s : State) (i : Nat) : Nat × Nat × Nat :=
  let v := s.span i
  let age := fun (t : Nat) => s.brim.hb - t
  let c0 := if s.flag (SpanState.kaDemand i) then [(age v.kaSince, (1, v.kaNode, v.kaChan))] else []
  let c1 := (maskBits 8 (s.getF (SpanState.holds i))).map (fun c =>
    (age (tabGet (fun _ => ({} : HoldAcc)) v.holds c).since, (2, c, 0xFF)))
  let c2 := if s.flag (SpanState.linDemand i) then [(age v.linSince, (3, v.linChan, 0xFF))] else []
  let c3 := if s.flag (SpanState.remoteDemand i) then [(age v.remoteSince, (4, (maskBits 4 v.remote).headD 0, 0xFF))] else []
  ((c0 ++ c1 ++ c2 ++ c3).foldl (fun (b : Nat × Nat × Nat × Nat) x => if x.1 > b.1 || b.2.1 == 0 then x else b)
    (0, 0, 0, 0xFF)).2

/-! ### Wake records (R397, R398) -/

/-- WAKE_RECORD_WRITE: the Brim die's log of 64, newest first. `during`: the Span was ENTERING. DEVICE_WAKE says that the device leaves
Parked or Listening, which it has still to reach where the wake comes after the acceptance (R368, R371). -/
def State.wakeRecord (s : State) (source index span detail : Nat) (during : Bool) : State :=
  let low := s.brim.power == pwParked || s.brim.power == pwListening || s.brim.entering.isSome
  let during := during || s.brim.entering.isSome || s.brim.refused
  let flags := b2n during + 4 * b2n low + 16 * s.brim.power
  let r : WakeRec := ⟨s.hbTicks, s.brim.wakeSeq, source, index, span, flags, detail⟩
  { s with brim := { s.brim with
    refused := false, wakes := (r :: s.brim.wakes).take 64,
    wakesLost := s.brim.wakesLost + b2n (decide (64 ≤ s.brim.wakes.length)), wakeSeq := (s.brim.wakeSeq + 1) % 65536 } }

/-- FALSE_WAKE in the Span's latest record (R383). -/
def State.markFalseWake (s : State) (i : Nat) : State :=
  match s.brim.wakes.findIdx? (fun r => r.span == i) with
  | none => s
  | some k => { s with brim := { s.brim with
      wakes := s.brim.wakes.modify k (fun r => { r with flags := setBit r.flags 1 true }) } }

/-! ### Lanes and transceivers -/

/-- Channels of the Span whose LIN transceiver or T1S PHY lies on the Brim die (R23). -/
def State.spanLines (s : State) (i : Nat) : List Nat :=
  (s.spanChans i).filter (fun c => (12 ≤ c && c ≤ 19) || (88 ≤ c && c < 96))

/-- A mode command for the Channel's transceiver waits for the Hatpin link. -/
def State.lineQueued (s : State) (c : Nat) : Bool := s.hatpin.queue.any (fun a => a.xcvr.any (fun x => x.1 == c))

/-- LIN transceivers and T1S PHYs of the Span are commanded to sleep, mode 3, or back, mode 0 (R385 step 4, R386, R389), each by a
transfer over the Hatpin link, which may fail (R12). -/
def State.lineCommand (s : State) (i mode : Nat) : State :=
  let l := (s.spanLines i).filter (fun c => s.lineQueued c || s.lineMode c != mode)
  { s with hatpin := { s.hatpin with queue := s.hatpin.queue ++ l.map (fun c =>
    ({ client := 0, ticket := 0, left := 1, write := true, xcvr := some (c, mode) } : HatpinAccess)) } }

/-- Is every LIN transceiver and T1S PHY of the Span in `mode`, with no command on its way? -/
def State.linesAt (s : State) (i mode : Nat) : Bool := (s.spanLines i).all (fun c => s.lineMode c == mode && !s.lineQueued c)

/-- Nothing of the Span is armed any more. -/
def State.spanDisarm (s : State) (i : Nat) : State :=
  let s := s.setF (SpanState.armed i) 0
  { s with brim := { s.brim with armedSpans := s.brim.armedSpans.filter (fun a => a.span != i) } }

/-- Integrated transceivers of the Span are commanded back to the mode they had before ENTERING (R386, R389). -/
def State.spanXcvrBack (s : State) (i : Nat) : State :=
  ((s.spanCans i).filter (· < 16)).foldl (fun s n =>
    let l := s.canLane n
    if s.getF (CanStatus.xcvrMode n) == l.xcvrBefore && s.xcvrSettled n then s
    else s.xcvrCommand n l.xcvrBefore) s

/-- Has every integrated transceiver of the Span settled, each in the mode that `want` gives it? -/
def State.xcvrsAt (s : State) (i : Nat) (want : Nat → Nat) : Bool :=
  ((s.spanCans i).filter (· < 16)).all (fun n =>
    s.xcvrSettled n && s.getF (CanStatus.xcvrMode n) == want n)

/-- The Lane islands of the host link and of the storage link are gated, or powered again, with their Span (R23): a gated host link is
down (R363), so target 3 of the event concentrator is asleep (R463). -/
def State.linkLanesGate (s : State) (i : Nat) (gated : Bool) : State :=
  let s := if s.spanOf 23 == i then { s with store := { s.store with laneGated := gated } } else s
  if s.spanOf 22 != i then s
  else
    State.hostTarget { s with pcie := { s.pcie with laneGated := gated, linkUp := s.pcie.linkUp && !gated } } (s.targetAsleep 3)

/-- The Lane islands of the Span are gated (R24, R385 step 5). -/
def State.spanGate (s : State) (i : Nat) : State :=
  let s := (s.spanCans i).foldl (fun s n => s.setF (CanStatus.laneGated n) 1) s
  let s := (s.spanLins i).foldl (fun s n => (s.linStop n).setF (LinStatus.laneGated n) 1) s
  let s := (s.spanPorts i).foldl (fun s p => s.portGate p) s
  s.linkLanesGate i true

/-- What was committed for a port while its Lane island was gated takes effect (R24). -/
def State.portUngate (s : State) (p : Nat) : State :=
  let s := s.setF (PortStatus.laneGated p) 0
  let s := if s.par (oChan p) 0x0300 == 0 && decide (12 ≤ p ∧ p ≤ 19) then (s.plcaStop p).setF (PortStatus.plcaOk p) 0 else s
  if s.getF (PortStatus.modeActive p) == s.par (oChan p) 0x0100 then (if p ≤ 19 then (s.speedStart p).anStart p else s)
  else s.applyMode p

/-- The Lane islands are powered again. -/
def State.spanUngate (s : State) (i : Nat) : State :=
  let s := s.linkLanesGate i false
  let s := (s.spanCans i).foldl (fun s n =>
    if s.flag (CanStatus.laneGated n) then (s.setF (CanStatus.laneGated n) 0).setF (CanStatus.integrating n) 1 else s) s
  let s := (s.spanLins i).foldl (fun s n => s.setF (LinStatus.laneGated n) 0) s
  (s.spanPorts i).foldl (fun s p => if s.flag (PortStatus.laneGated p) then s.portUngate p else s) s

/-! ### Demand (R382) -/

def State.linDemandNow (s : State) (i : Nat) : Option Nat :=
  (s.spanLins i).find? (fun n => s.getF (LinStatus.roleActive n) == 2 && (s.linLane n).demand)

/-- DEMAND, LIN_DEMAND and REMOTE_DEMAND follow their causes; the demand that ends last is kept for the log. -/
def State.spanDemand (s : State) (i : Nat) : State :=
  let v := s.span i
  let lin := s.linDemandNow i
  let was := s.flag (SpanState.linDemand i)
  let v := match lin with
    | some n => if was then v else { v with linSince := s.brim.hb, linChan := 88 + n }
    | none => if was then { v with lastHolder := (3, v.linChan, 0xFF) } else v
  let s := s.setSpan i v
  let s := (s.setFlag (SpanState.linDemand i) lin.isSome).setFlag (SpanState.remoteDemand i)
    (s.spanPar i 0x0111 == 1 && v.remote != 0)
  let s := s.setFlag (SpanState.viaductActive i) (s.spanPar i 0x0111 == 1 && s.getF CascStatus.role != 0 && !v.masterLocal)
  let d := s.spanPar i 0x0100 == 0 || s.flag (SpanState.kaDemand i) || s.getF (SpanState.holds i) != 0 || lin.isSome ||
    s.flag (SpanState.remoteDemand i)
  let old := s.flag (SpanState.demand i)
  let s := s.setFlag (SpanState.demand i) d
  if d != old then s.spanTell i 0 (b2n d) else s

def State.hasDemand (s : State) (i : Nat) : Bool := s.flag (SpanState.demand i)

/-! ### Moves between states (R383) -/

/-- The Span enters ENTERING: R385 steps 1 and 2 begin. -/
def State.spanEnter (s : State) (i : Nat) : State :=
  let s := (((s.setF (SpanState.state i) spEntering).stayLog i 1 (s.span i).lastHolder).nodesClose i).spanTell i 3 0
  let s := s.setSpan i { s.span i with
    step := 0, drainAt := some (s.after (msC (s.spanPar i 0x0104))), prepareAt := none, falseAt := none, longAt := none,
    kaAt := none }
  let s := s.setF (SpanState.falseWakeRun i) 0
  let s := ((s.spanCans i).filter (· < 16)).foldl (fun s n =>
    s.setCan n { s.canLane n with xcvrBefore := s.getF (CanStatus.xcvrMode n) }) s
  (s.spanLins i).foldl (fun s n =>
    if s.getF (LinStatus.roleActive n) != 1 then s
    else if s.flag (LinStatus.running n) || (s.linLane n).slot != .idle then s.setLin n { s.linLane n with sleepPend := true }
    else s.linSendSleep n) s

/-- The Span enters PREPARE; PREPARE_TIME 0 moves it on within the same millisecond (R384). A member of a Viaduct Span waits for the
next decision of the Deck that leads (R404). -/
def State.spanPrepare (s : State) (i : Nat) : State :=
  let t := s.spanPar i 0x0102
  let s := (s.setF (SpanState.state i) spPrepare).spanTell i 2 0
  if s.spanRemote i then s.setSpan i { s.span i with kaAt := none }
  else if t = 0 then s.spanEnter i
  else s.setSpan i { s.span i with prepareAt := some (s.after (msC t)), kaAt := none }

/-- The Span is AWAKE: its own first keep-alive is due within 1 ms (R391). -/
def State.kaArm (s : State) (i : Nat) : State :=
  s.setSpan i { s.span i with kaAt := if s.spanPar i 0x010A = 0 then none else some (s.after (msC 1)) }

/-- Sleep aborted in PREPARE (R383). -/
def State.spanAbort (s : State) (i : Nat) (h : Nat × Nat × Nat) : State :=
  let s := ((s.setF (SpanState.state i) spAwake).setSpan i { s.span i with prepareAt := none }).kaArm i
  ((s.incSpan i 2).spanFault (16 + i)).stayLog i 2 h

/-- LONG_AWAKE starts (R401). -/
def State.longArm (s : State) (i : Nat) : State :=
  let lng := s.spanPar i 0x0110
  s.setSpan i { s.span i with longAt := if lng = 0 then none else some (s.after (secC lng)) }

/-- The Span is AWAKE after WAKING (R389 steps 3 and 4, R390, R391). -/
def State.spanAwake (s : State) (i : Nat) : State :=
  let v := s.span i
  let s := s.setSpan i { v with falseAt := some (s.after (msC (s.spanPar i 0x0103))), awakeSince := s.brim.hb }
  let s := ((s.longArm i).kaArm i).nodesOpen i
  let s := ((s.setF (SpanState.state i) spAwake).setF (SpanState.falseWakeRun i) 1).incSpan i 1
  let s := s.spanEvent (16 + i)
  if s.spanPar i 0x010F == 0 then s
  else
    let s := (s.spanLins i).foldl (fun s n =>
      if s.getF (LinStatus.roleActive n) == 1 && 88 + n != v.wakeChan then s.linPulse n else s) s
    (s.spanPorts i).foldl (fun s p =>
      if 12 ≤ p && p ≤ 19 && s.chanEnabled p && p != v.wakeChan then { s with out := .pin "T1S_IDLE" p 1 :: s.out } else s) s

/-- The Span that holds the Deck's enabled Pier Channels (R405). -/
def State.carrierSpan (s : State) : Option Nat :=
  if s.getF CascStatus.role == 0 then none
  else if s.chanEnabled 20 then some (s.spanOf 20) else if s.chanEnabled 21 then some (s.spanOf 21) else none

/-- Is any other Span with enabled Channels not ASLEEP (R405)? -/
def State.othersAwake (s : State) (i : Nat) : Bool :=
  (List.range 104).any (fun c => s.chanEnabled c && s.spanOf c != i && s.spanState (s.spanOf c) != spAsleep)

/-- WAKING ends once every transceiver has its mode and every Lane is powered. -/
def State.spanAwakeCheck (s : State) (i : Nat) : State :=
  if s.spanState i == spWaking && !((s.spanCans i).any (fun n => s.flag (CanStatus.laneGated n))) &&
      !((s.spanLins i).any (fun n => s.flag (LinStatus.laneGated n))) &&
      !((s.spanPorts i).any (fun p => s.flag (PortStatus.laneGated p))) &&
      s.xcvrsAt i (fun n => (s.canLane n).xcvrBefore) && s.linesAt i 0 then s.spanAwake i
  else s

/-- A member reports each change of whether every Span but its carrier Span sleeps to the Deck that leads (R404, R405). -/
def State.carrierTell (s : State) : State :=
  match s.carrierSpan with
  | none => s
  | some c =>
    let q := !(s.othersAwake c)
    if !s.spanRemote c || s.pier.quietTold == some q then s
    else { s with pier := { s.pier with quietTold := some q } }.spanTell c 6 (b2n q)

/-- The Span moves into WAKING (R386, R389): nothing armed, INH on, `chan` the source's Channel. Sleep commands that wait are not sent. -/
def State.spanWaking (s : State) (i chan : Nat) : State :=
  let s := s.spanDisarm i
  let s := if s.spanState i != spEntering then s
    else (s.spanLins i).foldl (fun s n => s.setLin n { s.linLane n with sleepPend := false }) s
  let v := s.span i
  let s := s.setSpan i { v with
    wakeChan := chan, correct := false, drainAt := none, step := 0, longAt := none,
    wokeAt := if s.spanState i == spAsleep then some s.strand else v.wokeAt }
  (s.setF (SpanState.state i) spWaking).syncInh.carrierTell

/-- SPAN_ASLEEP (R385 step 5). -/
def State.spanAsleep (s : State) (i : Nat) : State :=
  let s := (s.spanGate i).setF (SpanState.state i) spAsleep
  ((s.incSpan i 0).spanEvent i).syncInh.carrierTell

/-- ENTERING ends once every transceiver has reached its sleep mode. -/
def State.spanAsleepCheck (s : State) (i : Nat) : State :=
  if s.spanState i == spEntering && (s.span i).step == 2 && s.xcvrsAt i (fun _ => s.spanPar i 0x010C) &&
      s.linesAt i 3 then s.spanAsleep i else s

/-- A carrier Span prepares only while every other Span with enabled Channels is ASLEEP, on every Deck as far as the members have
reported it (R405). -/
def State.carrierWaits (s : State) (i : Nat) : Bool :=
  s.carrierSpan == some i && (s.othersAwake i ||
    (s.spanLeads i && (List.range 4).any (fun d =>
      d != s.ownDeck && bitOf (s.getF CascStatus.reachable) d && !bitOf (s.span i).quiet d)))

/-- The Span's decisions follow its demand (R383, R386): AWAKE without demand, or demand returning in PREPARE. During a firmware
switchover they wait (R52). A member of a Viaduct Span leaves PREPARE when its own demand returns, but sleeps only as the Deck that leads
decides (R404); one that comes to run its own consensus in PREPARE starts PREPARE_TIME then. -/
def State.spanUpdate (s : State) (i : Nat) : State :=
  let s := (s.spanDemand i).carrierTell
  if s.switchover || s.spanPar i 0x0100 == 0 then s
  else if s.spanState i == spPrepare && s.hasDemand i then s.spanAbort i (s.longestHolder i)
  else if s.spanState i == spPrepare && (s.span i).prepareAt.isNone && !s.spanRemote i then
    s.setSpan i { s.span i with prepareAt := some (s.after (msC (s.spanPar i 0x0102))) }
  else if s.spanState i == spAwake && !s.hasDemand i && (s.span i).falseAt.isNone && (s.span i).started && !s.carrierWaits i &&
      !s.spanRemote i then s.spanPrepare i
  else s

/-- The mode command of a LIN transceiver or a T1S PHY has crossed the Hatpin link, and the transceiver takes its mode; a Span that waits
for it goes on (R385, R389). -/
def State.lineSent (s : State) (c mode : Nat) : State :=
  let s := { s with out := .hatpin (0x600 + c) mode :: s.out, brim := { s.brim with lineModes := tabSet ctrDefault s.brim.lineModes c mode } }
  let i := s.spanOf c
  (s.spanAsleepCheck i).spanAwakeCheck i

/-! ### Waking -/

/-- A wake latched before its acceptance makes the Brim die refuse the request (R368): LOW_POWER_ABORT, and the wake's record says that it
came during sleep entry. -/
def State.lpRefuse (s : State) : State :=
  ({ s with brim := { s.brim with parkHeld := false, refused := true } }).event PwrEvents.lowPowerAbort 0x040

/-- Sources of R398. -/
def wsSwake : Nat := 1
def wsDecoder : Nat := 2
def wsWup : Nat := 3
def wsPin : Nat := 4
def wsLin : Nat := 5
def wsT1s : Nat := 6
def wsPattern : Nat := 7
def wsHost : Nat := 8
def wsRoute : Nat := 9
def wsKeepAlive : Nat := 10
def wsRemote : Nat := 11
def wsConfig : Nat := 12
def wsDeviceStart : Nat := 13
def wsWakeTimer : Nat := 14

/-- The holder that an abort by a wake source names (R402): a client's hold, another Deck's demand, or the wake source itself. -/
def wakeHolder (source index : Nat) : Nat × Nat × Nat :=
  if source == wsHost then (2, index, 0xFF) else if source == wsRemote then (4, index, 0xFF) else (5, source, 0xFF)

/-- What a wake of a Viaduct Span makes known (R404): a member reports its record, the Deck that leads wakes the members, with the
originating record's source. -/
def State.wakeTell (s : State) (i source detail : Nat) : State :=
  (s.spanTell i 1 source).spanTell i 4 (if source == wsRemote then detail else source)

/-- A wake for Span `i` from `source` (R383, R386, R394 to R398), with the holder `h` of an abort. While the device is Parked or
Listening, or on the way there, the Brim die latches it for the device. -/
def State.wakeSpan (s : State) (i source index detail chan : Nat) (h : Nat × Nat × Nat) : State :=
  let low := s.brim.power == pwParked || s.brim.power == pwListening || s.brim.entering.isSome || s.brim.power == pwDegraded
  if low then
    let s := s.wakeRecord source index i detail false
    -- in Degraded a wake starts nothing: its Span starts in WAKING after the next boot (R399)
    { s with brim := { s.brim with
        wakeLatched := s.brim.wakeLatched || s.brim.power != pwDegraded,
        latchedSpans := s.brim.latchedSpans.filter (fun w => w.span != i) ++ [⟨i, source, detail, chan⟩],
        armedSpans := s.brim.armedSpans.filter (fun a => a.span != i) } }
  else
    let s := if s.brim.parkHeld then s.lpRefuse else s
    let st := s.spanState i
    if st == spAsleep then
      ((s.wakeRecord source index i detail false).spanWaking i chan).wakeTell i source detail
    else if st == spEntering then
      let s := ((s.wakeRecord source index i detail true).incSpan i 3).spanWaking i chan
      let s := (s.spanFault (16 + i)).stayLog i 2 h
      ((s.spanXcvrBack i).lineCommand i 0).wakeTell i source detail
    else if st == spPrepare then s.spanAbort i h
    else s

/-- A decision about a Span waits for the end of the firmware switchover (R52). -/
def State.spanWait (s : State) (d : SpanDue) : State := { s with fw := { s.fw with spanDue := s.fw.spanDue ++ [d] } }

/-- A wake, and with it the sleeping carrier Span of the Deck (R405). During a firmware switchover it waits (R52). -/
def State.wakeBy (s : State) (i source index detail chan : Nat) (h : Nat × Nat × Nat) : State :=
  if s.switchover then s.spanWait (.wake i source index detail chan h) else
  let sleeps := fun (s : State) (k : Nat) => s.spanState k == spAsleep || s.spanState k == spEntering
  let was := sleeps s i
  let s := s.wakeSpan i source index detail chan h
  match s.carrierSpan with
  | some c => if was && c != i && sleeps s c then s.wakeSpan c source index detail 0xFF h else s
  | none => s

/-- A wake whose abort names the source as the holder. -/
def State.wake (s : State) (i source index detail chan : Nat) : State :=
  s.wakeBy i source index detail chan (wakeHolder source index)

/-- What a keep-alive decides (R383, R386): in PREPARE it aborts, and in ENTERING it wakes the Span, for which it counts as a correct
frame received since WAKING (R390). During a firmware switchover the decision waits (R52). -/
def State.keepAliveDecide (s : State) (i chan node detail : Nat) : State :=
  if s.switchover then s.spanWait (.keepAlive i chan node detail)
  else if s.spanState i == spPrepare then s.spanAbort i (1, node, chan)
  else if s.spanState i == spEntering then
    let s := s.wakeBy i wsKeepAlive chan detail chan (1, node, chan)
    s.setSpan i { s.span i with correct := true }
  else s.spanUpdate i

/-- KEEP_ALIVE_RECEIVE (R381, R383, R386): of node `node`, with or without demand. -/
def State.keepAlive (s : State) (i chan node detail : Nat) (demand : Bool) : State :=
  let s := if !demand then s
    else
      let v := s.span i
      let idle := msC (s.spanPar i 0x0101)
      let now := s.brim.hb
      let a := tabGet (fun _ => ({ since := now, until_ := now } : NodeAcc)) v.nodes node
      let a : NodeAcc := { acc := if s.nodesRun i then a.total now else a.acc, since := now, until_ := now + idle }
      let v := { v with
        idleAt := some (s.after idle), kaHeard := some s.strand, kaSince := if s.flag (SpanState.kaDemand i) then v.kaSince else now, kaNode := node,
        kaChan := chan, nodes := tabInsert v.nodes node a }
      (s.setSpan i v).setF (SpanState.kaDemand i) 1
  (s.spanDemand i).keepAliveDecide i chan node detail

/-- The keep-alive test on a payload (R381): node and demand, or none where it is too short. -/
def State.kaParse (s : State) (i ident : Nat) (pay : List Byte) : Option (Nat × Bool) :=
  let nb := s.spanPar i 0x0108
  let ab := s.spanPar i 0x0109
  if (nb != 255 && nb ≥ pay.length) || (ab != 65535 && ab / 8 ≥ pay.length) then none
  else
    some (if nb == 255 then ident % 256 else leAt pay nb 1, ab == 65535 || bitOf (leAt pay (ab / 8) 1) (ab % 8))

/-- A frame that matches a Span's keep-alive test. -/
def State.kaFrame (s : State) (i chan ident detail : Nat) (pay : List Byte) : State :=
  match s.kaParse i ident pay with
  | none => s.incSpan i 7
  | some (node, demand) => s.keepAlive i chan node detail demand

/-- The Span for which CAN[n] is armed, with its selective-wake fields. -/
def State.armedCan (s : State) (n : Nat) : Option (ArmedSpan × Nat) :=
  s.brim.armedSpans.findSome? (fun a => (a.swake.find? (fun x => x.1 == n)).map (fun x => (a, x.2)))

/-- The Span for which a Channel's wake detection is armed. -/
def State.armedChan (s : State) (c : Nat) : Option ArmedSpan := s.brim.armedSpans.find? (fun a => a.chans.contains c)

/-- Does a classical data frame match the filter (R393, R394)? Fields as the payload of CAN.SWAKE_SET from offset 0x08. -/
def swakeMatch (f id dlc data : Nat) (rtr : Bool) : Bool :=
  let flags := bitsOf f 15 8
  let m := bitsOf f 95 64
  let dm := bitsOf f 159 96
  !rtr && bitOf id 29 == bitOf flags 0 && (bitsOf id 28 0 &&& m) == (bitsOf f 60 32 &&& m) &&
  (dm == 0 || (dlc == bitsOf f 23 16 && (data % 256 ^ dlc &&& dm) != 0))

/-- A frame that a Lane still receives while its Span is entering sleep, and that matches the Channel's armed selective-wake filter,
wakes the Span (R386); `dlc` is its DLC, 0 to 15. -/
def State.spanSwakeFrame (s : State) (n dlc : Nat) (r : List Byte) : State :=
  let id := recIdent r + b2n (recIde r) * 2 ^ 29
  match s.armedCan n with
  | some (a, f) =>
    if s.spanState a.span == spEntering && recKind r == 0 && bitsOf f 7 0 == 1 &&
        swakeMatch f id dlc (leVal (recPayload r)) (recRtr r) then
      let s := s.wake a.span wsSwake (24 + n) id (24 + n)
      s.setSpan a.span { s.span a.span with correct := true }
    else s
  | none => s

/-- A correct CAN frame of DLC `dlc` on Channel 24 + n: it counts for FALSE_WAKE and may be a keep-alive, or match an armed filter. -/
def State.spanCanFrame (s : State) (n dlc : Nat) (r : List Byte) : State :=
  let i := s.spanOf (24 + n)
  let s := s.setSpan i { s.span i with correct := true }
  let id := s.spanPar i 0x0105
  let m := s.spanPar i 0x0106
  let ka := recKind r ≤ 1 && !recRtr r && recIde r == bitOf id 29 &&
    (recIdent r &&& bitsOf m 28 0) == (bitsOf id 28 0 &&& bitsOf m 28 0)
  (if ka then s.kaFrame i (24 + n) (recIdent r) (recIdent r + b2n (recIde r) * 2 ^ 29) (recPayload r) else s).spanSwakeFrame n dlc r

/-- A correct Ethernet frame on port `p`. -/
def State.spanEthFrame (s : State) (p : Nat) (b : List Byte) : State :=
  let i := s.spanOf p
  let s := s.setSpan i { s.span i with correct := true }
  let et := s.spanPar i 0x0107
  let off := if beAt b 12 2 == 0x8100 then 16 else 12
  if et != 0 && beAt b off 2 == et then s.kaFrame i p 0 et ((b.drop (off + 2)).dropLast.dropLast.dropLast.dropLast) else s

/-- A correct LIN frame. -/
def State.spanLinFrame (s : State) (n : Nat) : State :=
  let i := s.spanOf (88 + n)
  s.setSpan i { s.span i with correct := true }

/-- ROUTE_WAKE (R385 step 1, R388): copies for Channels of a Span that is ENTERING or ASLEEP are dropped and counted; with
WAKE_ON_TRAFFIC the first one to an ASLEEP Span wakes it. `st` is the Span's state when the frame came: the other copies of the frame
that wakes it are dropped all the same. -/
def State.sleepDrop (s : State) (st chan route : Nat) : Bool × State :=
  let i := s.spanOf chan
  if st == spEntering then (true, s.incSpan i 6)
  else if st == spAsleep then
    let s := s.incSpan i 6
    (true, if s.spanPar i 0x010E == 1 then s.wake i wsRoute chan route 0xFF else s)
  else (false, s)

/-- Channel of a queue (R253): port, host, storage, CAN or LIN Channel; 104 where it has none. -/
def State.queueChan (s : State) (q : Nat) : Nat :=
  if q < 192 then q / 8
  else if 768 ≤ q && q < 800 then 22
  else if 224 ≤ q && q < 736 then 24 + (q - 224) / 8
  else if 736 ≤ q && q < 768 then 88 + (q - 736) / 2
  else match s.queuePort q with
    | some p => if p ≤ 21 then p else 104
    | none => 104

/-- Drop the copies that sleeping Spans refuse. -/
def State.sleepFilter (s : State) (specs : List CopySpec) : List CopySpec × State :=
  specs.foldl (fun (a : List CopySpec × State) c =>
    let ch := a.2.queueChan c.queue
    if ch ≥ 104 then (a.1 ++ [c], a.2)
    else
      let (drop, t) := a.2.sleepDrop (s.spanState (s.spanOf ch)) ch c.route
      if drop then (a.1, t) else (a.1 ++ [c], t)) ([], s)

/-! ### Holds (R392) -/

/-- A client's hold is set. -/
def State.holdSet (s : State) (i client : Nat) : State :=
  if bitOf (s.getF (SpanState.holds i)) client then s
  else
    let v := s.span i
    let h := tabGet (fun _ => ({} : HoldAcc)) v.holds client
    let s := s.setSpan i { v with holds := tabInsert v.holds client { h with since := s.brim.hb } }
    s.setF (SpanState.holds i) (setBit (s.getF (SpanState.holds i)) client true)

/-- A client's hold is cleared. -/
def State.holdClear (s : State) (i client : Nat) : State :=
  if !bitOf (s.getF (SpanState.holds i)) client then s
  else
    let v := s.span i
    let h := tabGet (fun _ => ({} : HoldAcc)) v.holds client
    let h : HoldAcc := { acc := h.acc + (s.brim.hb - h.since), since := s.brim.hb }
    let s := s.setSpan i { v with holds := tabInsert v.holds client h, lastHolder := (2, client, 0xFF) }
    s.setF (SpanState.holds i) (setBit (s.getF (SpanState.holds i)) client false)

/-- Keep-alive demand ends. -/
def State.idleEnd (s : State) (i : Nat) : State :=
  let v := s.span i
  if s.flag (SpanState.kaDemand i) then
    (s.setSpan i { v with idleAt := none, lastHolder := (1, v.kaNode, v.kaChan) }).setF (SpanState.kaDemand i) 0
  else s

/-! ### Sleep entry (R385 to R387) -/

/-- Queues of the host and storage links that belong to the Span. -/
def State.spanLinkQueues (s : State) (i : Nat) : List Nat :=
  (if s.spanOf 22 == i then s.portQueues 22 ++ (List.range 32).map (768 + ·) else []) ++
  (if s.spanOf 23 == i then s.portQueues 23 else [])

/-- Is everything of the Span sent: queues, FIFOs, sleep commands? -/
def State.spanDrained (s : State) (i : Nat) : Bool :=
  (s.spanLinkQueues i).all (fun q => (s.queue q).isEmpty) &&
  (s.spanCans i).all (fun n => s.canIdle n) &&
  (s.spanPorts i).all (fun p => s.portIdle p) &&
  (s.spanLins i).all (fun n => (s.queue (linQueue n 0)).isEmpty && (s.queue (linQueue n 1)).isEmpty &&
    !(s.linLane n).sleepPend && (s.linLane n).slot != .sleep)

/-- Whatever is left is discarded under force disable. -/
def State.spanDiscard (s : State) (i : Nat) : State :=
  let s := (s.spanLinkQueues i).foldl (fun s q => s.flushQueue q) s
  let s := (s.spanCans i).foldl (fun s n => s.canDiscard n) s
  let s := (s.spanLins i).foldl (fun s n =>
    let s := s.linDiscard n
    if s.getF (LinStatus.roleActive n) == 1 then (s.setLin n { s.linLane n with sleepPend := false }).linStop n else s) s
  (s.spanPorts i).foldl (fun s p => (s.portQueues p).foldl (fun s q =>
    let s := (s.queue q).foldl (fun s d => s.tsqDiscard (s.desc d)) s
    s.flushQueue q) s) s

/-- Channels of the Span that can wake it (R385 step 3): a wake pattern that is enabled, T1S wake detection, CAN[0..15], LIN[0..7]. -/
def State.spanWakers (s : State) (i : Nat) : List Nat :=
  (s.spanChans i).filter (fun c =>
    (c < 12 && s.par (oPattern c) (pidRaw 0) == 1) || (12 ≤ c && c ≤ 19) || (24 ≤ c && c < 40) || (88 ≤ c && c < 96))

/-- Step 3 begins: each source is armed by a Hatpin write, Channels and then pins. -/
def State.spanArm (s : State) (i : Nat) : State :=
  let s := s.setSpan i { s.span i with step := 1, drainAt := none }
  let pins := maskBits 8 (s.spanPar i 0x010D)
  { s with out := (pins.map (fun k => Emit.hatpin (0x580 + k) 1)) ++ ((s.spanWakers i).map (fun c => Emit.hatpin (0x500 + c) 1)) ++ s.out }

/-- Step 4: the transceivers are commanded to sleep, and the Brim die holds what is armed. -/
def State.spanArmed (s : State) (i : Nat) : State :=
  let a : ArmedSpan := { span := i, pins := s.spanPar i 0x010D, chans := s.spanChans i,
                         swake := ((s.spanCans i).filter (· < 16)).map (fun n => (n, s.par (oChan (24 + n)) pidSwake)) }
  let s := { s with brim := { s.brim with
    armedSpans := s.brim.armedSpans.filter (fun (b : ArmedSpan) => b.span != i) ++ [a],
    decErr := s.brim.decErr.filter (fun kv => !(a.swake.any (fun x => x.1 == kv.1))) } }
  let s := (s.setF (SpanState.armed i) 1).setSpan i { s.span i with step := 2 }
  let s := ((s.spanCans i).filter (· < 16)).foldl (fun s n => s.xcvrCommand n (s.spanPar i 0x010C)) s
  (s.lineCommand i 3).spanAsleepCheck i

/-- Arming failed (R387). -/
def State.spanArmFail (s : State) (i : Nat) : State :=
  let s := ((s.hatpinDown.spanDisarm i).spanXcvrBack i).lineCommand i 0
  let s := s.setSpan i { s.span i with step := 0, drainAt := none, idleAt := some (s.after (msC (s.spanPar i 0x0101))) }
  let s := (s.setF (SpanState.state i) spAwake).setF (SpanState.kaDemand i) 1
  let s := ((s.longArm i).kaArm i).nodesOpen i
  ((s.incSpan i 5).spanFault i).spanDemand i

/-- A Span's first commit with SLEEP_EN 1 after a Crown-die boot (R399). -/
def State.spanStart (s : State) (i : Nat) : State :=
  if (s.span i).started || s.spanPar i 0x0100 == 0 then s
  else
    let s := s.setSpan i { s.span i with started := true }
    let latched := s.brim.latchedSpans.find? (fun w => w.span == i)
    let (source, detail, chan) := match latched with
      | some w => (w.source, w.detail, w.chan)
      | none => (wsDeviceStart, 0, 0xFF)
    let s := if latched.isSome then
        { s with brim := { s.brim with latchedSpans := s.brim.latchedSpans.filter (fun w => w.span != i) } }
      else s.wakeRecord wsDeviceStart 0xFF i 0 false
    -- the AWAKE mode of a Channel after a Crown-die boot (R389): normal where it is enabled, standby where it is not
    let s := ((s.spanCans i).filter (· < 16)).foldl (fun s n =>
      s.setCan n { s.canLane n with xcvrBefore := if s.chanEnabled (24 + n) then 0 else 2 }) s
    ((((s.nodesClose i).spanWaking i chan).spanXcvrBack i).lineCommand i 0).spanAwakeCheck i |>.wakeTell i source detail

/-- Every Span is AWAKE since firmware's start, or since DECK.RESET: its awake period and its demand begin (R378, R382, R401). -/
def State.spansBegin (s : State) : State :=
  (List.range 16).foldl (fun (s : State) i =>
    ((s.setSpan i { s.span i with awakeSince := s.brim.hb }).longArm i).spanDemand i) s

/-- A commit has set SLEEP_EN of a Span to 0 (R383). -/
def State.spanSleepOff (s : State) (i epoch : Nat) : State :=
  let s := (s.wake i wsConfig 0xFF epoch 0xFF).spanDemand i
  if s.spanState i == spPrepare then s.spanAbort i (5, wsConfig, 0xFF) else s

/-! ### Timed commands of the Span -/

/-- A Span timer that ends at `d` expires at the end of the millisecond of `d`, so that a keep-alive, a wake or a hold of the same
millisecond wins (R383, R384). -/
def msEnd (d : Nat) : Nat := strandPlus d (msC 1 - d % msC 1)

/-- IDLE_TIMER_EXPIRY (R382). Where the timer is not running, firmware's next millisecond finds the Span as it is: one without demand,
after an abort in PREPARE, prepares again (R383; DESIGN CHOICE, log entry 112). -/
def execIdleTimerExpiry (i : Fin 16) (s : State) : Host.Outcome State Fault Refusal :=
  .next (if s.switchover then s
    else match (s.span i).idleAt with
      | none => s.spanUpdate i
      | some d => ((s.timeTo (msEnd d)).idleEnd i).spanUpdate i)

/-- PREPARE_TIME_EXPIRY (R383). -/
def execPrepareTimeExpiry (i : Fin 16) (s : State) : Host.Outcome State Fault Refusal :=
  .next (match (s.span i).prepareAt with
    | none => s
    | some d => if s.spanState i == spPrepare && !s.switchover then (s.timeTo (msEnd d)).spanEnter i else s)

/-- FALSE_WAKE_EXPIRY (R383, R390). -/
def execFalseWakeExpiry (i : Fin 16) (s : State) : Host.Outcome State Fault Refusal :=
  .next (match (s.span i).falseAt with
    | none => s
    | some d =>
      if s.switchover then s else
      let s := (s.timeTo (msEnd d)).spanDemand i
      let s := (s.setSpan i { s.span i with falseAt := none }).setF (SpanState.falseWakeRun i) 0
      if !s.hasDemand i && !(s.span i).correct && s.spanState i == spAwake && !s.spanRemote i then
        let s := (s.markFalseWake i).incSpan i 4
        (s.setSpan i { s.span i with lastHolder := (0, 0, 0xFF) }).spanEnter i
      else s.spanUpdate i)

/-- ENTRY_DRAIN_END (R385 step 2): everything is sent, or ENTRY_DRAIN has passed and the rest is discarded; arming begins. -/
def execEntryDrainEnd (i : Fin 16) (s : State) : Host.Outcome State Fault Refusal :=
  .next (if s.spanState i == spEntering && (s.span i).step == 0 && !s.switchover then
      if s.spanDrained i then s.spanArm i
      else
        match (s.span i).drainAt with
        | some d => ((s.timeTo d).spanDiscard i).spanArm i
        | none => s.spanArm i
    else s)

/-- The arming writes of step 3 are over. During a firmware switchover what follows waits (R52). -/
def State.armingEnd (s : State) (i : Nat) (fails : Bool) : State :=
  if s.spanState i != spEntering || (s.span i).step != 1 then s
  else if s.switchover then s.spanWait (.armed i fails)
  else if fails then s.spanArmFail i else s.spanArmed i

/-- ARMING_CONFIRMED (R385 steps 3 and 4, R387): the last source is armed, or an arming write has failed. -/
def execArmingConfirmed (i : Fin 16) (fails : Bool) (s : State) : Host.Outcome State Fault Refusal :=
  .next (s.armingEnd i fails)

/-- LANE_POWER_UP (R389 steps 1 and 2): within 20 µs. -/
def execLanePowerUp (i : Fin 16) (s : State) : Host.Outcome State Fault Refusal :=
  .next (if s.spanState i == spWaking then (((s.spanUngate i).spanXcvrBack i).lineCommand i 0).spanAwakeCheck i else s)

/-- The keep-alive of a Span leaves on each of its CAN Channels that is enabled (R391). -/
def State.kaSend (s : State) (i : Nat) : State :=
  let nb := s.spanPar i 0x0108
  let ab := s.spanPar i 0x0109
  let node := s.spanPar i 0x010B
  let kid := s.spanPar i 0x0105
  let id := if nb == 255 then setBits kid 7 0 node else kid
  let pay := if nb < 8 then putB (zeros 8) nb (leBytes 1 node) else zeros 8
  let pay := if ab < 64 then putB pay (ab / 8) (leBytes 1 (setBit (leAt pay (ab / 8) 1) (ab % 8) true)) else pay
  let r := leBytes 4 (bitsOf id 29 0) ++ [0, 0x80] ++ leBytes 2 8 ++ zeros 8 ++ pay
  (s.spanCans i).foldl (fun s n =>
    if s.flag (CanStatus.enabled n) then
      (s.storeFrame 24 s.strand r [{ queue := canQueue n + 7, cls := 7, hostTx := true }]).2
    else s) s

/-- KA_TX_PERIOD_EXPIRY (R391): while AWAKE and held, the keep-alive leaves on every CAN Channel of the Span. -/
def execKaTxPeriodExpiry (i : Fin 16) (s : State) : Host.Outcome State Fault Refusal :=
  .next (match (s.span i).kaAt with
    | none => s
    | some d =>
      let s := s.timeTo d
      let per := s.spanPar i 0x010A
      let s := s.setSpan i { s.span i with kaAt := if per = 0 then none else some (s.after (msC per)) }
      if s.spanState i != spAwake || s.getF (SpanState.holds i) == 0 then s else s.kaSend i)

/-- LONG_AWAKE_EXPIRY (R401). -/
def execLongAwakeExpiry (i : Fin 16) (s : State) : Host.Outcome State Fault Refusal :=
  .next (match (s.span i).longAt with
    | none => s
    | some d =>
      let s := s.timeTo d
      let lng := s.spanPar i 0x0110
      let s := s.setSpan i { s.span i with longAt := if lng = 0 then none else some (s.after (secC lng)) }
      (s.incSpan i 8).stayLog i 3 (s.longestHolder i))

/-! ### Wake sources (R394 to R396) -/

/-- The decoder's error counter, and the wake of its filter or of 32 errors (R394). -/
def State.swakeIn (s : State) (n span f kind id : Nat) (rtr : Bool) (dlc data : Nat) : State :=
  let err := kind == 2 || (kind == 1 && !bitOf f 9)
  let e := tabGet ctrDefault s.brim.decErr n
  if err then
    let s := { s with brim := { s.brim with decErr := tabSet ctrDefault s.brim.decErr n (e + 1) } }
    if e + 1 > 31 then s.wake span wsDecoder (24 + n) 32 (24 + n) else s
  else if kind == 1 then s
  else
    let s := { s with brim := { s.brim with decErr := tabSet ctrDefault s.brim.decErr n (e - 1) } }
    if swakeMatch f id dlc data rtr then s.wake span wsSwake (24 + n) id (24 + n) else s

/-- SWAKE_FRAME (R394): the decoder of CAN[n] sees a frame: kind 0 a correct classical frame, 1 a correct FD frame, 2 a
decoding error. `id` has IDE in bit 29. -/
def execSwakeFrame (n : Fin 16) (kind : Fin 3) (id : BitVec 30) (rtr : Bool) (dlc : BitVec 4) (data : BitVec 64) (s : State) :
    Host.Outcome State Fault Refusal :=
  .next (match s.armedCan n with
    | none => s
    | some (a, f) =>
      if bitsOf f 7 0 == 0 then s else s.swakeIn n a.span f kind.val id.toNat rtr dlc.toNat data.toNat)

/-- WUP (R394): a wake-up pattern on a transceiver armed without selective wake. -/
def execWup (n : Fin 16) (s : State) : Host.Outcome State Fault Refusal :=
  .next (match s.armedCan n with
    | some (a, f) => if bitsOf f 7 0 == 0 then s.wake a.span wsWup (24 + n) 0 (24 + n) else s
    | none => s)

/-- The Spans that a WAKE pin wakes: those armed with it, and those in PREPARE or ENTERING that name it (R383, R386, R395). -/
def State.pinSpans (s : State) (pin : Nat) : List Nat :=
  let armed := (s.brim.armedSpans.filter (fun a => bitOf a.pins pin)).map (·.span)
  armed ++ (List.range 16).filter (fun i =>
    (s.spanState i == spPrepare || s.spanState i == spEntering) && bitOf (s.spanPar i 0x010D) pin && !armed.contains i)

/-- WAKE_PIN (R395): a WAKE pin's filtered level changes; a selected edge wakes every Span that names the pin. -/
def execWakePin (pin : Fin 8) (level : Bool) (s : State) : Host.Outcome State Fault Refusal :=
  let edge := bitsOf (s.nvmPar (0x1300 + pin.val)) 1 0
  let s := s.setF ⟨WakePinStatus.off, pin, pin⟩ (b2n level)
  let sel := bitOf edge (if level then 0 else 1)
  .next (if !sel then s
    else (s.pinSpans pin).foldl (fun s i => s.wake i wsPin pin (b2n level) 0xFF) s)

/-- LIN_WAKE (R396) on LIN[n]. -/
def execLinWake (n : Fin 8) (s : State) : Host.Outcome State Fault Refusal :=
  .next (match s.armedChan (88 + n.val) with
    | some a => s.wake a.span wsLin (88 + n.val) 0 (88 + n.val)
    | none => s)

/-- T1S_WAKE (R396) on PORT[12 + i]. -/
def execT1sWake (i : Fin 8) (s : State) : Host.Outcome State Fault Refusal :=
  .next (match s.armedChan (12 + i.val) with
    | some a => s.wake a.span wsT1s (12 + i.val) 0 (12 + i.val)
    | none => s)

/-- Does a wake pattern match (R149, R150)? Fields as the payload of ETH.WAKE_PATTERN_SET: LENGTH, MASK, PATTERN. -/
def patternMatch (len mask : Nat) (pat b : List Byte) : Bool :=
  decide (len ≤ b.length) && (List.range len).all (fun i => !bitOf mask i || leAt b i 1 == leAt pat i 1)

/-- A frame whose bits and fragments are right passes steps 3 to 5 of R128 on a port. -/
def State.wakeFrameOk (s : State) (p : Nat) (b : List Byte) : Bool :=
  decide (64 ≤ b.length ∧ b.length ≤ s.par (oChan p) 0x0103) && fcsOk b

/-- WAKE_PATTERN_MATCH (R150, R151): a frame that passes R128 steps 1 to 5 on a port whose Span sleeps or is entering sleep
matches the armed pattern; frame and pattern as on the wire. -/
def execWakePatternMatch (p : Fin 12) (frame : List Byte) (s : State) : Host.Outcome State Fault Refusal :=
  let o := oPattern p
  .next (match s.armedChan p with
    | none => s
    | some a =>
      if s.par o (pidRaw 0) == 1 && s.wakeFrameOk p frame &&
          patternMatch (s.par o (pidRaw 1)) (s.par o (pidRaw 2)) (leBytes 128 (s.par o (pidRaw 3))) frame then
        let s := (s.inc (oChan p) cEth 15).event (PortEvents.wakeMatch p) (0x105 + p.val * 16)
        s.wake a.span wsPattern p 0 p
      else s)

/-- A member's report at the Deck that runs the consensus (R404): 0 demand, 1 a wake, which it passes on to the members. -/
def State.spanFromMember (s : State) (i deck kind arg : Nat) : State :=
  match kind with
  | 0 =>
    let v := s.span i
    let on := arg != 0
    let v := { v with
      remote := setBit v.remote deck on, remoteSince := if v.remote == 0 && on then s.brim.hb else v.remoteSince,
      lastHolder := if !on then (4, deck, 0xFF) else v.lastHolder }
    (s.setSpan i v).spanUpdate i
  | 1 =>
    -- the waking of this Deck's own Span goes to the members with it; where that Span was awake already, they are woken all the same
    let was := s.spanState i == spAsleep || s.spanState i == spEntering
    let s := s.wake i wsRemote deck arg 0xFF
    if was || arg == wsRemote then s else s.spanTell i 4 arg
  | 6 => (s.setSpan i { s.span i with quiet := setBit (s.span i).quiet deck (arg != 0) }).spanUpdate i
  | _ => s

/-- Decks that no path reaches any more report no demand, and their Spans are not known to sleep (R404, R405). -/
def State.spansLost (s : State) (gone : List Nat) : State :=
  (List.range 16).foldl (fun (s : State) i =>
    let v := s.span i
    if gone.any (fun d => bitOf v.remote d || bitOf v.quiet d) then
      let clear := fun (m : Nat) => gone.foldl (fun m d => setBit m d false) m
      (s.setSpan i { v with remote := clear v.remote, quiet := clear v.quiet }).spanUpdate i
    else s) s

/-- The Deck that leads is another from now on (R404): a member reports the demand of each Viaduct Span to it, and each Span goes on under
the consensus that now runs it. -/
def State.spansReport (s : State) : State :=
  let s := (List.range 16).foldl (fun (s : State) i =>
    let s := s.setSpan i { s.span i with masterLocal := false }
    s.spanTell i 0 (b2n (s.hasDemand i))) s
  let s := { s with pier := { s.pier with quietTold := none } }.carrierTell
  ((List.range 16).filter (fun i => s.spanState i == spPrepare)).foldl (fun (s : State) i => s.spanUpdate i) s

/-- A decision of the Deck that runs the consensus, at a member (R404). -/
def State.spanFromMaster (s : State) (i deck kind arg : Nat) : State :=
  if s.switchover then s.spanWait (.master i deck kind arg) else
  let s := if kind == 5 then s else s.setSpan i { s.span i with masterLocal := false }
  match kind with
  | 5 => (s.setSpan i { s.span i with masterLocal := true }).spanUpdate i
  | 2 => if s.spanState i == spAwake then s.spanPrepare i else s
  | 3 => if s.spanState i == spAwake || s.spanState i == spPrepare then s.spanEnter i else s
  | 4 => s.wake i wsRemote deck arg 0xFF
  | _ => s

/-- A decision that has waited for the new firmware is taken (R52). -/
def State.spanTake (s : State) (d : SpanDue) : State :=
  match d with
  | .wake i source index detail chan h => s.wakeBy i source index detail chan h
  | .keepAlive i chan node detail => s.keepAliveDecide i chan node detail
  | .master i deck kind arg => s.spanFromMaster i deck kind arg
  | .armed i fails => s.armingEnd i fails

/-- VIADUCT_SPAN_MESSAGE (R404): kind 0 a member's demand report (`arg` 0 or 1), 1 its wake report (`arg` the source) and 6 whether every
other Span sleeps there (R405), as Deck 0 or an acting master receives them; 2, 3 and 4 the decisions PREPARE, ENTERING and WAKING, and 5
that the Span is local on Deck 0, as a member does. A Span with VIADUCT 0 on the Deck that runs the consensus answers that it is local
(DESIGN CHOICE, log entry 112: R404 says what the Decks tell one another, not in which messages). -/
def execViaductSpanMessage (i : Fin 16) (deck : Fin 4) (kind : Fin 7) (arg : Byte) (s : State) :
    Host.Outcome State Fault Refusal :=
  let member := s.getF CascStatus.role == 2
  .next (
    if s.spanPar i 0x0111 == 0 then
      (if !member && (kind.val ≤ 1 || kind.val == 6) then { s with out := .spanMessage i 5 0 :: s.out } else s)
    else if s.spanPar i 0x0100 == 0 then s
    else if member then s.spanFromMaster i deck kind.val arg.toNat
    else s.spanFromMember i deck kind.val arg.toNat)

/-! ### The conditions of low power (R366) -/

/-- Condition 1 of R366: every Span with an enabled Channel, the host link's and an attached storage link's included, is asleep, and
SPAN[0] has none. -/
def State.lpSpansAsleep (s : State) : Bool :=
  (List.range 104).all (fun c =>
    !s.chanEnabled c || (s.spanOf c != 0 && s.getF (SpanState.state (s.spanOf c)) == spAsleep))

/-- Conditions 2 to 4 of R366. -/
def State.lpRest (s : State) : Bool :=
  s.gci.tickets.all (fun t => t.result.isSome) && s.gci.drafts.isEmpty && s.getF DeckBootStatus.stage != 11 &&
  s.getF SwFreeDesc.count == 65536 && s.getF SgeReady.count == 0 && s.hbx.jobs.isEmpty && !s.store.recording

end Sys2Proof.Machine
end

