-- ==== Sys2Proof/Machine/Power.lean ====
section
/-! DEFINITION. Clocks and power states of the Hatband domain, entry into low power and leaving it, and the thermal policy
(R360 to R377). -/

namespace Sys2Proof.Machine

/-! ### Entry into low power -/

/-- The Brim die accepts PARK: R368 steps 1 to 3. The Crown die's reset is asserted, which sets no cause bit. -/
def State.acceptPark (s : State) (wakeS : Nat) : State :=
  let s := s.crownClear
  { s with brim := { s.brim with
      entering := some pwParked, wakeSecs := wakeS, parkHeld := false, supplyTimer := some (s.brim.hb + msC 20) } }.syncInh

/-- A wake latched, or the crystal failed, in Parked, Listening or on the way there: the device is Waking (R367, R368,
R372). From Parked the role-1 INH turns on and the boot of R36 runs from SG. -/
def State.deviceWake (s : State) : State :=
  if s.brim.power == pwParked || s.brim.entering == some pwParked then
    let s := { s with fabricOn := false, brim := { s.brim with
      entering := none, wakeLatched := false, wakeTimer := none, parkTimer := none,
      supplyTimer := some (s.brim.hb + msC 50) } }
    -- PREV_STATE names Parked even where the fall of VDD_CORE was still awaited
    ({ s with brim := { s.brim with power := pwParked } }.setPower pwWaking).causewayRelease
  else if s.brim.power == pwListening then
    { s with brim := { s.brim with
      entering := none, wakeLatched := false, wakeTimer := none, parkTimer := none, parkHeld := false } }.setPower pwWaking
  else s

/-- The low-power request is accepted: Listening (1), or Parked, for which the crystal must run (R366, R368, R371). -/
def State.lpEnter (s : State) (mode : Nat) : State :=
  if mode == 1 then
    { s with brim := { s.brim with
        entering := some pwListening, wakeSecs := s.par oDeck 0x0F03, parkSecs := s.par oDeck 0x0F02 } }
  else if s.brim.crystalFail then s
  else if !s.brim.xoscOk then
    { s with brim := { s.brim with parkHeld := true, wakeSecs := s.par oDeck 0x0F03 } }
  else s.acceptPark (s.par oDeck 0x0F03)

/-- ENTRY_HOLD_EXPIRY (R366, R368, R371): the conditions have held for ENTRY_HOLD, so firmware sends the request that
LOW_POWER names; a wake latched before its acceptance makes the Brim die refuse it (LOW_POWER_ABORT). -/
def execEntryHoldExpiry (wakeFirst : Bool) (s : State) : Host.Outcome State Fault Refusal :=
  let mode := s.par oDeck 0x0F00
  .next (
    if s.brim.power != pwRunning || mode == 0 || !s.fwRunning then s
    else if !s.lpSpansAsleep || !s.lpRest then s
    else
      let s := s.hbTo (s.brim.hb + msC (s.par oDeck 0x0F01))
      if wakeFirst then s.lpRefuse else s.lpEnter mode)

/-- XOSC32_STABLE (R361): a held Parked request takes effect. -/
def execXosc32Stable (s : State) : Host.Outcome State Fault Refusal :=
  let s := { s with brim := { s.brim with xoscOk := true } }.setF PwrStatus.xoscOk 1
  .next (if s.brim.parkHeld && !s.brim.crystalFail && (s.brim.power == pwRunning || s.brim.power == pwListening) then
      s.acceptPark s.brim.wakeSecs
    else s)

/-- XOSC32 is found stopped in Parked (R361, R367): CRYSTAL_FAIL, and the device is Waking. -/
def State.crystalWake (s : State) : State :=
  let s := { s with brim := { s.brim with crystalFail := true } }.deviceWake
  s.event PwrEvents.crystalFail 0x042

/-- XOSC32_STOP (R361, R367): while Parked the device moves to Waking with CRYSTAL_FAIL. -/
def execXosc32Stop (s : State) : Host.Outcome State Fault Refusal :=
  let s := { s with brim := { s.brim with xoscOk := false } }.setF PwrStatus.xoscOk 0
  .next (if s.brim.power == pwParked then s.crystalWake else s)

/-- A Hatband timer of `n` seconds, 0 for none. -/
def State.secTimer (s : State) (n : Nat) : Option Nat := if n = 0 then none else some (s.brim.hb + secC n)

/-- The device is Parked, with the wake timer running where one is set. -/
def State.parkedNow (s : State) : State :=
  let s := { s with brim := { s.brim with entering := none, supplyTimer := none, parkTimer := none } }
  { s with brim := { s.brim with wakeTimer := s.secTimer s.brim.wakeSecs } }.setPower pwParked

/-- PARK_SUPPLY_FALL (R368 steps 4 and 5): VDD_CORE is below 10%, or 20 ms have passed, and the device is Parked; a wake
latched since the acceptance, or a crystal that has stopped since then, moves it on to Waking. -/
def execParkSupplyFall (s : State) : Host.Outcome State Fault Refusal :=
  .next (if s.brim.entering == some pwParked then
      if s.parkedNow.brim.xoscOk then (if s.parkedNow.brim.wakeLatched then s.parkedNow.deviceWake else s.parkedNow)
      else s.parkedNow.crystalWake
    else s)

/-- The device is Listening, with its two timers running where they are set. -/
def State.listeningNow (s : State) : State :=
  let s := { s with brim := { s.brim with entering := none } }
  { s with brim := { s.brim with
    wakeTimer := s.secTimer s.brim.wakeSecs, parkTimer := s.secTimer s.brim.parkSecs } }.setPower pwListening

/-- CORE_CLOCK_STOP (R371): the Core island's clocks stop and the device is Listening; a wake latched since the acceptance
resumes it at once. -/
def execCoreClockStop (s : State) : Host.Outcome State Fault Refusal :=
  .next (if s.brim.entering == some pwListening && s.brim.power == pwRunning then
      let s := s.listeningNow
      if s.brim.wakeLatched then s.deviceWake else s
    else s)

/-- LISTENING_WAKE (R372 steps 1 to 3). -/
def execListeningWake (s : State) : Host.Outcome State Fault Refusal :=
  .next (if s.brim.power == pwListening && s.brim.wakeLatched then s.deviceWake else s)

/-- Firmware resumes: the Spans that the wake named leave ASLEEP, with the records that exist already; a Viaduct Span's
wake is made known (R404). -/
def State.spansResume (s : State) : State :=
  let l := s.brim.latchedSpans
  let s := { s with brim := { s.brim with latchedSpans := [], wakeLatched := false } }
  l.foldl (fun (s : State) w =>
    if s.spanState w.span == spAsleep then (s.spanWaking w.span w.chan).wakeTell w.span w.source w.detail else s) s

/-- A domain whose slave port's Lane is gated is LOST (R364), unless it is OFF, which only a commit leaves (R343). -/
def State.gatedLost (s : State) : State :=
  (List.range 2).foldl (fun s d =>
    let p := s.par (oClock d) 0x0102
    if p ≤ 11 && s.domainState d != dsOff && s.flag (PortStatus.laneGated p) then s.domainPut d dsLost else s) s

/-- CORE_CLOCKS_RESUME (R364, R372 steps 4 and 5): the network clocks are advanced, a history entry is written, a domain
whose slave port's Lane is gated is LOST, the watchdog's window restarts (R367), and firmware resumes in Running. -/
def execCoreClocksResume (s : State) : Host.Outcome State Fault Refusal :=
  .next (if s.brim.power == pwWaking && s.brim.prev == pwListening then
      ((s.historyAll.setPower pwRunning).watchdogAgain.gatedLost).workChoose.spansResume
    else s)

/-- PARKED_WAKE (R367): the role-1 INH turns on and the Crown die boots. -/
def execParkedWake (s : State) : Host.Outcome State Fault Refusal :=
  .next (if (s.brim.power == pwParked || s.brim.entering == some pwParked) && s.brim.wakeLatched then s.deviceWake else s)

/-- WAKE_TIMER_EXPIRY (R367): in Listening or Parked the device wakes. -/
def execWakeTimerExpiry (s : State) : Host.Outcome State Fault Refusal :=
  .next (match s.brim.wakeTimer with
    | none => s
    | some d =>
      let s := { s.hbTo d with brim := { (s.hbTo d).brim with wakeTimer := none } }
      (s.wakeRecord wsWakeTimer 0xFF 0xFF 0 false).deviceWake)

/-- Listening goes on to Parked, once the crystal runs (R367). -/
def State.parkOnTime (s : State) : State :=
  if s.brim.power == pwListening && !s.brim.crystalFail then
    if s.brim.xoscOk then s.acceptPark s.brim.wakeSecs else { s with brim := { s.brim with parkHeld := true } }
  else s

/-- LISTEN_TO_PARK_EXPIRY (R367): the Brim die removes the Crown supplies under R368 steps 3 to 5. -/
def execListenToParkExpiry (s : State) : Host.Outcome State Fault Refusal :=
  .next (match s.brim.parkTimer with
    | none => s
    | some d =>
      State.parkOnTime { s.hbTo d with brim := { (s.hbTo d).brim with parkTimer := none } })

/-! ### Degraded and its retries -/

/-- The device is Degraded with a supply retry due in 100 ms, unless three fell within 10 s (R373). -/
def State.degradeSupply (s : State) : State :=
  let s := s.crownClear
  let recent := s.brim.supplyRetries.filter (fun t => s.brim.hb < t + secC 10)
  { s with brim := { s.brim with
    supplyTimer := none, retryAt := if recent.length ≥ 3 then none else some (s.brim.hb + msC 100), entering := none } }.setPower
    pwDegraded |>.causewayRelease

/-- SUPPLY_QUALIFY_TIMEOUT (R367): Crown supplies not in tolerance within 50 ms of the role-1 INH turning on. -/
def execSupplyQualifyTimeout (s : State) : Host.Outcome State Fault Refusal :=
  .next (match s.brim.supplyTimer with
    | none => s
    | some d => if s.brim.power == pwWaking then (s.hbTo d).degradeSupply else s)

/-- 100 ms off have passed: Waking again, unless three retries fell within 10 s. -/
def State.supplyRetry (s : State) : State :=
  let recent := s.brim.supplyRetries.filter (fun t => s.brim.hb < t + secC 10)
  if s.brim.power != pwDegraded || s.brim.halted || recent.length ≥ 3 then s
  else
    let s := { s with brim := { s.brim with
      supplyRetries := s.brim.hb :: recent, supplyTimer := some (s.brim.hb + msC 50) } }
    (s.setF PwrStatus.retries (min (recent.length + 1) 3)).setPower pwWaking

/-- SUPPLY_RETRY_EXPIRY (R373): after 100 ms off the device enters Waking, unless three consecutive supply retries fell
within 10 s. -/
def execSupplyRetryExpiry (s : State) : Host.Outcome State Fault Refusal :=
  .next (match s.brim.retryAt with
    | none => s
    | some d =>
      State.supplyRetry { s.hbTo d with brim := { (s.hbTo d).brim with retryAt := none } })

/-- After 1 s, below 140 °C: Waking again (R373). -/
def State.thermalRetry (s : State) (temp : Nat) : State :=
  if s.brim.power != pwDegraded || s.brim.halted || temp ≥ 204 then s
  else
    let s := { s with brim := { s.brim with thermRetryAt := none, supplyTimer := some (s.brim.hb + msC 50) } }
    (s.setF PwrStatus.retries (min (s.getF PwrStatus.retries + 1) 3)).setPower pwWaking

/-- THERMAL_RETRY_EXPIRY (R373): the Brim die reads below 140 °C (encoded °C + 64) and at least 1 s has passed. -/
def execThermalRetryExpiry (brimTemp : Byte) (s : State) : Host.Outcome State Fault Refusal :=
  .next (match s.brim.thermRetryAt with
    | none => s
    | some d => (s.hbTo d).thermalRetry brimTemp.toNat)

/-! ### Thermal policy -/

/-- The threshold of a thermal level in °C (R375). -/
def State.thermThreshold (s : State) (level : Nat) : Nat := s.par oDeck (if level = 2 then 0x0F31 else 0x0F30)

/-- The thermal level rises (R375). -/
def State.thermRise (s : State) (t : Nat) : State :=
  let s := s.creditSyncAll
  let s := if s.getF ThermStatus.level < 1 && t ≥ s.thermThreshold 1 then
      (s.setF ThermStatus.level 1).event PwrEvents.thermWarn 0x043 else s
  if s.getF ThermStatus.level < 2 && t ≥ s.thermThreshold 2 then
    (s.setF ThermStatus.level 2).event PwrEvents.thermShed 0x044 else s

/-- The temperatures, encoded °C + 64, are published with their peaks; the level rises, and the 100 ms of a fall start or stop. -/
def State.thermPublish (s : State) (crown brim : Nat) : State :=
  let t := crown - 64
  let s := (s.setF ThermStatus.crownTemp crown).setF ThermStatus.brimTemp brim
  let s := s.setF ThermPeak.crownPeak (max (s.getF ThermPeak.crownPeak) crown)
  let s := s.setF ThermPeak.brimPeak (max (s.getF ThermPeak.brimPeak) brim)
  let s := s.thermRise t
  let lv := s.getF ThermStatus.level
  let cool := decide (lv ≠ 0) && decide (t + 5 ≤ s.thermThreshold lv)
  { s with brim := { s.brim with
    thermFallAt := if cool then (match s.brim.thermFallAt with | some d => some d | none => some (s.brim.hb + msC 100))
                   else none } }

/-- A critical temperature: fault input 6, and Degraded with a retry 1 s later, unless it is the third within 60 s (R373, R375). -/
def State.thermCritical (s : State) : State :=
  let s := s.faultRise 6
  let s := s.crownClear
  let recent := s.brim.thermalTimes.filter (fun u => s.brim.hb < u + secC 60)
  { s with brim := { s.brim with
      thermalTimes := s.brim.hb :: recent,
      thermRetryAt := if recent.length ≥ 2 then none else some (s.brim.hb + secC 1) } }.setPower pwDegraded
    |>.causewayRelease

/-- THERMAL_READ (R375): the two temperatures, encoded °C + 64, are published; the level rises, the 100 ms of a fall start
or stop, and a critical temperature raises input 6 and moves the device to Degraded from Running, the only state for which R367
lists it. -/
def execThermalRead (crown brimT : Byte) (s : State) : Host.Outcome State Fault Refusal :=
  .next (if (decide (s.getF ThermStatus.crownTemp ≥ 229) && decide (crown.toNat - 64 ≥ 165)) || decide (brimT.toNat - 64 ≥ 170) then
      (if s.brim.power == pwRunning then (s.thermPublish crown.toNat brimT.toNat).thermCritical
        else s.thermPublish crown.toNat brimT.toNat)
    else s.thermPublish crown.toNat brimT.toNat)

/-- The level falls one step: at 0 the event, else another 100 ms where it is cool enough. -/
def State.thermFall (s : State) : State :=
  let lv := s.getF ThermStatus.level - 1
  let s := s.creditSyncAll.setF ThermStatus.level lv
  if lv = 0 then { s with brim := { s.brim with thermFallAt := none } }.event PwrEvents.thermClear 0x045
  else
    let t := s.getF ThermStatus.crownTemp - 64
    { s with brim := { s.brim with
        thermFallAt := if t + 5 ≤ s.thermThreshold lv then some (s.brim.hb + msC 100) else none } }

/-- THERMAL_FALL_TIMER (R375): 100 ms at least 5 °C below the level's threshold; the level falls one step. -/
def execThermalFallTimer (s : State) : Host.Outcome State Fault Refusal :=
  .next (match s.brim.thermFallAt with
    | none => s
    | some d => (s.hbTo d).thermFall)

/-- INH_NVM_WRITE (R370, R379, R536): firmware writes the committed values that Brim non-volatile memory keeps; a failed write
keeps the old ones and sets NVM_FAIL. -/
def execInhNvmWrite (fails : Bool) (s : State) : Host.Outcome State Fault Refusal :=
  let new := s.gci.nvmPend.foldl (fun (m : Tab Nat) kv => tabSet cfgDefault m kv.1 kv.2) s.brim.nvm
  let t := { s with gci := { s.gci with nvmPend := [] } }
  .next (if s.gci.nvmPend.isEmpty then s
    else if fails then t.hatpinDown.event PwrEvents.nvmFail 0x041
    else (State.cwFollow { t with brim := { t.brim with nvm := new } }).syncInh)

/-- THERM_PEAK_READ (R377): the peaks are returned and cleared. -/
def execThermPeakRead (s : State) : Host.Outcome State Fault Refusal :=
  .next (s.hosted { s.setReg ThermPeak.off 0 with out := .readData ThermPeak.off (s.reg ThermPeak.off).toNat :: s.out })

end Sys2Proof.Machine
end

