-- ==== Sys2Proof/Machine/Hatbox.lean ====
section
/-! DEFINITION. The Hatbox (R408 to R449): zeroisation, lock, entropy and the bulk engines. Key slots and
inline MACsec stand in Macsec.lean, CAN authentication jobs in Forward.lean. -/

namespace Sys2Proof.Machine

/-! ### Status and lock (R413, R446) -/

/-- APPROVED, DEBUG_UNLOCKED and LIFECYCLE of HBX_STATUS (R413, R448). -/
def State.syncHbx (s : State) : State :=
  let ok := s.fuses.lifecycle == 2 && s.hbx.testsOk && s.hbx.unlocked == 0 && s.hbx.prodFw && !s.flag HbxStatus.locked
  ((s.setF HbxStatus.lifecycle s.fuses.lifecycle).setFlag HbxStatus.approved ok).setFlag HbxStatus.debugUnlocked
    (s.hbx.unlocked != 0)

/-- A bit of HBX_EVENTS and its source. -/
def State.hbxEvent (s : State) (bit : Nat) (detail : Nat := 0) : State :=
  s.event ⟨HbxEvents.off, bit, bit⟩ (0x048 + bit) detail

/-! ### Bulk jobs (R427 to R436) -/

def HbxJob.mode (j : HbxJob) : Nat := leAt j.desc 0 1
def HbxJob.first (j : HbxJob) : Bool := bitOf (leAt j.desc 1 1) 0
def HbxJob.last (j : HbxJob) : Bool := bitOf (leAt j.desc 1 1) 1
def HbxJob.slot (j : HbxJob) : Nat := leAt j.desc 2 2
def HbxJob.ctx (j : HbxJob) : Nat := leAt j.desc 4 1
def HbxJob.len (j : HbxJob) : Nat := leAt j.desc 8 4
def HbxJob.aadLen (j : HbxJob) : Nat := leAt j.desc 0xC 4
def HbxJob.inAddr (j : HbxJob) : Nat := leAt j.desc 0x10 8
def HbxJob.outAddr (j : HbxJob) : Nat := leAt j.desc 0x18 8
def HbxJob.aadAddr (j : HbxJob) : Nat := leAt j.desc 0x20 8
def HbxJob.iv (j : HbxJob) : List Byte := sliceB j.desc 0x28 16
def HbxJob.unit (j : HbxJob) : Nat := leAt j.desc 0x38 4
def HbxJob.tagLen (j : HbxJob) : Nat := leAt j.desc 0x3C 1
def HbxJob.tag (j : HbxJob) : List Byte := sliceB j.desc 0x40 16

/-- Does a mode write output (R431)? -/
def modeOut (m : Nat) : Bool := m == 1 || m == 2 || m == 5 || m == 6 || m == 7 || m == 12 || m == 15

/-- Does a mode run on the hash engine (R408)? -/
def modeHash (m : Nat) : Bool := m == 8 || m == 9 || m == 10 || m == 11

/-- Counters of R449 on the DECK object. -/
def State.incHbx (s : State) (i : Nat) : State := s.inc oDeck cSec i

/-- Write bytes of a job's output area: host memory, or the client's segment buffer (R430). -/
def State.jobWrite (s : State) (client : Nat) (seg : Bool) (addr : Nat) (d : List Byte) : Bool × State :=
  if d.isEmpty then (true, s)
  else if seg then (true, { s with gci := { s.gci with seg := memWrites s.gci.seg (client * 65536 + addr % 65536) d } })
  else
    let (ok, s) := s.hostWrite addr d
    (ok, if ok then s.flushOne d else s)

def State.jobRead (s : State) (client : Nat) (seg : Bool) (addr len : Nat) : Option (List Byte) × State :=
  if len = 0 then (some [], s)
  else if seg then (some (memReads s.gci.seg (client * 65536 + addr % 65536) len), s) else s.hostRead addr len

/-- `len` bytes of the DRBG (R408, R431). -/
def State.drbgDraw (s : State) (len : Nat) : List Byte × State :=
  (Config.drbg (leBytes 48 s.hbx.seed) s.hbx.drawn len, { s with hbx := { s.hbx with drawn := s.hbx.drawn + 1 } })

/-- The DRBG is seeded from the entropy source (R444, R445, R447). -/
def State.drbgSeed (s : State) : State :=
  let (x, s) := s.draw
  { s with hbx := { s.hbx with seed := x, drawn := 0, drbgStopped := false, entropyFails := 0, retryAt := none } }

/-- A caller's chained context. -/
def State.hbxCtx (s : State) (client ctx : Nat) : Option HbxCtx :=
  s.hbx.contexts.find? (fun c => c.client == client && c.ctx == ctx)

def State.dropCtx (s : State) (client ctx : Nat) : State :=
  { s with hbx := { s.hbx with contexts := s.hbx.contexts.filter (fun c => !(c.client == client && c.ctx == ctx)) } }

/-- Zero the output areas named (R433, R434); answers whether every write reached memory. -/
def State.zeroOuts (s : State) (client : Nat) (seg : Bool) (areas : List (Nat × Nat)) : Bool × State :=
  areas.foldl (fun (a : Bool × State) r =>
    let (ok, s) := a.2.jobWrite client seg r.1 (zeros r.2)
    (a.1 && ok, s)) (true, s)

/-- The result of R432. -/
def jobResult (result done : Nat) (tag : List Byte) : List Byte :=
  leBytes 1 result ++ zeros 3 ++ leBytes 4 done ++ sliceB tag 0 48

/-- The output areas of a job and of the earlier segments of its invocation. -/
def State.jobAreas (s : State) (j : HbxJob) : List (Nat × Nat) :=
  (match s.hbxCtx j.client j.ctx with
   | some c => if j.first && j.last then [] else c.outs
   | none => []) ++ (if modeOut j.mode then [(j.outAddr, j.len)] else [])

/-- Remove a job from the queues. -/
def State.dropJob (s : State) (j : HbxJob) : State :=
  { s with hbx := { s.hbx with jobs := s.hbx.jobs.filter (fun k => !(k.client == j.client && k.ticket == j.ticket)) } }

/-- BULK_MODE_ACTIVE returns to 0 once drain or force has ended its jobs (R436). -/
def State.bulkIdle (s : State) : State :=
  if s.getF HbxStatus.bulkModeActive != 0 && !s.hbx.jobs.any (fun j => decide (2 ≤ j.cls)) then
    let s := s.setF HbxStatus.bulkModeActive 0
    { s with hbx := { s.hbx with drainAt := none } }
  else s

/-- The context of a job's invocation is gone; a single-segment job has none (R434). -/
def State.closeCtx (s : State) (j : HbxJob) : State := if j.first && j.last then s else s.dropCtx j.client j.ctx

/-- A job ends ABORTED (R435): its output area is zeroed before the ticket completes. The invocation of an aborted segment is given up
(DESIGN CHOICE, log entry 113). -/
def State.abortJob (s : State) (j : HbxJob) : State :=
  let s := (s.dropJob j).closeCtx j
  let (ok, s) := s.zeroOuts j.client j.seg (if modeOut j.mode then [(j.outAddr, j.len)] else [])
  ((s.incHbx 1).finishTicket j.client j.ticket stAborted (jobResult (if ok then 0 else 4) 0 [])).bulkIdle

/-- Every job of the classes from `lo` on ends as under R435. -/
def State.abortJobs (s : State) (lo : Nat) : State :=
  (s.hbx.jobs.filter (fun j => decide (lo ≤ j.cls))).foldl (fun (s : State) j => s.abortJob j) s

/-- A job that ends with a command status (R63, R445): nothing of its invocation stays in memory (R433). -/
def State.breakJob (s : State) (j : HbxJob) (status : Nat) : State :=
  let areas := s.jobAreas j
  let (_, s) := ((s.dropJob j).closeCtx j).zeroOuts j.client j.seg areas
  ((s.incHbx 0).finishTicket j.client j.ticket status []).bulkIdle

/-- A job ends failed: its output, and that of its invocation, is zeroed (R433). -/
def State.failJob (s : State) (j : HbxJob) (result : Nat) : State :=
  let areas := s.jobAreas j
  let s := (s.dropJob j).closeCtx j
  let (ok, s) := s.zeroOuts j.client j.seg areas
  let s := if result == 1 then s.incHbx 2 else s
  ((s.incHbx 0).finishTicket j.client j.ticket stDone (jobResult (if ok then result else 4) 0 [])).bulkIdle

/-- The job completes OK with its output and tag. -/
def State.passJob (s : State) (j : HbxJob) (tag : List Byte) : State :=
  let done := if modeOut j.mode then j.len else 0
  ((s.dropJob j).incHbx 0).finishTicket j.client j.ticket stDone (jobResult 0 done tag) |>.bulkIdle

/-- A digest, CMAC, HMAC or GCM tag (R431) of a whole invocation; the cipher functions are Config's. -/
def modeTag (mode : Nat) (key iv aad data out : List Byte) : List Byte :=
  match mode with
  | 1 => sliceB (Config.aesTag 1 key iv aad out) 0 16
  | 2 => sliceB (Config.aesTag 1 key iv aad data) 0 16
  | 3 | 4 => beBytes 16 (Config.aesCmac key data).toNat
  | 8 => beBytes 32 (Config.sha256 data).toNat
  | 9 => beBytes 48 (Config.sha384 data).toNat
  | 10 | 11 => Config.aesTag mode key iv aad data
  | _ => []

/-- The last quantum of a job has run: its output is written, its tag made or checked, and its ticket completes
(R432 to R434). A segment whose context an earlier abort has taken away ends ABORTED too (DESIGN CHOICE, log entry 113). -/
def State.endJob (s : State) (j : HbxJob) : State :=
  let key := (s.slot j.slot).key
  if j.mode == 12 then
    if s.hbx.drbgStopped then s.failJob j 2
    else
      let (out, s) := s.drbgDraw j.len
      let (ok, s) := s.jobWrite j.client j.seg j.outAddr out
      if ok then s.passJob j [] else s.breakJob j stBulkFailed
  else if !j.first && (s.hbxCtx j.client j.ctx).isNone then s.abortJob j
  else
    let (data, s) := s.jobRead j.client j.seg j.inAddr j.len
    let (aad0, s) := s.jobRead j.client j.seg j.aadAddr (if j.first then j.aadLen else 0)
    match data, aad0 with
    | some data, some aad0 =>
      let old := if j.first then none else s.hbxCtx j.client j.ctx
      let iv := (old.map (·.iv)).getD j.iv
      let aad := (old.map (·.aad)).getD aad0
      let before := (old.map (·.data)).getD []
      let whole := before ++ data
      let out := if modeOut j.mode then Config.aesMode j.mode j.unit key iv aad whole else []
      let tag := if j.last then modeTag j.mode key iv aad whole out else []
      if j.last && (j.mode == 2 || j.mode == 4) && tag.take j.tagLen != j.tag.take j.tagLen then s.failJob j 1
      else
        let mine := sliceB (out.drop before.length) 0 (if modeOut j.mode then j.len else 0)
        let (ok, s) := s.jobWrite j.client j.seg j.outAddr mine
        if !ok then s.breakJob j stBulkFailed
        else
          let outs := (old.map (·.outs)).getD [] ++ (if modeOut j.mode then [(j.outAddr, j.len)] else [])
          let s := s.closeCtx j
          let s := if j.last then s
            else { s with hbx := { s.hbx with contexts := s.hbx.contexts ++
              [({ client := j.client, ctx := j.ctx, mode := j.mode, slot := j.slot, iv := iv, aad := aad, data := whole,
                  outs := outs } : HbxCtx)] } }
          -- GCM-DEC and CMAC-VERIFY return no tag
          s.passJob j (if j.mode == 2 || j.mode == 4 then [] else if j.tagLen == 0 then tag else tag.take j.tagLen)
    | _, _ => s.breakJob j stBulkFailed

/-- Does a job wait for an earlier segment of its context (R434)? A single-segment job uses no context. -/
def State.segmentWaits (s : State) (j : HbxJob) : Bool :=
  !(j.first && j.last) &&
  (s.hbx.jobs.takeWhile (fun k => !(k.client == j.client && k.ticket == j.ticket))).any (fun k =>
    k.client == j.client && k.ctx == j.ctx && !(k.first && k.last))

/-- The job that class `c` runs next on engine `e` (6 is the hash engine): the one started there, else the first in
submission order that no engine has started (R427); a segment starts after the earlier ones of its context. -/
def State.classJob (s : State) (e c : Nat) : Option HbxJob :=
  let fits := fun (j : HbxJob) => j.cls == c && modeHash j.mode == (e == 6)
  match s.hbx.jobs.find? (fun j => fits j && j.engine == some e) with
  | some j => some j
  | none => (s.hbx.jobs.find? (fun j => fits j && j.engine.isNone)).filter (fun j => !s.segmentWaits j)

def engineDefault (_ : Nat) : EngineSt := {}
def State.engine (s : State) (e : Nat) : EngineSt := tabGet engineDefault s.hbx.engines e
def State.setEngine (s : State) (e : Nat) (v : EngineSt) : State :=
  { s with hbx := { s.hbx with engines := tabSet engineDefault s.hbx.engines e v } }

/-- The class that the engine's round grants: the visited class while its weight lasts, else the next with work. -/
def State.grant (s : State) (e : Nat) : Nat → EngineSt → Option (HbxJob × EngineSt)
  | 0, _ => none
  | n + 1, v =>
    let next : EngineSt := ⟨if v.cls ≥ 4 then 1 else v.cls + 1, 0⟩
    if v.used ≥ s.par oDeck (0x1100 + v.cls - 1) then s.grant e n next
    else
      match s.classJob e v.cls with
      | some j => some (j, { v with used := v.used + 1 })
      | none => s.grant e n next

/-- BULK_MODE's drain has lasted 20 ms: it continues as force (R436). -/
def State.bulkDrainCheck (s : State) : State :=
  match s.hbx.drainAt with
  | none => s
  | some d => if strandAfter s.strand d then (s.setF HbxStatus.bulkModeActive 2).abortJobs 2 |>.bulkIdle else s

/-- A quantum of a job: 512 bytes more are done, and the last one ends it. -/
def State.bulkRun (s : State) (e : Nat) (j : HbxJob) : State :=
  let j' := { j with engine := some e, done := j.done + 512 }
  let upd := fun (k : HbxJob) => if k.client == j.client && k.ticket == j.ticket then j' else k
  let s := { s with hbx := { s.hbx with jobs := s.hbx.jobs.map upd } }
  if j'.done ≥ j.len then s.endJob j' else s

/-- The USAGE bit and the key TYPEs of a mode (R431); `none` for a mode without a key. -/
def modeKey (m : Nat) : Option (Nat × List Nat) :=
  match m with
  | 1 => some (5, [1, 2])
  | 2 => some (6, [1, 2])
  | 3 => some (7, [1, 2])
  | 4 => some (8, [1, 2])
  | 5 => some (5, [3, 4])
  | 6 => some (6, [3, 4])
  | 7 => some (5, [1, 2])
  | 10 | 11 => some (7, [5])
  | 15 => some (10, [1, 2])
  | _ => none

/-- A job of firmware, not of a client (R427). -/
def HbxJob.firmware (j : HbxJob) : Bool := j.cls != 2

/-- The USAGE bits of which a job's slot must hold one: firmware may use STORE_XTS for XTS (R431). -/
def HbxJob.uses (j : HbxJob) (use : Nat) : List Nat := if j.firmware && (j.mode == 5 || j.mode == 6) then [use, usXts] else [use]

/-- The slot of the job, or its caller, is not admitted to the mode (R417, R431): tested at submission and at each quantum. -/
def State.jobDenied (s : State) (j : HbxJob) : Bool :=
  match modeKey j.mode with
  | some (use, types) =>
    !(j.uses use).any (fun b => s.slotUsable j.slot b types) || !bitOf (s.slot j.slot).callers (if j.firmware then 8 else j.client)
  | none => false

/-- BULK_QUANTUM (R427, R429, R433): engine BULK[0]..BULK[5], or 6 the hash engine, runs one quantum of 512 bytes of the
class that its round grants; `upset` 1 says that the input met an uncorrectable error (R280), 2 that the key slot's SECDED code shows a
double-bit error, which refuses the use and erases the slot (R445), and 3 that the flush which confirms the output of a job whose last
quantum this is fails (R478). -/
def execBulkQuantum (e : Fin 7) (upset : Fin 4) (s : State) : Host.Outcome State Fault Refusal :=
  let s := s.bulkDrainCheck
  .next (match s.grant e 6 (s.engine e) with
    | none => s
    | some (j, v) =>
      let s := (s.setEngine e v).incHbx (3 + j.cls)
      if upset.val == 1 then s.failJob j 3
      else if upset.val == 2 && (s.slot j.slot).typ != 0 then (s.eraseSlot j.slot).breakJob j stPolicyDenied
      else if s.jobDenied j then s.breakJob j stPolicyDenied
      else if upset.val == 3 && modeOut j.mode && !j.seg && j.done + 512 ≥ j.len then
        (s.flushFailed (j.outAddr + j.len - 1)).breakJob j stBulkFailed
      else s.bulkRun e j)

/-! ### Zeroisation and lock (R446, R447) -/

/-- Overwrite every slot that `which` names. -/
def State.eraseSlots (s : State) (which : Nat → KeySlot → Bool) : State :=
  (s.hbx.slots.filter (fun kv => which kv.1 kv.2)).foldl (fun (s : State) kv => s.eraseSlot kv.1) s

/-- Steps 1 and 2 of R447 for a scope; persistent copies follow with PERSIST_INVALIDATE. -/
def State.zeroiseRam (s : State) (scope : Nat) : State :=
  let s := s.abortJobs 1
  let s := s.eraseSlots (fun _ v => scope != 0 || !v.persist)
  if scope != 2 then s
  else ({ s with hbx := { s.hbx with fresh := [], contexts := [] } }).drbgSeed

/-- HATBOX_LOCK (R446). -/
def State.hbxLock (s : State) : State :=
  if s.flag HbxStatus.locked then s
  else
    let s := (s.setF HbxStatus.locked 1).hbxEvent 5
    let s := (s.eraseSlots (fun _ v => !v.persist)).abortJobs 1
    ((s.syncHbx).evqTargetSlept 2).faultRise 8

/-- Every persistent copy is invalidated; one that cannot be never verifies again (R447). -/
def State.invalidateCopies (s : State) (fails : Bool) : State :=
  let s := if fails then s.hatpinDown else s
  { s with brim := { s.brim with
      keyStore := if fails then s.brim.keyStore.map (fun kv => (kv.1, { kv.2 with ok := false })) else [] } }

/-- Debug scopes open (R412). -/
def State.debugOpen (s : State) (scope : Nat) : State :=
  ({ s with hbx := { s.hbx with unlocked := s.hbx.unlocked ||| scope } }).syncHbx

/-- Zeroisation ends: ZEROISED, and its ticket completes (R447). An unlock that waited for it opens its ports then (R412). -/
def State.zeroiseEnd (s : State) (fails : Bool) : State :=
  match s.hbx.zeroising with
  | none => s
  | some (c, t, _) =>
    let s := { s with hbx := { s.hbx with zeroising := none } }
    let s := (s.setF HbxStatus.zeroising 0).hbxEvent 2
    let s := match s.ticket c t with
      | some k => if k.cmd == 0x0C1A && k.result.isNone && !fails then s.debugOpen (leAt k.payload 0 1) else s
      | none => s
    if t == 0 then s else s.finishTicket c t (if fails then stAccessFailed else stDone) []

/-- PERSIST_INVALIDATE (R447 step 3): the persistent copies of a running zeroisation are invalidated, or a Hatpin write
fails. -/
def execPersistInvalidate (fails : Bool) (s : State) : Host.Outcome State Fault Refusal :=
  .next (match s.hbx.zeroising with
    | some (_, _, scope) => if scope == 0 then s else (s.invalidateCopies fails).zeroiseEnd fails
    | none => s)

/-! ### Entropy and challenges (R411, R445) -/

/-- An entropy test has failed: the DRBG stops, waiting RANDOM jobs end with ENTROPY_FAIL, and the third consecutive
failure locks the Hatbox (R445, R446). -/
def State.entropyFail (s : State) : State :=
  let n := s.hbx.entropyFails + 1
  let s := { s with hbx := { s.hbx with drbgStopped := true, entropyFails := n, retryAt := some (s.after (msC 100)) } }
  let s := s.hbxEvent 3
  let s := (s.hbx.jobs.filter (fun j => j.mode == 12)).foldl (fun (s : State) j => s.failJob j 2) s
  if n ≥ 3 then s.hbxLock else s

/-- ENTROPY_FAIL (R445). -/
def execEntropyFail (s : State) : Host.Outcome State Fault Refusal := .next s.entropyFail

/-- ENTROPY_RETRY (R445): the start-up tests run again 100 ms after a failure. -/
def execEntropyRetry (fails : Bool) (s : State) : Host.Outcome State Fault Refusal :=
  .next (match s.hbx.retryAt with
    | none => s
    | some d =>
      let s := s.timeTo d
      if fails then s.entropyFail
      else s.drbgSeed)

/-- CHALLENGE_EXPIRY (R411): an unused challenge lives 60 s. -/
def execChallengeExpiry (s : State) : Host.Outcome State Fault Refusal :=
  .next (match s.hbx.challenge with
    | none => s
    | some (_, d) =>
      let s := s.timeTo d
      { s with hbx := { s.hbx with challenge := none } })

end Sys2Proof.Machine
end

