-- ==== Sys2Proof/Machine/Decide.lean ====
section
/-! DEFINITION. The decision pipeline for Ethernet, Pier and host frames (R207 to R230, R265, R275 to R279), flow meters and
rate limiters (R329 to R331), learning and ageing. -/

namespace Sys2Proof.Machine

/-! ### Frame fields (R211) -/

def frameDa (b : List Byte) : List Byte := sliceB b 0 6
def frameSa (b : List Byte) : List Byte := sliceB b 6 6
def frameTci (b : List Byte) : Nat := beAt b 14 2
/-- Offset of what follows the VLAN tag. -/
def afterTag (b : List Byte) : Nat := if frameTagged b then 16 else 12
/-- An R-TAG follows the VLAN tag (R221). -/
def hasRtag (b : List Byte) : Bool := beAt b (afterTag b) 2 == 0xF1C1
def rtagSeq (b : List Byte) : Nat := beAt b (afterTag b + 4) 2
def isMulticast (a : List Byte) : Bool := bitOf (leAt a 0 1) 0
def isBroadcast (a : List Byte) : Bool := a == List.replicate 6 0xFF

/-! ### Counters -/

/-- FDB.STATS counters of a Channel (R230) and of an FRER function (R221). -/
def State.incFdb (s : State) (p i : Nat) : State := s.inc (oChan p) cFdb i
def State.incFrer (s : State) (f i : Nat) : State := s.inc (oFrer f) cFdb i
/-- ROUTE.STATS counters of a route and of the DECK (R209, R241). -/
def State.incRoute (s : State) (r i : Nat) : State := s.inc (oRoute r) cRoute i
def State.incRouteDeck (s : State) (i : Nat) : State := s.inc oDeck cRoute i

/-! ### Tables -/

/-- Is an entry marked uncorrectable: DIAG table code and index (R209)? -/
def badCode (code i : Nat) : Nat := code * 2 ^ 24 + i
def State.isBad (s : State) (code i : Nat) : Bool := s.fwd.badEntries.contains (badCode code i)

/-- Bucket of a MAC address and FID, R216. -/
def fdbBucket (mac : List Byte) (fid : Nat) : Nat :=
  let m := beVal mac
  (bitsOf m 11 0) ^^^ (bitsOf m 23 12) ^^^ (bitsOf m 35 24) ^^^ (bitsOf m 47 36) ^^^ fid

/-- The entry at an FDB index, static or learnt (R215). -/
def State.fdbEntry (s : State) (i : Nat) : Nat :=
  let st := s.par (oFdb i) (pidRaw 0)
  if st != 0 then st else tabGet ctrDefault s.fwd.learnt i

def fdbMac (e : Nat) : Nat := bitsOf e 47 0
def fdbFid (e : Nat) : Nat := bitsOf e 59 48
def fdbValid (e : Nat) : Bool := bitOf e 60
def fdbStatic (e : Nat) : Bool := bitOf e 61
def fdbHit (e : Nat) : Bool := bitOf e 62
def fdbDrop (e : Nat) : Bool := bitOf e 63
def fdbDest (e : Nat) : Nat := bitsOf e 86 64

/-- The valid way that holds a key, a way in error taken as not VALID (R209, R216). -/
def State.fdbFind (s : State) (mac : List Byte) (fid : Nat) : Option Nat :=
  let b := fdbBucket mac fid
  (List.range 8).findSome? (fun w =>
    let i := b * 8 + w
    let e := s.fdbEntry i
    if fdbValid e && fdbMac e == leVal mac && fdbFid e == fid && !s.isBad 0 i then some i else none)

/-- Entries in error that a search of a bucket meets. -/
def State.fdbBad (s : State) (mac : List Byte) (fid : Nat) : List Nat :=
  ((List.range 8).map (fun w => badCode 0 (fdbBucket mac fid * 8 + w))).filter (fun c => s.fwd.badEntries.contains c)

/-- Listed configuration values of one parameter of one object type, by index. -/
def State.listed (s : State) (typ pid : Nat) : List (Nat × Nat) :=
  s.cfg.filterMap (fun kv =>
    if keyTyp (pkeyObj kv.1) == typ && pkeyPid kv.1 == pid then some (keyIdx (pkeyObj kv.1), kv.2) else none)

/-- Stream identification (R218, R219): the matching entry of lowest index. -/
def State.streamFind (s : State) (b : List Byte) (vid : Nat) : Option (Nat × Nat) :=
  (s.listed 0x08 pidEntry).find? (fun kv =>
    let e := kv.2
    bitOf e 60 && bitsOf e 59 48 == vid && !s.isBad 2 kv.1 &&
      bitsOf e 47 0 == leVal (if bitOf e 61 then frameSa b else frameDa b))

/-! ### Flow meters (R329, R330) -/

def meterDefault (_ : Nat) : MeterSt := {}
def State.meter (s : State) (m : Nat) : MeterSt := tabGet meterDefault s.egr.meters m
def State.setMeter (s : State) (m : Nat) (v : MeterSt) : State :=
  { s with egr := { s.egr with meters := tabSet meterDefault s.egr.meters m v } }

/-- METER_COLOUR (R330): 0 green, 1 yellow, 2 red. Tokens are held in 1/6,250 of the unit of 1/1,024 byte, in which a rate in kbit/s
gives exactly one a cycle, so that nothing is lost between arrivals (log entry 68). -/
def State.colour (s : State) (m len : Nat) (arrivesYellow : Bool) : Nat × State :=
  let e := s.entry (oIdx 0x0A m)
  let v := s.meter m
  let cbs := bitsOf e 79 64 * 409600000
  let ebs := bitsOf e 95 80 * 409600000
  let el := if v.full then 0 else strandDiff s.strand v.at_
  let c0 := (if v.full then cbs else v.c) + bitsOf e 31 0 * el
  let spill := c0 - cbs
  let c := min c0 cbs
  let ee := min ((if v.full then ebs else v.e) + bitsOf e 63 32 * el + (if bitOf e 97 then spill else 0)) ebs
  let need := len * 6400000
  let count := fun (s : State) (i : Nat) => (s.inc (oIdx 0x0A m) cQos i).addCtr (oIdx 0x0A m) cQos (i + 1) len
  let put := fun (c e : Nat) => s.setMeter m { full := false, c := c, e := e, at_ := s.strand }
  if !arrivesYellow && c ≥ need then (0, count (put (c - need) ee) 0)
  else if ee ≥ need then (1, count (put c (ee - need)) 2)
  else (2, count (put c ee) 4)

/-! ### CAN rate limiters (R331) -/

def rateDefault (_ : Nat) : RateSt := {}
def State.rate (s : State) (r : Nat) : RateSt := tabGet rateDefault s.egr.rates r
def State.setRate (s : State) (r : Nat) (v : RateSt) : State :=
  { s with egr := { s.egr with rates := tabSet rateDefault s.egr.rates r v } }

/-- Take a token of limiter `r`, if there is one. -/
def State.rateTake (s : State) (r : Nat) : Bool × State :=
  let e := s.entry (oRate r)
  let iv := usC (bitsOf e 31 0)
  let burst := bitsOf e 39 32
  let v := s.rate r
  let gained := if v.full || iv = 0 then 0 else strandDiff s.strand v.at_ / iv
  let tokens := if v.full then burst else min burst (v.tokens + gained)
  let at_ := if v.full || tokens == burst then s.strand else strandPlus v.at_ (gained * iv)
  if tokens > 0 then (true, (s.setRate r { full := false, tokens := tokens - 1, at_ := at_ }).inc (oRate r) cQos 0)
  else (false, (s.setRate r { full := false, tokens := 0, at_ := at_ }).inc (oRate r) cQos 1)

/-! ### Sequence recovery (R220, R221) -/

def frerDefault (_ : Nat) : FrerSt := {}
def State.frerSt (s : State) (f : Nat) : FrerSt := tabGet frerDefault s.fwd.frer f
def State.setFrer (s : State) (f : Nat) (v : FrerSt) : State :=
  { s with fwd := { s.fwd with frer := tabSet frerDefault s.fwd.frer f v } }

/-- FRER_RECOVERY (R221): does function `f` pass the frame? -/
def State.recover (s : State) (f : Nat) (b : List Byte) : Bool × State :=
  let e := s.entry (oFrer f)
  let len := bitsOf e 5 1 + 1
  let v := s.frerSt f
  let pass := fun (l : List Nat) => (true, (s.setFrer f { passed := l, lastPass := s.strand }).incFrer f 0)
  if !hasRtag b then
    if bitOf e 6 then (true, ((s.setFrer f { v with lastPass := s.strand }).incFrer f 0).incFrer f 3) else (false, s.incFrer f 3)
  else
    let n := rtagSeq b
    match v.passed with
    | [] => pass [n]
    | last :: rest =>
      if bitOf e 0 then (if n != last then pass [n] else (false, s.incFrer f 1))
      else
        let d := toSigned 16 (n + 65536 - last)
        if d > (len : Int) || d < -(len : Int) then (false, s.incFrer f 2)
        else
          let near := fun (top : Nat) (x : Nat) => decide ((top + 65536 - x) % 65536 < len)
          if (v.passed.filter (near last)).contains n then (false, s.incFrer f 1)
          else if d > 0 then pass (n :: v.passed.filter (near n))
          else pass (last :: n :: rest)

/-! ### Learning (R222 to R226) -/

/-- LEARN_RECORD_POST (R222 to R224): through the 64-entry filter of the last 1 ms, into EVQ[1]. -/
def State.postLearn (s : State) (p : Nat) (mac : List Byte) (fid : Nat) (move : Bool) : State :=
  let key := leVal mac + fid * 2 ^ 48 + p * 2 ^ 60
  let recent := s.evt.learnFilter.filter (fun e => decide (strandDiff s.strand e.2 < msC 1))
  if recent.any (fun e => e.1 == key) then s
  else if s.evqFill 1 ≥ 64 then
    -- not posted, so it meets neither R456's drop count nor the filter
    s.incFdb p 8
  else
    let s := { s with evt := { s.evt with learnFilter := ((key, s.strand) :: recent).take 64 } }
    s.payload 0x001 (leVal mac + (fid + b2n move * 2 ^ 12) * 2 ^ 48 + p * 2 ^ 64)

/-- Step 8 of R212. -/
def State.learnStep (s : State) (p : Nat) (b : List Byte) (fid : Nat) (vlanLearn : Bool) : State :=
  let sa := frameSa b
  if isMulticast sa then s
  else
    match s.fdbFind sa fid with
    | some i =>
      let e := s.fdbEntry i
      if fdbStatic e then (if bitOf (fdbDest e) p then s else s.incFdb p 7)
      else if bitOf (fdbDest e) p then
        { s with fwd := { s.fwd with learnt := tabSet ctrDefault s.fwd.learnt i (setBit e 62 true) } }
      else if vlanLearn && s.par (oChan p) pidLearnEn == 1 then s.postLearn p sa fid true else s
    | none => if vlanLearn && s.par (oChan p) pidLearnEn == 1 then s.postLearn p sa fid false else s

/-! ### The decision (R212) -/

/-- What a decision gives: the copies, the entries in error it met, and the state with its stateful units updated. -/
structure Verdict where
  specs : List CopySpec
  bad : List Nat
  st : State

def Verdict.drop (s : State) (bad : List Nat) : Verdict := ⟨[], bad, s⟩

/-- Host ring queue of frames from a port for F[22] (R217, R253). -/
def State.hostQueue (s : State) (p : Nat) : Nat := 768 + s.par (oChan p) 0x0B05

/-- The mirror copy of a Channel's or route's frame (R495). -/
def mirrorSpec (m : Nat) (route : Nat) (src : Nat) : List CopySpec :=
  match bitsOf m 7 0 with
  | 1 => [{ queue := 184, mirror := true, route := route, srcChan := src }]
  | 2 => [{ queue := bitsOf m 15 8 * 8 + bitsOf m 23 16, cls := bitsOf m 23 16, mirror := true, srcChan := src }]
  | _ => []

/-- Does a copy for queue `qn` of port `q` cut through (R265)? `f` is the arriving frame, `cls` its class. -/
def State.cuts (s : State) (f : RxFrame) (q qn cls : Nat) : Bool :=
  let p := f.port
  let c := s.queueClass qn cls
  decide (p ≤ 19) && decide (q ≤ 19) && decide (s.portRate q ≤ s.portRate p) &&
  (s.queue qn).isEmpty && (tabFind s.buf.egress q).isNone && (s.port q).held.isNone &&
  bitOf (s.gate q).gates c && !bitOf (s.getF (PortPauseStatus.rxPaused q)) c &&
  f.express && !s.preemptable q c && !s.macsecStrict p && !s.macsecStrict q && !s.inStorm p c && !s.inStorm q c

/-- Steps 9 to 12 of R212 for a frame that no step dropped. -/
def State.destinations (s : State) (f : RxFrame) (vid vlan : Nat) (stream : Option Nat) (sIdx : Nat) (yellow popRtag : Bool) :
    Verdict :=
  let p := f.port
  let b := f.bytes
  let st := stream.getD 0
  let tagged := frameTagged b
  let pcp := if tagged then bitsOf (frameTci b) 15 13 else s.par (oChan p) 0x0B01
  let cls := if stream.isSome && bitOf st 111 then bitsOf st 110 108
    else bitsOf (s.par (oChan p) 0x0B04) (3 * pcp + 2) (3 * pcp)
  let markDei := yellow && stream.isSome && bitOf st 76 && bitOf (s.entry (oIdx 0x0A (bitsOf st 75 64))) 98
  let dei := markDei || (tagged && bitOf (frameTci b) 12)
  let tag := pcp * 8192 + b2n dei * 4096 + vid
  let base : CopySpec := { queue := 0, cls := cls, yellow := yellow, popRtag := popRtag, srcChan := p, srcDeck := f.srcDeck }
  if stream.isSome && bitsOf st 79 78 == 2 then ⟨[{ base with queue := 200 + cls, route := sIdx, avtp := true }], [], s⟩
  else
    let da := frameDa b
    let fid := bitsOf vlan 107 96
    let linkLocal := da.take 5 == [0x01, 0x80, 0xC2, 0x00, 0x00] && decide (leAt da 5 1 ≤ 0x0F)
    let hit := s.fdbFind da fid
    let set := if linkLocal then 2 ^ 22
      else match hit with
        | some i => if fdbDrop (s.fdbEntry i) then 0 else fdbDest (s.fdbEntry i)
        | none => if isBroadcast da then bitsOf vlan 22 0 else bitsOf vlan 86 64
    let s := if linkLocal then s.incFdb p 6 else s
    let ports := (List.range 23).filter (fun q => bitOf set q && bitOf vlan q && q != p)
    let bad := if linkLocal then [] else s.fdbBad da fid
    if ports.isEmpty then ⟨[], bad, s.incFdb p 5⟩
    else
      let sq := 800 + bitsOf st 106 96
      let inStream := stream.isSome && bitOf st 107 && ports == [s.par (oQueue sq) 0x0101]
      let copy := fun (q : Nat) =>
        let un := bitOf (bitsOf vlan 54 32) q
        let qn := if inStream then sq else if q == 22 then s.hostQueue p else q * 8 + cls
        ({ base with queue := qn, untag := un, tagOut := if un then none else some tag,
                     tsReq := if q == 22 then none else f.tsReq,
                     cut := q != 22 && s.cuts f q qn cls } : CopySpec)
      ⟨ports.map copy, bad, s⟩

/-- The decision pipeline, R212, in normal operation. -/
def State.ethDecide (s : State) (f : RxFrame) : Verdict :=
  let p := f.port
  let b := f.bytes
  let tagged := frameTagged b
  let tci := frameTci b
  let vidTag := bitsOf tci 11 0
  let accept := s.par (oChan p) 0x0B02
  let vtagged := tagged && vidTag != 0
  if (accept == 1 && !vtagged) || (accept == 2 && vtagged) then .drop (s.incFdb p 0) []
  else
    let vid := if vtagged then vidTag else s.par (oChan p) 0x0B00
    if vid == 4095 then .drop (s.incFdb p 1) []
    else
      let vlan := s.entry (oVlan vid)
      if s.isBad 1 vid then .drop (s.incFdb p 1) [badCode 1 vid]
      else if !bitOf vlan 23 || (s.par (oChan p) 0x0B03 == 1 && !bitOf vlan p) then .drop (s.incFdb p 1) []
      else
        let found := s.streamFind b vid
        let stream := found.map (·.2)
        let sIdx := (found.map (·.1)).getD 0
        let st := stream.getD 0
        let badStream := (s.fwd.badEntries.filter (fun c => c / 2 ^ 24 == 2))
        let maxSdu := bitsOf st 127 112
        if stream.isSome && (bitsOf st 79 78 == 1 || (maxSdu != 0 && decide (f.len > maxSdu))) then
          .drop (s.incFdb p 2) badStream
        else
          let m := bitsOf st 75 64
          let aware := bitOf (s.entry (oIdx 0x0A m)) 96
          let (col, s) := if stream.isSome && bitOf st 76 then s.colour m f.len (aware && tagged && bitOf tci 12) else (0, s)
          if col == 2 then .drop (s.incFdb p 3) badStream
          else
            let fn := bitsOf st 89 80
            let frer := stream.isSome && bitOf st 77
            if frer && s.isBad 3 fn then .drop (s.incFdb p 4) (badCode 3 fn :: badStream)
            else
              let (ok, s) := if frer then s.recover fn b else (true, s)
              if !ok then .drop (s.incFdb p 4) badStream
              else
                let fid := bitsOf vlan 107 96
                let bad := badStream ++ s.fdbBad (frameSa b) fid
                let s := s.learnStep p b fid (bitOf vlan 108)
                let pop := frer && bitOf (s.entry (oFrer fn)) 7 && hasRtag b
                let v := s.destinations f vid vlan stream sIdx (col == 1) pop
                ⟨v.specs, bad ++ v.bad, v.st⟩

/-- A Fallback decision for an Ethernet, Pier or host frame (R278). -/
def State.fallbackDecide (s : State) (f : RxFrame) : Verdict :=
  let p := f.port
  let cls := if frameTagged f.bytes then bitsOf (frameTci f.bytes) 15 13 else 0
  let ports := (List.range 23).filter (fun q => bitOf (s.par oDeck (0x0300 + p)) q && q != p)
  if ports.isEmpty then .drop (s.incSw 4) []
  else
    let copy := fun (q : Nat) =>
      ({ queue := if q == 22 then s.hostQueue p else q * 8 + cls, cls := cls, srcChan := p, tsReq := f.tsReq } : CopySpec)
    ⟨ports.map copy, [], s⟩

/-! ### Twin comparison and Fallback (R275 to R279) -/

/-- DETAIL of fault input 15: the DIAG table code and the index (R209). -/
def badDetail (c : Nat) : Nat :=
  if c / 2 ^ 24 ≤ 6 then c else badCode (Config.tableCode (c / 2 ^ 24) % 256) (c % 2 ^ 24)

/-- Entries in error that a decision met: counted, and fault input 15 (R209). -/
def State.badMet (s : State) (bad : List Nat) : State :=
  bad.eraseDups.foldl (fun s c => (s.incRouteDeck 3).faultRise 15 (badDetail c)) s

/-- FALLBACK_ENTRY (R277). -/
def State.fallbackEnter (s : State) : State :=
  let s := ((s.setF SwStatus.fallback 1).incSw 2).event SwEvents.fallbackEnter 0x029
  s.faultRise 1

/-- A hard mismatch (R276, R277), in normal operation or in a shadow interval (R279). -/
def State.hardMismatch (s : State) : State :=
  let recent := s.strand :: s.buf.hardAt.filter (fun t => decide (strandDiff s.strand t < msC 100))
  let s := { s with buf := { s.buf with hardAt := recent.take 16 } }
  let s := (s.incSw 1).event SwEvents.twinMismatch 0x028
  if s.flag SwStatus.fallback then
    let s := { (s.setF SwStatus.shadow 0) with buf := { (s.setF SwStatus.shadow 0).buf with shadowEnd := none } }
    s.faultRise 1
  else if recent.length ≥ s.par oDeck 0x0320 then s.fallbackEnter else s

/-- Mark an entry that a lookup finds uncorrectable from now on (R209), and count a corrected one. -/
def State.tableUpset (s : State) (u : Upset) : State :=
  let s := if u.corrected then s.incRouteDeck 2 else s
  match u.bad with
  | none => s
  | some (c, i) =>
    let k := badCode c.val i.toNat
    if s.fwd.badEntries.contains k then s else { s with fwd := { s.fwd with badEntries := s.fwd.badEntries ++ [k] } }

/-- The comparison of the two pipelines (R276): 1 the retry matches, 2 it does not. -/
def State.compared (s : State) (twin : Nat) : State :=
  if twin == 1 then s.incSw 0 else if twin == 2 then s.hardMismatch else s

/-- What the comparisons do with a decision: `normal` and `fall` compute it from the state; a hard mismatch, or a mismatch of the
Fallback logic, gives none. The entries in error that its lookups met are reported all the same (R209). In a shadow interval both
pipelines are compared beside the Fallback decision (R279). -/
def State.twin (s : State) (u : Upset) (normal fall : State → Verdict) : Option Verdict × State :=
  let s := s.tableUpset u
  if s.flag SwStatus.fallback then
    let v := fall s
    let (res, t) := if u.fall then (none, s.incSw 3) else (some v, v.st)
    (res, (if s.flag SwStatus.shadow then t.compared u.twin else t).badMet v.bad)
  else
    let v := normal s
    if u.twin.val == 2 then (none, (s.compared 2).badMet v.bad)
    else (some v, (v.st.compared u.twin).badMet v.bad)

/-! ### Passing the decision to the queue engine -/

def State.setRx (s : State) (id : Nat) (f : RxFrame) : State :=
  { s with buf := { s.buf with rx := tabInsert s.buf.rx id f } }

/-- A copy that admission refuses, in whatever state it is (R262): not yet linked, queued, or on the wire. Its transmit timestamp entry
says so (R351), unless the decision has just asked for the copy and sees to that itself (`late` false). -/
def State.refuseLive (s : State) (owner : Nat) (late : Bool) (d : Nat) : State :=
  match (s.desc d).state with
  | .queued => ((s.tsqDiscard (s.desc d)).unqueue d).dropCopies owner [d]
  | .active =>
    match s.readerOf d with
    | some (p, e) =>
      if e.data.isEmpty then ((s.egressErase p).tsqDiscard e.d).dropCopies owner [d] else s.truncate p
    | none => s.dropCopies owner [d]
  | _ => (if late then s.tsqDiscard (s.desc d) else s).dropCopies owner [d]

/-- Admit the cells written since for the live copies of a frame, and drop the copies refused. -/
def State.admitLive (s : State) (owner port : Nat) (cells : List Nat) (live : List Nat) (late : Bool := true) : List Nat × State :=
  let (live', s) := cells.foldl (fun (a : List Nat × State) c => a.2.admitAll c port a.1) (live, s)
  (live', (live.filter (fun d => !live'.contains d)).foldl (fun s d => s.refuseLive owner late d) s)

/-- Link the copies that may be linked now: all once the frame is whole and good; cut-through ones from the second cell. A queue that
refuses every enqueue by then refuses the copy (R134, R268, R269). Answers the copies that are left. -/
def State.linkReady (s : State) (f : RxFrame) : List Nat × State :=
  let whole := f.todo.isEmpty && !f.bad
  f.live.foldl (fun (a : List Nat × State) (d : Nat) =>
    let s := a.2
    let v := s.desc d
    if v.state == .receiving && (whole || (v.cut && decide (2 ≤ f.written.length))) then
      match s.enqClosed v.queue with
      | some t => (a.1, (t.tsqDiscard v).dropUnlinked d)
      | none => (a.1 ++ [d], s.linkCopy d)
    else (a.1 ++ [d], s)) ([], s)

/-- A frame that is whole leaves the receiver: linked, or freed where it is bad (R130) or nothing of it is left. -/
def State.rxFinish (s : State) (id : Nat) (f : RxFrame) : State :=
  if !f.todo.isEmpty || !f.decided then s.setRx id f
  else if f.bad then s.rxDrop id f
  else s.eraseRx id

/-- Transmit-timestamp entries of host copies that were not enqueued (R351). -/
def State.tsqRefused (s : State) (specs : List CopySpec) (live : List Nat) : State :=
  let queues := live.map (fun d => (s.desc d).queue)
  specs.foldl (fun s c =>
    match c.tsReq, s.queuePort c.queue with
    | some (t, clk), some p => if queues.contains c.queue then s else s.tsqWrite p t clk 4 none
    | _, _ => s) s

/-- Every copy refused, or none asked for: receive discards the rest, and the frame is freed once no copy of it is on the wire (R262).
`adm`: admission refused the last; a frame found bad counts in the counter of the check it failed alone (R128). -/
def State.rxRefused (s : State) (id : Nat) (f : RxFrame) (owner cls : Nat) (adm : Bool) : State :=
  let s := s.eraseRx id
  let s := s.setDesc owner { s.desc owner with length := f.written.length * 64 }
  s.frameRefused owner f.port cls (adm && !f.bad)

/-- Link what may be linked of a decided frame, and go on with its reception. -/
def State.linkOn (s : State) (id : Nat) (f : RxFrame) (owner cls : Nat) : State :=
  match s.linkReady f with
  | ([], s) => s.rxRefused id f owner cls false
  | (live, s) => (s.rxFinish id { f with live := live }).xoffCheck f.port

/-- Hand a frame's copies to the queue engine (R252, R262, R265). A frame found bad keeps its cut-through copies alone. -/
def State.enqueueRx (s : State) (id : Nat) (f : RxFrame) (specs : List CopySpec) : State :=
  match f.owner with
  | none => s.eraseRx id
  | some o =>
    let (specs, s) := s.sleepFilter specs
    let specs := if f.bad then specs.filter (fun (c : CopySpec) => c.cut) else specs
    let cls := (specs.map (fun (c : CopySpec) => c.cls)).headD 8
    let s := s.classCells o cls f.written
    let (copies, s) := s.makeCopies o f.bytes specs
    let (live, s) := s.admitLive o f.port f.written copies false
    let s := s.tsqRefused specs live
    let cuts := (live.filter (fun d => (s.desc d).cut)).length
    let s := s.addCtr oDeck cQos 11 cuts
    if live.isEmpty then s.rxRefused id f o cls (!copies.isEmpty)
    else
      s.linkOn id { f with decided := true, live := live } o cls

/-- The oldest frame that awaits its decision and has its first cell. -/
def State.rxWaiting (s : State) : Option (Nat × RxFrame) :=
  s.buf.rx.find? (fun kv => !kv.2.decided && !kv.2.written.isEmpty)

/-- The comparison for a frame; one found bad leaves no trace in counters, meters, histories or the FDB (R128, log entry 22). -/
def State.twinOf (s : State) (u : Upset) (f : RxFrame) : Option Verdict × State :=
  let quiet := fun (d : State → Verdict) (s : State) => if f.bad then { d s with st := s } else d s
  s.twin u (quiet (fun s => s.ethDecide f)) (quiet (fun s => s.fallbackDecide f))

/-- What follows the comparison: no copies after a hard mismatch, else the decision's and, in normal operation, a mirror copy. -/
def State.decideRx (s : State) (id : Nat) (f : RxFrame) (v : Option Verdict) : State :=
  match v with
  | none => s.enqueueRx id f []
  | some v =>
    let mirror := if s.flag SwStatus.fallback then [] else mirrorSpec (s.par (oChan f.port) pidMirror) 0 f.port
    s.enqueueRx id f (v.specs ++ mirror)

/-- TWIN_DECISION (R275 to R278) for the oldest frame that waits for it, with the upsets it meets. -/
def execTwinDecision (u : Upset) (s : State) : Host.Outcome State Fault Refusal :=
  .next (match s.rxWaiting with
    | none => s
    | some (id, f) => (s.twinOf u f).2.decideRx id f (s.twinOf u f).1)

/-- SHADOW_INTERVAL_END (R279): 10 ms without a hard mismatch. -/
def execShadowIntervalEnd (s : State) : Host.Outcome State Fault Refusal :=
  .next (match s.buf.shadowEnd with
    | none => s
    | some d =>
      let s := s.timeTo d
      let s := { s with buf := { s.buf with shadowEnd := none } }
      ((s.setF SwStatus.shadow 0).setF SwStatus.fallback 0).event SwEvents.fallbackExit 0x02A)

/-- The entries of a free list differ (R274, R281): the entry is discarded, counted and reported. -/
def State.freeMismatch (s : State) (detail : Nat) : State :=
  ((s.incSw 9).event SwEvents.linkMismatch 0x02C detail).faultRise 3 detail

/-- The outcome of the comparison of the cell free lists (R256, R273): 1 one copy repaired, 2 the entries differ: the cell popped is
not used, and waits for the audit. -/
def State.freeLink (s : State) (link : Nat) : State :=
  if link == 1 then s.incSw 15
  else if link == 2 then
    match s.pickCell with
    | none => s
    | some c => ((s.setCell c { alloc := true, gen := 16 }).decF SwFreeCells.count).freeMismatch c
  else s

/-- The outcome of the comparison of the descriptor free lists: 3 one copy repaired, 4 the entries differ: the descriptor popped is not
used, and nothing reclaims it (R272). -/
def State.freeDescLink (s : State) (link : Nat) : State :=
  if link == 3 then s.incSw 15
  else if link == 4 then
    match s.pickDesc with
    | none => s
    | some d => ((s.setDesc d { s.desc d with lost := true }).decF SwFreeDesc.count).freeMismatch d
  else s

/-- The descriptor that owns a frame's cells: taken with the first cell, from lists that compare as `link` says. -/
def State.rxOwner (s : State) (f : RxFrame) (link : Nat) : Option Nat × State :=
  match f.owner with
  | some o => (some o, s)
  | none =>
    let s := s.freeDescLink link
    match s.takeDesc { ingress := f.port, stamp := f.stamp, length := f.bytes.length, srcChan := f.port } with
    | none => (none, s)
    | some (o, s) => (some o, s.setDesc o { s.desc o with owner := o })

/-- No cell is free: the frame's live copies are refused, and receive discards the rest. -/
def State.cellLacks (s : State) (id : Nat) (f : RxFrame) (o : Nat) : State :=
  let s := f.live.foldl (fun (s : State) (d : Nat) =>
    (s.refuseCell d f.port (s.queueClass (s.desc d).queue (s.desc d).cls)).refuseLive o true d) s
  s.rxRefused id f o (s.desc o).cls true

/-- The cell is written: a frame not yet decided waits; of a decided one the cell is admitted for every live copy. -/
def State.cellIn (s : State) (id : Nat) (f : RxFrame) (o c : Nat) : State :=
  let s := if f.written.length = 1 then s.setDesc o { s.desc o with firstCell := c } else s
  if !f.decided then s.setRx id f
  else
    let s := s.classCells o (s.desc o).cls [c]
    let (live, s) := s.admitLive o f.port [c] f.live
    if live.isEmpty then s.rxRefused id f o (s.desc o).cls true
    else
      s.linkOn id { f with live := live } o (s.desc o).cls

/-- A cell of a frame goes to the frame's owner. -/
def State.cellTo (s : State) (id : Nat) (f : RxFrame) (o : Nat) (b : List Byte) : State :=
  match s.putCell o f.port b f.written.getLast? f.todo.isEmpty with
  | none => s.cellLacks id f o
  | some (c, s) => s.cellIn id { f with written := f.written ++ [c] } o c

/-- When the next cell of a frame in a port's write FIFO became complete (R256): the frame's start and the cell's bits. -/
def State.cellAge (s : State) (f : RxFrame) : Nat := strandPlus f.stamp (s.bitCycles f.port (512 * (f.written.length + 1)))

/-- Of each port the frame that came first. -/
def firstOfPort : List (Nat × RxFrame) → List Nat → List (Nat × RxFrame)
  | [], _ => []
  | kv :: l, seen => if seen.contains kv.2.port then firstOfPort l seen else kv :: firstOfPort l (kv.2.port :: seen)

/-- The oldest complete cell in any write FIFO (R256): of each port its first frame counts, and ties go to the lower port. -/
def State.oldestCell (s : State) : Option (Nat × RxFrame) :=
  (firstOfPort (s.buf.rx.filter (fun kv => !kv.2.todo.isEmpty)) []).foldl (fun (a : Option (Nat × RxFrame)) kv =>
    match a with
    | none => some kv
    | some b =>
      let t := s.cellAge kv.2
      let u := s.cellAge b.2
      if t == u then (if kv.2.port < b.2.port then some kv else some b)
      else if strandAfter u t then some kv else some b) none

/-- CELL_WRITE (R256, R273): the oldest complete cell. `link` is the outcome of the free-list comparisons: 0 agree, 1 or 3 one copy of
the cell or the descriptor list repaired, 2 or 4 the entries of the cell or the descriptor list differ (FREE_MISMATCH). -/
def execCellWrite (link : Fin 5) (s : State) : Host.Outcome State Fault Refusal :=
  .next (match s.oldestCell with
    | none => s
    | some (id, f) =>
      match f.todo with
      | [] => s
      | cell :: rest =>
        match (s.freeLink link).rxOwner f link with
        | (none, s) => (s.incSw 10).eraseRx id
        | (some o, s) => s.cellTo id { f with owner := some o, todo := rest } o cell)

/-! ### What firmware does with the tables (R209, R225 to R229) -/

/-- Store a learnt entry at an FDB index. -/
def State.setLearnt (s : State) (i e : Nat) : State :=
  { s with fwd := { s.fwd with learnt := tabSet ctrDefault s.fwd.learnt i e } }

/-- Learnt entries of a port. -/
def State.learntOf (s : State) (p : Nat) : Nat := (s.fwd.learnt.filter (fun kv => bitOf (fdbDest kv.2) p)).length

/-- A learn record is applied (R225, R226): a new record is subject to the port's limit; an entry that is held is rewritten unless
static; otherwise the entry takes a free way, else one that is neither static nor hit. -/
def State.learnFrom (s : State) (mac : List Byte) (fid : Nat) (move : Bool) (p : Nat) : State :=
  let e := leVal mac + fid * 2 ^ 48 + 5 * 2 ^ 60 + 2 ^ (64 + p)
  let b := fdbBucket mac fid
  if !move && s.learntOf p ≥ s.par (oChan p) pidLearnLimit then s.incFdb p 10
  else
    match s.fdbFind mac fid with
    | some i => if fdbStatic (s.fdbEntry i) then s else s.setLearnt i e
    | none =>
      let ways := (List.range 8).map (fun w => b * 8 + w)
      match ways.find? (fun i => !fdbValid (s.fdbEntry i)) with
      | some i => s.setLearnt i e
      | none =>
        match ways.find? (fun i => !fdbStatic (s.fdbEntry i) && !fdbHit (s.fdbEntry i)) with
        | some i => s.setLearnt i e
        | none => s.incFdb p 9

/-- LEARN_RECORD_PROCESS (R225, R226): firmware acts on the oldest learn record and pops it. -/
def execLearnRecordProcess (s : State) : Host.Outcome State Fault Refusal :=
  .next (if !s.fwRunning || s.evqFill 1 == 0 then s
    else
      let r := s.evRec 1 (s.evqRd 1)
      let s := s.evqMoveRd 1 ((s.evqRd 1 + 1) % 128)
      if r.src != 0x001 then s
      else
        s.learnFrom (leBytes 6 r.payload) (bitsOf r.payload 59 48) (bitOf r.payload 60) (bitsOf r.payload 71 64))

/-- AGEING_VISIT (R227, R228): half a PERIOD has passed; HIT bits are cleared and stale entries removed. -/
def execAgeingVisit (s : State) : Host.Outcome State Fault Refusal :=
  .next (if !s.fwRunning || s.par oDeck pidAgeing == 0 then s
    else
      (s.fwd.learnt).foldl (fun (s : State) kv =>
        if fdbHit kv.2 then s.setLearnt kv.1 (setBit kv.2 62 false) else s.setLearnt kv.1 0) s)

/-- Remove the learnt entries that name a port (R229). -/
def State.forgetPort (s : State) (p : Nat) : State :=
  { s with fwd := { s.fwd with
      learnt := s.fwd.learnt.filter (fun kv => !bitOf (fdbDest kv.2) p),
      linkDownRemoval := s.fwd.linkDownRemoval.filter (· != p) } }

/-- LINK_DOWN_FDB_REMOVAL (R229): firmware removes the learnt entries of a port that went down. -/
def execLinkDownFdbRemoval (p : Fin 22) (s : State) : Host.Outcome State Fault Refusal :=
  .next (if s.fwRunning && s.fwd.linkDownRemoval.contains p.val then s.forgetPort p else s)

/-- FRER_RESET_TIMEOUT (R221): no frame has passed for RESET_TIME. -/
def execFrerResetTimeout (f : Fin 1024) (s : State) : Host.Outcome State Fault Refusal :=
  let v := s.frerSt f
  .next (if v.passed.isEmpty then s
    else
      let s := s.timeTo (strandPlus v.lastPass (msC (bitsOf (s.entry (oFrer f)) 31 16)))
      (s.setFrer f {}).incFrer f 4)

/-- TABLE_ECC_REPAIR (R209): firmware rewrites the entry first reported uncorrectable; a learnt FDB entry is removed. -/
def execTableEccRepair (s : State) : Host.Outcome State Fault Refusal :=
  .next (match s.fwd.badEntries with
    | [] => s
    | c :: rest =>
      if !s.fwRunning then s
      else
        let i := c % 2 ^ 24
        let s := if c / 2 ^ 24 == 0 && s.par (oFdb i) (pidRaw 0) == 0 then s.setLearnt i 0 else s
        let s := { s with fwd := { s.fwd with badEntries := rest } }
        if rest.isEmpty then s.faultFall 15 else s)

end Sys2Proof.Machine
end

