-- ==== Sys2Proof/Machine/Egress.lean ====
section
/-! DEFINITION. Egress (R257, R262, R273, R311 to R336): candidates, WFQ selection, gate fit, the egress reads, the end of a
transmission, and histograms. -/

namespace Sys2Proof.Machine

/-! ### Gate lookahead (R323) -/

/-- A point in the lists that will be in force: the list, its entry, the entry's start, the cycle's start, and the pending
list with its change time. -/
structure GatePos where
  list : Option GateList
  entry : Nat
  start : Nat
  cycle : Nat
  pend : Option (GateList × Nat)
deriving DecidableEq, Repr

def GateSt.pos (g : GateSt) : GatePos := ⟨g.oper, g.entry, g.entryStart, g.cycleStart, g.pend⟩

/-- Gate states at a point: all open without a list. -/
def GatePos.gates (g : GatePos) : Nat :=
  match g.list.bind (fun l => l.entries[g.entry]?) with
  | some (m, _, _) => m
  | none => 0xFF

/-- The end of the entry at a point and what follows it; `none` where nothing ever follows. -/
def GatePos.next (g : GatePos) : Option GatePos :=
  match g.list, g.pend with
  | none, none => none
  | none, some (l, c) => some ⟨some l, 0, c, c, none⟩
  | some l, pend =>
    let iv := match l.entries[g.entry]? with | some (_, _, iv) => iv | none => 0
    let cycEnd := g.cycle + l.cycle
    let own := if g.entry + 1 < l.entries.length then g.start + iv else cycEnd
    let e := min own cycEnd
    let plain : GatePos := if e = cycEnd then ⟨some l, 0, e, e, pend⟩ else ⟨some l, g.entry + 1, e, g.cycle, pend⟩
    match pend with
    | none => some plain
    | some (l2, c) =>
      if c ≤ e || (e = cycEnd && decide (c < cycEnd + l.ext)) then some ⟨some l2, 0, c, c, none⟩ else some plain

/-- When the gate of class `c` next closes, within `n` entries; `none` while it stays open. -/
def GatePos.closing (g : GatePos) (c : Nat) : Nat → Option Nat
  | 0 => none
  | n + 1 =>
    if !bitOf g.gates c then some g.start
    else match g.next with
      | none => none
      | some g' => g'.closing c n

/-- Gate states of one cycle with the time each lasts. -/
def GateList.segments (l : GateList) : List (Nat × Nat) :=
  let (segs, t) := l.entries.foldl (fun (a : List (Nat × Nat) × Nat) e =>
    let d := min e.2.2 (l.cycle - a.2)
    (a.1 ++ [(e.1, d)], a.2 + d)) ([], 0)
  match segs.getLast? with
  | some (m, d) => segs.dropLast ++ [(m, d + (l.cycle - t))]
  | none => segs

/-- The longest window of class `c` in a cycle that repeats; `none` where its gate never closes. -/
def GateList.window (l : GateList) (c : Nat) : Option Nat :=
  let segs := l.segments
  if segs.all (fun x => bitOf x.1 c) then none
  else
    some ((segs ++ segs).foldl (fun (a : Nat × Nat) x =>
      if bitOf x.1 c then (max a.1 (a.2 + x.2), a.2 + x.2) else (a.1, 0)) (0, 0)).1

/-- The length by which a head copy is tested (R323): MAX_LEN of the port for a cut-through copy. -/
def State.fitLength (s : State) (p : Nat) (d : Desc) : Nat := if d.cut then s.par (oChan p) 0x0103 else d.length

/-- Bit times that must be left before the gate closes (R323, R327). -/
def State.needBits (s : State) (p c : Nat) (d : Desc) : Nat :=
  if s.preemptable p c then ((1 + s.par (oChan p) 0x0404) * 64 + 20) * 8 else (s.fitLength p d + 20) * 8

/-- Do `bits` fit at the port's rate in a time in units of 2^−32 ns? -/
def State.fitsIn (s : State) (p bits t : Nat) : Bool := decide (nsU (bits * 1000000) ≤ t * s.portRate p)

/-- The gate of the class is open and the copy fits (R314 condition 2). -/
def State.gateFits (s : State) (p c : Nat) (d : Desc) : Bool :=
  let g := s.gate p
  bitOf g.gates c && !(g.hold && s.preemptable p c) &&
  match g.pos.next.bind (fun n => n.closing c 7) with
  | none => true
  | some t => s.fitsIn p (s.needBits p c d) (nsU t - s.clockNow 2)

/-! ### Candidates (R314) -/

/-- Cells a copy takes on a Pier link, by the body of its unit. -/
def pierNeed (d : Desc) : Nat := if d.remote.isSome then max 1 (ceilDiv (d.length + 2) 64) else max 1 (ceilDiv (d.length - 4) 64)

/-- Conditions 2 to 5 of R314 for a copy at the head of queue `q`. -/
def State.eligible (s : State) (p q : Nat) (d : Desc) : Bool :=
  let c := s.queueClass q d.cls
  s.gateFits p c d &&
  !(decide (p ≤ 11) && bitOf (s.getF (PortPauseStatus.rxPaused p)) c) &&
  ((s.classShaper p c).slope == 0 || decide (s.credit p c ≥ 0)) &&
  (q < 800 || (s.streamShaper q).slope == 0 || decide ((s.tag q).credit ≥ 0)) &&
  (!s.shedding p || s.shedExempt c d || decide (s.credit p 8 ≥ 0)) &&
  (p < 20 || (!(s.pierPort p).rekeying && decide (pierNeed d ≤ s.pierCredit p c)))

/-- Queues that are candidates at this frame boundary. -/
def State.candidates (s : State) (p : Nat) : List Nat :=
  (s.portQueues p).filter (fun q =>
    match s.queue q with
    | [] => false
    | d :: _ => s.eligible p q (s.desc d))

/-! ### WFQ (R315) -/

/-- The later of two tags under the comparison rule of R180. -/
def later (a b : Nat) : Nat := if strandAfter a b then a else b

/-- Group of a queue on a port; F[22] has one group. -/
def State.groupOf (s : State) (p q : Nat) : Nat :=
  if p = 22 then 0
  else
    let c := s.queueClass q 0
    bitsOf (s.par (oChan p) 0x0D00) (3 * c + 2) (3 * c)

/-- Identification of a copy at a queue's head: its number and generation. -/
def State.copyId (s : State) (d : Nat) : Nat := d + (s.desc d).gen * 65536

/-- Tags of a candidate: computed when the queue becomes active and when its head changes. -/
def State.tagQueue (s : State) (p q : Nat) : State :=
  match s.queue q with
  | [] => s
  | d :: _ =>
    let t := s.tag q
    let id := s.copyId d
    if t.head == some id then s
    else
      let start := if t.head.isNone then later (tabGet ctrDefault (s.port p).v (s.groupOf p q)) t.last else t.last
      let inc := ceilDiv (((s.desc d).length + 20) * 256) (s.par (oQueue q) 0x0103)
      s.setTag q { t with start := start, finish := (start + inc) % 2 ^ 48, head := some id }

/-- Queues that are no candidate are inactive; candidates have tags. -/
def State.tagAll (s : State) (p : Nat) (all cands : List Nat) : State :=
  let s := (all.filter (fun q => !cands.contains q)).foldl (fun (s : State) q =>
    if (s.tag q).head.isSome then s.setTag q { s.tag q with head := none } else s) s
  cands.foldl (fun s q => s.tagQueue p q) s

/-- The candidate of the highest group with the smallest finish tag; ties to the lower queue number. -/
def State.wfqPick (s : State) (p : Nat) (cands : List Nat) : Option Nat :=
  let g := (cands.map (fun q => s.groupOf p q)).foldl max 0
  (cands.filter (fun q => s.groupOf p q == g)).foldl (fun (a : Option Nat) q =>
    match a with
    | none => some q
    | some b =>
      let fq := (s.tag q).finish
      let fb := (s.tag b).finish
      if fq == fb then some (min q b) else if strandAfter fq fb then some b else some q) none

/-- Virtual time and last finish tag after a choice. -/
def State.wfqServed (s : State) (p q : Nat) : State :=
  let t := s.tag q
  let e := s.port p
  let s := s.setPort p { e with v := tabSet ctrDefault e.v (s.groupOf p q) t.finish }
  s.setTag q { t with last := t.finish }

/-- Select(port) of R315 among candidates: express first. -/
def State.select (s : State) (p : Nat) (all cands : List Nat) : Option Nat × State :=
  let s := s.tagAll p all cands
  let express := cands.filter (fun q => !s.preemptable p (s.queueClass q 0))
  let pick := s.wfqPick p (if express.isEmpty then cands else express)
  match pick with
  | none => (none, s)
  | some q => (some q, s.wfqServed p q)

/-! ### Dropping what never fits (R323) -/

/-- Note the head of each queue and since when it stands there, and drop a head that has met a whole operational cycle
without a window it fits: GATE_DROPS. -/
def State.gateDrops (s : State) (p : Nat) : State :=
  (s.portQueues p).foldl (fun (s : State) q =>
    match s.queue q with
    | [] => s
    | d :: _ =>
      let id := s.copyId d
      match (s.tag q).seen with
      | some (i, t) =>
        if i != id then s.setTag q { s.tag q with seen := some (id, s.workNs) }
        else
          let g := s.gate p
          let v := s.desc d
          let c := s.queueClass q v.cls
          match g.oper with
          | none => s
          | some l =>
            match l.window c with
            | none => s
            | some w =>
              if w != 0 && decide (t + l.cycle ≤ g.cycleStart) && !s.fitsIn p (s.needBits p c v) (nsU w) then
                (((s.tsqDiscard v).unqueue d).releaseCopy d).incGate p 2
              else s
      | none => s.setTag q { s.tag q with seen := some (id, s.workNs) }) s

/-! ### The frame as it leaves (R132, R212, R220, R329) -/

/-- The stored bytes of a copy's frame, the part still arriving included. -/
def State.wholeFrame (s : State) (d : Desc) : List Byte :=
  match s.buf.rx.find? (fun kv => kv.2.owner == some d.owner) with
  | some (_, f) => f.bytes
  | none => s.frameOf d

/-- Does a copy leave with another tag or without its R-TAG? -/
def Desc.edits (d : Desc) : Bool := d.tagOut.isSome || d.untag || d.popRtag

/-- The bytes of a frame, as far as they go, with the tag and the R-TAG that the copy leaves with. -/
def egressBody (d : Desc) (b : List Byte) : List Byte :=
  if !d.edits then b
  else
    let tagged := frameTagged b
    let rest := b.drop (if tagged then 16 else 12)
    let rest := if d.popRtag && beAt rest 0 2 == 0xF1C1 then rest.drop 6 else rest
    let tag := match d.tagOut with
      | some t => beBytes 2 0x8100 ++ beBytes 2 t
      | none => if d.untag || !tagged then [] else sliceB b 12 4
    b.take 12 ++ tag ++ rest

/-- The frame with the tag, the R-TAG and the FCS it leaves with. -/
def egressFrame (d : Desc) (b : List Byte) : List Byte :=
  if d.edits then ethFinish (egressBody d (b.take (b.length - 4))) else b

/-! ### EGRESS_SELECT -/

/-- The copy at the head of `q` starts: dequeued, ACTIVE, its read requested; MACsec protects or drops it (R423). -/
def State.startFrame (s : State) (p q : Nat) : State :=
  match (s.plcaUse p).dequeue q with
  | none => s
  | some (d, s) =>
    let v := s.desc d
    let (prot, s) := s.macsecTxStart p (egressFrame v (s.wholeFrame v))
    match prot with
    | none => (s.tsqDiscard v).releaseCopy d
    | some prot =>
      let s := { s with buf := { s.buf with ageCount := s.buf.ageCount + 1 } }
      let e : EgressRead := { desc := d, d := { v with stamp := s.strand }, cellAt := v.firstCell,
                              cellsLeft := ceilDiv v.length 64, age := s.buf.ageCount, since := s.strand, prot := prot }
      { s with buf := { s.buf with egress := tabInsert s.buf.egress p e } }

/-- The held preemptable frame goes on (R314): its queue is a candidate again. -/
def State.resumeHeld (s : State) (p : Nat) : State :=
  match (s.port p).held with
  | none => s
  | some e =>
    if s.eligible p e.d.queue e.d then
      let s := s.creditSync p
      let s := s.setPort p { s.port p with held := none }
      { s with buf := { s.buf with egress := tabInsert s.buf.egress p { e with since := s.strand } } }
    else s

/-- An express copy, or a flow control frame, waits behind a preemptable frame that may be preempted now (R139, R148). -/
def State.expressWaits (s : State) (p : Nat) : Bool :=
  s.canPreempt p && ((s.port p).fcPend != 0 ||
    (s.candidates p).any (fun q => !s.preemptable p (s.queueClass q 0)))

/-- The preemptable frame on the wire is to be preempted for the gate list, now that R148 permits it: a hold is in force, or the gate of
its class has closed (R327). -/
def State.gateWaits (s : State) (p : Nat) : Bool :=
  match tabFind s.buf.egress p with
  | none => false
  | some e => s.canPreempt p && ((s.gate p).hold || !bitOf (s.gate p).gates (s.queueClass e.d.queue e.d.cls))

/-- The preemption that R327 asks for; one that a hold asks for counts HOLD_PREEMPTS. -/
def State.gatePreempt (s : State) (p : Nat) : State := (if (s.gate p).hold then s.incGate p 4 else s).preempt p

/-- CREDIT_STALLS (R524): at a frame boundary of a Pier port a unit is ready and its class has no credit. -/
def State.pierStall (s : State) (p : Nat) : State :=
  if p < 20 then s
  else
    let mgmt := (s.pierPort p).waiting.any (fun u => u.1 != pcCtrl && decide (s.pierCredit p u.1 < unitCells u.2.2.2))
    let data := (List.range 8).any (fun c =>
      match s.queue (p * 8 + c) with
      | d :: _ => decide (s.pierCredit p c < pierNeed (s.desc d))
      | [] => false)
    if s.flag (PortStatus.linkUp p) && (mgmt || data) then s.inc (oChan p) cCasc 4 else s

/-- A frame boundary of a port of F[0]..F[21]. -/
def State.boundary (s : State) (p : Nat) : State :=
  let s := s.fcSend p
  let s := (s.pierFlush p).pierStall p
  let s := s.gateDrops p
  let all := s.portQueues p
  let cands := s.candidates p
  let express := cands.filter (fun q => !s.preemptable p (s.queueClass q 0))
  -- while a frame is held part-sent no other preemptable frame starts, though its queue stays a candidate (R314, R315)
  if (s.port p).held.isSome && express.isEmpty then (s.tagAll p all cands).resumeHeld p
  else
    match s.select p all cands with
    | (none, s) => s
    | (some q, s) => s.startFrame p q

/-- A frame that PLCA has deferred meets its transmit opportunity: it goes where its gate still leaves it the time, and keeps its place
otherwise (R323). -/
def State.deferredGo (s : State) (p : Nat) : State :=
  match tabFind s.buf.egress p with
  | none => s
  | some e => if s.gateFits p (s.queueClass e.d.queue e.d.cls) e.d then (s.frameAnew p).plcaUse p else s

/-- EGRESS_SELECT (R144, R315, R506) on F[`p`]; `turn`: on a port that PLCA governs, its transmit opportunity begins. A port that is
down, in back-off, without an opportunity, or whose disable waits for the frame boundary starts nothing (such a disable goes on). A frame that PLCA has
deferred goes first; a preemptable one on the wire is preempted where the gate list or a waiting express copy asks for it and R148
permits it. -/
def execEgressSelect (p : Fin 22) (turn : Bool) (s : State) : Host.Outcome State Fault Refusal :=
  let s := (s.wireFree p).creditSync p
  let s := if turn && s.plcaRuns p && s.flag (PortStatus.linkUp p) then s.plcaTurn p else s
  let stopped := match (s.port p).disabling with | some d => d.mode != 1 | none => false
  .next (if !s.flag (PortStatus.linkUp p) then s
    else if stopped then s.portDisableStep p
    else if (s.port p).backoffAt.isSome || !s.plcaMay p then s
    else if (s.port p).deferred then s.deferredGo p
    else if (tabFind s.buf.egress p).isSome then
      (if s.gateWaits p then (s.gatePreempt p).boundary p else if s.expressWaits p then (s.preempt p).boundary p else s)
    else s.boundary p)

/-! ### CELL_READ -/

/-- A cell of the frame at port `p` is read into it (R257); after the last the copy is finished, and a frame that, as it leaves, passes
MAX_LEN on its way is cut (R131). -/
def State.cellTake (s : State) (p : Nat) (e : EgressRead) (c : Nat) : State :=
  let data := e.data ++ (s.cell c).data
  let beyond := (egressBody e.d data).length - s.par (oChan p) 0x0103
  let tooLong := e.d.cut && decide (0 < beyond)
  let s := { s with buf := { s.buf with ageCount := s.buf.ageCount + 1 } }
  let e := { e with data := if tooLong then data.take (data.length - beyond) else data, cellAt := c,
                    cellsLeft := e.cellsLeft - 1, age := s.buf.ageCount, trunc := tooLong }
  let last := e.cellsLeft = 0 && !tooLong
  let s := { s with buf := { s.buf with egress := tabInsert s.buf.egress p { e with released := last } } }
  if last then s.finishCopy e.desc else s

/-- Where every read that could go on waits for room in its FIFO, time passes to the earliest room (R257). -/
def State.readWait (s : State) : State :=
  match s.oldestRead, s.readRoom with
  | none, some t => s.timeTo t
  | _, _ => s

/-- CELL_READ (R257): the oldest request is granted. `upset` is what the read meets, as in `readMeets` (R274, R280). -/
def execCellRead (upset : Fin 7) (s : State) : Host.Outcome State Fault Refusal :=
  .next (match s.readWait.oldestRead with
    | none => s.readWait
    | some (p, e) =>
      match s.readWait.readMeets e.desc e.taken upset with
      | (true, s) => s.cellTake p e (s.nextCell e)
      | (false, s) => s.readFails p e)

/-- The frame with its last octet of FCS inverted, as egress ends a truncated one. -/
def badFcs (b : List Byte) : List Byte := b ++ (ethFcs b).map (fun x => ~~~x)

/-- The unit of a copy on a Pier link (R501): a record with its REMOTE_ROUTE, or the frame without FCS. -/
def State.dataUnit (s : State) (p : Nat) (d : Desc) (b : List Byte) (prot : Option TxSa) : State :=
  let c := s.queueClass d.queue d.cls
  match d.remote with
  | some (deck, rr) => s.unitSend p c utRecord (deckPair (d.srcDeck.getD s.ownDeck) deck) (leBytes 2 rr ++ b) (some prot)
  | none => s.unitSend p c utEth (deckPair (d.srcDeck.getD s.ownDeck) (s.pierPort p).rank) (b.take (b.length - 4)) (some prot)

/-- The time that the frame `e` and its 20 overhead bytes still take on the wire of port `p` has passed (R318, R129). -/
def State.wireEnd (s : State) (p : Nat) (e : EgressRead) : State :=
  s.timeTo (strandPlus e.since (s.bitCycles p ((e.data.length + 20 - e.gone) * 8)))

/-- The frame `e` at port `p` has left (R252, R351): counted, time-stamped and protected, or aborted where it was cut. -/
def State.frameSent (s : State) (p : Nat) (e : EgressRead) : State :=
  let s := (s.wireEnd p e).creditSync p
  let s := { s with buf := { s.buf with egress := tabErase s.buf.egress p } }
  let s := (s.setPort p { s.port p with collisions := 0, backoffAt := none }).plcaBurst p
  let s := if e.released then s else s.releaseCopy e.desc
  let s :=
    if e.trunc then
      let s := { s with out := .ethTx p (badFcs (egressBody e.d e.data)) true :: s.out }
      (s.tsqAbort p e.d).inc (oChan p) cEth 20
    else if 20 ≤ p then s.dataUnit p e.d (egressFrame e.d e.data) e.prot
    else
      let b := egressFrame e.d e.data
      let (f, s) := match e.prot with
        | some u => s.macsecProtect p u b
        | none => (b, s)
      let s := { s with out := .ethTx p f false :: s.out }
      let s := (s.inc (oChan p) cEth 17).addCtr (oChan p) cEth 16 f.length
      s.tsqEntry p e.d 0
  ((s.fcSend p).pierFlush p).portDisableStep p

/-- FRAME_TRANSMIT_COMPLETE (R252, R351): the last bit of the frame on F[`p`] has left. -/
def execFrameTransmitComplete (p : Fin 22) (s : State) : Host.Outcome State Fault Refusal :=
  .next (match tabFind s.buf.egress p with
    | none => s
    | some e =>
      if (e.cellsLeft != 0 && !e.trunc) || (s.port p).backoffAt.isSome || (s.port p).deferred then s else s.frameSent p e)

/-- Bin of a depth in cells. -/
def depthBin (occ : Nat) : Nat := if occ = 0 then 0 else min 15 (Nat.log2 occ + 1)

/-- Bin of an age in ns. -/
def sojournBin (base ns : Nat) : Nat := if ns < 2 * base then 1 else min 15 (Nat.log2 (ns / base) + 1)

/-- Counters of a queue's histograms: SAMPLES, the depth bins, the sojourn bins. -/
def histSamples : Nat := 100
def histDepth : Nat := 101
def histSojourn : Nat := 117

/-- A sample of a queue's histograms at `t` (R334). -/
def State.histSample (s : State) (q t : Nat) : State :=
  let s := s.timeTo t
  let flags := s.par (oQueue q) (pidRaw 0)
  let s := { s with egr := { s.egr with
    histAt := tabInsert s.egr.histAt q (strandPlus t (usC (s.par (oQueue q) (pidRaw 1)))) } }
  let s := s.incQ q histSamples
  let s := if bitOf flags 0 then s.incQ q (histDepth + depthBin (s.getF (QStatus.occ q))) else s
  if bitOf flags 1 then
    s.incQ q (histSojourn + match s.queue q with
      | [] => 0
      | d :: _ => sojournBin (s.par (oQueue q) (pidRaw 2)) (strandDiff s.strand (s.desc d).stamp * 5 / 4))
  else s

/-- HISTOGRAM_SAMPLE (R333, R334) of a queue that is due. -/
def execHistogramSample (q : Fin 2048) (s : State) : Host.Outcome State Fault Refusal :=
  .next (match tabFind s.egr.histAt q with
    | none => s
    | some t => s.histSample q t)

end Sys2Proof.Machine
end

