-- ==== Sys2Proof/Machine/Ethernet.lean ====
section
/-! DEFINITION. Ethernet receive (R128 to R132, R140, R424): the checks of the MAC and the way into the shared buffer. -/

namespace Sys2Proof.Machine

/-- A frame enters a port's write FIFO (R256): its cells wait to be written. -/
def State.rxPush (s : State) (p : Nat) (b : List Byte) (express bad : Bool) (tsReq : Option (Nat × Nat) := none)
    (srcDeck : Option Nat := none) (credit : Option (Nat × Nat) := none) (len : Nat := b.length) : State :=
  let f : RxFrame := { port := p, bytes := b, len := len, stamp := s.strand, todo := toCells b, bad := bad, express := express,
                       tsReq := tsReq, srcDeck := srcDeck, credit := credit }
  { s with buf := { s.buf with rx := tabInsert s.buf.rx s.buf.rxSerial f, rxSerial := s.buf.rxSerial + 1 } }

/-- RX_FRAMES, RX_OCTETS, RX_MULTICAST and RX_BROADCAST (R153). RX_OCTETS counts the length that R129 defines, `len`, the SecTAG and
ICV of a MACsec frame included (DEDUCED, log entry 97). -/
def State.rxCount (s : State) (p len : Nat) (b : List Byte) : State :=
  let s := (s.inc (oChan p) cEth 1).addCtr (oChan p) cEth 0 len
  if isBroadcast (frameDa b) then s.inc (oChan p) cEth 3
  else if isMulticast (frameDa b) then s.inc (oChan p) cEth 2 else s

/-- A MAC control frame, and a gPTP frame to its group address: never forwarded (R128 steps 7 and 8). -/
def isMacControl (b : List Byte) : Bool := beAt b 12 2 == 0x8808
def isGptp (b : List Byte) : Bool := beAt b 12 2 == 0x88F7 && frameDa b == [0x01, 0x80, 0xC2, 0x00, 0x00, 0x0E]

/-- A frame that one of steps 4 to 6 finds bad: its header may have started a decision already, and a copy may cut through (R128,
R130). -/
def State.rxBad (s : State) (p : Nat) (b : List Byte) (express : Bool) (len : Nat := b.length) : State :=
  if isMacControl b || isGptp b then s else s.rxPush p b express true (len := len)

/-- Steps 7 to 9 of R128 for a frame of `len` bytes on the wire that has passed the checks. -/
def State.macAccept (s : State) (p len : Nat) (b : List Byte) (express : Bool) : State :=
  if isMacControl b then s.macControl p b
  else if isGptp b then s.inc (oChan p) cEth 13
  else ((s.rxCount p len b).spanEthFrame p b).rxPush p b express false (len := len)

/-- LPI received since the frame before is taken as idle and counted (R123), in the modes that have it. -/
def State.rxLpi (s : State) (p n : Nat) : State :=
  if p ≤ 11 && s.flag (PortStatus.linkUp p) && n != 0 then s.addCtr (oChan p) cEth 30 n else s

/-- ETH_FRAME_RECEIVE (R128) on F[`p`]: the frame from destination address to FCS, whether the PCS found a code error or the
MAC a fragment error, whether it came express, and how often LPI came in the idle before it. A port whose link is not up receives
nothing. -/
def execEthFrameReceive (p : Fin 20) (frame : List Byte) (codeErr fragErr express : Bool) (lpi : Byte) (s : State) :
    Host.Outcome State Fault Refusal :=
  let lim := s.par (oChan p) 0x0103
  let s := s.rxLpi p lpi.toNat
  .next (
    if !s.flag (PortStatus.linkUp p) then s
    else if codeErr then s.inc (oChan p) cEth 4
    else if fragErr && s.preemptOn p then s.inc (oChan p) cEth 5
    else if frame.length < 64 then s.inc (oChan p) cEth 6
    else if frame.length > lim then (s.inc (oChan p) cEth 7).rxBad p (frame.take lim) express
    else if !fcsOk frame then (s.inc (oChan p) cEth 8).rxBad p frame express
    else
      match s.macsecRx p frame with
      -- under VALIDATE 0 or 1 a copy may have cut through before the frame is dropped (R424)
      | (none, s) => if s.macsecStrict p then s else s.rxBad p frame express
      | (some b, s) => s.macAccept p frame.length b express)

end Sys2Proof.Machine
end

