-- ==== Sys2Proof/Machine/Forward.lean ====
section
/-! DEFINITION. The aggregator (R231 to R240): route lookup, route application, conversion between CAN and LIN, and the CAN
authentication jobs that a route can ask for (R437 to R442). -/

namespace Sys2Proof.Machine

/-- A frame that the aggregator routes: its record in receive form, the Channel it entered on, the Deck it came from if
another, and the route index it carries if its kind reads no table (R231 case 1, R308). -/
structure AggFrame where
  record : List Byte
  chan : Nat
  deck : Option Nat := none
  fixed : Option Nat := none
deriving DecidableEq, Repr

/-! ### Route index (R231 to R235) -/

/-- Bucket of a CAN hash key (R233). -/
def hashBucket (n id : Nat) : Nat :=
  let k := n * 2 ^ 29 + id
  (bitsOf k 11 0) ^^^ (bitsOf k 23 12) ^^^ (bitsOf k 34 24)

def hashValid (e : Nat) : Bool := bitOf e 29
def hashKey (e : Nat) : Nat := bitsOf e 53 48 * 2 ^ 29 + bitsOf e 28 0
def hashRoute (e : Nat) : Nat := bitsOf e 45 32
def State.hashEntry (s : State) (i : Nat) : Nat := s.par (oHash i) (pidRaw 0)

/-- The index of a key's entry in the hash table. -/
def State.hashFind (s : State) (n id : Nat) : Option Nat :=
  ((List.range 4).map (fun w => hashBucket n id * 4 + w)).find? (fun i =>
    hashValid (s.hashEntry i) && hashKey (s.hashEntry i) == n * 2 ^ 29 + id)

/-- AGGREGATOR_LOOKUP (R231): the route index, and the entries in error that the lookup meets, which give index 0 (R209). -/
def State.routeIndex (s : State) (f : AggFrame) : Nat × List Nat :=
  match f.fixed with
  | some r => (r, [])
  | none =>
    let one := fun (code : Nat) (v : Nat) => if s.fwd.badEntries.contains code then (0, [code]) else (v, [])
    if recLin f.record then
      let id := bitsOf (recId f.record) 5 0
      one (badCode 8 ((f.chan - 88) * 64 + id)) (s.par (oChan f.chan) (0x0A00 + id))
    else
      let n := f.chan - 24
      if !recIde f.record then
        let id := bitsOf (recId f.record) 10 0
        one (badCode 4 (n * 2048 + id)) (s.par (oDirect f.chan id) (pidRaw 0))
      else
        let id := recIdent f.record
        let bad := ((List.range 4).map (fun w => badCode 5 (hashBucket n id * 4 + w))).filter (fun c =>
          s.fwd.badEntries.contains c)
        if !bad.isEmpty then (0, bad)
        else match s.hashFind n id with
          | some i => (hashRoute (s.hashEntry i), [])
          | none => (0, [])

/-! ### Fields of a route entry (R236) -/

def rtCan (e : Nat) : Nat := bitsOf e 63 0
def rtLin (e : Nat) : Nat := bitsOf e 79 64
def rtClass (e : Nat) : Nat := bitsOf e 82 80
def rtDiag (e : Nat) : Bool := bitOf e 83
def rtRxq (e : Nat) : Bool := bitOf e 84
def rtRate (e : Nat) : Bool := bitOf e 85
def rtSafety (e : Nat) : Bool := bitOf e 86
def rtRing (e : Nat) : Nat := bitsOf e 92 88
def rtHost (e : Nat) : Bool := bitOf e 93
def rtProgram (e : Nat) : Nat := bitsOf e 113 96
def rtSge (e : Nat) : Bool := bitOf e 114
def rtBundle (e : Nat) : Nat := bitsOf e 143 128
def rtAuth (e : Nat) : Nat := bitsOf e 159 144
def rtAge (e : Nat) : Nat := bitsOf e 175 160
def rtAltFor (e : Nat) : Nat := bitsOf e 181 176
def rtAltSplit (e : Nat) : Bool := bitOf e 182
def rtAltEn (e : Nat) : Bool := bitOf e 183
def rtAltTo (e : Nat) : Nat := bitsOf e 189 184
def rtRemoteRoute (e : Nat) : Nat := bitsOf e 205 192
def rtDecks (e : Nat) : Nat := bitsOf e 211 208
def rtLinId (e : Nat) : Nat := bitsOf e 221 216
def rtLinIdEn (e : Nat) : Bool := bitOf e 222
def rtCanOut (e : Nat) : Nat := bitsOf e 252 224
def rtCanIde (e : Nat) : Bool := bitOf e 253
def rtCanIdEn (e : Nat) : Bool := bitOf e 254

/-! ### Conversion (R238) -/

/-- A CAN frame as a LIN record for LIN[`n`], where it has one. -/
def State.toLin (s : State) (n e : Nat) (r : List Byte) : Option (List Byte) :=
  let id := if rtLinIdEn e then rtLinId e else bitsOf (recId r) 5 0
  let len := recLen r
  let f := s.linFrame n id
  if recKind r > 1 || recRtr r || len > 8 || len == 0 then none
  else if linDir f != 1 || linLength f != len then none
  else
    let flags := b2n (id < 60 && linEnhanced f) + 2 * b2n (id == 60 || id == 61)
    some (leBytes 4 id ++ [4] ++ leBytes 1 flags ++ leBytes 2 len ++ sliceB r 8 8 ++ recPayload r)

/-- A LIN record as a classical CAN data frame. -/
def toCan (e : Nat) (r : List Byte) : List Byte :=
  let len := recLen r
  let id := if rtCanIdEn e then rtCanOut e + b2n (rtCanIde e) * 2 ^ 29 else bitsOf (recId r) 5 0
  leBytes 4 id ++ [0] ++ leBytes 1 (len * 16) ++ leBytes 2 len ++ sliceB r 8 8 ++ recPayload r

/-! ### Destinations (R237) -/

/-- A Deck that can be reached now and is not quarantined (R517, R520). -/
def State.reachable (s : State) (d : Nat) : Bool := bitOf (s.getF CascStatus.reachable) d && !(s.deckInfo d).quarantine && !s.flag CascStatus.quarantine

/-- CAN destinations of a frame after substitution under R175, with TX_ALTERNATE counted. -/
def State.canDests (s : State) (e chan : Nat) : List Nat × State :=
  let busOff := fun (n : Nat) => s.getF (CanStatus.errState n) == 2
  let dests := maskBits 64 (rtCan e)
  let f := rtAltFor e
  let swap := rtAltEn e && dests.contains f && busOff f && !busOff (rtAltTo e)
  let dests := if swap then (dests.map (fun n => if n == f then rtAltTo e else n)).eraseDups else dests
  (dests.filter (fun n => 24 + n != chan), if swap then s.incCan f 25 else s)

/-- Remote destinations: the Decks reached, and ALT_TO where every named Deck is out of reach (R237 step 4). -/
def State.remoteDests (s : State) (e idx chan : Nat) : List Nat × List Nat × State :=
  let named := maskBits 4 (rtDecks e)
  let up := named.filter s.reachable
  let s := s.addCtr (oRoute idx) cRoute 3 (named.length - up.length)
  if rtAltSplit e && !named.isEmpty && up.isEmpty && 24 + rtAltTo e != chan then ([], [rtAltTo e], s.incRoute idx 4)
  else (up, [], s)

/-- The copies a route asks for. -/
def State.routeSpecs (s : State) (f : AggFrame) (idx e : Nat) (fallback : Bool) : List CopySpec × State :=
  let cls := rtClass e
  let base : CopySpec := { queue := 0, cls := cls, route := idx, ageLimit := rtAge e * 80000, safety := rtSafety e,
                           srcChan := f.chan, srcDeck := f.deck }
  let at_ := fun (q : Nat) => ({ base with queue := q } : CopySpec)
  let (cans, s) := s.canDests e f.chan
  let (decks, alt, s) := if fallback || f.deck.isSome then ([], [], s) else s.remoteDests e idx f.chan
  let lins := maskBits 16 (rtLin e)
  let copies := (cans ++ alt).eraseDups.map (fun n => at_ (canQueue n + cls)) ++
    lins.map (fun n => at_ (linQueue n (b2n (rtDiag e)))) ++
    (if rtHost e then [at_ (768 + rtRing e)] else []) ++
    (if rtSge e && !fallback then [at_ (200 + cls)] else []) ++
    (if rtBundle e != 0 && !fallback then [at_ (799 + rtBundle e)] else []) ++
    decks.map (fun d => ({ base with queue := (s.deckInfo d).port * 8 + cls, remote := some (d, rtRemoteRoute e) } : CopySpec))
  (copies, s)

/-! ### Enqueue (R158, R237 step 7, R238) -/

/-- Copies of a record that take cells of their own, as further copies of the frame: those that find no descriptor are refused alone, in
DROP_ADMIT of their queues (R250). -/
def State.storeFurther (s : State) (stamp : Nat) (r : List Byte) (specs : List CopySpec) : State :=
  if specs.isEmpty then s
  else if s.pickDesc.isNone then specs.foldl (fun (s : State) c => s.incQ c.queue 3) s
  else (s.storeFrame 24 stamp r specs).2

/-- Enqueue a record's copies, each converted and tested for its destination. A frame that finds no descriptor at all is dropped whole
(R250). -/
def State.enqueueRecord (s : State) (r : List Byte) (e : Nat) (specs : List CopySpec) : State :=
  let (specs, s) := s.sleepFilter specs
  if specs.isEmpty then s
  else if s.pickDesc.isNone then s.incSw 10
  else
  let lin := recLin r
  let (same, s) := specs.foldl (fun (a : List CopySpec × State) (c : CopySpec) =>
    let s := a.2
    let q := c.queue
    if 224 ≤ q && q < 736 then
      let n := (q - 224) / 8
      let r' := if lin then toCan e r else r
      if !s.canCarries n r' then (a.1, s.incCan n 20)
      else if lin then (a.1, s.storeFurther (recStamp r) r' [c])
      else (a.1 ++ [c], s)
    else if 736 ≤ q && q < 768 && !lin then
      let n := (q - 736) / 2
      match s.toLin n e r with
      | none => (a.1, s.incLin n 12)
      | some r' => (a.1, s.storeFurther (recStamp r) r' [c])
    else (a.1 ++ [c], s)) ([], s)
  s.storeFurther (recStamp r) r same

/-- Drop a SAFETY copy that fails the enqueue check (R526), counted as the model's own FAULT counter 0. -/
def State.safetyCheck (s : State) (fails : Bool) (specs : List CopySpec) : List CopySpec × State :=
  match specs with
  | c :: rest => if fails && c.safety then (rest, (s.inc oDeck cFault 0).faultRise 16) else (specs, s)
  | [] => (specs, s)

/-- Hand the destinations of a frame their copies: the receive queue, then the queues. -/
def State.deliver (s : State) (r : List Byte) (e : Nat) (rxq : Option Nat) (specs : List CopySpec) : State :=
  let s := match rxq with
    | some n => if s.canPar n 0x0300 == 1 then s.rxRecordWrite n r else s
    | none => s
  s.enqueueRecord r e specs

/-- ROUTE_APPLY (R237) with a route entry, or with a Fallback entry (R240). -/
def State.applyEntry (s : State) (f : AggFrame) (idx e : Nat) (fallback unsafe_ : Bool) : State :=
  let (pass, s) := if !fallback && rtRate e then s.rateTake idx else (true, s)
  if !pass then s.incRoute idx 1
  else
    let rxq := if rtRxq e && 24 ≤ f.chan && f.chan ≤ 87 && f.deck.isNone then some (f.chan - 24) else none
    let (specs, s) := s.routeSpecs f idx e fallback
    if specs.isEmpty && rxq.isNone then s.incRoute idx 2
    else
      let specs := specs ++ (if fallback then [] else mirrorSpec (s.par (oRoute idx) pidMirror) idx f.chan)
      let (specs, s) := s.safetyCheck unsafe_ specs
      let r := putB f.record 14 (leBytes 2 idx)
      let p := rtAuth e
      if p != 0 && !fallback then
        let raw := s.entry (oProfile p)
        let job : AuthJob := { gen := bitOf raw 16, profile := p, raw := raw, record := r, source := f.chan, deck := f.deck,
                               route := idx, entry := e, rxq := rxq, specs := specs }
        { s with hbx := { s.hbx with auth := s.hbx.auth ++ [job] } }
      else s.deliver r e rxq specs

/-- A frame without a route (R187): to the receive queue of its CAN Lane, or dropped. -/
def State.unrouted (s : State) (f : AggFrame) : State :=
  if 24 ≤ f.chan && f.chan ≤ 87 && f.deck.isNone && !recLin f.record then
    let n := f.chan - 24
    if s.canPar n 0x0301 == 1 && s.canPar n 0x0300 == 1 then s.rxRecordWrite n f.record else s.incCan n 4
  else s

/-- A route or Fallback entry at a non-zero index. -/
def State.fallbackApply (s : State) (f : AggFrame) (idx : Nat) (unsafe_ : Bool) : State :=
  let e := s.entry (oFallback idx)
  if e == 0 || s.isBad 7 idx then s.incRouteDeck 1 else s.applyEntry f idx e true unsafe_

/-- The aggregator's decision in normal operation: what it does, and the entries in error it met. -/
def State.aggregate (s : State) (f : AggFrame) (unsafe_ : Bool) : Verdict :=
  let (idx, bad) := s.routeIndex f
  if idx == 0 then ⟨[], bad, s.unrouted f⟩
  else
    let s := s.incRoute idx 0
    let e := s.entry (oRoute idx)
    if s.isBad 6 idx then
      ⟨[], badCode 6 idx :: (if s.isBad 7 idx then [badCode 7 idx] else []) ++ bad, s.fallbackApply f idx unsafe_⟩
    else if e == 0 && f.deck.isSome then ⟨[], bad, s.incRouteDeck 0⟩
    else ⟨[], bad, s.applyEntry f idx e false unsafe_⟩

/-- The aggregator in Fallback operation (R240, R278). -/
def State.aggregateFallback (s : State) (f : AggFrame) (unsafe_ : Bool) : Verdict :=
  let (idx, bad) := s.routeIndex f
  if idx == 0 then ⟨[], bad, s.unrouted f⟩
  else ⟨[], (if s.isBad 7 idx then [badCode 7 idx] else []) ++ bad, s.fallbackApply f idx unsafe_⟩

/-- A CAN or LIN frame reaches the aggregator, whose twin decision may meet an upset (R275). -/
def State.route_ (s : State) (f : AggFrame) (u : Upset) : State :=
  (s.twin u (fun s => s.aggregate f u.safety) (fun s => s.aggregateFallback f u.safety)).2

/-! ### CAN authentication (R437 to R442) -/

def freshDefault (_ : Nat) : Fresh := {}
def State.fresh (s : State) (c : Nat) : Fresh := tabGet freshDefault s.hbx.fresh c
def State.setFresh (s : State) (c : Nat) (v : Fresh) : State :=
  { s with hbx := { s.hbx with fresh := tabSet freshDefault s.hbx.fresh c v } }

/-- Fields of a profile (R437). -/
def afSlot (p : Nat) : Nat := bitsOf p 15 0
def afAdopt (p : Nat) : Bool := bitOf p 17
def afToHost (p : Nat) : Bool := bitOf p 18
def afFv (p : Nat) : Nat := bitsOf p 31 24
def afMac (p : Nat) : Nat := bitsOf p 39 32
def afRing (p : Nat) : Nat := bitsOf p 44 40
def afFresh (p : Nat) : Nat := bitsOf p 63 48
def afData (p : Nat) : Nat := bitsOf p 95 64
def afWindow (p : Nat) : Nat := bitsOf p 111 96
def afLen (p : Nat) : Nat := bitsOf p 127 112

/-- Profile counters (R445): 0 PASSED, 1 LEN_FAIL, 2 NOT_SYNCED, 3 FRESH_FAIL, 4 FRESH_EXHAUSTED, 5 MAC_FAIL, 6 LOCKED,
7 NO_SPACE. -/
def State.incProfile (s : State) (p i : Nat) : State := s.inc (oProfile p) cSec i

/-- The MAC of R438 under a key. -/
def canMac (key : List Byte) (p fv : Nat) (pay : List Byte) : List Byte :=
  beBytes 16 (Config.aesCmac key (beBytes 4 (afData p) ++ pay.take (afLen p) ++ beBytes 4 fv)).toNat

/-- A refused job (R442): counted, evented, and with FAIL_TO_HOST a zeroed frame to the host ring. -/
def State.authRefuse (s : State) (j : AuthJob) (reason : Nat) : State :=
  let s := (s.incProfile j.profile reason).hbxEvent 4 j.profile
  if !j.gen && afToHost j.raw then
    let r := j.record.take (recHead j.record) ++ zeros (recLen j.record)
    let c : CopySpec := { queue := 768 + afRing j.raw, route := j.route, srcChan := j.source, srcDeck := j.deck, authFail := true }
    (s.storeFrame 24 (recStamp r) r [c]).2
  else s

/-- A counter enters EXHAUSTED: the first time sets FRESH_EXHAUSTED (R440). -/
def State.freshExhaust (s : State) (c : Nat) : State :=
  let v := s.fresh c
  if v.state == 2 then s
  else
    let n := s.hbx.serial + 1
    let s := { s with hbx := { s.hbx with serial := n } }
    (s.setFresh c { v with state := 2, exhaustedAt := n }).hbxEvent 1 c

/-- The candidate of a verify job (R439 step 3): `none` where the received value fails. -/
def freshCandidate (v : Fresh) (fvBytes received : Nat) : Option Nat :=
  if fvBytes = 0 then some (v.value + 1)
  else if fvBytes = 4 then (if v.state == 1 && received ≤ v.value then none else some received)
  else
    let m := 2 ^ (8 * fvBytes)
    let c := v.value / m * m + received
    some (if c ≤ v.value then c + m else c)

/-- A verify job (R439). `keyFault`: the slot's key cannot be read. -/
def State.authVerify (s : State) (j : AuthJob) (keyFault : Bool) : State :=
  let p := j.raw
  let c := afFresh p
  let v := s.fresh c
  let pay := recPayload j.record
  let n := afLen p
  if s.flag HbxStatus.locked then s.authRefuse j 6
  else if pay.length != n + afFv p + afMac p then s.authRefuse j 1
  else if v.state == 0 && !afAdopt p then s.authRefuse j 2
  else if v.state == 2 then s.authRefuse j 4
  else
    match freshCandidate v (afFv p) (beAt pay n (afFv p)) with
    | none => s.authRefuse j 3
    | some cand =>
      if cand > 0xFFFFFFFF then (s.freshExhaust c).authRefuse j 4
      else if v.state == 1 && cand - v.value > afWindow p then s.authRefuse j 3
      else
        let ok := !keyFault && s.slotUsable (afSlot p) usCanVerify [1, 2]
        let mac := canMac (s.slot (afSlot p)).key p cand pay
        if !ok || mac.take (afMac p) != sliceB pay (n + afFv p) (afMac p) then
          (if keyFault then s.eraseSlot (afSlot p) else s).authRefuse j 5
        else
          let s := (s.setFresh c { v with value := cand, state := 1 }).incProfile j.profile 0
          s.deliver j.record j.entry j.rxq j.specs

/-- A record with another payload. -/
def recWith (r pay : List Byte) : List Byte :=
  let f := recFlags r
  let r := if recKind r == 0 then putB r 5 (leBytes 1 (setBits f 7 4 pay.length)) else r
  (putB r 6 (leBytes 2 pay.length)).take (recHead r) ++ pay

/-- The frame of a generate job with its trailer (R438, R440), or the reason it is refused. -/
def State.authTrailer (s : State) (p : Nat) (pay : List Byte) (keyFault : Bool) : Except Nat (List Byte) × State :=
  let c := afFresh p
  let v := s.fresh c
  if s.flag HbxStatus.locked then (.error 6, s)
  else if pay.length != afLen p then (.error 1, s)
  else if v.state == 0 then (.error 2, s)
  else if v.state == 2 then (.error 4, s)
  else if v.value == 0xFFFFFFFF then (.error 4, s.freshExhaust c)
  else if keyFault then (.error 5, s.eraseSlot (afSlot p))
  else if !s.slotUsable (afSlot p) usCanGen [1, 2] then (.error 5, s)
  else
    let fv := v.value + 1
    let mac := canMac (s.slot (afSlot p)).key p fv pay
    (.ok (pay ++ beBytes (afFv p) (fv % 2 ^ (8 * afFv p)) ++ mac.take (afMac p)), s.setFresh c { v with value := fv })

/-- Does admission refuse every output of a generate job (R429)? Answers the state with the drops counted. -/
def State.authNoSpace (s : State) (j : AuthJob) : Option State :=
  let t := s.enqueueRecord (recWith j.record (recPayload j.record ++ zeros (afFv j.raw + afMac j.raw))) j.entry j.specs
  let refused := j.specs.any (fun c => decide (s.ctr (oQueue c.queue) cQos 3 < t.ctr (oQueue c.queue) cQos 3))
  if refused && j.rxq.isNone && t.getF SwFreeDesc.count == s.getF SwFreeDesc.count then some t else none

/-- A generate job (R440), which starts only once its output cells are granted. -/
def State.authGenerate (s : State) (j : AuthJob) (keyFault : Bool) : State :=
  match s.authNoSpace j with
  | some t => t.authRefuse j 7
  | none =>
  match s.authTrailer j.raw (recPayload j.record) keyFault with
  | (.error reason, s) => s.authRefuse j reason
  | (.ok pay, s) => (s.incProfile j.profile 0).deliver (recWith j.record pay) j.entry j.rxq j.specs

/-- The oldest job of a kind: no earlier job names its counter (R439). -/
def State.authNext (s : State) (gen : Bool) : Option AuthJob :=
  s.hbx.auth.find? (fun j => j.gen == gen &&
    match s.hbx.auth.find? (fun k => afFresh k.raw == afFresh j.raw) with
    | some k => k == j
    | none => false)

/-- A job leaves its queue; it runs whole and counts as one served quantum of its class (R427, R449). -/
def State.authTake (s : State) (j : AuthJob) : State := ({ s with hbx := { s.hbx with auth := s.hbx.auth.erase j } }).incHbx 3

/-- CAN_AUTH_VERIFY_JOB (R439). -/
def execCanAuthVerifyJob (keyFault : Bool) (s : State) : Host.Outcome State Fault Refusal :=
  .next (match s.authNext false with
    | none => s
    | some j => (s.authTake j).authVerify j keyFault)

/-- CAN_AUTH_GENERATE_JOB (R440). -/
def execCanAuthGenerateJob (keyFault : Bool) (s : State) : Host.Outcome State Fault Refusal :=
  .next (match s.authNext true with
    | none => s
    | some j => (s.authTake j).authGenerate j keyFault)

end Sys2Proof.Machine
end

