-- ==== Sys2Proof/Machine/Can.lean ====
section
/-! DEFINITION. CAN reception (R157 to R159, R187) and transceiver modes reached (R164, R165). -/

namespace Sys2Proof.Machine

/-- A frame on the bus as a receive record (R182 to R184), stamped now and without a route. -/
def canRecord (f : CanFrame) (stamp : Nat) : List Byte :=
  let ident := if f.ide && f.kind.val != 2 then f.id.toNat else f.id.toNat % 2 ^ 11
  let id := ident + b2n (f.ide && f.kind.val != 2) * 2 ^ 29 + b2n (f.rtr && f.kind.val == 0) * 2 ^ 30
  let flags := b2n (f.brs && f.kind.val == 1) + 2 * b2n (f.esi && f.kind.val != 0) +
    (if f.kind.val == 0 then f.dlc.toNat * 16 else 0)
  let ext := if f.kind.val == 2 then [f.sdt, f.vcid] ++ leBytes 1 (b2n f.sec) ++ [0] ++ leBytes 4 f.af.toNat else []
  leBytes 4 id ++ leBytes 1 f.kind.val ++ leBytes 1 flags ++ leBytes 2 f.payload.length ++ leBytes 6 stamp ++ [0, 0] ++
    ext ++ f.payload

/-- Can the frame appear on a correct bus (R157)? -/
def canFrameOk (f : CanFrame) : Bool :=
  lenOk f.kind.val f.payload.length &&
  (f.kind.val != 0 || (if f.rtr then f.payload.isEmpty else f.payload.length == min f.dlc.toNat 8))

/-- The mode announces the frame's format (R159). -/
def State.canKnows (s : State) (n kind : Nat) : Bool :=
  match kind with
  | 0 => true
  | 1 => s.canMode n != 0
  | _ => s.canMode n == 3

/-- PROTOCOL_EXCEPTION (R159), or a form error with PEX 0. -/
def State.canUnknown (s : State) (n : Nat) : State :=
  if s.canPar n 0x0108 == 1 then ((s.incCan n 6).canEvent n 6).setF (CanStatus.integrating n) 1
  else s.canRxErr n 2 false 1

/-- A frame that the Channel's mode knows is received: acknowledged, but in bus monitoring (R164) or with TXD held recessive (R385), counted, stamped with the Strand
value at its start of frame (R179), `age` fabric cycles ago, seen by its Span and routed (R157). -/
def State.canAccept (s : State) (n : Nat) (f : CanFrame) (age : Nat) (u : Upset) : State :=
  let r := canRecord f (strandMinus s.strand age)
  let s := if s.flag (CanStatus.monitor n) || s.txdHeld (24 + n) then s else { s with out := .canAck n :: s.out }
  let s := (s.incCan n 0).incCan n 1 f.payload.length
  let s := if f.kind.val == 1 then s.incCan n 2 else if f.kind.val == 2 then s.incCan n 3 else s
  let s := (s.recFall n).canNotLonely n
  let s := s.spanCanFrame n f.dlc.toNat r
  s.route_ { record := r, chan := 24 + n } u

/-- CAN_FRAME_RECEIVE (R157) on CAN[`n`]: a frame of another node, received to its end without error, `age` Strand cycles after the
edge that detected its start of frame (R179). -/
def execCanFrameReceive (n : Fin 64) (f : CanFrame) (age : BitVec 32) (u : Upset) (s : State) : Host.Outcome State Fault Refusal :=
  .next (
    if !s.canListens n || !canFrameOk f then s
    else if !s.canKnows n f.kind then s.canUnknown n
    else s.canAccept n f age.toNat u)

/-- The transceiver has reached mode `m` (R165); without VCC5 it cannot leave standby (R545). -/
def State.xcvrReached (s : State) (n m : Nat) : State :=
  let m := if !s.brim.vcc5 && m ≤ 1 then 2 else m
  let was := s.getF (CanStatus.xcvrMode n)
  let s := (s.setCan n { s.canLane n with xcvrGoing := none }).setF (CanStatus.xcvrMode n) m
  let s := s.setFlag (CanStatus.monitor n) (m == 1)
  let s := if m == 0 && was != 0 then s.setF (CanStatus.integrating n) 1 else s
  let i := s.spanOf (24 + n)
  (s.spanAsleepCheck i).spanAwakeCheck i

/-- XCVR_MODE_REACHED (R164, R165): CAN_STATUS reads the new mode; back in normal the Lane integrates first. A Span that
waits for its transceivers goes on (R385, R389). -/
def execXcvrModeReached (n : Fin 16) (s : State) : Host.Outcome State Fault Refusal :=
  .next (match (s.canLane n).xcvrGoing with
    | none => s
    | some m => s.xcvrReached n m)

end Sys2Proof.Machine
end

