-- ==== Sys2Proof/Machine/Lin.lean ====
section
/-! DEFINITION. LIN reception (R202, R203): headers, responses, timeouts and bus idle. -/

namespace Sys2Proof.Machine

/-- The Lane runs and is powered, its transceiver is not in sleep, and its TXD not held recessive (R385 step 4). -/
def State.linRuns (s : State) (n : Nat) : Bool :=
  s.getF (LinStatus.roleActive n) != 0 && !s.flag (LinStatus.laneGated n) && s.lineMode (88 + n) == 0 && !s.txdHeld (88 + n)

/-- A received response as a LIN record (R185). -/
def State.linRecord (s : State) (n id : Nat) (data : List Byte) : List Byte :=
  let flags := b2n (id < 60 && linEnhanced (s.linFrame n id)) + 2 * b2n (id == 60 || id == 61)
  leBytes 4 id ++ [4] ++ leBytes 1 flags ++ leBytes 2 data.length ++ leBytes 6 (s.linLane n).brk ++ [0, 0] ++ data

/-- What a Span sees after a LIN Lane's activity or silence. -/
def State.linSpan (s : State) (n : Nat) : State := s.spanUpdate (s.spanOf (88 + n))

/-- A responder's disable goes on once the frame in progress has ended (R111). -/
def State.linDisableStep (s : State) (n : Nat) : State :=
  let l := s.linLane n
  if l.disabling.isSome && l.slot == .idle && s.getF (LinStatus.roleActive n) == 2 then s.linDisabled n else s

/-- A correct response: counted, stamped, and routed (R203). The sleep command ends a responder's demand (R382). -/
def State.linReceived (s : State) (n : Nat) (data : List Byte) (u : Upset) : State :=
  let id := (s.linLane n).lastId
  let s := (s.incLin n 0).linActivity n
  let sleep := id == 60 && data.headD 1 == 0
  let s := if sleep then s.setLin n { s.linLane n with demand := false } else s
  let s := (s.linResponseEnd n).spanLinFrame n
  s.route_ { record := s.linRecord n id data, chan := 88 + n } u

/-- LIN_HEADER_RECEIVE (R202, R203) by a responder: a frame ID, or a header fault 1 break, 2 sync, 3 parity, `age` Strand cycles after
the falling edge of its break; `upset` is what the read of a diagnostic frame meets (R274, R280). -/
def execLinHeaderReceive (n : Fin 16) (id : BitVec 6) (err : Fin 4) (age : BitVec 32) (upset : Fin 7) (s : State) :
    Host.Outcome State Fault Refusal :=
  .next (if !s.linRuns n || s.getF (LinStatus.roleActive n) != 2 then s
    else
      let s := s.linActivity n
      let s := s.setLin n { s.linLane n with brk := strandMinus s.strand age.toNat }
      (if err.val = 0 then (s.linHeaderIn n id.toNat upset).linDisableStep n else s.linHeaderFault n err.val).linSpan n)

/-- The response of the slot in force, by its kind: 0 correct, 1 wrong checksum, 2 framing error, 3 a readback that differs from the
bit sent (R199, R203). -/
def State.linResponse (s : State) (n : Nat) (data : List Byte) (kind : Nat) (u : Upset) : State :=
  let slot := (s.linLane n).slot
  if kind == 3 then ((s.incLin n 7).linEvent n 7).linResponseEnd n
  else if kind == 0 && (slot == .subscribe || slot == .event) then
    if data.length == s.linLen n (s.linLane n).lastId then s.linReceived n data u else s.linActivity n
  else if slot == .event then
    let s := ((s.incLin n 8).linEvent n 3).linActivity n
    s.setLin n { s.linLane n with collided := true }
  else if kind == 1 && slot == .subscribe then (((s.incLin n 4).linEvent n 1).linActivity n).linResponseEnd n
  else s.linActivity n

/-- LIN_RESPONSE_RECEIVE (R199, R203): the response of the slot, `kind` 0 correct, 1 wrong checksum, 2 framing error, 3 a
readback that differs from the bit sent. -/
def execLinResponseReceive (n : Fin 16) (data : List Byte) (kind : Fin 4) (u : Upset) (s : State) :
    Host.Outcome State Fault Refusal :=
  .next (if !s.linRuns n then s else ((s.linResponse n data kind u).linDisableStep n).linSpan n)

/-- LIN_RESPONSE_TIMEOUT (R203): the subscribed response has not come in time. -/
def execLinResponseTimeout (n : Fin 16) (s : State) : Host.Outcome State Fault Refusal :=
  .next (if (s.linLane n).slot == .subscribe then
      let s := s.timeTo (s.linLane n).respEnd
      ((s.linNoResponse n).linResponseEnd n).linDisableStep n
    else s)

/-- LIN_BUS_IDLE_TIMEOUT (R202): 4 s without bus activity at a responder. -/
def execLinBusIdleTimeout (n : Fin 16) (s : State) : Host.Outcome State Fault Refusal :=
  .next (if !s.linRuns n || s.getF (LinStatus.roleActive n) != 2 || s.flag (LinStatus.busIdle n) then s
    else
      let s := s.timeTo (strandPlus (s.linLane n).activity (secC 4))
      let s := (s.setF (LinStatus.busIdle n) 1).linEvent n 6
      (s.setLin n { s.linLane n with demand := false }).linSpan n)

end Sys2Proof.Machine
end

