-- ==== Sys2Proof/Machine/Sge.lean ====
section
/-! DEFINITION. The Signal Gateway Engine (R283 to R304, R309): feeder, executors, the instructions of signal-map programs,
signals, PDU triggers and timers. -/

namespace Sys2Proof.Machine

/-! ### Access -/

def signalDefault (_ : Nat) : Signal := {}
def pduDefault (_ : Nat) : PduSt := {}
def timerDefault (_ : Nat) : PduTimer := {}
def runningDefault (_ : Nat) : Option Running := none
def State.signal (s : State) (i : Nat) : Signal := tabGet signalDefault s.sge.signals i
def State.setSignal (s : State) (i : Nat) (v : Signal) : State :=
  { s with sge := { s.sge with signals := tabSet signalDefault s.sge.signals i v } }
def State.pdu (s : State) (i : Nat) : PduSt := tabGet pduDefault s.sge.pdus i
def State.setPdu (s : State) (i : Nat) (v : PduSt) : State :=
  { s with sge := { s.sge with pdus := tabSet pduDefault s.sge.pdus i v } }
def State.timer (s : State) (i : Nat) : PduTimer := tabGet timerDefault s.sge.timers i
def State.setTimer (s : State) (i : Nat) (v : PduTimer) : State :=
  { s with sge := { s.sge with timers := tabSet timerDefault s.sge.timers i v } }
def State.executor (s : State) (e : Nat) : Option Running := tabGet runningDefault s.sge.running e

/-- Store an executor; SGE_STATUS.BUSY follows (R310). -/
def State.setExecutor (s : State) (e : Nat) (r : Option Running) : State :=
  let s := { s with sge := { s.sge with running := tabSet runningDefault s.sge.running e r } }
  s.setF SgeStatus.busy s.sge.running.length

/-- Store the ready list; SGE_READY follows. -/
def State.setReady (s : State) (l : List SgeJob) : State :=
  let s := { s with sge := { s.sge with ready := l } }.setF SgeReady.count l.length
  s.setF SgeReady.peak (max (s.getF SgeReady.peak) l.length)

/-- Counters of R310 on the DECK object and of a transmit PDU: COMPOSED, TRIG_MERGED, SLEEP_SKIPS, DEADLINE_MISS. -/
def State.incSge (s : State) (i : Nat) : State := s.inc oDeck cSig i
def State.incPdu (s : State) (p i : Nat) : State := s.inc (oPdu p) cSig i

/-- A bit of SGE_EVENTS and its source. -/
def sgeSrc : Nat := 0x030
def State.sgeEvent (s : State) (bit : Nat) (detail : Nat := 0) : State :=
  s.event ⟨SgeEvents.off, bit, bit⟩ (sgeSrc + bit) detail

/-- A committed value at a job's latched epoch (R97, R285). -/
def State.sgePar (s : State) (old : Bool) (o pid : Nat) : Nat :=
  match old, s.oldCfg with
  | true, some c => tabGet cfgDefault c (pkey o pid)
  | _, _ => s.par o pid

/-! ### Definitions (R292, R296) -/

def sgSubst (d : Nat) : Nat := bitsOf d 63 0
def sgTimeout (d : Nat) : Nat := bitsOf d 79 64
def sgPdu (d : Nat) : Nat := bitsOf d 93 80
def sgPduEn (d : Nat) : Bool := bitOf d 94
def sgSigned (d : Nat) : Bool := bitOf d 96
def sgSubstEn (d : Nat) : Bool := bitOf d 97
def sgInitValid (d : Nat) : Bool := bitOf d 98
def sgWidth (d : Nat) : Nat := bitsOf d 111 104

def pdTx (d : Nat) : Bool := bitOf d 0
def pdMode (d : Nat) : Nat := bitsOf d 2 1
def pdValid (d : Nat) : Bool := bitOf d 3
def pdCrc (d : Nat) : Nat := bitsOf d 9 8
def pdCntEn (d : Nat) : Bool := bitOf d 10
def pdCntWidth (d : Nat) : Nat := if bitOf d 11 then 8 else 4
def pdMaxDelta (d : Nat) : Nat := bitsOf d 15 12
def pdLength (d : Nat) : Nat := bitsOf d 31 16
def pdCrcByte (d : Nat) : Nat := bitsOf d 47 32
def pdCntPos (d : Nat) : Nat := bitsOf d 63 48
def pdDataId (d : Nat) : Nat := bitsOf d 79 64
def pdTimer (d : Nat) : Nat := bitsOf d 92 80
def pdMinGap (d : Nat) : Nat := bitsOf d 111 96
def pdAuth (d : Nat) : Nat := bitsOf d 127 112
def pdProgram (d : Nat) : Nat := bitsOf d 145 128
def pdQueue (d : Nat) : Nat := bitsOf d 170 160
def pdFill (d : Nat) : Nat := bitsOf d 183 176
def pdFormat (d : Nat) : Nat := bitsOf d 185 184
def pdIde (d : Nat) : Bool := bitOf d 186
def pdBrs (d : Nat) : Bool := bitOf d 187
def pdId (d : Nat) : Nat := bitsOf d 220 192
def pdAge (d : Nat) : Nat := bitsOf d 239 224
def pdBus (d : Nat) : Nat := bitsOf d 244 240

/-- An instruction of the program store (R288, R291). -/
def pidInstr : Nat := 0x4000
def State.instr (s : State) (old : Bool) (pc : Nat) : Nat := s.sgePar old (oProgram pc) pidInstr
def insOp (w : Nat) : Nat := bitsOf w 63 58

/-- DEADLINE of the ENTRY at a program's start, in Strand cycles. -/
def State.entryDeadline (s : State) (old : Bool) (pc : Nat) : Nat := ceilDiv (bitsOf (s.instr old pc) 19 0 * 4) 5

/-! ### Fields of a PDU (R287) -/

/-- Positions of a field's bits, most significant first. -/
def bigPositions : Nat → Nat → List Nat
  | 0, _ => []
  | n + 1, p => p :: bigPositions n (if p % 8 = 0 then p + 15 else p - 1)

/-- Positions of a field of `len` bits at `start`, least significant bit first. -/
def fieldPositions (big : Bool) (start len : Nat) : List Nat :=
  if big then (bigPositions len start).reverse else (List.range len).map (fun i => start + i)

/-- Bit `p` of a payload. -/
def payBit (b : List Byte) (p : Nat) : Bool := bitOf (leAt b (p / 8) 1) (p % 8)

def setPayBit (b : List Byte) (p : Nat) (v : Bool) : List Byte :=
  if p / 8 < b.length then b.set (p / 8) (BitVec.ofNat 8 (setBit (leAt b (p / 8) 1) (p % 8) v)) else b

/-- Read a field. -/
def readField (b : List Byte) (ps : List Nat) : Nat :=
  ((ps.zip (List.range ps.length)).map (fun x => b2n (payBit b x.1) * 2 ^ x.2)).sum

/-- Write the low bits of a value into a field. -/
def writeField (b : List Byte) (ps : List Nat) (v : Nat) : List Byte :=
  (ps.zip (List.range ps.length)).foldl (fun b x => setPayBit b x.1 (bitOf v x.2)) b

/-- A value of `w` bits as a 64-bit VALUE, extended as SIGNED says (R293). -/
def extend64 (signed : Bool) (w v : Nat) : Nat := if signed then ofSigned 64 (toSigned w v) else v % 2 ^ w

/-! ### Signals (R293 to R295) -/

/-- An accepted write unless stale: whether it was a change (R293). -/
def State.signalWrite (s : State) (i value stamp : Nat) : Bool × State :=
  let v := s.signal i
  if strandAfter v.stamp stamp && v.stamp != stamp then (false, s.incSge 8)
  else
    let changed := v.value != value || !v.valid || v.timedOut
    (changed, s.setSignal i { value := value, stamp := stamp, valid := true, updated := true, seq := (v.seq + 1) % 256 })

/-- A signal's state as its definition starts it (R295). -/
def signalStart (d now : Nat) : Signal := { value := sgSubst d, stamp := now, valid := sgInitValid d }

/-- The 16-byte state of a signal (R293). -/
def Signal.bytes (v : Signal) : List Byte :=
  leBytes 8 v.value ++ leBytes 6 v.stamp ++
  leBytes 1 (b2n v.valid + 2 * b2n v.updated + 4 * b2n v.timedOut + 8 * b2n v.substituted + 16 * b2n v.injected) ++
  leBytes 1 v.seq

/-! ### Releasing jobs (R284, R298 to R300) -/

/-- Destination Channel of a PDU's queue; for a bundle its egress port's. -/
def State.pduChan (s : State) (q : Nat) : Nat :=
  if 800 ≤ q then s.queueChan (bitsOf (s.entry (oQueue q)) 138 128)
  else if 768 ≤ q then 22
  else s.queueChan q

/-- The Span of a PDU's destination sleeps (R300). -/
def State.pduAsleep (s : State) (d : Nat) : Bool :=
  let c := s.pduChan (pdQueue d)
  decide (c < 104) && s.spanState (s.spanOf c) == spAsleep

/-- A job finds the ready list full (R284). -/
def State.jobDrop (s : State) : State := (s.incSge 4).sgeEvent 1

/-- Put a job into the ready list; its deadline is that of the ENTRY of its program, which the releasing epoch names. -/
def State.pushJob (s : State) (pdu : Option Nat) (desc : Nat) (record : List Byte) (program : Nat) (old : Bool := false) : State :=
  let job : SgeJob := { pdu := pdu, desc := desc, record := record, program := program, release := s.strand,
                        deadline := s.after (s.entryDeadline old program), order := s.sge.orders }
  { s with sge := { s.sge with orders := s.sge.orders + 1 } }.setReady (s.sge.ready ++ [job])

/-- Has the PDU a felting job in the ready list (R299)? -/
def State.pduReady (s : State) (p : Nat) : Bool := s.sge.ready.any (fun j => j.pdu == some p)

/-- Release a felting job (R299): a trigger or a timer release that finds one ready is merged into it. `old`: the trigger's job
runs under the old epoch (R97). -/
def State.feltRelease (s : State) (p : Nat) (old : Bool := false) : State :=
  if s.pduReady p then (s.incSge 11).incPdu p 1
  else if s.sge.ready.length ≥ 4096 then s.jobDrop
  else s.pushJob (some p) 0 [] (pdProgram (s.sgePar old (oPdu p) pidEntry)) old

/-- A TRIG or timeout trigger of a transmit PDU (R298, R299), judged by the definition of the triggering job's epoch (R97). A
trigger that finds a job ready is merged, within MIN_GAP too: R299 states the merging of every trigger first (DEDUCED, log entry
110). -/
def State.trigger (s : State) (p : Nat) (changed : Bool) (old : Bool := false) : State :=
  let d := s.sgePar old (oPdu p) pidEntry
  let accept := pdTx d && pdValid d && (pdMode d == 0 || ((pdMode d == 1 || pdMode d == 3) && changed))
  if !accept || s.getF SgeStatus.modeActive == 2 then s
  else if s.pduAsleep d then (s.incSge 12).incPdu p 2
  else
    let gap := usC (pdMinGap d * 100)
    let v := s.pdu p
    let early := match v.lastDispatch with | some t => decide (strandDiff s.strand t < gap) | none => false
    if pdMinGap d != 0 && early && !s.pduReady p then s.setPdu p { v with deferred := true } else s.feltRelease p old

/-! ### Ends of jobs (R286, R301 to R303) -/

/-- Width, polynomial, initial value, reflection and final XOR of a CRC_ALG. -/
def crcAlg (alg : Nat) (l : List Byte) : List Byte :=
  match alg with
  | 1 => beBytes 1 (crcOf 8 0x1D 0xFF false 0xFF l)
  | 2 => beBytes 2 (crcOf 16 0x1021 0xFFFF false 0 l)
  | 3 => beBytes 4 (crcOf 32 0x04C11DB7 0xFFFFFFFF true 0xFFFFFFFF l)
  | _ => []
def crcWidth (alg : Nat) : Nat := match alg with | 1 => 1 | 2 => 2 | 3 => 4 | _ => 0

/-- The CRC of a payload under a definition (R301). -/
def pduCrc (d : Nat) (pay : List Byte) : List Byte :=
  let p := sliceB pay 0 (pdLength d)
  crcAlg (pdCrc d) (leBytes 2 (pdDataId d) ++ p.take (pdCrcByte d) ++ p.drop (pdCrcByte d + crcWidth (pdCrc d)))

/-- Write the counter and the CRC into a composed payload (R301). -/
def protect (d cnt : Nat) (pay : List Byte) : List Byte :=
  let p := if pdCntEn d then writeField pay (fieldPositions false (pdCntPos d) (pdCntWidth d)) cnt else pay
  if pdCrc d = 0 then p else putB p (pdCrcByte d) (pduCrc d p)

/-- The record of a composed PDU (R297). -/
def State.pduRecord (s : State) (d stamp : Nat) (pay : List Byte) : List Byte :=
  let q := pdQueue d
  let len := pdLength d
  if 736 ≤ q && q < 768 then
    let id := bitsOf (pdId d) 5 0
    let f := s.linFrame ((q - 736) / 2) id
    leBytes 4 id ++ [4] ++ leBytes 1 (b2n (linEnhanced f) + 2 * b2n (id == 60 || id == 61)) ++ leBytes 2 len ++ leBytes 6 stamp ++ [0, 0] ++ pay
  else
    let k := pdFormat d
    leBytes 4 (pdId d + b2n (pdIde d) * 2 ^ 29) ++ leBytes 1 k ++
      leBytes 1 (if k = 0 then len * 16 else b2n (pdBrs d && k == 1)) ++ leBytes 2 len ++ leBytes 6 stamp ++ [0, 0] ++
      (if k = 2 then zeros 8 else []) ++ pay

/-- The job's deadline has passed: DEADLINE_MISS (R286). -/
def State.missed (s : State) (j : SgeJob) : State :=
  if strandAfter s.strand j.deadline && s.strand != j.deadline then
    let s := (s.incSge 3).sgeEvent 0
    match j.pdu with | some p => s.incPdu p 3 | none => s
  else s

/-- A felting job's PDU is handed to its queue, or to the Hatbox (R303). -/
def State.handPdu (s : State) (r : Running) (p : Nat) : State :=
  let d := s.sgePar r.old (oPdu p) pidEntry
  let v := s.pdu p
  let s := s.setPdu p { v with txCount := (v.txCount + 1) % 2 ^ pdCntWidth d }
  let rec_ := s.pduRecord d r.stamp (protect d v.txCount r.body)
  let q := pdQueue d
  let spec : CopySpec := { queue := q, cls := if 224 ≤ q && q < 736 then q % 8 else 0, ageLimit := pdAge d * 80000,
                           deadline := r.job.deadline % 2 ^ 32, srcChan := 0x100 + pdBus d }
  let s := s.incPdu p 0
  let a := pdAuth d
  if a != 0 then
    let job : AuthJob := { gen := true, profile := a, raw := s.sgePar r.old (oProfile a) pidEntry, record := rec_, source := spec.srcChan,
                           deck := none, route := 0, entry := 0, rxq := none, specs := [spec] }
    { s with hbx := { s.hbx with auth := s.hbx.auth ++ [job] } }
  else s.enqueueRecord rec_ 0 [spec]

/-- An executor's job ends: `whole` at END, otherwise cut by a failed CHECK or a program fault. A felting job that is cut hands
no PDU over, and so misses no deadline (R286). -/
def State.jobEnd (s : State) (e : Nat) (r : Running) (whole : Bool) : State :=
  let s := s.setExecutor e none
  match r.job.pdu with
  | none => (s.finishCopy r.job.desc).missed r.job
  | some p => if whole then (s.handPdu r p).missed r.job else s

/-! ### Instructions (R288) -/

/-- The instruction at an executor's program counter, where it has opcode `op`: an uncorrectable error ends the job
(R291), otherwise `f` runs it. An executor whose program counter stands at another opcode, or that has no job, does nothing. -/
def State.sgeStep (s : State) (e op : Nat) (fault : Bool) (f : Running → Nat → State) : State :=
  match s.executor e with
  | none => s
  | some r =>
    let w := s.instr r.old r.pc
    if insOp w != op then s
    else if fault then (((s.incSge 13).sgeEvent 3 r.pc).faultRise 5 r.pc).jobEnd e r false
    else f r w

/-- Go on at the next instruction. -/
def State.sgeNext (s : State) (e : Nat) (r : Running) (skip : Nat := 0) : State :=
  s.setExecutor e (some { r with pc := r.pc + 1 + skip })

def insBig (w : Nat) : Bool := bitOf w 57
def insUbEn (w : Nat) : Bool := bitOf w 56
def insLen (w : Nat) : Nat := bitsOf w 55 50 + 1
def insStart (w : Nat) : Nat := bitsOf w 49 36
def insUbPos (w : Nat) : Nat := bitsOf w 35 22
def insSignal (w : Nat) : Nat := bitsOf w 15 0
def insField (w : Nat) : List Nat := fieldPositions (insBig w) (insStart w) (insLen w)

/-- END ends the job (R288). -/
def execEnd (e : Fin 16) (fault : Bool) (s : State) : Host.Outcome State Fault Refusal :=
  .next (s.sgeStep e 0x00 fault (fun r _ => s.jobEnd e r true))

/-- A field of the payload becomes its signal's value (R288, R293), unless its update bit is clear or it lies beyond the payload. -/
def State.unpackIns (s : State) (e : Nat) (r : Running) (w : Nat) : State :=
  let pay := recPayload r.job.record
  let ps := insField w
  if insUbEn w && !payBit pay (insUbPos w) then s.sgeNext e r
  else if ps.any (fun p => decide (pay.length ≤ p / 8)) then (s.incSge 10).sgeNext e r
  else
    let d := s.sgePar r.old (oSignal (insSignal w)) pidEntry
    let (ch, s) := s.signalWrite (insSignal w) (extend64 (sgSigned d) (insLen w) (readField pay ps)) (recStamp r.job.record)
    s.sgeNext e { r with changed := r.changed || ch }

/-- UNPACK (R288, R293). -/
def execUnpack (e : Fin 16) (fault : Bool) (s : State) : Host.Outcome State Fault Refusal :=
  .next (s.sgeStep e 0x01 fault (fun r w => s.unpackIns e r w))

/-- PACK (R288). -/
def execPack (e : Fin 16) (fault : Bool) (s : State) : Host.Outcome State Fault Refusal :=
  .next (s.sgeStep e 0x02 fault (fun r w =>
    let i := insSignal w
    let v := s.signal i
    let body := writeField r.body (insField w) v.value
    let body := if insUbEn w then setPayBit body (insUbPos w) v.updated else body
    let s := if bitOf w 16 then s.setSignal i { v with updated := false } else s
    s.sgeNext e { r with body := body }))

/-- A CHECK fails: E2E_FAIL, and the job ends (R302). -/
def State.checkFail (s : State) (e : Nat) (r : Running) (ctr p : Nat) : State :=
  ((s.incSge ctr).sgeEvent 2 p).jobEnd e r false

/-- Length, CRC and counter of a received PDU are checked (R302). -/
def State.checkIns (s : State) (e : Nat) (r : Running) (w : Nat) : State :=
  let p := bitsOf w 13 0
  let d := s.sgePar r.old (oPdu p) pidEntry
  let pay := recPayload r.job.record
  let v := s.pdu p
  let cnt := readField pay (fieldPositions false (pdCntPos d) (pdCntWidth d))
  let m := 2 ^ pdCntWidth d
  if pay.length < pdLength d then s.checkFail e r 10 p
  else if pdCrc d != 0 && sliceB pay (pdCrcByte d) (crcWidth (pdCrc d)) != pduCrc d pay then s.checkFail e r 5 p
  else if pdCntEn d then
    match v.rxCount with
    | none => (s.setPdu p { v with rxCount := some cnt }).sgeNext e r
    | some old =>
      let delta := (cnt + m - old % m) % m
      if delta = 0 then s.checkFail e r 7 p
      else if delta > pdMaxDelta d then (s.setPdu p { v with rxCount := some cnt }).checkFail e r 6 p
      else (s.setPdu p { v with rxCount := some cnt }).sgeNext e r
  else s.sgeNext e r

/-- CHECK (R288, R302). -/
def execCheck (e : Fin 16) (fault : Bool) (s : State) : Host.Outcome State Fault Refusal :=
  .next (s.sgeStep e 0x03 fault (fun r w => s.checkIns e r w))

/-- MATCH (R288). -/
def execMatch (e : Fin 16) (fault : Bool) (s : State) : Host.Outcome State Fault Refusal :=
  .next (s.sgeStep e 0x04 fault (fun r w =>
    let same := recIdent r.job.record == bitsOf w 28 0 && recIde r.job.record == bitOf w 57
    s.sgeNext e r (if same then 0 else bitsOf w 44 37)))

/-- JUMP (R288). -/
def execJump (e : Fin 16) (fault : Bool) (s : State) : Host.Outcome State Fault Refusal :=
  .next (s.sgeStep e 0x05 fault (fun r w => s.setExecutor e (some { r with pc := bitsOf w 17 0 })))

/-- PACKK (R288). -/
def execPackk (e : Fin 16) (fault : Bool) (s : State) : Host.Outcome State Fault Refusal :=
  .next (s.sgeStep e 0x06 fault (fun r w =>
    let ps := fieldPositions (insBig w) (insStart w) (bitsOf w 55 51 + 1)
    s.sgeNext e { r with body := writeField r.body ps (bitsOf w 31 0) }))

/-- ENTRY starts a program (R288); its DEADLINE was taken at the release. -/
def execEntry (e : Fin 16) (fault : Bool) (s : State) : Host.Outcome State Fault Refusal :=
  .next (s.sgeStep e 0x07 fault (fun r _ => s.sgeNext e r))

/-- TRIG (R288, R298). -/
def execTrig (e : Fin 16) (fault : Bool) (s : State) : Host.Outcome State Fault Refusal :=
  .next (s.sgeStep e 0x08 fault (fun r w =>
    (s.trigger (bitsOf w 13 0) r.changed r.old).sgeNext e { r with changed := r.changed && !bitOf w 16 }))

/-! ### Feeder and dispatch (R284, R285) -/

/-- The F[25] queue whose head was enqueued first; ties to the lower queue. -/
def State.feederQueue (s : State) : Option Nat :=
  ((List.range 8).map (fun c => 200 + c)).foldl (fun (a : Option Nat) q =>
    match s.queue q, a with
    | [], _ => a
    | _ :: _, none => some q
    | d :: _, some b =>
      match s.queue b with
      | [] => some q
      | d' :: _ =>
        let t := (s.desc d).enqueuedAt
        let u := (s.desc d').enqueuedAt
        if strandAfter u t && u != t then some q else some b) none

/-- A copy that the feeder took: kept for unbundling, dropped where the queue of jobs is full, else a job. -/
def State.feederTake (s : State) (d : Nat) : State :=
  let v := s.desc d
  if v.avtp then { s with sge := { s.sge with unbundle := s.sge.unbundle ++ [d] } }
  else if s.sge.ready.length ≥ 4096 then (s.finishCopy d).jobDrop
  else s.pushJob none d (s.frameOf v) (rtProgram (s.entry (oRoute v.route)))

/-- SGE_FEEDER_MOVE (R284); `upset` is what the read of the input meets: with an uncorrectable error no job starts (R274, R280). -/
def execSgeFeederMove (upset : Fin 7) (s : State) : Host.Outcome State Fault Refusal :=
  .next (match s.feederQueue with
    | none => s
    | some q =>
      if s.getF SgeStatus.modeActive == 2 then s
      else
        match s.dequeue q with
        | none => s
        | some (d, s) =>
          match s.readWhole d upset with
          | (false, s) => s.releaseCopy d
          | (true, s) => s.feederTake d)

/-- Does job `a` go before job `b` (R285)? -/
def jobBefore (a b : SgeJob) : Bool :=
  if a.deadline != b.deadline then strandAfter b.deadline a.deadline
  else if a.release != b.release then strandAfter b.release a.release
  else decide (a.order < b.order)

def State.nextJob (s : State) : Option SgeJob :=
  s.sge.ready.foldl (fun (a : Option SgeJob) j =>
    match a with
    | none => some j
    | some b => if jobBefore j b then some j else some b) none

/-- The entry, of the route or of the PDU definition, that gives a job its program. -/
def State.jobEntry (s : State) (old : Bool) (j : SgeJob) : Nat :=
  match j.pdu with
  | none => s.sgePar old (oRoute (s.desc j.desc).route) pidEntry
  | some p => s.sgePar old (oPdu p) pidEntry

/-- Does the entry still give the job a program? -/
def jobGiven (j : SgeJob) (e : Nat) : Bool := if j.pdu.isNone then rtSge e else pdTx e && pdValid e

/-- A ready job starts on an executor, which latches the epoch in force (R97, R285): its program is the one that its route or PDU
definition has there. Where that epoch no longer gives it one, it runs as released, under the entries kept (DESIGN CHOICE, log
entry 110). A composed PDU starts from its fill byte. -/
def State.dispatchJob (s : State) (e : Nat) (j : SgeJob) : State :=
  let s := s.setReady (s.sge.ready.erase j)
  let now := s.jobEntry false j
  let here := jobGiven j now
  let pc := if here then (if j.pdu.isNone then rtProgram now else pdProgram now) else j.program
  let run : Running := { job := j, pc := pc, body := [], stamp := s.strand, old := !here }
  match j.pdu with
  | none => (s.setExecutor e (some run)).incSge 0
  | some p =>
    let d := s.jobEntry (!here) j
    let s := s.setPdu p { s.pdu p with lastDispatch := some s.strand }
    (s.setExecutor e (some { run with body := List.replicate (pdLength d) (BitVec.ofNat 8 (pdFill d)) })).incSge 1

/-- SGE_DISPATCH (R285): executor `e`, if free, takes the ready job with the earliest deadline. -/
def execSgeDispatch (e : Fin 16) (s : State) : Host.Outcome State Fault Refusal :=
  .next (if (s.executor e).isSome || s.getF SgeStatus.modeActive == 2 then s
    else
      match s.nextJob with
      | none => s
      | some j => s.dispatchJob e j)

/-! ### Timeouts, timers, gaps (R294, R299, R300) -/

/-- A signal that has timed out (R294). -/
def State.signalTimeout (s : State) (i d : Nat) : State :=
  let v := s.signal i
  let v := { v with timedOut := true }
  let v := if sgSubstEn d then { v with value := sgSubst d, substituted := true } else v
  let s := ((s.setSignal i v).incSge 9).occur 0x004 i
  if sgPduEn d then s.trigger (sgPdu d) true else s

/-- SIGNAL_TIMEOUT_SCAN (R294): one visit of every signal. -/
def execSignalTimeoutScan (s : State) : Host.Outcome State Fault Refusal :=
  .next (if s.getF SgeStatus.modeActive == 2 then s
    else (s.listed 0x10 pidEntry).foldl (fun (s : State) kv =>
      let v := s.signal kv.1
      if sgTimeout kv.2 != 0 && !v.timedOut && decide (strandDiff s.strand v.stamp > msC (sgTimeout kv.2))
      then s.signalTimeout kv.1 kv.2 else s) s)

/-- The transmit PDU that a timer releases, if one names it. -/
def State.timerPdu (s : State) (t : Nat) : Option (Nat × Nat) :=
  (s.listed 0x11 pidEntry).find? (fun kv => pdTx kv.2 && pdValid kv.2 && pdTimer kv.2 == t && 2 ≤ pdMode kv.2)

/-- A timer's boundary: its PDU is released, which serves a deferred trigger too (R299, R300). -/
def State.timerFire (s : State) (p : Nat) : State :=
  (s.setPdu p { s.pdu p with deferred := false }).feltRelease p

/-- First boundary of an aligned timer after `now` ns. -/
def alignedNext (period phase now : Nat) : Nat :=
  if now < phase then phase else phase + ((now - phase) / period + 1) * period

/-- The wake of the PDU's Span, where that came since the timer was last set or released. -/
def State.timerWake (s : State) (t d : Nat) : Option Nat :=
  (s.span (s.spanOf (s.pduChan (pdQueue d)))).wokeAt.filter (fun w => strandAfter w (s.timer t).since && w != (s.timer t).since)

/-- A boundary of an ALIGNED timer: on the working clock, silent while the PDU's Span sleeps, and after the wake the next one (R300). -/
def State.timerAligned (s : State) (t period phase b p d : Nat) : State :=
  let b := match s.timerWake t d with
    | some w => max b (alignedNext (period * 1000) (phase * 1000) ((s.convert 2 w).1 / 2 ^ 32))
    | none => b
  let now := s.workNs
  let b := if b > now + period * 1000 then alignedNext (period * 1000) (phase * 1000) now else b
  let s := s.clockTo 2 b
  let s := s.setTimer t { s.timer t with next := some (alignedNext (period * 1000) (phase * 1000) (max b s.workNs)), since := s.strand }
  if s.pduAsleep d then s else s.timerFire p

/-- Next boundary of a free-running timer: PHASE after the wake of the PDU's Span where that came since the timer was last set or
released (R300). -/
def State.timerDue (s : State) (t phase b d : Nat) : Nat :=
  match s.timerWake t d with
  | some w => strandPlus w (usC phase)
  | none => b

/-- A boundary of a free-running timer (R300). -/
def State.timerFree (s : State) (t period phase b p d : Nat) : State :=
  let b := s.timerDue t phase b d
  let s := s.timeTo b
  (s.setTimer t { s.timer t with next := some (strandPlus b (usC period)), since := s.strand }).timerFire p

/-- PDU_TIMER_RELEASE (R300): the timer's next boundary is reached; a free-running timer is held while the PDU's Span sleeps. -/
def execPduTimerRelease (t : Fin 8192) (s : State) : Host.Outcome State Fault Refusal :=
  let period := s.par (oTimer t) 0x0100
  let phase := s.par (oTimer t) 0x0101
  let v := s.timer t
  .next (match v.next, s.timerPdu t with
    | some b, some (p, d) =>
      if s.getF SgeStatus.modeActive == 2 then s
      else if v.aligned then s.timerAligned t period phase b p d
      else if s.pduAsleep d then s
      else s.timerFree t period phase b p d
    | _, _ => s)

/-- MIN_GAP_END (R299): one job for every trigger deferred. -/
def execMinGapEnd (p : Fin 16384) (s : State) : Host.Outcome State Fault Refusal :=
  let v := s.pdu p
  .next (match v.lastDispatch with
    | none => s
    | some t =>
      if !v.deferred then s
      else
        let s := s.timeTo (strandPlus t (usC (pdMinGap (s.entry (oPdu p)) * 100)))
        (s.setPdu p { s.pdu p with deferred := false }).feltRelease p)

end Sys2Proof.Machine
end

