-- ==== Sys2Proof/Machine/Bundle.lean ====
section
/-! DEFINITION. IEEE 1722 bundling and unbundling (R306 to R308) and the end of an SGE drain (R309). The octet layouts of
NTSCF, TSCF and the ACF messages are IEEE 1722-2016's (PRESUMED, log entry 23). -/

namespace Sys2Proof.Machine

/-! ### Bundle definitions (R306) -/

def buStreamId (e : Nat) : Nat := bitsOf e 63 0
def buDa (e : Nat) : List Byte := leBytes 6 (bitsOf e 111 64)
def buVid (e : Nat) : Nat := bitsOf e 123 112
def buPcp (e : Nat) : Nat := bitsOf e 126 124
def buTagged (e : Nat) : Bool := bitOf e 127
def buOut (e : Nat) : Nat := bitsOf e 138 128
def buWindow (e : Nat) : Nat := bitsOf e 159 144
def buMax (e : Nat) : Nat := bitsOf e 175 160
def buTscf (e : Nat) : Bool := bitOf e 176
def buBrief (e : Nat) : Bool := bitOf e 177
def buEnable (e : Nat) : Bool := bitOf e 178
def buOffset (e : Nat) : Nat := bitsOf e 223 192

/-- Bytes of the frame that MAX_PAYLOAD allows. -/
def buFrameLen (e : Nat) : Nat := 14 + (if buTagged e then 4 else 0) + (if buTscf e then 24 else 12) + buMax e + 4

/-- The queue of bundle `b` (1 to 1,248). -/
def bundleQueue (b : Nat) : Nat := 799 + b

def bundleDefault (_ : Nat) : Bundle := {}
def State.bundle (s : State) (b : Nat) : Bundle := tabGet bundleDefault s.sge.bundles b
def State.setBundle (s : State) (b : Nat) (v : Bundle) : State :=
  { s with sge := { s.sge with bundles := tabSet bundleDefault s.sge.bundles b v } }
def State.bundleEntry (s : State) (b : Nat) : Nat := s.entry (oQueue (bundleQueue b))

/-! ### Messages (R307) -/

/-- An ACF message: type, the octet after the length, what stands before the payload, and the payload padded to quadlets. -/
def acfMessage (typ flags : Nat) (mid pay : List Byte) : List Byte :=
  let pad := (4 - pay.length % 4) % 4
  let quads := (3 + 1 + (mid.length - 1) + pay.length + pad) / 4
  beBytes 2 (typ * 512 + quads) ++ leBytes 1 (pad * 64 + flags) ++ mid ++ pay ++ zeros pad

/-- bus_id of a message (R307): the ingress Channel's ACF_BUS_ID, or BUS of a composed PDU; a frame from another Deck has no
ingress Channel here, and its bus_id is a free value. -/
def State.busId (s : State) (chan : Nat) : Nat × State :=
  if 0x100 ≤ chan then ((chan - 0x100) % 32, s)
  else if 24 ≤ chan && chan ≤ 103 then (s.par (oChan chan) 0x0C40, s)
  else
    let (v, s) := s.draw
    (v % 32, s)

/-- The message of a record; none for an XL record. -/
def acfOf (brief : Bool) (r : List Byte) (bus ns : Nat) : Option (List Byte) :=
  let stamp := beBytes 8 (ns % 2 ^ 64)
  if recLin r then some (acfMessage 3 (32 + bus) (leBytes 1 (bitsOf (recId r) 5 0) ++ stamp) (recPayload r))
  else if recKind r == 2 then none
  else
    let fd := recKind r == 1
    let flags := 16 * b2n (recRtr r) + 8 * b2n (recIde r) + 4 * b2n (fd && bitOf (recFlags r) 0) + 2 * b2n fd +
      b2n (fd && bitOf (recFlags r) 1)
    let id := beBytes 4 (recIdent r)
    some (if brief then acfMessage 2 flags (leBytes 1 bus ++ id) (recPayload r)
          else acfMessage 1 (32 + flags) (leBytes 1 bus ++ stamp ++ id) (recPayload r))

/-! ### Frames -/

/-- The IEEE 1722 frame of a bundle's messages, its header written at closing. -/
def State.bundleFrame (s : State) (e seq : Nat) (msgs : List Byte) : List Byte :=
  let port := (s.queuePort (buOut e)).getD 0
  let mac := buDa e ++ s.stationMac port
  let tag := if buTagged e then [0x81, 0x00] ++ beBytes 2 (buPcp e * 8192 + buVid e) else []
  let n := msgs.length
  let hdr :=
    if buTscf e then
      [0x05, 0x81] ++ leBytes 1 seq ++ [0x00] ++ beBytes 8 (buStreamId e) ++ beBytes 4 ((s.workNs + buOffset e) % 2 ^ 32) ++
        zeros 4 ++ beBytes 2 n ++ zeros 2
    else
      [0x82] ++ beBytes 2 (0x8000 + n % 2048) ++ leBytes 1 seq ++ beBytes 8 (buStreamId e)
  ethFinish (mac ++ tag ++ [0x22, 0xF0] ++ hdr ++ msgs)

/-- A bundle closes (R307): its frame is enqueued to OUT_QUEUE. -/
def State.bundleClose (s : State) (b : Nat) : State :=
  let v := s.bundle b
  if !v.open_ then s
  else
    let e := s.bundleEntry b
    let f := s.bundleFrame e v.seq v.msgs
    let s := s.setBundle b { seq := (v.seq + 1) % 256 }
    let (live, s) := s.storeFrame 25 s.strand f [{ queue := buOut e, cls := s.queueClass (buOut e) 0, srcChan := 104 }]
    if live.isEmpty then s else s.incSge 15

/-- Put a message into a bundle, which opens and closes as R307 says. -/
def State.bundlePut (s : State) (b : Nat) (m : List Byte) : State :=
  let e := s.bundleEntry b
  if buMax e < m.length then s.incSge 14
  else
    let s := if (s.bundle b).open_ && decide (buMax e < (s.bundle b).msgs.length + m.length) then s.bundleClose b else s
    let v := s.bundle b
    let s := s.setBundle b { v with
      open_ := true, msgs := v.msgs ++ m, until_ := if v.open_ then v.until_ else s.after (usC (buWindow e)) }
    if buWindow e = 0 || s.sge.ending.isSome then s.bundleClose b else s

/-- The bundle whose turn it is: the next enabled one in the round with a message waiting. -/
def State.bundleTurn (s : State) : Option Nat :=
  let ready := ((s.buf.queues.map (·.1)).filter (fun q => decide (800 ≤ q) && s.par (oQueue q) 0x0101 == 25 &&
    buEnable (s.entry (oQueue q)))).map (fun q => q - 799)
  match ready.find? (fun b => decide (s.sge.turn < b)) with
  | some b => some b
  | none => ready.head?

/-- Bundle `b` takes the frame at the head of its queue as a message (R307). -/
def State.bundlerTake (s : State) (b u : Nat) : State :=
  let s := { s with sge := { s.sge with turn := b } }
  match s.takeRead (bundleQueue b) u with
  | none => s
  | some (none, s) => s
  | some (some (d, r), s) =>
    let (bus, s) := s.busId d.srcChan
    match acfOf (buBrief (s.bundleEntry b)) r bus ((s.convert 2 (recStamp r)).1 / 2 ^ 32) with
    | none => s.incSge 14
    | some m => s.bundlePut b m

/-- BUNDLER_TAKE_MESSAGE (R307); `upset` is what the read of the frame meets (R274, R280). -/
def execBundlerTakeMessage (upset : Fin 7) (s : State) : Host.Outcome State Fault Refusal :=
  .next (if s.getF SgeStatus.modeActive == 2 then s
    else
      match s.bundleTurn with
      | none => s
      | some b => s.bundlerTake b upset)

/-- BUNDLE_WINDOW_CLOSE (R307): WINDOW has passed since the bundle opened. -/
def execBundleWindowClose (b : Fin 1249) (s : State) : Host.Outcome State Fault Refusal :=
  .next (if (s.bundle b).open_ then (s.timeTo (s.bundle b).until_).bundleClose b else s)

/-! ### Unbundling (R308) -/

/-- A parsed ACF message: a record with its bus_id, or `none` where it is dropped. -/
def acfParse (m : List Byte) (stamp enh : Nat) : Option (List Byte × Nat) :=
  let typ := beAt m 0 2 / 512
  let flags := leAt m 2 1
  let pad := bitsOf flags 7 6
  let head := match typ with | 1 => 16 | 2 => 8 | _ => 12
  let len := m.length - head - pad
  if m.length < head + pad then none
  else
    let pay := sliceB m head len
    if typ = 3 then
      let id := leAt m 3 1
      if id > 63 || len < 1 || len > 8 then none
      else some (leBytes 4 id ++ [4] ++ leBytes 1 (enh % 2 + 2 * b2n (id == 60 || id == 61)) ++ leBytes 2 len ++
        leBytes 6 stamp ++ [0, 0] ++ pay, bitsOf flags 4 0)
    else
      let fd := bitOf flags 1
      let rtr := bitOf flags 4
      let ide := bitOf flags 3
      let raw := beAt m (head - 4) 4
      let id := bitsOf raw 28 0
      if !lenOk (b2n fd) len || (rtr && (fd || len != 0)) || (!fd && (bitOf flags 2 || bitOf flags 0)) ||
          (!ide && decide (2 ^ 11 ≤ id)) then none
      else some (leBytes 4 (id + b2n ide * 2 ^ 29 + b2n rtr * 2 ^ 30) ++ leBytes 1 (b2n fd) ++
        leBytes 1 (if fd then b2n (bitOf flags 2) + 2 * b2n (bitOf flags 0) else len * 16) ++ leBytes 2 len ++
        leBytes 6 stamp ++ [0, 0] ++ pay, bitsOf (leAt m 3 1) 4 0)

/-- Parse and route the messages of the data that remains; `n` bounds their number. -/
def State.unbundleMsgs (s : State) (stream chan stamp : Nat) (u : Upset) : Nat → List Byte → State
  | 0, _ => s
  | n + 1, d =>
    if d.isEmpty then s
    else
      let len := 4 * (beAt d 0 2 % 512)
      let typ := beAt d 0 2 / 512
      if len = 0 || d.length < len then s.incSge 14
      else
        let s :=
          if typ != 1 && typ != 2 && typ != 3 then s.incSge 14
          else
            let (enh, s) := if typ = 3 then s.draw else (0, s)
            match acfParse (d.take len) stamp enh with
            | none => s.incSge 14
            | some (r, bus) =>
              let s := s.incSge 2
              let route := s.par (oStream stream) ((if typ = 3 then 0x0C20 else 0x0C00) + bus)
              if route = 0 then s.incSge 14
              else s.route_ { record := r, chan := chan, fixed := some route } u
        s.unbundleMsgs stream chan stamp u n (d.drop len)

/-- Parse one frame (R308). -/
def State.unbundleFrame (s : State) (d : Desc) (b : List Byte) (u : Upset) : State :=
  let o := afterTag b + 2
  let sub := leAt b o 1
  let b1 := leAt b (o + 1) 1
  if (sub != 0x82 && sub != 0x05) || !bitOf b1 7 || bitsOf b1 6 4 != 0 then s.incSge 14
  else
    let start := o + (if sub == 0x82 then 12 else 24)
    let len := if sub == 0x82 then beAt b (o + 1) 2 % 2048 else beAt b (o + 20) 2
    let data := ((b.take (b.length - 4)).drop start).take len
    s.unbundleMsgs d.route d.ingress d.stamp u data.length data

/-- UNBUNDLE_FRAME (R308): the oldest frame the feeder handed over; its routes' decisions may meet an upset. -/
def execUnbundleFrame (u : Upset) (s : State) : Host.Outcome State Fault Refusal :=
  .next (match s.sge.unbundle with
    | [] => s
    | d :: rest =>
      let v := s.desc d
      let b := s.frameOf v
      let s := { s with sge := { s.sge with unbundle := rest } }
      (s.finishCopy d).unbundleFrame v b u)

/-! ### The end of a drain (R309) -/

/-- SGE_DRAIN_DONE (R309): DRAIN_DONE is set and the SGE island gated, which loses its state. -/
def execSgeDrainDone (s : State) : Host.Outcome State Fault Refusal :=
  .next (match s.sge.ending with
    | none => s
    | some _ =>
      if !s.sge.ready.isEmpty || !s.sge.running.isEmpty then s
      else
        let s := { s with sge := { unbundle := s.sge.unbundle, orders := s.sge.orders } }
        ((s.setF SgeStatus.busy 0).setF SgeStatus.modeActive 2).sgeEvent 4)

end Sys2Proof.Machine
end

