-- ==== Sys2Proof/Machine/Access.lean ====
section
/-! DEFINITION. What BAR0 reads as, without side effects (R26 to R28, R54, R106, R154, R453, R470): registers, counters and
the areas that hold tables. -/

namespace Sys2Proof.Machine

/-- The counter at a BAR0 offset (R154, R155, R191, R204, R281, R282, R310, R335, R350, R426, R499): its key, and whether the
offset is that of its high word. -/
def ctrAt (a : Nat) : Option (Nat × Bool) :=
  let at_ := fun (o cls base first : Nat) => some (ckey o cls (first + (a - base) / 8), (a / 4) % 2 == 1)
  if 0x200 ≤ a && a < 0x280 then at_ oDeck cQos 0x200 0
  else if 0x380 ≤ a && a < 0x400 then at_ oDeck cSig 0x380 0
  else if 0x780 ≤ a && a < 0x7C0 then at_ oDeck cStore 0x780 0
  else if 0x80000 ≤ a && a < 0xC0000 then
    let n := (a - 0x80000) / 0x1000
    let b := 0x80000 + n * 0x1000
    if 0x100 ≤ a - b && a - b < 0x200 then at_ (oChan (24 + n)) cCan (b + 0x100) 0 else none
  else if 0xC0000 ≤ a && a < 0xD0000 then
    let n := (a - 0xC0000) / 0x1000
    let b := 0xC0000 + n * 0x1000
    if 0x100 ≤ a - b && a - b < 0x180 then at_ (oChan (88 + n)) cLin (b + 0x100) 0 else none
  else if 0x100000 ≤ a && a < 0x158000 then
    let p := (a - 0x100000) / 0x4000
    let b := 0x100000 + p * 0x4000
    if 0x1000 ≤ a - b && a - b < 0x1100 then at_ (oChan p) cEth (b + 0x1000) 0
    else if 0x2008 ≤ a - b && a - b < 0x2010 && p < 20 then at_ (oChan p) cEth (b + 0x2008) 32
    else if 0x3100 ≤ a - b && a - b < 0x3180 && macsecChan p then at_ (oChan p) cSec (b + 0x3100) 0
    else none
  else if 0x200000 ≤ a && a < 0x400000 then
    let q := (a - 0x200000) / 0x400
    let b := 0x200000 + q * 0x400
    if 0x10 ≤ a - b && a - b < 0x50 then at_ (oQueue q) cQos (b + 0x10) 0
    else if 0x110 ≤ a - b && a - b < 0x118 then at_ (oQueue q) cQos (b + 0x110) 100
    else if 0x120 ≤ a - b && a - b < 0x220 then at_ (oQueue q) cQos (b + 0x120) 101
    else none
  else none

/-- A record as 16 bytes (R453). -/
def EvRec.bytes (r : EvRec) : List Byte :=
  leBytes 2 (r.src % 4096 + r.kind % 4 * 4096 + r.deck % 4 * 16384) ++ leBytes 1 r.count ++
  leBytes 1 (b2n r.sat + 2 * b2n r.lost + 4 * b2n r.inj) ++ leBytes 12 r.payload

/-- Is a BAR0 offset in an area of bytes: mailbox request and response areas, TSQ entries, the two logs? -/
def byteArea (a : Nat) : Bool :=
  (decide (0x10000 ≤ a ∧ a < 0x20000) && decide (0x400 ≤ a % 0x1000 ∧ a % 0x1000 < 0xC00)) ||
  (decide (0x100000 ≤ a ∧ a < 0x150000) && decide (0x2100 ≤ a % 0x4000 ∧ a % 0x4000 < 0x2300)) ||
  decide (0x800 ≤ a ∧ a < 0xB00)

/-- The value of a register, the fields that follow other state computed from it: EVQ_STATUS.FILL (R470), WDT_STATUS and FCU_STATUS.RESETS (R541), LP_BLOCKED (R366),
STRAND_LO and STRAND_HI (R338), the histogram registers (R335), the claim that TGT_CLAIM would return (R461). -/
def State.regLive (s : State) (a : Nat) : Nat :=
  if a = StrandLo.off then s.strand % 2 ^ 32
  else if a = StrandHi.off then (tabFind s.ctrLatch a).getD (s.strand / 2 ^ 32)
  else if a = WdtStatus.off then
    setBits (setBits (s.reg a).toNat 8 8 (b2n s.brim.wdClose.isSome)) 9 9
      (b2n (s.brim.wdClose.isSome && decide (s.brim.wdOpen ≤ s.brim.hb)))
  else if a = FcuStatus.off then
    setBits (s.reg a).toNat 22 21 (min (s.brim.faultResets.filter (fun t => s.brim.hb < t + secC 60)).length 3)
  else if a = PwrStatus.off then setBits (s.reg a).toNat 11 11 (b2n (s.lpSpansAsleep && !s.lpRest))
  else if a = TgtClaim.off 0 then (s.evqClaim 3).1
  else if a = TgtClaim.off 1 then (s.evqClaim 4).1
  else if 0x21000 ≤ a && a < 0x22000 && a % 0x40 = 0 then
    setBits (s.reg a).toNat 12 6 (s.evqFill ((a - 0x21000) / 0x40))
  else if 0x200000 ≤ a && a < 0x400000 && 0x100 ≤ a % 0x400 && a % 0x400 ≤ 0x108 then
    s.par (oQueue ((a - 0x200000) / 0x400)) (pidRaw ((a % 0x400 - 0x100) / 4))
  else (s.reg a).toNat

/-- Register blocks of what the ZW8632 lacks (R2, R3): CAN[32] and up, LIN[8] and up, and the queues 184..191, 480..735 and
752..767. -/
def absentBlock (a : Nat) : Bool :=
  let q := (a - 0x200000) / 0x400
  decide (0xA0000 ≤ a ∧ a < 0xC0000) || decide (0xC8000 ≤ a ∧ a < 0xD0000) ||
  (decide (0x200000 ≤ a ∧ a < 0x400000) &&
    (decide (184 ≤ q ∧ q ≤ 191) || decide (480 ≤ q ∧ q ≤ 735) || decide (752 ≤ q ∧ q ≤ 767)))

/-- What a word of BAR0 reads as; a reserved offset reads 0 (R6, R27), and so does a block that the variant lacks (R3). The
diagnostic and table read windows of R26, whose layout no rule gives, read 0 (DESIGN CHOICE, log entry 123). -/
def State.peek (s : State) (a : Nat) : Nat :=
  if a % 4 != 0 || 0x1000000 ≤ a || (s.absentVariant && absentBlock a) then 0
  else
    match ctrAt a with
    | some (k, high) =>
      let v := tabGet ctrDefault s.ctrs k
      if high then (tabFind s.ctrLatch a).getD (v / 2 ^ 32) else v % 2 ^ 32
    | none =>
      if byteArea a then leVal (memReads s.bar0 a 4)
      else if 0x30000 ≤ a && a < 0x40000 then
        let k := (a - 0x30000) / 16
        leAt (s.evRec (k / 64) (k % 64)).bytes (a % 16) 4
      else if (regAt a).isSome then s.regLive a
      else 0

end Sys2Proof.Machine
end

