-- ==== Sys2Proof/Machine/Trestle.lean ====
section
/-! DEFINITION. The Trestle's host side (R474 to R490): flush groups, the two logs, the poller and the host frame rings. -/

namespace Sys2Proof.Machine

def pollDefault (_ : Nat) : PollSt := {}
def State.poll (s : State) (i : Nat) : PollSt := tabGet pollDefault s.store.polls i
def State.setPoll (s : State) (i : Nat) (v : PollSt) : State :=
  { s with store := { s.store with polls := tabSet pollDefault s.store.polls i v } }

/-! ### The two logs (R480) -/

/-- The host moves a log's read pointer (R480): ignored where it would pass the write pointer. -/
def State.logRead (s : State) (wr rd n src w : Nat) : State :=
  let top := (s.reg wr).toNat
  let fill := (top + 2 * n - (s.reg rd).toNat % (2 * n)) % (2 * n)
  if (w % (2 * n) + 2 * n - (s.reg rd).toNat % (2 * n)) % (2 * n) > fill then s
  else
    let s := s.setReg rd (BitVec.ofNat 32 (w % (2 * n)))
    s.level src ((s.reg wr).toNat != w % (2 * n))

/-- IWL_RD_WRITE (R480). -/
def execIwlRdWrite (w : Word) (s : State) : Host.Outcome State Fault Refusal :=
  .next (s.hosted (s.logRead IwlWr.off IwlRd.off 32 0x800 w.toNat))

/-- PDL_RD_WRITE (R480). -/
def execPdlRdWrite (w : Word) (s : State) : Host.Outcome State Fault Refusal :=
  .next (s.hosted (s.logRead PdlWr.off PdlRd.off 16 0x801 w.toNat))

/-! ### Outbound prefetch of transmit descriptors (R474, R475) -/

/-- Bytes that may be read ahead of `a`: 512 at most, inside the window with PREFETCH and the 4 KiB page (R474). -/
def State.prefetchRoom (s : State) (a : Nat) : Nat :=
  ((List.range 16).map (fun i =>
    let w := s.par oDeck (0x9000 + i)
    if windowGrants w a 1 1 && bitOf w 131 then min (min 512 (4096 - a % 4096)) (bitsOf w 127 64 + 1 - a) else 0)).foldl max 0

/-- A sequential read of `n` bytes at `a` for a ring, with data read ahead where `ahead` says so. -/
def State.prefetchRead (s : State) (t a n : Nat) (ahead : Bool) : State :=
  let s := match tabFind s.store.prefetch t with
    | none => s
    | some (b, m) =>
      if b == a && decide (n ≤ m) then
        { s with store := { s.store with prefetch := tabInsert s.store.prefetch t (a + n, m - n) } }
      else s.prefetchDrop t 3
  match tabFind s.store.prefetch t with
  | some (_, m + 1) => let _ := m; s
  | _ =>
    let room := s.prefetchRoom (a + n)
    if ahead && room != 0 then { s with store := { s.store with prefetch := tabInsert s.store.prefetch t (a + n, room) } } else s

/-! ### Flush groups (R477, R478) -/

def fcRing : Nat := 2
def fcBulk : Nat := 3

/-- Issue the flush read of a class's open group. -/
def State.flushIssue (s : State) (cls : Nat) : State :=
  if s.store.groups.any (fun g => g.cls == cls && g.issued.isNone) then
    { s with store := { s.store with groups := s.store.groups.map (fun (g : FlushGroup) =>
        if g.cls == cls && g.issued.isNone then { g with issued := some s.strand } else g) } }.incTr 0
  else s

/-- A write joins its class's open group, opening one where none is; the 16th write closes it. `ring` is the ring whose
descriptor the write writes back. -/
def State.flushWrite (s : State) (cls addr : Nat) (ring : Option Nat) : State :=
  let g := (s.store.groups.find? (fun g => g.cls == cls && g.issued.isNone)).getD { cls := cls, openedAt := s.strand }
  let g := { g with writes := g.writes + 1, addr := addr,
                    rings := match ring with
                      | some r => tabInsert g.rings r (tabGet ctrDefault g.rings r + 1)
                      | none => g.rings }
  let rest := s.store.groups.filter (fun g => !(g.cls == cls && g.issued.isNone))
  let s := { s with store := { s.store with groups := rest ++ [g] } }
  if g.writes ≥ 16 then s.flushIssue cls else s

/-! ### Host rings (R485 to R490) -/

/-- Ring size, and a pointer as a position of 0..2 × size − 1. -/
def State.hrSize (s : State) (r : Nat) : Nat := 64 * 2 ^ min (s.getF (HrCtrl.size r)) 6
def State.hrPos (s : State) (r : Nat) (w : Nat) : Nat := bitsOf w 11 0 + s.hrSize r * b2n (bitOf w 12)
def State.hrHost (s : State) (r : Nat) : Nat := s.hrPos r (s.reg (HrHostPtr.off r)).toNat
def State.hrDev (s : State) (r : Nat) : Nat := s.hrPos r (s.reg (HrDevPtr.off r)).toNat
def State.hrSeen (s : State) (r : Nat) : Nat := s.hrPos r (s.reg (HrSeen.off r)).toNat
/-- How far position `a` is ahead of `b`. -/
def State.hrAhead (s : State) (r a b : Nat) : Nat := (a + 2 * s.hrSize r - b % (2 * s.hrSize r)) % (2 * s.hrSize r)
def State.hrUnconf (s : State) (r : Nat) : Nat := tabGet ctrDefault s.store.unconf r
def State.setUnconf (s : State) (r n : Nat) : State :=
  { s with store := { s.store with unconf := tabSet ctrDefault s.store.unconf r n } }
/-- The descriptor that the device takes next. -/
def State.hrWork (s : State) (r : Nat) : Nat := (s.hrDev r + s.hrUnconf r) % (2 * s.hrSize r)
def State.hrBase (s : State) (r : Nat) : Nat :=
  s.getF (HrBaseLo.addr r) * 32 + (s.reg (HrBaseHi.off r)).toNat * 2 ^ 32

/-- The ring's level source follows HR_DEV_PTR ≠ HR_SEEN (R486). -/
def State.syncRing (s : State) (r : Nat) : State := s.level (0x880 + r) (s.hrDev r != s.hrSeen r)

/-- HR_DROPS saturates. -/
def State.hrDrop (s : State) (r n : Nat) : State :=
  s.setF (HrDrops.drops r) (min (s.getF (HrDrops.drops r) + n) (2 ^ 32 - 1))

/-- Has F[22] a frame of the ring whose descriptor is not yet written back (R489)? -/
def State.hrHolds (s : State) (r : Nat) : Bool := s.store.txHeld.any (fun kv => kv.2.1 == r)

/-- ACTIVE clears once a disabled ring has no descriptor in progress (R486). -/
def State.hrActive (s : State) (r : Nat) : State :=
  if s.flag (HrCtrl.enable r) then s.setFlag (HrStatus.active r) true
  else if s.hrUnconf r = 0 && !s.hrHolds r then s.setFlag (HrStatus.active r) false
  else s

/-- RING_FAULT (R490): the ring stops at its last confirmed descriptor; a receive ring's frames are lost. -/
def State.ringFault (s : State) (r : Nat) : State :=
  let s := if r < 32 then s.hrDrop r (s.hrUnconf r) else s.prefetchDrop (r - 32) 1
  let s := (s.setUnconf r 0).setFlag (HrCtrl.enable r) false
  let s := { s with store := { s.store with txHeld := s.store.txHeld.filter (fun kv => kv.2.1 != r) } }
  let s := { s with store := { s.store with groups := s.store.groups.map (fun (g : FlushGroup) =>
    { g with rings := tabErase g.rings r }) } }
  ((s.setFlag (HrStatus.ringFault r) true).hrActive r).occur (0x8C0 + r)

/-- Confirmed descriptors: HR_DEV_PTR advances (R489). -/
def State.ringConfirm (s : State) (r n : Nat) : State :=
  let n := min n (s.hrUnconf r)
  let p := (s.hrDev r + n) % (2 * s.hrSize r)
  let s := (s.setF (HrDevPtr.index r) (p % s.hrSize r)).setF (HrDevPtr.wrap r) (p / s.hrSize r)
  ((s.setUnconf r (s.hrUnconf r - n)).hrActive r).syncRing r

/-- A group's flush completes, or fails (R478, R490). -/
def State.flushEnd (s : State) (g : FlushGroup) (fails : Bool) : State :=
  let s := { s with store := { s.store with groups := s.store.groups.erase g } }
  if fails then
    g.rings.foldl (fun s kv => s.ringFault kv.1) (s.flushFailed g.addr)
  else g.rings.foldl (fun s kv => s.ringConfirm kv.1 kv.2) s

/-- The oldest issued group of a class. -/
def State.flushOldest (s : State) (cls : Nat) : Option FlushGroup :=
  s.store.groups.find? (fun g => g.cls == cls && g.issued.isSome)

/-- A write of the device into host memory for a ring. -/
def State.ringWrite (s : State) (addr : Nat) (d : List Byte) (ring : Option Nat) : Bool × State :=
  match s.hostWrite addr d with
  | (true, s) => (true, s.flushWrite fcRing (addr + d.length - 1) ring)
  | (false, s) => (false, s)

/-- A frame's data and its writeback go in one flush group (R489): a group with room for one write only is closed before them. -/
def State.flushPair (s : State) : State :=
  if s.store.groups.any (fun g => g.cls == fcRing && g.issued.isNone && decide (15 ≤ g.writes)) then s.flushIssue fcRing else s

/-- The descriptor is written back; its pointer waits for the flush. -/
def State.ringBack (s : State) (r addr : Nat) (d : List Byte) : State :=
  match s.ringWrite addr d (some r) with
  | (true, s) => s.setUnconf r (s.hrUnconf r + 1)
  | (false, s) => (if r < 32 then s.hrDrop r 1 else s).ringFault r

/-- The descriptors of the frames that have been admitted to their queues or dropped are written back (R489). -/
def State.txBacks (s : State) : State :=
  let gone := s.store.txHeld.filter (fun kv => (tabFind s.buf.rx kv.1).isNone)
  gone.foldl (fun (s : State) kv =>
    (State.ringBack { s with store := { s.store with txHeld := tabErase s.store.txHeld kv.1 } } kv.2.1 kv.2.2 [1]).hrActive kv.2.1) s

/-- FLUSH_GROUP_CLOSE (R477): the open group of a class closes, at once where a ring's pointer waits on it and otherwise 1 µs
after its first write. Transmit descriptors that are due are written back first (R489). -/
def execFlushGroupClose (cls : Fin 5) (s : State) : Host.Outcome State Fault Refusal :=
  let s := s.txBacks
  .next (match s.store.groups.find? (fun g => g.cls == cls.val && g.issued.isNone) with
    | none => s
    | some g => (if g.rings.isEmpty then s.timeTo (strandPlus g.openedAt (usC 1)) else s).flushIssue cls)

/-- FLUSH_READ_COMPLETION (R478). -/
def execFlushReadCompletion (cls : Fin 5) (fails : Bool) (s : State) : Host.Outcome State Fault Refusal :=
  .next (match s.flushOldest cls with
    | none => s
    | some g => s.flushEnd g fails)

/-- FLUSH_TIMEOUT (R478): no completion for 10 ms. -/
def execFlushTimeout (cls : Fin 5) (s : State) : Host.Outcome State Fault Refusal :=
  .next (match s.flushOldest cls with
    | none => s
    | some g => (s.timeTo (strandPlus (g.issued.getD 0) (msC 10))).flushEnd g true)

/-- Is a pointer value in the ring's range? -/
def State.hrIndexOk (s : State) (r w : Nat) : Bool := decide (bitsOf w 11 0 < s.hrSize r)

/-- The three pointers in order, with the host's at most one ring ahead (R486). -/
def State.hrOrder (s : State) (r seen dev host : Nat) : Bool :=
  decide (s.hrAhead r host seen ≤ s.hrSize r) && decide (s.hrAhead r dev seen ≤ s.hrAhead r host seen)

/-- The host hands over descriptors (R486): ignored with BAD_PTR where it breaks the order. -/
def State.hrMoveHost (s : State) (r w : Nat) : State :=
  let v := w % 2 ^ 13
  if s.hrIndexOk r v && s.hrOrder r (s.hrSeen r) (s.hrDev r) (s.hrPos r v)
  then s.setReg (HrHostPtr.off r) (BitVec.ofNat 32 v) else s.setFlag (HrStatus.badPtr r) true

/-- The host has finished with descriptors (R486). -/
def State.hrMoveSeen (s : State) (r w : Nat) : State :=
  let v := w % 2 ^ 13
  if s.hrIndexOk r v && s.hrOrder r (s.hrPos r v) (s.hrDev r) (s.hrHost r)
  then (s.setReg (HrSeen.off r) (BitVec.ofNat 32 v)).syncRing r else s.setFlag (HrStatus.badPtr r) true

/-- Neither in use nor with a descriptor in progress: base and size may change (R486). -/
def State.hrFree (s : State) (r : Nat) : Bool := !s.flag (HrCtrl.enable r) && !s.flag (HrStatus.active r)

/-- A write of HR_CTRL (R486). -/
def State.hrControl (s : State) (r w : Nat) : State :=
  let s := if s.hrFree r then s.setF (HrCtrl.size r) (min (bitsOf w 3 1) 6) else s
  let s := (s.setFlag (HrCtrl.enable r) (bitOf w 0)).hrActive r
  if !bitOf w 0 && 32 ≤ r then s.prefetchDrop (r - 32) 1 else s

/-- HR_HOST_PTR_WRITE (R486): receive rings 0..31, transmit rings 32..63. -/
def execHrHostPtrWrite (r : Fin 64) (w : Word) (s : State) : Host.Outcome State Fault Refusal :=
  .next (s.hosted (s.hrMoveHost r w.toNat))

/-- HR_SEEN_WRITE (R486). -/
def execHrSeenWrite (r : Fin 64) (w : Word) (s : State) : Host.Outcome State Fault Refusal :=
  .next (s.hosted (s.hrMoveSeen r w.toNat))

/-- HR_CTRL_WRITE (R486). -/
def execHrCtrlWrite (r : Fin 64) (w : Word) (s : State) : Host.Outcome State Fault Refusal :=
  .next (s.hosted (s.hrControl r w.toNat))

/-- A ring that the device may serve: enabled, with a descriptor, over a host link that is up. -/
def State.hrReady (s : State) (r : Nat) : Bool :=
  s.flag (HrCtrl.enable r) && s.hrWork r != s.hrHost r && s.hostReach && !s.hrHolds r

/-- Address of the descriptor that the device takes next. -/
def State.hrDescAddr (s : State) (r : Nat) : Nat := s.hrBase r + s.hrWork r % s.hrSize r * 32

/-- The device's part of a receive descriptor (R487). INGRESS of a composed PDU, which entered on no Channel, is a free
value. -/
def State.rxWriteback (s : State) (d : Desc) (len : Nat) : List Byte × State :=
  let rec_ := d.ingress == 24
  let (v, s) := if rec_ && 104 ≤ d.srcChan then s.draw else (if rec_ then d.srcChan else d.ingress, s)
  (leBytes 2 len ++ leBytes 1 v ++
    leBytes 1 (1 + 2 * b2n d.authFail + 4 * b2n rec_ + 8 * b2n d.yellow + 16 * b2n d.srcDeck.isSome) ++
    leBytes 6 d.stamp ++ leBytes 2 (if rec_ then d.route % 2 ^ 14 else 0) ++ leBytes 1 (d.srcDeck.getD s.ownDeck) ++ zeros 7, s)

/-- While F[22] is shed, a frame's time on the port passes and its credit falls (R376, R318). -/
def State.hostShed (s : State) (d : Desc) (len : Nat) : State :=
  if s.shedding 22 then ((s.creditSync 22).pass (s.bitCycles 22 ((len + 20) * 8))).hostCredit (!s.shedExempt d.cls d) else s

/-- May the frame at the head of a receive ring's queue pass the shedding shaper (R376)? -/
def State.hostMay (s : State) (q : Nat) : Bool :=
  match s.queue q with
  | [] => false
  | d :: _ => !s.shedding 22 || s.shedExempt (s.desc d).cls (s.desc d) || decide (s.credit 22 8 ≥ 0)

/-- A frame of a receive ring's queue goes to host memory and its descriptor is written back (R487). -/
def State.hrDeliver (s : State) (q u : Nat) : State :=
  let r := q - 768
  let a := s.hrDescAddr r
  match s.hostRead a 32 with
  | (none, s) => s.ringFault r
  | (some desc, s) =>
    match s.takeRead q u with
    | none => s
    | some (none, s) => s
    | some (some (d, b), s) =>
      let s := s.hostShed d b.length
      if leAt desc 8 4 < b.length then s.hrDrop r 1
      else
        match s.flushPair.ringWrite (leAt desc 0 8) b none with
        | (false, s) => (s.hrDrop r 1).ringFault r
        | (true, s) =>
          let (w, s) := s.rxWriteback d b.length
          s.ringBack r (a + 12) w

/-- The queues of the receive rings. -/
def hrQueues : List Nat := (List.range 32).map (fun r => 768 + r)

/-- The receive-ring queue that F[22] serves (R315, R487): every queue that holds a copy is a candidate, and of those the choice is among
the queues whose rings the device may serve. -/
def State.hostSelect (s : State) : Option Nat × State :=
  let s := s.tagAll 22 hrQueues (hrQueues.filter (fun q => !(s.queue q).isEmpty))
  match s.wfqPick 22 (hrQueues.filter (fun q => s.hostMay q && s.hrReady (q - 768))) with
  | none => (none, s)
  | some q => (some q, s.wfqServed 22 q)

/-- HOST_RX_DELIVER (R487, R253, R315): F[22] serves one frame of the receive-ring queue that its selection names; `upset` is what the
read of the frame meets (R274, R280). -/
def execHostRxDeliver (upset : Fin 7) (s : State) : Host.Outcome State Fault Refusal :=
  .next (match (s.creditSync 22).hostSelect with
    | (none, s) => s
    | (some q, s) => s.hrDeliver q upset)

/-- The transmit ring that is served next: round robin (R488). -/
def State.txRing (s : State) : Option Nat :=
  let order := (List.range 32).map (fun i => (s.store.txTurn + 1 + i) % 32)
  order.find? (fun t => s.hrReady (32 + t))

/-- A transmit descriptor that may be sent (R488). -/
def txDescOk (d : List Byte) : Bool :=
  decide (1 ≤ leAt d 8 2 ∧ leAt d 8 2 ≤ 9212) && bitsOf (leAt d 10 1) 2 1 != 3 && bitsOf (leAt d 10 1) 7 3 == 0 &&
  leAt d 14 16 == 0 && leAt d 30 2 == 0

/-- A transmit ring's descriptor is fetched and its frame read and passed on (R488); one that may not be sent is written back at once. -/
def State.txTake (s : State) (t : Nat) (ahead : Bool) : State :=
  let r := 32 + t
  let s := { s with store := { s.store with txTurn := t } }
  let a := s.hrDescAddr r
  match s.hostRead a 32 with
  | (none, s) => s.ringFault r
  | (some d, s) =>
    let s := s.prefetchRead t a 32 ahead
    if !txDescOk d then s.ringBack r (a + 11) [3]
    else
      match s.hostRead (leAt d 0 8) (leAt d 8 2) with
      | (none, s) => s.ringFault r
      | (some b, s) =>
        let ts := if bitOf (leAt d 10 1) 0 then some (leAt d 12 2, bitsOf (leAt d 10 1) 2 1) else none
        let s := { s with store := { s.store with txHeld := tabInsert s.store.txHeld s.buf.rxSerial (r, a + 11) } }
        s.rxPush 22 (ethFinish b) true false ts

/-- HOST_TX_DESCRIPTOR_FETCH (R488, R489). Descriptors whose frames have left F[22] are written back first. `ahead` says whether the device reads ahead where a window allows it (R474). -/
def execHostTxDescriptorFetch (ahead : Bool) (s : State) : Host.Outcome State Fault Refusal :=
  let s := s.txBacks
  .next (match s.txRing with
    | none => s
    | some t => s.txTake t ahead)

/-! ### Poller (R483, R484) -/

def plSpace (v : Nat) : Nat := bitsOf v 7 0
def plMode (v : Nat) : Nat := bitsOf v 15 8
def plDeck (v : Nat) : Nat := bitsOf v 23 16
def plEnable (v : Nat) : Bool := bitOf v 24
def plAddress (v : Nat) : Nat := bitsOf v 63 32
def plMask (v : Nat) : Nat := bitsOf v 95 64
def plValue (v : Nat) : Nat := bitsOf v 127 96
def plPeriod (v : Nat) : Nat := bitsOf v 159 128

/-- The bits of `a` that `m` selects. -/
def maskWord (a m : Nat) : Nat := a &&& m

/-- A committed slot starts afresh: its first read a PERIOD after the epoch switch. -/
def State.pollStart (s : State) (i : Nat) : State :=
  let v := s.par oDeck (0x9100 + i)
  s.setPoll i (if plEnable v then { due := some (s.after (usC (plPeriod v))) } else {})

/-- POLL_DUE (R484): the slot's read is issued, or skipped while the last one is outstanding. -/
def execPollDue (i : Fin 64) (s : State) : Host.Outcome State Fault Refusal :=
  let p := s.poll i
  .next (match p.due with
    | none => s
    | some d =>
      let s := s.timeTo d
      let p := { p with due := some (strandPlus d (usC (plPeriod (s.par oDeck (0x9100 + i.val))))) }
      if p.busy then (s.setPoll i p).incTr 6 else s.setPoll i { p with busy := true })

/-- A value that a poll slot read: the base is kept, and a match, a mismatch or a change raises the slot's event (R484). -/
def State.pollTaken (s : State) (i x : Nat) : State :=
  let v := s.par oDeck (0x9100 + i)
  let m := maskWord x (plMask v)
  let eq := m == plValue v
  let raise := match (s.poll i).base with
    | none => (plMode v == 1 && eq) || (plMode v == 2 && !eq)
    | some b => if plMode v == 0 then m != b else (eq == (plMode v == 1)) && ((b == plValue v) != eq)
  let s := s.setPoll i { s.poll i with base := some m }
  if raise then s.occur (0x840 + i) x else s

/-- POLL_READ_COMPLETE (R484). A slot of SPACE 0 reads BAR0 itself; the other spaces' values come with the command. -/
def execPollReadComplete (i : Fin 64) (fails : Bool) (value : Word) (s : State) : Host.Outcome State Fault Refusal :=
  let p := s.poll i
  let v := s.par oDeck (0x9100 + i.val)
  .next (if !p.busy then s
    else
      let s := s.setPoll i { p with busy := false }
      if fails then s.occur (0x840 + i) 0xFFFFFFFF
      else s.pollTaken i (if plSpace v == 0 then s.peek (plAddress v) else value.toNat))

end Sys2Proof.Machine
end

