-- ==== Sys2Proof/Machine/Storage.lean ====
section
/-! DEFINITION. The storage service and the trip recorder (R491 to R497), with the commands of the STORE class but
STAGE_IMAGE. -/

namespace Sys2Proof.Machine

/-! ### Access -/

/-- STATE of R497. -/
def ssDetached : Nat := 0
def ssAttaching : Nat := 1
def ssAttached : Nat := 2
def ssDetaching : Nat := 3
def ssFailed : Nat := 4

/-- STATE changes: STORE_STATE (R498). -/
def State.setStore (s : State) (st : Nat) : State :=
  if s.store.state == st then s
  else ({ s with store := { s.store with state := st } }).occur 0x803 st

def State.recFirst (s : State) : Nat := s.par oDeck 0x4200
def State.recCount (s : State) : Nat := s.par oDeck 0x4201
def State.stageFirst (s : State) : Nat := s.par oDeck 0x4202
def State.stageCount (s : State) : Nat := s.par oDeck 0x4203
def State.xtsSlot (s : State) : Nat := s.par oDeck 0x1600

/-- XTS_SLOT names a slot that firmware may use for storage (R415, R493). -/
def State.xtsOk (s : State) : Bool :=
  decide (s.xtsSlot < 2048) && s.slotUsable s.xtsSlot usXts [3, 4] && bitOf (s.slot s.xtsSlot).callers 8

/-- One data unit per LBA, or one for a block, under XTS_SLOT (R493, R496). -/
def State.xts (s : State) (enc : Bool) (unit lba : Nat) (d : List Byte) : List Byte :=
  Config.aesMode (if enc then 5 else 6) unit (s.slot s.xtsSlot).key (leBytes 16 lba) [] d

/-- The Hatbox's STORE class serves the quanta of an XTS job of the storage service (R427, R493). -/
def State.storeQuanta (s : State) (bytes : Nat) : State := s.addCtr oDeck cSec 4 (ceilDiv bytes 512)

/-- Do two ranges of LBAs meet? -/
def lbaMeet (a n b m : Nat) : Bool := decide (a < b + m) && decide (b < a + n) && decide (0 < n) && decide (0 < m)

/-! ### The recorder (R496) -/

def recorderRoom : Nat := 16777216

/-- Recorder blocks on their way to the device. -/
def State.recInFlight (s : State) : Nat := (s.store.nvme.filter (fun c => c.ticket.isNone)).length

/-- The stops that wait complete with status `st`. -/
def State.endStops (s : State) (st : Nat) : State :=
  s.store.stopping.foldl (fun (s : State) (ct : Nat × Nat) => s.finishTicket ct.1 ct.2 st [])
    { s with store := { s.store with stopping := [] } }

/-- A stop completes when every block has been written. -/
def State.recStopped (s : State) : State :=
  if s.store.recBytes.isEmpty && s.recInFlight == 0 then s.endStops stDone else s

/-- The 32-byte header of a block. -/
def State.blockHeader (s : State) (first : Nat) : List Byte :=
  leBytes 4 0x5A575243 ++ leBytes 1 s.ownDeck ++ leBytes 1 (b2n s.store.gapBlock) ++ leBytes 2 first ++ leBytes 8 s.store.seq ++
  leBytes 4 (s.gci.epoch) ++ leBytes 6 s.strand ++ zeros 6

/-- RECORDER_BLOCK_CLOSE's effect: the block is padded with zeros, waits in BAR2, is encrypted and written. -/
def State.blockClose (s : State) : State :=
  let v := s.store
  let body := sliceB v.recBytes 0 4064
  let first := match v.recStarts with
    | o :: _ => if o < 4064 then 32 + o else 0xFFFF
    | [] => 0xFFFF
  let blk := s.blockHeader first ++ body
  let n := if v.lbaSize = 0 then 1 else 4096 / v.lbaSize
  let lba := v.nextLba
  let next := lba + n
  let wraps := decide (next + n > s.recFirst + s.recCount)
  let s := { s with
    bar2 := memWrites s.bar2 (0x02000000 + v.seq % 4096 * 4096) blk,
    out := .nvme 1 lba n (s.xts true 4096 lba blk) :: s.out,
    store := { v with
      seq := v.seq + 1, nextLba := if wraps then s.recFirst else next, gapBlock := false,
      recBytes := v.recBytes.drop 4064,
      recStarts := (v.recStarts.filter (fun o => decide (4064 ≤ o))).map (fun o => o - 4064),
      nvme := v.nvme ++ [({ write := true, lba := lba, count := n } : NvmeCmd)] } }
  let s := s.storeQuanta 4096
  if !wraps then s
  else
    let s := if s.par oDeck 0x1601 == 0 then
        { s with store := { s.store with recording := false, recBytes := [], recStarts := [] } }
      else s
    s.occur 0x805

/-- Close blocks until `n` are closed or nothing is left. -/
def State.blocksClose (s : State) : Nat → State
  | 0 => s
  | n + 1 => if s.store.recBytes.isEmpty then s else s.blockClose.blocksClose n

/-- The recorder stops: its current block and every buffered one are written. -/
def State.recStop (s : State) : State :=
  let s := { s with store := { s.store with recording := false } }
  s.blocksClose (s.store.recBytes.length / 4064 + 1)

/-- A copy is appended to the open block, or lost and marked where there is no room (R496). -/
def State.recTake (s : State) (d : Desc) (b : List Byte) : State :=
  let v := s.store
  let len := 16 + ceilDiv b.length 8 * 8
  if s.recInFlight * 4096 + v.recBytes.length + len > recorderRoom then
    (({ s with store := { v with gapRec := true, gapBlock := true } }).incTr 7).occur 0x804
  else
    let rec_ := d.ingress == 24
    let h := leBytes 6 d.stamp ++ leBytes 1 (if rec_ then d.srcChan else d.ingress) ++ leBytes 1 (b2n rec_) ++
      leBytes 2 b.length ++ leBytes 2 (if rec_ then d.route else 0) ++ leBytes 1 (b2n v.gapRec) ++ zeros 3
    { s with store := { v with recBytes := v.recBytes ++ h ++ padTo 8 b,
                               recStarts := v.recStarts ++ [v.recBytes.length], gapRec := false } }

/-- RECORDER_COPY_CONSUME (R496): the copy at the head of queue 184; `upset` is what its read meets (R274, R280). -/
def execRecorderCopyConsume (upset : Fin 7) (s : State) : Host.Outcome State Fault Refusal :=
  .next (match s.takeRead 184 upset with
    | none => s
    | some (none, s) => s
    | some (some (d, b), s) =>
      if !s.store.recording then s
      else s.recTake d b)

/-- RECORDER_BLOCK_CLOSE (R496): a full block. -/
def execRecorderBlockClose (s : State) : Host.Outcome State Fault Refusal :=
  .next (if s.store.recording && decide (4064 ≤ s.store.recBytes.length) then s.blockClose else s)

/-! ### NVMe completions, link and health (R492, R493, R497) -/

/-- Running STORE commands complete ABORTED (R435, R492). -/
def State.storeAbort (s : State) : State :=
  let cs := s.store.nvme.filterMap (·.ticket)
  let staging := s.store.staging
  let s := { s with store := { s.store with nvme := s.store.nvme.filter (fun c => c.ticket.isNone), staging := none } }
  let s := match staging with
    | some (c, t) => s.finishTicket c t stAborted []
    | none => s
  (cs.foldl (fun s ct => s.finishTicket ct.1 ct.2 stAborted []) s).endStops stAborted

/-- The storage link goes down. -/
def State.storeLinkOff (s : State) : State :=
  let s := (s.setF TrStatus.storeGen 0).setF TrStatus.storeWidth 0
  { s with store := { s.store with
      recording := false, recBytes := [], recStarts := [], nvme := [], healthAt := none, located := false } }

/-- Data that a read brings, decrypted LBA by LBA where XTS is set. -/
def State.readLbas (s : State) (c : NvmeCmd) (d : List Byte) : List Byte :=
  (List.range c.count).flatMap (fun i =>
    let u := sliceB d (i * s.store.lbaSize) s.store.lbaSize
    if c.xts then s.xts false s.store.lbaSize (c.lba + i) u else u)

/-- A command of the recorder or of a client has completed (R493). -/
def State.nvmeDone (s : State) (c : NvmeCmd) (fault : Nat) (data : List Byte) : State :=
  match c.ticket with
  | none => s.recStopped
  | some (cl, t) =>
    if fault == 1 then s.finishTicket cl t stFlashError []
    else if c.write then s.finishTicket cl t stDone []
    else
      let s := if c.xts then s.storeQuanta (c.count * s.store.lbaSize) else s
      let d := s.readLbas c data
      match s.jobWrite cl c.seg (c.addr + 16) d with
      | (false, s) => s.finishTicket cl t stBulkFailed []
      | (true, s) =>
        if fault == 2 && !c.seg then (s.flushFailed (c.addr + 15 + d.length)).finishTicket cl t stBulkFailed []
        else s.finishTicket cl t stDone []

/-- NVME_COMMAND_COMPLETE (R493): the `i`-th command in flight completes, `fault` 0 with a read's data, 1 with a media error, or 2 with
a read's data whose flush in host memory fails (R478). Nothing crosses the storage link while its Lane is gated (R23): the command waits
until the Lane is powered. -/
def execNvmeCommandComplete (i : Fin 64) (fault : Fin 3) (data : List Byte) (s : State) : Host.Outcome State Fault Refusal :=
  .next (match if s.store.laneGated then none else s.store.nvme[i.val]? with
    | none => s
    | some c =>
      State.nvmeDone { s with store := { s.store with nvme := s.store.nvme.erase c } } c fault.val data)

/-- STORAGE_LINK_DOWN (R492). -/
def execStorageLinkDown (s : State) : Host.Outcome State Fault Refusal :=
  .next (if s.store.state == ssDetached || s.absentVariant then s else (s.storeAbort.storeLinkOff).setStore ssFailed)

/-- HEALTH_LOG_POLL (R497): CRIT_WARN, PCT_USED, TEMP and MEDIA_ERRORS as the device reports them. -/
def execHealthLogPoll (critWarn pctUsed : Byte) (temp : BitVec 16) (mediaErrors : BitVec 64) (s : State) :
    Host.Outcome State Fault Refusal :=
  .next (match s.store.healthAt with
    | none => s
    | some d =>
      let s := s.timeTo d
      let s := { s with store := { s.store with
        critWarn := critWarn.toNat, pctUsed := pctUsed.toNat, temp := temp.toNat, mediaErrors := mediaErrors.toNat,
        healthAt := some (strandPlus d (secC 10)) } }
      if critWarn.toNat != 0 then s.occur 0x806 else s)

/-! ### The commands (R492, R493, R496, R497) -/

/-- The storage service and its commands are absent on the ZW8632 (R2, R3). -/
def State.storeBody (s : State) (f : State → Resp × State) : Resp × State :=
  if s.absentVariant then s.answer stAbsentObject else f s

/-- STORE.ATTACH (R492). -/
def bodyStoreAttach : Body := fun c s => s.storeBody (fun s =>
  if !c.payload.isEmpty then s.answer stBadLength
  else if s.store.state != ssDetached && s.store.state != ssFailed then s.answer stWrongState
  else (s.setStore ssAttaching).pend c [])

/-- The end of STORE.ATTACH: outcome 0 brings generation, width, LBA size (2 bytes) and the namespace's LBAs (8 bytes);
any other says that no device trains. -/
def State.attachEnd (s : State) (client num : Nat) (e : Ext) : State :=
  let fail := fun (st : Nat) => (s.setStore ssFailed).finishTicket client num st []
  let size := leAt e.data 2 2
  let lbas := leAt e.data 4 8
  if e.code.val != 0 then fail stNotFound
  else if size != 512 && size != 4096 then fail stWrongState
  else if lbas < s.recFirst + s.recCount || lbas < s.stageFirst + s.stageCount then fail stBadValue
  else
    let s := (s.setF TrStatus.storeGen (min (leAt e.data 0 1) (s.par oDeck 0x1602))).setF TrStatus.storeWidth (leAt e.data 1 1)
    let s := { s with store := { s.store with
      lbaSize := size, nsLbas := lbas, healthAt := some (s.after (secC 10)) } }
    (s.setStore ssAttached).finishTicket client num stDone []

/-- The recorder stops, with FORCE the device's commands are aborted, and the device is DETACHING (R492). -/
def State.detachStart (s : State) (force : Bool) : State :=
  let s := if s.store.recording then s.recStop else s
  let s := if force then s.storeAbort else s
  s.setStore ssDetaching

/-- STORE.DETACH (R492). -/
def bodyStoreDetach : Body := fun c s => s.storeBody (fun s =>
  if c.payload.length != 4 then s.answer stBadLength
  else if 1 < leAt c.payload 0 4 then s.answer stBadValue
  else if s.store.state != ssAttached then s.answer stWrongState
  else
    (s.detachStart (leAt c.payload 0 4 = 1)).pend c [])

/-- The end of STORE.DETACH: the device has shut down, or 10 s have passed. -/
def State.detachEnd (s : State) (client num : Nat) : State :=
  (((s.storeAbort.storeLinkOff).setStore ssDetached).finishTicket client num stDone [])

/-- The header and data of a STORE.READ or STORE.WRITE buffer (R493): LBA, COUNT and XTS. -/
def State.storeHeader (s : State) (b : Bulk) (h : List Byte) : Except Nat (Nat × Nat × Bool) :=
  let lba := leAt h 0 8
  let n := leAt h 8 4
  let fl := leAt h 12 4
  if fl > 1 || b.len != 16 + n * s.store.lbaSize then .error stBadValue
  else if fl = 1 && !s.xtsOk then .error stPolicyDenied
  else if s.store.nsLbas < lba + n then .error stBadValue
  else .ok (lba, n, fl = 1)

/-- The common start of STORE.READ and STORE.WRITE. -/
def State.storeIo (s : State) (c : Ctx) (dir : Nat) (f : State → Bulk → List Byte → Nat → Nat → Bool → Resp × State) :
    Resp × State :=
  match c.bulk with
  | none => s.answer stBadLength
  | some b =>
    if !b.ok [dir] then s.answer stBadValue
    else if s.store.state != ssAttached then s.answer stWrongState
    else
      match s.bulkRead c b with
      | (none, s) => s.answer stBulkFailed
      | (some d, s) =>
        match s.storeHeader b d with
        | .error e => s.answer e
        | .ok (lba, n, x) => f s b d lba n x

/-- The read of a STORE.READ is given to the device under a ticket. -/
def State.readStart (s : State) (c : Ctx) (b : Bulk) (lba n : Nat) (x : Bool) : Resp × State :=
  let (r, s) := s.pend c []
  (r, { s with
    out := .nvme 2 lba n [] :: s.out,
    store := { s.store with nvme := s.store.nvme ++
      [({ ticket := some (c.client, r.ticket), write := false, lba := lba, count := n, xts := x, addr := b.addr,
          seg := b.seg } : NvmeCmd)] } })

/-- STORE.READ (R493). -/
def bodyStoreRead : Body := fun c s => s.storeBody (fun s => s.storeIo c 2 (fun s b _ lba n x => s.readStart c b lba n x))

/-- LBAs that the running recorder or a running staging uses (R493). -/
def State.lbaBusy (s : State) (lba n : Nat) : Bool :=
  (s.store.recording && lbaMeet lba n s.recFirst s.recCount) || (s.store.staging.isSome && lbaMeet lba n s.stageFirst s.stageCount)

/-- The write of a STORE.WRITE is given to the device under a ticket: the buffer's data behind its header, encrypted with XTS. -/
def State.writeStart (s : State) (c : Ctx) (d : List Byte) (lba n : Nat) (x : Bool) : Resp × State :=
  let data := (List.range n).flatMap (fun i =>
    let u := sliceB d (16 + i * s.store.lbaSize) s.store.lbaSize
    if x then s.xts true s.store.lbaSize (lba + i) u else u)
  let s := if x then s.storeQuanta (n * s.store.lbaSize) else s
  let (r, s) := s.pend c []
  (r, { s with
    out := .nvme 1 lba n data :: s.out,
    store := { s.store with nvme := s.store.nvme ++
      [({ ticket := some (c.client, r.ticket), write := true, lba := lba, count := n } : NvmeCmd)] } })

/-- STORE.WRITE (R493). -/
def bodyStoreWrite : Body := fun c s => s.storeBody (fun s => s.storeIo c 0 (fun s _ d lba n x =>
  if s.lbaBusy lba n then s.answer stWrongState else s.writeStart c d lba n x))

/-- Where the recorder goes on: at the region's start with `fresh`, where it is known to stand, or where firmware finds the block
with the highest SEQ; what it finds on the device is a free value (R496). -/
def State.recLocate (s : State) (fresh : Bool) : State :=
  let n := if s.store.lbaSize = 0 then 1 else 4096 / s.store.lbaSize
  if fresh then { s with store := { s.store with seq := 0, nextLba := s.recFirst } }
  else if s.store.located then s
  else
    let (q, s) := s.draw
    let (b, s) := s.draw
    { s with store := { s.store with seq := q % 2 ^ 64, nextLba := s.recFirst + b % (s.recCount / n) * n } }

/-- STORE.RECORDER_START (R496). Where firmware has to find the block with the highest SEQ, what it finds on the device is a
free value. -/
def bodyRecorderStart : Body := fun c s => s.storeBody (fun s =>
  if c.payload.length != 4 then s.answer stBadLength
  else if 1 < leAt c.payload 0 4 then s.answer stBadValue
  else if s.store.state != ssAttached || s.recCount == 0 then s.answer stWrongState
  else if !s.xtsOk then s.answer stPolicyDenied
  else
    let s := s.recLocate (leAt c.payload 0 4 = 1)
    ({ s with store := { s.store with recording := true, located := true } }).answer stDone)

/-- STORE.RECORDER_STOP (R496). -/
def bodyRecorderStop : Body := fun c s => s.storeBody (fun s =>
  if !c.payload.isEmpty then s.answer stBadLength
  else
    let s := s.recStop
    if s.recInFlight == 0 then s.answer stDone
    else
      let (r, s) := s.pend c []
      (r, { s with store := { s.store with stopping := s.store.stopping ++ [(c.client, r.ticket)] } }))

/-- STORE.HEALTH (R497). -/
def bodyStoreHealth : Body := fun c s => s.storeBody (fun s =>
  if !c.payload.isEmpty then s.answer stBadLength
  else
    let v := s.store
    s.answer stDone (leBytes 1 v.state ++ leBytes 1 (s.getF TrStatus.storeGen + 16 * s.getF TrStatus.storeWidth) ++
      leBytes 1 v.critWarn ++ leBytes 1 v.pctUsed ++ leBytes 2 v.temp ++ leBytes 2 v.lbaSize ++ leBytes 8 v.nsLbas ++
      leBytes 8 v.mediaErrors ++ leBytes 8 v.seq))

end Sys2Proof.Machine
end

