-- ==== Sys2Proof/Machine/Causeway.lean ====
section
/-! DEFINITION. The windowed watchdog (R533, R49), lockstep mismatches (R527), the Causeway's repeaters (R536 to R540) and the
loss of VCC5 (R545). -/

namespace Sys2Proof.Machine

/-! ### Watchdog -/

/-- A watchdog expiry resets the Crown die (R31, R533); the reset counts towards the firmware slot that was
booted, if one was (R49). -/
def State.watchdogReset (s : State) : State :=
  let g := s.getF DeckBootStatus.stage
  let booted := g == 5 || g == 6 || g == 7 || g == 8 || g == 11
  let slot := s.getF DeckBootStatus.fwSlot
  let f := if slot = 0 then DeckBootStatus.attemptsA else DeckBootStatus.attemptsB
  let n := s.getF f
  let fromSlot := s.fw.fromSlot
  let s := s.crownReset DeckResetCause.watchdog
  if !booted then s else (if fromSlot then s.setF f (min (n + 1) 3) else s).bootFail 0x22

/-- WATCHDOG_SERVICE (R533): firmware writes a token, with or without HOLD; `fails`: the transfer over the Hatpin link fails four
times running (R12), and the Brim die sees no service. -/
def execWatchdogService (token : Byte) (hold fails : Bool) (s : State) : Host.Outcome State Fault Refusal :=
  .next (if fails then s.hatpinDown else match s.brim.wdClose with
    | none => s
    | some _ =>
      if token.toNat != s.getF WdtStatus.nextToken || s.brim.hb < s.brim.wdOpen then s.watchdogReset
      else ((s.setF WdtStatus.nextToken (Config.watchdogNext token.toNat % 256)).watchdogWindow false hold).faultFall 12)

/-- WATCHDOG_EXPIRY (R533): no service by CLOSE, or by BOOT for the first. -/
def execWatchdogExpiry (s : State) : Host.Outcome State Fault Refusal :=
  .next (match s.brim.wdClose with
    | none => s
    | some d => (s.hbTo d).watchdogReset)

/-- WATCHDOG_WARNING (R533): 75% of CLOSE has passed without a service. -/
def execWatchdogWarning (s : State) : Host.Outcome State Fault Refusal :=
  .next (match s.brim.wdWarnAt with
    | none => s
    | some d =>
      let s := { s.hbTo d with brim := { (s.hbTo d).brim with wdWarnAt := none } }
      s.faultRise 12)

/-- LOCKSTEP_MISMATCH (R527, R446): core pair 0 Milliner A, 1 Milliner B, 2 the Hatbox's. -/
def execLockstepMismatch (pair : Fin 3) (s : State) : Host.Outcome State Fault Refusal :=
  .next (if pair.val = 2 then s.hbxLock else s.faultRise (9 + pair))

/-! ### Repeaters -/

def cwAge (v : Nat) : Nat := bitsOf v 15 8

/-- Counters of R540 by pair: 0 REPEATED_AB, 1 REPEATED_BA, 2 DROPPED, 3 BUS_OFFS. -/
def State.incCw (s : State) (p i : Nat) : State :=
  let k := p * 4 + i
  { s with brim := { s.brim with
      cwCtrs := tabSet ctrDefault s.brim.cwCtrs k (min (tabGet ctrDefault s.brim.cwCtrs k + 1) (2 ^ 64 - 1)) } }

/-- The repeater acts on its buses: it owns the pair, which is enabled (R537), VCC5 is there, and the device is neither Parked nor Listening (R374). -/
def State.cwActive (s : State) (p : Nat) : Bool :=
  (s.repeater p).owns && cwEnable (s.cwPar p) && s.brim.vcc5 && s.brim.power != pwParked && s.brim.power != pwListening && s.brim.power != pwOff

/-- Direction of a repeater: `false` A to B. -/
def Repeater.dir (r : Repeater) (ba : Bool) : RepeatDir := if ba then r.ba else r.ab
def Repeater.setDir (r : Repeater) (ba : Bool) (d : RepeatDir) : Repeater := if ba then { r with ba := d } else { r with ab := d }

/-- A pass entry matches ID and IDE with its direction bit (R538). -/
def State.cwPasses (s : State) (p : Nat) (ba ide : Bool) (id : Nat) : Bool :=
  (List.range 32).any (fun i =>
    let e := bitsOf (s.nvmPar (0x8010 + p * 2 + i / 16)) (i % 16 * 32 + 31) (i % 16 * 32)
    bitOf e (if ba then 31 else 30) && bitOf e 29 == ide && bitsOf e 28 0 == id)

/-- Drop the frames at the head that are older than AGE. -/
def State.cwAged (s : State) (p : Nat) (ba : Bool) : Nat → State
  | 0 => s
  | n + 1 =>
    let d := (s.repeater p).dir ba
    match d.fifo with
    | (_, t) :: rest =>
      if t + msC (cwAge (s.cwPar p)) < s.brim.hb then
        ((s.setRepeater p ((s.repeater p).setDir ba { d with fifo := rest, attempts := 0 })).incCw p 2).cwAged p ba n
      else s
    | [] => s

/-- The transceivers of an owned pair are in normal mode under Causeway control while VCC5 is there (R36). -/
def State.cwXcvrs (s : State) (p : Nat) : State :=
  if (s.repeater p).owns && s.brim.vcc5 then (s.setF (CanStatus.xcvrMode (2 * p)) 0).setF (CanStatus.xcvrMode (2 * p + 1)) 0
  else s

/-- Does the configuration in force hold a CHANNEL record for a Channel (R39; log entry 36)? -/
def State.chanRecord (s : State) (c : Nat) : Bool := s.fw.chanRecords.contains c

/-- First-light, or a commit, holds CHANNEL records for the Channels `l`; those of Causeway pairs are noted. -/
def State.noteRecords (s : State) (l : List Nat) : State :=
  { s with fw := { s.fw with chanRecords := (s.fw.chanRecords ++ l.filter (fun c => decide (24 ≤ c ∧ c ≤ 31))).eraseDups } }

/-- A pair is retained (R39, R536): its RETAIN as committed, which firmware may still have to write to the Brim die. -/
def State.cwRetained (s : State) (p : Nat) : Bool :=
  match s.gci.nvmPend.reverse.find? (fun kv => kv.1 == pkey oDeck (0x1800 + p)) with
  | some kv => cwRetain kv.2
  | none => cwRetain (s.cwPar p)

/-- The wait for a handover starts where both Channels of a pair have a CHANNEL record and the pair is not retained (R39). -/
def State.handoverStart (s : State) : State :=
  (List.range 4).foldl (fun (s : State) p =>
    let r := s.repeater p
    if s.chanRecord (24 + 2 * p) && s.chanRecord (25 + 2 * p) && r.owns && r.waitUntil.isNone && !s.cwRetained p
    then s.setRepeater p { r with waitUntil := some (s.brim.hb + msC 10) } else s) s

/-- CAUSEWAY_TAKEOVER (R537): both buses are idle, or 100 µs have passed, and the repeater takes its pair: with its transceivers in
normal mode, and to calibrate anew, since WOSC[1] stood while no pair repeated (R539; DEDUCED, log entry 119); a handover may be due (R39). -/
def execCausewayTakeover (p : Fin 4) (s : State) : Host.Outcome State Fault Refusal :=
  let r := s.repeater p
  .next (if r.waitUntil.isSome && !r.handedOver && !r.owns then (s.setRepeater p { r with
      owns := true, waitUntil := none, ab := { r.ab with calibrated := false }, ba := { r.ba with calibrated := false } }).cwXcvrs p
      |>.handoverStart
    else s)

/-- A correct frame on a bus of a pair that repeats: it calibrates the other direction and, where the filter passes it, waits. -/
def State.cwTake (s : State) (p : Nat) (onB : Bool) (f : CanFrame) : State :=
  let r := s.repeater p
  -- the direction that sends to the bus the frame was on is calibrated
  let r := r.setDir (!onB) { r.dir (!onB) with calibrated := true }
  let s := s.setRepeater p r
  let id := if f.ide then f.id.toNat else f.id.toNat % 2 ^ 11
  if !s.cwPasses p onB f.ide id then s
  else
    let d := r.dir onB
    if d.fifo.length ≥ 4 then s.incCw p 2
    else
      let rec_ := leBytes 4 (id + b2n f.ide * 2 ^ 29 + b2n f.rtr * 2 ^ 30) ++ [0] ++ leBytes 1 (f.dlc.toNat * 16) ++
        leBytes 2 f.payload.length ++ zeros 8 ++ f.payload
      s.setRepeater p (r.setDir onB { d with fifo := d.fifo ++ [(rec_, s.brim.hb)] })

/-- CAUSEWAY_FRAME_RECEIVE (R538, R539): a correct frame on bus A, or on bus B where `onB`. FD and XL frames are protocol
exceptions. -/
def execCausewayFrameReceive (p : Fin 4) (onB : Bool) (f : CanFrame) (s : State) : Host.Outcome State Fault Refusal :=
  -- a node that is bus-off takes no part in its bus; any other acknowledges a correct frame
  .next (if !s.cwActive p || f.kind.val != 0 || ((s.repeater p).dir (!onB)).busOff then s
    else { s.cwTake p onB f with out := .canAck (2 * p + b2n onB) :: (s.cwTake p onB f).out })

/-- An attempt with frame `b` ends in success, error or no acknowledge (R538). -/
def State.cwEnded (s : State) (p : Nat) (ba : Bool) (outcome : Nat) (b : List Byte) (rest : List (List Byte × Nat)) : State :=
  let d := (s.repeater p).dir ba
  let put := fun (s : State) (d : RepeatDir) => s.setRepeater p ((s.repeater p).setDir ba d)
  if outcome = 0 then
    let s := { s with out := .canTx (p * 2 + (if ba then 0 else 1)) b :: s.out }
    (put s { d with fifo := rest, attempts := 0, tec := d.tec - 1 }).incCw p (b2n ba)
  else
    let tec := if outcome = 3 && d.tec ≥ 128 then d.tec else d.tec + 8
    let d := { d with attempts := d.attempts + 1, tec := tec }
    let d := if d.attempts ≥ 16 then { d with fifo := rest, attempts := 0 } else d
    if tec ≥ 256 then (put s { d with busOff := true }).incCw p 3 else put s d

/-- CAUSEWAY_ATTEMPT_END (R538): the attempt of direction `ba` ends in success (0), error (1), arbitration lost (2) or no
acknowledge (3). A frame older than AGE is dropped before the attempt. -/
def execCausewayAttemptEnd (p : Fin 4) (ba : Bool) (outcome : Fin 4) (s : State) : Host.Outcome State Fault Refusal :=
  let s := s.cwAged p ba 4
  let d := (s.repeater p).dir ba
  .next (match d.fifo with
    | [] => s
    | (b, _) :: rest =>
      if !s.cwActive p || d.busOff || !d.calibrated || outcome.val = 2 then s
      else s.cwEnded p ba outcome.val b rest)

/-- CAUSEWAY_RECOVERY_DONE (R538): 128 occurrences of 11 recessive bits. -/
def execCausewayRecoveryDone (p : Fin 4) (ba : Bool) (s : State) : Host.Outcome State Fault Refusal :=
  let d := (s.repeater p).dir ba
  .next (if d.busOff then s.setRepeater p ((s.repeater p).setDir ba { d with busOff := false, tec := 0 }) else s)

/-- VCC5_LOSS (R545): the integrated CAN transceivers stay in standby, and Causeway pairs do not repeat. -/
def execVcc5Loss (s : State) : Host.Outcome State Fault Refusal :=
  let s := { s with brim := { s.brim with vcc5 := false } }
  .next ((List.range 16).foldl (fun s n =>
    ((s.setCan n { s.canLane n with xcvrPend := none, xcvrGoing := none }).setF (CanStatus.xcvrMode n) 2).setF (CanStatus.monitor n) 0) s)

/-- VCC5_RESTORED (R545). -/
def execVcc5Restored (s : State) : Host.Outcome State Fault Refusal :=
  let s := { s with brim := { s.brim with vcc5 := true } }
  .next ((List.range 4).foldl (fun s p => s.cwXcvrs p) s)

end Sys2Proof.Machine
end

