-- ==== Sys2Proof/Machine/Client.lean ====
section
/-! DEFINITION. Tickets aborted and clients lost (R79, R80), and the cascade client (R70). -/

namespace Sys2Proof.Machine

/-- A drain becomes a force (R111, R193, R205): the disable that a ticket waits for. -/
def State.forceDisable (s : State) (c ref : Nat) : State :=
  let due := fun (d : Option Disabling) => match d with
    | some d => d.mode == 1 && d.ticket == ref
    | none => false
  if c ≤ 21 then (if due (s.port c).disabling then s.portForce c ref else s)
  else if 24 ≤ c && c ≤ 87 then (if due (s.canLane (c - 24)).disabling then s.canForce (c - 24) ref else s)
  else if 88 ≤ c && c ≤ 103 then (if due (s.linLane (c - 88)).disabling then s.linForce (c - 88) ref else s)
  else s

/-- A running ticket's work stops under its command's force-disable rule, and the ticket completes ABORTED (R79, R435, R492). -/
def State.abortTicket (s : State) (t : Ticket) : State :=
  if t.result.isSome then s
  else
    match s.hbx.jobs.find? (fun j => j.client == t.client && j.ticket == t.num) with
    | some j => s.abortJob j
    | none =>
      let s := s.finishTicket t.client t.num stAborted []
      let mine := fun (x : Option (Nat × Nat)) => x == some (t.client, t.num)
      let first := s.hatpin.queue.head?.map (fun a => (a.client, a.ticket))
      let rest := s.hatpin.queue.filter (fun a => !(a.client == t.client && a.ticket == t.num))
      let s := { s with hatpin := { s.hatpin with queue := rest, fails := if mine first then 0 else s.hatpin.fails } }
      if t.cmd == 0x0C19 || t.cmd == 0x0C1A then
        -- zeroisation stops where it is: copies not yet invalidated stay
        { s with hbx := { s.hbx with zeroising := none } }.setF HbxStatus.zeroising 0
      else if t.cmd == 0x0111 then { s with gci := { s.gci with resetRunning := false } }
      else if t.cmd == 0x0C18 then s.setF HbxStatus.selftestRun 0
      else if t.cmd == 0x0811 then
        { s with gci := { s.gci with commits := s.gci.commits.filter (fun p => !(p.client == t.client && p.ticket == t.num)) } }
      else if t.cmd == 0x0311 then s.forceDisable (orefOf t.payload).chan (ticketRef t.client t.num)
      else if t.cmd == 0x0412 || t.cmd == 0x0413 then
        -- an access in progress ends on its bus and answers nobody
        (List.range 2).foldl (fun (s : State) m =>
          match s.mdioQueue m with
          | [] => s
          | a :: rest => s.setMdio m (a :: rest.filter (fun r => !(r.1 == t.client && r.2.1 == t.num)))) s
      else if t.cmd == 0x0E10 then (s.storeLinkOff).setStore ssDetached
      else if t.cmd == 0x0E11 then (s.storeAbort.storeLinkOff).setStore ssDetached
      else if t.cmd == 0x0E13 then
        -- the blocks that only this stop waited for are given up
        match s.store.stopping.filter (fun x => !mine (some x)) with
        | [] => { s with store := { s.store with recBytes := [], recStarts := [], stopping := [],
                                                 nvme := s.store.nvme.filter (fun c => c.ticket.isSome) } }
        | rest => { s with store := { s.store with stopping := rest } }
      else
        { s with store := { s.store with nvme := s.store.nvme.filter (fun c => !mine c.ticket),
                                         staging := if mine s.store.staging then none else s.store.staging } }

/-- A mailbox is released (R80): DISABLED with a new SESSION, and IDLE where the client still owns it. -/
def State.mbRelease (s : State) (n : Nat) (owned : Bool) : State :=
  let s := (s.mbDiscard n).setF (MbOwner.session n) ((s.getF (MbOwner.session n) + 1) % 256)
  (s.setF (MbStatus.state n) (if owned then mbIdle else mbDisabled)).syncMbLevel n

/-- A client is lost (R80), in its order; its chained contexts go with it (R434), its segment buffer is cleared (R103) and its
image transfers are abandoned (R117). -/
def State.clientLost (s : State) (c : Nat) : State :=
  let s := (s.gci.tickets.filter (fun t => t.client == c)).foldl (fun (s : State) t => s.abortTicket t) s
  let s := (s.pier.farTickets.filter (fun t => t.client == c)).foldl (fun (s : State) t => s.farAbort t.deck c t.num) s
  let s := { s with
    gci := { s.gci with
      tickets := s.gci.tickets.filter (fun t => t.client != c),
      drafts := s.gci.drafts.filter (fun d => d.client != c),
      retries := s.gci.retries.filter (fun r => r.client != c),
      transfers := s.gci.transfers.filter (fun t => t.client != c),
      seg := s.gci.seg.filter (fun kv => min (kv.1 / 65536) 7 != c) },
    hbx := { s.hbx with contexts := s.hbx.contexts.filter (fun x => x.client != c) },
    pier := { s.pier with
      forwarded := s.pier.forwarded.map (fun (f : FwdReq) => if f.client == c then { f with mb := 16 } else f),
      farTickets := s.pier.farTickets.filter (fun t => t.client != c),
      slots := if c == 7 then [] else s.pier.slots } }
  let s := (List.range 16).foldl (fun (s : State) i =>
    if bitOf (s.getF (SpanState.holds i)) c then (s.holdClear i c).spanUpdate i else s) s
  let s := s.syncTickets c
  (List.range 16).foldl (fun (s : State) n => if s.mbOf n c then s.mbRelease n true else s) s

/-- The device becomes a Viaduct member: client 7 owns MB[12]..MB[15] with every right but SEC control, and weight 2 (R70). What
a configuration image or DECK.CLIENT_SET had given client 7 or those mailboxes before is replaced (DESIGN CHOICE, log entry 129). -/
def State.cascadeClient (s : State) : State :=
  let cl : Client := ⟨2, 2, 0x3FFFE, 0x3FFFE - 2 ^ cSec⟩
  let s := { s with gci := { s.gci with clients := tabSet clientDefault s.gci.clients 7 cl } }
  [12, 13, 14, 15].foldl (fun (s : State) n =>
    let s := ((s.setF (MbOwner.client n) 7).setF (MbOwner.transport n) 2).setF (MbOwner.weight n) 2
    (s.setF (MbOwner.assigned n) 1).setF (MbStatus.state n) mbIdle) s

end Sys2Proof.Machine
end

