-- ==== Sys2Proof/Machine/Pier.lean ====
section
/-! DEFINITION. Pier links and the Viaduct cascade (R500 to R524): bring-up, keep-alive and time transfer, units received,
discovery, split and heal. -/

namespace Sys2Proof.Machine

/-! ### Events, records and topology -/

/-- A bit of CASC_EVENTS and its source 0x900 + i (R522). -/
def State.cascEvent (s : State) (bit detail : Nat) : State :=
  s.event ⟨CascEvents.off, bit, bit⟩ (0x900 + bit) detail

/-- Cascade counters of R524 on PORT[20 + `p`]. -/
def State.incCasc (s : State) (p i : Nat) : State := s.inc (oChan (20 + p)) cCasc i

/-- A record of the split log, which holds the last 16 (R523). -/
def State.splitNote (s : State) (kind port before leader : Nat) : State :=
  let r : SplitRec := { stamp := s.strand, kind := kind, port := port, before := before,
                        after := s.getF CascStatus.reachable, leader := leader, epoch := s.gci.epoch }
  let l := s.pier.splitLog ++ [r]
  { s with pier := { s.pier with splitLog := l.drop (l.length - 16) } }

/-- Decks next to `d` over some links. -/
def nextDecks (ls : List (Nat × Nat × Nat)) (d : Nat) : List Nat :=
  ls.filterMap (fun l => if l.1 == d then some l.2.2 else if l.2.2 == d then some l.1 else none)

/-- Decks within `n` hops of a list of them. -/
def within (ls : List (Nat × Nat × Nat)) (l : List Nat) : Nat → List Nat
  | 0 => l
  | n + 1 => within ls (l ++ l.flatMap (nextDecks ls)).eraseDups n

/-- Hops from `a` to `b` over some links, if there is a path. -/
def hopsTo (ls : List (Nat × Nat × Nat)) (a b : Nat) : Option Nat :=
  (List.range 4).find? (fun n => (within ls [a] n).contains b)

/-- Pier links that a Deck uses, told by itself or by its neighbours. -/
def linkDegree (ls : List (Nat × Nat × Nat)) (d : Nat) : Nat :=
  max (ls.filter (fun l => l.1 == d)).length (ls.filter (fun l => l.2.2 == d)).length

/-- Every Deck of the half uses both its Pier links (R508). -/
def isRing (ls : List (Nat × Nat × Nat)) (half : List Nat) : Bool :=
  decide (2 ≤ half.length) && half.all (fun d => decide (2 ≤ linkDegree ls d))

/-- The end of a link between two Decks by which it is named: the higher port of the lower Deck, as far as it is told. -/
def linkEnd (ls : List (Nat × Nat × Nat)) (lo hi : Nat) : Option (Nat × Nat) :=
  let ends := fun (a b : Nat) => (ls.filter (fun l => l.1 == a && l.2.2 == b)).map (fun l => (l.1, l.2.1))
  let top := fun (l : List (Nat × Nat)) => if l.any (fun e => e.2 == 21) then l.find? (fun e => e.2 == 21) else l.head?
  match top (ends lo hi) with
  | some e => some e
  | none => top (ends hi lo)

/-- The default standby link of a ring: the largest sum of ranks, then the higher rank (R508). -/
def defaultStandby (ls : List (Nat × Nat × Nat)) : Option (Nat × Nat) :=
  let pairs := ls.map (fun l => (min l.1 l.2.2, max l.1 l.2.2))
  let worth := fun (e : Nat × Nat) => (e.1 + e.2) * 4 + e.2
  match pairs.find? (fun e => pairs.all (fun f => decide (worth f ≤ worth e))) with
  | some (lo, hi) => linkEnd ls lo hi
  | none => none

/-- Is the link with these facts the one that an end names? In a ring of two the two ends of a link are told to have the same
port number (log entry 24). -/
def linkIs (ls : List (Nat × Nat × Nat)) (e : Nat × Nat) (l : Nat × Nat × Nat) : Bool :=
  (l.1 == e.1 && l.2.1 == e.2) ||
  (match ls.find? (fun k => k.1 == e.1 && k.2.1 == e.2) with
   | some k => l.1 == k.2.2 && l.2.2 == k.1 &&
       (l.2.1 == k.2.1 || (ls.filter (fun j => j.1 == l.1 && j.2.2 == l.2.2)).length == 1)
   | none => false)

/-- The Decks of this Deck's half, itself included. -/
def State.half (s : State) : List Nat := within s.pier.links [s.ownDeck] 3

/-- This Deck's half holds no other Deck. -/
def State.alone (s : State) : Bool := decide (s.half.length < 2)

/-- The standby link of the half's ring, by one of its ends. -/
def State.standbyLink (s : State) : Option (Nat × Nat) :=
  if !isRing s.pier.links s.half then none
  else
    match s.pier.standby with
    | some e => if s.pier.links.any (fun l => l.1 == e.1 && l.2.1 == e.2) then some e else defaultStandby s.pier.links
    | none => defaultStandby s.pier.links

/-- The links that carry units between Decks. -/
def State.activeLinks (s : State) : List (Nat × Nat × Nat) :=
  match s.standbyLink with
  | none => s.pier.links
  | some e => s.pier.links.filter (fun l => !linkIs s.pier.links e l)

/-- A request whose path was lost goes out again with its number, and with the bulk input that the command reads (R69, R513). -/
def State.reqAgain (s : State) (d : Nat) (f : FwdReq) : State :=
  let p := (s.deckInfo d).port
  let s := (s.pierSend p pcReq utReq (deckPair s.ownDeck d) f.body).inc (oChan p) cCasc 5
  match (bulkOf f.cmd (leAt f.body 8 1) (f.body.drop 20)).filter (fun b => b.dir != 1 && !b.seg) with
  | none => s
  | some b =>
    match s.hostRead b.addr b.len with
    | (none, s) => s
    | (some data, s) => s.bulkUnits d f.num data

/-- Requests towards a Deck whose path is lost or is back (R513): the 1 s begins, or they are sent again. -/
def State.pathChange (s : State) (d : Nat) (up : Bool) : State :=
  if up then
    let back := s.pier.forwarded.filter (fun f => f.deck == d && f.lostAt.isSome)
    let clear := s.pier.forwarded.map (fun (f : FwdReq) => if f.deck == d then { f with lostAt := none } else f)
    let s := { s with pier := { s.pier with forwarded := clear } }
    back.foldl (fun (s : State) f => s.reqAgain d f) s
  else
    let mark := s.pier.forwarded.map (fun (f : FwdReq) =>
      if f.deck == d then { f with lostAt := some (s.after (secC 1)) } else f)
    { s with pier := { s.pier with forwarded := mark } }

/-- Firmware brings REACHABLE, TOPOLOGY, the standby bits and the paths up to date with the links (R508, R510, R522). -/
def State.topology (s : State) : State :=
  let own := s.ownDeck
  let before := s.getF CascStatus.reachable
  let topo := s.getF CascStatus.topology
  let half := s.half
  let ring := isRing s.pier.links half
  let act := s.activeLinks
  let stand := fun (p : Nat) => s.pier.links.any (fun l => l.1 == own && l.2.1 == p) &&
    !act.any (fun l => l.1 == own && l.2.1 == p)
  let s := s.setFlag CascStatus.p20Standby (stand 20)
  let s := s.setFlag CascStatus.p21Standby (stand 21)
  let s := s.setF CascStatus.reachable (maskOf half)
  let s := s.setF CascStatus.topology (if ring then 2 else if half.length ≥ 2 then 1 else 0)
  let s := (List.range 4).foldl (fun (s : State) d =>
    if d == own then s
    else
      let rest := act.filter (fun l => l.1 != own && l.2.2 != own)
      let ways := (act.filter (fun l => l.1 == own)).filterMap (fun l => (hopsTo rest l.2.2 d).map (fun h => (h + 1, l.2.1)))
      match ways.find? (fun w => ways.all (fun v => decide (w.1 ≤ v.1))) with
      | some (h, p) => s.setDeckInfo d { s.deckInfo d with hops := h, port := p }
      | none => s) s
  let now := s.getF CascStatus.reachable
  let s := if now != before || s.getF CascStatus.topology != topo then s.cascEvent 0 own else s
  let s := (List.range 4).foldl (fun (s : State) d =>
    if bitOf before d == bitOf now d then s else s.pathChange d (bitOf now d)) s
  if bitOf before s.pier.master == bitOf now s.pier.master then s
  else
    let s := s.evqTargetSlept 5
    allEvqs.foldl (fun (s : State) q => if s.getF (EvqStatus.state q) == evqPending then s.evqSignal q else s) s

/-- The device takes its role in the Viaduct (R70, R104). -/
def State.setRole (s : State) (r : Nat) : State :=
  let s := if s.getF CascStatus.role == 0 && r != 0 then s.cascadeClient else s
  s.setF CascStatus.role r

/-! ### HELLO and keys -/

/-- The body of a HELLO (R501). -/
def helloBody (rank variant uid role epoch commit nonce : Nat) : List Byte :=
  leBytes 1 rank ++ leBytes 1 variant ++ leBytes 8 uid ++ leBytes 1 role ++ leBytes 4 epoch ++ leBytes 4 commit ++
  leBytes 16 nonce

def helloOf (h : Hello) : List Byte :=
  helloBody h.rank.val (b2n h.variant) h.uid.toNat h.role.toNat h.epoch.toNat h.commitId.toNat h.nonce.toNat

/-- This Deck's HELLO on a Pier port. -/
def State.sendHello (s : State) (p : Nat) : State :=
  let v := s.pierPort (20 + p)
  let b := helloBody s.ownDeck (b2n s.absentVariant) Config.uniqueId.toNat (s.getF CascStatus.role) s.gci.epoch
    s.pier.commitId v.ownNonce
  (s.setPierPort (20 + p) { v with ownHello := b }).pierSend (20 + p) pcCtrl utHello (deckPair s.ownDeck s.ownDeck) b

/-- A CTRL unit with HELLO contents goes out on each link of the active path but the one of PORT[20 + `skip`] (R508, R510). -/
def State.helloPass (s : State) (skip : Nat) (body : PierPort → List Byte) : State :=
  [0, 1].foldl (fun (s : State) p =>
    let v := s.pierPort (20 + p)
    if p == skip || v.step != 6 || s.flag (if p = 0 then CascStatus.p20Standby else CascStatus.p21Standby) then s
    else s.pierSend (20 + p) pcCtrl utHello (deckPair s.ownDeck v.rank) (body v)) s

/-- After a commit, a reset of the configuration or a boot the neighbours hear the new (EPOCH, COMMIT_ID) (R519). -/
def State.announce (s : State) : State :=
  [0, 1].foldl (fun (s : State) p => if (s.pierPort (20 + p)).step ≥ 5 then s.sendHello p else s) s

/-- A new COMMIT_ID from the DRBG (R519). -/
def State.newCommitId (s : State) : State :=
  let (x, s) := s.draw
  ({ s with pier := { s.pier with commitId := x % 2 ^ 32 } }).announce

/-- MACSEC_EN of a Pier port. -/
def State.pierSecure (s : State) (p : Nat) : Bool := s.par (oChan (20 + p)) 0x1000 == 1

/-- The Pier key, where PIER_KEY_SLOT names a slot that may protect both ways (R512, R515). -/
def State.pierKey (s : State) : Option (List Byte) :=
  let k := s.par oDeck 0x1702
  if k == 0xFFFF || !s.slotUsable k usMacTx [2] || !s.slotUsable k usMacRx [2] then none else some (s.slot k).key

/-- Two HELLO bodies, that of the lower rank first (DEDUCED, log entry 25). -/
def helloPair (v : PierPort) (own : Nat) : List Byte :=
  if own ≤ v.rank then v.ownHello ++ v.peerHello else v.peerHello ++ v.ownHello

/-- The session key of a link: SP 800-108 in counter mode with AES-CMAC over both nonces and UNIQUE_IDs (R515). -/
def pierSession (key : List Byte) (v : PierPort) (own : Nat) : List Byte :=
  let part := fun (b : List Byte) => sliceB b 19 16 ++ sliceB b 2 8
  let ctx := if own ≤ v.rank then part v.ownHello ++ part v.peerHello else part v.peerHello ++ part v.ownHello
  [1, 2].flatMap (fun i => beBytes 16 (Config.aesCmac key (beBytes 4 i ++ ctx)).toNat)

/-- The KEY_CONFIRM value of a link. -/
def State.keyConfirm (s : State) (p : Nat) (key : List Byte) : Nat :=
  let v := s.pierPort (20 + p)
  (Config.aesCmac (pierSession key v s.ownDeck) (helloPair v s.ownDeck)).toNat

/-- Initial credits are granted and the 1 ms hold begins (steps 5 and 6 of R502). -/
def State.pierCredits (s : State) (p : Nat) : State :=
  let v := s.pierPort (20 + p)
  s.setPierPort (20 + p) { v with
    step := 5, used := [], keyHeld := false, lastKa := s.strand, nextAt := s.after (usC 100), holdEnd := some (s.after (msC 1)), retryAt := none }

/-- Bring-up fails at its step: only HELLO flows, and it is tried again after 100 ms (R502); `key`: it fails at step 4, and nothing but
the next attempt goes on from there (R515). -/
def State.pierHold (s : State) (p : Nat) (key : Bool) : State :=
  s.setPierPort (20 + p) { s.pierPort (20 + p) with
    step := 2, keyHeld := key, holdEnd := none, retryAt := some (s.after (msC 100)) }

/-- The session key's transmit SA and receive SA on a Pier port (R515). -/
def State.pierSas (s : State) (p : Nat) (key : List Byte) : State :=
  let v := s.pierPort (20 + p)
  let a : SecAssoc := { installed := true, slot := 2048 + p, enabled := true, nextPn := 1, lowestPn := 1,
                        threshold := 2 ^ 62, salt := zeros 12, sci := v.peerMac * 65536 + 1 }
  let s := { s with hbx := { s.hbx with pierKeys := tabInsert s.hbx.pierKeys p (pierSession key v s.ownDeck) } }
  let s := (s.setAssoc (20 + p) 0 a).setAssoc (20 + p) 4 { a with threshold := 0 }
  ((s.setF (MacsecStatus.txAn (20 + p)) 0).setF (MacsecStatus.txInUse (20 + p)) 1).syncMacsec (20 + p)

/-- A queue claimed by target 5 gives its oldest record to the link (R466), one at a time. -/
def State.evtSend (s : State) (q : Nat) : State :=
  let m := s.pier.master
  let p := (s.deckInfo m).port
  let out := fun (u : Nat × List Byte) => u.1 % 4 == s.ownDeck && leAt u.2 0 1 == q
  let busy := (s.pierPort p).waiting.any (fun u => u.1 == pcEvt && out (u.2.2.1, u.2.2.2)) ||
    (s.pierPort p).replay.any (fun u => u.1 == pcEvt && out (u.2.2.2.1, u.2.2.2.2))
  if s.getF (EvqStatus.state q) != evqClaimed || s.getF (EvqStatus.claimer q) != 5 || busy || s.targetAsleep 5 then s
  else if s.evqFill q == 0 then s.evqComplete q 5
  else s.pierSend p pcEvt utEvt (deckPair s.ownDeck m) (leBytes 1 q ++ (s.evRec q (s.evqRd q)).bytes)

def State.evtSendAll (s : State) : State := allEvqs.foldl (fun (s : State) q => s.evtSend q) s

/-! ### Heal and split -/

/-- Firmware tells the Viaduct that a Deck is quarantined, or no longer (R520, R522; log entry 117): a HELLO of its own on each active
link. -/
def State.quarTell (s : State) (d : Nat) (on : Bool) (skip : Nat) : State :=
  s.helloPass skip (fun v => v.ownHello ++ leBytes 1 (if on then 3 else 4) ++ leBytes 1 d ++ [0])

/-- A Deck is noted as quarantined or not: of itself in QUARANTINE of CASC_STATUS (R522). -/
def State.quarSet (s : State) (d : Nat) (on : Bool) : State :=
  if d == s.ownDeck then s.setFlag CascStatus.quarantine on else s.setDeckInfo d { s.deckInfo d with quarantine := on }

/-- Is a Deck quarantined, as this Deck knows it? -/
def State.quarantined (s : State) (d : Nat) : Bool :=
  if d == s.ownDeck then s.flag CascStatus.quarantine else (s.deckInfo d).quarantine

/-- What another Deck tells of a quarantine is noted and passed on; on Deck 0, a Deck that has left its own quarantine has its present
values in the ledger (R519, R520). -/
def State.quarHeard (s : State) (p : Nat) (h : Hello) : State :=
  let d := h.via.val
  let s := s.quarSet d (h.kind.val == 3)
  let s := if s.ownDeck == 0 && h.kind.val == 4 && d != 0 then
      { s with pier := { s.pier with ledger := tabInsert s.pier.ledger d ((s.deckInfo d).epoch, (s.deckInfo d).commitId) } }
    else s
  s.quarTell d (h.kind.val == 3) p

/-- Deck 0 compares a Deck that joins with its ledger (R519, R520). A Deck without an entry is adopted. -/
def State.ledgerCheck (s : State) (d port before : Nat) : State :=
  let i := s.deckInfo d
  match tabFind s.pier.ledger d with
  | none => { s with pier := { s.pier with ledger := tabInsert s.pier.ledger d (i.epoch, i.commitId) } }
  | some e =>
    if e == (i.epoch, i.commitId) then
      (((s.quarSet d false).quarTell d false 2).splitNote 3 port before 0).cascEvent 5 d
    else (((s.quarSet d true).quarTell d true 2).splitNote 4 port before 0).cascEvent 6 d

/-- The acting master yields, and its half follows Deck 0 again (R520). A split that ends within ACTING_DELAY turns its record
into KIND 3 (R518). -/
def State.yieldTo0 (s : State) (port before : Nat) : State :=
  let waiting := s.pier.actingAt.isSome
  let split := s.flag CascStatus.split
  let s := { s with pier := { s.pier with master := 0, actingAt := none } }
  let s := ((s.setF CascStatus.split 0).setRole 2).spansReport
  if !split then s
  else if waiting then
    let last := fun (l : List SplitRec) => match l.reverse with
      | [] => ([] : List SplitRec)
      | r :: rest => (rest.reverse ++ [{ r with kind := 3 }])
    { s with pier := { s.pier with splitLog := last s.pier.splitLog } }
  else s.splitNote 3 port before 0

/-- Two halves without Deck 0 join: the lowest rank of both leads, and an acting master that is not it yields (DESIGN CHOICE, log entry
118). -/
def State.halvesJoin (s : State) : State :=
  let low := s.half.foldl (fun a b => min a b) s.ownDeck
  if s.pier.actingAt.isSome || low == s.pier.master then s
  else
    let s := { s with pier := { s.pier with master := low } }
    ((if s.getF CascStatus.role == 3 then s.setRole 2 else s).evqTargetSlept 5).evtSendAll.spansReport

/-- What follows a change of the links: paths are found again, and Decks that join or leave are dealt with (R509, R517, R520). -/
def State.relink (s : State) (port : Nat) : State :=
  let before := s.getF CascStatus.reachable
  let own := s.ownDeck
  let s := s.topology
  let now := s.getF CascStatus.reachable
  let joined := (List.range 4).filter (fun d => d != own && bitOf now d && !bitOf before d)
  let gone := (List.range 4).filter (fun d => bitOf before d && !bitOf now d)
  let s := if own == 0 && (now != 1) && s.getF CascStatus.role == 0 then s.setRole 1 else s
  let s := if own != 0 && bitOf now 0 && !bitOf before 0 then s.yieldTo0 port before else s
  let s := if own == 0 then
      let s := joined.foldl (fun (s : State) d => s.ledgerCheck d port before) s
      if !joined.isEmpty && s.pier.ledger.all (fun e => e.1 == own || bitOf now e.1) then s.setF CascStatus.split 0 else s
    else s
  let s := if own != 0 && !bitOf now 0 && !bitOf before 0 && !joined.isEmpty then s.halvesJoin else s
  if gone.isEmpty then s
  else
    -- the cascade client is lost with its last path, or with a Deck whose requests or tickets it holds (R80; log entry 91)
    let lost := now == 2 ^ own || s.pier.slots.any (fun x => gone.contains x.origin) ||
      s.gci.tickets.any (fun t => t.far.any (fun f => gone.contains f.1))
    let s := if lost then s.clientLost 7 else s
    let s := s.spansLost gone
    let s := (s.setF CascStatus.split 1).cascEvent 3 port
    let s := s.splitNote 1 port before (if own == 0 then 0 else s.pier.master)
    if own != 0 && !bitOf now 0 && gone.contains s.pier.master then
      { s with pier := { s.pier with actingAt := some (s.after (msC (s.par oDeck 0x1700))) } }
    else s

/-- Add or remove a link that is known to be up. -/
def State.setLink (s : State) (l : Nat × Nat × Nat) (up : Bool) : State :=
  let ls := s.pier.links.filter (fun k => !(k.1 == l.1 && k.2.1 == l.2.1))
  { s with pier := { s.pier with links := if up then ls ++ [l] else ls } }

/-- A link has failed: in a ring the standby link takes over, and the failed one is standby from its return on (R509). -/
def State.linkFailed (s : State) (l : Nat × Nat) : State :=
  let ring := isRing s.pier.links s.half
  let s := if ring then { s with pier := { s.pier with standby := some l } } else s
  match s.pier.links.find? (fun k => k.1 == l.1 && k.2.1 == l.2) with
  | none => s
  | some k =>
    let other := s.pier.links.find? (fun j => j.1 == k.2.2 && linkIs s.pier.links l j)
    let before := s.getF CascStatus.reachable
    let alive := within (s.activeLinks.filter (fun j => j != k && some j != other)) [s.ownDeck] 3
    let s := s.setLink k false
    let s := match other with
      | some j => s.setLink j false
      | none => s
    let s := s.relink (if k.1 == s.ownDeck then k.2.1 else 0xFF)
    -- a Deck whose path ran over the link and that the standby link leads to again (R509, R513)
    (List.range 4).foldl (fun (s : State) d =>
      if bitOf before d && bitOf (s.getF CascStatus.reachable) d && !alive.contains d then (s.pathChange d false).pathChange d true
      else s) s

/-! ### Time (R357) -/

/-- The rate at which a clock that is `off` ahead of Deck 0's agrees with it one keep-alive interval of 100 µs later. -/
def pierRate (inc : Nat) (off : Int) : Nat := ((inc : Int) - off / 80000).toNat

/-- A member's domain clock follows Deck 0's: where they agree, in rate; otherwise, and when Pier time returns, it steps. A domain of
MODE 3 is LOCKED by it. -/
def State.pierDomain (s : State) (k v inc : Nat) (near : Bool) : State :=
  let off := (s.clockNow k : Int) - (v : Int)
  let s := if near then (s.clockRate k (pierRate inc off)).domainFollow k else s.domainStep k v inc off
  if s.domMode k == 3 then s.domainPut k dsLocked else s

/-- A member's working clock follows Deck 0's (R357), which clock 3 holds: in rate where they agree; bleeding or a step where Pier time
has returned (R345, R346); and a step where Deck 0's has stepped. -/
def State.pierWork (s : State) (near stepped back : Bool) : State :=
  let bleeds := s.time.work.slew.isSome
  if stepped then s.workStep
  else if (back || bleeds) && !s.overStepLimit s.workOffset then s.workBleed
  else if near then s.clockRate 2 (pierRate (s.clockInc 3) s.workOffset)
  else s.workStep

/-- Does clock `k` agree with a time carried from Deck 0 (R357): within the 8 ns per hop that a locked member holds and what a change
of rate since the last keep-alive explains? -/
def State.pierNear (s : State) (k v inc : Nat) : Bool :=
  let elapsed := strandDiff s.strand (s.clock 3).head.1
  decide (((s.clockNow k : Int) - (v : Int)).natAbs ≤
    nsU (8 * (s.deckInfo s.pier.master).hops) + ((inc : Int) - (s.clockInc k : Int)).natAbs * elapsed)

/-- A member takes Deck 0's clocks (R357). -/
def State.pierTime (s : State) (p : Nat) (ts : List ClockTime) : State :=
  let was := s.time.pier
  let s := { s with time := { s.time with pier := 1 } }.setF TimeStatus.pierFollow 1
  let value := fun (t : ClockTime) => ((t.value.toNat : Int) + s.asymmetry (20 + p)).toNat
  let near := fun (k : Nat) => ts[k]?.any (fun t => was == 1 && s.pierNear k (value t) t.inc.toNat)
  let stepped := was == 1 && ts[2]?.any (fun t => !s.pierNear 3 (value t) t.inc.toNat)
  let put := fun (s : State) (t : ClockTime) => s.clockSet 3 (value t) t.inc.toNat
  let s := ts[2]?.elim s (put s)
  let s := (List.range 2).foldl (fun (s : State) k =>
    match ts[k]? with
    | some t => s.pierDomain k (value t) t.inc.toNat (near k)
    | none => s) s
  let s := s.workChoose
  if ts[2]?.isSome then s.pierWork (near 2) stepped (was == 2) else s

/-- Pier time is lost: the clocks hold their last rates, and domains of MODE 3 are LOST. -/
def State.pierTimeLost (s : State) : State :=
  if s.time.pier != 1 then s
  else
    let s := ({ s with time := { s.time with pier := 2 } }.setF TimeStatus.pierFollow 0).timeEvent 6
    let s := (s.setWork { s.time.work with slew := none }).setF TimeStatus.slewing 0
    ((List.range 2).foldl (fun (s : State) d =>
      if s.domMode d == 3 && s.domainState d != dsOff then s.domainPut d dsLost else s) s).workChoose

/-- Does the time of a KEEPALIVE on this port lead to Deck 0, or to the half's acting master? -/
def State.timePort (s : State) (p : Nat) : Bool :=
  s.ownDeck != 0 && s.pier.master != s.ownDeck && (s.deckInfo s.pier.master).port == 20 + p &&
  !s.flag (if p = 0 then CascStatus.p20Standby else CascStatus.p21Standby)

/-- A commit with CHECK_BASE that client `c` has made ends this Deck's quarantine where the client is the cascade's, which stands for a
client on Deck 0's side (R520). -/
def State.quarCommit (s : State) (c flags : Nat) : State :=
  if c == 7 && bitOf flags 1 && s.flag CascStatus.quarantine then (s.quarSet s.ownDeck false).quarTell s.ownDeck false 2 else s

/-! ### Units: acknowledgement, order and credit -/

/-- Is sequence number `n` acknowledged by `a`, counting modulo 65,536? -/
def seqAcked (a n : Nat) : Bool := decide ((a + 65536 - n) % 65536 < 32768)

/-- Acknowledged units leave the replay buffer (R504); a record of this Deck's leaves its queue (R466). -/
def State.pierAck (s : State) (p : Nat) (a : PierAcks) : State :=
  let v := s.pierPort (20 + p)
  let hi := fun (c : Nat) => if c == pcReq then a.req.toNat else if c == pcCpl then a.cpl.toNat else a.evt.toNat
  let done := fun (u : Nat × Nat × Nat × Nat × List Byte) => seqAcked (hi u.1) u.2.1
  let gone := v.replay.filter done
  let keep := v.replay.filter (fun u => !done u)
  let s := s.setPierPort (20 + p) { v with replay := keep, resendAt := if keep.isEmpty then none else v.resendAt }
  let s := gone.foldl (fun (s : State) u =>
    let q := leAt u.2.2.2.2 0 1
    if u.1 == pcEvt && u.2.2.2.1 % 4 == s.ownDeck && s.getF (EvqStatus.claimer q) == 5 && s.evqFill q > 0
    then s.evqMoveRd q (s.evqRd q + 1) else s) s
  s.evtSendAll.pierFlush (20 + p)

/-- Does a link turn away what it protects: it has no usable receive association (R424), as while the Hatbox is LOCKED (R446)? -/
def State.pierShut (s : State) (p typ : Nat) : Bool :=
  let a := s.assoc (20 + p) 4
  s.unitSecure (20 + p) typ && !(a.installed && a.enabled && (s.assocKey (20 + p) a usMacRx).isSome)

/-- A valid unit with body of `len` bytes arrives, in or out of its order: the port's receive counters, and MACsec's (R153, R426, R515);
one that finds no association is counted in RX_NO_SA, and the first valid one on a new association sets RX_SA_FIRST. -/
def State.pierRx (s : State) (p typ len : Nat) : State :=
  let s := (s.inc (oChan (20 + p)) cEth 1).addCtr (oChan (20 + p)) cEth 0 (max 64 (26 + len))
  if s.pierShut p typ then s.incMac (20 + p) 10
  else if !s.unitSecure (20 + p) typ then s
  else
    let a := s.assoc (20 + p) 4
    let s := s.setAssoc (20 + p) 4 { a with
      nextPn := a.nextPn + 1, lowestPn := a.nextPn + 1, seen := true, frames := a.frames + 1, octets := a.octets + len }
    let s := if a.seen then s else s.macEvent (20 + p) 2 4
    (s.incMac (20 + p) 4).incMac (20 + p) 15 len

/-- A DATA unit whose frame the port turns away: 1 a wrong FCS, 2 a malformed unit header (R500); on a protected link 3 no SecTAG, 4 a
wrong ICV, 5 an old packet number (R424). -/
def State.unitBad (s : State) (p bad : Nat) : State :=
  if bad = 1 then s.inc (oChan (20 + p)) cEth 8
  else if bad = 2 || !s.pierSecure p then s.incCasc p 0
  else if bad = 3 then s.incMac (20 + p) 11
  else if bad = 4 then (s.incMac (20 + p) 9).macEvent (20 + p) 3 4
  else s.incMac (20 + p) 7

/-- A replayed unit is taken in LSEQ order; `none` for a duplicate or a gap (R504). -/
def State.pierTake (s : State) (p cls lseq : Nat) : Option State :=
  let v := s.pierPort (20 + p)
  let want := tabGet ctrDefault v.rxSeq cls
  if v.step < 5 || lseq != want || s.pierShut p utReq then none
  else some (s.setPierPort (20 + p) { v with rxSeq := tabSet ctrDefault v.rxSeq cls ((want + 1) % 65536) })

/-- A management unit for another Deck goes on over the path towards it (R507, R508). -/
def State.transit (s : State) (cls typ src dst : Nat) (body : List Byte) : State :=
  s.pierSend (s.deckInfo dst).port cls typ (deckPair src dst) body

/-! ### Bring-up commands (R502, R511, R515) -/

/-- PIER_SIGNAL_DETECT (R502 step 1). -/
def execPierSignalDetect (p : Fin 2) (s : State) : Host.Outcome State Fault Refusal :=
  let v := s.pierPort (20 + p)
  .next (if s.fwRunning && s.chanEnabled (20 + p) && v.step == 0 then s.setPierPort (20 + p) { v with step := 1 } else s)

/-- The HELLO exchange begins on a port whose state is `v` (R502): HELLO goes out, and again 100 µs later. -/
def State.helloBegin (s : State) (p : Nat) (v : PierPort) : State :=
  (s.setPierPort (20 + p) { v with nextAt := s.after (usC 100) }).sendHello p

/-- PIER_BLOCK_LOCK (R502 step 2): HELLO is sent, with a fresh nonce. -/
def execPierBlockLock (p : Fin 2) (s : State) : Host.Outcome State Fault Refusal :=
  let (x, t) := s.draw
  .next (if (s.pierPort (20 + p)).step != 1 then s
    else t.helloBegin p { t.pierPort (20 + p) with step := 2, ownNonce := x % 2 ^ 128 })

/-- What a HELLO says of its Deck (R511). -/
def State.helloLearn (s : State) (h : Hello) : State :=
  s.setDeckInfo h.rank.val { s.deckInfo h.rank.val with
    known := true, uid := h.uid.toNat, variant := b2n h.variant, epoch := h.epoch.toNat, commitId := h.commitId.toNat,
    hello := helloOf h }

/-- On the master, the ledger entry of a member that is reachable and not in quarantine. -/
def State.helloBook (s : State) (h : Hello) : State :=
  let d := h.rank.val
  if s.ownDeck == 0 && bitOf (s.getF CascStatus.reachable) d && !(s.deckInfo d).quarantine && d != 0 then
    { s with pier := { s.pier with ledger := tabInsert s.pier.ledger d (h.epoch.toNat, h.commitId.toNat) } }
  else s

/-- A Deck passes HELLO contents on towards Deck 0 (R510), and away from it as well, so that every member knows who is reachable (log
entry 24), with the link that they speak of. -/
def State.helloRelay (s : State) (h : Hello) (k via port skip : Nat) : State :=
  s.helloPass skip (fun _ => helloOf h ++ leBytes 1 k ++ leBytes 1 via ++ leBytes 1 port)

/-- Does a HELLO name a rank that is taken: this Deck's, or a reachable one's with another unique ID (R502)? -/
def State.helloClash (s : State) (h : Hello) : Bool :=
  let d := h.rank.val
  let known := s.deckInfo d
  (d == s.ownDeck && h.uid != Config.uniqueId) ||
    (known.known && known.uid != h.uid.toNat && bitOf (s.getF CascStatus.reachable) d)

/-- Step 3 of R502 on a peer's HELLO: it is answered, and credits follow or the key confirmation; without a usable key the link stays at
step 4 (R515). -/
def State.helloTake (s : State) (p : Nat) (h : Hello) : State :=
  let s := s.setPierPort (20 + p) { s.pierPort (20 + p) with
    step := 3, rank := h.rank.val, uid := h.uid.toNat, nonce := h.nonce.toNat, peerMac := h.mac.toNat,
    peerHello := (helloOf h), holdEnd := none, retryAt := none }
  let s := s.sendHello p
  if !s.pierSecure p then s.pierCredits p
  else
    match s.pierKey with
    | none => s.pierHold p true
    | some key => s.pierSend (20 + p) pcCtrl utKeyConfirm (deckPair s.ownDeck h.rank.val) (beBytes 16 (s.keyConfirm p key))

/-- A protected link whose HELLO exchange is over is taken through bring-up again, with a fresh nonce: its peer is not lost, and what its
replay buffers hold and what waits stays (R515). -/
def State.rekeyBegin (s : State) (p step : Nat) : State :=
  let (x, s) := s.draw
  s.setPierPort (20 + p) { s.pierPort (20 + p) with step := step, rekeying := true, ownNonce := x % 2 ^ 128, holdEnd := none }

/-- The peer's own HELLO. During bring-up it is step 3, unless step 4 has failed; later it is noted, but for one with a new nonce on a
protected link, which begins bring-up again (R515). -/
def State.helloPeer (s : State) (p : Nat) (h : Hello) : State :=
  let v := s.pierPort (20 + p)
  let again := s.pierSecure p && v.nonce != h.nonce.toNat
  if v.step < 3 && !v.keyHeld then s.helloTake p h
  else if 5 ≤ v.step && again then (s.rekeyBegin p 2).helloTake p h
  else if 3 ≤ v.step && again then s.helloTake p h
  else s.setPierPort (20 + p) { v with peerHello := helloOf h }

/-- HELLO (R502 step 3, R510, R511) on PORT[20 + `p`]. -/
def execHello (p : Fin 2) (h : Hello) (s : State) : Host.Outcome State Fault Refusal :=
  .next (if (s.pierPort (20 + p)).step < 2 then s
    else
      let s := s.pierRx p utHello (helloOf h).length
      if h.kind.val == 2 then (s.linkFailed (h.via.val, 20 + h.port.val)).helloRelay h 2 h.via.val h.port.val p
      else if h.kind.val == 1 then
        let s := (s.helloLearn h).helloBook h
        ((s.setLink (h.via.val, 20 + h.port.val, h.rank.val) true).relink (20 + p)).helloRelay h 1 h.via.val h.port.val p
      else if h.kind.val ≥ 3 then s.quarHeard p h
      else if s.helloClash h then
        (if (s.pierPort (20 + p)).retryAt.isSome then s else (s.pierHold p false).cascEvent 7 (20 + p))
      else if (s.pierPort (20 + p)).step == 6 then (((s.helloLearn h).helloBook h).helloRelay h 1 s.ownDeck p p).helloPeer p h
      else ((s.helloLearn h).helloBook h).helloPeer p h)

/-- KEY_CONFIRM (R515, R502 step 4). -/
def execKeyConfirm (p : Fin 2) (mac : BitVec 128) (s : State) : Host.Outcome State Fault Refusal :=
  let v := s.pierPort (20 + p)
  .next (if v.step != 3 || !s.pierSecure p then s
    else
      let s := s.pierRx p utKeyConfirm 16
      match s.pierKey with
      | none => s.pierHold p true
      | some key =>
        if s.keyConfirm p key == mac.toNat then
          let s := s.pierSas p key
          s.pierCredits p
        else (s.pierHold p true).cascEvent 8 (20 + p))

/-- A KEEPALIVE goes out (R503, R357) with acknowledgements and, on a port not in standby, the clocks; one that the peer owes is
counted. -/
def State.sendKeepalive (s : State) (p : Nat) (v : PierPort) : State :=
  let s := if strandDiff s.strand v.lastKa ≥ usC 100 then s.incCasc p 3 else s
  let stand := s.flag (if p = 0 then CascStatus.p20Standby else CascStatus.p21Standby)
  let time := if stand then [] else (List.range 3).flatMap (fun k => leBytes 14 (s.clockNow k) ++ leBytes 8 (s.clockInc k))
  let s := s.pierSend (20 + p) pcCtrl utKeepalive (deckPair s.ownDeck v.rank) (s.ackBytes p ++ time)
  s.evtSendAll

/-- Has the transmit association of a protected link reached PN_THRESHOLD (R515)? -/
def State.rekeyDue (s : State) (p : Nat) : Bool :=
  s.pierSecure p && (s.pierPort (20 + p)).step == 6 && (s.assoc (20 + p) (s.getF (MacsecStatus.txAn (20 + p)))).warned

/-- PIER_HELLO_INTERVAL (R502): every 100 µs HELLO until one is answered, KEEPALIVE from step 5 on. A link whose packet numbers have
reached PN_THRESHOLD begins bring-up again (R515). -/
def execPierHelloInterval (p : Fin 2) (s : State) : Host.Outcome State Fault Refusal :=
  let v := s.pierPort (20 + p)
  .next (if v.step < 2 then s
    else
      let s := s.timeTo v.nextAt
      let s := s.setPierPort (20 + p) { v with nextAt := s.after (usC 100) }
      if s.rekeyDue p then (s.rekeyBegin p 2).sendHello p
      else if v.step < 5 then s.sendHello p else s.sendKeepalive p v)

/-- KEEPALIVE (R357, R503, R504). -/
def execKeepalive (p : Fin 2) (a : PierAcks) (time : List ClockTime) (s : State) : Host.Outcome State Fault Refusal :=
  let v := s.pierPort (20 + p)
  .next (if v.step < 5 then s
    else if s.pierShut p utKeepalive then s.pierRx p utKeepalive 6
    else
      let s := s.pierRx p utKeepalive 6
      let s := s.setPierPort (20 + p) { s.pierPort (20 + p) with lastKa := s.strand }
      let s := s.pierAck p a
      if v.step == 6 && s.timePort p && !time.isEmpty then s.pierTime p time else s)

/-- Credit in use after some of it has come back. -/
def creditTaken (used : Tab Nat) (back : List (Fin 11 × BitVec 16)) : Tab Nat :=
  back.foldl (fun (t : Tab Nat) (cn : Fin 11 × BitVec 16) =>
    tabSet ctrDefault t cn.1.val (tabGet ctrDefault t cn.1.val - cn.2.toNat)) used

/-- CREDIT (R505): credit returned by class, and acknowledgements. -/
def execCredit (p : Fin 2) (back : List (Fin 11 × BitVec 16)) (a : PierAcks) (s : State) : Host.Outcome State Fault Refusal :=
  let v := s.pierPort (20 + p)
  .next (if v.step < 5 then s
    else if s.pierShut p utCredit then s.pierRx p utCredit (9 * back.length)
    else
      let s := s.pierRx p utCredit (9 * back.length)
      (s.setPierPort (20 + p) { s.pierPort (20 + p) with used := creditTaken v.used back }).pierAck p a)

/-- The new peer on PORT[20 + `p`] hears of the links that this Deck knows, and the other neighbour of the new peer (R510). -/
def State.linksTell (s : State) (p rank : Nat) : State :=
  let own := s.ownDeck
  let body := fun (d via port : Nat) => (s.deckInfo d).hello ++ leBytes 1 1 ++ leBytes 1 via ++ leBytes 1 (port - 20)
  let s' := s.helloPass p (fun _ => body rank own (20 + p))
  if s.flag (if p = 0 then CascStatus.p20Standby else CascStatus.p21Standby) then s'
  else
    (s.pier.links.filter (fun l => l.2.2 != own && !(l.1 == own && l.2.1 == 20 + p))).foldl (fun (t : State) l =>
      t.pierSend (20 + p) pcCtrl utHello (deckPair own rank) (body l.2.2 l.1 l.2.1)) s'

/-- The link is up: PEER_UP, its event, and what it joins (R510, R520). -/
def State.peerUp (s : State) (p rank : Nat) : State :=
  let s := s.portUp (20 + p)
  let s := s.setF (if p = 0 then CascStatus.p20Up else CascStatus.p21Up) 1
  let s := s.cascEvent 2 (20 + p)
  ((s.setLink (s.ownDeck, 20 + p, rank) true).relink (20 + p)).linksTell p rank

/-- PIER_LINK_HOLD_END (R502 step 6, R520): the link is up, PEER_UP is raised, and what it joins is joined. -/
def execPierLinkHoldEnd (p : Fin 2) (s : State) : Host.Outcome State Fault Refusal :=
  let v := s.pierPort (20 + p)
  .next (match v.holdEnd with
    | none => s
    | some d =>
      let s := s.timeTo d
      (s.setPierPort (20 + p) { v with step := 6, rekeying := false, holdEnd := none }).peerUp p v.rank)

/-- BRINGUP_RETRY (R502): after a failure the HELLO exchange begins anew. -/
def execBringupRetry (p : Fin 2) (s : State) : Host.Outcome State Fault Refusal :=
  let v := s.pierPort (20 + p)
  .next (match v.retryAt with
    | none => s
    | some d =>
      let (x, s) := (s.timeTo d).draw
      s.helloBegin p { v with step := 2, keyHeld := false, retryAt := none, ownNonce := x % 2 ^ 128 })

/-- Does the carrier Span of the Pier Channels sleep (R405, R503)? -/
def State.carrierSleeps (s : State) : Bool :=
  match s.carrierSpan with
  | none => false
  | some i => s.spanState i == spAsleep || s.spanState i == spEntering

/-- The peer is lost: the port's state is dropped but for what its replay and the waiting units need; a link that was up goes down,
which takes from the cascade what it joined (R503, R509, R517). -/
def State.peerGone (s : State) (p : Nat) (v : PierPort) (lock : Bool) : State :=
  let up := v.step == 6
  let s := s.setPierPort (20 + p) { ownHello := v.ownHello, peerHello := v.peerHello, rank := v.rank, uid := v.uid,
                                    peerMac := v.peerMac, waiting := v.waiting.filter (fun u => u.1 != pcCtrl) }
  let s := if lock then s else s.setPierPort (20 + p) { s.pierPort (20 + p) with step := 2, nextAt := s.after (usC 100) }
  if !up then s
  else
    let s := s.portDown (20 + p)
    let s := s.setF (if p = 0 then CascStatus.p20Up else CascStatus.p21Up) 0
    let s := (s.incCasc p 2).cascEvent 1 (20 + p)
    let s := if s.timePort p then s.pierTimeLost else s
    if s.carrierSleeps then s
    else
      let own := s.ownDeck
      (s.linkFailed (own, 20 + p)).helloPass p (fun _ => v.peerHello ++ leBytes 1 2 ++ leBytes 1 own ++ leBytes 1 p)

/-- PEER_LOST (R503, R509, R517): missing KEEPALIVE units, or with `lock` the loss of block lock. A loss while the carrier Span
sleeps changes no reachability. -/
def execPeerLost (p : Fin 2) (lock : Bool) (s : State) : Host.Outcome State Fault Refusal :=
  let v := s.pierPort (20 + p)
  .next (if v.step < 5 then (if lock then s.setPierPort (20 + p) {} else s)
    else
      let s := if lock then s else s.timeTo (strandPlus v.lastKa (usC 300))
      s.peerGone p v lock)

/-- A unit is sent again, and counted. -/
def State.resendUnit (s : State) (p : Nat) (u : Nat × Nat × Nat × Nat × List Byte) : State :=
  let (c, seq, typ, decks, body) := u
  (s.incCasc p 1).unitOut (20 + p) c typ decks seq body

/-- REPLAY_TIMEOUT (R504): every unacknowledged unit is sent again, in order. -/
def execReplayTimeout (p : Fin 2) (s : State) : Host.Outcome State Fault Refusal :=
  let v := s.pierPort (20 + p)
  .next (match v.resendAt with
    | none => s
    | some d =>
      let s := s.timeTo d
      let s := s.setPierPort (20 + p) { v with resendAt := some (s.after (usC 20)) }
      v.replay.foldl (fun s u => s.resendUnit p u) s)

/-! ### Units received (R501) -/

/-- Are frames from another Deck dropped here, because it or this Deck is quarantined (R520)? -/
def State.apart (s : State) (src : Nat) : Bool := (s.deckInfo src).quarantine || s.flag CascStatus.quarantine

/-- ETH_UNIT (R501): a frame that another Deck sends enters the decision pipeline; `bad` as for `unitBad`. A Pier frame over MAX_LEN,
26 bytes longer than the frame it carries, is a giant (R500, R128). Its credit goes back once it
has left the receiver (R505). -/
def execEthUnit (p : Fin 2) (cls : Fin 8) (src : Fin 4) (bad : Fin 6) (frame : List Byte) (s : State) :
    Host.Outcome State Fault Refusal :=
  .next (if !s.flag (PortStatus.linkUp (20 + p)) then s
    else if bad.val ≠ 0 then s.unitBad p bad.val
    else if frame.length < 60 then s.incCasc p 0
    else if frame.length + 26 > s.par (oChan (20 + p)) 0x0103 then s.inc (oChan (20 + p)) cEth 7
    else
      let t := s.pierRx p utEth frame.length
      if s.pierShut p utEth then t
      else if t.apart src.val then t.creditBack p cls (unitCells frame)
      else t.rxPush (20 + p) (ethFinish frame) true false none (some src.val) (some (cls.val, unitCells frame)))

/-- A record from another Deck: dropped in quarantine, routed on the Deck it names, stored for the port that leads there elsewhere. -/
def State.recordIn (s : State) (p cls src dst route : Nat) (record : List Byte) (u : Upset) : State :=
  if (s.deckInfo src).quarantine then s
  else if dst == s.ownDeck then if s.apart src then s else s.route_ { record := record, chan := 0xFF, deck := some src, fixed := some route } u
  else if !s.reachable dst then s
  else
    let c : CopySpec := { queue := (s.deckInfo dst).port * 8 + cls, cls := cls, remote := some (dst, route),
                          srcChan := 0xFF, srcDeck := some src }
    (s.storeFrame (20 + p) (recStamp record) record [c]).2

/-- RECORD_UNIT (R231, R237, R501): a CAN or LIN record from another Deck, routed by its REMOTE_ROUTE, or on its way on;
`bad` as for `unitBad`. -/
def execRecordUnit (p : Fin 2) (cls : Fin 8) (src dst : Fin 4) (bad : Fin 6) (route : BitVec 14) (record : List Byte) (u : Upset)
    (s : State) : Host.Outcome State Fault Refusal :=
  .next (if !s.flag (PortStatus.linkUp (20 + p)) then s
    else if bad.val ≠ 0 then s.unitBad p bad.val
    else if record.length < 16 then s.incCasc p 0
    else
      let t := s.pierRx p utRecord (record.length + 2)
      if s.pierShut p utRecord then t
      else (t.creditBack p cls (unitCells ((0 : Byte) :: 0 :: record))).recordIn p cls src dst route.toNat record u)

/-- A request for this Deck: answered again where its response is remembered, ignored where it already holds a slot, else it takes
one. -/
def State.reqIn (s : State) (x : ReqSlot) : State :=
  match s.pier.answered.find? (fun e => e.1 == x.origin && e.2.1 == x.num) with
  | some e => s.pierSend (s.deckInfo x.origin).port pcCpl utCpl (deckPair s.ownDeck x.origin) e.2.2
  | none =>
    if s.pier.slots.any (fun y => y.origin == x.origin && y.num == x.num) then s
    else ({ s with pier := { s.pier with slots := s.pier.slots ++ [x] } }).slotFeed

/-- REQ_UNIT (R513, R516): a request for this Deck takes a slot, or its remembered response is sent again; one for another
Deck goes on. -/
def execReqUnit (p : Fin 2) (src : Fin 4) (client : Fin 8) (sec : Bool) (num lseq cmd : BitVec 16) (q : Req) (s : State) :
    Host.Outcome State Fault Refusal :=
  let dst := q.deck.toNat % 4
  let req := reqHeader cmd.toNat q ++ q.payload.take q.len.toNat
  let body := leBytes 1 src.val ++ leBytes 1 (client.val + 8 * b2n sec) ++ leBytes 2 num.toNat ++ req
  let s := s.pierRx p utReq body.length
  .next (match s.pierTake p pcReq lseq.toNat with
    | none => s
    | some s =>
      let s := s.creditBack p pcReq (unitCells body)
      if dst != s.ownDeck then s.transit pcReq utReq src dst body
      else
        let b := (bulkOf cmd.toNat q.flags.toNat (q.payload.take q.len.toNat)).any (fun b => b.dir != 1)
        s.reqIn { origin := src.val, client := client.val, num := num.toNat, cmd := cmd.toNat, req := req, sec := sec, waits := b })

/-- Is a forwarded request a commit with CHECK_BASE (R96)? One that only validates is none. -/
def FwdReq.checksBase (f : FwdReq) : Bool := f.cmd == 0x0811 && bitOf (leAt f.body 24 4) 1 && !bitOf (leAt f.body 24 4) 0

/-- What a response says of the client's tickets on that Deck: a PENDING answer opens one, and a final TICKET_STATUS frees it. -/
def State.farUpdate (s : State) (f : FwdReq) (st num : Nat) : State :=
  let base := f.checksBase
  let far := s.pier.farTickets
  let far := if st == stPending && f.cmd != 0x0113 then
      far ++ [({ client := f.client, deck := f.deck, num := num, base := base, req := f.num, addr := leAt f.body 20 8,
                 failed := f.failed } : FarTicket)]
    else if f.cmd == 0x0113 && st != stPending then
      far.filter (fun t => !(t.client == f.client && t.deck == f.deck && t.num == leAt f.body 20 4))
    else far
  { s with pier := { s.pier with farTickets := far } }

/-- The origin's mailbox gets the response of a forwarded request (R69, R513), BULK_FAILED where bulk output failed on PCIe (R63). A
commit with CHECK_BASE ends a quarantine (R520); a PENDING answer's ticket counts here, and one for a lost client is aborted (R80). -/
def State.cplDone (s : State) (f : FwdReq) (resp : List Byte) : State :=
  let far := s.pier.farTickets.find? (fun t => f.cmd == 0x0113 && t.client == f.client && t.deck == f.deck && t.num == leAt f.body 20 4)
  let failed := f.failed || far.any (·.failed)
  let st := if failed && leAt resp 4 2 == stDone then stBulkFailed else leAt resp 4 2
  let num := leAt resp 8 4
  let s := { s with pier := { s.pier with forwarded := s.pier.forwarded.erase f } }
  if f.mb ≥ 16 then (if st == stPending && f.cmd != 0x0113 then s.farAbort f.deck f.client num else s)
  else
    let heals := st == stDone && (f.checksBase || far.any (·.base))
    let s := s.farUpdate f st num
    let s := if heals && (s.deckInfo f.deck).quarantine then
        (State.quarSet { s with pier := { s.pier with ledger := tabErase s.pier.ledger f.deck } } f.deck false).quarTell f.deck false 2
      else s
    let s := s.syncTickets f.client
    let r : Resp := { status := st, payload := if st == stBulkFailed then [] else sliceB resp 16 (leAt resp 6 2), ticket := num,
                      retry := leAt resp 12 2 }
    s.mbRespond f.mb f.cmd (s.getF (MbSeq.lastPosted f.mb)) r

/-- Bulk data for a request slot: the slot goes on once all of it is there. -/
def State.slotData (s : State) (x : ReqSlot) (off : Nat) (data : List Byte) : State :=
  let y := { x with data := x.data.take off ++ data, waits := x.bulk.any (fun b => decide (off + data.length < b.len)) }
  let s := { s with pier := { s.pier with slots := s.pier.slots.map (fun (z : ReqSlot) => if z == x then y else z) } }
  if y.waits then s else s.slotFeed

/-- Bulk output of a forwarded request, or of the ticket it opened, goes into the host buffer (R69); a failure there is remembered for
its final status (R63). -/
def State.bulkIn (s : State) (src num off : Nat) (data : List Byte) : State :=
  match s.pier.forwarded.find? (fun f => f.deck == src && f.num == num) with
  | some f =>
    if f.mb ≥ 16 then s
    else
      let (ok, s) := s.hostWrite (leAt f.body 20 8 + off) data
      if ok then s
      else { s with pier := { s.pier with forwarded := s.pier.forwarded.map (fun (g : FwdReq) =>
        if g == f then { g with failed := true } else g) } }
  | none =>
    match s.pier.farTickets.find? (fun t => t.deck == src && t.req == num) with
    | none => s
    | some t =>
      let (ok, s) := s.hostWrite (t.addr + off) data
      if ok then s
      else { s with pier := { s.pier with farTickets := s.pier.farTickets.map (fun (u : FarTicket) =>
        if u == t then { u with failed := true } else u) } }

/-- A completion for this Deck: data for a request slot that waits, bulk data of a forwarded request to host memory, or its response
to its mailbox. -/
def State.cplIn (s : State) (src num : Nat) (bulk : Bool) (off : Nat) (data : List Byte) : State :=
  let slot := s.pier.slots.find? (fun x => x.origin == src && x.num == num && x.waits)
  let sent := s.pier.forwarded.find? (fun f => f.deck == src && f.num == num)
  match bulk, slot, sent with
  | true, some x, none => s.slotData x off data
  | true, _, _ => s.bulkIn src num off data
  | false, _, some f => s.cplDone f data
  | false, _, none => s

/-- CPL_UNIT (R69, R513): a response or bulk data, for a mailbox of this Deck, for a request slot, or for another Deck. -/
def execCplUnit (p : Fin 2) (src dst : Fin 4) (num lseq : BitVec 16) (bulk : Bool) (off : BitVec 32) (data : List Byte)
    (s : State) : Host.Outcome State Fault Refusal :=
  let body := leBytes 2 num.toNat ++ leBytes 1 (b2n bulk) ++ [0] ++ (if bulk then leBytes 4 off.toNat else []) ++ data
  let s := s.pierRx p utCpl body.length
  .next (match s.pierTake p pcCpl lseq.toNat with
    | none => s
    | some s =>
      let s := s.creditBack p pcCpl (unitCells body)
      if dst.val != s.ownDeck then s.transit pcCpl utCpl src dst body
      else
        s.cplIn src num.toNat bulk off.toNat data)

/-- The record of an EVT unit (R453). -/
def evtRecord (src : Nat) (w : Nat) : EvRec :=
  { src := bitsOf w 11 0, kind := 2, deck := src, count := bitsOf w 23 16, sat := bitOf w 24, lost := bitOf w 25,
    inj := bitOf w 26, payload := bitsOf w 127 32 }

/-- EVT_UNIT (R466): on Deck 0, or the acting master, the record enters the queue of the same number; elsewhere it goes on. -/
def execEvtUnit (p : Fin 2) (src dst : Fin 4) (lseq : BitVec 16) (q : Fin 64) (rec : BitVec 128) (s : State) :
    Host.Outcome State Fault Refusal :=
  let body := leBytes 1 q.val ++ leBytes 16 rec.toNat
  let s := s.pierRx p utEvt body.length
  .next (match s.pierTake p pcEvt lseq.toNat with
    | none => s
    | some s =>
      let s := s.creditBack p pcEvt (unitCells body)
      if dst.val != s.ownDeck then s.transit pcEvt utEvt src dst body
      else if s.evqFill q ≥ 64 then s.evqDrop q
      else s.evqWrite q (evtRecord src.val rec.toNat))

/-! ### Discovery, split and unreachable Decks -/

/-- The members are fixed (R510): alone, the master, a member, or a member cut off from Deck 0 that waits to act. -/
def State.discovered (s : State) : State :=
  let before := s.getF CascStatus.reachable
  let s := s.topology
  let own := s.ownDeck
  if own == 0 then (if s.alone then s.setRole 0 else s.setRole 1)
  else if s.half.contains 0 then (s.setRole 2).spansReport
  else
    let s := ((s.setRole 2).setF CascStatus.split 1).cascEvent 3 own
    let s := s.splitNote 5 0xFF before own
    { s with pier := { s.pier with actingAt := some (s.after (msC (s.par oDeck 0x1700))) } }

/-- DISCOVERY_DEADLINE (R510): 200 ms after firmware start the members present are fixed. -/
def execDiscoveryDeadline (s : State) : Host.Outcome State Fault Refusal :=
  .next (match s.pier.discoverAt with
    | none => s
    | some d =>
      let s := s.timeTo d
      let s := { s with pier := { s.pier with discoverAt := none } }
      s.discovered)

/-- Cut off from Deck 0, the lowest reachable rank acts as master (R517, R518). -/
def State.actingTurn (s : State) : State :=
  let now := s.getF CascStatus.reachable
  let low := (s.half.foldl (fun a b => min a b) s.ownDeck)
  if s.half.contains 0 then s
  else
    let s := { s with pier := { s.pier with master := low } }
    if low == s.ownDeck then (((s.setRole 3).cascEvent 4 low).splitNote 2 0xFF now low).spansReport
    else (s.evqTargetSlept 5).evtSendAll.spansReport

/-- ACTING_DELAY_EXPIRY (R517, R518): the lowest reachable rank becomes acting master. -/
def execActingDelayExpiry (s : State) : Host.Outcome State Fault Refusal :=
  .next (match s.pier.actingAt with
    | none => s
    | some d =>
      let s := s.timeTo d
      let s := { s with pier := { s.pier with actingAt := none } }
      s.actingTurn)

/-- REQUEST_UNREACHABLE_TIMEOUT (R513): no path has returned within 1 s. -/
def execRequestUnreachableTimeout (s : State) : Host.Outcome State Fault Refusal :=
  .next (match s.pier.forwarded.find? (fun f => f.lostAt.isSome) with
    | none => s
    | some f =>
      let s := s.timeTo (f.lostAt.getD s.strand)
      let s := { s with pier := { s.pier with forwarded := s.pier.forwarded.erase f } }
      if f.mb ≥ 16 then s else s.mbRespond f.mb f.cmd (s.getF (MbSeq.lastPosted f.mb)) ⟨stDeckUnreachable, [], 0, 0⟩)

/-! ### The CASC commands (R509, R520, R523) -/

/-- A Deck's record of CASC.TOPOLOGY (R523). -/
def State.deckEntry (s : State) (d : Nat) : List Byte :=
  let i := s.deckInfo d
  let own := d == s.ownDeck
  let present := if own then (if s.quarantined d then 2 else 1) else if !i.known then 0 else if !bitOf (s.getF CascStatus.reachable) d then 3
    else if i.quarantine then 2 else 1
  leBytes 1 present ++ leBytes 1 (if own then b2n s.absentVariant else i.variant) ++ leBytes 1 (if own then 0 else i.hops) ++ [0]

/-- CASC.TOPOLOGY (R523). -/
def bodyCascTopology : Body := fun c s =>
  if !c.payload.isEmpty then s.answer stBadLength
  else
    let st := s.standbyLink.getD (0xFF, 0xFF)
    s.answer stDone ([s.getF CascStatus.role, s.getF CascStatus.topology, s.getF CascStatus.reachable, s.pier.master,
      st.1, st.2, 0, 0].flatMap (leBytes 1) ++ (List.range 4).flatMap s.deckEntry)

/-- CASC.STANDBY_LINK_SET (R509): staged as 2^16 + DECK_A + PORT_A × 256. -/
def bodyStandbyLinkSet : Body := fun c s =>
  let d := leAt c.payload 8 1
  let p := leAt c.payload 9 1
  let k := lockOf (pkey oDeck pidStandby)
  if (orefOf c.payload).typ != 0x01 then s.answer stBadObject
  else if s.locked c.client [k] then s.busyLock c [k]
  else if d > 3 || (p != 20 && p != 21) || leAt c.payload 10 2 != 0 then s.answer stBadValue
  else s.stage c [(pkey oDeck pidStandby, 2 ^ 16 + d + p * 256)]

/-- CASC.HEAL (R520). -/
def bodyCascHeal : Body := fun c s =>
  let d := leAt c.payload 0 1
  let i := s.deckInfo d
  if c.payload.length != 4 then s.answer stBadLength
  else if d > 3 || leAt c.payload 1 1 > 1 || leAt c.payload 2 2 != 0 then s.answer stBadValue
  else if !s.quarantined d then s.answer stWrongState
  else if leAt c.payload 1 1 == 0 then s.answer stDone
  else
    let e := if d == s.ownDeck then (s.gci.epoch, s.pier.commitId) else (i.epoch, i.commitId)
    let s := { s with pier := { s.pier with ledger := tabInsert s.pier.ledger d e } }
    (((s.quarSet d false).quarTell d false 2).cascEvent 5 d).answer stDone

/-- A split record's bytes (R523). -/
def SplitRec.bytes (r : SplitRec) : List Byte :=
  leBytes 6 r.stamp ++ [r.kind, r.port, r.before, r.after, r.leader, 0].flatMap (leBytes 1) ++ leBytes 4 r.epoch

/-- CASC.SPLIT_LOG (R523). -/
def bodySplitLog : Body := fun c s =>
  if !c.payload.isEmpty then s.answer stBadLength else s.answer stDone (s.pier.splitLog.flatMap SplitRec.bytes)

/-- The committed standby link takes effect at the epoch switch (R509). -/
def State.applyStandby (s : State) : State :=
  let v := s.par oDeck pidStandby
  if v == 0 then s
  else ({ s with pier := { s.pier with standby := some (v % 256, v / 256 % 256) } }).relink 0xFF

end Sys2Proof.Machine
end

