-- ==== Sys2Proof/Machine/Admit.lean ====
section
/-! DEFINITION. The static analysis of signal programs and the admission test of the SGE (R289, R290, R304, R305). -/

namespace Sys2Proof.Machine

/-! ### Paths through a program (R289, R290) -/

/-- What the paths from an instruction on give: the first offending instruction, the most instructions and SGE cycles on a
path to END, and the PDUs that they can trigger. -/
structure PathInfo where
  bad : Option Nat := none
  len : Nat := 0
  cost : Nat := 0
  trigs : List Nat := []
deriving DecidableEq, Repr

/-- An instruction of `cycles` in front of a path. -/
def PathInfo.after (i : PathInfo) (cycles : Nat) (trig : List Nat) : PathInfo :=
  { i with len := i.len + 1, cost := i.cost + cycles, trigs := (trig ++ i.trigs).eraseDups }

/-- Two ways on from one instruction. -/
def PathInfo.or (a b : PathInfo) : PathInfo :=
  { bad := match a.bad with
      | some x => some x
      | none => b.bad,
    len := max a.len b.len, cost := max a.cost b.cost, trigs := (a.trigs ++ b.trigs).eraseDups }

/-- Is a signal, or a PDU definition, defined? -/
def sgDefined (d : Nat) : Bool := d != 0
def pdDefined (d : Nat) : Bool := pdValid d

/-- Is a PACK or PACKK field inside the payload of LENGTH bytes? -/
def fieldInside (ps : List Nat) (len : Nat) : Bool := ps.all (fun p => decide (p < len * 8))

/-- Why an instruction on a path may not stand there (R290). `pdu`: the definition that the program felts, if it felts. -/
def State.instrBad (n : State) (pdu : Option Nat) (w : Nat) : Bool :=
  let sig := n.entry (oSignal (insSignal w))
  let pd := fun (i : Nat) => n.entry (oPdu i)
  match insOp w, pdu with
  | 0x01, none => !sgDefined sig || insLen w != sgWidth sig || (insField w).any (fun p => decide (p > 16383))
  | 0x02, some d => !sgDefined sig || !fieldInside (insField w) (pdLength d) ||
      (insUbEn w && !fieldInside [insUbPos w] (pdLength d))
  | 0x03, none => !pdDefined (pd (bitsOf w 13 0)) || pdTx (pd (bitsOf w 13 0))
  | 0x04, none => bitsOf w 44 37 == 0
  | 0x06, some d => !fieldInside (fieldPositions (insBig w) (insStart w) (bitsOf w 55 51 + 1)) (pdLength d)
  | 0x08, none => !pdDefined (pd (bitsOf w 13 0)) || !pdTx (pd (bitsOf w 13 0))
  | 0x00, _ => false
  | 0x05, _ => false
  | 0x07, _ => false
  | _, _ => true

/-- SGE cycles of an instruction (R288). -/
def State.instrCycles (n : State) (w : Nat) : Nat :=
  match insOp w with
  | 0x01 => 3
  | 0x02 => 3
  | 0x03 => 6 + ceilDiv (pdLength (n.entry (oPdu (bitsOf w 13 0)))) 8
  | 0x06 => 2
  | 0x08 => 2
  | _ => 1

/-- Every path from instruction `pc` on to END; `start` where it must be an ENTRY. The fuel bounds the longest path (R290). -/
def State.paths (n : State) (pdu : Option Nat) : Nat → Nat → Bool → PathInfo
  | 0, pc, _ => { bad := some pc }
  | f + 1, pc, start =>
    let w := n.instr false pc
    let op := insOp w
    if pc > 262143 then { bad := some 262143 }
    else if (op == 0x07) != start || n.instrBad pdu w then { bad := some pc }
    else
      let cyc := n.instrCycles w
      if op == 0x00 then { len := 1, cost := cyc }
      else if op == 0x05 then
        (if bitsOf w 17 0 ≤ pc then { bad := some pc } else (n.paths pdu f (bitsOf w 17 0) false).after cyc [])
      else if op == 0x04 then
        ((n.paths pdu f (pc + 1) false).or (n.paths pdu f (pc + 1 + bitsOf w 44 37) false)).after cyc []
      else (n.paths pdu f (pc + 1) false).after cyc (if op == 0x08 then [bitsOf w 13 0] else [])

/-- A program from its ENTRY on: at most 1,024 instructions on a path. -/
def State.program (n : State) (pdu : Option Nat) (pc : Nat) : PathInfo := n.paths pdu 1024 pc true

/-- Instructions that a program can reach (R290, its last rule). -/
def State.reached (n : State) : Nat → List Nat → List Nat
  | 0, l => l
  | f + 1, l =>
    let next := l.flatMap (fun pc =>
      let w := n.instr false pc
      match insOp w with
      | 0x00 => []
      | 0x05 => [bitsOf w 17 0]
      | 0x04 => [pc + 1, pc + 1 + bitsOf w 44 37]
      | _ => [pc + 1])
    let new := next.filter (fun pc => !l.contains pc)
    if new.isEmpty then l else n.reached f (l ++ new.eraseDups)

/-! ### Job kinds and their costs (R289) -/

/-- Routes that start carding, and transmit definitions in force. -/
def State.sgeRoutes (n : State) : List (Nat × Nat) := (n.listed 0x0D pidEntry).filter (fun kv => rtSge kv.2)
def State.txPdus (n : State) : List (Nat × Nat) := (n.listed 0x11 pidEntry).filter (fun kv => pdValid kv.2 && pdTx kv.2)

/-- Cost of a felting job in SGE cycles. -/
def State.feltCost (n : State) (d : Nat) : Nat :=
  24 + 4 * ceilDiv (pdLength d) 64 + (if pdCrc d != 0 then 2 + ceilDiv (pdLength d) 8 else 0) +
  (n.program (some d) (pdProgram d)).cost

/-- Cost of a carding job with an input of `cells` cells. -/
def State.cardCost (n : State) (pc cells : Nat) : Nat := 24 + 4 * cells + (n.program none pc).cost

/-! ### Arrivals (R305). Times in quarters of a nanosecond: an SGE cycle of 2.5 ns is 10, a CAN clock of 6.25 ns is 25. -/

def sgeUnits (cycles : Nat) : Nat := cycles * 10
def nsUnits (ns : Nat) : Nat := ns * 4

/-- Nominal and data bit times of a CAN Channel, in CAN clock cycles (R160, R161). -/
def nominalCycles (w : Nat) : Nat := (bitsOf w 8 0 + 1) * (3 + bitsOf w 23 16 + bitsOf w 15 9)
def dataCycles (w : Nat) : Nat := (bitsOf w 4 0 + 1) * (3 + bitsOf w 13 8 + bitsOf w 20 16)

/-- Duration of the shortest frame of a CAN Channel: 47 nominal bits, or an FD frame of no data with BRS (PRESUMED from ISO
11898-1, log entry 26: 29 nominal and 27 data bits). -/
def State.canShortest (n : State) (c : Nat) : Nat :=
  let nom := nominalCycles (n.par (oChan c) 0x0101)
  let dat := dataCycles (n.par (oChan c) 0x0102)
  25 * (if n.par (oChan c) 0x0100 == 0 then 47 * nom else min (47 * nom) (29 * nom + 27 * dat))

/-- Largest input of a Channel's frames, in cells of its record. -/
def State.inputCells (n : State) (c : Nat) : Nat :=
  if c ≥ 88 then 1 else match n.par (oChan c) 0x0100 with | 0 => 1 | 3 => 33 | _ => 2

/-- Routes that the frames of a CAN or LIN Channel reach (R231). -/
def State.routesFrom (n : State) (c : Nat) : List Nat :=
  if c ≥ 88 then ((List.range 64).map (fun i => n.par (oChan c) (0x0A00 + i))).eraseDups.filter (· != 0)
  else
    let direct := n.cfg.filterMap (fun kv =>
      let o := pkeyObj kv.1
      if keyTyp o == 0x0B && keyChan o == c && pkeyPid kv.1 == pidRaw 0 then some kv.2 else none)
    let hash := (n.listed 0x0C (pidRaw 0)).filterMap (fun kv =>
      if hashValid kv.2 && bitsOf kv.2 53 48 + 24 == c then some (hashRoute kv.2) else none)
    (direct ++ hash).eraseDups.filter (· != 0)

/-- Routes that the messages of a stream entry reach (R308), each with the cells of its largest record: a CAN FD record takes two, a
LIN record one. -/
def State.streamRoutes (n : State) (i : Nat) : List (Nat × Nat) :=
  ((List.range 64).map (fun b => (n.par (oStream i) (0x0C00 + b), if b < 32 then 2 else 1))).eraseDups.filter (fun r => r.1 != 0)

/-- Stream entries with ACTION 2. -/
def State.unbundled (n : State) : List (Nat × Nat) :=
  (n.listed 0x08 pidEntry).filter (fun kv => bitOf kv.2 60 && bitsOf kv.2 79 78 == 2)

/-- One source of arrivals: how many can fall into an interval, the largest cost of one and its jobs. -/
structure Arrival where
  /-- Least interval, or for a stream its burst in bytes and its rate in bit/s. -/
  every : Nat
  stream : Option (Nat × Nat) := none
  cost : Nat
  jobs : Nat
deriving DecidableEq, Repr

/-- Arrivals of a source in an interval of `l` quarter nanoseconds. -/
def Arrival.count (a : Arrival) (l : Nat) : Nat :=
  match a.stream with
  | none => l / a.every + 1
  | some (burst, rate) => ceilDiv (burst * 32000000000 + rate * l) 256000000000

/-- The largest cost, and number of jobs, of one arrival at the routes named, each with the cells of its input. -/
def State.arrivalCost (n : State) (routes : List (Nat × Nat)) : Nat × Nat :=
  (routes.filter (fun r => rtSge (n.entry (oRoute r.1)))).foldl (fun (m : Nat × Nat) r =>
    let pc := rtProgram (n.entry (oRoute r.1))
    let felt := ((n.program none pc).trigs.map (fun p => n.entry (oPdu p))).filter (fun d => pdMode d != 2)
    let c := n.cardCost pc r.2 + (felt.map (fun d => n.feltCost d)).sum
    (max m.1 c, max m.2 (1 + felt.length))) (0, 0)

/-- The sources of R305. -/
def State.arrivals (n : State) : List Arrival :=
  let chans := ((List.range 80).map (· + 24)).filterMap (fun c =>
    let a := n.arrivalCost ((n.routesFrom c).map (fun r => (r, n.inputCells c)))
    if a.2 == 0 then none
    else
      let t := if c ≥ 88 then 54 * 4000000000 / n.par (oChan c) 0x0101 else n.canShortest c
      some ({ every := t, cost := sgeUnits a.1, jobs := a.2 } : Arrival))
  let streams := n.unbundled.filterMap (fun kv =>
    let a := n.arrivalCost (n.streamRoutes kv.1)
    let m := n.entry (oMeter (bitsOf kv.2 75 64))
    if a.2 == 0 then none
    else some ({ every := 1, stream := some (bitsOf m 79 64 * 64, bitsOf m 31 0 * 1000), cost := sgeUnits a.1, jobs := a.2 } : Arrival))
  chans ++ streams

/-- Period and phase, in quarter nanoseconds, of the timers that release PDUs. -/
def State.liveTimers (n : State) : List (Nat × Nat) :=
  (n.txPdus.filter (fun kv => pdMode kv.2 ≥ 2)).map (fun kv =>
    let t := oTimer (pdTimer kv.2)
    (nsUnits (n.par t 0x0100 * 1000), nsUnits (n.par t 0x0101 * 1000)))

/-- Releases of a timer in the closed interval of length `l` from `t` on. -/
def timerCount (p : Nat × Nat) (t l : Nat) : Nat :=
  let upTo := fun (x : Nat) => if x < p.2 then 0 else (x - p.2) / p.1 + 1
  upTo (t + l) - (if t == 0 then 0 else upTo (t - 1))

/-- N_T of R305: the most timer releases in any interval of length `l`. The most fall into an interval that starts at a
boundary, within one common period of the timers. -/
def timersIn (ts : List (Nat × Nat)) (l : Nat) : Nat :=
  let all := ts.foldl (fun a p => Nat.lcm a p.1) 1
  let top := (ts.map (fun p => p.2)).foldl (fun a b => max a b) 0
  let starts := ts.flatMap (fun p => (List.range (all / p.1 + top / p.1 + 1)).map (fun j => p.2 + j * p.1))
  starts.foldl (fun m t => max m ((ts.map (fun p => timerCount p t l)).sum)) 0

/-- What the test of R305 finds: the least slack in 1/64 ns with its kind's program, C_max and D_max in quarter nanoseconds,
PENDING and the number of kinds. -/
structure Admission where
  slack : Int := 0
  kind : Option Nat := none
  cMax : Nat := 0
  dMax : Nat := 0
  pend : Nat := 0
  kinds : Nat := 0
deriving DecidableEq, Repr

/-- ENTRY deadline of a program, in quarter nanoseconds. -/
def State.deadlineUnits (n : State) (pc : Nat) : Nat := nsUnits (bitsOf (n.instr false pc) 19 0)

/-- The test of R305 over a configuration. -/
def State.admission (n : State) : Admission :=
  let inputs := ((List.range 80).map (· + 24)).flatMap (fun c => (n.routesFrom c).map (fun r => (r, n.inputCells c))) ++
    n.unbundled.flatMap (fun kv => n.streamRoutes kv.1)
  let cells := fun (pc : Nat) => inputs.foldl (fun m r =>
    if rtSge (n.entry (oRoute r.1)) && rtProgram (n.entry (oRoute r.1)) == pc then max m r.2 else m) 1
  let cards := (n.sgeRoutes.map (fun kv => rtProgram kv.2)).eraseDups.map (fun pc => (pc, sgeUnits (n.cardCost pc (cells pc))))
  let felts := (n.txPdus.map (fun kv => (pdProgram kv.2, sgeUnits (n.feltCost kv.2)))).eraseDups
  let kinds := (cards ++ felts).map (fun k => (k.1, k.2, n.deadlineUnits k.1))
  let cMax := kinds.foldl (fun m k => max m k.2.1) 0
  let dMax := kinds.foldl (fun m k => max m k.2.2) 0
  let src := n.arrivals
  let timers := n.liveTimers
  let cT := ((n.txPdus.filter (fun kv => pdMode kv.2 ≥ 2)).map (fun kv => sgeUnits (n.feltCost kv.2))).foldl (fun a b => max a b) 0
  let outs := (((n.listed 0x10 pidEntry).filter (fun kv => sgPduEn kv.2)).map (fun kv => sgPdu kv.2)).eraseDups
  let cTo := (outs.map (fun p => sgeUnits (n.feltCost (n.entry (oPdu p))))).sum
  let w := fun (l : Nat) => (src.map (fun a => a.count l * a.cost)).sum + timersIn timers l * cT + cTo
  let slack := fun (k : Nat × Nat × Nat) =>
    (16 * k.2.2 : Int) - ((16 * cMax + w (k.2.2 + dMax) + 16 * k.2.1 : Nat) : Int)
  let least := kinds.foldl (fun (m : Option (Int × Nat)) k =>
    match m with
    | none => some (slack k, k.1)
    | some (x, pc) => if slack k < x then some (slack k, k.1) else some (x, pc)) none
  { slack := (least.map (·.1)).getD 0, kind := least.map (·.2), cMax := cMax, dMax := dMax,
    pend := (src.map (fun a => a.count dMax * a.jobs)).sum + timersIn timers dMax + outs.length, kinds := kinds.length }

/-- Does the configuration pass the test? -/
def Admission.ok (a : Admission) : Bool := (a.kind.isNone || decide (0 ≤ a.slack)) && decide (a.pend ≤ 4096)

end Sys2Proof.Machine
end

