-- ==== Sys2Proof/Machine/Validate.lean ====
section
/-! DEFINITION. The checks of ROUTE.COMMIT (R96): what a draft may not leave. Each answers the objects that fail; the first of
them, in the order of the spec's chapters, is the one that is answered (log entry 27). -/

namespace Sys2Proof.Machine

/-- A draft's changes, each key once with its latest value, in the order first changed. -/
def finalChanges (ch : List (Nat × Nat)) : List (Nat × Nat) :=
  (ch.map (·.1)).reverse.eraseDups.filterMap (fun k => ch.find? (fun kv => kv.1 == k))

/-- Is a key that of a route, a direct-table entry or a Fallback entry, which at epoch 0 only first-light writes (R45)? -/
def isFirstLight (k : Nat) : Bool := keyTyp (pkeyObj k) == 0x0D || keyTyp (pkeyObj k) == 0x0B || keyTyp (pkeyObj k) == 0x0E

/-- The committed values that the first commit finds: it replaces every first-light route and direct-table entry (R38). -/
def State.cfgBase (s : State) : Tab Nat := if s.gci.epoch = 0 then s.cfg.filter (fun kv => !isFirstLight kv.1) else s.cfg

/-- The configuration that a draft's changes would leave. -/
def State.overlay (s : State) (ch : List (Nat × Nat)) : State :=
  let s := { s with cfg := s.cfgBase }
  ch.foldl (fun (s : State) kv =>
    if inNvm kv.1 then { s with brim := { s.brim with nvm := tabSet cfgDefault s.brim.nvm kv.1 kv.2 } }
    else { s with cfg := tabSet cfgDefault s.cfg kv.1 kv.2 }) s

/-- A test that fails the object when it holds. -/
def failIf (o : Nat) (b : Bool) : List Nat := if b then [o] else []

/-- In a Viaduct (R104). -/
def State.cascaded (s : State) : Bool := s.getF CascStatus.role != 0 || s.ownDeck != 0

/-! ### Clients and Spans (R108, R109) -/

/-- Mailboxes of a client as a draft leaves them: 16 bits. -/
def State.clientMask (s : State) (ch : List (Nat × Nat)) (c : Nat) : Nat :=
  match ch.find? (fun kv => kv.1 == pkey (oClient c) (pidRaw 0)) with
  | some kv => bitsOf kv.2 15 0
  | none => maskOf ((List.range 16).filter (fun n => s.mbOf n c))

/-- One mailbox in two clients. -/
def State.badClients (s : State) (ch : List (Nat × Nat)) : List Nat :=
  (List.range 8).flatMap (fun c =>
    failIf (oClient c) ((List.range c).any (fun d =>
      (List.range 16).any (fun n => bitOf (s.clientMask ch c) n && bitOf (s.clientMask ch d) n))))

/-- A Channel moves while its Span, or the other, is not AWAKE. -/
def State.badMoves (s : State) (ch : List (Nat × Nat)) : List Nat :=
  (ch.filter (fun kv => pkeyPid kv.1 == pidSpan)).flatMap (fun kv =>
    let c := keyChan (pkeyObj kv.1)
    failIf (oSpan (s.spanOf c)) (s.spanState (s.spanOf c) != spAwake) ++ failIf (oSpan kv.2) (s.spanState kv.2 != spAwake))

/-! ### Ports and Channels (R126, R162, R198) -/

/-- R126. -/
def State.badPorts (n : State) : List Nat :=
  (List.range 20).flatMap (fun p =>
    let o := oChan p
    let g := fun (pid : Nat) => n.par o pid
    let use := if g 0x0200 == 1 then [0] else if g 0x0200 == 2 then maskBits 8 (g 0x0202) else []
    let twin := fun (q : Nat) => n.par (oChan q) 0x0300 == 1 && n.par (oChan q) 0x0306 == g 0x0306 &&
      n.par (oChan q) 0x0301 == g 0x0301
    if p ≤ 11 then
      failIf o (use.any (fun c => decide (g (0x0220 + c) ≥ g (0x0210 + c))) || (g 0x0200 == 2 && g 0x0202 == 0) ||
        g 0x0403 == 0xFF)
    else failIf o (g 0x0300 == 1 && (List.range 20).any (fun q => decide (12 ≤ q) && q != p && twin q)))

/-- Does a CAN Channel's timing break R162? -/
def State.canTimingBad (n : State) (k : Nat) : Bool :=
  let g := fun (pid : Nat) => n.par (oChan (24 + k)) pid
  let m := g 0x0100
  let w := g 0x0101
  let d := g 0x0102
  let nom := nominalCycles w
  let dat := dataCycles d
  let top := if m == 1 then (if k ≤ 15 then 32 else 16) else if m == 2 then 20 else if g 0x0104 == 1 then 8 else 16
  decide (bitsOf w 23 16 + bitsOf w 15 9 + 3 < 8) || decide (bitsOf w 30 24 > bitsOf w 15 9) || decide (nom < 160) ||
  decide (nom > 16000) ||
  (m != 0 && (decide (bitsOf d 13 8 + bitsOf d 20 16 + 3 < 5) || decide (bitsOf d 28 24 > bitsOf d 20 16) ||
    decide (dat > nom) || decide (dat < top) || (decide (dat < 160) && !bitOf d 29) ||
    (bitOf d 29 && decide (bitsOf d 4 0 > 1))))

def State.badCan (n : State) : List Nat :=
  (List.range 64).flatMap (fun k => failIf (oChan (24 + k)) (!n.lacksCan k && n.canTimingBad k))

/-- R198 over one schedule. -/
def State.schedBad (n : State) (k t : Nat) : Bool :=
  (List.range (n.schedCount k t)).any (fun e =>
    let (typ, id, slot, arg) := n.schedEntry k t e
    let ids := (List.range 4).map (fun i => bitsOf arg (8 * i + 7) (8 * i)) |>.filter (· != 0xFF)
    let len := if typ ≤ 1 then n.linLen k id else if typ == 2 then (ids.map (fun i => n.linLen k i)).foldl (fun a b => max a b) 1 else 8
    decide (slot * 80000 < n.linBits k (tFrameMax len)) ||
    (typ == 2 && ids.any (fun i => linDir (n.linFrame k i) != 1)))

def State.badLin (n : State) : List Nat :=
  (List.range 16).flatMap (fun k =>
    if n.lacksLin k then [] else (List.range 32).flatMap (fun t => failIf (oSched (88 + k) t) (n.schedBad k t)))

/-! ### VLANs, streams and meters (R214, R219, R254, R305, R329) -/

def State.badVlans (n : State) : List Nat :=
  ((if n.entry (oVlan 1) == vlan1Reset then [(1, vlan1Reset)] else []) ++ n.listed 0x07 pidEntry).flatMap (fun (kv : Nat × Nat) =>
    let e := kv.2
    failIf (oVlan kv.1) (bitOf e 23 && (bitsOf e 107 96 == 0 ||
      (List.range 23).any (fun p => bitOf e (64 + p) && !bitOf e p))))

def State.badStreams (n : State) : List Nat :=
  let l := (n.listed 0x08 pidEntry).filter (fun kv => bitOf kv.2 60)
  l.flatMap (fun kv =>
    let e := kv.2
    let same := fun (f : Nat) => bitsOf f 47 0 == bitsOf e 47 0 && bitsOf f 59 48 == bitsOf e 59 48 && bitOf f 61 == bitOf e 61
    let bind := n.par (oQueue (800 + bitsOf e 106 96)) 0x0101
    let m := n.entry (oMeter (bitsOf e 75 64))
    failIf (oStream kv.1) (l.any (fun o => o.1 != kv.1 && same o.2) || (bitOf e 107 && decide (bind > 21)) ||
      (bitOf e 76 && bitsOf m 63 0 == 0) || (bitsOf e 79 78 == 2 && !bitOf e 76)))

def State.badMeters (n : State) : List Nat :=
  let lim := (List.range 20).foldl (fun a p => max a (n.par (oChan p) 0x0103)) 0
  (n.listed 0x0A pidEntry).flatMap (fun kv =>
    failIf (oMeter kv.1) (bitsOf kv.2 31 0 != 0 && decide (bitsOf kv.2 79 64 * 64 < lim)))

/-! ### Routes (R239, R252, R331, R526) -/

/-- What the frames of a CAN Channel can be: 0 classical, 1 also FD, 2 also XL. -/
def formatLevel (mode : Nat) : Nat := if mode == 0 then 0 else if mode == 3 then 2 else 1

/-- The formats beyond classical that CAN[`k`] carries (R158): bit 0 FD, bit 1 FD with BRS, which a mode-3 Channel above 10 Mbit/s does
not carry (R162), bit 2 XL. -/
def State.chanFormats (n : State) (k : Nat) : Nat :=
  let m := n.par (oChan (24 + k)) 0x0100
  b2n (m != 0) + 2 * b2n (m != 0 && (m != 3 || decide (dataCycles (n.par (oChan (24 + k)) 0x0102) ≥ 16))) + 4 * b2n (m == 3)

/-- Can CAN[`k`] carry frames of every one of the formats (R158, R239)? -/
def State.carriesFormats (n : State) (k f : Nat) : Bool := (f &&& n.chanFormats k) == f

/-- Entries that name a route: the naming object, the route, and the formats of the frames it brings, as `chanFormats` numbers them; LIN
entries bring LIN frames, with their Channel and ID. -/
structure RouteRef where
  obj : Nat
  route : Nat
  formats : Nat := 0
  ident : Option Nat := none
  lin : Option (Nat × Nat) := none
deriving DecidableEq, Repr

/-- The entries that name routes. XL frames read the direct table alone (R231). -/
def State.routeRefs (n : State) : List RouteRef :=
  let direct := n.cfg.filterMap (fun kv =>
    let o := pkeyObj kv.1
    if keyTyp o == 0x0B && pkeyPid kv.1 == pidRaw 0 then
      some ({ obj := o, route := kv.2, formats := n.chanFormats (keyChan o - 24), ident := some (keyIdx o) } : RouteRef) else none)
  let hash := (n.listed 0x0C (pidRaw 0)).filterMap (fun kv =>
    if hashValid kv.2 then
      some ({ obj := oHash kv.1, route := hashRoute kv.2, formats := n.chanFormats (bitsOf kv.2 53 48) % 4,
              ident := some (bitsOf kv.2 5 0) } : RouteRef)
    else none)
  let lin := n.cfg.filterMap (fun kv =>
    let o := pkeyObj kv.1
    let pid := pkeyPid kv.1
    if keyTyp o == 0x04 && decide (0x0A00 ≤ pid ∧ pid ≤ 0x0A3D) then
      some ({ obj := o, route := kv.2, lin := some (keyChan o - 88, pid - 0x0A00) } : RouteRef) else none)
  direct ++ hash ++ lin

/-- Copies a route, or a Fallback entry, can ask for (R252). -/
def copyCount (e : Nat) (mirrored : Bool) : Nat :=
  popCount 64 (rtCan e) + b2n (rtAltSplit e && !bitOf (rtCan e) (rtAltTo e)) + popCount 16 (rtLin e) + b2n (rtRxq e) +
  b2n (rtHost e) + b2n (rtSge e) + b2n (rtBundle e != 0) + popCount 4 (rtDecks e) + b2n mirrored

/-- CAN destinations a route may use, alternates included. -/
def routeCans (e : Nat) : List Nat :=
  (maskBits 64 (rtCan e) ++ (if rtAltEn e || rtAltSplit e then [rtAltTo e] else [])).eraseDups

/-- Does a LIN destination's frame table publish what a reference brings (R196, R238, R239)? A CAN frame's length is not known before
it comes, and R238 tests it then; a LIN frame for a diagnostic queue is never changed and needs no publish entry (DEDUCED, log entry
58). -/
def State.linTakes (n : State) (k e : Nat) (r : RouteRef) : Bool :=
  match r.lin with
  | some (c, id) => rtDiag e || (linDir (n.linFrame k id) == 1 && n.linLen c id == linLength (n.linFrame k id))
  | none => linDir (n.linFrame k (if rtLinIdEn e then rtLinId e else bitsOf (r.ident.getD 0) 5 0)) == 1

/-- The tests of R239 that an entry of the route table and one of the Fallback set (R240) have in common: its alternate, and
destinations that carry what the references to its index bring. -/
def State.destsBad (n : State) (refs : List RouteRef) (i e : Nat) : Bool :=
  let mine := refs.filter (fun r => r.route == i)
  let formats := mine.foldl (fun m r => m ||| r.formats) 0
  (routeCans e).any n.lacksCan || (maskBits 16 (rtLin e)).any n.lacksLin ||
  (rtAltEn e && (!bitOf (rtCan e) (rtAltFor e) || rtAltTo e == rtAltFor e)) ||
  (!mine.isEmpty && (routeCans e).any (fun k => !n.carriesFormats k formats)) ||
  (maskBits 16 (rtLin e)).any (fun k => mine.any (fun r => !n.linTakes k e r)) ||
  decide (copyCount e (n.par (oRoute i) pidMirror != 0) > 63)

def State.routeBad (n : State) (refs : List RouteRef) (i e : Nat) : Bool :=
  let bundle := n.entry (oQueue (bundleQueue (rtBundle e)))
  n.destsBad refs i e ||
  (rtAltSplit e && rtDecks e == 0) ||
  (rtSge e && n.instr false (rtProgram e) == 0) ||
  (rtBundle e != 0 && (!buEnable bundle || n.par (oQueue (bundleQueue (rtBundle e))) 0x0101 != 25)) ||
  (rtAuth e != 0 && n.entry (oProfile (rtAuth e)) == 0) ||
  (rtDecks e != 0 && (bitOf (rtDecks e) n.ownDeck || rtRemoteRoute e == 0)) ||
  (rtRate e && n.entry (oRate i) == 0) ||
  (rtSafety e && (rtAge e == 0 || n.entry (oFallback i) == 0))

def State.badRoutes (n : State) : List Nat :=
  let refs := n.routeRefs
  refs.flatMap (fun r => failIf r.obj (r.route != 0 && n.entry (oRoute r.route) == 0)) ++
  (n.listed 0x0D pidEntry).flatMap (fun kv => failIf (oRoute kv.1) (n.routeBad refs kv.1 kv.2)) ++
  (n.listed 0x0E pidEntry).flatMap (fun kv => failIf (oFallback kv.1) (n.destsBad refs kv.1 kv.2))

/-! ### Buffer and egress (R254, R259, R313, R319, R321, R333) -/

/-- Is a queue one that the variant lacks (R2)? -/
def State.lacksQueue (n : State) (q : Nat) : Bool :=
  n.absentVariant && (decide (480 ≤ q ∧ q ≤ 735) || decide (752 ≤ q ∧ q ≤ 767) || decide (184 ≤ q ∧ q ≤ 191))

/-- Σ RESERVED over the queues that exist: the reset values, corrected by what is listed. -/
def State.reservedSum (n : State) : Nat :=
  let base : Int := if n.absentVariant then (784 - 280) * 32 else 784 * 32
  ((n.listed 0x05 0x0100).foldl (fun (a : Int) kv =>
    if n.lacksQueue kv.1 then a else a + (kv.2 : Int) - (cfgDefault (pkey (oQueue kv.1) 0x0100) : Int)) base).toNat

def State.headroomSum (n : State) : Nat :=
  ((List.range 12).map (fun p => if n.fcMode p == 0 then 0 else n.par (oChan p) 0x0204)).sum

def State.badBuffer (n : State) : List Nat :=
  let k := n.par oDeck 0x0200
  failIf oDeck ((k != 0 && decide (n.par oDeck 0x0201 > k)) || decide (k + n.headroomSum + n.reservedSum > 131072))

def State.badEgress (n : State) : List Nat :=
  (List.range 22).flatMap (fun p =>
    let o := oChan p
    let r := n.portRate p
    let len := n.par o 0x0103
    let grp := fun (c : Nat) => bitsOf (n.par o 0x0D00) (3 * c + 2) (3 * c)
    let pre := if p ≤ 11 && n.par o 0x0400 == 1 then n.par o 0x0403 else 0
    let order := (List.range 8).any (fun c => (List.range 8).any (fun d =>
      bitOf pre c && !bitOf pre d && decide (grp c > grp d)))
    let cls := (List.range 8).map (fun c => n.classShaper p c)
    let sq := (n.listed 0x05 0x0101).filter (fun kv => kv.2 == p && decide (800 ≤ kv.1))
    let lowBad := fun (h : ShaperPar) => h.slope != 0 && decide (h.lo < loBound len r h.slope)
    let sqOver := (List.range 8).any (fun c =>
      let h := n.classShaper p c
      h.slope != 0 && decide (((sq.filter (fun kv => n.par (oQueue kv.1) 0x0104 == c)).map
        (fun kv => (n.streamShaper kv.1).slope)).sum > h.slope))
    failIf o (order || decide ((cls.map (·.slope)).sum > r) || cls.any lowBad ||
      sq.any (fun kv => lowBad (n.streamShaper kv.1)) || sqOver))

/-- Gate entries that the operational lists and every pending list would need (R321). -/
def State.badGates (s n : State) (ch : List (Nat × Nat)) : List Nat :=
  let staged := fun (p : Nat) => ch.any (fun kv => pkeyObj kv.1 == oGate p)
  let need := ((List.range 22).map (fun p =>
    let g := s.gate p
    let off := staged p && n.par (oGate p) (pidRaw 0) == 0
    if off then 0
    else (match g.oper with | some l => l.entries.length | none => 0) +
      (if staged p then n.par (oGate p) (pidRaw 1) else match g.pend with | some (l, _) => l.entries.length | none => 0))).sum
  if need > 16384 then ((List.range 22).filter staged).map oGate else []

/-- Samples per second of the histograms (R333). -/
def State.badHistograms (n : State) : List Nat :=
  let l := (n.listed 0x05 (pidRaw 0)).filter (fun kv => kv.2 != 0)
  let sum := (l.map (fun kv => n.par (oQueue kv.1) (pidRaw 1))).foldl (fun (a : Nat × Nat) t => (a.1 * t + 1000000 * a.2, a.2 * t)) (0, 1)
  failIf oDeck (decide (sum.1 > 400 * sum.2))

/-! ### Signals (R290, R297, R306, R309) -/

/-- Can a CAN destination carry a composed PDU (R158)? -/
def State.pduCanBad (n : State) (d k : Nat) : Bool :=
  let m := n.par (oChan (24 + k)) 0x0100
  let f := pdFormat d
  !lenOk f (pdLength d) || decide (f > formatLevel m) ||
  (f == 1 && m == 3 && pdBrs d && decide (dataCycles (n.par (oChan (24 + k)) 0x0102) < 16))

/-- Protection fields outside LENGTH, or overlapping (R297). -/
def protBad (d : Nat) : Bool :=
  let w := crcWidth (pdCrc d) * 8
  let crc := (List.range w).map (fun i => pdCrcByte d * 8 + i)
  let cnt := if pdCntEn d then (List.range (pdCntWidth d)).map (fun i => pdCntPos d + i) else []
  (crc ++ cnt).any (fun b => decide (b ≥ pdLength d * 8)) || crc.any (fun b => cnt.contains b)

def State.pduBad (n : State) (i d : Nat) : Bool :=
  let q := pdQueue d
  let kind := (decide (224 ≤ q ∧ q < 736) && !n.lacksCan ((q - 224) / 8)) ||
    (decide (736 ≤ q ∧ q < 768) && q % 2 == 0 && !n.lacksLin ((q - 736) / 2)) || decide (768 ≤ q ∧ q < 800) ||
    (decide (800 ≤ q) && n.par (oQueue q) 0x0101 == 25)
  let lin := n.linFrame ((q - 736) / 2) (bitsOf (pdId d) 5 0)
  !kind || (decide (224 ≤ q ∧ q < 736) && n.pduCanBad d ((q - 224) / 8)) ||
  (decide (736 ≤ q ∧ q < 768) && (decide (pdId d > 59) || linDir lin != 1 || linLength lin != pdLength d)) ||
  (pdFormat d == 2 && decide (800 ≤ q)) ||
  -- a definition of MODE 0 or 1 uses no timer, and shares none (DEDUCED, log entry 110)
  (pdMode d ≥ 2 && n.txPdus.any (fun kv => kv.1 != i && decide (pdMode kv.2 ≥ 2) && pdTimer kv.2 == pdTimer d)) ||
  protBad d || (decide (800 ≤ q) && !buEnable (n.entry (oQueue q)))

def State.badPrograms (s n : State) (ch : List (Nat × Nat)) : List Nat :=
  let offence := fun (i : PathInfo) => match i.bad with
    | some pc => [oProgram pc]
    | none => []
  let used := (s.sgeRoutes.map (fun kv => rtProgram kv.2)) ++ s.txPdus.map (fun kv => pdProgram kv.2)
  let live := s.reached 1024 used.eraseDups
  n.sgeRoutes.flatMap (fun kv => offence (n.program none (rtProgram kv.2))) ++
  n.txPdus.flatMap (fun kv => offence (n.program (some kv.2) (pdProgram kv.2))) ++
  ch.flatMap (fun kv => failIf (pkeyObj kv.1) (keyTyp (pkeyObj kv.1) == 0x13 && live.contains (keyIdx (pkeyObj kv.1)) &&
    kv.2 != s.committed kv.1))

/-- R306: the frame that MAX_PAYLOAD allows; and an OUT_QUEUE that is no stream queue bound to one of F[0] to F[19] leaves its range,
which only the whole draft shows (DEDUCED, log entry 110). -/
def State.badBundles (n : State) : List Nat :=
  ((n.listed 0x05 pidEntry).filter (fun kv => buEnable kv.2)).flatMap (fun kv =>
    failIf (oQueue kv.1) (match n.queuePort (buOut kv.2) with
      | some p => decide (p > 19) || decide (buFrameLen kv.2 > n.par (oChan p) 0x0103)
      | none => true))

def State.badSgeMode (n : State) : List Nat :=
  failIf oDeck (n.par oDeck 0x0C80 != 0 &&
    ((n.listed 0x0D pidEntry).any (fun kv => rtSge kv.2 || rtBundle kv.2 != 0) ||
     (n.listed 0x08 pidEntry).any (fun kv => bitOf kv.2 60 && bitsOf kv.2 79 78 == 2) ||
     n.txPdus.any (fun kv => decide (pdMode kv.2 ≥ 2))))

def State.badSignals (s n : State) (ch : List (Nat × Nat)) : List Nat :=
  s.badPrograms n ch ++ n.txPdus.flatMap (fun kv => failIf (oPdu kv.1) (n.pduBad kv.1 kv.2)) ++ n.badBundles ++ n.badSgeMode

/-! ### Time, power, Spans (R342, R365, R380) -/

def State.badTime (n : State) : List Nat :=
  let mode := fun (d : Nat) => n.par (oClock d) 0x0100
  (List.range 2).flatMap (fun d =>
    let g := fun (pid : Nat) => n.par (oClock d) pid
    let m := g 0x0100
    failIf (oClock d) ((decide (g 0x0102 ≤ 11) && bitOf (g 0x0103) (g 0x0102)) || (m == 1 && g 0x0102 == 255) ||
      (decide (m ≥ 2) && g 0x0102 != 255) ||
      (d == 1 && mode 0 != 0 && mode 1 != 0 && n.par (oClock 0) 0x0101 == n.par (oClock 1) 0x0101) ||
      ((m == 1 || m == 2) && n.cascaded && n.ownDeck != 0) || (m == 3 && (n.ownDeck == 0 || !n.cascaded))))

def State.badPower (n : State) : List Nat :=
  let role := fun (i : Nat) => n.nvmPar (0x0F10 + i)
  let g := fun (pid : Nat) => n.par oDeck pid
  failIf oDeck ((g 0x0F00 == 2 && !(List.range 4).any (fun i => role i == 1)) ||
    (List.range 4).any (fun i => role i == 1 && n.nvmPar (0x0F20 + i) == 0) || decide (g 0x0F31 ≤ g 0x0F30) ||
    (List.range 4).any (fun i => role i == 2 && bitOf (n.nvmPar (0x0F18 + i)) 0) || (g 0x0F02 != 0 && g 0x0F00 == 0))

def State.badSpans (n : State) : List Nat :=
  (List.range 16).flatMap (fun i =>
    let g := fun (pid : Nat) => n.spanPar i pid
    failIf (oSpan i) ((maskBits 8 (g 0x010D)).any (fun p => bitsOf (n.nvmPar (0x1300 + p)) 1 0 == 0) ||
      ([20, 21].any (fun p => n.chanEnabled p && n.spanOf p == i) && g 0x0100 == 1 && g 0x0111 == 0) ||
      (g 0x0111 == 1 && !n.cascaded) || (g 0x0108 == 255 && g 0x0107 != 0))) ++
  (List.range 64).flatMap (fun k =>
    let nom := nominalCycles (n.par (oChan (24 + k)) 0x0101)
    failIf (oChan (24 + k)) (bitOf (n.par (oChan (24 + k)) pidSwake) 0 && !([1280, 640, 320, 160] : List Nat).contains nom))

/-! ### Security, Trestle, storage, Pier and Causeway (R437, R473, R483, R491, R509, R515, R536) -/

def State.badProfiles (n : State) : List Nat :=
  (n.listed 0x1D pidEntry).flatMap (fun kv =>
    let p := kv.2
    let gen := bitOf p 16
    let len := afLen p + afFv p + afMac p
    let use := if gen then usCanGen else usCanVerify
    let slot := n.slot (afSlot p)
    let dests := ((n.listed 0x0D pidEntry).filter (fun r => rtAuth r.2 == kv.1)).flatMap (fun r => routeCans r.2) ++
      ((n.txPdus.filter (fun d => pdAuth d.2 == kv.1 && decide (224 ≤ pdQueue d.2 ∧ pdQueue d.2 < 736))).map
        (fun d => (pdQueue d.2 - 224) / 8))
    let fits := fun (k : Nat) => (List.range (formatLevel (n.par (oChan (24 + k)) 0x0100) + 1)).any (fun f => lenOk f len)
    failIf (oProfile kv.1) ((bitOf p 17 && afFv p != 4) || (gen && dests.any (fun k => !fits k)) || !bitOf slot.usage use))

def State.badStore (n : State) : List Nat :=
  let win := (List.range 16).any (fun i =>
    let w := n.par oDeck (0x9000 + i)
    bitOf w 128 && decide (bitsOf w 127 64 < bitsOf w 63 0))
  let slots := ((List.range 64).map (fun i => n.par oDeck (0x9100 + i))).filter plEnable
  let rate := fun (l : List Nat) => (l.map (fun v => (1000000 : Rat) / plPeriod v)).sum
  let poll := decide (rate slots > 200000) || decide (rate (slots.filter (fun v => plSpace v == 1)) > 20000) ||
    (slots.any (fun v => plSpace v == 2) && n.store.state != ssAttached)
  let size := n.store.lbaSize
  let count := n.recCount
  let region := lbaMeet n.recFirst count n.stageFirst n.stageCount ||
    (count != 0 && (if size == 0 then false else (count * size) % 4096 != 0))
  failIf oDeck (win || poll || region)

def State.badPier (n : State) (ch : List (Nat × Nat)) : List Nat :=
  let k := n.par oDeck 0x1702
  let slot := n.slot k
  let keyBad := k == 0xFFFF || !slot.persist || slot.typ != 2 || !bitOf slot.usage usMacTx || !bitOf slot.usage usMacRx
  let stand := match ch.find? (fun kv => kv.1 == pkey oDeck pidStandby) with
    | none => false
    | some kv => n.ownDeck == 0 && (!isRing n.pier.links n.half ||
        !n.pier.links.any (fun l => l.1 == kv.2 % 256 && l.2.1 == kv.2 / 256 % 256))
  failIf oDeck stand ++
  [20, 21].flatMap (fun p =>
    let g := fun (pid : Nat) => n.par (oChan p) pid
    failIf (oChan p) (g 0x1000 == 1 && (g 0x1001 != 4 || g 0x1005 != 2 || keyBad)))

def State.badCauseway (n : State) : List Nat :=
  failIf oDeck ((List.range 4).any (fun p =>
    let v := n.cwPar p
    let es := (List.range 32).map (fun i => bitsOf (n.nvmPar (0x8010 + p * 2 + i / 16)) (32 * (i % 16) + 31) (32 * (i % 16)))
    let used := es.filter (fun e => bitsOf e 31 30 != 0)
    (cwEnable v && cwAge v == 0) || used.length != (used.map (fun e => bitsOf e 29 0)).eraseDups.length))

/-! ### The whole draft -/

/-- Objects that fail, in order. `s` is the configuration in force, `ch` the draft's final changes. -/
def State.failing (s : State) (ch : List (Nat × Nat)) : List Nat :=
  let n := s.overlay ch
  s.badClients ch ++ s.badMoves ch ++ n.badPorts ++ n.badCan ++ n.badLin ++ n.badVlans ++ n.badStreams ++ n.badMeters ++
  n.badRoutes ++ n.badBuffer ++ n.badEgress ++ s.badGates n ch ++ n.badHistograms ++ s.badSignals n ch ++ n.badTime ++
  n.badPower ++ n.badSpans ++ n.badProfiles ++ n.badStore ++ n.badPier ch ++ n.badCauseway

/-- The outcome of a draft's validation (R96): nothing, or status and payload. -/
def State.validate (s : State) (ch : List (Nat × Nat)) : Option (Nat × List Byte) :=
  match s.failing ch with
  | o :: _ => some (stValidationFailed, orefBytes (keyOref s.ownDeck o))
  | [] => if (s.overlay ch).admission.ok then none else some (stCapacityExceeded, [])

end Sys2Proof.Machine
end

