-- ==== Sys2Proof/Machine/Commit.lean ====
section
/-! DEFINITION. Commits and the epoch switch (R96 to R100), and what each unit does when a committed value changes. -/

namespace Sys2Proof.Machine

/-! ### Clients (R55, R108) -/

/-- A client's configuration as DECK.CLIENT_SET stages it: MAILBOXES, TRANSPORT, WEIGHT, QUERY_MASK, CONTROL_MASK. -/
def clientWord (mask transport weight query control : Nat) : Nat :=
  mask + transport * 2 ^ 16 + weight * 2 ^ 24 + query * 2 ^ 32 + control * 2 ^ 64

/-- What stands for the client now. -/
def State.clientNow (s : State) (c : Nat) : Nat :=
  let v := s.client c
  clientWord (s.clientMask [] c) v.transport v.weight v.query v.control

/-- Is a key that of a client, whose values live with the mailboxes? -/
def isClientKey (k : Nat) : Bool := keyTyp (pkeyObj k) == 0x02

/-- The value in force of a key. -/
def State.inForce (s : State) (k : Nat) : Nat :=
  if isClientKey k then s.clientNow (keyIdx (pkeyObj k)) else s.committed k

/-- A mailbox loses its owner (R55): DISABLED, its request discarded. -/
def State.mbUnassign (s : State) (n : Nat) : State :=
  let s := ((s.mbDiscard n).setF (MbOwner.assigned n) 0).setF (MbOwner.transport n) 3
  let s := (s.setF (MbOwner.weight n) 0).setF (MbStatus.tickets n) 0
  (s.setF (MbStatus.state n) mbDisabled).syncMbLevel n

/-- A mailbox is assigned to a client (R55): IDLE. -/
def State.mbAssign (s : State) (n c : Nat) : State :=
  let v := s.client c
  let moved := !s.mbOf n c
  let s := ((s.setF (MbOwner.client n) c).setF (MbOwner.transport n) v.transport).setF (MbOwner.weight n) v.weight
  let s := (s.setF (MbOwner.assigned n) 1).setF (MbStatus.tickets n) (min (s.clientTickets c) 4)
  if moved then s.setF (MbStatus.state n) mbIdle else s

/-- Clients change at the switch (R108): one left with no mailbox is lost (R80), and their mailboxes move. -/
def State.applyClients (s : State) (cs : List (Nat × Nat)) : State :=
  let lost := cs.filter (fun (cv : Nat × Nat) => bitsOf cv.2 15 0 == 0 && (List.range 16).any (fun n => s.mbOf n cv.1))
  let s := lost.foldl (fun (s : State) cv => s.clientLost cv.1) s
  let s := cs.foldl (fun (s : State) cv =>
    (List.range 16).foldl (fun (s : State) n => if s.mbOf n cv.1 && !bitOf cv.2 n then s.mbUnassign n else s) s) s
  cs.foldl (fun (s : State) cv =>
    let v := cv.2
    let cl : Client := ⟨bitsOf v 23 16, bitsOf v 31 24, bitsOf v 63 32, bitsOf v 95 64⟩
    let s := { s with gci := { s.gci with clients := tabSet clientDefault s.gci.clients cv.1 cl } }
    (List.range 16).foldl (fun (s : State) n => if bitOf v n then s.mbAssign n cv.1 else s) s) s

/-! ### The units -/

/-- Pools of the buffer after a change of KEYSTONE, HEADROOM or RESERVED (R259, R260). -/
def State.applyPools (s : State) : State :=
  let held := fun (p : Pool) => (s.buf.cells.filter (fun kv => kv.2.alloc && kv.2.pool == p)).length
  let k := s.par oDeck 0x0200
  let size := 262144 - k - s.headroomSum - s.reservedSum
  let s := (s.setF SwSharedFree.count (size - held .shared)).setF SwKeystoneFree.count (k - held .keystone)
  { s with buf := { s.buf with sharedDebt := held .shared - size, keystoneDebt := held .keystone - k } }

/-- Parameters of Ethernet port `p` in `pids` have changed (R98, R126, R138, R319, R426). While its Lane island is gated a new mode
waits until the Lane is powered (R24). -/
def State.applyPort (s : State) (p : Nat) (pids : List Nat) : State :=
  let gated := s.flag (PortStatus.laneGated p)
  let s := if pids.contains 0x0100 && !gated then s.applyMode p
    else if p ≤ 19 && !gated && pids.any (fun i => decide (0x0101 ≤ i ∧ i ≤ 0x0102)) then s.speedStart p else s
  let s := if pids.contains 0x0101 || pids.contains 0x0200 || pids.contains 0x0201 then s.anStart p else s
  -- without PLCA plca_status does not hold
  let s := if pids.contains 0x0300 && s.par (oChan p) 0x0300 == 0 && !gated then (s.plcaStop p).setF (PortStatus.plcaOk p) 0 else s
  let s := if pids.any (fun i => decide (0x0200 ≤ i ∧ i < 0x0300)) then s.xoffCheck p else s
  if macsecPort p && pids.any (fun i => decide (0x1000 ≤ i ∧ i < 0x1100)) then s.syncMacsec p else s

/-- Parameters of CAN[`n`] have changed (R98, R167): a new mode or timing takes the Lane through integration again, a gated
one once it is powered (R24). -/
def State.applyCan (s : State) (n : Nat) (pids : List Nat) : State :=
  let s := if pids.any (fun i => decide (0x0100 ≤ i ∧ i ≤ 0x0107)) && s.flag (CanStatus.enabled n) &&
      !s.flag (CanStatus.laneGated n) then s.setF (CanStatus.integrating n) 1 else s
  if pids.contains 0x0200 then s.canFeed n else s

/-- The SGE enters the committed SGE_MODE (R309); the bundle queues are the stream queues bound to 25 (R306). -/
def State.applySge (s : State) : State :=
  let open_ := (s.sge.bundles.filter (fun kv => kv.2.open_)).map (·.1)
  match s.par oDeck 0x0C80 with
  | 0 =>
    if s.getF SgeStatus.modeActive == 2 then
      let sigs := (s.listed 0x10 pidEntry).foldl (fun (s : State) kv => s.setSignal kv.1 (signalStart kv.2 s.strand)) s
      { sigs with sge := { sigs.sge with pdus := [], ending := none } }.setF SgeStatus.modeActive 0
    else { s with sge := { s.sge with ending := none } }.setF SgeStatus.modeActive 0
  | m =>
    if s.getF SgeStatus.modeActive == 2 then s
    else
      let s := { s with sge := { s.sge with ending := some m } }.setF SgeStatus.modeActive 1
      if m == 1 then open_.foldl (fun (s : State) b => s.bundleClose b) s
      else
        let s := s.sge.ready.foldl (fun (s : State) j => if j.pdu.isNone then s.finishCopy j.desc else s) s
        let s := s.setReady []
        let s := open_.foldl (fun (s : State) b => s.setBundle b { s.bundle b with open_ := false, msgs := [] }) s
        s.startFlush (((s.listed 0x05 0x0101).filter (fun kv => kv.2 == 25 && decide (800 ≤ kv.1))).map (·.1)) none

/-- The Hatbox enters the committed BULK_MODE (R436). -/
def State.applyBulk (s : State) : State :=
  match s.par oDeck 0x1110 with
  | 0 => { s with hbx := { s.hbx with drainAt := none } }.setF HbxStatus.bulkModeActive 0
  | 1 => { s with hbx := { s.hbx with drainAt := some (s.after (msC 20)) } }.setF HbxStatus.bulkModeActive 1 |>.bulkIdle
  | _ => ((s.setF HbxStatus.bulkModeActive 2).abortJobs 2).bulkIdle

/-- First boundary of a PDU timer from the switch on (R300). -/
def State.startTimer (s : State) (t : Nat) : State :=
  let period := s.par (oTimer t) 0x0100
  let phase := s.par (oTimer t) 0x0101
  if (s.timerPdu t).isNone then s.setTimer t ({} : PduTimer)
  else if s.par (oTimer t) 0x0102 == 1 then
    s.setTimer t { next := some (alignedNext (period * 1000) (phase * 1000) s.workNs), aligned := true, since := s.strand }
  else s.setTimer t { next := some (s.after (usC phase)), since := s.strand }

/-- A queue's committed values have changed (R269, R306, R319, R333). -/
def State.applyQueue (s : State) (q : Nat) (pids : List Nat) : State :=
  let s := if pids.contains 0x0102 then s.applyQueueDisable q else s
  let s := if pids.any (fun i => decide (0x0105 ≤ i ∧ i ≤ 0x0107)) then
      (s.creditSyncQ q).setTag q { (s.creditSyncQ q).tag q with credit := 0 }
    else s
  let s := if pids.contains pidEntry && q ≥ 800 then s.setBundle (q - 799) { s.bundle (q - 799) with seq := 0 } else s
  if !pids.any (fun i => i == pidRaw 0 || i == pidRaw 1 || i == pidRaw 2) then s
  else
    let s := { s with ctrs := s.ctrs.filter (fun kv =>
      !(kv.1 / 2 ^ 16 == oQueue q && (kv.1 / 2 ^ 8) % 2 ^ 8 == cQos && decide (histSamples ≤ kv.1 % 2 ^ 8))) }
    let due := if s.par (oQueue q) (pidRaw 0) == 0 then tabErase s.egr.histAt q
      else tabInsert s.egr.histAt q (s.after (usC (s.par (oQueue q) (pidRaw 1))))
    { s with egr := { s.egr with histAt := due } }

/-- A Span's parameters have changed (R379, R383, R399). -/
def State.applySpan (s : State) (i : Nat) (pids : List Nat) : State :=
  let s := if !pids.contains 0x0100 then s
    else if s.spanPar i 0x0100 == 1 then s.spanStart i
    else s.spanSleepOff i s.gci.epoch
  -- WAKE_PINS of a sleeping Span is what the Brim die wakes it by from now on (R395)
  let s := if !pids.contains 0x010D then s
    else { s with brim := { s.brim with armedSpans := s.brim.armedSpans.map (fun (a : ArmedSpan) =>
      if a.span == i then { a with pins := s.spanPar i 0x010D } else a) } }
  -- what other Decks reported of a Span that is local from now on is void (R404)
  let s := if pids.contains 0x0111 && s.spanPar i 0x0111 == 0 then
      s.setSpan i { s.span i with remote := 0, quiet := 0, masterLocal := false } else s
  let s := if pids.contains 0x010A && s.spanState i == spAwake && (s.span i).kaAt.isNone then s.kaArm i else s
  s.spanUpdate i

/-- One object's changed parameters take effect. -/
def State.applyObject (s : State) (old : State) (o : Nat) (pids : List Nat) : State :=
  let i := keyIdx o
  let c := keyChan o
  match keyTyp o with
  | 0x03 => s.applySpan (keySpan o) pids
  | 0x04 =>
    let s := if pids.contains pidSpan then (s.spanUpdate (old.spanOf c)).spanUpdate (s.spanOf c) else s
    if c ≤ 21 then s.applyPort c pids
    else if 24 ≤ c && c ≤ 87 then s.applyCan (c - 24) pids
    else s
  | 0x05 => s.applyQueue i pids
  | 0x06 =>
    -- a static entry evicts the learnt one in its way, and removes the one of its key in another way (R230)
    let e := s.par o (pidRaw 0)
    let same := fun (f : Nat) => fdbMac f == fdbMac e && fdbFid f == fdbFid e
    let keep := fun (kv : Nat × Nat) => kv.1 / 8 != i / 8 || (kv.1 != i && !same kv.2)
    if e == 0 then s else { s with fwd := { s.fwd with learnt := s.fwd.learnt.filter keep } }
  | 0x09 => s.setFrer i {}
  | 0x0A => s.setMeter i {}
  | 0x0F => s.setRate i {}
  | 0x10 => s.setSignal i (signalStart (s.entry o) s.strand)
  | 0x11 =>
    let s := s.setPdu i { s.pdu i with txCount := 0, rxCount := none }
    let d := s.entry o
    if pdTx d && pdValid d && 2 ≤ pdMode d then s.startTimer (pdTimer d) else s
  | 0x12 => s.startTimer i
  | 0x15 => (s.creditSync c).setCredit c i 0
  | 0x16 =>
    let n := c - 88
    let l := s.linLane n
    if s.flag (LinStatus.running n) && (s.getF (LinStatus.table n) == i || l.resume.any (·.1 == i)) then
      s.setLin n { l with reload := i :: l.reload }
    else s
  | 0x18 =>
    if i ≤ 1 then s.applyDomain i (old.domMode i)
    else
      let s := if pids.contains 0x0201 then s.applySlew else s
      if pids.contains 0x0200 then (s.setWork { s.time.work with primary := none }).workChoose else s
  | 0x19 => s.applyOutput i
  | 0x20 => s.syncFault
  | _ => s

/-- DECK parameters. -/
def State.applyDeck (s : State) (pids : List Nat) : State :=
  let has := fun (lo hi : Nat) => pids.any (fun p => decide (lo ≤ p ∧ p ≤ hi))
  let s := if has 0x0C80 0x0C80 then s.applySge else s
  let s := if has 0x1110 0x1110 then s.applyBulk else s
  let s := if has 0x9000 0x900F then (s.store.prefetch.map (·.1)).foldl (fun (s : State) t => s.prefetchDrop t 4) s else s
  -- in a new recorder region the recorder's place is not known (R496); one that runs goes on at the region's start (log entry 126)
  let s := if has 0x4200 0x4201 then
      { s with store := { s.store with located := false,
                                       nextLba := if s.store.recording then s.par oDeck 0x4200 else s.store.nextLba } }
    else s
  let s := (List.range 64).foldl (fun (s : State) i => if has (0x9100 + i) (0x9100 + i) then s.pollStart i else s) s
  let s := if has (pidWatchdog 0) (pidWatchdog 2) then
      { s with brim := { s.brim with wdSet :=
        (s.par oDeck (pidWatchdog 0), s.par oDeck (pidWatchdog 1), s.par oDeck (pidWatchdog 2)) } }
    else s
  if has pidStandby pidStandby then s.applyStandby else s

/-- EPOCH_SWITCH (R97, R98): the changes `ch` come into force as epoch `epoch`. The old entries are kept for what was latched
under them; values that Brim non-volatile memory keeps wait for firmware to write them. -/
def State.switchEpoch (s : State) (ch : List (Nat × Nat)) (epoch : Nat) : State :=
  -- the credits of every shaper are brought up to the switch under the old slopes (R318, R376)
  let slope := fun (k : Nat) => keyTyp (pkeyObj k) == 0x05 || (pkeyObj k == oDeck && decide (0x0F32 ≤ pkeyPid k ∧ pkeyPid k ≤ 0x0F33))
  let s := if ch.any (fun kv => slope kv.1) then s.creditSyncAll else s
  let old := s
  let diff := ch.filter (fun (kv : Nat × Nat) => s.inForce kv.1 != kv.2)
  let plain := ch.filter (fun (kv : Nat × Nat) => !inNvm kv.1 && !isClientKey kv.1)
  let s := { s with
    oldCfg := some s.cfg,
    cfg := plain.foldl (fun (t : Tab Nat) (kv : Nat × Nat) => tabSet cfgDefault t kv.1 kv.2) (if epoch = 0 then s.cfg else s.cfgBase),
    gci := { s.gci with epoch := epoch, switchAt := s.strand, nvmPend := s.gci.nvmPend ++ diff.filter (fun (kv : Nat × Nat) => inNvm kv.1) },
    sge := { s.sge with running := s.sge.running.map (fun (kv : Nat × Option Running) =>
      (kv.1, kv.2.map (fun (r : Running) => { r with old := true }))) } }
  let s := s.newCommitId
  -- a committed configuration puts a route set in force, and firmware no longer runs without one (R47)
  let s := if epoch = 0 then s else
    (s.setF DeckBootStatus.flActive 1).setF DeckBootStatus.stage
      (if s.getF DeckBootStatus.stage == 6 then 8 else s.getF DeckBootStatus.stage)
  -- a boot from flash that reaches STAGE 8 clears the count of the slot it booted (R49)
  let s := if epoch ≠ 0 && s.getF DeckStraps.bootSrc == 0 && s.fw.fromSlot then s.setF (attemptsField (s.getF DeckBootStatus.fwSlot)) 0 else s
  let objs := (diff.map (fun (kv : Nat × Nat) => pkeyObj kv.1)).eraseDups
  let pidsOf := fun (o : Nat) => (diff.filter (fun (kv : Nat × Nat) => pkeyObj kv.1 == o)).map (fun kv => pkeyPid kv.1)
  let pools := fun (k : Nat) => (pkeyObj k == oDeck && pkeyPid k == 0x0200) ||
    (keyTyp (pkeyObj k) == 0x05 && pkeyPid k == 0x0100) ||
    (keyTyp (pkeyObj k) == 0x04 && keyChan (pkeyObj k) ≤ 11 && (pkeyPid k == 0x0204 || pkeyPid k == 0x0200))
  let s := if diff.any (fun kv => pools kv.1) then s.applyPools else s
  let s := objs.foldl (fun (s : State) o =>
    if o == oDeck then s.applyDeck (pidsOf o) else if keyTyp o == 0x02 then s else s.applyObject old o (pidsOf o)) s
  -- the working clock's source is chosen after every state change of the domains (R344)
  let s := s.workChoose
  -- a BROKEN queue is mended by a DISABLE of 0, were it 0 already (R274)
  let s := (ch.filter (fun (kv : Nat × Nat) => keyTyp (pkeyObj kv.1) == 0x05 && pkeyPid kv.1 == 0x0102 && kv.2 == 0)).foldl
    (fun (s : State) kv => s.queueMended (keyIdx (pkeyObj kv.1))) s
  -- gate lists take effect whenever they are staged (R324)
  let s := (List.range 22).foldl (fun (s : State) p => if ch.any (fun kv => pkeyObj kv.1 == oGate p) then s.applyGateList p else s) s
  let s := s.poolSettle
  (s.applyClients ((diff.filter (fun (kv : Nat × Nat) => isClientKey kv.1)).map (fun kv =>
    (keyIdx (pkeyObj kv.1), kv.2)))).noteRecords (if epoch = 0 then [] else
      (ch.filter (fun (kv : Nat × Nat) => keyTyp (pkeyObj kv.1) == 0x04)).map (fun kv => keyChan (pkeyObj kv.1))) |>.handoverStart

/-! ### ROUTE.COMMIT -/

/-- The epoch after `e` (R93). -/
def nextEpoch (e : Nat) : Nat := if e ≥ 0xFFFFFFFF then 2 else e + 1

/-- Objects that the changes would change: what a commit answers as CHANGED. -/
def State.changedCount (s : State) (ch : List (Nat × Nat)) : Nat :=
  ((ch.filter (fun (kv : Nat × Nat) => s.inForce kv.1 != kv.2)).map (fun kv => unitOf kv.1)).eraseDups.length

/-- The checks of a commit (R96): none, or its final status and payload. -/
def State.commitCheck (s : State) (d : Draft) (base flags : Nat) : Option (Nat × List Byte) :=
  if bitOf flags 1 && base != s.gci.epoch then some (stEpochConflict, []) else s.validate (finalChanges d.changes)

/-- A commit's own switch: the draft ends, and its result. -/
def State.commitNow (s : State) (d : Draft) (flags : Nat) : List Byte × State :=
  let ch := finalChanges d.changes
  let n := s.changedCount ch
  let e := nextEpoch s.gci.epoch
  (leBytes 4 e ++ leBytes 4 n, ((s.dropDraft d.handle).switchEpoch ch e).quarCommit d.client flags)

/-- A table dump runs: a commit that falls due waits for it (R120). -/
def State.dumping (s : State) : Bool := s.gci.tickets.any (fun t => t.cmd == 0x1012 && t.result.isNone)

/-- A draft is used: its idle time starts anew (R94). -/
def State.useDraft (s : State) (d : Draft) : State :=
  { s with gci := { s.gci with drafts := s.gci.drafts.map (fun (e : Draft) =>
    if e.handle == d.handle then { e with lastUse := s.strand } else e) } }

/-- A commit waits for its turn: it goes PENDING, and the draft's objects stay locked (R97). -/
def State.commitWait (s : State) (c : Ctx) (d : Draft) (base flags : Nat) : Resp × State :=
  let o := s.pend c (d.changes.map (fun kv => lockOf kv.1)).eraseDups
  (o.1, { o.2 with gci := { o.2.gci with commits := o.2.gci.commits ++
    [({ handle := d.handle, client := c.client, ticket := o.1.ticket, flags := flags, baseEpoch := base,
        served := s.gci.epoch } : PendCommit)] } })

/-- ROUTE.COMMIT (R96). With no older entries kept and no commit before it, the switch follows at once; otherwise the commit
goes PENDING until its turn (R97, R99). -/
def bodyCommit : Body := fun c s =>
  let base := leAt c.payload 0 4
  let flags := leAt c.payload 4 4
  match s.draft c.client c.txn with
  | none => s.answer stTxnUnknown
  | some d =>
    let s := s.useDraft d
    if bitsOf flags 31 2 != 0 then s.answer stBadValue
    else
      match s.commitCheck d base flags with
      | some (st, pay) => s.answer st pay
      | none =>
        if bitOf flags 0 then s.answer stDone (leBytes 4 0 ++ leBytes 4 (s.changedCount (finalChanges d.changes)))
        else if s.oldCfg.isNone && s.gci.commits.isEmpty && !s.dumping then
          let (pay, s) := s.commitNow d flags
          s.answer stDone pay
        else s.commitWait c d base flags

/-- The oldest waiting commit leaves the queue. -/
def State.popCommit (s : State) : State := { s with gci := { s.gci with commits := s.gci.commits.tail } }

/-- A waiting commit has its turn (R97, R99): its draft is gone, a check fails, or it switches; its ticket completes. Where
ROUTE.DRAFT_DISCARD has taken the draft of a waiting commit the spec is silent, and the commit completes ABORTED (DESIGN CHOICE,
log entry 87). Changes staged into the draft after ROUTE.COMMIT was served and before this switch are committed with it: R96 does
not say that the draft is closed to staging (DESIGN CHOICE, log entry 122). -/
def State.commitTurn (s : State) (p : PendCommit) : State :=
  match s.draft p.client p.handle with
  | none => s.finishTicket p.client p.ticket stAborted []
  | some d =>
    match s.commitCheck d p.baseEpoch p.flags with
    | some (st, pay) => s.finishTicket p.client p.ticket st pay
    | none =>
      let (pay, s) := s.commitNow d p.flags
      s.finishTicket p.client p.ticket stDone pay

/-- EPOCH_SWITCH (R97, R99): the oldest waiting commit switches once the older entries are gone; its checks are made again. -/
def execEpochSwitch (s : State) : Host.Outcome State Fault Refusal :=
  .next (match s.gci.commits with
    | [] => s
    | p :: _ => if s.oldCfg.isSome || s.dumping then s else s.popCommit.commitTurn p)

/-- OLD_EPOCH_RELEASE (R97): 40 µs after the switch, nothing latched under the old epoch is left. -/
def execOldEpochRelease (s : State) : Host.Outcome State Fault Refusal :=
  .next (if s.oldCfg.isNone then s
    else { s.timeTo (strandPlus s.gci.switchAt (usC 40)) with oldCfg := none })

end Sys2Proof.Machine
end

