-- ==== Sys2Proof/Machine/Common.lean ====
section
/-! DEFINITION. The common verbs GET, SET, LIST, STATS and CLEAR_STATS of every class (R86 to R89, R125, R210). -/

namespace Sys2Proof.Machine

/-! ### GET and SET -/

/-- The entries of a GET or SET payload: parameter, length, value bytes; `none` where they do not fit exactly (R87, R88).
The VALUE bytes of a GET request and the padding bytes are not looked at: R87 says that they are 0 and names no answer to others
(DESIGN CHOICE, log entry 122). -/
def entriesOf : Nat → List Byte → Option (List (Nat × Nat × List Byte))
  | 0, p => if p.isEmpty then some [] else none
  | n + 1, p =>
    let len := leAt p 2 2
    let size := 4 + ceilDiv len 4 * 4
    if p.length < size then none
    else (entriesOf n (p.drop size)).map (fun l => (leAt p 0 2, len, sliceB p 4 len) :: l)

/-- The parameter that a class gives an object type under an ID, and whether it exists for the object's number: one that does
not is a parameter that does not apply (R88, R125). -/
def paramOf (cls okey pid : Nat) : Option (ParamDesc × Bool) :=
  let fits := fun (d : ParamDesc) => d.cls == cls && d.typ == keyTyp okey && decide (d.pid ≤ pid ∧ pid ≤ d.last)
  let here := fun (d : ParamDesc) => decide (d.nLo ≤ keyNum okey ∧ keyNum okey ≤ d.nHi)
  match paramDescs.find? (fun d => fits d && here d) with
  | some d => some (d, true)
  | none => (paramDescs.find? fits).map (fun d => (d, false))

/-- The reset value of a parameter on an object. -/
def resetOf (d : ParamDesc) (okey pid : Nat) : Nat := d.reset (keyNum okey) pid

/-- First entry that breaks R88 under `judge`, with its status. -/
def firstBad (judge : Nat × Nat × List Byte → Option Nat) : Nat → List (Nat × Nat × List Byte) → Option (Nat × Nat)
  | _, [] => none
  | i, e :: l => match judge e with
    | some st => some (st, i)
    | none => firstBad judge (i + 1) l

/-- COUNT and the entries, or the answer where they are wrong (R88, R92). Non-zero reserved bytes at 0x0A are answered BAD_VALUE
with the payload 0xFFFF that R88 states for a bad COUNT (DESIGN CHOICE, log entry 122). -/
def getEntries (p : List Byte) : Except (Nat × List Byte) (List (Nat × Nat × List Byte)) :=
  let n := leAt p 8 2
  if n = 0 || n > 124 || leAt p 10 2 != 0 then .error (stBadValue, leBytes 2 0xFFFF)
  else match entriesOf n (p.drop 12) with
    | none => .error (stBadLength, [])
    | some l => .ok l

/-- What GET answers for one entry that it refuses (R88): an unknown parameter, or a length that is not its size. -/
def getJudge (cls o : Nat) (e : Nat × Nat × List Byte) : Option Nat :=
  match paramOf cls o e.1 with
  | some (d, _) => if e.2.1 == d.size then none else some stBadParam
  | none => some stBadParam

/-- The value that GET returns: as the caller sees it, or the reset value of a parameter that does not apply (R87, R88); of a key slot,
its policy (R415). -/
def State.getValue (s : State) (c : Ctx) (o pid : Nat) : Nat :=
  if keyTyp o == 0x1B then leVal (s.slot (keyIdx o)).policy else
  match paramOf (c.cmd / 256) o pid with
  | some (d, true) => if d.applies (fun pid => s.view c o pid) then s.view c o pid else resetOf d o pid
  | some (d, false) => resetOf d o pid
  | none => 0

/-- The entries of a GET response (R88). -/
def State.getEntriesOut (s : State) (c : Ctx) (o : Nat) (es : List (Nat × Nat × List Byte)) : List Byte :=
  es.flatMap (fun e => leBytes 2 e.1 ++ leBytes 2 e.2.1 ++ padTo 4 (leBytes e.2.1 (s.getValue c o e.1)))

/-- GET (R87, R88): a parameter that does not apply returns its reset value. -/
def bodyGet : Body := fun c s =>
  let o := (orefOf c.payload).key
  match getEntries c.payload with
  | .error (st, pay) => s.answer st pay
  | .ok es =>
    match firstBad (getJudge (c.cmd / 256) o) 0 es with
    | some (st, i) => s.answer st (leBytes 2 i)
    | none => s.answer stDone (c.payload.take 12 ++ s.getEntriesOut c o es)

/-- What SET answers for one entry that it refuses (R87, R88): an unknown parameter or a wrong length; a parameter that does not
apply to the object as the entries leave it, or a value out of its range. On the ZW8632 the DECK parameters of the absent storage
service are staged as on the ZW8640: R3 speaks of an OREF, and the OREF here is the DECK (DESIGN CHOICE, log entry 122). -/
def State.setJudge (s : State) (c : Ctx) (o : Nat) (es : List (Nat × Nat × List Byte)) (e : Nat × Nat × List Byte) :
    Option Nat :=
  let after := fun (pid : Nat) => match es.reverse.find? (fun e => e.1 == pid) with
    | some e => leVal e.2.2
    | none => s.view c o pid
  match paramOf (c.cmd / 256) o e.1 with
  | none => some stBadParam
  | some (d, here) =>
    if e.2.1 != d.size then some stBadParam
    else if !here || !d.applies after || !paramOk d o e.1 (leVal e.2.2) then some stBadValue else none

/-- SET (R87, R88): all entries are staged or none. Fallback entries have a command of their own (R210), and so have the
definitions and programs of the SIG class (R290, R292, R296). -/
def bodySet : Body := fun c s =>
  let o := (orefOf c.payload).key
  match getEntries c.payload with
  | .error (st, pay) => s.answer st pay
  | .ok es =>
    if s.locked c.client (es.map (fun e => lockOf (pkey o e.1))) then s.busyLock c (es.map (fun e => lockOf (pkey o e.1)))
    else
      match firstBad (s.setJudge c o es) 0 es with
      | some (st, i) => s.answer st (leBytes 2 i)
      | none => s.stage c (es.map (fun e => (pkey o e.1, leVal e.2.2)))

/-! ### LIST -/

/-- Does a configured value of an object make its index occupied (R89)? Types with a VALID bit go by it. -/
def occupiedBy (typ pid v : Nat) : Bool :=
  match typ with
  | 0x06 => pid == pidRaw 0 && fdbValid v
  | 0x07 => pid == pidEntry && bitOf v 23
  | 0x08 => pid == pidEntry && bitOf v 60
  | 0x0C => pid == pidRaw 0 && hashValid v
  | 0x11 => pid == pidEntry && pdValid v
  | _ => v != 0

/-- Configuration keys that a caller's view lists. -/
def State.viewKeys (s : State) (c : Ctx) : List Nat :=
  (s.cfg.map (·.1) ++ (match s.draft c.client c.txn with | some d => d.changes.map (·.1) | none => [])).eraseDups

/-- Is an index of a type that holds no configuration occupied? -/
def State.occupiedLive (s : State) (o : Oref) (i : Nat) : Bool :=
  match o.typ with
  | 0x02 => (List.range 16).any (fun n => s.mbOf n i)
  | 0x06 => fdbValid (tabGet ctrDefault s.fwd.learnt i)
  | 0x18 => true
  | 0x1B => !(s.slot i).empty
  | 0x1C => (s.assoc o.chan i).installed
  | 0x1E => s.getF (EvqStatus.target i) != 7
  | 0x1F => tabGet clientRouteDefault s.evt.client i != 0xFF
  | 0x20 => s.reaction i != 0
  | _ => false

/-- Candidates that configuration does not list. -/
def State.liveIndices (s : State) (o : Oref) : List Nat :=
  match o.typ with
  | 0x02 => List.range 8
  | 0x06 => s.fwd.learnt.map (·.1)
  | 0x07 => [1]
  | 0x18 => List.range 3
  | 0x1B => s.hbx.slots.map (·.1)
  | 0x1C => List.range 36
  | 0x1E => List.range 64
  | 0x1F => s.evt.client.map (·.1)
  | 0x20 => List.range 512
  | _ => []

/-- Occupied indices of the type that an OREF names, in its Channel where the type uses one, from INDEX on. -/
def State.occupied (s : State) (c : Ctx) (o : Oref) : List Nat :=
  let mine := (s.viewKeys c).filter (fun k =>
    keyTyp (pkeyObj k) == o.typ && keyChan (pkeyObj k) == o.chan && s.draftGet (s.draft c.client c.txn) k != cfgDefault k)
  let set := mine.filter (fun k => occupiedBy o.typ (pkeyPid k) (s.draftGet (s.draft c.client c.txn) k))
  let named := (set.map (fun k => keyIdx (pkeyObj k)))
  let live := (s.liveIndices o).filter (fun i => s.occupiedLive o i ||
    (o.typ == 0x07 && bitOf (s.view c (oVlan i) pidEntry) 23))
  ((named ++ live).eraseDups.filter (fun i => decide (o.idx ≤ i))).mergeSort (fun a b => decide (a ≤ b))

/-- LIST (R89). -/
def bodyList : Body := fun c s =>
  let o := orefOf c.payload
  match typeRow o.typ with
  | none => s.answer stBadObject
  | some r =>
    if !r.usesIdx then s.answer stBadObject
    else
      let l := s.occupied c o
      let out := l.take 250
      let next := if l.length ≤ 250 then noIdx else out.getLastD 0 + 1
      s.answer stDone (leBytes 2 out.length ++ leBytes 2 0 ++ leBytes 4 next ++ out.flatMap (leBytes 4))

/-! ### STATS and CLEAR_STATS -/

/-- How many counters a class keeps for an object and returns by STATS, with how many CLEAR_STATS clears (R153, R192, R205,
R220, R230, R241, R281, R282, R310, R336, R350, R359, R407, R426, R449, R499, R524). -/
def statCount (cls : Nat) (o : Oref) : Option (Nat × Nat) :=
  let both := fun (n : Nat) => some (n, n)
  match cls, o.typ with
  | 0x02, 0x03 => both 9
  | 0x04, 0x04 => some (32, 33)
  | 0x05, 0x04 => both 27
  | 0x06, 0x04 => both 14
  | 0x07, 0x04 => both 11
  | 0x07, 0x09 => both 5
  | 0x08, 0x0D => both 5
  | 0x08, 0x01 => both 4
  | 0x09, 0x01 => both 16
  | 0x09, 0x11 => both 4
  | 0x0A, 0x01 => both 16
  | 0x0A, 0x05 => some (8, 133)
  | 0x0A, 0x14 => both 5
  | 0x0A, 0x0A => both 6
  | 0x0A, 0x0F => both 2
  | 0x0B, 0x18 => both (if o.idx = 2 then 3 else 4)
  | 0x0B, 0x19 => both 2
  | 0x0B, 0x1A => both 3
  | 0x0C, 0x04 => both 16
  | 0x0C, 0x1D => both 8
  | 0x0C, 0x01 => both 8
  | 0x0E, 0x01 => both 8
  | 0x0F, 0x04 => both 6
  | _, _ => none

/-- STATS (R89). An association returns NEXT_PN, FRAMES and OCTETS (R426); the DECK object of the FAULT class the Causeway's
counters (R540). An object that its chapter gives no counters is no object of these verbs. -/
def bodyStats : Body := fun c s =>
  let o := orefOf c.payload
  let cls := c.cmd / 256
  if cls == cSec && o.typ == 0x1C then
    let a := s.assoc o.chan o.idx
    s.answer stDone (leBytes 8 a.nextPn ++ leBytes 8 a.frames ++ leBytes 8 a.octets)
  else if cls == cFault && o.typ == 0x01 then
    s.answer stDone ((List.range 16).flatMap (fun i => leBytes 8 (tabGet ctrDefault s.brim.cwCtrs i)))
  else match statCount cls o with
    | some (n, _) => s.answer stDone (s.ctrBytes o.key cls n)
    | none => s.answer stBadObject

/-- The accounts and the log of a Span start anew (R401, R407). -/
def State.clearAccounts (s : State) (i : Nat) : State :=
  let v := s.span i
  let nodes := (v.nodes.filter (fun (kv : Nat × NodeAcc) => !strandAfter s.strand kv.2.until_)).map
    (fun (kv : Nat × NodeAcc) => (kv.1, ({ kv.2 with acc := 0, since := s.strand } : NodeAcc)))
  let holds := (v.holds.filter (fun (kv : Nat × HoldAcc) => bitOf (s.getF (SpanState.holds i)) kv.1)).map
    (fun (kv : Nat × HoldAcc) => (kv.1, ({ acc := 0, since := s.strand } : HoldAcc)))
  s.setSpan i { v with nodes := nodes, holds := holds, log := [] }

/-- CLEAR_STATS (R89). -/
def bodyClearStats : Body := fun c s =>
  let o := orefOf c.payload
  let cls := c.cmd / 256
  if cls == cSec && o.typ == 0x1C then
    (s.setAssoc o.chan o.idx { s.assoc o.chan o.idx with frames := 0, octets := 0 }).answer stDone
  else if cls == cFault && o.typ == 0x01 then
    ({ s with brim := { s.brim with cwCtrs := [] } }).answer stDone
  else match statCount cls o with
    | some (_, n) =>
      let s := s.clearCtrs o.key cls n
      (if cls == cSpan then s.clearAccounts o.span else s).answer stDone
    | none => s.answer stBadObject

/-! ### The rows: a class's verb on an object -/

/-- GET, of any class. -/
def execGet (cls : Byte) (q : Req) (s : State) : Host.Outcome State Fault Refusal :=
  .next (s.request (cls.toNat * 256 + 1) q bodyGet)

/-- SET, of any class. -/
def execSet (cls : Byte) (q : Req) (s : State) : Host.Outcome State Fault Refusal :=
  .next (s.request (cls.toNat * 256 + 2) q bodySet)

/-- LIST, of any class. -/
def execList (cls : Byte) (q : Req) (s : State) : Host.Outcome State Fault Refusal :=
  .next (s.request (cls.toNat * 256 + 3) q bodyList)

/-- STATS, of any class. -/
def execStats (cls : Byte) (q : Req) (s : State) : Host.Outcome State Fault Refusal :=
  .next (s.request (cls.toNat * 256 + 4) q bodyStats)

/-- CLEAR_STATS, of any class. -/
def execClearStats (cls : Byte) (q : Req) (s : State) : Host.Outcome State Fault Refusal :=
  .next (s.request (cls.toNat * 256 + 5) q bodyClearStats)

end Sys2Proof.Machine
end

