-- ==== Sys2Proof/Machine/Image.lean ====
section
/-! DEFINITION. Images: their header, verification and flash slots (R40 to R43, R409). -/

namespace Sys2Proof.Machine

/-! ### Flash map and header (R42, R43) -/

/-- Image types of R43. -/
def itFirst : Nat := 1
def itFirmware : Nat := 2
def itConfig : Nat := 3

/-- Flash offset of slot A (0) or B (1) of an image type, and the slot's size (R42). -/
def slotBase (t slot : Nat) : Nat :=
  match t with
  | 1 => slot * 0x10000
  | 2 => 0x100000 + slot * 0x400000
  | _ => 0x900000 + slot * 0x800000

def imgMagic (t : Nat) : Nat := if t = 1 then 0x5A57464C else if t = 2 then 0x5A574657 else 0x5A574346

/-- Greatest body length (R43). -/
def imgMax (t : Nat) : Nat := if t = 1 then 0x10000 - 224 else if t = 2 then 0x300000 else 0x800000 - 224

def imgBodyLen (h : List Byte) : Nat := leAt h 8 4
def imgGeneration (h : List Byte) : Nat := leAt h 0xC 4
def imgSecurity (h : List Byte) : Nat := leAt h 0x10 4
def imgKey (h : List Byte) : Nat := leAt h 0x17 1
def imgTypeA (h : List Byte) : Nat := leAt h 0x1C 4
def imgVersion (h : List Byte) : Nat := leAt h 0x60 4
def imgRequires (h : List Byte) : Nat := leAt h 0x64 4

/-- MAGIC, HDR_VERSION, IMAGE_TYPE and IMAGE_LEN (R40, R43). -/
def imgHeaderOk (t : Nat) (h : List Byte) : Bool :=
  leAt h 0 4 == imgMagic t && leAt h 4 2 == 1 && leAt h 6 2 == t && imgBodyLen h % 8 == 0 && decide (imgBodyLen h ≤ imgMax t)

/-- The body of an image. -/
def imgBody (img : List Byte) : List Byte := sliceB img 128 (imgBodyLen img)

/-! ### Verification (R40) -/

/-- A fused root key: its hash in bits 383..0 and its class, 1 production, in bit 384 (R409, R410). -/
def State.rootKey (s : State) (k : Nat) : Nat := tabGet ctrDefault s.fuses.rootHash k
def State.rootRevoked (s : State) (k : Nat) : Bool := bitOf s.fuses.revoked k
def State.rootProduction (s : State) (k : Nat) : Bool := bitOf (s.rootKey k) 384
/-- Is a key fused and not revoked? -/
def State.rootUsable (s : State) (k : Nat) : Bool :=
  decide (k < 4) && bitsOf (s.rootKey k) 383 0 != 0 && !s.rootRevoked k

/-- The key as the signature check is given it: its fused hash stands for it (log entry 5). -/
def State.rootBytes (s : State) (k : Nat) : List Byte := leBytes 48 (bitsOf (s.rootKey k) 383 0)

/-- Root keys that a lifecycle state admits (R409). -/
def lifecycleAdmits (life : Nat) (production : Bool) : Bool :=
  match life with
  | 1 => true
  | 2 => production
  | 3 => !production
  | _ => false

/-- The signed digest: header bytes 0x00..0x7F with GENERATION taken as 0 (R40). -/
def imgDigest (img : List Byte) : List Byte :=
  let h := putB (img.take 128) 0xC (zeros 4)
  if leAt img 0x16 1 = 1 then beBytes 32 (Config.sha256 h).toNat else beBytes 48 (Config.sha384 h).toNat

/-- BODY_HASH of the body's bytes: SHA-256 leaves the last 16 bytes 0 (R43). -/
def imgHash (img : List Byte) : List Byte :=
  let b := imgBody img
  if leAt img 0x16 1 = 1 then beBytes 32 (Config.sha256 b).toNat ++ zeros 16 else beBytes 48 (Config.sha384 b).toNat

/-- VARIANT_MASK names this device (R43). -/
def State.variantOk (s : State) (h : List Byte) : Bool := bitOf (leAt h 0x14 2) (b2n s.absentVariant)

/-- R40: 0 where the image verifies, else the status of R101 for the first check that fails, in the order of R40 (DEDUCED, log
entry 29). -/
def State.verifyImage (s : State) (t : Nat) (img : List Byte) : Nat :=
  let k := imgKey img
  let alg := leAt img 0x16 1
  let sig := sliceB img (128 + imgBodyLen img) 96
  if !imgHeaderOk t img then stVerifyHeader
  else if !s.rootUsable k || !(alg == 1 || alg == 2) || !Config.sigVerify (s.rootBytes k) (imgDigest img) sig
    then stVerifySignature
  else if imgHash img != sliceB img 0x20 48 then stVerifyHash
  else if imgSecurity img < tabGet ctrDefault s.fuses.rollback t then stVerifyRollback
  else if !s.variantOk img then stVerifyVariant
  else if !lifecycleAdmits s.fuses.lifecycle (s.rootProduction k) then stVerifyLifecycle
  else 0

/-! ### Slots (R41) -/

/-- The header in a flash slot. -/
def State.slotHeader (s : State) (t slot : Nat) : List Byte := memReads s.flash (slotBase t slot) 128

/-- The whole image in a flash slot, as far as its header lets it be read. -/
def State.slotImage (s : State) (t slot : Nat) : List Byte :=
  let h := s.slotHeader t slot
  if imgHeaderOk t h then memReads s.flash (slotBase t slot) (224 + imgBodyLen h) else h

/-- The slot that is tried first: the header with the higher GENERATION, A where they are equal (R41). -/
def State.firstSlot (s : State) (t : Nat) : Nat :=
  if imgGeneration (s.slotHeader t 1) > imgGeneration (s.slotHeader t 0) then 1 else 0

/-- Write an image to a slot with its GENERATION (R50, R116). -/
def State.writeSlot (s : State) (t slot gen : Nat) (img : List Byte) : State :=
  { s with flash := memWrites s.flash (slotBase t slot) (putB img 0xC (leBytes 4 gen)) }

/-! ### Banks (R50) -/

/-- Bytes at the start of an SRAM bank. -/
def State.bankRead (s : State) (b n : Nat) : List Byte := memReads s.fw.banks (b * 2 ^ 22) n
/-- Bytes into a bank. -/
def State.bankWrite (s : State) (b off : Nat) (d : List Byte) : State :=
  { s with fw := { s.fw with banks := memWrites s.fw.banks (b * 2 ^ 22 + off) d } }

/-- The running firmware's header, and its VERSION. -/
def State.fwHeader (s : State) : List Byte := s.bankRead s.fw.active 128
def State.fwVersion (s : State) : Nat := imgVersion s.fwHeader

/-- The whole image in a bank. -/
def State.bankImage (s : State) (b : Nat) : List Byte := s.bankRead b (224 + imgBodyLen (s.bankRead b 128))

end Sys2Proof.Machine
end

