-- ==== Sys2Proof/Machine/CmdDeck.lean ====
section
/-! DEFINITION. The commands of the DECK class (R104, R105, R108, R115 to R117, R103, R50 to R53). -/

namespace Sys2Proof.Machine

/-! ### Identity, reset, clients, tickets -/

/-- DECK.IDENTIFY (R104). -/
def bodyIdentify : Body := fun c s =>
  let h := s.fwHeader
  s.answer stDone (leBytes 2 (if s.absentVariant then 0x8632 else 0x8640) ++ leBytes 1 Config.stepping.toNat ++
    leBytes 1 s.ownDeck ++ leBytes 4 (imgVersion h) ++ leBytes 4 Config.romVersion.toNat ++ leBytes 4 s.fw.cfgVersion ++
    leBytes 4 s.gci.epoch ++ leBytes 1 s.fuses.lifecycle ++ leBytes 1 (bitsOf (s.reg DeckStraps.bootSrc.off).toNat 4 0) ++
    leBytes 1 (s.getF CascStatus.role) ++ leBytes 1 (bitsOf (setBit (s.getF CascStatus.reachable) s.ownDeck true) 7 0) ++
    sliceB h 0x50 16 ++ leBytes 8 Config.uniqueId.toNat ++ leBytes 1 c.client ++ zeros 3)

/-- Firmware stops a Deck's work for DECK.RESET with scope CONFIG (R105, R99, R558): drafts are dropped, every other running ticket
completes ABORTED, every Channel is force-disabled, and all queues are flushed. -/
def State.resetConfigStart (s : State) (client num : Nat) : State :=
  let s := { s with gci := { s.gci with resetRunning := true, drafts := [] } }
  -- a Span that is ASLEEP wakes with source CONFIG (R399)
  let s := ((List.range 16).filter (fun i => s.spanState i == spAsleep)).foldl
    (fun (s : State) i => s.wake i wsConfig 0xFF s.gci.epoch 0xFF) s
  let s := (s.gci.tickets.filter (fun t => !(t.client == client && t.num == num))).foldl
    (fun (s : State) t => s.abortTicket t) s
  let s := ((List.range 64).filter (fun n => s.flag (CanStatus.enabled n))).foldl (fun (s : State) n => s.canForce n 0) s
  let s := ((List.range 16).filter (fun n => s.chanEnabled (88 + n))).foldl (fun (s : State) n => s.linForce n 0) s
  let s := ((List.range 20).filter (fun p => s.chanEnabled p)).foldl (fun (s : State) p => s.portForce p 0) s
  -- the class queues of the CAN Channels are flushed with their Channel, each frame with FLUSHED (R193)
  s.startFlush ((List.range 2048).filter (fun q => decide (q < canQueue 0) || decide (canQueue 64 ≤ q))) none

/-- DECK.RESET (R105). FULL answers DONE; the Crown die is reset at ACK or after 1 ms. -/
def bodyReset : Body := fun c s =>
  let scope := leAt c.payload 0 1
  if !(scope == 1 || scope == 2) || leAt c.payload 1 3 != 0 || leAt c.payload 4 4 != 0xDECA then s.answer stBadValue
  else if scope = 2 then
    ({ s with gci := { s.gci with fullReset := some (c.mb, s.after (msC 1)) } }).answer stDone
  else
    let (r, s) := s.pend c []
    (r, s.resetConfigStart c.client r.ticket)

/-- A client's configuration as a draft leaves it. -/
def State.clientView (s : State) (d : Option Draft) (c : Nat) : Nat :=
  match d.bind (fun d => (d.changes.find? (fun (kv : Nat × Nat) => kv.1 == pkey (oClient c) (pidRaw 0))).map (·.2)) with
  | some v => v
  | none => s.clientNow c

/-- Does a client's configuration hold DECK control? -/
def deckControl (v : Nat) : Bool := bitOf v (64 + cDeck)

/-- Values that R108 and R71 refuse: a field out of range, mask bits of no class, or a transport that does not fit the
mailboxes. -/
def clientSetBad (k mask tr weight query control : Nat) : Bool :=
  decide (3 < tr) || decide (weight < 1 ∨ 8 < weight) ||
    (bitOf query 0 || bitsOf query 31 18 != 0) || (bitOf control 0 || bitsOf control 31 18 != 0) ||
    (tr == 1 && bitsOf mask 15 4 != 0) || (tr == 2 && k != 7) || (tr == 3) != (mask == 0)

/-- A mailbox that cannot move to another client now: in use, or its client holds tickets (R72). -/
def State.mbHeld (s : State) (n : Nat) : Bool :=
  let st := s.getF (MbStatus.state n)
  !(st == mbIdle || st == mbDisabled) ||
    (s.flag (MbOwner.assigned n) && decide (0 < s.clientTickets (s.getF (MbOwner.client n))))

/-- Would the change leave the Deck without a client that holds DECK control (R71; log entry 55)? -/
def State.lastDeckControl (s : State) (d : Option Draft) (k v : Nat) : Bool :=
  deckControl (s.clientView d k) && !deckControl v &&
    !(List.range 8).any (fun j => j != k && deckControl (s.clientView d j))

/-- DECK.CLIENT_SET (R108, R71, R72). -/
def bodyClientSet : Body := fun c s =>
  let k := leAt c.payload 4 4
  let mask := leAt c.payload 8 2
  let tr := leAt c.payload 10 1
  let weight := leAt c.payload 11 1
  let query := leAt c.payload 12 4
  let control := leAt c.payload 16 4
  if (orefOf c.payload).typ != 0x02 then s.answer stBadObject
  else if clientSetBad k mask tr weight query control then s.answer stBadValue
  else
    let d := s.draft c.client c.txn
    let v := clientWord mask tr weight query control
    if s.lastDeckControl d k v then s.answer stNoRight
    else
      if (List.range 16).any (fun n => bitOf mask n != s.mbOf n k && s.mbHeld n) then s.busy 10
      else s.stage c [(pkey (oClient k) (pidRaw 0), v)]

/-- DECK.TICKET_STATUS (R78, R115). -/
def bodyTicketStatus : Body := fun c s =>
  let n := leAt c.payload 0 4
  match s.ticket c.client n with
  | none => s.answer stNotFound
  | some t =>
    match t.result with
    | none => (⟨stPending, [], n, 0⟩, s)
    | some (st, pay) => (⟨st, pay, n, 0⟩, s.freeTicket c.client n)

/-- DECK.TICKET_ABORT (R79, R115). -/
def bodyTicketAbort : Body := fun c s =>
  let n := leAt c.payload 0 4
  match s.ticket c.client n with
  | none => s.answer stNotFound
  | some t => if t.result.isSome then s.answer stNothingToAbort else (s.abortTicket t).answer stDone

/-! ### Pieces (R117) -/

/-- What one accepted piece is: its bytes, its place, and whether it is the last. -/
structure Piece where
  off : Nat
  total : Nat
  last : Bool
  data : List Byte
deriving DecidableEq, Repr

/-- Does the mailbox belong to an SPI client? -/
def State.spiMb (s : State) (n : Nat) : Bool := s.getF (MbOwner.transport n) == 1

/-- The piece that bytes of a client hold for a command, or `none` where it breaks R117. -/
def State.pieceIn (s : State) (client cmd : Nat) (b : List Byte) (max : Nat) : Option Piece :=
  let off := leAt b 0 4
  let total := leAt b 4 4
  let flags := leAt b 8 4
  let n := b.length - 16
  let first := bitOf flags 0
  let last := bitOf flags 1
  let old := s.gci.transfers.find? (fun t => t.client == client && t.cmd == cmd)
  let place := if first then off == 0
    else match old with
      | some t => off == t.received && total == t.total
      | none => false
  let ends := if last then off + n == total else decide (off + n ≤ total)
  if b.length ≤ 16 || bitsOf flags 31 2 != 0 || leAt b 12 4 != 0 || !place || !ends || total > max then none
  else some ⟨off, total, last, b.drop 16⟩

/-- The piece in an SPI client's segment buffer, or `none` where it breaks R117. -/
def State.pieceOf (s : State) (c : Ctx) (len max : Nat) : Option Piece :=
  s.pieceIn c.client c.cmd (memReads s.gci.seg (c.client * 65536) len) max

/-- The first 128 bytes of the image, once a piece is in. -/
def State.pieceHead (s : State) (client cmd : Nat) (p : Piece) : List Byte :=
  let old := s.gci.transfers.find? (fun t => t.client == client && t.cmd == cmd)
  ((if p.off = 0 then [] else (old.map (·.head)).getD []) ++ p.data).take 128

/-- A client's transfer for a command ends, or stands at another position. -/
def State.setTransfer (s : State) (client cmd : Nat) (t : Option Transfer) : State :=
  { s with gci := { s.gci with
    transfers := s.gci.transfers.filter (fun t => !(t.client == client && t.cmd == cmd)) ++ t.toList } }

/-- The transfer's position after a piece; the first 128 bytes are kept. -/
def State.pieceStand (s : State) (client cmd : Nat) (p : Piece) : State :=
  s.setTransfer client cmd (if p.last then none else
    some { client := client, cmd := cmd, received := p.off + p.data.length, total := p.total, head := s.pieceHead client cmd p })

/-- The transfer's position after a caller's piece. -/
def State.pieceNote (s : State) (c : Ctx) (p : Piece) : State := s.pieceStand c.client c.cmd p

/-! ### Firmware images (R50, R116) -/

/-- The lock that the image commands take: they share the inactive bank and the flash (log entry 30). -/
def imageLock : Nat := pkey oDeck 0xC0F0

/-- An image has arrived in the inactive bank: its header is checked, and it replaces what was loaded (R116). -/
def State.fwLoaded (s : State) (n : Nat) : Nat × State :=
  let h := s.bankRead (1 - s.fw.active) 128
  if imgHeaderOk itFirmware h && n == 224 + imgBodyLen h then
    (stDone, { s with fw := { s.fw with loaded := some n, verified := false } })
  else (stVerifyHeader, { s with fw := { s.fw with loaded := none, verified := false } })

/-- DECK.FW_LOAD (R116): by bulk descriptor, or in pieces under R117. -/
def bodyFwLoad : Body := fun c s =>
  match c.bulk with
  | none => s.answer stBadLength
  | some b =>
    if !b.ok [0] then s.answer stBadValue
    else if s.locked c.client [imageLock] then s.busyLock c [imageLock]
    else if b.seg && s.spiMb c.mb then
      match s.pieceOf c b.len (imgMax itFirmware + 224) with
      | none => s.answer stBadValue
      | some p =>
        let s := (s.pieceNote c p).bankWrite (1 - s.fw.active) p.off p.data
        let s := { s with fw := { s.fw with loaded := none, verified := false } }
        if !p.last then s.answer stDone
        else
          let (st, s) := s.fwLoaded p.total
          s.answer st
    else if b.len > imgMax itFirmware + 224 then s.answer stBadValue
    else s.pend c [imageLock]

/-- The bulk input of a ticket: what its segment buffer gave, or the host's buffer (R62). -/
def State.ticketInput (s : State) (t : Ticket) : Option (List Byte) × State :=
  if t.seg then (some t.input, s) else s.hostRead (leAt t.payload 0 8) (leAt t.payload 8 4)

/-- The end of DECK.FW_LOAD. -/
def State.fwLoadEnd (s : State) (t : Ticket) : State :=
  match s.ticketInput t with
  | (none, s) => s.finishTicket t.client t.num stBulkFailed []
  | (some d, s) =>
    let (st, s) := (s.bankWrite (1 - s.fw.active) 0 d).fwLoaded d.length
    s.finishTicket t.client t.num st []

/-- DECK.FW_VERIFY (R116): the verification goes PENDING. -/
def bodyFwVerify : Body := fun c s =>
  if s.locked c.client [imageLock] then s.busyLock c [imageLock]
  else if s.fw.loaded.isNone then s.answer stWrongState
  else s.pend c [imageLock]

/-- The end of DECK.FW_VERIFY (R50): R40, and REQUIRES of the configuration in force against the new VERSION. -/
def State.fwVerifyEnd (s : State) (t : Ticket) : State :=
  let img := s.bankImage (1 - s.fw.active)
  let st := s.verifyImage itFirmware img
  let st := if st == 0 && s.fw.cfgRequires > imgVersion img then stVerifyRequires else st
  if st != 0 then s.finishTicket t.client t.num st []
  else
    ({ s with fw := { s.fw with verified := true } }).finishTicket t.client t.num stDone
      (leBytes 4 (imgVersion img) ++ leBytes 4 (imgSecurity img) ++ sliceB img 0x50 16)

/-- Firmware services the watchdog itself, within the window (R52). -/
def State.watchdogPet (s : State) : State :=
  if s.brim.wdClose.isNone then s
  else ((s.setF WdtStatus.nextToken (Config.watchdogNext (s.getF WdtStatus.nextToken) % 256)).watchdogWindow false true).faultFall 12

/-- DECK.FW_SWITCH (R51 to R53, R116): the mailbox stays SERVING until the new firmware answers, or the old one resumes. -/
def bodyFwSwitch : Body := fun c s =>
  let flags := leAt c.payload 0 4
  let force := bitOf flags 0
  let running := s.gci.tickets.filter (fun t => t.result.isNone)
  if flags > 1 then s.answer stBadValue
  else if !s.fw.verified then s.answer stWrongState
  else if !force && (!s.gci.drafts.isEmpty || !running.isEmpty) then s.busy 10
  else
    let s := { s with gci := { s.gci with drafts := [] } }
    let s := running.foldl (fun (s : State) t => s.abortTicket t) s
    let s := s.watchdogPet.setF DeckBootStatus.stage 11
    let sw := (c.mb, s.getF (MbSeq.lastPosted c.mb), s.fw.active, s.after (msC 2))
    (⟨stHold, [], 0, 0⟩, { s with fw := { s.fw with switching := some sw, active := 1 - s.fw.active } })

/-- DECK.FW_PROGRAM (R50, R116). -/
def bodyFwProgram : Body := fun c s =>
  if s.locked c.client [imageLock] then s.busyLock c [imageLock] else s.pend c [imageLock]

/-- The end of DECK.FW_PROGRAM: the running image goes to the slot that was not booted, with GENERATION one above the booted
slot's, and that slot's attempt count is cleared (R50). -/
def State.fwProgramEnd (s : State) (t : Ticket) (ok : Bool) : State :=
  let slot := 1 - s.getF DeckBootStatus.fwSlot
  let gen := (imgGeneration (s.slotHeader itFirmware (1 - slot)) + 1) % 2 ^ 32
  if !ok then s.finishTicket t.client t.num stFlashError []
  else
    let s := s.writeSlot itFirmware slot gen (s.bankImage s.fw.active)
    let s := s.setF (if slot = 0 then DeckBootStatus.attemptsA else DeckBootStatus.attemptsB) 0
    s.finishTicket t.client t.num stDone []

/-! ### Configuration images (R116, R117) -/

/-- The slot that DECK.CONFIG_PROGRAM writes, and the GENERATION it gives it. -/
def State.configSlot (s : State) : Nat × Nat :=
  let a := imgGeneration (s.slotHeader itConfig 0)
  let b := imgGeneration (s.slotHeader itConfig 1)
  if a < b then (0, (b + 1) % 2 ^ 32) else (1, (a + 1) % 2 ^ 32)

/-- Verification of a configuration image and of its REQUIRES against the running firmware. -/
def State.configVerify (s : State) (img : List Byte) : Nat :=
  let st := s.verifyImage itConfig img
  if st == 0 && imgRequires img > s.fwVersion then stVerifyRequires else st

/-- A piece stands in the target slot, whose header stays erased; while it does, the slot stays the one of the lower GENERATION. -/
def State.configPiece (s : State) (at_ : Nat) (p : Piece) : State :=
  if p.off < 128 then { s with flash := memWrites s.flash at_ (zeros 128 ++ p.data.drop (128 - p.off)) }
  else { s with flash := memWrites s.flash (at_ + p.off) p.data }

/-- A piece of DECK.CONFIG_PROGRAM is stored: it stands in the target slot, and the transfer behind it (R117). -/
def State.configStored (s : State) (client cmd : Nat) (p : Piece) : State :=
  (s.pieceStand client cmd p).configPiece (slotBase itConfig s.configSlot.1) p

/-- DECK.CONFIG_PROGRAM (R116): by bulk descriptor, or in pieces (R117). A piece before LAST is answered DONE once it is stored; the
rest goes PENDING. -/
def bodyConfigProgram : Body := fun c s =>
  match c.bulk with
  | none => s.answer stBadLength
  | some b =>
    let max := imgMax itConfig + 224
    if !b.ok [0] then s.answer stBadValue
    else if s.locked c.client [imageLock] then s.busyLock c [imageLock]
    else if b.seg && s.spiMb c.mb then
      match s.pieceOf c b.len max with
      | none => s.answer stBadValue
      | some p => if p.last then s.pend c [imageLock] else (s.configStored c.client c.cmd p).answer stDone
    else if b.len > max then s.answer stBadValue
    else s.pend c [imageLock]

/-- The end of the LAST piece of DECK.CONFIG_PROGRAM (R117): it is stored and verified, and the image takes its header. Where the
flash fails, the header of the target slot stays erased, and the slot invalid. -/
def State.configPieceEnd (s : State) (t : Ticket) (ok : Bool) : State :=
  match s.pieceIn t.client t.cmd t.input (imgMax itConfig + 224) with
  | none => s.finishTicket t.client t.num stBadValue []
  | some p =>
    let head := s.pieceHead t.client t.cmd p
    let (slot, gen) := s.configSlot
    let at_ := slotBase itConfig slot
    let erased := { s with flash := memWrites s.flash at_ (zeros 128) }
    if !ok then (erased.setTransfer t.client t.cmd none).finishTicket t.client t.num stFlashError []
    else
      let s := s.configStored t.client t.cmd p
      let img := head ++ memReads s.flash (at_ + 128) (p.total - 128)
      let st := if p.total != 224 + imgBodyLen head then stVerifyHeader else s.configVerify img
      if st != 0 then s.finishTicket t.client t.num st []
      else (s.writeSlot itConfig slot gen img).finishTicket t.client t.num stDone []

/-- The end of DECK.CONFIG_PROGRAM. -/
def State.configProgramEnd (s : State) (t : Ticket) (ok : Bool) : State :=
  if t.seg && t.far.isNone then s.configPieceEnd t ok
  else
  match s.ticketInput t with
  | (none, s) => s.finishTicket t.client t.num stBulkFailed []
  | (some img, s) =>
    let st := if img.length != 224 + imgBodyLen img then stVerifyHeader else s.configVerify img
    let (slot, gen) := s.configSlot
    if st != 0 then s.finishTicket t.client t.num st []
    else if !ok then s.finishTicket t.client t.num stFlashError []
    else (s.writeSlot itConfig slot gen img).finishTicket t.client t.num stDone []

/-! ### Segments (R103) -/

/-- Does a ticket of the client run on its segment buffer? -/
def State.segBusy (s : State) (client : Nat) : Bool :=
  s.gci.tickets.any (fun t => t.client == client && t.seg && t.result.isNone)

/-- DECK.SEG_WRITE (R103). A client that is not on SPI has no segment buffer (DESIGN CHOICE, log entry 31). -/
def bodySegWrite : Body := fun c s =>
  let off := leAt c.payload 0 4
  let d := c.payload.drop 4
  if d.length % 4 != 0 || d.length > 1000 then s.answer stBadLength
  else if !s.spiMb c.mb then s.answer stWrongState
  else if s.segBusy c.client then s.busy 10
  else if off + d.length > 65536 then s.answer stBadValue
  else ({ s with gci := { s.gci with seg := memWrites s.gci.seg (c.client * 65536 + off) d } }).answer stDone

/-- DECK.SEG_READ (R103). -/
def bodySegRead : Body := fun c s =>
  let off := leAt c.payload 0 4
  let n := leAt c.payload 4 4
  if !s.spiMb c.mb then s.answer stWrongState
  else if n < 4 || n > 1000 || off + n > 65536 then s.answer stBadValue
  else s.answer stDone (memReads s.gci.seg (c.client * 65536 + off) n)

/-! ### The rows -/

/-- DECK.IDENTIFY. -/
def execDeckIdentify (q : Req) (s : State) : Host.Outcome State Fault Refusal := .next (s.request 0x0110 q bodyIdentify)
/-- DECK.RESET. -/
def execDeckReset (q : Req) (s : State) : Host.Outcome State Fault Refusal := .next (s.request 0x0111 q bodyReset)
/-- DECK.CLIENT_SET. -/
def execDeckClientSet (q : Req) (s : State) : Host.Outcome State Fault Refusal := .next (s.request 0x0112 q bodyClientSet)
/-- DECK.TICKET_STATUS. -/
def execDeckTicketStatus (q : Req) (s : State) : Host.Outcome State Fault Refusal :=
  .next (s.request 0x0113 q bodyTicketStatus)
/-- DECK.TICKET_ABORT. -/
def execDeckTicketAbort (q : Req) (s : State) : Host.Outcome State Fault Refusal :=
  .next (s.request 0x0114 q bodyTicketAbort)
/-- DECK.FW_LOAD. -/
def execDeckFwLoad (q : Req) (s : State) : Host.Outcome State Fault Refusal := .next (s.request 0x0115 q bodyFwLoad)
/-- DECK.FW_VERIFY. -/
def execDeckFwVerify (q : Req) (s : State) : Host.Outcome State Fault Refusal := .next (s.request 0x0116 q bodyFwVerify)
/-- DECK.FW_SWITCH. -/
def execDeckFwSwitch (q : Req) (s : State) : Host.Outcome State Fault Refusal := .next (s.request 0x0117 q bodyFwSwitch)
/-- DECK.FW_PROGRAM. -/
def execDeckFwProgram (q : Req) (s : State) : Host.Outcome State Fault Refusal := .next (s.request 0x0118 q bodyFwProgram)
/-- DECK.CONFIG_PROGRAM. -/
def execDeckConfigProgram (q : Req) (s : State) : Host.Outcome State Fault Refusal :=
  .next (s.request 0x0119 q bodyConfigProgram)
/-- DECK.SEG_WRITE. -/
def execDeckSegWrite (q : Req) (s : State) : Host.Outcome State Fault Refusal := .next (s.request 0x011A q bodySegWrite)
/-- DECK.SEG_READ. -/
def execDeckSegRead (q : Req) (s : State) : Host.Outcome State Fault Refusal := .next (s.request 0x011C q bodySegRead)

end Sys2Proof.Machine
end

