-- ==== Sys2Proof/Machine/CmdChan.lean ====
section
/-! DEFINITION. The commands of the SPAN, CHAN and ETH classes (R109 to R113, R142, R149, R152, R392, R400, R403, R407). -/

namespace Sys2Proof.Machine

/-! ### Commands that may go PENDING -/

/-- Run a command's work under a ticket `ref`; where the work reaches its end at once, the answer is that end (R74, R90). -/
def State.runP (s : State) (c : Ctx) (locks : List Nat) (work : State → Nat → State) : Resp × State :=
  let (num, s) := s.openTicket { c with flags := setBit c.flags 1 false } locks
  let s := work s (ticketRef c.client num)
  match (s.ticket c.client num).bind (·.result) with
  | some (st, pay) => (⟨st, pay, 0, 0⟩, s.freeTicket c.client num)
  | none =>
    let mark := fun (t : Ticket) => if t.client == c.client && t.num == num then { t with onDone := bitOf c.flags 1 } else t
    (⟨stPending, [], num, 0⟩, { s with gci := { s.gci with tickets := s.gci.tickets.map mark } })

/-- The lock of the object that an OREF names. -/
def Oref.lock (o : Oref) : Nat := o.key * 2 ^ 16

/-- Queue a Hatpin access of `n` transfers for a command that goes PENDING (R12, R74). -/
def State.pendHatpin (s : State) (c : Ctx) (n : Nat) (data : List Byte) (write : Bool) : Resp × State :=
  let (r, s) := s.pend c []
  (r, { s with hatpin := { s.hatpin with queue := s.hatpin.queue ++
    [({ client := c.client, ticket := r.ticket, left := max n 1, data := data, write := write } : HatpinAccess)] } })

/-! ### SPAN -/

/-- A command that takes a SPAN object alone. -/
def State.spanBody (s : State) (c : Ctx) (f : Nat → Resp × State) : Resp × State :=
  let o := orefOf c.payload
  if o.typ != 0x03 then s.answer stBadObject else f o.span

/-- SPAN.SLEEP_REQ (R392). -/
def bodySleepReq : Body := fun c s => s.spanBody c (fun i =>
  let flags := leAt c.payload 8 4
  if flags > 1 then s.answer stBadValue
  else if s.spanPar i 0x0100 == 0 then s.answer stWrongState
  else
    let s := s.holdClear i c.client
    -- a keep-alive of the same millisecond wins over NOW
    let met := (s.span i).kaHeard.any (fun t => decide (strandDiff s.strand t < msC 1))
    let s := if bitOf flags 0 && !met then s.idleEnd i else s
    (s.spanUpdate i).answer stDone)

/-- SPAN.WAKE_REQ (R392). -/
def bodyWakeReq : Body := fun c s => s.spanBody c (fun i =>
  let s := s.holdSet i c.client
  let st := s.spanState i
  let s := if st == spAsleep || st == spEntering then s.wake i wsHost c.client 0 0xFF else s
  (s.spanUpdate i).answer stDone)

/-- Milliseconds left of a timer, 0 when it is not running. -/
def State.msLeft (s : State) (t : Option Nat) : Nat :=
  match t with
  | none => 0
  | some d => if strandAfter s.strand d then 0 else ceilDiv (strandDiff d s.strand) (msC 1)

/-- SPAN.STATE (R407). -/
def bodySpanState : Body := fun c s => s.spanBody c (fun i =>
  let w := (s.reg (SpanState.state i).off).toNat
  let v := s.span i
  s.answer stDone (leBytes 1 (s.spanState i) ++ leBytes 1 (bitsOf w 7 3) ++ leBytes 1 (s.getF (SpanState.holds i)) ++ [0] ++
    leBytes 4 (s.msLeft v.idleAt) ++ leBytes 4 (s.msLeft v.prepareAt) ++ leBytes 4 (s.msLeft v.falseAt)))

/-- Is record number `n` at or after `from_` in modulo-65,536 order? -/
def seqAtOrAfter (n from_ : Nat) : Bool := decide ((n + 65536 - from_) % 65536 < 32768)

/-- The records that SPAN.WAKE_SOURCES names, oldest first (R400). -/
def State.wakesFor (s : State) (p : List Byte) : List WakeRec :=
  let o := orefOf p
  let mine := s.brim.wakes.reverse.filter (fun r => seqAtOrAfter r.seq (leAt p 8 2) && (o.typ == 0x01 || r.span == o.span))
  mine.take (leAt p 10 2)

/-- A wake record's 16 bytes (R397). -/
def WakeRec.bytes (r : WakeRec) : List Byte :=
  leBytes 6 r.time ++ leBytes 2 r.seq ++ leBytes 1 r.source ++ leBytes 1 r.index ++ leBytes 1 r.span ++ leBytes 1 r.flags ++
  leBytes 4 r.detail

/-- The response of SPAN.WAKE_SOURCES. -/
def State.wakesPayload (s : State) (p : List Byte) : List Byte :=
  let from_ := leAt p 8 2
  let l := s.wakesFor p
  let next := match l.getLast? with | some r => (r.seq + 1) % 65536 | none => from_
  let lost := match s.brim.wakes.getLast? with
    | some r => if seqAtOrAfter r.seq from_ then min ((r.seq + 65536 - from_) % 65536) (min s.brim.wakesLost 65535) else 0
    | none => 0
  leBytes 2 l.length ++ leBytes 2 next ++ leBytes 2 lost ++ zeros 2 ++ l.flatMap WakeRec.bytes

/-- SPAN.WAKE_SOURCES (R400): the records come over the Hatpin link, four words each. -/
def bodyWakeSources : Body := fun c s =>
  let n := leAt c.payload 10 2
  if n < 1 || n > 62 then s.answer stBadValue else s.pendHatpin c (4 * (s.wakesFor c.payload).length) [] false

/-- A stay-awake log entry's 16 bytes (R402). -/
def StayEntry.bytes (e : StayEntry) : List Byte :=
  leBytes 6 e.time ++ leBytes 1 e.reason ++ leBytes 1 e.kind ++ leBytes 1 e.holder ++ leBytes 1 e.chan ++ zeros 2 ++
  leBytes 4 (min e.awake (2 ^ 32 - 1))

/-- Milliseconds of an account of 32 bits (R401). -/
def accountMs (cycles : Nat) : List Byte := leBytes 4 (min (cycles / msC 1) (2 ^ 32 - 1))

/-- HOLD_MS of a client. -/
def State.holdTotal (s : State) (i k : Nat) : Nat :=
  let h := tabGet (fun _ => ({} : HoldAcc)) (s.span i).holds k
  h.acc + (if bitOf (s.getF (SpanState.holds i)) k then s.brim.hb - h.since else 0)

/-- SPAN.STAY_AWAKE_LOG (R403). -/
def bodyStayAwakeLog : Body := fun c s => s.spanBody c (fun i =>
  let part := leAt c.payload 8 1
  let start := leAt c.payload 12 2
  let n := leAt c.payload 14 2
  let v := s.span i
  if leAt c.payload 9 3 != 0 then s.answer stBadValue
  else if part = 0 && 1 ≤ n && n ≤ 62 then s.answer stDone (((v.log.drop start).take n).flatMap StayEntry.bytes)
  else if part = 1 && 1 ≤ n && n ≤ 252 && start + n ≤ 256 then
    s.answer stDone ((List.range n).flatMap (fun k =>
      accountMs (s.nodeTotal i (start + k))))
  else if part = 2 && start = 0 && n = 8 then
    s.answer stDone ((List.range 8).flatMap (fun k => accountMs (s.holdTotal i k)))
  else s.answer stBadValue)

/-- SPAN.MEMBER_SET (R109, R19). -/
def bodyMemberSet : Body := fun c s => s.spanBody c (fun i =>
  let ch := leAt c.payload 8 1
  let k := lockOf (pkey (oChan ch) pidSpan)
  if ch ≤ 103 && s.locked c.client [k] then s.busyLock c [k]
  else if ch > 103 || leAt c.payload 9 3 != 0 then s.answer stBadValue
  else if s.absentVariant && orefAbsent ⟨0x04, 0, 0xFF, ch, noIdx⟩ then s.answer stAbsentObject
  else if s.spanState (s.spanOf ch) != spAwake || s.spanState i != spAwake then s.answer stWrongState
  else s.stage c [(pkey (oChan ch) pidSpan, i)])

/-! ### CHAN -/

/-- Channel kinds of R113. -/
def chanKind (c : Nat) : Nat :=
  if c ≤ 19 then 0 else if c ≤ 21 then 1 else if c = 22 then 2 else if c = 23 then 3 else if c ≤ 87 then 4 else 5

/-- The mode that a transceiver is in or on its way to. -/
def State.xcvrTarget (s : State) (n : Nat) : Nat :=
  let l := s.canLane n
  match s.xcvrQueued n, l.xcvrPend, l.xcvrGoing with
  | some m, _, _ => m
  | none, some m, _ => m
  | none, none, some m => m
  | none, none, none => s.getF (CanStatus.xcvrMode n)

/-- The effect of CHAN.ENABLE (R110); `mode` is the transceiver mode of a first-light CHANNEL record. -/
def State.chanEnable (s : State) (c : Nat) (mode : Option Nat) : State :=
  if s.chanEnabled c then s
  else if 24 ≤ c && c ≤ 87 then
    let n := c - 24
    let s := (s.setF (CanStatus.enabled n) 1).setF (CanStatus.integrating n) 1
    match mode with
    | some m => s.xcvrCommand n m
    | none => if n < 16 && 2 ≤ s.xcvrTarget n then s.xcvrCommand n 0 else s
  else
    let s := State.anStart { s with chanOn := tabSet (fun _ => false) s.chanOn c true } c
    if 88 ≤ c && c ≤ 103 then
      let n := c - 88
      (s.setLin n { s.linLane n with publish := [], slot := .idle, activity := s.strand }).setF (LinStatus.roleActive n)
        (s.linPar n 0x0100)
    else s

/-- CHAN.ENABLE (R110). A Channel that is enabled already answers DONE even while its Span is ENTERING, ASLEEP or WAKING, for which R110
states both DONE and WRONG_STATE (DESIGN CHOICE, log entry 85); a Channel of a retained pair stays disabled (R39) and answers
WRONG_STATE (DESIGN CHOICE, log entry 86: R110 names no status). -/
def bodyChanEnable : Body := fun c s =>
  let ch := (orefOf c.payload).chan
  let st := s.spanState (s.spanOf ch)
  if ch = 22 || ch = 23 then s.answer stBadValue
  else if s.chanEnabled ch then s.answer stDone
  else if st == spEntering || st == spAsleep || st == spWaking then s.answer stWrongState
  else if decide (24 ≤ ch ∧ ch ≤ 31) && s.cwRetained ((ch - 24) / 2) then s.answer stWrongState
  else ((s.chanEnable ch none).spanUpdate (s.spanOf ch)).answer stDone

/-- The start of a disable (R111, R193): mode 1 drain, 2 force. -/
def State.chanDisable (s : State) (c mode ref : Nat) : State :=
  if c ≤ 21 then
    if mode = 1 then (s.setPort c { s.port c with disabling := some ⟨1, ref, s.after (msC 100)⟩ }).portDisableStep c
    else s.portForce c ref
  else if c ≤ 87 then
    let n := c - 24
    if mode = 1 then
      let d : Disabling := ⟨1, ref, s.after (msC (s.canPar n 0x0208))⟩
      let s := (s.setCan n { s.canLane n with disabling := some d }).setF (CanStatus.draining n) 1
      if s.canIdle n then s.canDisabled n else s
    else s.canForce n ref
  else
    let n := c - 88
    if mode = 1 then
      let s := s.setLin n { s.linLane n with disabling := some ⟨1, ref, s.after (msC 100)⟩ }
      let rests := (s.linLane n).slot == .idle && !s.flag (LinStatus.running n)
      if rests && (s.getF (LinStatus.roleActive n) != 1 || (s.queue (linQueue n 1)).isEmpty) then s.linDisabled n else s
    else s.linForce n ref

/-- CHAN.DISABLE (R111). -/
def bodyChanDisable : Body := fun c s =>
  let o := orefOf c.payload
  let mode := leAt c.payload 8 1
  if o.chan = 22 || o.chan = 23 || !(mode == 1 || mode == 2) || leAt c.payload 9 3 != 0 then s.answer stBadValue
  else if !s.chanEnabled o.chan then s.answer stDone
  else
    let (r, s) := s.runP c [o.lock] (fun s ref => s.chanDisable o.chan mode ref)
    (r, s.spanUpdate (s.spanOf o.chan))

/-- ENABLED and UP of R113. -/
def State.linkUpDown (s : State) (c : Nat) : Bool × Bool :=
  match chanKind c with
  | 0 | 1 => (s.chanEnabled c, s.flag (PortStatus.linkUp c))
  | 2 => (true, s.pcie.linkUp)
  | 3 => (s.store.state == ssAttached, s.store.state == ssAttached)
  | 4 =>
    let n := c - 24
    let e := s.flag (CanStatus.enabled n)
    (e, e && !s.flag (CanStatus.integrating n) && s.getF (CanStatus.errState n) != 2)
  | _ => (s.chanEnabled c, s.getF (LinStatus.roleActive (c - 88)) != 0 && !s.flag (LinStatus.busIdle (c - 88)))

/-- STATUS, EVENTS and DETAIL of R113, as BAR0 offsets; 0 for a field that reads 0. -/
def linkWords (c : Nat) : Nat × Nat × Nat :=
  match chanKind c with
  | 0 => (PortStatus.off c, PortEvents.off c, PortPauseStatus.off c)
  | 1 => (PortStatus.off c, PortEvents.off c, 0)
  | 2 | 3 => (TrStatus.off, 0, 0)
  | 4 => (CanStatus.off (c - 24), CanEvents.off (c - 24), CanErrStatus.off (c - 24))
  | _ => (LinStatus.off (c - 88), LinEvents.off (c - 88), 0)

/-- CHAN.LINK_STATE (R113). -/
def bodyLinkState : Body := fun c s =>
  let ch := (orefOf c.payload).chan
  let (en, up) := s.linkUpDown ch
  let (a, b, d) := linkWords ch
  let word := fun (x : Nat) => leBytes 4 (if x = 0 then 0 else (s.reg x).toNat)
  s.answer stDone (leBytes 1 (chanKind ch) ++ leBytes 1 (b2n en) ++ leBytes 1 (b2n up) ++ leBytes 1 (s.spanOf ch) ++
    word a ++ word b ++ word d)

/-- CHAN.XCVR_MODE (R112, R165); `fails`: the Hatpin access of the mode command fails (R12). -/
def bodyXcvrMode (fails : Bool) : Body := fun c s =>
  let ch := (orefOf c.payload).chan
  let mode := leAt c.payload 8 1
  if ch < 24 || ch > 39 || mode > 3 || leAt c.payload 9 3 != 0 then s.answer stBadValue
  else if mode = 0 && (s.spanState (s.spanOf ch) != spAwake || !s.brim.vcc5) then s.answer stWrongState
  else if fails then s.hatpinDown.answer stAccessFailed
  else (s.xcvrSent (ch - 24) mode).answer stDone

/-! ### ETH -/

/-- ETH.WAKE_PATTERN_SET (R149). -/
def bodyWakePatternSet : Body := fun c s =>
  let o := orefOf c.payload
  let en := leAt c.payload 8 1
  let len := leAt c.payload 9 1
  let pat := sliceB c.payload 0x1C 128
  if c.payload.length != 156 then s.answer stBadLength
  else if o.typ != 0x17 then s.answer stBadObject
  else if en > 1 || len < 1 || len > 128 || leAt c.payload 10 2 != 0 || leVal (pat.drop len) != 0 then s.answer stBadValue
  else
    s.stage c [(pkey o.key (pidRaw 0), en), (pkey o.key (pidRaw 1), len), (pkey o.key (pidRaw 2), leAt c.payload 12 16),
               (pkey o.key (pidRaw 3), leVal pat)]

/-- ETH.PAUSE_STORM_CLEAR (R142). -/
def bodyPauseStormClear : Body := fun c s =>
  let o := orefOf c.payload
  let m := leAt c.payload 8 4
  if o.typ != 0x04 then s.answer stBadObject
  else (((List.range 8).filter (fun k => bitOf m k)).foldl (fun (s : State) k => s.stormExit o.chan k) s).answer stDone

/-- The fields of an MDIO access are in range (R152). A Clause 22 register number has 5 bits (log entry 32). -/
def mdioOk (p : List Byte) (write : Bool) : Bool :=
  let clause := leAt p 1 1
  decide (leAt p 0 1 ≤ 1) && (clause == 22 || clause == 45) && decide (leAt p 2 1 ≤ 31) && decide (leAt p 3 1 ≤ 31) &&
  (clause == 45 || (leAt p 3 1 == 0 && decide (leAt p 4 2 ≤ 31))) && (write || leAt p 6 2 == 0)

/-- ETH.MDIO_READ and ETH.MDIO_WRITE (R152): a Clause 22 access on an idle master ends within the slice, its data a free
value; any other goes PENDING. -/
def bodyMdio (write : Bool) : Body := fun c s =>
  let m := leAt c.payload 0 1
  if c.payload.length != 8 then s.answer stBadLength
  else if !mdioOk c.payload write then s.answer stBadValue
  else
    let idle := (s.mdioQueue m).isEmpty
    let s := if idle then s.mdioStart m c.payload write else s
    if idle && leAt c.payload 1 1 == 22 then
      if write then s.answer stDone
      else
        let (x, s) := s.draw
        s.answer stDone (leBytes 2 x)
    else
      let (r, s) := s.pend c []
      (r, s.setMdio m (s.mdioQueue m ++ [(c.client, r.ticket, c.payload)]))

/-! ### The rows -/

/-- SPAN.SLEEP_REQ. -/
def execSpanSleepReq (q : Req) (s : State) : Host.Outcome State Fault Refusal := .next (s.request 0x0210 q bodySleepReq)
/-- SPAN.WAKE_REQ. -/
def execSpanWakeReq (q : Req) (s : State) : Host.Outcome State Fault Refusal := .next (s.request 0x0211 q bodyWakeReq)
/-- SPAN.STATE. -/
def execSpanState (q : Req) (s : State) : Host.Outcome State Fault Refusal := .next (s.request 0x0212 q bodySpanState)
/-- SPAN.WAKE_SOURCES. -/
def execSpanWakeSources (q : Req) (s : State) : Host.Outcome State Fault Refusal :=
  .next (s.request 0x0213 q bodyWakeSources)
/-- SPAN.STAY_AWAKE_LOG. -/
def execSpanStayAwakeLog (q : Req) (s : State) : Host.Outcome State Fault Refusal :=
  .next (s.request 0x0214 q bodyStayAwakeLog)
/-- SPAN.MEMBER_SET. -/
def execSpanMemberSet (q : Req) (s : State) : Host.Outcome State Fault Refusal := .next (s.request 0x0215 q bodyMemberSet)
/-- CHAN.ENABLE. -/
def execChanEnable (q : Req) (s : State) : Host.Outcome State Fault Refusal := .next (s.request 0x0310 q bodyChanEnable)
/-- CHAN.DISABLE. -/
def execChanDisable (q : Req) (s : State) : Host.Outcome State Fault Refusal := .next (s.request 0x0311 q bodyChanDisable)
/-- CHAN.LINK_STATE. -/
def execChanLinkState (q : Req) (s : State) : Host.Outcome State Fault Refusal := .next (s.request 0x0312 q bodyLinkState)
/-- CHAN.XCVR_MODE. -/
def execChanXcvrMode (fails : Bool) (q : Req) (s : State) : Host.Outcome State Fault Refusal :=
  .next (s.request 0x0313 q (bodyXcvrMode fails))
/-- ETH.WAKE_PATTERN_SET. -/
def execEthWakePatternSet (q : Req) (s : State) : Host.Outcome State Fault Refusal :=
  .next (s.request 0x0410 q bodyWakePatternSet)
/-- ETH.PAUSE_STORM_CLEAR. -/
def execEthPauseStormClear (q : Req) (s : State) : Host.Outcome State Fault Refusal :=
  .next (s.request 0x0411 q bodyPauseStormClear)
/-- ETH.MDIO_READ. -/
def execEthMdioRead (q : Req) (s : State) : Host.Outcome State Fault Refusal := .next (s.request 0x0412 q (bodyMdio false))
/-- ETH.MDIO_WRITE. -/
def execEthMdioWrite (q : Req) (s : State) : Host.Outcome State Fault Refusal := .next (s.request 0x0413 q (bodyMdio true))

end Sys2Proof.Machine
end

