-- ==== Sys2Proof/Machine/CmdCan.lean ====
section
/-! DEFINITION. The commands of the CAN and LIN classes (R113, R114, R176, R177, R180, R188, R195, R197, R200, R201, R393). -/

namespace Sys2Proof.Machine

/-! ### CAN -/

/-- CAN.BUS_OFF_RECOVER (R176). -/
def bodyBusOffRecover : Body := fun c s =>
  let n := (orefOf c.payload).chan - 24
  if s.getF (CanStatus.errState n) != 2 then s.answer stWrongState
  else if s.flag (CanStatus.recovering n) then s.answer stDone
  else (s.canRecoverStart n).answer stDone

/-- CAN.RESTRICTED_SET (R177). -/
def bodyRestrictedSet : Body := fun c s =>
  let n := (orefOf c.payload).chan - 24
  let v := leAt c.payload 8 4
  let l := s.canLane n
  if v > 1 then s.answer stBadValue
  else if s.getF (CanStatus.errState n) == 2 then s.answer stWrongState
  else if v = 1 then
    if s.flag (CanStatus.restricted n) then s.answer stDone
    else if l.inFlight.isSome then (s.setCan n { l with restrictPend := true }).answer stDone
    else (s.setF (CanStatus.restricted n) 1).answer stDone
  else
    let was := s.flag (CanStatus.restricted n)
    let s := s.setCan n { l with
      restrictPend := false
      recheck := if was then l.fifo.length else l.recheck
      tried := if was then none else l.tried }
    (s.setF (CanStatus.restricted n) 0).answer stDone

/-- The transmit record that follows an OREF, of the length that its own fields give, padding included or not. -/
def txRecordOf (p : List Byte) : Option (List Byte) :=
  let r := p.drop 8
  if recFormat r % 4 == 3 || (ceilDiv r.length 16 == recGranules r && decide (recBytes r ≤ r.length)) then some (r.take (recBytes r)) else none

/-- Is the Channel disabled or being disabled (R188, R193)? -/
def State.canClosed (s : State) (n : Nat) : Bool := !s.flag (CanStatus.enabled n) || (s.canLane n).disabling.isSome

/-- A frame of a command that its Channel cannot carry is dropped at enqueue (R158). -/
def State.canMismatch (s : State) (n : Nat) (want : Bool) : State :=
  let s := s.countStatus n csFormat
  if want then (s.txcReserve n).txcWrite n 0xFFFF csFormat 0 0 0 else s

/-- CAN.TX_FRAME (R188). A record with AT_TIME_EN goes to the comparator (R180). -/
def bodyTxFrame : Body := fun c s =>
  let n := (orefOf c.payload).chan - 24
  match txRecordOf c.payload with
  | none => s.answer stBadLength
  | some r =>
    let want := bitOf (leAt r 14 1) 3
    let comp := if want then some 0xFFFF else none
    if s.canClosed n then s.answer stWrongState
    else if !txRecordOk r then s.answer stBadValue
    else if want && s.txcFree n == 0 then s.busy 1
    else if !s.canCarries n r then (s.canMismatch n want).answer stDone
    else
      let t := if want then s.txcReserve n else s
      if bitOf (leAt r 14 1) 4 then
        if (s.canLane n).at_.isSome then
          let t := t.countStatus n csBusy
          (if want then t.txcWrite n 0xFFFF csBusy 0 0 0 else t).answer stDone
        else (t.atArm n (txStored r s.strand) (leAt r 8 6) comp).answer stDone
      else
        match t.canEnqueueTx n r comp with
        | none => s.busy 1
        | some t => t.answer stDone

/-- CAN.TX_AT_TIME (R114, R180). With a completion asked for and no granule free it is answered WRONG_STATE (DESIGN CHOICE, log
entry 33). -/
def bodyTxAtTime : Body := fun c s =>
  let n := (orefOf c.payload).chan - 24
  match txRecordOf c.payload with
  | none => s.answer stBadLength
  | some r =>
    let want := bitOf (leAt r 14 1) 3
    if s.canClosed n || (s.canLane n).at_.isSome then s.answer stWrongState
    else if !txRecordOk r then s.answer stBadValue
    else if want && s.txcFree n == 0 then s.answer stWrongState
    else if !s.canCarries n r then (s.canMismatch n want).answer stDone
    else
      let t := if want then s.txcReserve n else s
      (t.atArm n (txStored r s.strand) (leAt r 8 6) (if want then some 0xFFFF else none)).answer stDone

/-- CAN.SWAKE_SET (R393). -/
def bodySwakeSet : Body := fun c s =>
  let o := orefOf c.payload
  let at_ := fun (i n : Nat) => leAt c.payload (8 + i) n
  if c.payload.length != 28 then s.answer stBadLength
  else if o.chan > 39 || at_ 0 1 > 1 || at_ 1 1 > 3 || at_ 2 1 > 8 || at_ 3 1 != 0 || at_ 4 4 ≥ 2 ^ 29 || at_ 8 4 ≥ 2 ^ 29 ||
      (!bitOf (at_ 1 1) 0 && at_ 4 4 ≥ 2 ^ 11) then s.answer stBadValue
  else s.stage c [(pkey o.key pidSwake, leAt c.payload 8 20)]

/-- CAN.ERROR_STATE (R113). -/
def bodyErrorState : Body := fun c s =>
  let n := (orefOf c.payload).chan - 24
  s.answer stDone (leBytes 4 (s.reg (CanErrStatus.off n)).toNat ++ leBytes 4 (s.reg (CanStatus.off n)).toNat ++
    leBytes 1 (s.canLane n).noAckRun ++ zeros 3)

/-! ### LIN -/

/-- An entry of a schedule is in range (R197). -/
def schedOk (v : Nat) : Bool :=
  let typ := bitsOf v 7 0
  let id := bitsOf v 15 8
  let arg := bitsOf v 63 32
  decide (10 ≤ bitsOf v 31 16) &&
  (match typ with
   | 0 => decide (id ≤ 59) && arg == 0
   | 1 => decide (id ≤ 59) && decide (arg ≤ 31)
   | 2 => id == 0 && (List.range 4).all (fun i => decide (bitsOf arg (8 * i + 7) (8 * i) ≤ 59) || bitsOf arg (8 * i + 7) (8 * i) == 0xFF)
   | 3 | 4 => id == 0 && arg == 0
   | _ => false)

/-- LIN.SCHEDULE_SET (R197). -/
def bodyScheduleSet : Body := fun c s =>
  let o := orefOf c.payload
  let n := leAt c.payload 8 2
  if o.typ != 0x16 then s.answer stBadObject
  else if n > 64 then s.answer stBadValue
  else if c.payload.length != 12 + 8 * n then s.answer stBadLength
  else if leAt c.payload 10 2 != 0 || !(List.range n).all (fun i => schedOk (leAt c.payload (12 + 8 * i) 8)) then s.answer stBadValue
  else s.stage c [(pkey o.key (pidRaw 0), n), (pkey o.key (pidRaw 1), leVal (c.payload.drop 12))]

/-- LIN.SCHEDULE_SELECT (R200, R201). A select at a commander between slots takes effect at once: with nothing running there is
no slot to wait for. -/
def bodyScheduleSelect : Body := fun c s =>
  let o := orefOf c.payload
  let n := o.chan - 88
  let act := leAt c.payload 8 4
  let l := s.linLane n
  if o.typ != 0x16 then s.answer stBadObject
  else if act > 1 then s.answer stBadValue
  else if s.getF (LinStatus.roleActive n) != 1 || l.sleepPend || l.slot == .sleep then s.answer stWrongState
  else
    let s := s.setLin n { l with restartAt := none, wakeRestart := false, lastTable := if act = 0 then some o.idx else l.lastTable }
    if s.flag (LinStatus.running n) || l.slot != .idle then
      (s.setLin n { s.linLane n with select := some (o.idx, act) }).answer stDone
    else (if act = 0 then s.linStartTable n o.idx else s).answer stDone

/-- A command that takes a LIN Channel. -/
def State.linBody (s : State) (c : Ctx) (f : Nat → Resp × State) : Resp × State :=
  let o := orefOf c.payload
  if o.typ != 0x04 then s.answer stBadObject else f (o.chan - 88)

/-- LIN.GOTO_SLEEP (R201), of the commander role. -/
def bodyGotoSleep : Body := fun c s => s.linBody c (fun n =>
  let l := s.linLane n
  if s.getF (LinStatus.roleActive n) != 1 then s.answer stWrongState
  else if s.flag (LinStatus.running n) || l.slot != .idle then (s.setLin n { l with sleepPend := true }).answer stDone
  else (s.linSendSleep n).answer stDone)

/-- LIN.WAKEUP_SEND (R201). -/
def bodyWakeupSend : Body := fun c s => s.linBody c (fun n =>
  if s.getF (LinStatus.roleActive n) == 0 || s.flag (LinStatus.running n) then s.answer stWrongState
  else (s.linPulse n).answer stDone)

/-- LIN.RESPONSE_SET (R195). -/
def bodyResponseSet : Body := fun c s => s.linBody c (fun n =>
  let t := c.payload.drop 8
  let ok := fun (b : Byte) => decide (linDir b.toNat ≤ 2) && !bitOf b.toNat 3 && !bitOf b.toNat 7
  if !t.all ok || leVal (t.drop 60) != 0 then s.answer stBadValue
  else s.stage c [(pkey (oChan (88 + n)) pidFrameTable, leVal t)])

/-! ### The rows -/

/-- CAN.BUS_OFF_RECOVER. -/
def execCanBusOffRecover (q : Req) (s : State) : Host.Outcome State Fault Refusal :=
  .next (s.request 0x0510 q bodyBusOffRecover)
/-- CAN.RESTRICTED_SET. -/
def execCanRestrictedSet (q : Req) (s : State) : Host.Outcome State Fault Refusal :=
  .next (s.request 0x0511 q bodyRestrictedSet)
/-- CAN.TX_FRAME. -/
def execCanTxFrame (q : Req) (s : State) : Host.Outcome State Fault Refusal := .next (s.request 0x0512 q bodyTxFrame)
/-- CAN.TX_AT_TIME. -/
def execCanTxAtTime (q : Req) (s : State) : Host.Outcome State Fault Refusal := .next (s.request 0x0513 q bodyTxAtTime)
/-- CAN.SWAKE_SET. -/
def execCanSwakeSet (q : Req) (s : State) : Host.Outcome State Fault Refusal := .next (s.request 0x0514 q bodySwakeSet)
/-- CAN.ERROR_STATE. -/
def execCanErrorState (q : Req) (s : State) : Host.Outcome State Fault Refusal := .next (s.request 0x0515 q bodyErrorState)
/-- LIN.SCHEDULE_SET. -/
def execLinScheduleSet (q : Req) (s : State) : Host.Outcome State Fault Refusal :=
  .next (s.request 0x0610 q bodyScheduleSet)
/-- LIN.SCHEDULE_SELECT. -/
def execLinScheduleSelect (q : Req) (s : State) : Host.Outcome State Fault Refusal :=
  .next (s.request 0x0611 q bodyScheduleSelect)
/-- LIN.GOTO_SLEEP. -/
def execLinGotoSleep (q : Req) (s : State) : Host.Outcome State Fault Refusal := .next (s.request 0x0612 q bodyGotoSleep)
/-- LIN.WAKEUP_SEND. -/
def execLinWakeupSend (q : Req) (s : State) : Host.Outcome State Fault Refusal := .next (s.request 0x0613 q bodyWakeupSend)
/-- LIN.RESPONSE_SET. -/
def execLinResponseSet (q : Req) (s : State) : Host.Outcome State Fault Refusal := .next (s.request 0x0614 q bodyResponseSet)

end Sys2Proof.Machine
end

