-- ==== Sys2Proof/Machine/CmdForward.lean ====
section
/-! DEFINITION. The commands of the FDB and ROUTE classes (R93 to R97, R118, R226, R227, R229, R230, R232, R234, R240). -/

namespace Sys2Proof.Machine

/-! ### FDB -/

/-- A command that takes the DECK object alone. -/
def State.deckBody (s : State) (c : Ctx) (f : Unit → Resp × State) : Resp × State :=
  if (orefOf c.payload).typ != 0x01 then s.answer stBadObject else f ()

/-- A bucket's way as a draft sees it: the static entry, or else the learnt one. -/
def State.fdbView (s : State) (c : Ctx) (i : Nat) : Nat :=
  let e := s.view c (oFdb i) (pidRaw 0)
  if e != 0 then e else tabGet ctrDefault s.fwd.learnt i

/-- The lock of a key's bucket. -/
def fdbLock (i : Nat) : Nat := lockOf (pkey (oFdb i) (pidRaw 0))

/-- Does an entry hold a key? -/
def fdbHolds (mac : List Byte) (fid e : Nat) : Bool := fdbMac e == leVal mac && fdbFid e == fid

/-- The eight ways of a key's bucket. -/
def fdbWays (mac : List Byte) (fid : Nat) : List Nat := (List.range 8).map (fun w => fdbBucket mac fid * 8 + w)

/-- The way that a new static entry takes: the one that holds its key, or a free one, or a learnt one (R230: a bucket holds at
most seven static entries); `none` where the bucket is full. -/
def State.fdbPlace (s : State) (c : Ctx) (mac : List Byte) (fid : Nat) : Option Nat :=
  let ways := fdbWays mac fid
  let st := fun (i : Nat) => s.view c (oFdb i) (pidRaw 0) != 0
  let same := ways.find? (fun i => st i && fdbHolds mac fid (s.fdbView c i))
  let learnt := ways.find? (fun i => !st i && fdbValid (s.fdbView c i) && fdbHolds mac fid (s.fdbView c i))
  let free := ways.find? (fun i => !fdbValid (s.fdbView c i))
  let spare := ways.find? (fun i => !st i)
  if same.isNone && decide (7 ≤ (ways.filter st).length) then none else same.or (learnt.or (free.or spare))

/-- FDB.ADD_STATIC (R230): a static entry with the same key is replaced in its way (DEDUCED: R216 lets one way hold a key). -/
def bodyAddStatic : Body := fun c s => s.deckBody c (fun _ =>
  let mac := sliceB c.payload 8 6
  let fid := leAt c.payload 14 2
  let dest := leAt c.payload 16 4
  let flags := leAt c.payload 20 4
  if fid < 4096 && s.locked c.client [fdbLock (fdbBucket mac fid * 8)] then s.busyLock c [fdbLock (fdbBucket mac fid * 8)]
  else if fid ≥ 4096 || dest ≥ 2 ^ 23 || flags > 1 then s.answer stBadValue
  else
    match s.fdbPlace c mac fid with
    | none => s.answer stTableFull
    | some i =>
      let e := leVal mac + fid * 2 ^ 48 + 3 * 2 ^ 60 + flags * 2 ^ 63 + dest * 2 ^ 64
      s.stage c [(pkey (oFdb i) (pidRaw 0), e)] (leBytes 4 i))

/-- The way of the static entry that holds a key. -/
def State.fdbFindStatic (s : State) (c : Ctx) (mac : List Byte) (fid : Nat) : Option Nat :=
  (fdbWays mac fid).find? (fun i =>
    let e := s.view c (oFdb i) (pidRaw 0)
    fdbValid e && fdbHolds mac fid e)

/-- FDB.DELETE (R230). -/
def bodyFdbDelete : Body := fun c s => s.deckBody c (fun _ =>
  let mac := sliceB c.payload 8 6
  let fid := leAt c.payload 14 2
  if fid < 4096 && s.locked c.client [fdbLock (fdbBucket mac fid * 8)] then s.busyLock c [fdbLock (fdbBucket mac fid * 8)]
  else if fid ≥ 4096 then s.answer stBadValue
  else
    match s.fdbFindStatic c mac fid with
    | none => s.answer stNotFound
    | some i => s.stage c [(pkey (oFdb i) (pidRaw 0), 0)])

/-- The locks of FDB.FLUSH (R81, R95): every bucket of the table, since any may hold an entry that it removes (DEDUCED, log entry 93). -/
def fdbLocks : List Nat := (List.range 4096).map (fun b => fdbLock (b * 8))

/-- FDB.FLUSH (R229): it goes PENDING, and its buckets are visited in ascending order while it runs. -/
def bodyFdbFlush : Body := fun c s => s.deckBody c (fun _ =>
  let vid := leAt c.payload 12 2
  if s.locked c.client fdbLocks then s.busyLock c fdbLocks
  else if leAt c.payload 8 4 ≥ 2 ^ 23 || leAt c.payload 14 2 != 0 || (vid != 0xFFFF && vid > 4095) then s.answer stBadValue
  else s.pend c fdbLocks)

/-- FDB.FLUSH visits its buckets from where it stands up to `upTo`: each loses the learnt entries in the mask, and of the VLAN's
FID; what is learnt in a bucket after its visit stays. -/
def State.fdbFlushTo (s : State) (t : Ticket) (upTo : Nat) : State :=
  let m := leAt t.payload 8 4
  let vid := leAt t.payload 12 2
  let fid := bitsOf (s.entry (oVlan vid)) 107 96
  let goes := fun (e : Nat) =>
    (m == 0 || (fdbDest e &&& m) != 0) && (vid == 0xFFFF || fdbFid e == fid)
  let due := fun (kv : Nat × Nat) => decide (t.pos ≤ kv.1 / 8 ∧ kv.1 / 8 < upTo) && goes kv.2
  { s with
    fwd := { s.fwd with learnt := s.fwd.learnt.filter (fun (kv : Nat × Nat) => !due kv) },
    gci := { s.gci with tickets := s.gci.tickets.map (fun (u : Ticket) =>
      if u.client == t.client && u.num == t.num then { u with pos := max u.pos upTo } else u) } }

/-- The end of FDB.FLUSH: the last bucket has been visited. -/
def State.fdbFlushEnd (s : State) (t : Ticket) : State := (s.fdbFlushTo t 4096).finishTicket t.client t.num stDone []

/-- The way of the entry, static or learnt, that holds a key. -/
def State.fdbLook (s : State) (c : Ctx) (mac : List Byte) (fid : Nat) : Option Nat :=
  (fdbWays mac fid).find? (fun i =>
    let e := s.fdbView c i
    fdbValid e && fdbHolds mac fid e)

/-- FDB.LOOKUP (R230): the index and the entry. -/
def bodyFdbLookup : Body := fun c s => s.deckBody c (fun _ =>
  let mac := sliceB c.payload 8 6
  let fid := leAt c.payload 14 2
  if fid ≥ 4096 then s.answer stBadValue
  else
    match s.fdbLook c mac fid with
    | none => s.answer stNotFound
    | some i => s.answer stDone (leBytes 4 i ++ leBytes 16 (s.fdbView c i)))

/-- FDB.AGEING_SET (R227). -/
def bodyAgeingSet : Body := fun c s => s.deckBody c (fun _ =>
  let p := leAt c.payload 8 4
  let k := pkey oDeck pidAgeing
  if s.locked c.client [lockOf k] then s.busyLock c [lockOf k]
  else if !(p == 0 || (decide (10 ≤ p) && decide (p ≤ 1000000))) then s.answer stBadValue
  else s.stage c [(k, p)])

/-- FDB.LEARN_SET (R226). -/
def bodyLearnSet : Body := fun c s =>
  let o := orefOf c.payload
  let en := leAt c.payload 8 1
  let lim := leAt c.payload 12 4
  if o.typ != 0x04 then s.answer stBadObject
  else if en > 1 || leAt c.payload 9 3 != 0 || lim < 1 || lim > 32768 then s.answer stBadValue
  else s.stage c [(pkey o.key pidLearnEn, en), (pkey o.key pidLearnLimit, lim)]

/-! ### ROUTE -/

/-- ROUTE.DRAFT_OPEN (R93). -/
def bodyDraftOpen : Body := fun c s =>
  if s.gci.drafts.any (fun d => d.client == c.client) || decide (4 ≤ s.gci.drafts.length) then s.answer stTxnLimit
  else
    let h := (Config.handleBase + s.gci.draftCount) % (2 ^ 32 - 1) + 1
    let d : Draft := { handle := h, client := c.client, lastUse := s.strand, bytes := 0, changes := [] }
    ({ s with gci := { s.gci with drafts := s.gci.drafts ++ [d], draftCount := s.gci.draftCount + 1 } }).answer stDone
      (leBytes 4 h)

/-- ROUTE.DRAFT_DISCARD (R118). -/
def bodyDraftDiscard : Body := fun c s =>
  let h := leAt c.payload 0 4
  match s.draft c.client h with
  | none => s.answer stTxnUnknown
  | some _ => (s.dropDraft h).answer stDone

/-- ROUTE.DRAFT_STATUS (R118). -/
def bodyDraftStatus : Body := fun c s =>
  match s.draft c.client c.txn with
  | none => s.answer stTxnUnknown
  | some d =>
    let objs := d.objects
    let out := (objs.drop (leAt c.payload 0 4)).take 124
    s.answer stDone (leBytes 4 d.bytes ++ leBytes 4 (strandDiff s.strand d.lastUse / msC 1) ++ leBytes 4 objs.length ++
      leBytes 4 out.length ++ out.flatMap (fun k => orefBytes (keyOref s.ownDeck k)))

/-- ROUTE.EPOCH (R118). -/
def bodyEpoch : Body := fun c s => s.deckBody c (fun _ =>
  s.answer stDone (leBytes 4 s.gci.epoch ++ leBytes 4 s.pier.commitId ++ leBytes 6 s.gci.switchAt ++ zeros 2))

/-- The locks of the direct entries that a count names, as far as there are entries (step 10 of R92, R95). -/
def directLocks (o : Oref) (n : Nat) : List Nat :=
  (List.range (min n (2048 - o.idx))).map (fun i => lockOf (pkey (oDirect o.chan (o.idx + i)) (pidRaw 0)))

/-- ROUTE.DIRECT_SET (R232, R95: each entry it writes is locked). -/
def bodyDirectSet : Body := fun c s =>
  let o := orefOf c.payload
  let n := leAt c.payload 8 2
  let vals := (List.range n).map (fun i => (pkey (oDirect o.chan (o.idx + i)) (pidRaw 0), leAt c.payload (12 + 2 * i) 2))
  if o.typ != 0x0B then s.answer stBadObject
  else if s.locked c.client (directLocks o n) then s.busyLock c (directLocks o n)
  else if n < 1 || n > 496 then s.answer stBadValue
  else if c.payload.length != 12 + 2 * n then s.answer stBadLength
  else if leAt c.payload 10 2 != 0 || o.idx + n > 2048 || vals.any (fun kv => decide (16384 ≤ kv.2)) then s.answer stBadValue
  else s.stage c vals

/-- The way of the Hash entry that holds a Channel and an identifier (R233). -/
def State.hashHolder (s : State) (c : Ctx) (ch id : Nat) : Option Nat :=
  ((List.range 4).map (fun w => hashBucket ch id * 4 + w)).find? (fun i =>
    let v := s.view c (oHash i) (pidRaw 0)
    hashValid v && hashKey v == ch * 2 ^ 29 + id)

/-- The way that a Hash entry takes: the one that holds its key, or the first that is not valid (R234). -/
def State.hashPlace (s : State) (c : Ctx) (ch id : Nat) : Option Nat :=
  (s.hashHolder c ch id).or (((List.range 4).map (fun w => hashBucket ch id * 4 + w)).find? (fun i =>
    !hashValid (s.view c (oHash i) (pidRaw 0))))

/-- ROUTE.HASH_SET (R234). -/
def bodyHashSet : Body := fun c s => s.deckBody c (fun _ =>
  let ch := leAt c.payload 8 1
  let op := leAt c.payload 9 1
  let id := leAt c.payload 12 4
  let route := leAt c.payload 16 2
  if ch ≤ 63 && id < 2 ^ 29 && s.locked c.client [lockOf (pkey (oHash (hashBucket ch id * 4)) (pidRaw 0))] then s.busyLock c [lockOf (pkey (oHash (hashBucket ch id * 4)) (pidRaw 0))]
  else if leAt c.payload 10 2 != 0 || leAt c.payload 18 2 != 0 || ch > 63 || id ≥ 2 ^ 29 || !(op == 1 || op == 2) ||
      (op == 1 && (route < 1 || route > 16383)) then s.answer stBadValue
  else if s.absentVariant && ch ≥ 32 then s.answer stAbsentObject
  else
    if op == 2 then
      match s.hashHolder c ch id with
      | none => s.answer stNotFound
      | some i => s.stage c [(pkey (oHash i) (pidRaw 0), 0)] (leBytes 4 i)
    else
      match s.hashPlace c ch id with
      | none => s.answer stTableFull
      | some i => s.stage c [(pkey (oHash i) (pidRaw 0), id + 2 ^ 29 + route * 2 ^ 32 + ch * 2 ^ 48)] (leBytes 4 i))

/-- The fields that a Fallback entry may use (R240). -/
def fallbackOk (v : Nat) : Bool :=
  routeOk v && bitsOf v 87 85 == 0 && bitsOf v 127 96 == 0 && bitsOf v 159 128 == 0 && !bitOf v 182 && bitsOf v 215 192 == 0

/-- ROUTE.FALLBACK_SET (R240). -/
def bodyFallbackSet : Body := fun c s =>
  let o := orefOf c.payload
  let v := leAt c.payload 8 32
  if o.typ != 0x0E then s.answer stBadObject
  else if !fallbackOk v then s.answer stBadValue
  else s.stage c [(pkey o.key pidEntry, v)]

/-! ### The rows -/

/-- FDB.ADD_STATIC. -/
def execFdbAddStatic (q : Req) (s : State) : Host.Outcome State Fault Refusal := .next (s.request 0x0710 q bodyAddStatic)
/-- FDB.DELETE. -/
def execFdbDelete (q : Req) (s : State) : Host.Outcome State Fault Refusal := .next (s.request 0x0711 q bodyFdbDelete)
/-- FDB.FLUSH. -/
def execFdbFlush (q : Req) (s : State) : Host.Outcome State Fault Refusal := .next (s.request 0x0712 q bodyFdbFlush)
/-- FDB.LOOKUP. -/
def execFdbLookup (q : Req) (s : State) : Host.Outcome State Fault Refusal := .next (s.request 0x0713 q bodyFdbLookup)
/-- FDB.AGEING_SET. -/
def execFdbAgeingSet (q : Req) (s : State) : Host.Outcome State Fault Refusal := .next (s.request 0x0714 q bodyAgeingSet)
/-- FDB.LEARN_SET. -/
def execFdbLearnSet (q : Req) (s : State) : Host.Outcome State Fault Refusal := .next (s.request 0x0715 q bodyLearnSet)
/-- ROUTE.DRAFT_OPEN. -/
def execRouteDraftOpen (q : Req) (s : State) : Host.Outcome State Fault Refusal := .next (s.request 0x0810 q bodyDraftOpen)
/-- ROUTE.COMMIT. -/
def execRouteCommit (q : Req) (s : State) : Host.Outcome State Fault Refusal := .next (s.request 0x0811 q bodyCommit)
/-- ROUTE.DRAFT_DISCARD. -/
def execRouteDraftDiscard (q : Req) (s : State) : Host.Outcome State Fault Refusal :=
  .next (s.request 0x0812 q bodyDraftDiscard)
/-- ROUTE.DRAFT_STATUS. -/
def execRouteDraftStatus (q : Req) (s : State) : Host.Outcome State Fault Refusal :=
  .next (s.request 0x0813 q bodyDraftStatus)
/-- ROUTE.EPOCH. -/
def execRouteEpoch (q : Req) (s : State) : Host.Outcome State Fault Refusal := .next (s.request 0x0814 q bodyEpoch)
/-- ROUTE.DIRECT_SET. -/
def execRouteDirectSet (q : Req) (s : State) : Host.Outcome State Fault Refusal := .next (s.request 0x0815 q bodyDirectSet)
/-- ROUTE.HASH_SET. -/
def execRouteHashSet (q : Req) (s : State) : Host.Outcome State Fault Refusal := .next (s.request 0x0816 q bodyHashSet)
/-- ROUTE.FALLBACK_SET. -/
def execRouteFallbackSet (q : Req) (s : State) : Host.Outcome State Fault Refusal :=
  .next (s.request 0x0817 q bodyFallbackSet)

end Sys2Proof.Machine
end

