-- ==== Sys2Proof/Machine/CmdSig.lean ====
section
/-! DEFINITION. The commands of the SIG class (R291, R292, R295, R296, R305). -/

namespace Sys2Proof.Machine

/-- A command that stages COUNT table entries of `size` bytes from its OREF's index on: OREF, COUNT, two reserved bytes and
the entries (R291, R292, R296, R329). -/
def State.tableSet (s : State) (c : Ctx) (typ top max pid size : Nat) (ok : Nat → Bool) : Resp × State :=
  let o := orefOf c.payload
  let n := leAt c.payload 8 2
  let vals := (List.range n).map (fun i => (pkey (oIdx typ (o.idx + i)) pid, leAt c.payload (12 + size * i) size))
  if o.typ != typ then s.answer stBadObject
  else if n < 1 || n > max then s.answer stBadValue
  else if c.payload.length != 12 + size * n then s.answer stBadLength
  else if s.locked c.client (vals.map (fun kv => lockOf kv.1)) then s.busyLock c (vals.map (fun kv => lockOf kv.1))
  else if leAt c.payload 10 2 != 0 || o.idx + n > top || vals.any (fun kv => !ok kv.2) then s.answer stBadValue
  else s.stage c vals

/-- SIG.PROGRAM_LOAD (R291). -/
def bodyProgramLoad : Body := fun c s => s.tableSet c 0x13 262144 124 pidInstr 8 instrOk

/-- SIG.PDU_SET (R296). -/
def bodyPduSet : Body := fun c s => s.tableSet c 0x11 16384 31 pidEntry 32 pduOk

/-- SIG.SIGNAL_SET (R292). -/
def bodySignalSet : Body := fun c s => s.tableSet c 0x10 65536 62 pidEntry 16 signalOk

/-- SIG.SIGNAL_READ (R295). -/
def bodySignalRead : Body := fun c s =>
  let o := orefOf c.payload
  let n := leAt c.payload 8 2
  if o.typ != 0x10 then s.answer stBadObject
  else if n < 1 || n > 62 || o.idx + n > 65536 then s.answer stBadValue
  else s.answer stDone ((List.range n).flatMap (fun i => (s.signal (o.idx + i)).bytes))

/-- SIG.SIGNAL_INJECT (R295): an accepted write with INJECTED set, which triggers no PDU. The value is kept as R293 keeps
VALUE, extended from WIDTH (DEDUCED, log entry 34). -/
def bodySignalInject : Body := fun c s =>
  let o := orefOf c.payload
  let v := leAt c.payload 8 8
  if o.typ != 0x10 then s.answer stBadObject
  else
    let d := s.entry (oSignal o.idx)
    let value := if sgDefined d then extend64 (sgSigned d) (sgWidth d) v else v
    (s.setSignal o.idx { value := value, stamp := s.strand, valid := true, updated := true, injected := true,
                         seq := ((s.signal o.idx).seq + 1) % 256 }).answer stDone

/-- The state as the caller sees it: the draft's changes stand over what is committed (R305). -/
def State.withDraft (s : State) (c : Ctx) : State :=
  match s.draft c.client c.txn with
  | some d => s.overlay (finalChanges d.changes)
  | none => s

/-- The figures of SIG.ADMISSION behind SLACK and its OREF. -/
def admissionTail (a : Admission) : List Byte :=
  leBytes 4 (ceilDiv a.cMax 4) ++ leBytes 4 (ceilDiv a.dMax 4) ++ leBytes 4 a.pend ++ leBytes 4 a.kinds

/-- SIG.ADMISSION (R305): SLACK rounds down to whole ns and the other figures round up (DESIGN CHOICE, log entry 34); with
no job kind SLACK and its OREF are free. -/
def bodyAdmission : Body := fun c s =>
  let a := (s.withDraft c).admission
  match a.kind with
  | some pc =>
    s.answer stDone (leBytes 4 (ofSigned 32 (a.slack.fdiv 64)) ++ orefBytes (keyOref s.ownDeck (oProgram pc)) ++ admissionTail a)
  | none =>
    let (v, s) := s.draw
    s.answer stDone (leBytes 12 v ++ admissionTail a)

/-! ### The rows -/

/-- SIG.PROGRAM_LOAD. -/
def execSigProgramLoad (q : Req) (s : State) : Host.Outcome State Fault Refusal := .next (s.request 0x0910 q bodyProgramLoad)
/-- SIG.PDU_SET. -/
def execSigPduSet (q : Req) (s : State) : Host.Outcome State Fault Refusal := .next (s.request 0x0911 q bodyPduSet)
/-- SIG.SIGNAL_SET. -/
def execSigSignalSet (q : Req) (s : State) : Host.Outcome State Fault Refusal := .next (s.request 0x0912 q bodySignalSet)
/-- SIG.SIGNAL_READ. -/
def execSigSignalRead (q : Req) (s : State) : Host.Outcome State Fault Refusal := .next (s.request 0x0913 q bodySignalRead)
/-- SIG.SIGNAL_INJECT. -/
def execSigSignalInject (q : Req) (s : State) : Host.Outcome State Fault Refusal := .next (s.request 0x0914 q bodySignalInject)
/-- SIG.ADMISSION. -/
def execSigAdmission (q : Req) (s : State) : Host.Outcome State Fault Refusal := .next (s.request 0x0915 q bodyAdmission)

end Sys2Proof.Machine
end

