-- ==== Sys2Proof/Machine/CmdQos.lean ====
section
/-! DEFINITION. The commands of the QOS and TIME classes (R255, R317, R320, R328, R329, R333, R335, R340, R347, R353, R356,
R359). -/

namespace Sys2Proof.Machine

/-! ### QOS -/

/-- The OREF check of R83 for a payload that came in a bulk buffer. -/
def State.orefBad (s : State) (c : Ctx) (p : List Byte) : Option Nat :=
  let o := orefOf p
  if !o.formOk || o.deck != c.deck || !classAccepts c.cmd o then some stBadObject
  else if s.absentVariant && orefAbsent o then some stAbsentObject else none

/-- An entry of a gate list: assigned OP, reserved bits 0, INTERVAL from 1 (R321). -/
def gateEntryOk (e : Nat) : Bool := bitsOf e 9 8 != 3 && bitsOf e 31 10 == 0 && decide (1 ≤ bitsOf e 63 32)

/-- The header of QOS.GATE_LIST_SET is in range (R320). -/
def gateHeadOk (p : List Byte) : Bool :=
  let en := leAt p 8 1
  decide (en ≤ 1) && leAt p 9 1 == 0 && decide (leAt p 0x0C 4 ≤ 1000000000) && decide (leAt p 0x10 8 < 2 ^ 48) &&
  decide (leAt p 0x18 4 ≤ 999999999) && leAt p 0x1C 4 == 0 && rng 1000 10000000000 (leAt p 0x20 8)

/-- Stage the admin list that a payload holds, inline or from a bulk buffer. -/
def State.gateListSet (s : State) (c : Ctx) (p : List Byte) : Resp × State :=
  let o := orefOf p
  let n := leAt p 0x0A 2
  let k := fun (i : Nat) => pkey o.key (pidRaw i)
  let vals := [(k 0, leAt p 8 1), (k 1, n), (k 2, leAt p 0x0C 4), (k 3, leAt p 0x10 8), (k 4, leAt p 0x18 4),
    (k 5, leAt p 0x20 8), (k 6, leVal (sliceB p 0x28 (8 * n)))]
  if o.typ != 0x14 then s.answer stBadObject
  else if s.locked c.client [lockOf (k 0)] then s.busyLock c [lockOf (k 0)]
  else if n > 1024 || (n == 0 && leAt p 8 1 != 0) then s.answer stBadValue
  else if p.length != 40 + 8 * n then s.answer stBadLength
  else if !gateHeadOk p || !(List.range n).all (fun i => gateEntryOk (leAt p (0x28 + 8 * i) 8)) then s.answer stBadValue
  else s.stage { c with payload := p } vals

/-- QOS.GATE_LIST_SET (R320): inline, or in a bulk buffer of DIRECTION 0. -/
def bodyGateListSet : Body := fun c s =>
  match c.bulk with
  | none => s.gateListSet c c.payload
  | some b =>
    if !b.ok [0] then s.answer stBadValue
    else
      match s.bulkRead c b with
      | (none, s) => s.answer stBulkFailed
      | (some p, s) =>
        match s.orefBad c p with
        | some st => s.answer st
        | none => if p.length < 40 then s.answer stBadLength else s.gateListSet c p

/-- The payload of QOS.GATE_STATE for the gate `g` (R328). OPER_ENTRY, OPER_POOL and the cycle start have no stated value while no
list is operational: they are read off `v`. -/
def State.gateRecord (s : State) (g : GateSt) (v : Nat) : List Byte :=
  let free := 16384 - (s.poolRanges.map (fun (r : Nat × Nat) => r.2)).sum
  let time := fun (ns : Nat) => leBytes 8 (ns / 1000000000 % 2 ^ 48) ++ leBytes 4 (ns % 1000000000)
  let (count, entry, pool, cyc) := match g.oper with
    | some l => (l.entries.length, leBytes 2 g.entry, leBytes 2 l.pool, time g.cycleStart)
    | none => (0, leBytes 2 (v % 1024), leBytes 2 (v / 2 ^ 10), leBytes 6 (v / 2 ^ 26) ++ zeros 2 ++ leBytes 4 (v / 2 ^ 74 % 1000000000))
  let (pend, admin, apool, chg) := match g.pend with
    | some (l, t) => (1, l.entries.length, l.pool, time t)
    | none => (0, 0, 0xFFFF, zeros 12)
  leBytes 1 (b2n g.oper.isSome) ++ leBytes 1 pend ++ leBytes 2 count ++ entry ++ pool ++ leBytes 2 admin ++ leBytes 2 apool ++
    leBytes 1 g.gates ++ leBytes 1 (b2n g.hold) ++ zeros 2 ++ cyc ++ zeros 4 ++ chg ++ leBytes 4 free

/-- QOS.GATE_STATE (R328). -/
def bodyGateState : Body := fun c s =>
  let o := orefOf c.payload
  if o.typ != 0x14 then s.answer stBadObject
  else if (s.gate o.chan).oper.isSome then s.answer stDone (s.gateRecord (s.gate o.chan) 0)
  else
    let (v, s) := s.draw
    s.answer stDone (s.gateRecord (s.gate o.chan) v)

/-- QOS.SHAPER_SET (R317). -/
def bodyShaperSet : Body := fun c s =>
  let o := orefOf c.payload
  let v := fun (i : Nat) => leAt c.payload (8 + 4 * i) 4
  if o.typ != 0x15 then s.answer stBadObject
  else if v 0 > 10000000 || v 1 > 16777215 || v 2 > 16777215 then s.answer stBadValue
  else s.stage c ((List.range 3).map (fun i => (pkey o.key (pidRaw i), v i)))

/-- QOS.METER_SET (R329). -/
def bodyMeterSet : Body := fun c s => s.tableSet c 0x0A 4096 62 pidEntry 16 meterOk

/-- The values that QOS.ADMISSION_SET would stage: the pool's with FLAGS bit 0, the alphas with bit 1, the Queues' (R255). -/
def admissionDeckVals (p : List Byte) : List (Nat × Nat) :=
  (if bitOf (leAt p 8 1) 0 then [(pkey oDeck 0x0200, leAt p 0x10 4), (pkey oDeck 0x0201, leAt p 0x14 4)] else []) ++
  (if bitOf (leAt p 8 1) 1 then (List.range 8).map (fun i => (pkey oDeck (0x0210 + i), leAt p (0x18 + i) 1)) else [])

/-- The values that QOS.ADMISSION_SET would stage for its Queues (R255). -/
def admissionQueueVals (p : List Byte) : List (Nat × Nat) :=
  (List.range (leAt p 0x0C 2)).map (fun i => (pkey (oQueue (leAt p 0x0A 2 + i)) 0x0100, leAt p (0x20 + 2 * i) 2))

/-- A value that a SET of its parameter would take. -/
def paramTakes (kv : Nat × Nat) : Bool :=
  match paramAt (pkeyObj kv.1) (pkeyPid kv.1) with
  | some d => paramOk d (pkeyObj kv.1) (pkeyPid kv.1) kv.2
  | none => false

/-- A Queue that the variant lacks (R255, R6). -/
def State.queueLacks (s : State) (c : Ctx) (q : Nat) : Bool := s.absentVariant && orefAbsent ⟨0x05, c.deck, 0xFF, 0xFF, q⟩

/-- QOS.ADMISSION_SET (R255): each value is staged as a SET of its parameter would stage it. -/
def bodyAdmissionSet : Body := fun c s => s.deckBody c (fun _ =>
  let p := c.payload
  let flags := leAt p 8 1
  let first := leAt p 0x0A 2
  let n := leAt p 0x0C 2
  let vals := admissionDeckVals p ++ (admissionQueueVals p).filter (fun kv => !s.queueLacks c (keyIdx (pkeyObj kv.1)))
  let locks := (vals.filter (fun kv => decide (keyIdx (pkeyObj kv.1) < 2048))).map (fun kv => lockOf kv.1)
  if s.locked c.client locks then s.busyLock c locks
  else if n > 488 then s.answer stBadValue
  else if p.length != 0x20 + 2 * n then s.answer stBadLength
  else if flags > 3 || leAt p 9 1 != 0 || leAt p 0x0E 2 != 0 || first + n > 2048 || first > 2047 || (n == 0 && flags == 0) ||
      vals.any (fun kv => !paramTakes kv) then s.answer stBadValue
  else s.stage c vals)

/-- QOS.HISTOGRAM_SET (R333). -/
def bodyHistogramSet : Body := fun c s =>
  let o := orefOf c.payload
  let flags := leAt c.payload 8 1
  let per := leAt c.payload 12 4
  let base := leAt c.payload 16 4
  if o.typ != 0x05 then s.answer stBadObject
  else if flags > 3 || leAt c.payload 9 3 != 0 || !rng 1 1000000 per || !rng 10 1000000 base then s.answer stBadValue
  else s.stage c [(pkey o.key (pidRaw 0), flags), (pkey o.key (pidRaw 1), per), (pkey o.key (pidRaw 2), base)]

/-- QOS.HISTOGRAM_READ (R335): SAMPLES and both histograms, cleared in the same instant with CLEAR. -/
def bodyHistogramRead : Body := fun c s =>
  let o := orefOf c.payload
  let flags := leAt c.payload 8 4
  if o.typ != 0x05 then s.answer stBadObject
  else if flags > 1 then s.answer stBadValue
  else
    let cs := (List.range 33).map (fun i => histSamples + i)
    let out := cs.flatMap (fun i => leBytes 8 (s.ctr o.key cQos i))
    let s := if bitOf flags 0 then
        { s with ctrs := cs.foldl (fun (t : Tab Nat) i => tabErase t (ckey o.key cQos i)) s.ctrs }
      else s
    s.answer stDone out

/-! ### TIME -/

/-- A domain's rate against the Strand counter in ppb (R359), rounded towards minus infinity. -/
def State.ratePpb (s : State) (d : Nat) : Int :=
  (((s.clockInc d : Int) - (nominalInc : Int)) * 1000000000).fdiv (nominalInc : Int)

/-- What is left of a slew, in ns (R359). -/
def State.slewLeft (s : State) : Int :=
  match s.time.work.slew with
  | some _ => s.workOffset.tdiv (2 ^ 32)
  | none => 0

/-- TIME.STATUS (R359). -/
def bodyTimeStatus : Body := fun _ s =>
  let i32 := fun (x : Int) => leBytes 4 (ofSigned 32 x)
  s.answer stDone (leBytes 1 (s.domainState 0) ++ leBytes 1 (s.domainState 1) ++ leBytes 1 (s.getF TimeStatus.source) ++
    leBytes 1 s.primary ++ i32 (s.domain 0).offset ++ i32 (s.domain 1).offset ++ i32 (s.ratePpb 0) ++ i32 (s.ratePpb 1) ++
    i32 s.slewLeft ++ leBytes 1 s.time.pier ++ zeros 3)

/-- TIME.WORKING_SELECT (R347). -/
def bodyWorkingSelect : Body := fun c s =>
  let o := orefOf c.payload
  let flags := leAt c.payload 8 4
  if o.typ != 0x18 || o.idx > 1 then s.answer stBadObject
  else if flags > 1 then s.answer stBadValue
  else if s.domainState o.idx != dsLocked then s.answer stWrongState
  else
    let s := s.setWork { s.time.work with primary := some o.idx }
    (s.workSwitch o.idx (bitOf flags 0)).answer stDone

/-- A value of TIME.OUTPUT_SET is out of its range (R353). -/
def outputBad (p : List Byte) : Bool :=
  let b := fun (i n : Nat) => leAt p i n
  let mode := b 9 1
  let per := b 0x20 8
  let width := b 0x1C 4
  b 8 1 > 1 || mode > 1 || b 0x0A 1 > 1 || b 0x0B 1 > 2 || b 0x0C 4 != 0 || b 0x10 8 ≥ 2 ^ 48 || b 0x18 4 > 999999999 ||
  !rng 10 1000000000 width || (if mode == 1 then !rng 100 10000000000 per || decide (per ≤ width) else per != 0)

/-- The values of TIME.OUTPUT_SET: enable, mode, polarity, clock, first edge, width and period (R353). -/
def outputVals (p : List Byte) : List Nat :=
  [leAt p 8 1, leAt p 9 1, leAt p 0x0A 1, leAt p 0x0B 1, leAt p 0x10 8, leAt p 0x18 4, leAt p 0x1C 4, leAt p 0x20 8]

/-- TIME.OUTPUT_SET (R353). -/
def bodyOutputSet : Body := fun c s =>
  let o := orefOf c.payload
  if o.typ != 0x19 then s.answer stBadObject
  else if outputBad c.payload then s.answer stBadValue
  else s.stage c ((outputVals c.payload).zipIdx.map (fun (x : Nat × Nat) => (pkey o.key (pidRaw x.2), x.1)))

/-- A capture record as TIME.CAPTURE_READ answers it: Strand count, flags, STALE, and the clock `k` converted (R356). -/
def State.captureBytes (s : State) (k : Nat) (r : Nat × Nat) : List Byte :=
  let (t, stale) := s.convert k r.1
  leBytes 6 r.1 ++ leBytes 1 r.2 ++ leBytes 1 (b2n stale) ++ clockBytes t

/-- TIME.CAPTURE_READ (R356): conversion happens at the read. -/
def bodyCaptureRead : Body := fun c s =>
  let o := orefOf c.payload
  let n := leAt c.payload 8 4
  if o.typ != 0x1A then s.answer stBadObject
  else if n < 1 || n > 16 then s.answer stBadValue
  else
    let v := s.capture o.idx
    let k := s.par o.key 0x0101
    let l := v.recs.take n
    let out := leBytes 2 l.length ++ leBytes 2 (min v.dropsSince 65535) ++ zeros 4 ++ l.flatMap (s.captureBytes k)
    (s.setCapture o.idx { v with recs := v.recs.drop n, dropsSince := 0 }).answer stDone out

/-! ### The rows -/

/-- QOS.GATE_LIST_SET. -/
def execQosGateListSet (q : Req) (s : State) : Host.Outcome State Fault Refusal := .next (s.request 0x0A10 q bodyGateListSet)
/-- QOS.GATE_STATE. -/
def execQosGateState (q : Req) (s : State) : Host.Outcome State Fault Refusal := .next (s.request 0x0A11 q bodyGateState)
/-- QOS.SHAPER_SET. -/
def execQosShaperSet (q : Req) (s : State) : Host.Outcome State Fault Refusal := .next (s.request 0x0A12 q bodyShaperSet)
/-- QOS.METER_SET. -/
def execQosMeterSet (q : Req) (s : State) : Host.Outcome State Fault Refusal := .next (s.request 0x0A13 q bodyMeterSet)
/-- QOS.ADMISSION_SET. -/
def execQosAdmissionSet (q : Req) (s : State) : Host.Outcome State Fault Refusal :=
  .next (s.request 0x0A14 q bodyAdmissionSet)
/-- QOS.HISTOGRAM_SET. -/
def execQosHistogramSet (q : Req) (s : State) : Host.Outcome State Fault Refusal :=
  .next (s.request 0x0A15 q bodyHistogramSet)
/-- QOS.HISTOGRAM_READ. -/
def execQosHistogramRead (q : Req) (s : State) : Host.Outcome State Fault Refusal :=
  .next (s.request 0x0A16 q bodyHistogramRead)
/-- TIME.DOMAIN_SET (R340) carries the payload of SET. -/
def execTimeDomainSet (q : Req) (s : State) : Host.Outcome State Fault Refusal := .next (s.request 0x0B10 q bodySet)
/-- TIME.STATUS. -/
def execTimeStatus (q : Req) (s : State) : Host.Outcome State Fault Refusal := .next (s.request 0x0B11 q bodyTimeStatus)
/-- TIME.WORKING_SELECT. -/
def execTimeWorkingSelect (q : Req) (s : State) : Host.Outcome State Fault Refusal :=
  .next (s.request 0x0B12 q bodyWorkingSelect)
/-- TIME.OUTPUT_SET. -/
def execTimeOutputSet (q : Req) (s : State) : Host.Outcome State Fault Refusal := .next (s.request 0x0B13 q bodyOutputSet)
/-- TIME.CAPTURE_READ. -/
def execTimeCaptureRead (q : Req) (s : State) : Host.Outcome State Fault Refusal :=
  .next (s.request 0x0B14 q bodyCaptureRead)

end Sys2Proof.Machine
end

