-- ==== Sys2Proof/Machine/CmdSec.lean ====
section
/-! DEFINITION. The commands of the SEC class (R409 to R412, R416, R418, R422, R423, R430, R435, R441, R445, R447). -/

namespace Sys2Proof.Machine

/-! ### Key slots -/

/-- KEY_LEN of a TYPE (R415). -/
def keyLenOk (typ n : Nat) : Bool :=
  match typ with
  | 1 => n == 16
  | 2 | 3 | 6 => n == 32
  | 4 => n == 64
  | 5 => rng 32 64 n
  | _ => false

/-- Lifecycle states in which a plaintext key and a raw block are admitted (R409, R413). -/
def State.openLife (s : State) : Bool :=
  let l := s.fuses.lifecycle
  (l == 0 || l == 1 || l == 3) && !s.flag HbxStatus.approved

/-- Is a raw block admitted as a job (R414)? In the recovery service, STAGE 9, too. -/
def State.rawOpen (s : State) : Bool :=
  s.openLife || (s.getF DeckBootStatus.stage == 9 && !s.flag HbxStatus.approved)

/-- A payload of SEC.KEY_INSTALL whose policy is out of range (R416). -/
def keyPolicyBad (p : List Byte) : Bool :=
  !keyLenOk (leAt p 8 1) (leAt p 9 1) || leAt p 10 2 ≥ 2048 || leAt p 12 2 ≥ 512 || leAt p 14 1 > 1 || leAt p 15 1 > 1 ||
  (leAt p 15 1 == 1 && leAt p 16 2 > 2047)

/-- The key of SEC.KEY_INSTALL: the bytes themselves, or unwrapped under slot WRAP_SLOT; `none` where the unwrapping fails (R416). -/
def State.keyMaterial (s : State) (p : List Byte) : Option (List Byte) :=
  if leAt p 15 1 == 1 then Config.keyUnwrap (s.slot (leAt p 16 2)).key (p.drop 18) else some (p.drop 18)

/-- A key that its policy does not admit in slot `k` (R415, R416). -/
def keyBad (p : List Byte) (k : Nat) (key : List Byte) : Bool :=
  let typ := leAt p 8 1
  let half := key.length / 2
  key.length != leAt p 9 1 || (bitOf (leAt p 14 1) 0 && k > 127) || ((typ == 3 || typ == 4) && key.take half == key.drop half) ||
  (typ == 6 && leAt p 10 2 != 2 ^ usWrap) || (typ != 6 && bitOf (leAt p 10 2) usWrap)

/-- The key stands in slot `k` with its policy, and its generation one further; a persistent one also in its copy (R416). -/
def State.putKey (s : State) (p : List Byte) (k : Nat) (key : List Byte) : State :=
  let n := s.hbx.serial + 1
  let v : KeySlot := { typ := leAt p 8 1, usage := leAt p 10 2, callers := leAt p 12 2, flags := leAt p 14 1,
                       gen := ((s.slot k).gen + 1) % 256, key := key, erasedAt := (s.slot k).erasedAt, installedAt := n }
  let s := s.setSlot k v
  let s := { s with hbx := { s.hbx with serial := n } }
  if bitOf (leAt p 14 1) 0 then
    { s with brim := { s.brim with keyStore := tabInsert s.brim.keyStore k ({ slot := v } : KeyCopy) } }
  else s

/-- SEC.KEY_INSTALL (R416). A persistent slot's copy is written over the Hatpin link; `fails` says that this access fails
four times (R12), and nothing is stored then. -/
def bodyKeyInstall (fails : Bool) : Body := fun c s =>
  let o := orefOf c.payload
  let p := c.payload
  let wrapped := leAt p 15 1 == 1
  if o.typ != 0x1B then s.answer stBadObject
  else if (p.drop 18).length != leAt p 9 1 + (if wrapped then 8 else 0) then s.answer stBadLength
  else if keyPolicyBad p then s.answer stBadValue
  else if !(s.slot o.idx).empty then s.answer stWrongState
  else if !wrapped && !s.openLife then s.answer stLifecycleDenied
  else if wrapped && !s.slotUsable (leAt p 16 2) usWrap [6] then s.answer stPolicyDenied
  else
    match s.keyMaterial p with
    | none => s.answer stBadValue
    | some key =>
      if keyBad p o.idx key then s.answer stBadValue
      else if bitOf (leAt p 14 1) 0 && fails then s.hatpinDown.answer stAccessFailed
      else (s.putKey p o.idx key).answer stDone

/-- Take an association out of use (R423): the frame in progress keeps it. -/
def State.saRetire (s : State) (p i : Nat) : State :=
  let s := s.setAssoc p i { s.assoc p i with installed := false, enabled := false }
  let s := if i ≤ 3 && s.getF (MacsecStatus.txAn p) == i then s.setF (MacsecStatus.txInUse p) 0 else s
  let s := if i ≤ 3 && tabGet (fun _ => (none : Option Nat)) s.hbx.txNext p == some i then
      { s with hbx := { s.hbx with txNext := tabErase s.hbx.txNext p } }
    else s
  s.syncMacsec p

/-- Installed associations on a slot, as port and index. -/
def State.slotAssocs (s : State) (k : Nat) : List (Nat × Nat) :=
  (s.hbx.assocs.filter (fun (kv : Nat × SecAssoc) => kv.2.installed && kv.2.slot == k)).map (fun kv => (kv.1 / 64, kv.1 % 64))

/-- Committed profiles on a slot. -/
def State.slotProfiles (s : State) (k : Nat) : List Nat :=
  ((s.listed 0x1D pidEntry).filter (fun kv => kv.2 != 0 && bitsOf kv.2 15 0 == k)).map (·.1)

/-- Bulk jobs on a slot are aborted (R418). -/
def State.abortOn (s : State) (k : Nat) : State :=
  (s.hbx.jobs.filter (fun (j : HbxJob) => j.slot == k)).foldl (fun (s : State) (j : HbxJob) => s.abortJob j) s

/-- The slot is erased with its persistent copy, and its associations are out of use (R418). -/
def State.eraseKey (s : State) (k : Nat) (persist : Bool) : State :=
  let s := if persist then { s with brim := { s.brim with keyStore := tabErase s.brim.keyStore k } } else s
  ((s.slotAssocs k).foldl (fun (s : State) (r : Nat × Nat) => s.saRetire r.1 r.2) s).eraseSlot k

/-- SEC.KEY_ERASE (R418); `fails` says that the Hatpin write that invalidates the stored copy fails. -/
def bodyKeyErase (fails : Bool) : Body := fun c s =>
  let o := orefOf c.payload
  let flags := leAt c.payload 8 4
  let v := s.slot o.idx
  if o.typ != 0x1B then s.answer stBadObject
  else if flags > 1 then s.answer stBadValue
  else if v.empty then s.answer stNotFound
  else if flags == 0 && (!(s.slotAssocs o.idx).isEmpty || !(s.slotProfiles o.idx).isEmpty) then s.answer stWrongState
  else if v.persist && fails then (s.abortOn o.idx).hatpinDown.answer stAccessFailed
  else ((s.abortOn o.idx).eraseKey o.idx v.persist).answer stDone

/-! ### Secure associations -/

/-- Values of SEC.SA_INSTALL out of range for association `i` of a port (R422). -/
def State.saBad (s : State) (p : List Byte) (n i : Nat) : Bool :=
  let top := if suiteXpn (s.par (oChan n) 0x1001) then 2 ^ 64 - 1 else 2 ^ 32 - 1
  leAt p 8 2 > 2047 || leAt p 0xA 1 > 1 || leAt p 0xB 1 != 0 || leAt p 0x2C 4 != 0 || leAt p 0x10 8 > top ||
  (decide (i ≤ 3) && leAt p 0x10 8 == 0)

/-- Another association of the receive channel holds another SCI (R422). -/
def State.sciClash (s : State) (p : List Byte) (n i : Nat) : Bool :=
  decide (3 < i) && ((List.range 4).map (fun an => 4 + 4 * ((i - 4) / 4) + an)).any (fun k =>
    (s.assoc n k).installed && (s.assoc n k).sci != beAt p 0x30 8)

/-- The association that SEC.SA_INSTALL installs (R422). -/
def saOf (p : List Byte) (i : Nat) : SecAssoc :=
  let tx := decide (i ≤ 3)
  { installed := true, slot := leAt p 8 2, enabled := leAt p 0xA 1 == 1, ssci := leAt p 0xC 4, nextPn := leAt p 0x10 8,
    lowestPn := if tx then 0 else leAt p 0x10 8, threshold := if tx then leAt p 0x18 8 else 0, salt := sliceB p 0x20 12,
    sci := if tx then 0 else beAt p 0x30 8 }

/-- An association is installed; an enabled one of the transmit channel is the next one in use (R422). -/
def State.putAssoc (s : State) (n i : Nat) (a : SecAssoc) : State :=
  let s := s.setAssoc n i a
  let s := if decide (i ≤ 3) && a.enabled then { s with hbx := { s.hbx with txNext := tabInsert s.hbx.txNext n (some i) } } else s
  s.syncMacsec n

/-- SEC.SA_INSTALL (R422). -/
def bodySaInstall : Body := fun c s =>
  let o := orefOf c.payload
  let p := c.payload
  let use := if o.idx ≤ 3 then usMacTx else usMacRx
  if o.typ != 0x1C then s.answer stBadObject
  else if s.saBad p o.chan o.idx then s.answer stBadValue
  else if (s.assoc o.chan o.idx).installed then s.answer stWrongState
  else if s.sciClash p o.chan o.idx then s.answer stBadValue
  else if !s.slotUsable (leAt p 8 2) use [suiteType (s.par (oChan o.chan) 0x1001)] then s.answer stPolicyDenied
  else (s.putAssoc o.chan o.idx (saOf p o.idx)).answer stDone

/-- SEC.SA_RETIRE (R423). -/
def bodySaRetire : Body := fun c s =>
  let o := orefOf c.payload
  if o.typ != 0x1C then s.answer stBadObject
  else if !(s.assoc o.chan o.idx).installed then s.answer stNotFound
  else (s.saRetire o.chan o.idx).answer stDone

/-! ### Bulk jobs -/

/-- TAG_LEN of a mode (R430). -/
def tagLenOk (m n : Nat) : Bool :=
  match m with
  | 1 | 2 => rng 12 16 n
  | 3 | 4 => rng 4 16 n
  | 10 => rng 16 32 n
  | 11 => rng 16 48 n
  | _ => n == 0

/-- LENGTH of a mode (R430, R431, R434). -/
def jobLenOk (j : HbxJob) : Bool :=
  decide (j.len ≤ 16777216) &&
  (if j.mode == 12 then rng 1 65536 j.len else if j.mode == 15 then j.len == 16 else true) &&
  (j.last || j.len % 16 == 0) &&
  (if j.mode == 5 || j.mode == 6 then rng 16 65536 j.unit && j.len % j.unit == 0 else j.unit == 0)

/-- The fields of a descriptor are in range (R430, R431). -/
def jobOk (j : HbxJob) : Bool :=
  let gcm := j.mode == 1 || j.mode == 2
  let keyed := (modeKey j.mode).isSome
  let inOut := modeOut j.mode && j.mode != 12
  let apart := decide (j.inAddr + j.len ≤ j.outAddr ∨ j.outAddr + j.len ≤ j.inAddr ∨ j.inAddr = j.outAddr)
  (keyed || j.mode == 8 || j.mode == 9 || j.mode == 12) && decide (leAt j.desc 1 1 < 4) && decide (j.ctx ≤ 3) &&
  leAt j.desc 5 3 == 0 && leAt j.desc 0x3D 3 == 0 && jobLenOk j && tagLenOk j.mode j.tagLen &&
  (if keyed then decide (j.slot ≤ 2047) else j.slot == 0xFFFF) &&
  (if gcm && j.first then decide (j.aadLen ≤ 65536) else j.aadLen == 0) &&
  (gcm || j.mode == 5 || j.mode == 6 || j.mode == 7 || j.iv == zeros 16) && (!inOut || apart) &&
  (!j.seg || ((!modeOut j.mode || decide (j.outAddr + j.len ≤ 65536)) && (j.mode == 12 || decide (j.inAddr + j.len ≤ 65536)) &&
    (j.aadLen == 0 || decide (j.aadAddr + j.aadLen ≤ 65536))))

/-- Segments of the caller's context that are queued, oldest first. -/
def State.queuedSegments (s : State) (client ctx : Nat) : List HbxJob :=
  s.hbx.jobs.filter (fun j => j.client == client && j.ctx == ctx && !(j.first && j.last))

/-- Is the caller's context open, as its queued segments leave it (R434)? -/
def State.ctxOpen (s : State) (client ctx : Nat) : Bool :=
  match (s.queuedSegments client ctx).getLast? with
  | some j => !j.last
  | none => (s.hbxCtx client ctx).isSome

/-- Blocks of data that an invocation would hold with `len` more bytes (R434). -/
def State.ctxBlocks (s : State) (client ctx len : Nat) : Nat :=
  ceilDiv (((s.hbxCtx client ctx).map (fun x => x.data.length)).getD 0 +
    ((s.queuedSegments client ctx).map HbxJob.len).sum + len) 16

/-- The job of SEC.JOB_SUBMIT's payload. -/
def State.jobOf (s : State) (c : Ctx) : HbxJob :=
  { cls := 2, client := c.client, ticket := 0, desc := c.payload, seg := s.spiMb c.mb }

/-- A GCM invocation would pass 2^32 - 2 blocks (R434). -/
def State.ctxFull (s : State) (j : HbxJob) : Bool :=
  (j.mode == 1 || j.mode == 2) && !j.first && decide (s.ctxBlocks j.client j.ctx j.len > 2 ^ 32 - 2)

/-- The job is queued under its ticket; while the Hatbox is LOCKED it ends ABORTED (R446). -/
def State.queueJob (s : State) (j : HbxJob) (ref : Nat) : State :=
  let k := { j with ticket := ref % 2 ^ 32 }
  let s := { s with hbx := { s.hbx with jobs := s.hbx.jobs ++ [k] } }
  if s.flag HbxStatus.locked then s.abortJob k else s

/-- SEC.JOB_SUBMIT (R430, R431, R434, R436): a job that is accepted goes PENDING. While the Hatbox is LOCKED it ends ABORTED
(R446). -/
def bodyJobSubmit : Body := fun c s =>
  let j := s.jobOf c
  if !jobOk j then s.answer stBadValue
  else if s.par oDeck 0x1110 != 0 then s.answer stWrongState
  else if j.mode == 15 && !s.rawOpen then s.answer stLifecycleDenied
  else if s.jobDenied j then s.answer stPolicyDenied
  else if j.first == s.ctxOpen c.client j.ctx then s.answer stWrongState
  else if s.ctxFull j then
    let outs := ((s.hbxCtx c.client j.ctx).map (·.outs)).getD []
    let s := (s.queuedSegments c.client j.ctx).foldl (fun (s : State) (k : HbxJob) => s.abortJob k) s
    let (_, s) := (s.dropCtx c.client j.ctx).zeroOuts c.client j.seg outs
    s.answer stCounterExhausted
  else s.runP c [] (fun s ref => s.queueJob j ref)

/-- SEC.JOB_ABORT (R435). -/
def bodyJobAbort : Body := fun c s =>
  match s.ticket c.client (leAt c.payload 0 4) with
  | none => s.answer stNotFound
  | some t =>
    if t.cmd != 0x0C14 then s.answer stNotFound
    else if t.result.isSome then s.answer stNothingToAbort
    else (s.abortTicket t).answer stDone

/-! ### Lifecycle and debug -/

/-- SEC.LIFECYCLE (R409): the code of the state, in one byte (DESIGN CHOICE, log entry 35). -/
def bodyLifecycle : Body := fun _ s => s.answer stDone (leBytes 1 s.fuses.lifecycle)

/-- The 88-byte signed message of R411 verifies under root key `k` of the class asked for, which is not revoked. -/
def State.authorised (s : State) (k purpose : Nat) (production : Bool) (challenge sig : List Byte) : Bool :=
  let digest := beBytes 48 (Config.sha384 (challenge ++ leBytes 8 Config.uniqueId.toNat ++ leBytes 1 purpose)).toNat
  s.rootUsable k && s.rootProduction k == production && Config.sigVerify (s.rootBytes k) digest sig

/-- Take the challenge, if it lives (R411): it is spent. -/
def State.takeChallenge (s : State) : Option (List Byte) × State :=
  let s' := { s with hbx := { s.hbx with challenge := none } }
  match s.hbx.challenge with
  | some (b, d) => (if strandAfter s.strand d then none else some b, s')
  | none => (none, s')

/-- The root keys as a transition into DEVELOP leaves them (R410). -/
def rootRecord (p : List Byte) (k : Nat) : Nat := leAt p (8 + 52 * k) 48 + leAt p (8 + 52 * k + 48) 1 * 2 ^ 384

/-- The fuses after a transition of R410. -/
def State.lifecycleFuses (s : State) (p : List Byte) : Fuses :=
  let to_ := leAt p 0 1
  let f := s.fuses
  let roots := if f.lifecycle == 0 && to_ == 1 then
      (List.range 4).foldl (fun (t : Tab Nat) k => tabSet ctrDefault t k (rootRecord p k)) f.rootHash
    else f.rootHash
  { f with lifecycle := to_, revoked := f.revoked ||| leAt p 1 1, rootHash := roots }

/-- Does any non-revoked key remain that the lifecycle state of the fuses admits? -/
def Fuses.keyLeft (f : Fuses) (life : Nat) (revoked : Nat) : Bool :=
  (List.range 4).any (fun k =>
    let h := tabGet ctrDefault f.rootHash k
    bitsOf h 383 0 != 0 && !bitOf revoked k && lifecycleAdmits life (bitOf h 384))

/-- How a transition is authorised (R410): not at all, by CONFIRM alone, or by a signature under a production key or
under a key that the state admits. -/
inductive LifeAuth where
  | bad | confirm | signed (production : Option Bool)
deriving DecidableEq, Repr

/-- The table of R410. -/
def lifeAuth (from_ to_ revoke : Nat) : LifeAuth :=
  match from_, to_ with
  | 0, 1 => .confirm
  | 1, 2 => .confirm
  | 2, 3 => .signed (some true)
  | 1, 4 => .confirm
  | 2, 4 => .confirm
  | 3, 4 => .confirm
  | a, b => if a == b && a != 0 && revoke != 0 then .signed none else .bad

/-- What SEC.LIFECYCLE_ADVANCE carries is admissible, before any signature is looked at (R410). -/
def State.lifeBad (s : State) (p : List Byte) : Bool :=
  let from_ := s.fuses.lifecycle
  let to_ := leAt p 0 1
  let rev := leAt p 1 1
  let f := s.lifecycleFuses p
  let records := (List.range 4).map (fun k => (leAt p (8 + 52 * k + 48) 1, leAt p (8 + 52 * k + 49) 3, rootRecord p k))
  let before := (List.range 4).filter (fun k => bitOf rev k && !s.rootRevoked k)
  lifeAuth from_ to_ rev == .bad || leAt p 2 2 != 0 || leAt p 4 4 != 0x11FE || decide (rev ≥ 16) ||
  (from_ == 0 && (records.any (fun r => decide (r.1 > 1) || r.2.1 != 0) || !records.any (fun r => bitsOf r.2.2 383 0 != 0))) ||
  (from_ == 1 && to_ == 2 && !(List.range 4).any (fun k => s.rootUsable k && s.rootProduction k)) ||
  (s.fwServing && before.contains (imgKey (s.bankImage s.fw.active))) ||
  (rev != 0 && f.keyLeft to_ s.fuses.revoked && !f.keyLeft to_ f.revoked)

/-- Bytes that a transition's payload takes (R410). -/
def lifeLen (from_ to_ revoke : Nat) : Nat :=
  match lifeAuth from_ to_ revoke with
  | .signed _ => 104
  | _ => if from_ == 0 && to_ == 1 then 216 else 8

/-- SEC.LIFECYCLE_ADVANCE (R410, R411): every bulk job is aborted, and the fuses burn by the ticket's completion. The
payload of R410 has no place for the KEY_INDEX of R411, so it is the row's operand `key` (log entry 35). -/
def bodyLifecycleAdvance (key : Nat) : Body := fun c s =>
  let p := c.payload
  let from_ := s.fuses.lifecycle
  let to_ := leAt p 0 1
  let rev := leAt p 1 1
  let go := fun (s : State) => (s.abortJobs 1).pend c []
  if lifeAuth from_ to_ rev == .bad then s.answer stBadValue
  else if p.length != lifeLen from_ to_ rev then s.answer stBadLength
  else if s.lifeBad p then s.answer stBadValue
  else
    match lifeAuth from_ to_ rev with
    | .signed cls =>
      match s.takeChallenge with
      | (none, s) => s.answer stWrongState
      | (some ch, s) =>
        let classOk := match cls with
          | some pr => s.rootProduction key == pr
          | none => lifecycleAdmits from_ (s.rootProduction key)
        if classOk && s.authorised key (0x80 + to_) (s.rootProduction key) ch (p.drop 8) then go s
        else s.answer stVerifySignature
    | _ => go s

/-- The scope of zeroisation that a transition invokes (R410); `none` where it keeps every slot. -/
def lifeZeroise (from_ to_ : Nat) : Option Nat :=
  if from_ == to_ then none
  else
    match to_ with
    | 2 => some 0
    | 3 => some 1
    | 4 => some 2
    | _ => none

/-- The end of SEC.LIFECYCLE_ADVANCE (R410): the fuses are burnt (`ok`), or their read-back fails; `copies` says that the
persistent copies could be invalidated (R447). The device then resets as for DECK.RESET with scope FULL. -/
def State.lifecycleEnd (s : State) (t : Ticket) (ok copies : Bool) : State :=
  if !ok then s.finishTicket t.client t.num stFlashError []
  else
    let from_ := s.fuses.lifecycle
    let s := { s with fuses := s.lifecycleFuses t.payload }
    let s := s.syncHbx
    let z := lifeZeroise from_ s.fuses.lifecycle
    let s := match z with
      | none => s
      | some scope =>
        let s := s.zeroiseRam scope
        let s := if scope == 0 then s else s.invalidateCopies (!copies)
        s.hbxEvent 2
    let failed := !copies && (z == some 1 || z == some 2)
    let s := s.finishTicket t.client t.num (if failed then stAccessFailed else stDone) []
    -- no mailbox's ACK is waited for: mailbox numbers end at 15
    { s with gci := { s.gci with fullReset := some (0xFF, s.after (msC 1)) } }

/-- Scopes that a lifecycle state admits to unlock, with the class of key (R409). -/
def unlockAdmits (life scope : Nat) : Option Bool :=
  match life with
  | 1 | 3 => if !bitOf scope 0 then some false else none
  | 2 => if scope == 1 then some true else none
  | _ => none

/-- Scopes open without an unlock (R409): [0] MILLINER, [1] SCAN, [2] HATBOX. -/
def freeScopes (life : Nat) : Nat := if life == 0 then 7 else if life == 1 || life == 3 then 1 else 0

/-- The debug scopes that are open: without an unlock, or by one (R409, R412). -/
def State.debugScopes (s : State) : Nat := freeScopes s.fuses.lifecycle ||| s.hbx.unlocked

/-- Instructions of the IEEE 1149.1 boundary scan (R409). -/
inductive ScanInstr where
  | bypass | idcode | samplePreload | extest | other
deriving DecidableEq, Repr

/-- Does the boundary scan offer an instruction (R409)? No row of the table is a scan access (log entry 125). -/
def State.scanOffers (s : State) : ScanInstr → Bool
  | .other => bitOf s.debugScopes 1
  | _ => true

/-- SEC.DEBUG_UNLOCK (R411, R412). The spec gives PHASE no place in the payload, so it is the row's operand (log entry 35). -/
def bodyDebugUnlock (phase1 : Bool) : Body := fun c s =>
  let p := c.payload
  if !phase1 then
    if p.length != 0 then s.answer stBadLength
    else if s.hbx.drbgStopped then s.answer stWrongState
    else
      let (ch, s) := s.drbgDraw 32
      ({ s with hbx := { s.hbx with challenge := some (ch, s.after (secC 60)) } }).answer stDone ch
  else
    let scope := leAt p 0 1
    if p.length != 100 then s.answer stBadLength
    else if scope == 0 || scope > 7 || leAt p 1 1 > 3 || leAt p 2 2 != 0 then s.answer stBadValue
    else
      match unlockAdmits s.fuses.lifecycle scope with
      | none => s.answer stLifecycleDenied
      | some production =>
        if s.hbx.zeroising.isSome then s.busy 10
        else
          match s.takeChallenge with
          | (none, s) => s.answer stWrongState
          | (some ch, s) =>
            if !s.authorised (leAt p 1 1) scope production ch (p.drop 4) then s.answer stVerifySignature
            else if scope == 1 then (s.debugOpen 1).answer stDone
            else
              let (r, s) := s.pend c []
              let s := (s.setF HbxStatus.zeroising 1).zeroiseRam 1
              (r, { s with hbx := { s.hbx with zeroising := some (c.client, r.ticket, 1) } })

/-! ### Self-test, zeroisation, freshness -/

/-- SEC.SELFTEST (R445). -/
def bodySelftest : Body := fun c s =>
  if s.flag HbxStatus.selftestRun then s.busy 10
  else
    let (r, s) := s.pend c []
    (r, s.setF HbxStatus.selftestRun 1)

/-- The end of SEC.SELFTEST: a failure locks the Hatbox (R446). The status that then completes the ticket is not stated. -/
def State.selftestEnd (s : State) (t : Ticket) (ok : Bool) : State :=
  let s := s.setF HbxStatus.selftestRun 0
  if ok then s.finishTicket t.client t.num stDone []
  else
    let (v, s) := s.draw
    let s := s.finishTicket t.client t.num (v % 65536) []
    (s.hbxEvent 0).hbxLock

/-- Zeroisation starts for ticket `ref`: the slots in RAM at once; with scope 0 it ends there (R447). -/
def State.zeroiseStart (s : State) (client scope ref : Nat) : State :=
  let s := (s.setF HbxStatus.zeroising 1).zeroiseRam scope
  let s := { s with hbx := { s.hbx with zeroising := some (client, ref % 2 ^ 32, scope) } }
  if scope == 0 then s.zeroiseEnd false else s

/-- SEC.ZEROISE (R447): slots in RAM at once, persistent copies by PERSIST_INVALIDATE. -/
def bodyZeroise : Body := fun c s =>
  let scope := leAt c.payload 0 4
  if scope > 2 then s.answer stBadValue
  else if s.hbx.zeroising.isSome then s.busy 10
  else s.runP c [] (fun s ref => s.zeroiseStart c.client scope ref)

/-- Every profile on a freshness value has had its key erased and installed anew since the value was exhausted (R441). -/
def State.freshRenewed (s : State) (k : Nat) : Bool :=
  (s.listed 0x1D pidEntry).all (fun kv =>
    kv.2 == 0 || bitsOf kv.2 63 48 != k ||
    (let x := s.slot (bitsOf kv.2 15 0)
     !x.empty && decide ((s.fresh k).exhaustedAt < x.erasedAt) && decide (x.erasedAt < x.installedAt)))

/-- In APPROVED a value may only grow, but for an exhausted one whose keys are renewed (R441). -/
def State.freshRefused (s : State) (k v : Nat) : Bool :=
  let f := s.fresh k
  s.flag HbxStatus.approved && f.state != 0 && v < f.value && !(f.state == 2 && s.freshRenewed k)

/-- SEC.FRESHNESS_SET (R441). -/
def bodyFreshnessSet : Body := fun c s =>
  let k := leAt c.payload 8 2
  let v := leAt c.payload 12 4
  if (orefOf c.payload).typ != 0x01 then s.answer stBadObject
  else if k > 4095 || leAt c.payload 10 2 != 0 then s.answer stBadValue
  else if s.freshRefused k v then s.answer stBadValue
  else (s.setFresh k { s.fresh k with value := v, state := 1 }).answer stDone

/-! ### The rows -/

/-- SEC.KEY_INSTALL; `fails`: the Hatpin write of a persistent copy fails. -/
def execSecKeyInstall (fails : Bool) (q : Req) (s : State) : Host.Outcome State Fault Refusal :=
  .next (s.request 0x0C10 q (bodyKeyInstall fails))
/-- SEC.KEY_ERASE; `fails`: the Hatpin write that invalidates a persistent copy fails. -/
def execSecKeyErase (fails : Bool) (q : Req) (s : State) : Host.Outcome State Fault Refusal :=
  .next (s.request 0x0C11 q (bodyKeyErase fails))
/-- SEC.SA_INSTALL. -/
def execSecSaInstall (q : Req) (s : State) : Host.Outcome State Fault Refusal := .next (s.request 0x0C12 q bodySaInstall)
/-- SEC.SA_RETIRE. -/
def execSecSaRetire (q : Req) (s : State) : Host.Outcome State Fault Refusal := .next (s.request 0x0C13 q bodySaRetire)
/-- SEC.JOB_SUBMIT. -/
def execSecJobSubmit (q : Req) (s : State) : Host.Outcome State Fault Refusal := .next (s.request 0x0C14 q bodyJobSubmit)
/-- SEC.JOB_ABORT. -/
def execSecJobAbort (q : Req) (s : State) : Host.Outcome State Fault Refusal := .next (s.request 0x0C15 q bodyJobAbort)
/-- SEC.LIFECYCLE. -/
def execSecLifecycle (q : Req) (s : State) : Host.Outcome State Fault Refusal := .next (s.request 0x0C16 q bodyLifecycle)
/-- SEC.LIFECYCLE_ADVANCE under root key `key`. -/
def execSecLifecycleAdvance (key : Fin 4) (q : Req) (s : State) : Host.Outcome State Fault Refusal :=
  .next (s.request 0x0C17 q (bodyLifecycleAdvance key))
/-- SEC.SELFTEST. -/
def execSecSelftest (q : Req) (s : State) : Host.Outcome State Fault Refusal := .next (s.request 0x0C18 q bodySelftest)
/-- SEC.ZEROISE. -/
def execSecZeroise (q : Req) (s : State) : Host.Outcome State Fault Refusal := .next (s.request 0x0C19 q bodyZeroise)
/-- SEC.DEBUG_UNLOCK with PHASE 0 or 1. -/
def execSecDebugUnlock (phase1 : Bool) (q : Req) (s : State) : Host.Outcome State Fault Refusal :=
  .next (s.request 0x0C1A q (bodyDebugUnlock phase1))
/-- SEC.FRESHNESS_SET. -/
def execSecFreshnessSet (q : Req) (s : State) : Host.Outcome State Fault Refusal :=
  .next (s.request 0x0C1B q bodyFreshnessSet)

end Sys2Proof.Machine
end

