-- ==== Sys2Proof/Machine/CmdEvt.lean ====
section
/-! DEFINITION. The commands of the EVT class (R107, R452, R459, R468), STORE.STAGE_IMAGE (R494), and the rows of the STORE
and CASC classes. -/

namespace Sys2Proof.Machine

/-! ### EVT -/

/-- The 12-byte binding of a queue (R107). -/
def State.bindingBytes (s : State) (q : Nat) : List Byte :=
  let esc := s.getF (EvqStatus.escTarget q)
  leBytes 1 q ++ leBytes 1 (s.getF (EvqStatus.target q)) ++ leBytes 1 (if esc == 7 then 0xFF else esc) ++
  leBytes 1 (s.getF (EvqStatus.priority q)) ++ leBytes 2 (s.evq q).vector ++ zeros 2 ++ leBytes 4 (s.evq q).escTimeout

/-- A new binding takes effect (R107, R464): a PENDING queue signals its new targets at once and its escalation restarts. -/
def State.evqBind (s : State) (q target esc prio vector timeout : Nat) : State :=
  let s := (s.setF (EvqStatus.target q) target).setF (EvqStatus.escTarget q) esc
  let s := (s.setF (EvqStatus.priority q) prio).setEvq q { s.evq q with vector := vector, escTimeout := timeout }
  if s.getF (EvqStatus.state q) == evqPending then
    let s := s.setF (EvqStatus.escalated q) 0
    let s := s.setEvq q { s.evq q with escAt := if esc == 7 then none else some (s.after (usC timeout)) }
    if s.targetAsleep target && esc != 7 then s.evqEscalate q else s.evqSignal q
  else s.syncIrq

/-- A binding out of range (R107): its targets, priority, vector and timeout. -/
def State.bindBad (s : State) (p : List Byte) : Bool :=
  let t := leAt p 1 1
  let e := leAt p 2 1
  let casc := s.cascaded && s.ownDeck != 0
  let tOk := fun (x : Nat) => x == 3 || x == 4 || (x == 5 && casc)
  leAt p 0 1 > 63 || !tOk t || !(e == 0xFF || (tOk e && e != t)) || leAt p 3 1 > 7 ||
  (if t == 3 || e == 3 then decide (63 < leAt p 4 2) else leAt p 4 2 != 0) || leAt p 6 2 != 0 || !rng 10 1000000 (leAt p 8 4)

/-- EVT.BIND (R107). -/
def bodyEvtBind : Body := fun c s =>
  let f := fun (i n : Nat) => leAt c.payload i n
  let q := f 0 1
  if q ≤ 15 then s.answer stNoRight
  else if s.bindBad c.payload then s.answer stBadValue
  else
    (s.evqBind q (f 1 1) (if f 2 1 == 0xFF then 7 else f 2 1) (f 3 1) (f 4 2) (f 8 4)).answer stDone (s.bindingBytes q)

/-- A queue's COUNT and TIME; a running TIME is restarted (R459). -/
def State.coalesce (s : State) (q n t : Nat) : State :=
  let v := s.evq q
  s.setEvq q { v with count := n, time := t, coalAt := v.coalAt.map (fun _ => s.after (usC t)),
                      since := v.since.map (fun (x : Nat × Nat) => (x.1, s.strand)) }

/-- EVT.COALESCE_SET (R459): a TIME already running is restarted. -/
def bodyCoalesceSet : Body := fun c s =>
  let o := orefOf c.payload
  let n := leAt c.payload 8 1
  let t := leAt c.payload 10 2
  if o.typ != 0x1E then s.answer stBadObject
  else if o.idx ≤ 15 then s.answer stNoRight
  else if n == 0 || leAt c.payload 9 1 != 0 || t == 0 then s.answer stBadValue
  else (s.coalesce o.idx n t).answer stDone

/-- The client route of a source is moved, or ended (R452). -/
def State.sourceRoute (s : State) (n q : Nat) : State :=
  let old := tabGet clientRouteDefault s.evt.client n
  if q == old then s
  else
    let s := { s with evt := { s.evt with client := tabSet clientRouteDefault s.evt.client n q } }
    if q == 0xFF then s.setRoute n 1 {}
    else
      let v := s.route n 1
      -- pending occurrences become the first record of the new queue; a true level writes its record there
      let lv := if srcKind n == some .level then
          { v with disarmed := false, detail := if (firmwareQueue n).isSome then (s.route n 0).detail else v.detail, stamp := s.strand }
        else v
      (s.setRoute n 1 lv).evqRefill q

/-- EVT.SOURCE_ENABLE (R452). -/
def bodySourceEnable : Body := fun c s =>
  let o := orefOf c.payload
  let q := leAt c.payload 8 1
  if o.typ != 0x1F then s.answer stBadObject
  else if q ≤ 15 then s.answer stNoRight
  else if (q > 63 && q != 0xFF) || leAt c.payload 9 3 != 0 then s.answer stBadValue
  else if (srcKind o.idx).isNone then s.answer stNotFound
  else if q != 0xFF && s.getF (EvqStatus.target q) == 7 then s.answer stWrongState
  else (s.sourceRoute o.idx q).answer stDone

/-- EVT.QUEUE_STATE (R468). -/
def bodyQueueState : Body := fun c s =>
  let o := orefOf c.payload
  let q := o.idx
  if o.typ != 0x1E then s.answer stBadObject
  else
    let v := s.evq q
    s.answer stDone (s.bindingBytes q ++ leBytes 1 (s.getF (EvqStatus.state q)) ++ leBytes 1 (s.evqFill q) ++ leBytes 1 v.count ++
      [0] ++ leBytes 2 v.time ++ leBytes 2 (s.getF (EvqDrops.payloadDrops q)) ++ zeros 4)

/-- An injected record on one route of a level source, whose route state stays as it is (R468). -/
def State.injectLevel (s : State) (src detail q : Nat) : State :=
  if s.evqFill q ≥ 64 then s.evqDrop q
  else
    s.evqWrite q { src := src, kind := 1, deck := s.ownDeck, count := 1, inj := true, payload := stampDetail s.strand detail }

/-- EVT.INJECT (R468). -/
def bodyEvtInject : Body := fun c s =>
  let o := orefOf c.payload
  let d := leAt c.payload 8 4
  if o.typ != 0x1F then s.answer stBadObject
  else
    match srcKind o.idx with
    | none => s.answer stNotFound
    | some .counted => (s.occur o.idx d true).answer stDone
    | some .payload => (s.payload o.idx 0 true).answer stDone
    | some .level =>
      ((s.routesOf o.idx).foldl (fun (s : State) (rq : Nat × Nat) => s.injectLevel o.idx d rq.2) s).answer stDone

/-! ### STORE.STAGE_IMAGE (R494) -/

/-- The image's bytes go to the staging region, under XTS_SLOT where one is set. -/
def State.stageWrite (s : State) (off : Nat) (d : List Byte) : State :=
  let u := max s.store.lbaSize 1
  let lba := s.stageFirst + off / u
  let n := ceilDiv d.length u
  let data := (List.range n).flatMap (fun i =>
    let x := sliceB d (i * u) u
    if s.xtsSlot == 0xFFFF then x else s.xts true u (lba + i) x)
  { s with out := .nvme 1 lba n data :: s.out }

/-- The write, the read-back and the verification run under a ticket, which keeps SOURCE, FLAGS and LENGTH. -/
def State.stageStart (s : State) (c : Ctx) (len load : Nat) : Resp × State :=
  let c := { c with payload := [0] ++ leBytes 1 load ++ zeros 2 ++ leBytes 4 len, bulk := none }
  let (r, s) := s.pend c [imageLock]
  (r, { s with store := { s.store with staging := some (c.client, r.ticket) } })

/-- Staging may begin: the device is ATTACHED with a region, the key admits it, and no other image command runs. -/
def State.stageReady (s : State) (c : Ctx) (f : State → Resp × State) : Resp × State :=
  if s.store.state != ssAttached || s.stageCount == 0 then s.answer stWrongState
  else if s.xtsSlot != 0xFFFF && !s.xtsOk then s.answer stPolicyDenied
  else if s.store.staging.isSome then s.busy 10
  else if s.locked c.client [imageLock] then s.busyLock c [imageLock]
  else f s

/-- STORE.STAGE_IMAGE: from a bulk buffer, from the staging half of BAR2, or from an SPI client in pieces (R117). -/
def bodyStageImage : Body := fun c s => s.storeBody (fun s =>
  let p := c.payload
  let room := s.stageCount * s.store.lbaSize
  if c.cmd == 0x0E16 && (c.bulk.any (fun b => b.seg)) && s.spiMb c.mb then
    match c.bulk with
    | none => s.answer stBadLength
    | some b =>
      if !b.ok [0] then s.answer stBadValue
      else
        s.stageReady c (fun s =>
          match s.pieceOf c b.len room with
          | none => s.answer stBadValue
          | some x =>
            let s := (s.pieceNote c x).stageWrite x.off x.data
            if x.last then s.stageStart c x.total 0 else s.answer stDone)
  else
    let src := leAt p 0 1
    let len := leAt p 4 4
    if p.length != (if src == 0 then 24 else 8) then s.answer stBadLength
    else if src > 1 || leAt p 1 1 > 1 || leAt p 2 2 != 0 || len > 16777216 then s.answer stBadValue
    else if src == 1 then
      s.stageReady c (fun s =>
        if len > room then s.answer stBadValue
        else (s.stageWrite 0 (memReads s.bar2 0x03000000 len)).stageStart c len (leAt p 1 1))
    else
      match c.bulk with
      | none => s.answer stBadLength
      | some b =>
        if !b.ok [0] || b.len < len then s.answer stBadValue
        else
          s.stageReady c (fun s =>
            if len > room then s.answer stBadValue
            else
              match s.bulkRead c b with
              | (none, s) => s.answer stBulkFailed
              | (some d, s) => (s.stageWrite 0 (d.take len)).stageStart c len (leAt p 1 1)))

/-- The end of STORE.STAGE_IMAGE: the image as the device returns it is verified under R40, and with LOAD it goes to the
inactive bank or to a configuration slot; outcome 1 is a media error. -/
def State.stageEnd (s : State) (t : Ticket) (e : Ext) : State :=
  let s := { s with store := { s.store with staging := none } }
  let u := max s.store.lbaSize 1
  let len := leAt t.payload 4 4
  let raw := (List.range (ceilDiv len u)).flatMap (fun i =>
    let x := sliceB e.data (i * u) u
    if s.xtsSlot == 0xFFFF then x else s.xts false u (s.stageFirst + i) x)
  let img := raw.take len
  let typ := leAt img 6 2
  let load := leAt t.payload 1 1 == 1
  let fin := fun (s : State) (st : Nat) => s.finishTicket t.client t.num st []
  if e.code.val != 0 then fin s stFlashError
  else if img.length != 224 + imgBodyLen img || typ < 1 || typ > 3 || (load && typ == itFirst) then fin s stVerifyHeader
  else
    let st := s.verifyImage typ img
    if st != 0 then fin s st
    else if !load then fin s stDone
    else if typ == itFirmware then
      let (st, s) := (s.bankWrite (1 - s.fw.active) 0 img).fwLoaded img.length
      fin s st
    else
      let st := s.configVerify img
      let (slot, gen) := s.configSlot
      if st != 0 then fin s st else fin (s.writeSlot itConfig slot gen img) stDone

/-! ### The rows -/

/-- EVT.BIND. -/
def execEvtBind (q : Req) (s : State) : Host.Outcome State Fault Refusal := .next (s.request 0x0D10 q bodyEvtBind)
/-- EVT.COALESCE_SET. -/
def execEvtCoalesceSet (q : Req) (s : State) : Host.Outcome State Fault Refusal := .next (s.request 0x0D11 q bodyCoalesceSet)
/-- EVT.SOURCE_ENABLE. -/
def execEvtSourceEnable (q : Req) (s : State) : Host.Outcome State Fault Refusal :=
  .next (s.request 0x0D12 q bodySourceEnable)
/-- EVT.QUEUE_STATE. -/
def execEvtQueueState (q : Req) (s : State) : Host.Outcome State Fault Refusal := .next (s.request 0x0D13 q bodyQueueState)
/-- EVT.INJECT. -/
def execEvtInject (q : Req) (s : State) : Host.Outcome State Fault Refusal := .next (s.request 0x0D14 q bodyEvtInject)
/-- STORE.ATTACH. -/
def execStoreAttach (q : Req) (s : State) : Host.Outcome State Fault Refusal := .next (s.request 0x0E10 q bodyStoreAttach)
/-- STORE.DETACH. -/
def execStoreDetach (q : Req) (s : State) : Host.Outcome State Fault Refusal := .next (s.request 0x0E11 q bodyStoreDetach)
/-- STORE.RECORDER_START. -/
def execStoreRecorderStart (q : Req) (s : State) : Host.Outcome State Fault Refusal :=
  .next (s.request 0x0E12 q bodyRecorderStart)
/-- STORE.RECORDER_STOP. -/
def execStoreRecorderStop (q : Req) (s : State) : Host.Outcome State Fault Refusal :=
  .next (s.request 0x0E13 q bodyRecorderStop)
/-- STORE.READ. -/
def execStoreRead (q : Req) (s : State) : Host.Outcome State Fault Refusal := .next (s.request 0x0E14 q bodyStoreRead)
/-- STORE.WRITE. -/
def execStoreWrite (q : Req) (s : State) : Host.Outcome State Fault Refusal := .next (s.request 0x0E15 q bodyStoreWrite)
/-- STORE.STAGE_IMAGE. -/
def execStoreStageImage (q : Req) (s : State) : Host.Outcome State Fault Refusal :=
  .next (s.request 0x0E16 q bodyStageImage)
/-- STORE.HEALTH. -/
def execStoreHealth (q : Req) (s : State) : Host.Outcome State Fault Refusal := .next (s.request 0x0E17 q bodyStoreHealth)
/-- CASC.TOPOLOGY. -/
def execCascTopology (q : Req) (s : State) : Host.Outcome State Fault Refusal := .next (s.request 0x0F10 q bodyCascTopology)
/-- CASC.STANDBY_LINK_SET. -/
def execCascStandbyLinkSet (q : Req) (s : State) : Host.Outcome State Fault Refusal :=
  .next (s.request 0x0F11 q bodyStandbyLinkSet)
/-- CASC.HEAL. -/
def execCascHeal (q : Req) (s : State) : Host.Outcome State Fault Refusal := .next (s.request 0x0F12 q bodyCascHeal)
/-- CASC.SPLIT_LOG. -/
def execCascSplitLog (q : Req) (s : State) : Host.Outcome State Fault Refusal := .next (s.request 0x0F13 q bodySplitLog)

end Sys2Proof.Machine
end

