-- ==== Sys2Proof/Machine/BarWrite.lean ====
section
/-! DEFINITION. Host writes (R6, R9, R24, R27, R29, R64, R65, R181): what a word written to BAR0 does, and the bytes of BAR2. -/

namespace Sys2Proof.Machine

/-! ### Mailboxes (R54 to R57, R64) -/

/-- ACK; the one that DECK.RESET with scope FULL waits for brings the reset (R105). -/
def State.ackWrite (s : State) (n : Nat) : State :=
  let was := s.getF (MbStatus.state n) == mbResponse
  let s := s.mbAck n
  match s.gci.fullReset with
  | none => s
  | some (m, _) => if was && m == n then s.crownReset DeckResetCause.command else s

/-- A write of MB_CTRL. -/
def State.mbControl (s : State) (n w : Nat) : State :=
  let s := if bitOf w 1 then s.mbCancel n else s
  let s := (s.setF (MbCtrl.respIrqEn n) (bitsOf w 2 2)).syncMbLevel n
  if bitOf w 0 then s.ackWrite n else s

/-- A word written into a mailbox block at offset `off` by transport `tr`. -/
def State.mbWord (s : State) (n tr off w : Nat) : State :=
  if !s.mbReached n tr then s
  else if off = 0 then s.mbControl n w
  else if off = 4 then (if bitOf w 3 then s.setF (MbStatus.protoErr n) 0 else s)
  else if off = 8 then s.mbDoorbell n w
  else if 0x400 ≤ off && off < 0x800 && s.getF (MbStatus.state n) == mbIdle then
    { s with bar0 := memWrites s.bar0 (mbBase n + off) (leBytes 4 w) }
  else s

/-! ### Registers -/

/-- A register's value after a host write: each field under its access code, those that Host does not write left as they
are (R6, R9). -/
def fieldsWritten (fs : List FieldDesc) (old w : Nat) : Nat :=
  fs.foldl (fun v f =>
    if !f.host then v
    else
      let a := bitsOf v f.hi f.lo
      let b := bitsOf w f.hi f.lo
      match f.acc with
      | .rw => setBits v f.hi f.lo b
      | .w1c => setBits v f.hi f.lo (a - (a &&& b))
      | .w1s => setBits v f.hi f.lo (a ||| b)
      | _ => v) old

/-- A register whose fields only store, clear or set. -/
def State.plainWrite (s : State) (a w : Nat) : State :=
  match regAt a with
  | none => s
  | some d => s.setReg a (BitVec.ofNat 32 (fieldsWritten d.fields (s.reg a).toNat w))

/-- A word written into the register block of CAN[`n`] (R186). -/
def State.canWord (s : State) (n a w : Nat) : State :=
  if a = RxqTail.off n then s.canMoveTail n (RxqHead.off n) (RxqTail.off n) 2048 w
  else if a = TxqHead.off n then s.canMoveTxq n w
  else if a = TxcTail.off n then s.canMoveTail n (TxcHead.off n) (TxcTail.off n) 512 w
  else s.plainWrite a w

/-- A word written into the event concentrator's block (R457, R462, R470). -/
def State.evtWord (s : State) (a w : Nat) : State :=
  if a = TgtComplete.off 0 then s.evqComplete (bitsOf w 5 0) 3
  else if a = TgtComplete.off 1 then s.evqComplete (bitsOf w 5 0) 4
  else if 0x21000 ≤ a && a < 0x22000 && a % 0x40 = 8 then
    let q := (a - 0x21000) / 0x40
    if q < 16 then s else s.evqMoveRd q (bitsOf w 6 0)
  else s.plainWrite a w

/-- A word written into a ring block (R485, R486). -/
def State.ringWord (s : State) (a w : Nat) : State :=
  let r := (a - 0x40000) / 0x20
  let k := (a - 0x40000) % 0x20
  if k == 0x00 || k == 0x04 then (if s.hrFree r then s.plainWrite a w else s)
  else if k == 0x08 then s.hrControl r w
  else if k == 0x0C then s.hrMoveHost r w
  else if k == 0x14 then s.hrMoveSeen r w
  else s.plainWrite a w

/-- An aligned 32-bit write to BAR0 (R9, R27): the effect of a register with a rule of its own, or of its fields' access codes.
Reserved offsets, areas without host access and blocks that the variant lacks ignore it. -/
def State.busWrite (s : State) (a w : Nat) : State :=
  if s.absentVariant && absentBlock a then s
  else if 0x10000 ≤ a && a < 0x20000 then s.mbWord ((a - 0x10000) / 0x1000) 0 (a % 0x1000) w
  else if 0x20000 ≤ a && a < 0x40000 then s.evtWord a w
  else if 0x40000 ≤ a && a < 0x40800 then s.ringWord a w
  else if 0x80000 ≤ a && a < 0xC0000 then s.canWord ((a - 0x80000) / 0x1000) a w
  else if 0x100000 ≤ a && a < 0x158000 && a % 0x4000 = 0x2004 then s.tsqMoveTail ((a - 0x100000) / 0x4000) w
  else if a = ConvSel.off then s.convSelect w
  else if a = TimeSnap.off then (if bitOf w 0 then s.timeSnap else s)
  else if a = IwlRd.off then s.logRead IwlWr.off IwlRd.off 32 0x800 w
  else if a = PdlRd.off then s.logRead PdlWr.off PdlRd.off 16 0x801 w
  else s.plainWrite a w

/-- A host write that its target inside the device answers with an uncorrectable error (`fault` 1) or not at all (2): it stores nothing
and is logged as TARGET_ERROR or TARGET_TIMEOUT (R476). -/
def State.writeFailed (s : State) (bar off len req fault : Nat) : State := s.iwl (if fault = 1 then iwTargetError else iwTargetTimeout) bar off req len

/-- A host write of `len` bytes to BAR0 from a requester (R27): any but an aligned 32-bit one is ignored and logged. -/
def State.hostWriteBar0 (s : State) (off len req w : Nat) : State :=
  if len = 4 && off % 4 = 0 then s.busWrite off w else s.iwl iwMisaligned 0 off req len

/-- An aligned 32-bit write to BAR4 (R30): a word of an MSI-X table entry; any other is ignored. -/
def State.hostWriteBar4 (s : State) (off len w : Nat) : State :=
  if len = 4 && off % 4 = 0 && off < 0x400 then
    let lo := off % 16 * 8
    s.msixSet (off / 16) (setBits (s.msixEntry (off / 16)) (lo + 31) lo w)
  else s

/-! ### BAR2 (R28, R29, R181, R496) -/

/-- What a host write finds at a BAR2 offset: 0 a reserved range, 1 a read-only area, 2 a writable one. -/
def bar2Kind (a : Nat) : Nat :=
  if a < 0x400000 then (if 0x8000 ≤ a % 0x10000 && a % 0x10000 < 0xE000 then 2 else 1)
  else if 0x1000000 ≤ a && a < 0x1100000 then 1
  else if 0x2000000 ≤ a && a < 0x3000000 then 1
  else if 0x3000000 ≤ a && a < 0x4000000 then 2
  else 0

/-- A host write into BAR2: the bytes that fall in a writable area are stored; where some fall in a read-only area, one READ_ONLY
entry is logged. -/
def State.hostWriteBar2 (s : State) (off req : Nat) (d : List Byte) : State :=
  let cells := (List.range d.length).zip d
  let s := { s with bar2 := cells.foldl (fun (m : Memory) (kb : Nat × Byte) =>
    if bar2Kind (off + kb.1) = 2 then memWrite m (off + kb.1) kb.2 else m) s.bar2 }
  if (List.range d.length).any (fun k => bar2Kind (off + k) == 1) then s.iwl iwReadOnly 2 off req d.length else s

end Sys2Proof.Machine
end

