-- ==== Sys2Proof/Machine/CmdDiag.lean ====
section
/-! DEFINITION. The commands of the DIAG and FAULT classes (R106, R119 to R121, R272, R495, R527 to R533). -/

namespace Sys2Proof.Machine

/-! ### Table entries (R106, R207) -/

/-- Entries of the table of a DIAG code, and bytes of each; the ZW8632 has 32 direct tables (R2). -/
def State.diagTable (s : State) (t : Nat) : Option (Nat × Nat) :=
  match t with
  | 0 => some (32768, 16)
  | 1 => some (4096, 16)
  | 2 => some (4096, 16)
  | 3 => some (1024, 8)
  | 4 => some (if s.absentVariant then 65536 else 131072, 2)
  | 5 => some (16384, 8)
  | 6 => some (16384, 32)
  | 7 => some (4096, 16)
  | 8 => some (16384, 8)
  | 9 => some (16384, 8)
  | _ => none

/-- Words of an entry: a 2-byte entry takes the low half of one (R207). -/
def entryWords (bytes : Nat) : Nat := ceilDiv bytes 4

/-- The gate lists of a port, operational and pending. -/
def State.gateLists (s : State) (p : Nat) : List GateList :=
  let g := s.gate p
  g.oper.toList ++ (g.pend.map (fun x => x.1)).toList

/-- The pool entry that some list holds (R321). -/
def State.poolEntry (s : State) (i : Nat) : Option Nat :=
  let l := (List.range 22).flatMap (fun p => s.gateLists p)
  match l.find? (fun (g : GateList) => decide (g.pool ≤ i ∧ i < g.pool + g.entries.length)) with
  | none => none
  | some g =>
    match g.entries.drop (i - g.pool) with
    | (states, op, dt) :: _ => some (states + op * 2 ^ 8 + dt * 2 ^ 32)
    | [] => none

/-- A table's entry as it stands in the committed epoch (R106, R244), whatever draft handle a DIAG.TABLE_DUMP carries (R120: one epoch;
R90 lets a query read a draft; DESIGN CHOICE, log entry 88); what a free entry of the gate list pool holds is a free
value. -/
def State.tableEntry (s : State) (t i : Nat) : Nat × State :=
  match t with
  | 0 => (s.fdbEntry i, s)
  | 1 => (s.entry (oVlan i), s)
  | 2 => (s.entry (oStream i), s)
  | 3 => (s.entry (oFrer i), s)
  | 4 => (s.par (oDirect (24 + i / 2048) (i % 2048)) (pidRaw 0), s)
  | 5 => (s.hashEntry i, s)
  | 6 => (s.entry (oRoute i), s)
  | 7 => (s.entry (oMeter i), s)
  | 8 => (s.entry (oRate i), s)
  | _ =>
    match s.poolEntry i with
    | some v => (v, s)
    | none => s.draw

/-- `n` entries from `i` on, in word form. -/
def State.tableEntries (s : State) (t bytes i : Nat) : Nat → List Byte × State
  | 0 => ([], s)
  | n + 1 =>
    let (v, s) := s.tableEntry t i
    let (l, s) := s.tableEntries t bytes (i + 1) n
    (leBytes (4 * entryWords bytes) (v % 2 ^ (8 * bytes)) ++ l, s)

/-- Does a range of words lie in a table, from an entry's first word on? -/
def State.diagRangeOk (s : State) (t i words : Nat) : Bool :=
  match s.diagTable t with
  | none => false
  | some (n, b) => decide (i < n ∧ words ≤ (n - i) * entryWords b)

/-- `words` words of a table from entry `i` on. -/
def State.tableWords (s : State) (t i words : Nat) : List Byte × State :=
  match s.diagTable t with
  | none => ([], s)
  | some (_, b) =>
    let (l, s) := s.tableEntries t b i (ceilDiv words (entryWords b))
    (l.take (4 * words), s)

/-! ### DIAG -/

/-- Header of DIAG.READ's response. -/
def diagHead (addr count : Nat) : List Byte := leBytes 4 addr ++ leBytes 1 count ++ zeros 3

/-- DIAG.READ (R106). -/
def bodyDiagRead : Body := fun c s =>
  let space := leAt c.payload 0 1
  let n := leAt c.payload 1 1
  let addr := leAt c.payload 4 4
  if leAt c.payload 2 2 != 0 || !rng 1 250 n || 2 < space then s.answer stBadValue
  else if space = 0 then
    if addr % 4 != 0 || 0x1000000 < addr + 4 * n then s.answer stBadValue
    else s.answer stDone (diagHead addr n ++ (List.range n).flatMap (fun k => leBytes 4 (s.peek (addr + 4 * k))))
  else if space = 1 then s.pendHatpin c n [] false
  else if !s.diagRangeOk (addr / 2 ^ 24) (addr % 2 ^ 24) n then s.answer stBadValue
  else if 64 < n then s.pend c []
  else
    let (l, s) := s.tableWords (addr / 2 ^ 24) (addr % 2 ^ 24) n
    s.answer stDone (diagHead addr n ++ l)

/-- The end of DIAG.READ of a table. -/
def State.diagReadEnd (s : State) (t : Ticket) : State :=
  let n := leAt t.payload 1 1
  let addr := leAt t.payload 4 4
  let (l, s) := s.tableWords (addr / 2 ^ 24) (addr % 2 ^ 24) n
  s.finishTicket t.client t.num stDone (diagHead addr n ++ l)

/-- DIAG.WRITE's words in BAR0, each as a host write of that word (R119); REQ_ID of a log entry is a free value. -/
def State.diagWords (s : State) (addr : Nat) : List Byte → Nat → State
  | _, 0 => s
  | d, n + 1 =>
    if !s.fwServing then s
    else
      let w := leVal (d.take 4)
      let s := if addr % 4 = 0 then s.busWrite addr w
        else
          let (r, s) := s.draw
          s.hostWriteBar0 addr 4 (r % 65536) w
      s.diagWords (addr + 4) (d.drop 4) n

/-- DIAG.WRITE (R119). A range beyond BAR0 answers BAD_VALUE as for DIAG.READ (R106; DESIGN CHOICE, log entry 88: R119 names no
status). A word that resets the Crown die ends the command without a response. -/
def bodyDiagWrite : Body := fun c s =>
  let space := leAt c.payload 0 1
  let n := leAt c.payload 1 1
  let addr := leAt c.payload 4 4
  let d := c.payload.drop 8
  if leAt c.payload 2 2 != 0 || !rng 1 250 n || 1 < space then s.answer stBadValue
  else if d.length != 4 * n then s.answer stBadLength
  else if space = 1 then
    if !(s.fuses.lifecycle == 1 || s.fuses.lifecycle == 3) then s.answer stLifecycleDenied else s.pendHatpin c n d true
  else if 0x1000000 < addr + 4 * n then s.answer stBadValue
  else
    let s := s.diagWords addr d n
    if s.fwServing then s.answer stDone (leBytes 1 n ++ zeros 3) else (⟨stHold, [], 0, 0⟩, s)

/-- The 16-byte header that DIAG.TABLE_DUMP reads from its buffer: table, first entry and count, in range for a buffer of
`len` bytes (R120). -/
def State.dumpOk (s : State) (h : List Byte) (len : Nat) : Bool :=
  match s.diagTable (leAt h 0 1) with
  | none => false
  | some (n, b) =>
    leAt h 1 3 == 0 && decide (leAt h 4 4 + leAt h 8 4 ≤ n) && decide (16 + leAt h 8 4 * 4 * entryWords b ≤ len)

/-- DIAG.TABLE_DUMP (R120). -/
def bodyTableDump : Body := fun c s =>
  match c.bulk with
  | none => s.answer stBadLength
  | some b =>
    if !b.ok [2] then s.answer stBadValue
    else
      match s.bulkRead c { b with len := 16 } with
      | (none, s) => s.answer stBulkFailed
      | (some h, s) => if b.len < 16 || !s.dumpOk h b.len then s.answer stBadValue else s.pend c []

/-- Write a ticket's result into its segment or bulk buffer, and confirm it (R62, R477). -/
def State.ticketOutput (s : State) (t : Ticket) (d : List Byte) : Bool × State :=
  let b := { bulkAt t.payload 0 with seg := t.seg }
  let c : Ctx := { cmd := t.cmd, mb := 0, client := t.client, deck := 0, flags := 0, txn := 0, payload := t.payload, bulk := some b }
  s.bulkWrite c b d

/-- The end of DIAG.TABLE_DUMP: EPOCH, then the entries. -/
def State.tableDumpEnd (s : State) (t : Ticket) (lost : Bool) : State :=
  match s.ticketInput t with
  | (none, s) => s.finishTicket t.client t.num stBulkFailed []
  | (some h, s) =>
    if !s.dumpOk h (leAt t.payload 8 4) then s.finishTicket t.client t.num stBadValue []
    else
      let tab := leAt h 0 1
      let (l, s) := s.tableEntries tab ((s.diagTable tab).getD (0, 4)).2 (leAt h 4 4) (leAt h 8 4)
      match s.ticketOutput t (h.take 12 ++ leBytes 4 s.gci.epoch ++ l) with
      | (true, s) =>
        if lost && !t.seg then (s.flushFailed (leAt t.payload 0 8 + leAt t.payload 8 4 - 1)).finishTicket t.client t.num stBulkFailed []
        else s.finishTicket t.client t.num stDone []
      | (false, s) => s.finishTicket t.client t.num stBulkFailed []

/-- LENGTH of a loopback test is valid for the Channel's format (R121): an Ethernet payload from 46 bytes up to MAX_LEN
without header and FCS, a CAN payload of the Lane's mode, a LIN response (log entry 37). -/
def State.loopLenOk (s : State) (ch len : Nat) : Bool :=
  if ch ≤ 21 then rng 46 (s.par (oChan ch) 0x0103 - 18) len
  else if ch ≤ 87 then
    match s.canPar (ch - 24) 0x0100 with
    | 0 => lenOk 0 len
    | 3 => lenOk 2 len || lenOk 1 len
    | _ => lenOk 1 len
  else rng 1 8 len

/-- The modes of R121 that a Channel has: MAC, PCS, transceiver. -/
def loopModeOk (ch mode : Nat) : Bool :=
  mode == 1 || (mode == 2 && decide (ch ≤ 21)) ||
  (mode == 3 && (decide (24 ≤ ch ∧ ch ≤ 39) || decide (88 ≤ ch ∧ ch ≤ 95)))

/-- A loopback test that the Channel does not have, or a value out of range (R121). The host and storage links, for which R121 names no
status, count among these (DESIGN CHOICE, log entry 88). -/
def State.loopBad (s : State) (ch : Nat) (p : List Byte) : Bool :=
  ch == 22 || ch == 23 || !loopModeOk ch (leAt p 8 1) || leAt p 9 1 != 0 || !rng 1 1000 (leAt p 10 2) ||
  !s.loopLenOk ch (leAt p 12 2) || leAt p 14 2 != 0

/-- DIAG.LOOPBACK (R121). -/
def bodyLoopback : Body := fun c s =>
  let o := orefOf c.payload
  if o.typ != 0x04 then s.answer stBadObject
  else if s.loopBad o.chan c.payload then s.answer stBadValue
  else if s.chanEnabled o.chan then s.answer stWrongState
  else s.pend c [o.lock]

/-- The end of DIAG.LOOPBACK: of the frames sent, those that the loop returned and those that compared unequal come from the test
itself, as does the greatest latency, 0 where none came back. No more come back than were sent, and no more compare unequal than
come back (DEDUCED, log entry 94). -/
def State.loopbackEnd (s : State) (t : Ticket) (x : List Byte) : State :=
  let sent := leAt t.payload 10 2
  let got := min (leAt x 0 4) sent
  s.finishTicket t.client t.num stDone
    (leBytes 4 sent ++ leBytes 4 got ++ leBytes 4 (min (leAt x 4 4) got) ++ leBytes 4 (if got = 0 then 0 else leAt x 8 4))

/-- DIAG.MIRROR_SET (R495). -/
def bodyMirrorSet : Body := fun c s =>
  let o := orefOf c.payload
  let tgt := leAt c.payload 8 1
  let port := leAt c.payload 9 1
  let cls := leAt c.payload 10 1
  let chan := o.typ == 0x04
  if !chan && o.typ != 0x0D then s.answer stBadObject
  else if (chan && 23 < o.chan) || 2 < tgt || 19 < port || 7 < cls || leAt c.payload 11 1 != 0 then s.answer stBadValue
  else if tgt = 2 && (!chan || o.chan = 23 || o.chan = port) then s.answer stBadValue
  else if tgt = 1 && s.absentVariant then s.answer stAbsentObject
  else s.stage c [(pkey o.key pidMirror, tgt + port * 2 ^ 8 + cls * 2 ^ 16)]

/-- `n` numbers of four bytes; those not there are free values. -/
def State.freeFill (s : State) (l : List Nat) : Nat → List Byte × State
  | 0 => ([], s)
  | n + 1 =>
    match l with
    | x :: rest =>
      let (b, s) := s.freeFill rest n
      (leBytes 4 x ++ b, s)
    | [] =>
      let (x, s) := s.draw
      let (b, s) := s.freeFill [] n
      (leBytes 4 x ++ b, s)

/-- DIAG.AUDIT_STATUS (R272): pass count, CELLS_RECLAIMED, the last 16 reclaims from the newest on, and the totals. R272 gives no
layout (DESIGN CHOICE, log entry 38). -/
def bodyAuditStatus : Body := fun _ s =>
  let (cells, s) := s.freeFill s.buf.reclaims 16
  let (tot, s) := s.freeFill s.buf.auditTotals 5
  s.answer stDone (leBytes 8 (s.ctr oDeck cQos 13) ++ leBytes 8 (s.ctr oDeck cQos 5) ++ cells ++ tot)

/-! ### FAULT -/

/-- FAULT.STATUS (R531). -/
def bodyFaultStatus : Body := fun _ s =>
  let regs := FcuStatus.off :: WdtStatus.off :: (List.range 16).map FcuLatched.off
  s.answer stDone (regs.flatMap (fun a => leBytes 4 (s.peek a)))

/-- FAULT.CLEAR of the twin pipelines' input during Fallback starts the shadow interval (R279). -/
def State.shadowStart (s : State) : State :=
  if s.flag SwStatus.fallback then
    { s.setF SwStatus.shadow 1 with buf := { (s.setF SwStatus.shadow 1).buf with shadowEnd := some (s.after (msC 10)) } }
  else s

/-- FAULT.CLEAR (R530). -/
def bodyFaultClear : Body := fun c s =>
  let i := leAt c.payload 0 2
  let named := if i = 0xFFFF then List.range 512 else [i]
  if leAt c.payload 2 2 != 0 || (511 < i && i != 0xFFFF) then s.answer stBadValue
  else if named.any s.faultCond then s.answer stWrongState
  else
    let s := s.faultUnlatch named
    (if named.contains 1 then s.shadowStart else s).answer stDone

/-- Is a reaction weaker than another (R528)? -/
def rxWeaker (v least : Nat) : Bool :=
  decide (bitsOf v 1 0 < bitsOf least 1 0) || (bitOf least 2 && !bitOf v 2) || (bitOf least 3 && !bitOf v 3)

/-- FAULT.REACTION_SET (R528). -/
def bodyReactionSet : Body := fun c s =>
  let o := orefOf c.payload
  let v := leAt c.payload 8 4
  if o.typ != 0x20 then s.answer stBadObject
  else if bitsOf v 31 4 != 0 || bitsOf v 1 0 == 3 || rxWeaker v (leastReaction o.idx) then s.answer stBadValue
  else s.stage c [(pkey o.key (pidRaw 0), v)]

/-- An input is made active for `dur` µs: its rise, whose DETAIL is a free value, and with FULL its whole reaction (R530). -/
def State.injectFault (s : State) (i : Nat) (full : Bool) (dur : Nat) : State :=
  let (x, s) := s.draw
  let s := s.faultRise i (x % 2 ^ 32) true full
  if s.fwServing then { s with fcu := { s.fcu with injected := tabInsert s.fcu.injected i (s.after (usC dur)) } } else s

/-- FAULT.INJECT (R530). DETAIL of an injected rise is a free value. With FULL a reset or halt carried out ends the command
without a response. -/
def bodyFaultInject : Body := fun c s =>
  let i := leAt c.payload 0 2
  let flags := leAt c.payload 2 2
  let dur := leAt c.payload 4 4
  if !faultAssigned i || 511 < i || 1 < flags || !rng 1 1000000 dur then s.answer stBadValue
  else if s.faultCond i then s.answer stWrongState
  else
    let s := s.injectFault i (flags == 1) dur
    if s.fwServing then s.answer stDone else (⟨stHold, [], 0, 0⟩, s)

/-- A fault log entry's 16 bytes (R531). -/
def FaultEntry.bytes (e : FaultEntry) : List Byte :=
  leBytes 6 e.time ++ leBytes 2 e.seq ++ leBytes 2 e.input ++ leBytes 1 e.action ++
  leBytes 1 (b2n e.injected + 2 * b2n e.limited + 4 * b2n e.faultN) ++ leBytes 4 e.detail

/-- The entries that FAULT.LOG_READ names, oldest first. -/
def State.faultsFor (s : State) (p : List Byte) : List FaultEntry :=
  (s.brim.faultLog.reverse.filter (fun e => seqAtOrAfter e.seq (leAt p 0 2))).take (leAt p 2 2)

/-- The response of FAULT.LOG_READ, in the form of R400. -/
def State.faultsPayload (s : State) (p : List Byte) : List Byte :=
  let from_ := leAt p 0 2
  let l := s.faultsFor p
  let next := match l.getLast? with | some e => (e.seq + 1) % 65536 | none => from_
  let lost := match s.brim.faultLog.getLast? with
    | some e => if seqAtOrAfter e.seq from_ then (e.seq + 65536 - from_) % 65536 else 0
    | none => 0
  leBytes 2 l.length ++ leBytes 2 next ++ leBytes 2 lost ++ zeros 2 ++ l.flatMap FaultEntry.bytes

/-- FAULT.LOG_READ (R531): FROM_SEQ and COUNT of two bytes each, as in R400 (DEDUCED, log entry 38); the entries come over the
Hatpin link, four words each. -/
def bodyFaultLogRead : Body := fun c s =>
  if c.payload.length != 4 then s.answer stBadLength
  else if !rng 1 32 (leAt c.payload 2 2) then s.answer stBadValue
  else s.pendHatpin c (4 * (s.faultsFor c.payload).length) [] false

/-- FAULT.WATCHDOG_SET (R533). -/
def bodyWatchdogSet : Body := fun c s =>
  let opn := leAt c.payload 0 4
  let cls := leAt c.payload 4 4
  let boot := leAt c.payload 8 4
  let ks := (List.range 3).map (fun i => lockOf (pkey oDeck (pidWatchdog i)))
  if s.locked c.client ks then s.busyLock c ks
  else if 1000 < opn || !rng 10 2000 cls || cls ≤ opn || !rng 50 5000 boot then s.answer stBadValue
  else s.stage c [(pkey oDeck (pidWatchdog 0), opn), (pkey oDeck (pidWatchdog 1), cls), (pkey oDeck (pidWatchdog 2), boot)]

/-! ### The rows -/

/-- DIAG.READ. -/
def execDiagRead (q : Req) (s : State) : Host.Outcome State Fault Refusal := .next (s.request 0x1010 q bodyDiagRead)
/-- DIAG.WRITE. -/
def execDiagWrite (q : Req) (s : State) : Host.Outcome State Fault Refusal := .next (s.request 0x1011 q bodyDiagWrite)
/-- DIAG.TABLE_DUMP. -/
def execDiagTableDump (q : Req) (s : State) : Host.Outcome State Fault Refusal := .next (s.request 0x1012 q bodyTableDump)
/-- DIAG.LOOPBACK. -/
def execDiagLoopback (q : Req) (s : State) : Host.Outcome State Fault Refusal := .next (s.request 0x1013 q bodyLoopback)
/-- DIAG.MIRROR_SET. -/
def execDiagMirrorSet (q : Req) (s : State) : Host.Outcome State Fault Refusal := .next (s.request 0x1014 q bodyMirrorSet)
/-- DIAG.AUDIT_STATUS. -/
def execDiagAuditStatus (q : Req) (s : State) : Host.Outcome State Fault Refusal :=
  .next (s.request 0x1015 q bodyAuditStatus)
/-- FAULT.STATUS. -/
def execFaultStatus (q : Req) (s : State) : Host.Outcome State Fault Refusal := .next (s.request 0x1110 q bodyFaultStatus)
/-- FAULT.CLEAR. -/
def execFaultClear (q : Req) (s : State) : Host.Outcome State Fault Refusal := .next (s.request 0x1111 q bodyFaultClear)
/-- FAULT.REACTION_SET. -/
def execFaultReactionSet (q : Req) (s : State) : Host.Outcome State Fault Refusal :=
  .next (s.request 0x1112 q bodyReactionSet)
/-- FAULT.INJECT. -/
def execFaultInject (q : Req) (s : State) : Host.Outcome State Fault Refusal := .next (s.request 0x1113 q bodyFaultInject)
/-- FAULT.LOG_READ. -/
def execFaultLogRead (q : Req) (s : State) : Host.Outcome State Fault Refusal := .next (s.request 0x1114 q bodyFaultLogRead)
/-- FAULT.WATCHDOG_SET. -/
def execFaultWatchdogSet (q : Req) (s : State) : Host.Outcome State Fault Refusal :=
  .next (s.request 0x1115 q bodyWatchdogSet)

end Sys2Proof.Machine
end

