-- ==== Sys2Proof/Machine/Bodies.lean ====
section
/-! DEFINITION. The body of every command by its code, as firmware runs one that it takes from a mailbox (R73, R89, R91), and
DECK.SEG_EXEC, which runs another command's body on a segment buffer (R103). -/

namespace Sys2Proof.Machine

/-- A verb that no class has: what precheck answers before it gets here (R91). -/
def bodyUnknown : Body := fun _ s => s.answer stUnknownCommand

/-- The commands that DECK.SEG_EXEC runs on a segment buffer (R62, R103, R117). -/
def segBody (code : Nat) : Option Body :=
  match code with
  | 0x0115 => some bodyFwLoad
  | 0x0119 => some bodyConfigProgram
  | 0x0A10 => some bodyGateListSet
  | 0x0E14 => some bodyStoreRead
  | 0x0E15 => some bodyStoreWrite
  | 0x0E16 => some bodyStageImage
  | 0x1012 => some bodyTableDump
  | _ => none

/-- DECK.SEG_EXEC (R103): the inner command's own checks, then its body, of those that `inner` names, with the segment buffer in
place of a bulk buffer. -/
def segExec (inner : Nat → Option Body) : Body := fun c s =>
  let code := leAt c.payload 0 2
  let len := leAt c.payload 4 4
  let dir := leAt c.payload 8 1
  match cmdRow code with
  | none => s.answer stUnknownCommand
  | some r =>
    if !(s.client c.client).right r.kind (code / 256) then s.answer stNoRight
    else if s.getF CascStatus.role == 3 && splitFrozen r then s.answer stSplitFrozen
    else
      match inner code with
      | none => s.answer stBadLength
      | some body =>
        if !s.spiMb c.mb then s.answer stWrongState
        else if leAt c.payload 2 2 != 0 || leAt c.payload 9 3 != 0 || 2 < dir || !rng 1 65536 len then s.answer stBadValue
        else if s.segBusy c.client then s.busy 10
        else
          body { c with cmd := code, bulk := some ⟨0, len, dir, 0, true⟩,
                        payload := zeros 8 ++ leBytes 4 len ++ leBytes 1 dir ++ zeros 3 } s

/-- DECK.SEG_EXEC. -/
def bodySegExec : Body := segExec segBody

/-- The verbs of class 0x01 (R91); `x` is what the outside adds to those that need it. -/
def deckBody (verb : Nat) (_ : Ext) : Body :=
  match verb with
  | 0x10 => bodyIdentify
  | 0x11 => bodyReset
  | 0x12 => bodyClientSet
  | 0x13 => bodyTicketStatus
  | 0x14 => bodyTicketAbort
  | 0x15 => bodyFwLoad
  | 0x16 => bodyFwVerify
  | 0x17 => bodyFwSwitch
  | 0x18 => bodyFwProgram
  | 0x19 => bodyConfigProgram
  | 0x1A => bodySegWrite
  | 0x1B => bodySegExec
  | 0x1C => bodySegRead
  | _ => bodyUnknown

/-- The verbs of class 0x02 (R91); `x` is what the outside adds to those that need it. -/
def spanBody (verb : Nat) (_ : Ext) : Body :=
  match verb with
  | 0x10 => bodySleepReq
  | 0x11 => bodyWakeReq
  | 0x12 => bodySpanState
  | 0x13 => bodyWakeSources
  | 0x14 => bodyStayAwakeLog
  | 0x15 => bodyMemberSet
  | _ => bodyUnknown

/-- The verbs of class 0x03 (R91); `x` is what the outside adds to those that need it. -/
def chanBody (verb : Nat) (x : Ext) : Body :=
  match verb with
  | 0x10 => bodyChanEnable
  | 0x11 => bodyChanDisable
  | 0x12 => bodyLinkState
  | 0x13 => bodyXcvrMode (x.code != 0)
  | _ => bodyUnknown

/-- The verbs of class 0x04 (R91); `x` is what the outside adds to those that need it. -/
def ethBody (verb : Nat) (_ : Ext) : Body :=
  match verb with
  | 0x10 => bodyWakePatternSet
  | 0x11 => bodyPauseStormClear
  | 0x12 => bodyMdio false
  | 0x13 => bodyMdio true
  | _ => bodyUnknown

/-- The verbs of class 0x05 (R91); `x` is what the outside adds to those that need it. -/
def canBody (verb : Nat) (_ : Ext) : Body :=
  match verb with
  | 0x10 => bodyBusOffRecover
  | 0x11 => bodyRestrictedSet
  | 0x12 => bodyTxFrame
  | 0x13 => bodyTxAtTime
  | 0x14 => bodySwakeSet
  | 0x15 => bodyErrorState
  | _ => bodyUnknown

/-- The verbs of class 0x06 (R91); `x` is what the outside adds to those that need it. -/
def linBody (verb : Nat) (_ : Ext) : Body :=
  match verb with
  | 0x10 => bodyScheduleSet
  | 0x11 => bodyScheduleSelect
  | 0x12 => bodyGotoSleep
  | 0x13 => bodyWakeupSend
  | 0x14 => bodyResponseSet
  | _ => bodyUnknown

/-- The verbs of class 0x07 (R91); `x` is what the outside adds to those that need it. -/
def fdbBody (verb : Nat) (_ : Ext) : Body :=
  match verb with
  | 0x10 => bodyAddStatic
  | 0x11 => bodyFdbDelete
  | 0x12 => bodyFdbFlush
  | 0x13 => bodyFdbLookup
  | 0x14 => bodyAgeingSet
  | 0x15 => bodyLearnSet
  | _ => bodyUnknown

/-- The verbs of class 0x08 (R91); `x` is what the outside adds to those that need it. -/
def routeBody (verb : Nat) (_ : Ext) : Body :=
  match verb with
  | 0x10 => bodyDraftOpen
  | 0x11 => bodyCommit
  | 0x12 => bodyDraftDiscard
  | 0x13 => bodyDraftStatus
  | 0x14 => bodyEpoch
  | 0x15 => bodyDirectSet
  | 0x16 => bodyHashSet
  | 0x17 => bodyFallbackSet
  | _ => bodyUnknown

/-- The verbs of class 0x09 (R91); `x` is what the outside adds to those that need it. -/
def sigBody (verb : Nat) (_ : Ext) : Body :=
  match verb with
  | 0x10 => bodyProgramLoad
  | 0x11 => bodyPduSet
  | 0x12 => bodySignalSet
  | 0x13 => bodySignalRead
  | 0x14 => bodySignalInject
  | 0x15 => bodyAdmission
  | _ => bodyUnknown

/-- The verbs of class 0x0A (R91); `x` is what the outside adds to those that need it. -/
def qosBody (verb : Nat) (_ : Ext) : Body :=
  match verb with
  | 0x10 => bodyGateListSet
  | 0x11 => bodyGateState
  | 0x12 => bodyShaperSet
  | 0x13 => bodyMeterSet
  | 0x14 => bodyAdmissionSet
  | 0x15 => bodyHistogramSet
  | 0x16 => bodyHistogramRead
  | _ => bodyUnknown

/-- The verbs of class 0x0B (R91); `x` is what the outside adds to those that need it. -/
def timeBody (verb : Nat) (_ : Ext) : Body :=
  match verb with
  | 0x10 => bodySet
  | 0x11 => bodyTimeStatus
  | 0x12 => bodyWorkingSelect
  | 0x13 => bodyOutputSet
  | 0x14 => bodyCaptureRead
  | _ => bodyUnknown

/-- The verbs of class 0x0C (R91); `x` is what the outside adds to those that need it. -/
def secBody (verb : Nat) (x : Ext) : Body :=
  match verb with
  | 0x10 => bodyKeyInstall (x.code != 0)
  | 0x11 => bodyKeyErase (x.code != 0)
  | 0x12 => bodySaInstall
  | 0x13 => bodySaRetire
  | 0x14 => bodyJobSubmit
  | 0x15 => bodyJobAbort
  | 0x16 => bodyLifecycle
  | 0x17 => bodyLifecycleAdvance (Fin.ofNat 4 x.code.val)
  | 0x18 => bodySelftest
  | 0x19 => bodyZeroise
  | 0x1A => bodyDebugUnlock (x.code != 0)
  | 0x1B => bodyFreshnessSet
  | _ => bodyUnknown

/-- The verbs of class 0x0D (R91); `x` is what the outside adds to those that need it. -/
def evtBody (verb : Nat) (_ : Ext) : Body :=
  match verb with
  | 0x10 => bodyEvtBind
  | 0x11 => bodyCoalesceSet
  | 0x12 => bodySourceEnable
  | 0x13 => bodyQueueState
  | 0x14 => bodyEvtInject
  | _ => bodyUnknown

/-- The verbs of class 0x0E (R91); `x` is what the outside adds to those that need it. -/
def storeBody (verb : Nat) (_ : Ext) : Body :=
  match verb with
  | 0x10 => bodyStoreAttach
  | 0x11 => bodyStoreDetach
  | 0x12 => bodyRecorderStart
  | 0x13 => bodyRecorderStop
  | 0x14 => bodyStoreRead
  | 0x15 => bodyStoreWrite
  | 0x16 => bodyStageImage
  | 0x17 => bodyStoreHealth
  | _ => bodyUnknown

/-- The verbs of class 0x0F (R91); `x` is what the outside adds to those that need it. -/
def cascBody (verb : Nat) (_ : Ext) : Body :=
  match verb with
  | 0x10 => bodyCascTopology
  | 0x11 => bodyStandbyLinkSet
  | 0x12 => bodyCascHeal
  | 0x13 => bodySplitLog
  | _ => bodyUnknown

/-- The verbs of class 0x10 (R91); `x` is what the outside adds to those that need it. -/
def diagBody (verb : Nat) (_ : Ext) : Body :=
  match verb with
  | 0x10 => bodyDiagRead
  | 0x11 => bodyDiagWrite
  | 0x12 => bodyTableDump
  | 0x13 => bodyLoopback
  | 0x14 => bodyMirrorSet
  | 0x15 => bodyAuditStatus
  | _ => bodyUnknown

/-- The verbs of class 0x11 (R91); `x` is what the outside adds to those that need it. -/
def faultBody (verb : Nat) (_ : Ext) : Body :=
  match verb with
  | 0x10 => bodyFaultStatus
  | 0x11 => bodyFaultClear
  | 0x12 => bodyReactionSet
  | 0x13 => bodyFaultInject
  | 0x14 => bodyFaultLogRead
  | 0x15 => bodyWatchdogSet
  | _ => bodyUnknown

/-- The common verbs (R87 to R89). -/
def commonBody (verb : Nat) : Option Body :=
  match verb with
  | 1 => some bodyGet
  | 2 => some bodySet
  | 3 => some bodyList
  | 4 => some bodyStats
  | 5 => some bodyClearStats
  | _ => none

/-- The body of a command code. -/
def bodyOf (code : Nat) (x : Ext) : Body :=
  match commonBody (code % 256) with
  | some b => b
  | none =>
    match code / 256 with
    | 0x01 => deckBody (code % 256) x
    | 0x02 => spanBody (code % 256) x
    | 0x03 => chanBody (code % 256) x
    | 0x04 => ethBody (code % 256) x
    | 0x05 => canBody (code % 256) x
    | 0x06 => linBody (code % 256) x
    | 0x07 => fdbBody (code % 256) x
    | 0x08 => routeBody (code % 256) x
    | 0x09 => sigBody (code % 256) x
    | 0x0A => qosBody (code % 256) x
    | 0x0B => timeBody (code % 256) x
    | 0x0C => secBody (code % 256) x
    | 0x0D => evtBody (code % 256) x
    | 0x0E => storeBody (code % 256) x
    | 0x0F => cascBody (code % 256) x
    | 0x10 => diagBody (code % 256) x
    | 0x11 => faultBody (code % 256) x
    | _ => bodyUnknown

/-- DECK.SEG_EXEC. -/
def execDeckSegExec (q : Req) (s : State) : Host.Outcome State Fault Refusal := .next (s.request 0x011B q bodySegExec)

end Sys2Proof.Machine
end

