-- ==== Sys2Proof/Machine/Boot.lean ====
section
/-! DEFINITION. Power-on, the resets and the boot (R31 to R49), the end of a firmware switchover (R52, R53), the handover of
Causeway pairs (R39) and the PCIe link's configuration (R463). -/

namespace Sys2Proof.Machine

/-! ### Resets and supplies -/

/-- The Crown die is powered and out of reset (R363, R36). -/
def State.crownUp (s : State) : Bool := s.brim.power == pwRunning && !s.brim.supplyBad

/-- BOOT_SRC as accepted (R35). -/
def State.bootSrc (s : State) : Nat := s.getF DeckStraps.bootSrc

/-- VBAT_POWER_ON_RESET (R31, R367): both dies; Brim non-volatile memory, fuses and flash survive. -/
def execVbatPowerOnReset (s : State) : Host.Outcome State Fault Refusal :=
  let s := (s.setPower pwOff).syncFault
  let t : State :=
    { cfg := s.brim.nvm, brim := { nvm := s.brim.nvm, keyStore := s.brim.keyStore }, fuses := s.fuses, flash := s.flash,
      host := s.host, out := s.out, absentVariant := s.absentVariant, freeCount := s.freeCount, pending := s.pending }
  .next (t.setF HbxStatus.lifecycle s.fuses.lifecycle).variantPools

/-- BRIM_RESET_RELEASE (R36 step 1, R367). -/
def execBrimResetRelease (s : State) : Host.Outcome State Fault Refusal :=
  .next (if s.brim.power == pwOff then s.setPower pwWaking else s)

/-- Brim non-volatile memory is loaded: INH outputs follow their policy, and the enabled pairs own their buses (R36). -/
def State.nvmLoad (s : State) : State :=
  let s := { s with brim := { s.brim with nvmLoaded := true, supplyTimer := some (s.brim.hb + msC 50) } }.syncInh
  (List.range 4).foldl (fun (s : State) p =>
    if cwEnable (s.cwPar p) then (s.setRepeater p { s.repeater p with owns := true }).cwXcvrs p else s) s

/-- BRIM_NVM_LOADED (R36 steps 2 to 4): INH outputs follow their power-on policy, and the enabled Causeway pairs start; the 50 ms
of R367 run from the role-1 INH. -/
def execBrimNvmLoaded (s : State) : Host.Outcome State Fault Refusal :=
  .next (if s.brim.power != pwWaking || s.brim.nvmLoaded then s else s.nvmLoad)

/-- CROWN_SUPPLY_FAULT (R31, R367, R373): in Running the boot restarts once the supplies are good again, or, with three supply
retries within 10 s behind it, the device stays Degraded. On the way to Parked the supplies are no fault any more (R368 step 3). -/
def execCrownSupplyFault (s : State) : Host.Outcome State Fault Refusal :=
  let recent := s.brim.supplyRetries.filter (fun t => s.brim.hb < t + secC 10)
  .next (if s.brim.entering == some pwParked then s
    else if s.brim.power == pwRunning && decide (recent.length ≥ 3) then
      let s := (s.crownReset DeckResetCause.crownSupply).degradeSupply
      { s with brim := { s.brim with retryAt := none } }
    else if s.brim.power == pwRunning || s.brim.power == pwListening then
      let s := s.crownReset DeckResetCause.crownSupply
      { s with fabricOn := false, brim := { s.brim with supplyBad := true } }
    else s)

/-- The retry counts are cleared and the supplies are sought anew (R367). -/
def State.retriesClear (s : State) : State :=
  let s := { s with brim := { s.brim with
    halted := false, retryAt := none, thermRetryAt := none, supplyRetries := [], thermalTimes := [],
    supplyTimer := some (s.brim.hb + msC 50) } }
  (s.setF PwrStatus.retries 0).setPower pwWaking

/-- BOARD_RESET (R31, R367): RESET_N resets the Crown die; in Degraded it also clears the retry counts. The Brim die reads the pin only
while VCC5 is in tolerance (R548). -/
def execBoardReset (s : State) : Host.Outcome State Fault Refusal :=
  .next (if s.brim.power == pwOff || s.brim.power == pwParked || !s.brim.vcc5 then s
    else if s.brim.power == pwDegraded then (s.crownReset DeckResetCause.boardPin).retriesClear
    else s.crownReset DeckResetCause.boardPin)

/-- PCIE_RESET (R31, R32): the endpoint's configuration space and MSI-X table are reset, and every mailbox of a PCIe client is
released as for a lost client. -/
def execPcieReset (s : State) : Host.Outcome State Fault Refusal :=
  let s := ((List.range 8).filter (fun c => (s.client c).transport == 0)).foldl (fun (s : State) c => s.clientLost c) s
  let s := { s with pcie := { laneGated := s.pcie.laneGated },
                    evt := { s.evt with msixTab := [], msixPba := 0 } }
  .next (((s.setF TrStatus.hostGen 0).setF TrStatus.hostWidth 0).evqTargetSlept 3)

/-- SUPPLIES_GOOD (R36, R367): at SG the Crown die leaves reset; after a supply fault in Running its boot goes on. -/
def execSuppliesGood (s : State) : Host.Outcome State Fault Refusal :=
  .next (if s.brim.power == pwWaking && s.brim.prev != pwListening && s.brim.nvmLoaded then
      { s with brim := { s.brim with supplyTimer := none, supplyBad := false } }.setPower pwRunning
    else if s.brim.power == pwRunning && s.brim.supplyBad then { s with brim := { s.brim with supplyBad := false } }
    else s)

/-! ### ROM: straps, clocks and self-tests -/

/-- The straps are taken: boot source, host transport of client 0 and its mailboxes, rank (R34, R35). -/
def State.strapsTake (s : State) (w : Nat) : State :=
  let s := { s with fw := { s.fw with straps := true } }
  let s := ((s.setF DeckStraps.bootSrc (w % 4)).setF DeckStraps.hostSel (bitsOf w 2 2)).setF DeckStraps.cascRank (bitsOf w 4 3)
  let cl : Client := { s.client 0 with transport := bitsOf w 2 2 }
  let s := { s with gci := { s.gci with clients := tabSet clientDefault s.gci.clients 0 cl } }
  (List.range 4).foldl (fun (s : State) n => s.setF (MbOwner.transport n) (bitsOf w 2 2)) s

/-- STRAP_SAMPLE (R34, R35): three samples of the five straps, [1:0] BOOT_SRC, [2] HOST_SEL, [4:3] CASC_RANK; after ten attempts
that disagree the boot fails. -/
def execStrapSample (a b c : BitVec 5) (s : State) : Host.Outcome State Fault Refusal :=
  .next (if !s.crownUp || s.getF DeckBootStatus.stage != 1 || s.fw.straps then s
    else if a == b && b == c then s.strapsTake a.toNat
    else
      let s := { s with fw := { s.fw with strapTries := s.fw.strapTries + 1 } }
      if s.fw.strapTries ≥ 10 then (s.bootFail 0x01).crownHalt else s)

/-- CROWN_CLOCKS_STABLE (R36 step 7, R337): the fabric clock and the Strand counter start, and the self-tests with them. -/
def execCrownClocksStable (s : State) : Host.Outcome State Fault Refusal :=
  .next (if s.crownUp && s.fw.straps && s.getF DeckBootStatus.stage == 1 && !s.fabricOn then
      { s with fabricOn := true }.setF DeckBootStatus.stage 2
    else s)

/-- BOOT_BIST_DONE (R534): the worst bank had `rows` failing rows, of which two can be repaired; `logic` says that all else
passed. -/
def execBootBistDone (rows : Fin 4) (logic : Bool) (s : State) : Host.Outcome State Fault Refusal :=
  .next (if !s.crownUp || s.getF DeckBootStatus.stage != 2 || s.fw.bist then s
    else if rows.val ≤ 2 && logic then { s with fw := { s.fw with bist := true } }
    else (s.bootFail 0x02).crownHalt)

/-- Persistent slots are restored from their copies; one whose tag fails raises the key-store fault input (R419). -/
def State.slotsRestore (s : State) : State :=
  s.brim.keyStore.foldl (fun (s : State) (kv : Nat × KeyCopy) =>
    if kv.2.ok then s.setSlot kv.1 { kv.2.slot with installedAt := 0, erasedAt := 0 } else s.faultRise 7 kv.1) s

/-- The start-up tests passed: persistent slots are restored, and First-light follows, or for the recovery source the recovery
service, which boots nothing from flash (R444, R419, R35). -/
def State.hatboxPass (s : State) : State :=
  let s := ({ s with hbx := { s.hbx with testsOk := true } }).drbgSeed.slotsRestore.syncHbx
  if s.bootSrc == 3 then { s with fw := { s.fw with recovery := true, active := 1 } }.setF DeckBootStatus.stage 9
  else s.setF DeckBootStatus.stage 3

/-- HATBOX_SELFTEST_DONE (R444, R48): the start-up tests passed, or the Hatbox is locked and the boot halts. -/
def execHatboxSelftestDone (ok : Bool) (s : State) : Host.Outcome State Fault Refusal :=
  .next (if !s.crownUp || s.getF DeckBootStatus.stage != 2 || !s.fw.bist then s
    else if ok then s.hatboxPass
    else (s.hbxLock.bootFail 0x03).crownHalt)

/-! ### First-light (R40 to R45) -/

/-- A record of the first-light body (R44): Channel with mode, transceiver mode and timing words; route; direct-table entry. -/
inductive FlRec where
  | chan (k mode xcvr nominal data : Nat)
  | route (i e : Nat)
  | direct (k id r : Nat)
deriving DecidableEq, Repr

/-- The Channel that a CHANNEL record names. -/
def FlRec.channel : FlRec → Option Nat
  | .chan k _ _ _ _ => some (24 + k)
  | _ => none

/-- One record's payload; `none` where R44 gives the type no such record or a number lies outside its range. -/
def flRecord (typ : Nat) (p : List Byte) : Option FlRec :=
  match typ with
  | 1 =>
    let k := leAt p 0 1
    if p.length = 12 && k ≤ 63 && (k > 15 || leAt p 2 1 ≤ 3) then
      some (.chan k (leAt p 1 1) (leAt p 2 1) (leAt p 4 4) (leAt p 8 4)) else none
  | 2 => if p.length = 36 && rng 1 16383 (leAt p 0 2) then some (.route (leAt p 0 2) (leAt p 4 32)) else none
  | 3 =>
    if p.length = 8 && leAt p 0 1 ≤ 63 && leAt p 2 2 ≤ 0x7FF then some (.direct (leAt p 0 1) (leAt p 2 2) (leAt p 4 2)) else none
  | _ => none

/-- The records of a body up to END, behind which only the padding to a multiple of 8 may stand (log entry 39). -/
def flRecords : Nat → List Byte → Option (List FlRec)
  | 0, _ => none
  | n + 1, b =>
    let typ := leAt b 0 1
    let len := leAt b 2 2
    if b.length < 4 || leAt b 1 1 != 0 || len < 4 || len > b.length then none
    else if typ = 0 then
      (if len = 4 && b.length < 12 && (b.drop 4).all (fun x => x == 0) then some [] else none)
    else
      match flRecord typ (sliceB b 4 (len - 4)), flRecords n (b.drop len) with
      | some r, some rs => some (r :: rs)
      | _, _ => none

/-- What a first-light route may not name: a destination other than CAN Channels, an authentication profile, a program (R45). -/
def flRouteBad (e : Nat) : Bool :=
  rtLin e != 0 || rtRxq e || rtHost e || rtSge e || rtProgram e != 0 || rtBundle e != 0 || rtAuth e != 0 || rtDecks e != 0

/-- Do two entries of a list agree? -/
def hasDup (l : List Nat) : Bool := l.eraseDups.length != l.length

/-- R45: is the section rejected? A TYPE_A out of the range 1 to 512 of R43 that equals the number of ROUTE records is accepted: no
rule names the answer to it (DESIGN CHOICE, log entry 124). -/
def State.flRejected (s : State) (typeA : Nat) (rs : List FlRec) : Bool :=
  let routes := rs.filterMap (fun r => match r with | .route i e => some (i, e) | _ => none)
  let directs := rs.filterMap (fun r => match r with | .direct k id t => some (k, id, t) | _ => none)
  let chans := rs.filterMap (fun r => match r with | .chan k _ _ _ _ => some k | _ => none)
  let names := routes.map (fun (r : Nat × Nat) => r.1)
  routes.length != typeA || hasDup names || hasDup (directs.map (fun (d : Nat × Nat × Nat) => d.1 * 2048 + d.2.1)) ||
  routes.any (fun (r : Nat × Nat) => flRouteBad r.2 || (routeCans r.2).any s.lacksCan) ||
  directs.any (fun (d : Nat × Nat × Nat) => !names.contains d.2.2 || s.lacksCan d.1) ||
  chans.any s.lacksCan || (List.range 4).any (fun p => chans.contains (2 * p) != chans.contains (2 * p + 1))

/-- The tables of an accepted section are written (R45): the ROM writes RATE_EN as 0, and each ROUTE record into the Fallback set
as well. -/
def State.flWrite (s : State) (rs : List FlRec) : State :=
  rs.foldl (fun (s : State) (r : FlRec) => match r with
    | .chan k mode _ nom dat =>
      ((s.setPar (oChan (24 + k)) 0x0100 mode).setPar (oChan (24 + k)) 0x0101 nom).setPar (oChan (24 + k)) 0x0102 dat
    | .route i e => (s.setPar (oRoute i) pidEntry (setBit e 85 false)).setPar (oFallback i) pidEntry (setBit e 85 false)
    | .direct k id t => s.setPar (oDirect (24 + k) id) (pidRaw 0) t) s

/-- The Channels of an accepted section are enabled, except one whose record breaks the timing rules (R162) or names a mode it
lacks (R156), and one of a retained pair (R39). -/
def State.flEnable (s : State) (rs : List FlRec) : State :=
  rs.foldl (fun (s : State) (r : FlRec) => match r with
    | .chan k mode xcvr _ _ =>
      let bad := s.canTimingBad k || decide (mode > 2) || (mode == 2 && decide (k ≥ 16)) ||
        (decide (k < 8) && s.cwRetained (k / 2))
      if bad then s else s.chanEnable (24 + k) (if k < 16 then some xcvr else none)
    | _ => s) s

/-- The slots of an image type in the order of R41, those that `skip` names left out, as far as the flash answers. -/
def State.slotOrder (s : State) (t : Nat) (flashOk : Bool) (skip : Nat → Bool) : List Nat :=
  let a := s.firstSlot t
  if flashOk then [a, 1 - a].filter (fun k => !skip k) else []

/-- First-light is loaded (R40, R41, R45, R48). -/
def State.firstLight (s : State) (flashOk : Bool) : State :=
  let first := s.firstSlot itFirst
  let s := if flashOk then s else s.bootFail 0x04
  let good := (s.slotOrder itFirst flashOk (fun _ => false)).find? (fun k => s.verifyImage itFirst (s.slotImage itFirst k) == 0)
  match good with
  | none => s.bootFail 0x11
  | some k =>
    let img := s.slotImage itFirst k
    let body := imgBody img
    match flRecords (body.length + 1) body with
    | none => s.bootFail 0x11
    | some rs =>
      if s.flRejected (imgTypeA img) rs then s.bootFail 0x11
      else
        let s := if k == first then s else s.bootFail 0x10
        let s := ((s.flWrite rs).flEnable rs).noteRecords (rs.filterMap FlRec.channel)
        ((s.setF DeckBootStatus.flActive 1).setF DeckBootStatus.flSlot k).handoverStart

/-- FIRST_LIGHT_VERIFY (R36 steps 10 to 15): the ROM goes on with or without first-light. -/
def execFirstLightVerify (flashOk : Bool) (s : State) : Host.Outcome State Fault Refusal :=
  .next (if !s.crownUp || s.getF DeckBootStatus.stage != 3 then s
    else (s.firstLight flashOk).setF DeckBootStatus.stage 4)

/-! ### Firmware (R40, R41, R48, R49, R35) -/

/-- A verified firmware image stands in Milliner bank 0, from a flash slot or from the recovery service: the pairs are released, and the watchdog's BOOT runs (R36, R533). -/
def State.fwRelease (s : State) (fromSlot : Bool) : State :=
  let s := { s with fw := { s.fw with active := 0, loaded := none, verified := false, recovery := false, fromSlot := fromSlot } }
  let s := { s with hbx := { s.hbx with prodFw := s.rootProduction (imgKey s.fwHeader) } }.syncHbx
  (s.setF DeckBootStatus.stage 5).watchdogWindow true false

/-- No firmware: the recovery service runs on the transport of HOST_SEL (R48, R35). It loads into bank 0, so bank 1 stands as the
active one. -/
def State.recoveryStart (s : State) : State :=
  { s with fw := { s.fw with recovery := true, active := 1 } }.setF DeckBootStatus.stage 9

/-- Firmware is loaded from flash into bank 0: the first image of the order of R41 that verifies, or the recovery service. -/
def State.firmwareLoad (s : State) (flashOk : Bool) : State :=
  let first := s.firstSlot itFirmware
  let s := if flashOk then s else s.bootFail 0x04
  let order := s.slotOrder itFirmware flashOk (fun k => s.getF (attemptsField k) == 3)
  match order.find? (fun k => s.verifyImage itFirmware (s.slotImage itFirmware k) == 0) with
  | none => (s.bootFail 0x21).recoveryStart
  | some k =>
    let s := if k == first then s else s.bootFail 0x20
    ((s.bankWrite 0 0 (s.slotImage itFirmware k)).setF DeckBootStatus.fwSlot k).fwRelease true

/-- FIRMWARE_IMAGE_VERIFY (R36 steps 12 to 15, R41, R49): host-loaded boot waits for the recovery service. -/
def execFirmwareImageVerify (flashOk : Bool) (s : State) : Host.Outcome State Fault Refusal :=
  .next (if !s.crownUp || s.getF DeckBootStatus.stage != 4 then s
    else if s.bootSrc == 2 then s.recoveryStart
    else s.firmwareLoad flashOk)

/-- Firmware begins to serve (R36 step 16, R37). -/
def State.firmwareStart (s : State) : State :=
  let s := s.setF DeckBootStatus.stage (if s.bootSrc == 0 then 7 else 6)
  let s := if s.bootSrc == 1 && s.fw.fromSlot then s.setF (attemptsField (s.getF DeckBootStatus.fwSlot)) 0 else s
  let s := s.fw.reports.foldl (fun (s : State) c => s.payload 0x002 c) s
  let s := { s with fw := { s.fw with reports := [] }, fcu := { s.fcu with reported := true } }.syncFault.syncInh
  let s := { s with chanOn := tabSet (fun _ => false) (tabSet (fun _ => false) s.chanOn 20 true) 21 true,
                    pier := { s.pier with discoverAt := some (s.after (msC 200)) } }
  s.spansBegin.newCommitId

/-- FIRMWARE_READY (R36 step 16, R37): firmware runs. Boot failures are reported, FAULT_N may rise (R532), INH outputs follow
their roles (R370), the Pier ports start (R502), and the search for the cascade begins (R510). -/
def execFirmwareReady (s : State) : Host.Outcome State Fault Refusal :=
  .next (if !s.crownUp || s.getF DeckBootStatus.stage != 5 then s else s.firmwareStart)

/-! ### Causeway handover (R39) -/

/-- The Crown die has its pair. -/
def State.handover (s : State) (p : Nat) : State :=
  s.setRepeater p { s.repeater p with owns := false, handedOver := true, waitUntil := none }

/-- A handover is awaited: both Channels have a record, and the pair is not retained. -/
def State.handoverDue (s : State) (p : Nat) : Option Nat :=
  let r := s.repeater p
  if r.owns && !r.handedOver && !s.cwRetained p then r.waitUntil else none

/-- CAUSEWAY_HANDOVER (R39): both buses have shown 11 recessive bits with no repeated frame in progress. -/
def execCausewayHandover (p : Fin 4) (s : State) : Host.Outcome State Fault Refusal :=
  .next (if (s.handoverDue p).isSome then s.handover p else s)

/-- CAUSEWAY_HANDOVER_TIMEOUT (R39): the 10 ms mark. -/
def execCausewayHandoverTimeout (p : Fin 4) (s : State) : Host.Outcome State Fault Refusal :=
  .next (match s.handoverDue p with
    | none => s
    | some d => ((s.hbTo d).handover p).occur 0x003 p)

/-! ### The end of a firmware switchover (R52, R53) -/

/-- Firmware answers DECK.FW_SWITCH and serves again: STAGE 8 with a committed configuration, else 6; Span decisions that fell due
during the switchover are taken (R52). A mailbox released meanwhile (16) has no request to answer (R55). -/
def State.switchEnd (s : State) (mb seq status : Nat) : State :=
  let s := { s with fw := { s.fw with switching := none } }
  let s := (s.setF DeckBootStatus.stage (if s.gci.epoch ≥ 1 then 8 else 6)).watchdogPet
  let due := s.fw.spanDue
  let s := due.foldl (fun (s : State) d => s.spanTake d) { s with fw := { s.fw with spanDue := [] } }
  let s := (List.range 16).foldl (fun (s : State) i => s.spanUpdate i) s
  if mb ≥ 16 then s else s.mbRespond mb 0x0117 seq ⟨status, [], 0, 0⟩

/-- SWITCH_READY: the new firmware runs; the old bank stays intact, so a switch back needs no load. -/
def execSwitchReady (s : State) : Host.Outcome State Fault Refusal :=
  .next (match s.fw.switching with
    | none => s
    | some (mb, seq, old, _) =>
      let s := { s with fw := { s.fw with loaded := some (s.bankImage old).length, verified := true },
                        hbx := { s.hbx with prodFw := s.rootProduction (imgKey s.fwHeader) } }.syncHbx
      s.switchEnd mb seq stDone)

/-- SWITCH_READY_TIMEOUT: no readiness within 2 ms, so the old firmware resumes. -/
def execSwitchReadyTimeout (s : State) : Host.Outcome State Fault Refusal :=
  .next (match s.fw.switching with
    | none => s
    | some (mb, seq, old, d) =>
      let s := s.timeTo d
      { s with fw := { s.fw with active := old } }.switchEnd mb seq stSwitchFailed)

/-! ### PCIe (R463) -/

/-- HOST_LINK_UP (R463): the link trains at one of the rates and widths of the endpoint, Gen1 to Gen4 on 1, 2 or 4 lanes. -/
def execHostLinkUp (gen width : Fin 5) (s : State) : Host.Outcome State Fault Refusal :=
  .next (if gen.val = 0 || s.pcie.laneGated || !(width.val == 1 || width.val == 2 || width.val == 4) then s
    else
      let was := s.targetAsleep 3
      let s := { s with pcie := { s.pcie with linkUp := true } }
      ((s.setF TrStatus.hostGen gen).setF TrStatus.hostWidth width).hostTarget was)

/-- An address in a BAR register: the bits below the BAR's size read 0 (R25). -/
def barBase (size a : Nat) : Nat := a / size * size

/-- PCIE_CONFIG_WRITE (R463, R25): what the write leaves in MSI-X Enable, Function Mask, Bus Master Enable and the three BARs. -/
def execPcieConfigWrite (msixEnable funcMask busMaster : Bool) (bar0 bar2 bar4 : BitVec 64) (s : State) :
    Host.Outcome State Fault Refusal :=
  let was := s.targetAsleep 3
  let s := { s with pcie := { s.pcie with
    msixEnable := msixEnable, funcMask := funcMask, busMaster := busMaster,
    bars := (barBase 0x1000000 bar0.toNat, barBase 0x4000000 bar2.toNat, barBase 0x4000 bar4.toNat) } }
  .next (s.hostTarget was)

end Sys2Proof.Machine
end

