-- ==== Sys2Proof/Machine/Service.lean ====
section
/-! DEFINITION. Firmware's service of the mailboxes (R73), tickets that end (R78), the configuration image (R46, R100), the end of
DECK.RESET with scope CONFIG (R105, R557, R558), the recovery service (R35) and Hatpin replies (R12). -/

namespace Sys2Proof.Machine

/-! ### The configuration image (R46, R100) -/

/-- The chunks of a body: `n` of them, behind which only the padding to a multiple of 8 may stand (log entry 39). -/
def configChunks : Nat → List Byte → Option (List (Nat × List Byte))
  | 0, b => if b.length < 8 && b.all (fun x => x == 0) then some [] else none
  | n + 1, b =>
    let len := leAt b 4 4
    if b.length < 8 + len || b.length < 8 || leAt b 2 2 != 0 then none
    else
      match configChunks n (b.drop (8 + len)) with
      | some cs => some ((leAt b 0 2, sliceB b 8 len) :: cs)
      | none => none

/-- The context in which firmware applies a chunk: no client and no mailbox, with the image's own draft. -/
def State.chunkCtx (s : State) (code : Nat) (p : List Byte) : Ctx :=
  { cmd := code, mb := 16, client := 8, deck := s.ownDeck, flags := 0, txn := 0, payload := p, bulk := none }

/-- Steps 3, 6 and 8 of R92 for a chunk. -/
def State.chunkOk (s : State) (code : Nat) (p : List Byte) : Bool :=
  match cmdRow code with
  | none => false
  | some r =>
    let o := orefOf p
    (if r.exact then p.length == r.len else decide (r.len ≤ p.length)) &&
    (!r.oref || (o.formOk && o.deck == s.ownDeck && classAccepts code o && !(s.absentVariant && orefAbsent o)))

/-- The EVT commands that run after the commit (R100). -/
def chunkEvt (code : Nat) : Bool := code == 0x0D10 || code == 0x0D11 || code == 0x0D12

/-- Run a chunk's body; does it answer DONE? -/
def State.chunkRun (s : State) (code : Nat) (p : List Byte) : Bool × State :=
  let (r, s) := bodyOf code ⟨0, []⟩ (s.chunkCtx code p) s
  (r.status == stDone, s)

/-- One chunk before the commit (R100): a C command stages, SEC.KEY_INSTALL installs a wrapped key into an empty persistent slot,
and an EVT command waits. -/
def State.chunk (s : State) (code : Nat) (p : List Byte) : Bool × State :=
  if !s.chunkOk code p then (false, s)
  else if chunkEvt code then (true, s)
  else if code == 0x0C10 then
    if leAt p 15 1 != 1 || !bitOf (leAt p 14 1) 0 || (orefOf p).idx > 127 then (false, s)
    else if !(s.slot (orefOf p).idx).empty then (true, s)
    else s.chunkRun code p
  else if (cmdRow code).any (fun r => r.kind == .c) then s.chunkRun code p
  else (false, s)

/-- Chunks in order, up to the first that fails. -/
def State.chunks (s : State) (one : State → Nat → List Byte → Bool × State) (cs : List (Nat × List Byte)) : Bool × State :=
  cs.foldl (fun (a : Bool × State) (c : Nat × List Byte) => if a.1 then one a.2 c.1 c.2 else a) (true, s)

/-- A verified image is applied as one draft and committed as epoch 1, if every chunk succeeds (R46); the EVT chunks are tried
before the commit and run after it (log entry 40). -/
def State.imageApply (s : State) (img : List Byte) : Bool × State :=
  match configChunks (imgTypeA img) (imgBody img) with
  | none => (false, s)
  | some cs =>
    let d : Draft := { handle := 0, client := 8, lastUse := s.strand, bytes := 0, changes := [] }
    let (ok, s) := { s with gci := { s.gci with drafts := d :: s.gci.drafts } }.chunks State.chunk cs
    let changes := ((s.draft 8 0).map (fun d => finalChanges d.changes)).getD []
    let evts := cs.filter (fun c => chunkEvt c.1)
    let s := s.dropDraft 0
    if ok && (s.chunks State.chunkRun evts).1 && (s.validate changes).isNone then
      (true, ((s.switchEpoch changes 1).chunks State.chunkRun evts).2)
    else (false, s)

/-- The slots are tried in the order of R41; the slot whose image was applied. -/
def State.imageTry (s : State) : List Nat → Option Nat × State
  | [] => (none, s)
  | k :: ks =>
    let img := s.slotImage itConfig k
    if s.configVerify img != 0 then s.imageTry ks
    else
      let (ok, s) := s.imageApply img
      if ok then
        (some k, { s with fw := { s.fw with cfgVersion := imgVersion img, cfgRequires := imgRequires img } })
      else s.imageTry ks

/-- Firmware loads the configuration image: STAGE 8, or 6 without one (R47, R48). -/
def State.configLoad (s : State) (flashOk : Bool) : State :=
  let first := s.firstSlot itConfig
  let s := if flashOk then s else s.bootFail 0x04
  match s.imageTry (s.slotOrder itConfig flashOk (fun _ => false)) with
  | (none, s) => (s.bootFail 0x31).setF DeckBootStatus.stage 6
  | (some k, s) =>
    let s := if k == first then s else s.bootFail 0x30
    (s.setF DeckBootStatus.cfSlot k).setF DeckBootStatus.stage 8

/-- CONFIG_IMAGE_APPLY (R36 steps 17 to 19, R46). -/
def execConfigImageApply (flashOk : Bool) (s : State) : Host.Outcome State Fault Refusal :=
  .next (if !s.crownUp || s.getF DeckBootStatus.stage != 7 then s else s.configLoad flashOk)

/-! ### The end of DECK.RESET with scope CONFIG (R105, R31, R557, R558) -/

/-- No Channel that a reset forces is still in a frame: each has reached ENABLED 0 (R111, R558). -/
def State.lanesStill (s : State) : Bool :=
  (List.range 104).all (fun c => decide (20 ≤ c ∧ c < 24) || !s.chanEnabled c)

/-- CAN and LIN Channels return to their reset parameters; ring pointers, event bits and message memory stay (R558), and so do the
transceivers of a pair that the Causeway owns (R31: Brim state survives). -/
def State.lanesReset (s : State) : State :=
  let s := (List.range 64).foldl (fun (s : State) n =>
    let kept := decide (n < 8) && (s.repeater (n / 2)).owns
    let mode := s.getF (CanStatus.xcvrMode n)
    let s := s.setCan n {}
    let s := s.setReg (CanStatus.off n) (regDefault (CanStatus.off n))
    (if kept then s.setF (CanStatus.xcvrMode n) mode else s).setReg (CanErrStatus.off n) (regDefault (CanErrStatus.off n))) s
  (List.range 16).foldl (fun (s : State) n => (s.setLin n {}).setReg (LinStatus.off n) (regDefault (LinStatus.off n))) s

/-- Ports, and what else is still queued. -/
def State.portsReset (s : State) : State :=
  let s := (s.buf.queues.map (·.1)).foldl (fun (s : State) q => s.flushQueues [q]) s
  let s := (List.range 20).foldl (fun (s : State) p =>
    ((s.portDown p).setPort p {}).setReg (PortStatus.off p) (regDefault (PortStatus.off p))) s
  { s with buf := { s.buf with flushes := [] },
           egr := { s.egr with tags := [], gates := [], meters := [], rates := [], histAt := [] },
           chanOn := tabInsert (tabInsert [] 20 true) 21 true }.setF SwStatus.scanning 0

/-- The SGE loses its jobs, signals, timers and bundles; copies it holds are released. -/
def State.sgeReset (s : State) : State :=
  let held := (s.sge.ready.filter (fun j => j.pdu.isNone)).map (·.desc) ++
    s.sge.running.filterMap (fun kv => kv.2.bind (fun r => if r.job.pdu.isNone then some r.job.desc else none)) ++ s.sge.unbundle
  let s := held.foldl (fun (s : State) d => s.finishCopy d) s
  ({ s with sge := {} }.setReady []).setF SgeStatus.modeActive 0

/-- Event queues of clients lose their bindings and records, and the sources their client routes (R31). -/
def State.eventsReset (s : State) : State :=
  let keep := fun (kv : Nat × Word) => !(decide (0x21400 ≤ kv.1 ∧ kv.1 < 0x22000))
  { s with regs := s.regs.filter keep,
           evt := { s.evt with
             client := [], recs := s.evt.recs.filter (fun kv => kv.1 / 64 < 16), routes := s.evt.routes.filter (fun kv => kv.1 % 2 == 0),
             queues := s.evt.queues.filter (fun kv => kv.1 < 16) } }.syncIrq

/-- Spans return to AWAKE with SLEEP_EN 0, and WAKING of those that the reset has woken (R399) ends. -/
def State.spansReset (s : State) : State :=
  let s := ((List.range 16).filter (fun i => s.spanState i == spWaking)).foldl (fun (s : State) i => (s.spanUngate i).spanAwake i) s
  let s := (List.range 16).foldl (fun (s : State) i => s.lineCommand i 0) s
  let s := (List.range 16).foldl (fun (s : State) i => s.setReg (SpanState.off i) (regDefault (SpanState.off i))) s
  { s with spans := [], brim := { s.brim with armedSpans := [], decErr := [], latchedSpans := [] } }

/-- Every committed value returns to its reset value, as epoch 0; values in Brim non-volatile memory stay (R31), and
no section or configuration holds a CHANNEL record any more (R39). -/
def State.configReset (s : State) : State :=
  let ch := (s.cfg.filter (fun kv => !inNvm kv.1)).map (fun kv => (kv.1, cfgDefault kv.1))
  let s := s.switchEpoch ch 0
  { s with oldCfg := none, fwd := {}, gci := { s.gci with commits := [] },
           fw := { s.fw with cfgVersion := 0, cfgRequires := 0, chanRecords := [] } }.setF DeckBootStatus.flActive 0

/-- The end of the reset: everything is as after reset, first-light is loaded as epoch 0 and, in stand-alone boot, the configuration
image as epoch 1. -/
def State.resetConfigEnd (s : State) (flashOk : Bool) : State :=
  let s := s.sgeReset.portsReset.spansReset.lanesReset.configReset.eventsReset.spansBegin
  let s := { s with egr := { s.egr with tags := [], gates := [] }, gci := { s.gci with resetRunning := false } }
  let s := s.firstLight flashOk
  if s.bootSrc == 0 then (s.setF DeckBootStatus.stage 7).configLoad flashOk else s.setF DeckBootStatus.stage 6

/-! ### Tickets that end (R78) -/

/-- The end of a PENDING command, by its code; `x` says how the outside answered: 0 success, else what its command's own rule
names. Of FDB.FLUSH any other outcome is no end: firmware has visited the buckets below the number that its data hold (R229). Tickets
that end at rows of their own are left alone, and DECK.RESET waits for the frames in progress (R558). -/
def State.ticketEnd (s : State) (t : Ticket) (x : Ext) : State :=
  let ok := x.code.val == 0
  match t.cmd with
  | 0x0111 => if s.lanesStill then (s.resetConfigEnd ok).finishTicket t.client t.num stDone [] else s
  | 0x0115 => if ok then s.fwLoadEnd t else s.finishTicket t.client t.num stBulkFailed []
  | 0x0116 => s.fwVerifyEnd t
  | 0x0118 => s.fwProgramEnd t ok
  | 0x0119 => s.configProgramEnd t ok
  | 0x0712 => if ok then s.fdbFlushEnd t else s.fdbFlushTo t (min (leAt x.data 0 2) 4096)
  | 0x0C17 => s.lifecycleEnd t (x.code.val != 1) (x.code.val != 2)
  | 0x0C18 => s.selftestEnd t ok
  | 0x0E10 => s.attachEnd t.client t.num x
  | 0x0E11 => s.detachEnd t.client t.num
  | 0x0E16 => s.stageEnd t x
  | 0x1010 => if leAt t.payload 0 1 = 2 then s.diagReadEnd t else s
  | 0x1012 => s.tableDumpEnd t (!ok)
  | 0x1013 => s.loopbackEnd t x.data
  | _ => s

/-- TICKET_COMPLETE (R78). -/
def execTicketComplete (client : Fin 8) (num : Word) (x : Ext) (s : State) : Host.Outcome State Fault Refusal :=
  .next (match s.ticket client num.toNat with
    | none => s
    | some t => if t.result.isSome then s else s.ticketEnd t x)

/-- DRAFT_IDLE_EXPIRY (R94): 60 s without a use. -/
def execDraftIdleExpiry (handle : Word) (s : State) : Host.Outcome State Fault Refusal :=
  .next (match s.gci.drafts.find? (fun d => d.handle == handle.toNat) with
    | none => s
    | some d =>
      if s.gci.commits.any (fun p => p.handle == d.handle) then s
      else ((s.timeTo (strandPlus d.lastUse (secC 60))).dropDraft d.handle).occur (0x010 + d.client))

/-! ### Service slices (R73) -/

/-- The request in a mailbox's request area: its command code and the request (R59). -/
def State.mbRequest (s : State) (n : Nat) : Nat × Req :=
  let b := memReads s.bar0 (mbBase n + 0x400) 1024
  (leAt b 0 2, { mb := Fin.ofNat 16 n, seq := BitVec.ofNat 16 (leAt b 2 2), flags := BitVec.ofNat 8 (leAt b 4 1),
                 deck := BitVec.ofNat 8 (leAt b 5 1), len := BitVec.ofNat 16 (leAt b 6 2), txn := BitVec.ofNat 32 (leAt b 8 4),
                 rsv := BitVec.ofNat 32 (leAt b 12 4), payload := b.drop 16 })

/-- SERVICE_SLICE (R73, R74): firmware takes the next POSTED request and serves it; `x` is what the outside adds to the commands
that need it. -/
def execServiceSlice (x : Ext) (s : State) : Host.Outcome State Fault Refusal :=
  .next (if !s.fwServing then s
    else
      match s.nextServed with
      | none => s.visitEnd
      | some (c, n) =>
        let s := s.visit c
        (s.mbTake n).serveTaken (s.mbRequest n).1 (s.mbRequest n).2 (bodyOf (s.mbRequest n).1 x))

/-! ### The recovery service (R35, R48, R49, R409, R414) -/

/-- A firmware image stands whole in bank 0: it is verified, except in BLANK, and its firmware starts. -/
def State.recoveryRun (s : State) : Resp × State :=
  let st := if s.fuses.lifecycle = 0 then 0 else s.verifyImage itFirmware (s.bankImage 0)
  if st != 0 then { s with fw := { s.fw with loaded := none } }.answer st else (s.fwRelease false).answer stDone

/-- DECK.FW_LOAD in the recovery service: the image is taken and verified within the command (log entry 41). -/
def bodyRecoveryLoad : Body := fun c s =>
  match c.bulk with
  | none => s.answer stBadLength
  | some b =>
    if b.seg then
      let (r, s) := bodyFwLoad c s
      if r.status == stDone && s.fw.loaded.isSome then s.recoveryRun else (r, s)
    else if !b.ok [0] || b.len > imgMax itFirmware + 224 then s.answer stBadValue
    else
      match s.hostRead b.addr b.len with
      | (none, s) => s.answer stBulkFailed
      | (some d, s) =>
        let (st, s) := (s.bankWrite 0 0 d).fwLoaded d.length
        if st != stDone then s.answer st else s.recoveryRun

/-- What the recovery service answers: in DECOMMISSIONED only DECK.IDENTIFY and SEC.LIFECYCLE (R409); otherwise also the
commands that deliver firmware, and raw single-block jobs (R414). -/
def State.recoveryBody (s : State) (cmd : Nat) : Body :=
  if cmd == 0x0110 || cmd == 0x0C16 then bodyOf cmd ⟨0, []⟩
  else if s.fuses.lifecycle = 4 then bodyUnknown
  else
    match cmd with
    | 0x0115 => bodyRecoveryLoad
    | 0x011B => segExec (fun k => if k == 0x0115 then some bodyRecoveryLoad else none)
    | 0x0113 | 0x0114 | 0x011A | 0x011C | 0x0C14 => bodyOf cmd ⟨0, []⟩
    | _ => bodyUnknown

/-- RECOVERY_SERVICE_REQUEST (R35): a request in a mailbox while the boot ROM serves the recovery service (STAGE 9). -/
def execRecoveryServiceRequest (cmd : BitVec 16) (q : Req) (s : State) : Host.Outcome State Fault Refusal :=
  let n := q.mb.val
  let fresh := s.getF (MbStatus.state n) == mbIdle && q.seq.toNat != s.getF (MbSeq.lastPosted n)
  .next (if !s.mbClient n then s
    else
      let s := (s.mbWriteReq cmd.toNat q).mbDoorbell n (0x5A5A0000 + q.seq.toNat)
      if fresh && s.fw.recovery && s.crownUp then (s.mbTake n).serveTaken cmd.toNat q (s.recoveryBody cmd.toNat) else s)

/-! ### Hatpin replies (R12, R13) -/

/-- The access at the head of the Hatpin queue is replaced, or removed. -/
def State.hatpinHead (s : State) (a : Option HatpinAccess) : State :=
  { s with hatpin := { queue := (match a with | some a => [a] | none => []) ++ s.hatpin.queue.drop 1, fails := 0 } }

/-- Words of a write that have been written (R119). -/
def hatpinWritten (t : Ticket) (left : Nat) : List Byte := leBytes 1 (leAt t.payload 1 1 - left) ++ zeros 3

/-- The result of a command whose Hatpin access has ended. -/
def State.hatpinResult (s : State) (t : Ticket) (data : List Byte) : List Byte :=
  if t.cmd = 0x0213 then s.wakesPayload t.payload
  else if t.cmd = 0x1114 then s.faultsPayload t.payload
  else if t.cmd = 0x1011 then hatpinWritten t 0
  else diagHead (leAt t.payload 4 4) (leAt t.payload 1 1) ++ data

/-- A word of a Brim register takes its whole new value (R13). -/
def State.brimWrite (s : State) (a w : Nat) : State :=
  { s with brim := { s.brim with words := tabInsert s.brim.words a w }, out := .hatpin a w :: s.out }

/-- A word of a Brim register is read: the value written last, or a free value where DIAG.WRITE has written none (log entry 50). -/
def State.brimRead (s : State) (a : Nat) : Nat × State :=
  match tabFind s.brim.words a with
  | some w => (w, s)
  | none => (s.draw.1 % 2 ^ 32, s.draw.2)

/-- One word of the access at the head is done; the last one ends it. -/
def State.hatpinTicketWord (s : State) (a : HatpinAccess) : State :=
  match s.ticket a.client a.ticket with
  | none => s.hatpinHead none
  | some t =>
    let k := leAt t.payload 4 4 + (leAt t.payload 1 1 - a.left)
    let (data, s) :=
      if a.write then (a.data.drop 4, s.brimWrite k (leVal (a.data.take 4)))
      else if t.cmd = 0x1010 then
        let (v, s) := s.brimRead k
        (a.data ++ leBytes 4 v, s)
      else (a.data, s)
    if a.left ≤ 1 then (s.hatpinHead none).finishTicket a.client a.ticket stDone (s.hatpinResult t data)
    else s.hatpinHead (some { a with left := a.left - 1, data := data })

/-- The transfer of the access at the head has succeeded. -/
def State.hatpinWord (s : State) (a : HatpinAccess) : State :=
  match a.xcvr with
  | some (c, mode) =>
    if 24 ≤ c && c < 40 then (s.hatpinHead none).xcvrSent (c - 24) mode else (s.hatpinHead none).lineSent c mode
  | none => s.hatpinTicketWord a

/-- A transfer of the access at the head fails: it is retried, and the fourth failure ends the access (R12). -/
def State.hatpinFail (s : State) : State :=
  match s.hatpin.queue with
  | [] => s
  | a :: _ =>
    if s.hatpin.fails < 3 then { s with hatpin := { s.hatpin with fails := s.hatpin.fails + 1 } }
    else
      let pay := match s.ticket a.client a.ticket with
        | some t => if a.write then hatpinWritten t a.left else []
        | none => []
      ((s.hatpinHead none).finishTicket a.client a.ticket stAccessFailed pay).hatpinDown

/-- HATPIN_REPLY (R12). -/
def execHatpinReply (crcOk : Bool) (s : State) : Host.Outcome State Fault Refusal :=
  .next (match s.hatpin.queue with
    | [] => s
    | a :: _ => if crcOk then s.hatpinWord a else s.hatpinFail)

/-- HATPIN_REPLY_TIMEOUT (R12): 2 µs without a reply. -/
def execHatpinReplyTimeout (s : State) : Host.Outcome State Fault Refusal :=
  .next (if s.hatpin.queue.isEmpty then s else (s.pass (usC 2)).hatpinFail)

/-- DECK_RESET_ACK_TIMEOUT (R105): 1 ms after DONE of a FULL reset, the Crown die is reset without the ACK. -/
def execDeckResetAckTimeout (s : State) : Host.Outcome State Fault Refusal :=
  .next (match s.gci.fullReset with
    | none => s
    | some (_, d) => (s.timeTo d).crownReset DeckResetCause.command)

end Sys2Proof.Machine
end

