-- ==== Sys2Proof/Machine/Bar.lean ====
section
/-! DEFINITION. Host accesses to the BARs (R6 to R9, R27 to R30, R154, R472) and the frames of the SPI transport (R66 to R68). -/

namespace Sys2Proof.Machine

/-! ### BAR accesses -/

/-- What a read with a rule of its own returns to its requester. -/
def State.readOut (s : State) (a v : Nat) : State := { s with out := .readData a v :: s.out }

/-- REGISTER_WRITE (R6, R9, R27): `len` bytes at an offset of BAR0, or of BAR4. `fault` says how the write's target inside the
device answers (R476): 0 with success, 1 with an uncorrectable error, 2 not within 10 µs. -/
def execRegisterWrite (bar4 : Bool) (off : BitVec 24) (len : BitVec 13) (req : BitVec 16) (w : Word) (fault : Fin 3) (s : State) :
    Host.Outcome State Fault Refusal :=
  .next (s.hosted (if bar4 then s.hostWriteBar4 off.toNat len.toNat w.toNat
    else if fault.val ≠ 0 then s.writeFailed 0 off.toNat len.toNat req.toNat fault.val
    else s.hostWriteBar0 off.toNat len.toNat req.toNat w.toNat))

/-- BAR2_WRITE (R29), with the answer of its target as for REGISTER_WRITE (R476). -/
def execBar2Write (off : BitVec 26) (req : BitVec 16) (data : List Byte) (fault : Fin 3) (s : State) :
    Host.Outcome State Fault Refusal :=
  .next (s.hosted (if fault.val ≠ 0 then s.writeFailed 2 off.toNat data.length req.toNat fault.val
    else s.hostWriteBar2 off.toNat req.toNat data))

/-- INBOUND_READ_ABORT (R472): Completer Abort, reported through AER and not logged. -/
def execInboundReadAbort (bar2 : Bool) (off : BitVec 26) (s : State) : Host.Outcome State Fault Refusal :=
  .next (s.hosted { s with out := .completerAbort (2 * b2n bar2) off.toNat :: s.out })

/-- A read of a word that latches: the low word of a counter, or of the Strand counter, latches its high word, and a read of
the high word takes the latched value (R154, R338). -/
def State.latchRead (s : State) (a : Nat) : State :=
  if a = StrandLo.off then
    { s.readOut a (s.strand % 2 ^ 32) with ctrLatch := tabInsert s.ctrLatch StrandHi.off (s.strand / 2 ^ 32) }
  else if a = StrandHi.off then { s.readOut a (s.peek a) with ctrLatch := tabErase s.ctrLatch a }
  else match ctrAt a with
  | none => s
  | some (k, high) =>
    if high then { s.readOut a (s.peek a) with ctrLatch := tabErase s.ctrLatch a }
    else { s.readOut a (s.peek a) with ctrLatch := tabInsert s.ctrLatch (a + 4) (tabGet ctrDefault s.ctrs k / 2 ^ 32) }

/-- The fields of a register with access RC are cleared by a read (R6). -/
def fieldsRead (fs : List FieldDesc) (w : Nat) : Nat :=
  fs.foldl (fun v f => if f.acc == .rc then setBits v f.hi f.lo 0 else v) w

/-- A read of a register clears its RC fields; the claim registers claim (R6, R461). -/
def State.readEffect (s : State) (a : Nat) : State :=
  if a = TgtClaim.off 0 then (s.evqClaim 3).2
  else if a = TgtClaim.off 1 then (s.evqClaim 4).2
  else match regAt a with
  | none => s
  | some d => s.setReg a (BitVec.ofNat 32 (fieldsRead d.fields (s.reg a).toNat))

/-- A host read of BAR0 (R6, R27, R154): a naturally aligned word; any other access returns 0 and has no side effect, and so has a
block that the variant lacks (R3). -/
def State.hostReadBar0 (s : State) (a len : Nat) : State :=
  if len ≠ 4 ∨ a % 4 ≠ 0 ∨ (s.absentVariant ∧ absentBlock a) then s.readOut a 0
  else if a = StrandLo.off ∨ a = StrandHi.off ∨ (ctrAt a).isSome then s.latchRead a
  else (s.readEffect a).readOut a (s.peek a)

/-- The byte that BAR2 reads at an offset (R28): message memory, the signal pool's view of 16 bytes per signal, the recorder buffer and
the staging buffer; reserved ranges read 0. No read has a side effect (R29). -/
def State.bar2Byte (s : State) (a : Nat) : Byte :=
  if 0x1000000 ≤ a ∧ a < 0x1100000 then ((s.signal ((a - 0x1000000) / 16)).bytes).getD (a % 16) 0
  else if bar2Kind a = 0 then 0 else memRead s.bar2 a

/-- The byte that BAR4 reads at an offset (R30): the MSI-X table, and the Pending Bit Array at 0x2000; all else reads 0. -/
def State.bar4Byte (s : State) (a : Nat) : Byte :=
  if a < 0x400 then BitVec.ofNat 8 (s.msixEntry (a / 16) / 2 ^ (8 * (a % 16)))
  else if 0x2000 ≤ a ∧ a < 0x2008 then BitVec.ofNat 8 (s.evt.msixPba / 2 ^ (8 * (a - 0x2000)))
  else 0

/-- What a read of BAR2 (`bar` 1) or BAR4 (2) returns. -/
def State.bytesOut (s : State) (bar a len : Nat) : State :=
  let f := fun (k : Nat) => if bar = 1 then s.bar2Byte (a + k) else s.bar4Byte (a + k)
  { s with out := .readBytes (2 * bar) a ((List.range len).map f) :: s.out }

/-- COUNTER_LOW_READ (R154, R27 to R30): a host read of `len` bytes of BAR0 (`bar` 0), BAR2 (1) or BAR4 (2) that has no row of its
own. A read of a counter's low word latches its high word, and a read of a high word uses the latch up. -/
def execCounterLowRead (bar : Fin 3) (off : BitVec 26) (len : BitVec 13) (s : State) : Host.Outcome State Fault Refusal :=
  .next (s.hosted (if bar.val = 0 then s.hostReadBar0 (off.toNat % 2 ^ 24) len.toNat else s.bytesOut bar.val off.toNat len.toNat))

/-- STRAND_LO_READ (R338). -/
def execStrandLoRead (s : State) : Host.Outcome State Fault Refusal := .next (s.hosted (s.latchRead StrandLo.off))

/-- SGE_READY_READ (R310): PEAK is RC. -/
def execSgeReadyRead (s : State) : Host.Outcome State Fault Refusal :=
  .next (s.hosted ((s.readOut SgeReady.off (s.reg SgeReady.off).toNat).setF SgeReady.peak 0))

/-- HR_DROPS_READ (R485). -/
def execHrDropsRead (r : Fin 64) (s : State) : Host.Outcome State Fault Refusal :=
  .next (s.hosted ((s.readOut (HrDrops.off r) (s.reg (HrDrops.off r)).toNat).setF (HrDrops.drops r) 0))

/-- EVQ_DROPS_READ (R470). -/
def execEvqDropsRead (q : Fin 64) (s : State) : Host.Outcome State Fault Refusal :=
  .next (s.hosted ((s.readOut (EvqDrops.off q) (s.reg (EvqDrops.off q)).toNat).setF (EvqDrops.payloadDrops q) 0))

/-! ### Mailbox registers (R55, R56, R64) -/

/-- MB_DOORBELL, through the SPI transport where `spi`: a write through another transport than the mailbox's own is ignored. -/
def execMbDoorbell (n : Fin 16) (spi : Bool) (w : Word) (s : State) : Host.Outcome State Fault Refusal :=
  .next (s.hosted (if s.mbReached n (b2n spi) then s.mbDoorbell n w.toNat else s))

/-- ACK. -/
def execAck (n : Fin 16) (spi : Bool) (s : State) : Host.Outcome State Fault Refusal :=
  .next (s.hosted (if s.mbReached n (b2n spi) then s.ackWrite n else s))

/-- CANCEL. -/
def execCancel (n : Fin 16) (spi : Bool) (s : State) : Host.Outcome State Fault Refusal :=
  .next (s.hosted (if s.mbReached n (b2n spi) then s.mbCancel n else s))

/-! ### SPI (R66 to R68) -/

/-- Mailbox, offset in its block, words, and whether the address bytes are well formed. Byte 1 with bits [7:6] set lies beyond the
block of a mailbox, so such a frame draws 0xC2; R67 names no status for it (DESIGN CHOICE, log entry 128). -/
def spiHead (f : List Byte) : Nat × Nat × Nat × Bool :=
  let a := leAt f 1 1 * 256 + leAt f 2 1
  (bitsOf a 13 12, bitsOf a 11 0, leAt f 3 1 + 1, bitsOf a 15 14 == 0 && a % 4 == 0)

/-- May SPI write the word at a mailbox offset: not the response area, and no register without host write access (R54, R67)? -/
def spiWritable (off : Nat) : Bool := !(decide (0x800 ≤ off ∧ off < 0xC00) || off == 0x00C || off == 0x010)

/-- The status byte of a write or read frame (R67). Which status a frame with several faults draws the spec leaves open: the checks
stand in the order of the codes, CRC (0xC1), address and length (0xC2), mailbox (0xC3) (DESIGN CHOICE, log entry 75). Bits [7:6]
of byte 1 count as an address beyond the block, 0xC2 (DESIGN CHOICE, log entry 128). -/
def State.spiStatus (s : State) (f : List Byte) (crcAt : Nat) (write : Bool) : Nat :=
  let (n, off, k, ok) := spiHead f
  if leAt f crcAt 1 != crcSpi (f.take crcAt) then 0xC1
  else if !ok || 0x1000 < off + 4 * k || (write && (List.range k).any (fun i => !spiWritable (off + 4 * i))) then 0xC2
  else if !s.mbReached n 1 then 0xC3
  else 0xA0

/-- The words of an accepted write frame, in order. -/
def State.spiWords (s : State) (n off : Nat) : List Byte → Nat → State
  | _, 0 => s
  | d, k + 1 => (s.mbWord n 1 off (leVal (d.take 4))).spiWords n (off + 4) (d.drop 4) k

/-- The effect of a write frame whose CRC byte has arrived. -/
def State.spiApply (s : State) (f : List Byte) : State :=
  let (n, off, k, _) := spiHead f
  if s.spiStatus f (4 + 4 * k) true = 0xA0 then s.spiWords n off (f.drop 4) k else s

def ffs (n : Nat) : List Byte := List.replicate n 0xFF

/-- The bytes on MISO, as one record. -/
def State.misoOut (s : State) (d : List Byte) : State := { s with out := .miso d :: s.out }

/-- SPI_WRITE_FRAME (R66, R67): `frame` is what the host drives, up to the CRC byte; one cut short is R68's. An opcode that is no
frame's answers 0xC4, driven after all the bytes that the host clocks, since R66 lays out no such frame (DESIGN CHOICE, log entry
75). -/
def execSpiWriteFrame (frame : List Byte) (s : State) : Host.Outcome State Fault Refusal :=
  let k := (spiHead frame).2.2.1
  .next (s.hosted (if leAt frame 0 1 != 0x32 then s.misoOut (ffs frame.length ++ [0xC4])
    else if frame.length < 5 + 4 * k then s.misoOut (ffs frame.length)
    else
      let st := s.spiStatus frame (4 + 4 * k) true
      (s.spiApply frame).misoOut (ffs (5 + 4 * k) ++ leBytes 1 st)))

/-- SPI_READ_FRAME (R66, R67): the turnaround byte, the status, the words if it is 0xA0, and the CRC from the status on. -/
def execSpiReadFrame (frame : List Byte) (s : State) : Host.Outcome State Fault Refusal :=
  let (n, off, k, _) := spiHead frame
  .next (s.hosted (if leAt frame 0 1 != 0x3B then s.misoOut (ffs frame.length ++ [0xC4])
    else if frame.length < 5 then s.misoOut (ffs frame.length)
    else
      let st := s.spiStatus frame 4 false
      let d := leBytes 1 st ++
        (if st = 0xA0 then (List.range k).flatMap (fun i => leBytes 4 (s.peek (mbBase n + off + 4 * i))) else [])
      s.misoOut (ffs 6 ++ d ++ leBytes 1 (crcSpi d))))

/-- SPI_RELEASE_FRAME (R68): the SPI client is lost (R80). -/
def execSpiReleaseFrame (s : State) : Host.Outcome State Fault Refusal :=
  .next (s.hosted (((List.range 8).filter (fun c => (s.client c).transport == 1)).foldl (fun (s : State) c => s.clientLost c)
    (s.misoOut (ffs 2))))

/-- SPI_CS_EARLY_RISE (R68): `frame` is what the host has clocked out. A write whose CRC byte has arrived is applied; anything else
changes nothing. -/
def execSpiCsEarlyRise (frame : List Byte) (s : State) : Host.Outcome State Fault Refusal :=
  let k := (spiHead frame).2.2.1
  .next (s.hosted (if leAt frame 0 1 == 0x32 && decide (5 + 4 * k ≤ frame.length) then s.spiApply frame else s))

end Sys2Proof.Machine
end

