-- ==== Sys2Proof/Machine/Dispatch.lean ====
section
/-! DEFINITION. The dispatch: every command of the table calls its meaning. -/

namespace Sys2Proof.Machine

/-- A command's effect on everything but the queue. -/
def exec (i : Instr) (s : State) : Host.Outcome State Fault Refusal :=
  match i with
  | .verbGet cls q => Sys2Proof.Machine.execGet cls q s
  | .verbSet cls q => Sys2Proof.Machine.execSet cls q s
  | .verbList cls q => Sys2Proof.Machine.execList cls q s
  | .verbStats cls q => Sys2Proof.Machine.execStats cls q s
  | .clearStats cls q => Sys2Proof.Machine.execClearStats cls q s
  | .deckIdentify q => Sys2Proof.Machine.execDeckIdentify q s
  | .deckReset q => Sys2Proof.Machine.execDeckReset q s
  | .deckClientSet q => Sys2Proof.Machine.execDeckClientSet q s
  | .deckTicketStatus q => Sys2Proof.Machine.execDeckTicketStatus q s
  | .deckTicketAbort q => Sys2Proof.Machine.execDeckTicketAbort q s
  | .deckFwLoad q => Sys2Proof.Machine.execDeckFwLoad q s
  | .deckFwVerify q => Sys2Proof.Machine.execDeckFwVerify q s
  | .deckFwSwitch q => Sys2Proof.Machine.execDeckFwSwitch q s
  | .deckFwProgram q => Sys2Proof.Machine.execDeckFwProgram q s
  | .deckConfigProgram q => Sys2Proof.Machine.execDeckConfigProgram q s
  | .deckSegWrite q => Sys2Proof.Machine.execDeckSegWrite q s
  | .deckSegExec q => Sys2Proof.Machine.execDeckSegExec q s
  | .deckSegRead q => Sys2Proof.Machine.execDeckSegRead q s
  | .spanSleepReq q => Sys2Proof.Machine.execSpanSleepReq q s
  | .spanWakeReq q => Sys2Proof.Machine.execSpanWakeReq q s
  | .spanState q => Sys2Proof.Machine.execSpanState q s
  | .spanWakeSources q => Sys2Proof.Machine.execSpanWakeSources q s
  | .spanStayAwakeLog q => Sys2Proof.Machine.execSpanStayAwakeLog q s
  | .spanMemberSet q => Sys2Proof.Machine.execSpanMemberSet q s
  | .chanEnable q => Sys2Proof.Machine.execChanEnable q s
  | .chanDisable q => Sys2Proof.Machine.execChanDisable q s
  | .chanLinkState q => Sys2Proof.Machine.execChanLinkState q s
  | .chanXcvrMode fails q => Sys2Proof.Machine.execChanXcvrMode fails q s
  | .ethWakePatternSet q => Sys2Proof.Machine.execEthWakePatternSet q s
  | .ethPauseStormClear q => Sys2Proof.Machine.execEthPauseStormClear q s
  | .ethMdioRead q => Sys2Proof.Machine.execEthMdioRead q s
  | .ethMdioWrite q => Sys2Proof.Machine.execEthMdioWrite q s
  | .canBusOffRecover q => Sys2Proof.Machine.execCanBusOffRecover q s
  | .canRestrictedSet q => Sys2Proof.Machine.execCanRestrictedSet q s
  | .canTxFrame q => Sys2Proof.Machine.execCanTxFrame q s
  | .canTxAtTime q => Sys2Proof.Machine.execCanTxAtTime q s
  | .canSwakeSet q => Sys2Proof.Machine.execCanSwakeSet q s
  | .canErrorState q => Sys2Proof.Machine.execCanErrorState q s
  | .linScheduleSet q => Sys2Proof.Machine.execLinScheduleSet q s
  | .linScheduleSelect q => Sys2Proof.Machine.execLinScheduleSelect q s
  | .linGotoSleep q => Sys2Proof.Machine.execLinGotoSleep q s
  | .linWakeupSend q => Sys2Proof.Machine.execLinWakeupSend q s
  | .linResponseSet q => Sys2Proof.Machine.execLinResponseSet q s
  | .fdbAddStatic q => Sys2Proof.Machine.execFdbAddStatic q s
  | .fdbDelete q => Sys2Proof.Machine.execFdbDelete q s
  | .fdbFlush q => Sys2Proof.Machine.execFdbFlush q s
  | .fdbLookup q => Sys2Proof.Machine.execFdbLookup q s
  | .fdbAgeingSet q => Sys2Proof.Machine.execFdbAgeingSet q s
  | .fdbLearnSet q => Sys2Proof.Machine.execFdbLearnSet q s
  | .routeDraftOpen q => Sys2Proof.Machine.execRouteDraftOpen q s
  | .routeCommit q => Sys2Proof.Machine.execRouteCommit q s
  | .routeDraftDiscard q => Sys2Proof.Machine.execRouteDraftDiscard q s
  | .routeDraftStatus q => Sys2Proof.Machine.execRouteDraftStatus q s
  | .routeEpoch q => Sys2Proof.Machine.execRouteEpoch q s
  | .routeDirectSet q => Sys2Proof.Machine.execRouteDirectSet q s
  | .routeHashSet q => Sys2Proof.Machine.execRouteHashSet q s
  | .routeFallbackSet q => Sys2Proof.Machine.execRouteFallbackSet q s
  | .sigProgramLoad q => Sys2Proof.Machine.execSigProgramLoad q s
  | .sigPduSet q => Sys2Proof.Machine.execSigPduSet q s
  | .sigSignalSet q => Sys2Proof.Machine.execSigSignalSet q s
  | .sigSignalRead q => Sys2Proof.Machine.execSigSignalRead q s
  | .sigSignalInject q => Sys2Proof.Machine.execSigSignalInject q s
  | .sigAdmission q => Sys2Proof.Machine.execSigAdmission q s
  | .qosGateListSet q => Sys2Proof.Machine.execQosGateListSet q s
  | .qosGateState q => Sys2Proof.Machine.execQosGateState q s
  | .qosShaperSet q => Sys2Proof.Machine.execQosShaperSet q s
  | .qosMeterSet q => Sys2Proof.Machine.execQosMeterSet q s
  | .qosAdmissionSet q => Sys2Proof.Machine.execQosAdmissionSet q s
  | .qosHistogramSet q => Sys2Proof.Machine.execQosHistogramSet q s
  | .qosHistogramRead q => Sys2Proof.Machine.execQosHistogramRead q s
  | .timeDomainSet q => Sys2Proof.Machine.execTimeDomainSet q s
  | .timeStatus q => Sys2Proof.Machine.execTimeStatus q s
  | .timeWorkingSelect q => Sys2Proof.Machine.execTimeWorkingSelect q s
  | .timeOutputSet q => Sys2Proof.Machine.execTimeOutputSet q s
  | .timeCaptureRead q => Sys2Proof.Machine.execTimeCaptureRead q s
  | .secKeyInstall fails q => Sys2Proof.Machine.execSecKeyInstall fails q s
  | .secKeyErase fails q => Sys2Proof.Machine.execSecKeyErase fails q s
  | .secSaInstall q => Sys2Proof.Machine.execSecSaInstall q s
  | .secSaRetire q => Sys2Proof.Machine.execSecSaRetire q s
  | .secJobSubmit q => Sys2Proof.Machine.execSecJobSubmit q s
  | .secJobAbort q => Sys2Proof.Machine.execSecJobAbort q s
  | .secLifecycle q => Sys2Proof.Machine.execSecLifecycle q s
  | .secLifecycleAdvance key q => Sys2Proof.Machine.execSecLifecycleAdvance key q s
  | .secSelftest q => Sys2Proof.Machine.execSecSelftest q s
  | .secZeroise q => Sys2Proof.Machine.execSecZeroise q s
  | .secDebugUnlock phase1 q => Sys2Proof.Machine.execSecDebugUnlock phase1 q s
  | .secFreshnessSet q => Sys2Proof.Machine.execSecFreshnessSet q s
  | .evtBind q => Sys2Proof.Machine.execEvtBind q s
  | .evtCoalesceSet q => Sys2Proof.Machine.execEvtCoalesceSet q s
  | .evtSourceEnable q => Sys2Proof.Machine.execEvtSourceEnable q s
  | .evtQueueState q => Sys2Proof.Machine.execEvtQueueState q s
  | .evtInject q => Sys2Proof.Machine.execEvtInject q s
  | .storeAttach q => Sys2Proof.Machine.execStoreAttach q s
  | .storeDetach q => Sys2Proof.Machine.execStoreDetach q s
  | .storeRecorderStart q => Sys2Proof.Machine.execStoreRecorderStart q s
  | .storeRecorderStop q => Sys2Proof.Machine.execStoreRecorderStop q s
  | .storeRead q => Sys2Proof.Machine.execStoreRead q s
  | .storeWrite q => Sys2Proof.Machine.execStoreWrite q s
  | .storeStageImage q => Sys2Proof.Machine.execStoreStageImage q s
  | .storeHealth q => Sys2Proof.Machine.execStoreHealth q s
  | .cascTopology q => Sys2Proof.Machine.execCascTopology q s
  | .cascStandbyLinkSet q => Sys2Proof.Machine.execCascStandbyLinkSet q s
  | .cascHeal q => Sys2Proof.Machine.execCascHeal q s
  | .cascSplitLog q => Sys2Proof.Machine.execCascSplitLog q s
  | .diagRead q => Sys2Proof.Machine.execDiagRead q s
  | .diagWrite q => Sys2Proof.Machine.execDiagWrite q s
  | .diagTableDump q => Sys2Proof.Machine.execDiagTableDump q s
  | .diagLoopback q => Sys2Proof.Machine.execDiagLoopback q s
  | .diagMirrorSet q => Sys2Proof.Machine.execDiagMirrorSet q s
  | .diagAuditStatus q => Sys2Proof.Machine.execDiagAuditStatus q s
  | .faultStatus q => Sys2Proof.Machine.execFaultStatus q s
  | .faultClear q => Sys2Proof.Machine.execFaultClear q s
  | .faultReactionSet q => Sys2Proof.Machine.execFaultReactionSet q s
  | .faultInject q => Sys2Proof.Machine.execFaultInject q s
  | .faultLogRead q => Sys2Proof.Machine.execFaultLogRead q s
  | .faultWatchdogSet q => Sys2Proof.Machine.execFaultWatchdogSet q s
  | .registerWrite bar4 off len req w fault => Sys2Proof.Machine.execRegisterWrite bar4 off len req w fault s
  | .bar2Write off req data fault => Sys2Proof.Machine.execBar2Write off req data fault s
  | .inboundReadAbort bar2 off => Sys2Proof.Machine.execInboundReadAbort bar2 off s
  | .counterLowRead bar off len => Sys2Proof.Machine.execCounterLowRead bar off len s
  | .strandLoRead => Sys2Proof.Machine.execStrandLoRead s
  | .qPeakRead q => Sys2Proof.Machine.execQPeakRead q s
  | .sgeReadyRead => Sys2Proof.Machine.execSgeReadyRead s
  | .thermPeakRead => Sys2Proof.Machine.execThermPeakRead s
  | .hrDropsRead r => Sys2Proof.Machine.execHrDropsRead r s
  | .evqDropsRead q => Sys2Proof.Machine.execEvqDropsRead q s
  | .mbDoorbell n spi w => Sys2Proof.Machine.execMbDoorbell n spi w s
  | .mbAck n spi => Sys2Proof.Machine.execAck n spi s
  | .mbCancel n spi => Sys2Proof.Machine.execCancel n spi s
  | .serviceSlice x => Sys2Proof.Machine.execServiceSlice x s
  | .ticketComplete client num x => Sys2Proof.Machine.execTicketComplete client num x s
  | .draftIdleExpiry handle => Sys2Proof.Machine.execDraftIdleExpiry handle s
  | .spiWriteFrame frame => Sys2Proof.Machine.execSpiWriteFrame frame s
  | .spiReadFrame frame => Sys2Proof.Machine.execSpiReadFrame frame s
  | .spiReleaseFrame => Sys2Proof.Machine.execSpiReleaseFrame s
  | .spiCsEarlyRise frame => Sys2Proof.Machine.execSpiCsEarlyRise frame s
  | .epochSwitch => Sys2Proof.Machine.execEpochSwitch s
  | .oldEpochRelease => Sys2Proof.Machine.execOldEpochRelease s
  | .deckResetAckTimeout => Sys2Proof.Machine.execDeckResetAckTimeout s
  | .vbatPowerOnReset => Sys2Proof.Machine.execVbatPowerOnReset s
  | .brimResetRelease => Sys2Proof.Machine.execBrimResetRelease s
  | .brimNvmLoaded => Sys2Proof.Machine.execBrimNvmLoaded s
  | .crownSupplyFault => Sys2Proof.Machine.execCrownSupplyFault s
  | .boardReset => Sys2Proof.Machine.execBoardReset s
  | .pcieReset => Sys2Proof.Machine.execPcieReset s
  | .vcc5Loss => Sys2Proof.Machine.execVcc5Loss s
  | .suppliesGood => Sys2Proof.Machine.execSuppliesGood s
  | .strapSample a b c => Sys2Proof.Machine.execStrapSample a b c s
  | .crownClocksStable => Sys2Proof.Machine.execCrownClocksStable s
  | .bootBistDone rows logic => Sys2Proof.Machine.execBootBistDone rows logic s
  | .hatboxSelftestDone ok => Sys2Proof.Machine.execHatboxSelftestDone ok s
  | .firstLightVerify flashOk => Sys2Proof.Machine.execFirstLightVerify flashOk s
  | .firmwareImageVerify flashOk => Sys2Proof.Machine.execFirmwareImageVerify flashOk s
  | .firmwareReady => Sys2Proof.Machine.execFirmwareReady s
  | .configImageApply flashOk => Sys2Proof.Machine.execConfigImageApply flashOk s
  | .causewayHandover p => Sys2Proof.Machine.execCausewayHandover p s
  | .causewayHandoverTimeout p => Sys2Proof.Machine.execCausewayHandoverTimeout p s
  | .switchReady => Sys2Proof.Machine.execSwitchReady s
  | .switchReadyTimeout => Sys2Proof.Machine.execSwitchReadyTimeout s
  | .hatpinReply crcOk => Sys2Proof.Machine.execHatpinReply crcOk s
  | .hatpinReplyTimeout => Sys2Proof.Machine.execHatpinReplyTimeout s
  | .ethFrameReceive p frame codeErr fragErr express lpi => Sys2Proof.Machine.execEthFrameReceive p frame codeErr fragErr express lpi s
  | .linkDown p fault => Sys2Proof.Machine.execLinkDown p fault s
  | .linkUpConditions p speed half => Sys2Proof.Machine.execLinkUpConditions p speed half s
  | .linkHoldExpiry p => Sys2Proof.Machine.execLinkHoldExpiry p s
  | .pauseTimerExpiry p c => Sys2Proof.Machine.execPauseTimerExpiry p c s
  | .pauseRefresh p => Sys2Proof.Machine.execPauseRefresh p s
  | .pauseWatchdogExpiry p c => Sys2Proof.Machine.execPauseWatchdogExpiry p c s
  | .stormHoldExpiry p c => Sys2Proof.Machine.execStormHoldExpiry p c s
  | .plcaFallback k => Sys2Proof.Machine.execPlcaFallback k s
  | .collision k late logical => Sys2Proof.Machine.execCollision k late logical s
  | .backoffExpiry k => Sys2Proof.Machine.execBackoffExpiry k s
  | .verifyTimeExpiry p => Sys2Proof.Machine.execVerifyTimeExpiry p s
  | .verifyRespondReceive p => Sys2Proof.Machine.execVerifyRespondReceive p s
  | .wakePatternMatch p frame => Sys2Proof.Machine.execWakePatternMatch p frame s
  | .mdioAccessDone m data => Sys2Proof.Machine.execMdioAccessDone m data s
  | .egressSelect p turn => Sys2Proof.Machine.execEgressSelect p turn s
  | .frameTransmitComplete p => Sys2Proof.Machine.execFrameTransmitComplete p s
  | .tsqTailWrite p w => Sys2Proof.Machine.execTsqTailWrite p w s
  | .ethDrainTimeout p => Sys2Proof.Machine.execEthDrainTimeout p s
  | .canFrameReceive n f age u => Sys2Proof.Machine.execCanFrameReceive n f age u s
  | .classSchedulerFeed n upset => Sys2Proof.Machine.execClassSchedulerFeed n upset s
  | .canAttemptStart n => Sys2Proof.Machine.execCanAttemptStart n s
  | .canAttemptEnd n outcome dataPhase quiet => Sys2Proof.Machine.execCanAttemptEnd n outcome dataPhase quiet s
  | .recoverDelayExpiry n => Sys2Proof.Machine.execRecoverDelayExpiry n s
  | .recoveryCountDone n => Sys2Proof.Machine.execRecoveryCountDone n s
  | .atTimeRelease n => Sys2Proof.Machine.execAtTimeRelease n s
  | .atTimeLate n => Sys2Proof.Machine.execAtTimeLate n s
  | .xcvrModeApply n => Sys2Proof.Machine.execXcvrModeApply n s
  | .xcvrModeReached n => Sys2Proof.Machine.execXcvrModeReached n s
  | .txdDominantTimeout n => Sys2Proof.Machine.execTxdDominantTimeout n s
  | .hostTxRecordTake n => Sys2Proof.Machine.execHostTxRecordTake n s
  | .rxqTailWrite n w => Sys2Proof.Machine.execRxqTailWrite n w s
  | .txqHeadWrite n w => Sys2Proof.Machine.execTxqHeadWrite n w s
  | .txcTailWrite n w => Sys2Proof.Machine.execTxcTailWrite n w s
  | .canDrainDone n => Sys2Proof.Machine.execCanDrainDone n s
  | .canDrainTimeout n => Sys2Proof.Machine.execCanDrainTimeout n s
  | .linSlotBoundary n upset => Sys2Proof.Machine.execLinSlotBoundary n upset s
  | .linHeaderReceive n id err age upset => Sys2Proof.Machine.execLinHeaderReceive n id err age upset s
  | .linResponseReceive n data kind u => Sys2Proof.Machine.execLinResponseReceive n data kind u s
  | .linResponseTimeout n => Sys2Proof.Machine.execLinResponseTimeout n s
  | .linBusIdleTimeout n => Sys2Proof.Machine.execLinBusIdleTimeout n s
  | .wakeupPulseEnd n => Sys2Proof.Machine.execWakeupPulseEnd n s
  | .linScheduleRestart n => Sys2Proof.Machine.execLinScheduleRestart n s
  | .linTxdTimeout n => Sys2Proof.Machine.execLinTxdTimeout n s
  | .linDrainTimeout n => Sys2Proof.Machine.execLinDrainTimeout n s
  | .publishBufferWrite n upset => Sys2Proof.Machine.execPublishBufferWrite n upset s
  | .learnRecordProcess => Sys2Proof.Machine.execLearnRecordProcess s
  | .ageingVisit => Sys2Proof.Machine.execAgeingVisit s
  | .linkDownFdbRemoval p => Sys2Proof.Machine.execLinkDownFdbRemoval p s
  | .frerResetTimeout f => Sys2Proof.Machine.execFrerResetTimeout f s
  | .tableEccRepair => Sys2Proof.Machine.execTableEccRepair s
  | .twinDecision u => Sys2Proof.Machine.execTwinDecision u s
  | .shadowIntervalEnd => Sys2Proof.Machine.execShadowIntervalEnd s
  | .cellWrite link => Sys2Proof.Machine.execCellWrite link s
  | .cellRead upset => Sys2Proof.Machine.execCellRead upset s
  | .flushScanEnd => Sys2Proof.Machine.execFlushScanEnd s
  | .queueDrainDone q => Sys2Proof.Machine.execQueueDrainDone q s
  | .queueDrainTimeout q => Sys2Proof.Machine.execQueueDrainTimeout q s
  | .auditVisit c => Sys2Proof.Machine.execAuditVisit c s
  | .auditPassEnd upset => Sys2Proof.Machine.execAuditPassEnd upset s
  | .sgeFeederMove fault => Sys2Proof.Machine.execSgeFeederMove fault s
  | .sgeDispatch e => Sys2Proof.Machine.execSgeDispatch e s
  | .sgeEntry e fault => Sys2Proof.Machine.execEntry e fault s
  | .sgeUnpack e fault => Sys2Proof.Machine.execUnpack e fault s
  | .sgePack e fault => Sys2Proof.Machine.execPack e fault s
  | .sgeCheck e fault => Sys2Proof.Machine.execCheck e fault s
  | .sgeMatch e fault => Sys2Proof.Machine.execMatch e fault s
  | .sgeJump e fault => Sys2Proof.Machine.execJump e fault s
  | .sgePackk e fault => Sys2Proof.Machine.execPackk e fault s
  | .sgeTrig e fault => Sys2Proof.Machine.execTrig e fault s
  | .sgeEnd e fault => Sys2Proof.Machine.execEnd e fault s
  | .signalTimeoutScan => Sys2Proof.Machine.execSignalTimeoutScan s
  | .pduTimerRelease t => Sys2Proof.Machine.execPduTimerRelease t s
  | .minGapEnd p => Sys2Proof.Machine.execMinGapEnd p s
  | .bundlerTakeMessage upset => Sys2Proof.Machine.execBundlerTakeMessage upset s
  | .bundleWindowClose b => Sys2Proof.Machine.execBundleWindowClose b s
  | .unbundleFrame u => Sys2Proof.Machine.execUnbundleFrame u s
  | .sgeDrainDone => Sys2Proof.Machine.execSgeDrainDone s
  | .gateEntryStart p => Sys2Proof.Machine.execGateEntryStart p s
  | .gateCycleStart p => Sys2Proof.Machine.execGateCycleStart p s
  | .gateChangeTime p => Sys2Proof.Machine.execGateChangeTime p s
  | .histogramSample q => Sys2Proof.Machine.execHistogramSample q s
  | .gptpMessageReceive p num kind st value => Sys2Proof.Machine.execGptpMessageReceive p num kind st value s
  | .syncWatchdogExpiry d => Sys2Proof.Machine.execSyncWatchdogExpiry d s
  | .announceTimeout d => Sys2Proof.Machine.execAnnounceTimeout d s
  | .syncInterval d announce => Sys2Proof.Machine.execSyncInterval d announce s
  | .revertHoldExpiry => Sys2Proof.Machine.execRevertHoldExpiry s
  | .slewDone => Sys2Proof.Machine.execSlewDone s
  | .historyEntryWrite => Sys2Proof.Machine.execHistoryEntryWrite s
  | .convGo sel => Sys2Proof.Machine.execGo sel s
  | .conversionDone => Sys2Proof.Machine.execConversionDone s
  | .timeSnap => Sys2Proof.Machine.execTimeSnap s
  | .timedOutputLeadingEdge k => Sys2Proof.Machine.execTimedOutputLeadingEdge k s
  | .timedOutputTrailingEdge k => Sys2Proof.Machine.execTimedOutputTrailingEdge k s
  | .captureEdge k falling => Sys2Proof.Machine.execCaptureEdge k falling s
  | .xosc32Stable => Sys2Proof.Machine.execXosc32Stable s
  | .xosc32Stop => Sys2Proof.Machine.execXosc32Stop s
  | .entryHoldExpiry wakeFirst => Sys2Proof.Machine.execEntryHoldExpiry wakeFirst s
  | .parkSupplyFall => Sys2Proof.Machine.execParkSupplyFall s
  | .coreClockStop => Sys2Proof.Machine.execCoreClockStop s
  | .listeningWake => Sys2Proof.Machine.execListeningWake s
  | .coreClocksResume => Sys2Proof.Machine.execCoreClocksResume s
  | .parkedWake => Sys2Proof.Machine.execParkedWake s
  | .wakeTimerExpiry => Sys2Proof.Machine.execWakeTimerExpiry s
  | .listenToParkExpiry => Sys2Proof.Machine.execListenToParkExpiry s
  | .supplyQualifyTimeout => Sys2Proof.Machine.execSupplyQualifyTimeout s
  | .supplyRetryExpiry => Sys2Proof.Machine.execSupplyRetryExpiry s
  | .thermalRetryExpiry brimTemp => Sys2Proof.Machine.execThermalRetryExpiry brimTemp s
  | .thermalRead crown brimT => Sys2Proof.Machine.execThermalRead crown brimT s
  | .thermalFallTimer => Sys2Proof.Machine.execThermalFallTimer s
  | .inhNvmWrite fails => Sys2Proof.Machine.execInhNvmWrite fails s
  | .idleTimerExpiry k => Sys2Proof.Machine.execIdleTimerExpiry k s
  | .prepareTimeExpiry k => Sys2Proof.Machine.execPrepareTimeExpiry k s
  | .falseWakeExpiry k => Sys2Proof.Machine.execFalseWakeExpiry k s
  | .entryDrainEnd k => Sys2Proof.Machine.execEntryDrainEnd k s
  | .armingConfirmed k fails => Sys2Proof.Machine.execArmingConfirmed k fails s
  | .lanePowerUp k => Sys2Proof.Machine.execLanePowerUp k s
  | .kaTxPeriodExpiry k => Sys2Proof.Machine.execKaTxPeriodExpiry k s
  | .longAwakeExpiry k => Sys2Proof.Machine.execLongAwakeExpiry k s
  | .swakeFrame n kind id rtr dlc data => Sys2Proof.Machine.execSwakeFrame n kind id rtr dlc data s
  | .wup n => Sys2Proof.Machine.execWup n s
  | .wakePin pin level => Sys2Proof.Machine.execWakePin pin level s
  | .linWake n => Sys2Proof.Machine.execLinWake n s
  | .t1sWake k => Sys2Proof.Machine.execT1sWake k s
  | .viaductSpanMessage k deck kind arg => Sys2Proof.Machine.execViaductSpanMessage k deck kind arg s
  | .bulkQuantum e upset => Sys2Proof.Machine.execBulkQuantum e upset s
  | .canAuthVerifyJob keyFault => Sys2Proof.Machine.execCanAuthVerifyJob keyFault s
  | .canAuthGenerateJob keyFault => Sys2Proof.Machine.execCanAuthGenerateJob keyFault s
  | .entropyFail => Sys2Proof.Machine.execEntropyFail s
  | .entropyRetry fails => Sys2Proof.Machine.execEntropyRetry fails s
  | .challengeExpiry => Sys2Proof.Machine.execChallengeExpiry s
  | .persistInvalidate fails => Sys2Proof.Machine.execPersistInvalidate fails s
  | .doorbellAccept src op detail pay => Sys2Proof.Machine.execDoorbellAccept src op detail pay s
  | .coalesceTimeExpiry q => Sys2Proof.Machine.execCoalesceTimeExpiry q s
  | .tgtClaim t => Sys2Proof.Machine.execTgtClaim t s
  | .tgtComplete t q => Sys2Proof.Machine.execTgtComplete t q s
  | .evqRdPtrWrite q host w => Sys2Proof.Machine.execEvqRdPtrWrite q host w s
  | .escTimeoutExpiry q => Sys2Proof.Machine.execEscTimeoutExpiry q s
  | .targetSleepChange t asleep => Sys2Proof.Machine.execTargetSleepChange t asleep s
  | .msixVectorUnmask v => Sys2Proof.Machine.execMsixVectorUnmask v s
  | .flushGroupClose cls => Sys2Proof.Machine.execFlushGroupClose cls s
  | .flushReadCompletion cls fails => Sys2Proof.Machine.execFlushReadCompletion cls fails s
  | .flushTimeout cls => Sys2Proof.Machine.execFlushTimeout cls s
  | .iwlRdWrite w => Sys2Proof.Machine.execIwlRdWrite w s
  | .pdlRdWrite w => Sys2Proof.Machine.execPdlRdWrite w s
  | .pollDue k => Sys2Proof.Machine.execPollDue k s
  | .pollReadComplete k fails value => Sys2Proof.Machine.execPollReadComplete k fails value s
  | .hrHostPtrWrite r w => Sys2Proof.Machine.execHrHostPtrWrite r w s
  | .hrSeenWrite r w => Sys2Proof.Machine.execHrSeenWrite r w s
  | .hrCtrlWrite r w => Sys2Proof.Machine.execHrCtrlWrite r w s
  | .hostRxDeliver upset => Sys2Proof.Machine.execHostRxDeliver upset s
  | .hostTxDescriptorFetch ahead => Sys2Proof.Machine.execHostTxDescriptorFetch ahead s
  | .nvmeCommandComplete k fault data => Sys2Proof.Machine.execNvmeCommandComplete k fault data s
  | .storageLinkDown => Sys2Proof.Machine.execStorageLinkDown s
  | .healthLogPoll critWarn pctUsed temp mediaErrors => Sys2Proof.Machine.execHealthLogPoll critWarn pctUsed temp mediaErrors s
  | .recorderCopyConsume upset => Sys2Proof.Machine.execRecorderCopyConsume upset s
  | .recorderBlockClose => Sys2Proof.Machine.execRecorderBlockClose s
  | .pierSignalDetect p => Sys2Proof.Machine.execPierSignalDetect p s
  | .pierBlockLock p => Sys2Proof.Machine.execPierBlockLock p s
  | .hello p h => Sys2Proof.Machine.execHello p h s
  | .keyConfirm p mac => Sys2Proof.Machine.execKeyConfirm p mac s
  | .keepalive p a time => Sys2Proof.Machine.execKeepalive p a time s
  | .credit p back a => Sys2Proof.Machine.execCredit p back a s
  | .ethUnit p cls src bad frame => Sys2Proof.Machine.execEthUnit p cls src bad frame s
  | .recordUnit p cls src dst bad route record u => Sys2Proof.Machine.execRecordUnit p cls src dst bad route record u s
  | .reqUnit p src client sec num lseq cmd q => Sys2Proof.Machine.execReqUnit p src client sec num lseq cmd q s
  | .cplUnit p src dst num lseq bulk off data => Sys2Proof.Machine.execCplUnit p src dst num lseq bulk off data s
  | .evtUnit p src dst lseq q rec => Sys2Proof.Machine.execEvtUnit p src dst lseq q rec s
  | .pierHelloInterval p => Sys2Proof.Machine.execPierHelloInterval p s
  | .pierLinkHoldEnd p => Sys2Proof.Machine.execPierLinkHoldEnd p s
  | .bringupRetry p => Sys2Proof.Machine.execBringupRetry p s
  | .peerLost p lock => Sys2Proof.Machine.execPeerLost p lock s
  | .replayTimeout p => Sys2Proof.Machine.execReplayTimeout p s
  | .discoveryDeadline => Sys2Proof.Machine.execDiscoveryDeadline s
  | .actingDelayExpiry => Sys2Proof.Machine.execActingDelayExpiry s
  | .requestUnreachableTimeout => Sys2Proof.Machine.execRequestUnreachableTimeout s
  | .faultInputRise k detail => Sys2Proof.Machine.execFaultInputRise k detail s
  | .faultInputFall k => Sys2Proof.Machine.execFaultInputFall k s
  | .lockstepMismatch pair => Sys2Proof.Machine.execLockstepMismatch pair s
  | .faultInjectEnd k => Sys2Proof.Machine.execFaultInjectEnd k s
  | .watchdogService token hold fails => Sys2Proof.Machine.execWatchdogService token hold fails s
  | .watchdogExpiry => Sys2Proof.Machine.execWatchdogExpiry s
  | .watchdogWarning => Sys2Proof.Machine.execWatchdogWarning s
  | .causewayTakeover p => Sys2Proof.Machine.execCausewayTakeover p s
  | .causewayFrameReceive p onB f => Sys2Proof.Machine.execCausewayFrameReceive p onB f s
  | .causewayAttemptEnd p ba outcome => Sys2Proof.Machine.execCausewayAttemptEnd p ba outcome s
  | .causewayRecoveryDone p ba => Sys2Proof.Machine.execCausewayRecoveryDone p ba s
  | .canIntegration n => Sys2Proof.Machine.execCanIntegration n s
  | .canRxError n lec dataPhase dominant => Sys2Proof.Machine.execCanRxError n lec dataPhase dominant s
  | .plcaOkRestore k => Sys2Proof.Machine.execPlcaOkRestore k s
  | .vcc5Restored => Sys2Proof.Machine.execVcc5Restored s
  | .pdelayInterval p => Sys2Proof.Machine.execPdelayInterval p s
  | .recoveryServiceRequest cmd q => Sys2Proof.Machine.execRecoveryServiceRequest cmd q s
  | .hostLinkUp gen width => Sys2Proof.Machine.execHostLinkUp gen width s
  | .pcieConfigWrite msixEnable funcMask busMaster bar0 bar2 bar4 => Sys2Proof.Machine.execPcieConfigWrite msixEnable funcMask busMaster bar0 bar2 bar4 s

end Sys2Proof.Machine
end

