-- ==== Sys2Proof/Safety.lean ====
section
/-! DEFINITION. What claims about the machine are stated in: a command that takes effect, a state in canonical form,
the requests' command codes, counters in range, and what a reset leaves. -/

namespace Sys2Proof.Machine

/-- The command takes effect: a next state, neither a fault nor a refusal. -/
def Runs (c : Instr) (s : State) : Prop := ∃ t, exec c s = .next t

/-- Every byte memory of the state is in canonical form, so that equal memories are equal data. -/
def State.memoriesWf (s : State) : Bool :=
  Memory.wf s.bar0 && Memory.wf s.bar2 && Memory.wf s.host && Memory.wf s.flash && Memory.wf s.gci.seg && Memory.wf s.fw.banks

/-- The registers are in canonical form: none is listed at its reset value. -/
def State.regsWf (s : State) : Bool := tabWf regDefault s.regs

/-! ### A request of the Gateway Command Interface that its command is run for (R55, R73, R92) -/

/-- The state in which the command's own rules are carried out: taken, and the draft of a C command used (R94). -/
def State.served (s : State) (cmd : Nat) (q : Req) : State := (s.taken cmd q).draftUse cmd q

/-- The request comes to its command: a PCIe or SPI client's mailbox is IDLE, SEQ is new, firmware serves and the round of R73 comes
to the request, it is for this Deck, and none of the checks 1 to 10 of R92 refuses it. -/
def State.accepts (s : State) (cmd : Nat) (q : Req) : Bool :=
  s.comes cmd q && q.deck.toNat == s.ownDeck && ((s.taken cmd q).precheck cmd q).isNone

/-- What the command is given: who asks, under which draft, with which payload. -/
def State.ctx (s : State) (cmd : Nat) (q : Req) : Ctx := (s.served cmd q).ctxOf cmd q

/-- Firmware has written the answer into the response area and the mailbox stands in RESPONSE (R55, R60). -/
def State.reply (s : State) (cmd : Nat) (q : Req) (st : Nat) (pay : List Byte := []) (ticket : Nat := 0) : State :=
  s.mbRespond q.mb.val cmd q.seq.toNat ⟨st, pay, ticket, 0⟩

/-- What firmware does once a command's effect stands in the state: it answers, unless the effect keeps the mailbox SERVING (R52)
or leaves no firmware to answer (log entry 79). -/
def State.finish (s : State) (cmd : Nat) (q : Req) (r : Resp) : State :=
  if r.status == stHold || !s.fwAnswers || s.getF (MbStatus.state q.mb.val) != mbServing then s
  else (s.noteRetry cmd q r).mbRespond q.mb.val cmd q.seq.toNat r

/-- The state's memories and registers are in canonical form, so that equal contents are equal data. -/
def State.canonical (s : State) : Bool := s.memoriesWf && s.regsWf

/-- Statistics counters, those of the Causeway among them, are below 2^64 (R153, R540, R557), and the Strand counter below 2^48 (R337). -/
def State.countersInRange (s : State) : Bool :=
  s.ctrs.all (fun kv => decide (kv.2 < 2 ^ 64)) && s.brim.cwCtrs.all (fun kv => decide (kv.2 < 2 ^ 64)) && decide (s.strand < 2 ^ 48)

/-! ### Requests of clients -/

/-- The commands of the command catalogue that a client requests (R89, R91): the code of the command and the request. -/
def gciOf (i : Instr) : Option (Nat × Req) :=
  match i with
  | .verbGet cls q => some (cls.toNat * 256 + 1, q)
  | .verbSet cls q => some (cls.toNat * 256 + 2, q)
  | .verbList cls q => some (cls.toNat * 256 + 3, q)
  | .verbStats cls q => some (cls.toNat * 256 + 4, q)
  | .clearStats cls q => some (cls.toNat * 256 + 5, q)
  | .deckIdentify q => some (0x0110, q)
  | .deckReset q => some (0x0111, q)
  | .deckClientSet q => some (0x0112, q)
  | .deckTicketStatus q => some (0x0113, q)
  | .deckTicketAbort q => some (0x0114, q)
  | .deckFwLoad q => some (0x0115, q)
  | .deckFwVerify q => some (0x0116, q)
  | .deckFwSwitch q => some (0x0117, q)
  | .deckFwProgram q => some (0x0118, q)
  | .deckConfigProgram q => some (0x0119, q)
  | .deckSegWrite q => some (0x011A, q)
  | .deckSegExec q => some (0x011B, q)
  | .deckSegRead q => some (0x011C, q)
  | .spanSleepReq q => some (0x0210, q)
  | .spanWakeReq q => some (0x0211, q)
  | .spanState q => some (0x0212, q)
  | .spanWakeSources q => some (0x0213, q)
  | .spanStayAwakeLog q => some (0x0214, q)
  | .spanMemberSet q => some (0x0215, q)
  | .chanEnable q => some (0x0310, q)
  | .chanDisable q => some (0x0311, q)
  | .chanLinkState q => some (0x0312, q)
  | .chanXcvrMode _ q => some (0x0313, q)
  | .ethWakePatternSet q => some (0x0410, q)
  | .ethPauseStormClear q => some (0x0411, q)
  | .ethMdioRead q => some (0x0412, q)
  | .ethMdioWrite q => some (0x0413, q)
  | .canBusOffRecover q => some (0x0510, q)
  | .canRestrictedSet q => some (0x0511, q)
  | .canTxFrame q => some (0x0512, q)
  | .canTxAtTime q => some (0x0513, q)
  | .canSwakeSet q => some (0x0514, q)
  | .canErrorState q => some (0x0515, q)
  | .linScheduleSet q => some (0x0610, q)
  | .linScheduleSelect q => some (0x0611, q)
  | .linGotoSleep q => some (0x0612, q)
  | .linWakeupSend q => some (0x0613, q)
  | .linResponseSet q => some (0x0614, q)
  | .fdbAddStatic q => some (0x0710, q)
  | .fdbDelete q => some (0x0711, q)
  | .fdbFlush q => some (0x0712, q)
  | .fdbLookup q => some (0x0713, q)
  | .fdbAgeingSet q => some (0x0714, q)
  | .fdbLearnSet q => some (0x0715, q)
  | .routeDraftOpen q => some (0x0810, q)
  | .routeCommit q => some (0x0811, q)
  | .routeDraftDiscard q => some (0x0812, q)
  | .routeDraftStatus q => some (0x0813, q)
  | .routeEpoch q => some (0x0814, q)
  | .routeDirectSet q => some (0x0815, q)
  | .routeHashSet q => some (0x0816, q)
  | .routeFallbackSet q => some (0x0817, q)
  | .sigProgramLoad q => some (0x0910, q)
  | .sigPduSet q => some (0x0911, q)
  | .sigSignalSet q => some (0x0912, q)
  | .sigSignalRead q => some (0x0913, q)
  | .sigSignalInject q => some (0x0914, q)
  | .sigAdmission q => some (0x0915, q)
  | .qosGateListSet q => some (0x0A10, q)
  | .qosGateState q => some (0x0A11, q)
  | .qosShaperSet q => some (0x0A12, q)
  | .qosMeterSet q => some (0x0A13, q)
  | .qosAdmissionSet q => some (0x0A14, q)
  | .qosHistogramSet q => some (0x0A15, q)
  | .qosHistogramRead q => some (0x0A16, q)
  | .timeDomainSet q => some (0x0B10, q)
  | .timeStatus q => some (0x0B11, q)
  | .timeWorkingSelect q => some (0x0B12, q)
  | .timeOutputSet q => some (0x0B13, q)
  | .timeCaptureRead q => some (0x0B14, q)
  | .secKeyInstall _ q => some (0x0C10, q)
  | .secKeyErase _ q => some (0x0C11, q)
  | .secSaInstall q => some (0x0C12, q)
  | .secSaRetire q => some (0x0C13, q)
  | .secJobSubmit q => some (0x0C14, q)
  | .secJobAbort q => some (0x0C15, q)
  | .secLifecycle q => some (0x0C16, q)
  | .secLifecycleAdvance _ q => some (0x0C17, q)
  | .secSelftest q => some (0x0C18, q)
  | .secZeroise q => some (0x0C19, q)
  | .secDebugUnlock _ q => some (0x0C1A, q)
  | .secFreshnessSet q => some (0x0C1B, q)
  | .evtBind q => some (0x0D10, q)
  | .evtCoalesceSet q => some (0x0D11, q)
  | .evtSourceEnable q => some (0x0D12, q)
  | .evtQueueState q => some (0x0D13, q)
  | .evtInject q => some (0x0D14, q)
  | .storeAttach q => some (0x0E10, q)
  | .storeDetach q => some (0x0E11, q)
  | .storeRecorderStart q => some (0x0E12, q)
  | .storeRecorderStop q => some (0x0E13, q)
  | .storeRead q => some (0x0E14, q)
  | .storeWrite q => some (0x0E15, q)
  | .storeStageImage q => some (0x0E16, q)
  | .storeHealth q => some (0x0E17, q)
  | .cascTopology q => some (0x0F10, q)
  | .cascStandbyLinkSet q => some (0x0F11, q)
  | .cascHeal q => some (0x0F12, q)
  | .cascSplitLog q => some (0x0F13, q)
  | .diagRead q => some (0x1010, q)
  | .diagWrite q => some (0x1011, q)
  | .diagTableDump q => some (0x1012, q)
  | .diagLoopback q => some (0x1013, q)
  | .diagMirrorSet q => some (0x1014, q)
  | .diagAuditStatus q => some (0x1015, q)
  | .faultStatus q => some (0x1110, q)
  | .faultClear q => some (0x1111, q)
  | .faultReactionSet q => some (0x1112, q)
  | .faultInject q => some (0x1113, q)
  | .faultLogRead q => some (0x1114, q)
  | .faultWatchdogSet q => some (0x1115, q)
  | .registerWrite .. | .bar2Write .. | .inboundReadAbort .. | .counterLowRead .. | .strandLoRead | .qPeakRead ..
  | .sgeReadyRead | .thermPeakRead | .hrDropsRead .. | .evqDropsRead .. | .mbDoorbell .. | .mbAck .. | .mbCancel ..
  | .serviceSlice .. | .ticketComplete .. | .draftIdleExpiry .. | .spiWriteFrame .. | .spiReadFrame ..
  | .spiReleaseFrame | .spiCsEarlyRise .. | .epochSwitch | .oldEpochRelease | .deckResetAckTimeout
  | .vbatPowerOnReset | .brimResetRelease | .brimNvmLoaded | .crownSupplyFault | .boardReset | .pcieReset
  | .vcc5Loss | .suppliesGood | .strapSample .. | .crownClocksStable | .bootBistDone .. | .hatboxSelftestDone ..
  | .firstLightVerify .. | .firmwareImageVerify .. | .firmwareReady | .configImageApply .. | .causewayHandover ..
  | .causewayHandoverTimeout .. | .switchReady | .switchReadyTimeout | .hatpinReply .. | .hatpinReplyTimeout
  | .ethFrameReceive .. | .linkDown .. | .linkUpConditions .. | .linkHoldExpiry .. | .pauseTimerExpiry ..
  | .pauseRefresh .. | .pauseWatchdogExpiry .. | .stormHoldExpiry .. | .plcaFallback .. | .collision ..
  | .backoffExpiry .. | .verifyTimeExpiry .. | .verifyRespondReceive .. | .wakePatternMatch .. | .mdioAccessDone ..
  | .egressSelect .. | .frameTransmitComplete .. | .tsqTailWrite .. | .ethDrainTimeout .. | .canFrameReceive ..
  | .classSchedulerFeed .. | .canAttemptStart .. | .canAttemptEnd .. | .recoverDelayExpiry ..
  | .recoveryCountDone .. | .atTimeRelease .. | .atTimeLate .. | .xcvrModeApply .. | .xcvrModeReached ..
  | .txdDominantTimeout .. | .hostTxRecordTake .. | .rxqTailWrite .. | .txqHeadWrite .. | .txcTailWrite ..
  | .canDrainDone .. | .canDrainTimeout .. | .linSlotBoundary .. | .linHeaderReceive .. | .linResponseReceive ..
  | .linResponseTimeout .. | .linBusIdleTimeout .. | .wakeupPulseEnd .. | .linScheduleRestart ..
  | .linTxdTimeout .. | .linDrainTimeout .. | .publishBufferWrite .. | .learnRecordProcess | .ageingVisit
  | .linkDownFdbRemoval .. | .frerResetTimeout .. | .tableEccRepair | .twinDecision .. | .shadowIntervalEnd
  | .cellWrite .. | .cellRead .. | .flushScanEnd | .queueDrainDone .. | .queueDrainTimeout .. | .auditVisit ..
  | .auditPassEnd .. | .sgeFeederMove .. | .sgeDispatch .. | .sgeEntry .. | .sgeUnpack .. | .sgePack ..
  | .sgeCheck .. | .sgeMatch .. | .sgeJump .. | .sgePackk .. | .sgeTrig .. | .sgeEnd .. | .signalTimeoutScan
  | .pduTimerRelease .. | .minGapEnd .. | .bundlerTakeMessage .. | .bundleWindowClose .. | .unbundleFrame ..
  | .sgeDrainDone | .gateEntryStart .. | .gateCycleStart .. | .gateChangeTime .. | .histogramSample ..
  | .gptpMessageReceive .. | .syncWatchdogExpiry .. | .announceTimeout .. | .syncInterval .. | .revertHoldExpiry
  | .slewDone | .historyEntryWrite | .convGo .. | .conversionDone | .timeSnap | .timedOutputLeadingEdge ..
  | .timedOutputTrailingEdge .. | .captureEdge .. | .xosc32Stable | .xosc32Stop | .entryHoldExpiry ..
  | .parkSupplyFall | .coreClockStop | .listeningWake | .coreClocksResume | .parkedWake | .wakeTimerExpiry
  | .listenToParkExpiry | .supplyQualifyTimeout | .supplyRetryExpiry | .thermalRetryExpiry .. | .thermalRead ..
  | .thermalFallTimer | .inhNvmWrite .. | .idleTimerExpiry .. | .prepareTimeExpiry .. | .falseWakeExpiry ..
  | .entryDrainEnd .. | .armingConfirmed .. | .lanePowerUp .. | .kaTxPeriodExpiry .. | .longAwakeExpiry ..
  | .swakeFrame .. | .wup .. | .wakePin .. | .linWake .. | .t1sWake .. | .viaductSpanMessage .. | .bulkQuantum ..
  | .canAuthVerifyJob .. | .canAuthGenerateJob .. | .entropyFail | .entropyRetry .. | .challengeExpiry
  | .persistInvalidate .. | .doorbellAccept .. | .coalesceTimeExpiry .. | .tgtClaim .. | .tgtComplete ..
  | .evqRdPtrWrite .. | .escTimeoutExpiry .. | .targetSleepChange .. | .msixVectorUnmask .. | .flushGroupClose ..
  | .flushReadCompletion .. | .flushTimeout .. | .iwlRdWrite .. | .pdlRdWrite .. | .pollDue ..
  | .pollReadComplete .. | .hrHostPtrWrite .. | .hrSeenWrite .. | .hrCtrlWrite .. | .hostRxDeliver ..
  | .hostTxDescriptorFetch .. | .nvmeCommandComplete .. | .storageLinkDown | .healthLogPoll ..
  | .recorderCopyConsume .. | .recorderBlockClose | .pierSignalDetect .. | .pierBlockLock .. | .hello ..
  | .keyConfirm .. | .keepalive .. | .credit .. | .ethUnit .. | .recordUnit .. | .reqUnit .. | .cplUnit ..
  | .evtUnit .. | .pierHelloInterval .. | .pierLinkHoldEnd .. | .bringupRetry .. | .peerLost .. | .replayTimeout ..
  | .discoveryDeadline | .actingDelayExpiry | .requestUnreachableTimeout | .faultInputRise .. | .faultInputFall ..
  | .lockstepMismatch .. | .faultInjectEnd .. | .watchdogService .. | .watchdogExpiry | .watchdogWarning
  | .causewayTakeover .. | .causewayFrameReceive .. | .causewayAttemptEnd .. | .causewayRecoveryDone ..
  | .canIntegration .. | .canRxError .. | .plcaOkRestore .. | .vcc5Restored | .pdelayInterval ..
  | .recoveryServiceRequest .. | .hostLinkUp .. | .pcieConfigWrite .. => none

/-- The header rules of R61 refuse the request in mailbox `q.mb` of the state. -/
abbrev State.headerRefused (s : State) (q : Req) : Prop :=
  q.rsv ≠ 0 ∨ bitsOf q.flags.toNat 7 2 ≠ 0 ∨ 1008 < q.len.toNat ∨ (bitOf q.flags.toNat 0 = true ∧ q.len.toNat ≠ 16) ∨
  (bitOf q.flags.toNat 0 = true ∧ s.getF (MbOwner.transport q.mb.val) = 1) ∨ 3 < q.deck.toNat

/-! ### Resets of the Crown die (R31, R33) -/

/-- The causes that DECK_RESET_CAUSE records. -/
def resetCauses : List Field :=
  [DeckResetCause.vbatPor, DeckResetCause.crownSupply, DeckResetCause.boardPin, DeckResetCause.watchdog, DeckResetCause.fault,
   DeckResetCause.command]

/-- What a reset of the Crown die in full leaves of a state `s`: the cause recorded beside those that stood, the Brim die's memories
and logs, fuses, flash and the host's memory kept, and what the Crown die held at its reset values. -/
def CrownResetLeaves (s t : State) (cause : Field) : Prop :=
  t.getF cause = 1 ∧ (∀ f ∈ resetCauses, f ≠ cause → t.getF f = if (f = DeckResetCause.watchdog ∧ s.watchdogNow = true) ∨
    (f = DeckResetCause.command ∧ s.fullResetNow = true) then 1 else s.getF f) ∧
  t.fuses = s.fuses ∧ t.flash = s.flash ∧ t.host = s.host ∧ t.absentVariant = s.absentVariant ∧
  t.brim.nvm = s.brim.nvm ∧ t.brim.keyStore = s.brim.keyStore ∧ t.brim.faultLog = s.brim.faultLog ∧
  t.brim.wakes = s.brim.wakes ∧ t.brim.cwCtrs = s.brim.cwCtrs ∧
  t.cfg = s.brim.nvm ∧ t.oldCfg = none ∧ t.ctrs = [] ∧ t.strand = 0 ∧ t.bar0 = [] ∧ t.bar2 = [] ∧
  t.gci.drafts = [] ∧ t.gci.tickets = [] ∧ t.gci.epoch = 0 ∧ t.buf.queues = [] ∧ t.fwd.learnt = [] ∧ t.hbx.slots = [] ∧
  t.getF DeckBootStatus.stage = 1

end Sys2Proof.Machine
end

