-- ==== Sys2Proof/Certificates/Slice0/Obligations.lean ====
section
/-! DEFINITION. The statements about the block, each one obligation for the provers: results and frames of the commands of every
family, the completion of every command, and the rules over the whole machine. -/

open Sys2Proof Sys2Proof.Machine

/-- The DECK queries answer what R104, R115 and R103 say and change nothing but the mailbox. For every request that passes
checks 1 to 10 of R92: DECK.IDENTIFY answers DONE with a 52-byte payload that holds the device type, the Deck number,
the epoch, the lifecycle state and the caller at their offsets of R104; DECK.TICKET_STATUS answers PENDING for a
running ticket of the caller, and for a complete one its status and result, and the ticket is freed; DECK.SEG_READ
answers DONE with the bytes asked for of the caller's segment buffer. Nothing changes but the served mailbox and, for
a ticket collected, the ticket. -/
def Obligations.DeckQueriesComplete : Prop :=
  (∀ (q : Req) (s u : State) (c : Ctx),
    u = s.served 0x0110 q →
    c = s.ctx 0x0110 q →
    s.accepts 0x0110 q = true →
    ∃ pay, exec (.deckIdentify q) s = .next (u.reply 0x0110 q stDone pay) ∧ pay.length = 52 ∧
      leAt pay 0 2 = (if u.absentVariant then 0x8632 else 0x8640) ∧ leAt pay 3 1 = u.ownDeck % 256 ∧
      leAt pay 0x10 4 = u.gci.epoch % 2 ^ 32 ∧ leAt pay 0x14 1 = u.fuses.lifecycle % 256 ∧ leAt pay 0x30 1 = c.client % 256) ∧
  (∀ (q : Req) (s u : State) (c : Ctx) (t : Ticket),
    u = s.served 0x0113 q →
    c = s.ctx 0x0113 q →
    s.accepts 0x0113 q = true →
    u.ticket c.client (leAt c.payload 0 4) = some t →
    t.result = none →
    exec (.deckTicketStatus q) s = .next (State.reply u 0x0113 q stPending [] (leAt c.payload 0 4))) ∧
  (∀ (q : Req) (s u : State) (c : Ctx) (t : Ticket) (st : Nat) (pay : List Byte),
    u = s.served 0x0113 q →
    c = s.ctx 0x0113 q →
    s.accepts 0x0113 q = true →
    u.ticket c.client (leAt c.payload 0 4) = some t →
    t.result = some (st, pay) →
    (st ≠ stHold ∧ st ≠ stBusyRetry) →
    exec (.deckTicketStatus q) s = .next (State.reply (u.freeTicket c.client (leAt c.payload 0 4)) 0x0113 q st pay (leAt c.payload 0 4))) ∧
  (∀ (q : Req) (s u : State) (c : Ctx),
    u = s.served 0x011C q →
    c = s.ctx 0x011C q →
    s.accepts 0x011C q = true →
    u.spiMb c.mb = true →
    (4 ≤ leAt c.payload 4 4 ∧ leAt c.payload 4 4 ≤ 1000 ∧ leAt c.payload 0 4 + leAt c.payload 4 4 ≤ 65536) →
    exec (.deckSegRead q) s = .next (State.reply u 0x011C q stDone (memReads u.gci.seg (c.client * 65536 + leAt c.payload 0 4) (leAt c.payload 4 4))))

/-- DECK.RESET, CLIENT_SET, TICKET_ABORT, SEG_WRITE and SEG_EXEC take their effect and are answered. For every request
that passes checks 1 to 10 of R92: DECK.RESET with CONFIRM 0xDECA answers DONE for scope FULL and notes the mailbox
and the 1 ms after which the Crown die is reset, and for scope CONFIG goes PENDING under a new ticket and stops the
Deck's work; DECK.CLIENT_SET with values in range, with no mailbox of a move in use and DECK control left with some
client, stages the client's new configuration in the draft; DECK.TICKET_ABORT of a running ticket aborts it;
DECK.SEG_WRITE within 64 KiB stores the bytes in the caller's segment buffer and changes nothing else; DECK.SEG_EXEC
of a command that takes bulk data runs that command's body on the segment buffer. -/
def Obligations.DeckControlCompletes : Prop :=
  (∀ (q : Req) (s u : State) (c : Ctx),
    u = s.served 0x0111 q →
    c = s.ctx 0x0111 q →
    s.accepts 0x0111 q = true →
    leAt c.payload 0 1 = 2 →
    (leAt c.payload 1 3 = 0 ∧ leAt c.payload 4 4 = 0xDECA) →
    exec (.deckReset q) s = .next (State.reply { u with gci := { u.gci with fullReset := some (c.mb, u.after (msC 1)) } } 0x0111 q stDone)) ∧
  (∀ (q : Req) (s u : State) (c : Ctx),
    u = s.served 0x0111 q →
    c = s.ctx 0x0111 q →
    s.accepts 0x0111 q = true →
    leAt c.payload 0 1 = 1 →
    (leAt c.payload 1 3 = 0 ∧ leAt c.payload 4 4 = 0xDECA) →
    exec (.deckReset q) s = .next (State.finish ((u.pend c []).2.resetConfigStart c.client (u.pend c []).1.ticket) 0x0111 q (u.pend c []).1)) ∧
  (∀ (q : Req) (s u : State) (c : Ctx) (d : Draft) (v : Nat),
    u = s.served 0x0112 q →
    c = s.ctx 0x0112 q →
    s.accepts 0x0112 q = true →
    (orefOf c.payload).typ = 0x02 →
    clientSetBad (leAt c.payload 4 4) (leAt c.payload 8 2) (leAt c.payload 10 1) (leAt c.payload 11 1) (leAt c.payload 12 4)
        (leAt c.payload 16 4) = false →
    v = clientWord (leAt c.payload 8 2) (leAt c.payload 10 1) (leAt c.payload 11 1) (leAt c.payload 12 4) (leAt c.payload 16 4) →
    u.draft c.client c.txn = some d →
    u.lastDeckControl (some d) (leAt c.payload 4 4) v = false →
    ((∀ n, n < 16 → bitOf (leAt c.payload 8 2) n ≠ u.mbOf n (leAt c.payload 4 4) → u.mbHeld n = false)) →
    (u.locked c.client [lockOf (pkey (oClient (leAt c.payload 4 4)) (pidRaw 0))] = false ∧ u.draftRoom c = true) →
    exec (.deckClientSet q) s = .next (State.reply (u.putChanges c d [(pkey (oClient (leAt c.payload 4 4)) (pidRaw 0), v)]) 0x0112 q stDone)) ∧
  (∀ (q : Req) (s u : State) (c : Ctx) (t : Ticket),
    u = s.served 0x0114 q →
    c = s.ctx 0x0114 q →
    s.accepts 0x0114 q = true →
    u.ticket c.client (leAt c.payload 0 4) = some t →
    t.result = none →
    exec (.deckTicketAbort q) s = .next (State.finish (u.abortTicket t) 0x0114 q ⟨stDone, [], 0, 0⟩)) ∧
  (∀ (q : Req) (s u : State) (c : Ctx),
    u = s.served 0x011A q →
    c = s.ctx 0x011A q →
    s.accepts 0x011A q = true →
    ((c.payload.drop 4).length % 4 = 0 ∧ (c.payload.drop 4).length ≤ 1000) →
    u.spiMb c.mb = true →
    u.segBusy c.client = false →
    leAt c.payload 0 4 + (c.payload.drop 4).length ≤ 65536 →
    exec (.deckSegWrite q) s = .next (State.reply { u with gci := { u.gci with seg := memWrites u.gci.seg (c.client * 65536 + leAt c.payload 0 4) (c.payload.drop 4) } } 0x011A q stDone)) ∧
  (∀ (q : Req) (s u : State) (c : Ctx) (r : CmdRow) (body : Body) (o : Resp × State),
    u = s.served 0x011B q →
    c = s.ctx 0x011B q →
    s.accepts 0x011B q = true →
    cmdRow (leAt c.payload 0 2) = some r →
    segBody (leAt c.payload 0 2) = some body →
    (u.client c.client).right r.kind (leAt c.payload 0 2 / 256) = true →
    (u.getF CascStatus.role = 3 → splitFrozen r = false) →
    u.spiMb c.mb = true →
    u.segBusy c.client = false →
    (leAt c.payload 2 2 = 0 ∧ leAt c.payload 9 3 = 0 ∧ leAt c.payload 8 1 ≤ 2 ∧ rng 1 65536 (leAt c.payload 4 4) = true) →
    o = body { c with cmd := leAt c.payload 0 2, bulk := some ⟨0, leAt c.payload 4 4, leAt c.payload 8 1, 0, true⟩, payload := zeros 8 ++ leBytes 4 (leAt c.payload 4 4) ++ leBytes 1 (leAt c.payload 8 1) ++ zeros 3 } u →
    exec (.deckSegExec q) s = .next (State.finish o.2 0x011B q o.1))

/-- The image commands of the DECK class go PENDING, switch, or take a piece. For every request that passes checks 1 to 10 of R92,
while no other image command runs: DECK.FW_LOAD and DECK.CONFIG_PROGRAM with a bulk descriptor in range, DECK.FW_VERIFY with an
image loaded, and DECK.FW_PROGRAM go PENDING under a new ticket that holds the image lock; a piece of DECK.FW_LOAD is stored in
the inactive bank at its offset, and with the last one the image is checked; a piece of DECK.CONFIG_PROGRAM is stored in the slot
and answered DONE, and the last one goes PENDING like the command (log entry 92); DECK.FW_SWITCH with a verified image, and with
no draft open and no ticket running unless FORCE is set, drops the drafts, aborts running tickets, services the watchdog, enters
STAGE 11, and leaves its mailbox SERVING with the other bank active and 2 ms to answer. -/
def Obligations.DeckImageCommandsComplete : Prop :=
  (∀ (q : Req) (s u : State) (c : Ctx) (b : Bulk),
    u = s.served 0x0115 q →
    c = s.ctx 0x0115 q →
    s.accepts 0x0115 q = true →
    c.bulk = some b →
    b.ok [0] = true →
    u.locked c.client [imageLock] = false →
    (b.seg && u.spiMb c.mb) = false →
    b.len ≤ imgMax itFirmware + 224 →
    exec (.deckFwLoad q) s = .next (State.reply (u.openTicket c [imageLock]).2 0x0115 q stPending [] (u.openTicket c [imageLock]).1)) ∧
  (∀ (c : Ctx) (u : State) (b : Bulk) (p : Piece) (v : State),
    c.bulk = some b →
    b.ok [0] = true →
    u.locked c.client [imageLock] = false →
    (b.seg && u.spiMb c.mb) = true →
    u.pieceOf c b.len (imgMax itFirmware + 224) = some p →
    p.last = false →
    v = (u.pieceNote c p).bankWrite (1 - u.fw.active) p.off p.data →
    bodyFwLoad c u = (⟨stDone, [], 0, 0⟩, { v with fw := { v.fw with loaded := none, verified := false } })) ∧
  (∀ (c : Ctx) (u : State) (b : Bulk) (p : Piece) (v : State),
    c.bulk = some b →
    b.ok [0] = true →
    u.locked c.client [imageLock] = false →
    (b.seg && u.spiMb c.mb) = true →
    u.pieceOf c b.len (imgMax itFirmware + 224) = some p →
    p.last = true →
    v = (u.pieceNote c p).bankWrite (1 - u.fw.active) p.off p.data →
    bodyFwLoad c u = (⟨(State.fwLoaded { v with fw := { v.fw with loaded := none, verified := false } } p.total).1, [], 0, 0⟩,
      (State.fwLoaded { v with fw := { v.fw with loaded := none, verified := false } } p.total).2)) ∧
  (∀ (q : Req) (s u : State) (c : Ctx),
    u = s.served 0x0116 q →
    c = s.ctx 0x0116 q →
    s.accepts 0x0116 q = true →
    u.locked c.client [imageLock] = false →
    u.fw.loaded.isSome = true →
    exec (.deckFwVerify q) s = .next (State.reply (u.openTicket c [imageLock]).2 0x0116 q stPending [] (u.openTicket c [imageLock]).1)) ∧
  (∀ (q : Req) (s u : State) (c : Ctx) (v : State),
    u = s.served 0x0117 q →
    c = s.ctx 0x0117 q →
    s.accepts 0x0117 q = true →
    leAt c.payload 0 4 ≤ 1 →
    u.fw.verified = true →
    (bitOf (leAt c.payload 0 4) 0 = true ∨ (u.gci.drafts = [] ∧ u.gci.tickets.filter (fun t => t.result.isNone) = [])) →
    v = (((u.gci.tickets.filter (fun t => t.result.isNone)).foldl (fun (s : State) t => s.abortTicket t)
        { u with gci := { u.gci with drafts := [] } }).watchdogPet.setF DeckBootStatus.stage 11) →
    exec (.deckFwSwitch q) s = .next (State.finish { v with fw := { v.fw with switching := some (c.mb, v.getF (MbSeq.lastPosted c.mb), v.fw.active, v.after (msC 2)), active := 1 - v.fw.active } } 0x0117 q ⟨stHold, [], 0, 0⟩)) ∧
  (∀ (q : Req) (s u : State) (c : Ctx),
    u = s.served 0x0118 q →
    c = s.ctx 0x0118 q →
    s.accepts 0x0118 q = true →
    u.locked c.client [imageLock] = false →
    exec (.deckFwProgram q) s = .next (State.reply (u.openTicket c [imageLock]).2 0x0118 q stPending [] (u.openTicket c [imageLock]).1)) ∧
  (∀ (q : Req) (s u : State) (c : Ctx) (b : Bulk),
    u = s.served 0x0119 q →
    c = s.ctx 0x0119 q →
    s.accepts 0x0119 q = true →
    c.bulk = some b →
    b.ok [0] = true →
    u.locked c.client [imageLock] = false →
    (b.seg && u.spiMb c.mb) = false →
    b.len ≤ imgMax itConfig + 224 →
    exec (.deckConfigProgram q) s = .next (State.reply (u.openTicket c [imageLock]).2 0x0119 q stPending [] (u.openTicket c [imageLock]).1)) ∧
  (∀ (c : Ctx) (u : State) (b : Bulk) (p : Piece),
    c.bulk = some b →
    b.ok [0] = true →
    u.locked c.client [imageLock] = false →
    (b.seg && u.spiMb c.mb) = true →
    u.pieceOf c b.len (imgMax itConfig + 224) = some p →
    bodyConfigProgram c u = (if p.last then (⟨stPending, [], (u.openTicket c [imageLock]).1, 0⟩, (u.openTicket c [imageLock]).2)
      else (⟨stDone, [], 0, 0⟩, (u.configStored c.client c.cmd p))))

/-- GET, SET, LIST, STATS and CLEAR_STATS of every class do what R87 to R89 say. For every class and every request that
passes checks 1 to 10 of R92: GET whose entries are well formed and name known parameters with their sizes answers
DONE with the OREF, COUNT and the entries, each with the value that the caller sees; SET whose entries are well formed
and each in range, of an object that no one else has locked, stages exactly the values given, under the object's
parameters, in the caller's draft and answers DONE; LIST of a type with indices answers DONE with the first 250
occupied indices from INDEX on and NEXT; STATS of an object with counters answers DONE with its counters as eight
bytes each; CLEAR_STATS sets exactly those counters to 0. A query changes nothing but its mailbox. -/
def Obligations.CommonVerbsComplete : Prop :=
  (∀ (cls : Byte) (q : Req) (s u : State) (c : Ctx) (es : List (Nat × Nat × List Byte)),
    u = s.served (cls.toNat * 256 + 1) q →
    c = s.ctx (cls.toNat * 256 + 1) q →
    s.accepts (cls.toNat * 256 + 1) q = true →
    getEntries c.payload = .ok es →
    firstBad (getJudge (c.cmd / 256) (orefOf c.payload).key) 0 es = none →
    exec (.verbGet cls q) s = .next (State.reply u (cls.toNat * 256 + 1) q stDone (c.payload.take 12 ++ u.getEntriesOut c (orefOf c.payload).key es))) ∧
  (∀ (cls : Byte) (q : Req) (s u : State) (c : Ctx) (d : Draft) (es : List (Nat × Nat × List Byte)) (ch : List (Nat × Nat)),
    u = s.served (cls.toNat * 256 + 2) q →
    c = s.ctx (cls.toNat * 256 + 2) q →
    s.accepts (cls.toNat * 256 + 2) q = true →
    getEntries c.payload = .ok es →
    (orefOf c.payload).typ ≠ 0x0E →
    firstBad (u.setJudge c (orefOf c.payload).key es) 0 es = none →
    ch = es.map (fun e => (pkey (orefOf c.payload).key e.1, leVal e.2.2)) →
    u.draft c.client c.txn = some d →
    (u.locked c.client (es.map (fun e => lockOf (pkey (orefOf c.payload).key e.1))) = false ∧ u.draftRoom c = true) →
    exec (.verbSet cls q) s = .next (State.reply (u.putChanges c d ch) (cls.toNat * 256 + 2) q stDone)) ∧
  (∀ (cls : Byte) (q : Req) (s u : State) (c : Ctx) (r : TypeRow) (l : List Nat),
    u = s.served (cls.toNat * 256 + 3) q →
    c = s.ctx (cls.toNat * 256 + 3) q →
    s.accepts (cls.toNat * 256 + 3) q = true →
    typeRow (orefOf c.payload).typ = some r →
    r.usesIdx = true →
    l = u.occupied c (orefOf c.payload) →
    exec (.verbList cls q) s = .next (State.reply u (cls.toNat * 256 + 3) q stDone (leBytes 2 (l.take 250).length ++ leBytes 2 0 ++
      leBytes 4 (if l.length ≤ 250 then noIdx else (l.take 250).getLastD 0 + 1) ++ (l.take 250).flatMap (leBytes 4)))) ∧
  (∀ (cls : Byte) (q : Req) (s u : State) (c : Ctx) (n m : Nat),
    u = s.served (cls.toNat * 256 + 4) q →
    c = s.ctx (cls.toNat * 256 + 4) q →
    s.accepts (cls.toNat * 256 + 4) q = true →
    statCount (c.cmd / 256) (orefOf c.payload) = some (n, m) →
    (¬(c.cmd / 256 = cSec ∧ (orefOf c.payload).typ = 0x1C) ∧ ¬(c.cmd / 256 = cFault ∧ (orefOf c.payload).typ = 0x01)) →
    exec (.verbStats cls q) s = .next (State.reply u (cls.toNat * 256 + 4) q stDone (u.ctrBytes (orefOf c.payload).key (c.cmd / 256) n))) ∧
  (∀ (cls : Byte) (q : Req) (s u : State) (c : Ctx),
    u = s.served (cls.toNat * 256 + 4) q →
    c = s.ctx (cls.toNat * 256 + 4) q →
    s.accepts (cls.toNat * 256 + 4) q = true →
    (c.cmd / 256 = cSec ∧ (orefOf c.payload).typ = 0x1C) →
    exec (.verbStats cls q) s = .next (State.reply u (cls.toNat * 256 + 4) q stDone (leBytes 8 (u.assoc (orefOf c.payload).chan (orefOf c.payload).idx).nextPn ++
      leBytes 8 (u.assoc (orefOf c.payload).chan (orefOf c.payload).idx).frames ++ leBytes 8 (u.assoc (orefOf c.payload).chan (orefOf c.payload).idx).octets))) ∧
  (∀ (cls : Byte) (q : Req) (s u : State) (c : Ctx),
    u = s.served (cls.toNat * 256 + 4) q →
    c = s.ctx (cls.toNat * 256 + 4) q →
    s.accepts (cls.toNat * 256 + 4) q = true →
    (c.cmd / 256 = cFault ∧ (orefOf c.payload).typ = 0x01) →
    exec (.verbStats cls q) s = .next (State.reply u (cls.toNat * 256 + 4) q stDone ((List.range 16).flatMap (fun i => leBytes 8 (tabGet ctrDefault u.brim.cwCtrs i))))) ∧
  (∀ (cls : Byte) (q : Req) (s u : State) (c : Ctx) (n m : Nat),
    u = s.served (cls.toNat * 256 + 5) q →
    c = s.ctx (cls.toNat * 256 + 5) q →
    s.accepts (cls.toNat * 256 + 5) q = true →
    statCount (c.cmd / 256) (orefOf c.payload) = some (m, n) →
    (¬(c.cmd / 256 = cSec ∧ (orefOf c.payload).typ = 0x1C) ∧ ¬(c.cmd / 256 = cFault ∧ (orefOf c.payload).typ = 0x01)) →
    exec (.clearStats cls q) s = .next (State.reply (if c.cmd / 256 == cSpan then (u.clearCtrs (orefOf c.payload).key (c.cmd / 256) n).clearAccounts (orefOf c.payload).span
      else u.clearCtrs (orefOf c.payload).key (c.cmd / 256) n) (cls.toNat * 256 + 5) q stDone)) ∧
  (∀ (cls : Byte) (q : Req) (s u : State) (c : Ctx),
    u = s.served (cls.toNat * 256 + 5) q →
    c = s.ctx (cls.toNat * 256 + 5) q →
    s.accepts (cls.toNat * 256 + 5) q = true →
    (c.cmd / 256 = cSec ∧ (orefOf c.payload).typ = 0x1C) →
    exec (.clearStats cls q) s = .next (State.reply (u.setAssoc (orefOf c.payload).chan (orefOf c.payload).idx
      { u.assoc (orefOf c.payload).chan (orefOf c.payload).idx with frames := 0, octets := 0 }) (cls.toNat * 256 + 5) q stDone)) ∧
  (∀ (cls : Byte) (q : Req) (s u : State) (c : Ctx),
    u = s.served (cls.toNat * 256 + 5) q →
    c = s.ctx (cls.toNat * 256 + 5) q →
    s.accepts (cls.toNat * 256 + 5) q = true →
    (c.cmd / 256 = cFault ∧ (orefOf c.payload).typ = 0x01) →
    exec (.clearStats cls q) s = .next (State.reply { u with brim := { u.brim with cwCtrs := [] } } (cls.toNat * 256 + 5) q stDone))

/-- The SPAN commands hold, release, wake and describe a Span, and stage its members. For every request that passes checks
1 to 10 of R92: SPAN.SLEEP_REQ on a Span that may sleep clears the caller's hold, ends IDLE_TIME if NOW is set and no
keep-alive of the same millisecond has come, and evaluates the Span; SPAN.WAKE_REQ sets the caller's hold and wakes a Span that is ASLEEP or ENTERING with source 5 of
R398; SPAN.STATE answers the state, the demand bits, the holds and the milliseconds left of the three timers;
SPAN.WAKE_SOURCES with COUNT 1 to 62 goes PENDING with the records' words asked for over the Hatpin link;
SPAN.STAY_AWAKE_LOG answers part 0 the log's entries, part 1 the nodes' accounts, part 2 the clients'; SPAN.MEMBER_SET
with both Spans AWAKE stages the Channel's new Span. -/
def Obligations.SpanCommandsComplete : Prop :=
  (∀ (q : Req) (s u : State) (c : Ctx) (v : State),
    u = s.served 0x0210 q →
    c = s.ctx 0x0210 q →
    s.accepts 0x0210 q = true →
    (orefOf c.payload).typ = 0x03 →
    leAt c.payload 8 4 ≤ 1 →
    u.spanPar (orefOf c.payload).span 0x0100 ≠ 0 →
    v = u.holdClear (orefOf c.payload).span c.client →
    exec (.spanSleepReq q) s = .next (State.finish (State.spanUpdate (if bitOf (leAt c.payload 8 4) 0 = true ∧ (v.span (orefOf c.payload).span).kaHeard.any (fun t => decide (strandDiff v.strand t < msC 1)) = false then v.idleEnd (orefOf c.payload).span else v) (orefOf c.payload).span) 0x0210 q ⟨stDone, [], 0, 0⟩)) ∧
  (∀ (q : Req) (s u : State) (c : Ctx) (v : State),
    u = s.served 0x0211 q →
    c = s.ctx 0x0211 q →
    s.accepts 0x0211 q = true →
    (orefOf c.payload).typ = 0x03 →
    v = u.holdSet (orefOf c.payload).span c.client →
    exec (.spanWakeReq q) s = .next (State.finish (State.spanUpdate (if v.spanState (orefOf c.payload).span == spAsleep || v.spanState (orefOf c.payload).span == spEntering then v.wake (orefOf c.payload).span wsHost c.client 0 0xFF
      else v) (orefOf c.payload).span) 0x0211 q ⟨stDone, [], 0, 0⟩)) ∧
  (∀ (q : Req) (s u : State) (c : Ctx) (v : SpanSt),
    u = s.served 0x0212 q →
    c = s.ctx 0x0212 q →
    s.accepts 0x0212 q = true →
    (orefOf c.payload).typ = 0x03 →
    v = u.span (orefOf c.payload).span →
    exec (.spanState q) s = .next (State.reply u 0x0212 q stDone (leBytes 1 (u.spanState (orefOf c.payload).span) ++ leBytes 1 (bitsOf (u.reg (SpanState.state (orefOf c.payload).span).off).toNat 7 3) ++
      leBytes 1 (u.getF (SpanState.holds (orefOf c.payload).span)) ++ [0] ++ leBytes 4 (u.msLeft v.idleAt) ++ leBytes 4 (u.msLeft v.prepareAt) ++
      leBytes 4 (u.msLeft v.falseAt)))) ∧
  (∀ (q : Req) (s u : State) (c : Ctx) (v : State),
    u = s.served 0x0213 q →
    c = s.ctx 0x0213 q →
    s.accepts 0x0213 q = true →
    (1 ≤ leAt c.payload 10 2 ∧ leAt c.payload 10 2 ≤ 62) →
    v = (u.openTicket c []).2 →
    exec (.spanWakeSources q) s = .next (State.reply { v with hatpin := { v.hatpin with queue := v.hatpin.queue ++ [({ client := c.client, ticket := (u.openTicket c []).1, left := max (4 * (u.wakesFor c.payload).length) 1 } : HatpinAccess)] } } 0x0213 q stPending [] (u.openTicket c []).1)) ∧
  (∀ (q : Req) (s u : State) (c : Ctx),
    u = s.served 0x0214 q →
    c = s.ctx 0x0214 q →
    s.accepts 0x0214 q = true →
    ((orefOf c.payload).typ = 0x03 ∧ leAt c.payload 9 3 = 0) →
    (leAt c.payload 8 1 = 0 ∧ 1 ≤ leAt c.payload 14 2 ∧ leAt c.payload 14 2 ≤ 62) →
    exec (.spanStayAwakeLog q) s = .next (State.reply u 0x0214 q stDone ((((u.span (orefOf c.payload).span).log.drop (leAt c.payload 12 2)).take (leAt c.payload 14 2)).flatMap StayEntry.bytes))) ∧
  (∀ (q : Req) (s u : State) (c : Ctx),
    u = s.served 0x0214 q →
    c = s.ctx 0x0214 q →
    s.accepts 0x0214 q = true →
    ((orefOf c.payload).typ = 0x03 ∧ leAt c.payload 9 3 = 0) →
    (leAt c.payload 8 1 = 1 ∧ 1 ≤ leAt c.payload 14 2 ∧ leAt c.payload 14 2 ≤ 252 ∧ leAt c.payload 12 2 + leAt c.payload 14 2 ≤ 256) →
    exec (.spanStayAwakeLog q) s = .next (State.reply u 0x0214 q stDone ((List.range (leAt c.payload 14 2)).flatMap (fun k =>
      accountMs (u.nodeTotal (orefOf c.payload).span (leAt c.payload 12 2 + k)))))) ∧
  (∀ (q : Req) (s u : State) (c : Ctx),
    u = s.served 0x0214 q →
    c = s.ctx 0x0214 q →
    s.accepts 0x0214 q = true →
    ((orefOf c.payload).typ = 0x03 ∧ leAt c.payload 9 3 = 0) →
    (leAt c.payload 8 1 = 2 ∧ leAt c.payload 12 2 = 0 ∧ leAt c.payload 14 2 = 8) →
    exec (.spanStayAwakeLog q) s = .next (State.reply u 0x0214 q stDone ((List.range 8).flatMap (fun k => accountMs (u.holdTotal (orefOf c.payload).span k))))) ∧
  (∀ (q : Req) (s u : State) (c : Ctx) (d : Draft),
    u = s.served 0x0215 q →
    c = s.ctx 0x0215 q →
    s.accepts 0x0215 q = true →
    ((orefOf c.payload).typ = 0x03 ∧ leAt c.payload 8 1 ≤ 103 ∧ leAt c.payload 9 3 = 0 ∧ u.absentVariant = false) →
    (u.spanState (u.spanOf (leAt c.payload 8 1)) = spAwake ∧ u.spanState (orefOf c.payload).span = spAwake) →
    u.draft c.client c.txn = some d →
    (u.locked c.client [lockOf (pkey (oChan (leAt c.payload 8 1)) pidSpan)] = false ∧ u.draftRoom c = true) →
    exec (.spanMemberSet q) s = .next (State.reply (u.putChanges c d [(pkey (oChan (leAt c.payload 8 1)) pidSpan, (orefOf c.payload).span)]) 0x0215 q stDone))

/-- CHAN.ENABLE, DISABLE, LINK_STATE and XCVR_MODE take the effect of R110 to R113. For every request that passes checks 1
to 10 of R92: CHAN.ENABLE of an enabled Channel answers DONE and changes nothing (whatever its Span's state: log entry
85), and of a disabled one, of a Span that is neither entering, asleep nor waking and of no pair that Causeway retains
(log entry 86), enables it and evaluates its Span; CHAN.DISABLE of a disabled
Channel answers DONE, and of an enabled one starts the drain or the force under a ticket; CHAN.LINK_STATE answers
kind, enabled, up, Span and the three register words; CHAN.XCVR_MODE on CAN[0] to CAN[15] commands the transceiver, or
answers ACCESS_FAILED where the Hatpin access fails. -/
def Obligations.ChannelCommandsComplete : Prop :=
  (∀ (q : Req) (s u : State) (c : Ctx),
    u = s.served 0x0310 q →
    c = s.ctx 0x0310 q →
    s.accepts 0x0310 q = true →
    ((orefOf c.payload).chan ≠ 22 ∧ (orefOf c.payload).chan ≠ 23) →
    u.chanEnabled (orefOf c.payload).chan = true →
    exec (.chanEnable q) s = .next (State.reply u 0x0310 q stDone)) ∧
  (∀ (q : Req) (s u : State) (c : Ctx),
    u = s.served 0x0310 q →
    c = s.ctx 0x0310 q →
    s.accepts 0x0310 q = true →
    ((orefOf c.payload).chan ≠ 22 ∧ (orefOf c.payload).chan ≠ 23) →
    u.chanEnabled (orefOf c.payload).chan = false →
    u.spanState (u.spanOf (orefOf c.payload).chan) ∉ [spEntering, spAsleep, spWaking] →
    (24 ≤ (orefOf c.payload).chan ∧ (orefOf c.payload).chan ≤ 31 → u.cwRetained (((orefOf c.payload).chan - 24) / 2) = false) →
    exec (.chanEnable q) s = .next (State.finish ((u.chanEnable (orefOf c.payload).chan none).spanUpdate (u.spanOf (orefOf c.payload).chan)) 0x0310 q ⟨stDone, [], 0, 0⟩)) ∧
  (∀ (q : Req) (s u : State) (c : Ctx),
    u = s.served 0x0311 q →
    c = s.ctx 0x0311 q →
    s.accepts 0x0311 q = true →
    ((orefOf c.payload).chan ≠ 22 ∧ (orefOf c.payload).chan ≠ 23 ∧ (leAt c.payload 8 1 = 1 ∨ leAt c.payload 8 1 = 2) ∧ leAt c.payload 9 3 = 0) →
    u.chanEnabled (orefOf c.payload).chan = false →
    exec (.chanDisable q) s = .next (State.reply u 0x0311 q stDone)) ∧
  (∀ (q : Req) (s u : State) (c : Ctx) (o : Resp × State),
    u = s.served 0x0311 q →
    c = s.ctx 0x0311 q →
    s.accepts 0x0311 q = true →
    ((orefOf c.payload).chan ≠ 22 ∧ (orefOf c.payload).chan ≠ 23 ∧ (leAt c.payload 8 1 = 1 ∨ leAt c.payload 8 1 = 2) ∧ leAt c.payload 9 3 = 0) →
    u.chanEnabled (orefOf c.payload).chan = true →
    o = u.runP c [(orefOf c.payload).lock] (fun s ref => s.chanDisable (orefOf c.payload).chan (leAt c.payload 8 1) ref) →
    exec (.chanDisable q) s = .next (State.finish (o.2.spanUpdate (o.2.spanOf (orefOf c.payload).chan)) 0x0311 q o.1)) ∧
  (∀ (q : Req) (s u : State) (c : Ctx) (w : Nat → List Byte),
    u = s.served 0x0312 q →
    c = s.ctx 0x0312 q →
    s.accepts 0x0312 q = true →
    (w = fun (x : Nat) => leBytes 4 (if x = 0 then 0 else (u.reg x).toNat)) →
    exec (.chanLinkState q) s = .next (State.reply u 0x0312 q stDone (leBytes 1 (chanKind (orefOf c.payload).chan) ++ leBytes 1 (b2n (u.linkUpDown (orefOf c.payload).chan).1) ++ leBytes 1 (b2n (u.linkUpDown (orefOf c.payload).chan).2) ++
      leBytes 1 (u.spanOf (orefOf c.payload).chan) ++ w (linkWords (orefOf c.payload).chan).1 ++ w (linkWords (orefOf c.payload).chan).2.1 ++ w (linkWords (orefOf c.payload).chan).2.2))) ∧
  (∀ (q : Req) (s u : State) (c : Ctx),
    u = s.served 0x0313 q →
    c = s.ctx 0x0313 q →
    s.accepts 0x0313 q = true →
    (24 ≤ (orefOf c.payload).chan ∧ (orefOf c.payload).chan ≤ 39 ∧ leAt c.payload 8 1 ≤ 3 ∧ leAt c.payload 9 3 = 0) →
    (leAt c.payload 8 1 = 0 → u.spanState (u.spanOf (orefOf c.payload).chan) = spAwake ∧ u.brim.vcc5 = true) →
    exec (.chanXcvrMode false q) s = .next (State.finish (u.xcvrSent ((orefOf c.payload).chan - 24) (leAt c.payload 8 1)) 0x0313 q ⟨stDone, [], 0, 0⟩)) ∧
  (∀ (q : Req) (s u : State) (c : Ctx),
    u = s.served 0x0313 q →
    c = s.ctx 0x0313 q →
    s.accepts 0x0313 q = true →
    (24 ≤ (orefOf c.payload).chan ∧ (orefOf c.payload).chan ≤ 39 ∧ leAt c.payload 8 1 ≤ 3 ∧ leAt c.payload 9 3 = 0) →
    (leAt c.payload 8 1 = 0 → u.spanState (u.spanOf (orefOf c.payload).chan) = spAwake ∧ u.brim.vcc5 = true) →
    exec (.chanXcvrMode true q) s = .next (State.finish u.hatpinDown 0x0313 q ⟨stAccessFailed, [], 0, 0⟩))

/-- The ETH commands stage a wake pattern, end pause storms, and run MDIO accesses. For every request that passes checks 1
to 10 of R92: ETH.WAKE_PATTERN_SET with fields in range stages ENABLE, LENGTH, mask and pattern of the named pattern;
ETH.PAUSE_STORM_CLEAR ends the storm of every class named and of no other; an MDIO access with fields in range on an
idle master and with Clause 22 is put out and answers DONE, a read with a free value as its data (log entry 1); with
Clause 45 it is put out, goes PENDING, and is the master's running access; any access on a busy master goes PENDING,
is not put out yet, and takes the last place in the master's queue. -/
def Obligations.EthCommandsComplete : Prop :=
  (∀ (q : Req) (s u : State) (c : Ctx) (d : Draft) (k : Nat) (ch : List (Nat × Nat)),
    u = s.served 0x0410 q →
    c = s.ctx 0x0410 q →
    s.accepts 0x0410 q = true →
    (c.payload.length = 156 ∧ (orefOf c.payload).typ = 0x17) →
    (leAt c.payload 8 1 ≤ 1 ∧ 1 ≤ leAt c.payload 9 1 ∧ leAt c.payload 9 1 ≤ 128 ∧ leAt c.payload 10 2 = 0 ∧
        leVal ((sliceB c.payload 0x1C 128).drop (leAt c.payload 9 1)) = 0) →
    (k = (orefOf c.payload).key ∧ ch = [(pkey k (pidRaw 0), leAt c.payload 8 1), (pkey k (pidRaw 1), leAt c.payload 9 1),
        (pkey k (pidRaw 2), leAt c.payload 12 16), (pkey k (pidRaw 3), leVal (sliceB c.payload 0x1C 128))]) →
    u.draft c.client c.txn = some d →
    (u.locked c.client (ch.map (fun kv => lockOf kv.1)) = false ∧ u.draftRoom c = true) →
    exec (.ethWakePatternSet q) s = .next (State.reply (u.putChanges c d ch) 0x0410 q stDone)) ∧
  (∀ (q : Req) (s u : State) (c : Ctx),
    u = s.served 0x0411 q →
    c = s.ctx 0x0411 q →
    s.accepts 0x0411 q = true →
    (orefOf c.payload).typ = 0x04 →
    exec (.ethPauseStormClear q) s = .next (State.finish (((List.range 8).filter (fun k => bitOf (leAt c.payload 8 4) k)).foldl (fun (s : State) k => s.stormExit (orefOf c.payload).chan k) u) 0x0411 q ⟨stDone, [], 0, 0⟩)) ∧
  (∀ (q : Req) (s u : State) (c : Ctx) (v : State),
    u = s.served 0x0412 q →
    c = s.ctx 0x0412 q →
    s.accepts 0x0412 q = true →
    (c.payload.length = 8 ∧ mdioOk c.payload false = true) →
    (u.mdioQueue (leAt c.payload 0 1) = [] ∧ leAt c.payload 1 1 = 22) →
    v = u.mdioStart (leAt c.payload 0 1) c.payload false →
    exec (.ethMdioRead q) s = .next (State.finish v.draw.2 0x0412 q ⟨stDone, leBytes 2 v.draw.1, 0, 0⟩)) ∧
  (∀ (q : Req) (s u : State) (c : Ctx) (v : State),
    u = s.served 0x0412 q →
    c = s.ctx 0x0412 q →
    s.accepts 0x0412 q = true →
    (c.payload.length = 8 ∧ mdioOk c.payload false = true) →
    u.mdioQueue (leAt c.payload 0 1) ≠ [] →
    v = (u.openTicket c []).2 →
    exec (.ethMdioRead q) s = .next (State.reply (v.setMdio (leAt c.payload 0 1) (v.mdioQueue (leAt c.payload 0 1) ++ [(c.client, (u.openTicket c []).1, c.payload)])) 0x0412 q stPending [] (u.openTicket c []).1)) ∧
  (∀ (q : Req) (s u : State) (c : Ctx) (v : State),
    u = s.served 0x0412 q →
    c = s.ctx 0x0412 q →
    s.accepts 0x0412 q = true →
    (c.payload.length = 8 ∧ mdioOk c.payload false = true) →
    (u.mdioQueue (leAt c.payload 0 1) = [] ∧ leAt c.payload 1 1 = 45) →
    v = u.mdioStart (leAt c.payload 0 1) c.payload false →
    exec (.ethMdioRead q) s = .next (State.finish ((v.openTicket c []).2.setMdio (leAt c.payload 0 1) ((v.openTicket c []).2.mdioQueue (leAt c.payload 0 1) ++ [(c.client, (v.openTicket c []).1, c.payload)])) 0x0412 q ⟨stPending, [], (v.openTicket c []).1, 0⟩)) ∧
  (∀ (q : Req) (s u : State) (c : Ctx),
    u = s.served 0x0413 q →
    c = s.ctx 0x0413 q →
    s.accepts 0x0413 q = true →
    (c.payload.length = 8 ∧ mdioOk c.payload true = true) →
    (u.mdioQueue (leAt c.payload 0 1) = [] ∧ leAt c.payload 1 1 = 22) →
    exec (.ethMdioWrite q) s = .next (State.finish (u.mdioStart (leAt c.payload 0 1) c.payload true) 0x0413 q ⟨stDone, [], 0, 0⟩)) ∧
  (∀ (q : Req) (s u : State) (c : Ctx) (v : State),
    u = s.served 0x0413 q →
    c = s.ctx 0x0413 q →
    s.accepts 0x0413 q = true →
    (c.payload.length = 8 ∧ mdioOk c.payload true = true) →
    (u.mdioQueue (leAt c.payload 0 1) = [] ∧ leAt c.payload 1 1 = 45) →
    v = u.mdioStart (leAt c.payload 0 1) c.payload true →
    exec (.ethMdioWrite q) s = .next (State.finish ((v.openTicket c []).2.setMdio (leAt c.payload 0 1) ((v.openTicket c []).2.mdioQueue (leAt c.payload 0 1) ++ [(c.client, (v.openTicket c []).1, c.payload)])) 0x0413 q ⟨stPending, [], (v.openTicket c []).1, 0⟩)) ∧
  (∀ (q : Req) (s u : State) (c : Ctx) (v : State),
    u = s.served 0x0413 q →
    c = s.ctx 0x0413 q →
    s.accepts 0x0413 q = true →
    (c.payload.length = 8 ∧ mdioOk c.payload true = true) →
    u.mdioQueue (leAt c.payload 0 1) ≠ [] →
    v = (u.openTicket c []).2 →
    exec (.ethMdioWrite q) s = .next (State.reply (v.setMdio (leAt c.payload 0 1) (v.mdioQueue (leAt c.payload 0 1) ++ [(c.client, (u.openTicket c []).1, c.payload)])) 0x0413 q stPending [] (u.openTicket c []).1))

/-- The CAN commands recover, restrict, send and describe a Lane, and stage its selective wake. For every request that
passes checks 1 to 10 of R92, with n the Lane named: CAN.BUS_OFF_RECOVER in bus-off starts recovery unless it runs;
CAN.RESTRICTED_SET outside bus-off with 1 sets RESTRICTED, or schedules it while a frame is in flight, and with 0
clears it; CAN.TX_FRAME of a well-formed record that the enabled Channel carries, with a completion granule where one
is asked for, enqueues the frame, or arms the comparator with AT_TIME_EN; CAN.TX_AT_TIME arms the free comparator;
CAN.SWAKE_SET with fields in range stages the filter; CAN.ERROR_STATE answers CAN_ERR_STATUS, CAN_STATUS and the count
of lonely discards. -/
def Obligations.CanCommandsComplete : Prop :=
  (∀ (q : Req) (s u : State) (c : Ctx) (n : Nat),
    u = s.served 0x0510 q →
    c = s.ctx 0x0510 q →
    s.accepts 0x0510 q = true →
    n = (orefOf c.payload).chan - 24 →
    u.getF (CanStatus.errState n) = 2 →
    exec (.canBusOffRecover q) s = .next (State.finish (if u.flag (CanStatus.recovering n) then u else u.canRecoverStart n) 0x0510 q ⟨stDone, [], 0, 0⟩)) ∧
  (∀ (q : Req) (s u : State) (c : Ctx) (n : Nat),
    u = s.served 0x0511 q →
    c = s.ctx 0x0511 q →
    s.accepts 0x0511 q = true →
    n = (orefOf c.payload).chan - 24 →
    leAt c.payload 8 4 = 1 →
    u.getF (CanStatus.errState n) ≠ 2 →
    exec (.canRestrictedSet q) s = .next (State.finish (if u.flag (CanStatus.restricted n) then u
      else if (u.canLane n).inFlight.isSome then u.setCan n { u.canLane n with restrictPend := true } else u.setF (CanStatus.restricted n) 1) 0x0511 q ⟨stDone, [], 0, 0⟩)) ∧
  (∀ (q : Req) (s u : State) (c : Ctx) (n : Nat),
    u = s.served 0x0511 q →
    c = s.ctx 0x0511 q →
    s.accepts 0x0511 q = true →
    n = (orefOf c.payload).chan - 24 →
    leAt c.payload 8 4 = 0 →
    u.getF (CanStatus.errState n) ≠ 2 →
    exec (.canRestrictedSet q) s = .next (State.finish (State.setF (u.setCan n { u.canLane n with restrictPend := false, recheck := if u.flag (CanStatus.restricted n) then (u.canLane n).fifo.length else (u.canLane n).recheck, tried := if u.flag (CanStatus.restricted n) then none else (u.canLane n).tried })
      (CanStatus.restricted n) 0) 0x0511 q ⟨stDone, [], 0, 0⟩)) ∧
  (∀ (q : Req) (s u : State) (c : Ctx) (n : Nat) (r : List Byte) (t : State),
    u = s.served 0x0512 q →
    c = s.ctx 0x0512 q →
    s.accepts 0x0512 q = true →
    n = (orefOf c.payload).chan - 24 →
    txRecordOf c.payload = some r →
    (u.canClosed n = false ∧ txRecordOk r = true ∧ u.canCarries n r = true) →
    (bitOf (leAt r 14 1) 3 = true → u.txcFree n ≠ 0) →
    bitOf (leAt r 14 1) 4 = false →
    State.canEnqueueTx (if bitOf (leAt r 14 1) 3 then u.txcReserve n else u) n r (if bitOf (leAt r 14 1) 3 then some 0xFFFF else none) = some t →
    exec (.canTxFrame q) s = .next (State.finish t 0x0512 q ⟨stDone, [], 0, 0⟩)) ∧
  (∀ (q : Req) (s u : State) (c : Ctx) (n : Nat) (r : List Byte),
    u = s.served 0x0512 q →
    c = s.ctx 0x0512 q →
    s.accepts 0x0512 q = true →
    n = (orefOf c.payload).chan - 24 →
    txRecordOf c.payload = some r →
    (u.canClosed n = false ∧ txRecordOk r = true ∧ u.canCarries n r = true) →
    (bitOf (leAt r 14 1) 3 = true → u.txcFree n ≠ 0) →
    (bitOf (leAt r 14 1) 4 = true ∧ (u.canLane n).at_ = none) →
    exec (.canTxFrame q) s = .next (State.finish (State.atArm (if bitOf (leAt r 14 1) 3 then u.txcReserve n else u) n (txStored r u.strand) (leAt r 8 6)
      (if bitOf (leAt r 14 1) 3 then some 0xFFFF else none)) 0x0512 q ⟨stDone, [], 0, 0⟩)) ∧
  (∀ (q : Req) (s u : State) (c : Ctx) (n : Nat) (r : List Byte),
    u = s.served 0x0513 q →
    c = s.ctx 0x0513 q →
    s.accepts 0x0513 q = true →
    n = (orefOf c.payload).chan - 24 →
    txRecordOf c.payload = some r →
    (u.canClosed n = false ∧ (u.canLane n).at_ = none ∧ txRecordOk r = true ∧ u.canCarries n r = true) →
    (bitOf (leAt r 14 1) 3 = true → u.txcFree n ≠ 0) →
    exec (.canTxAtTime q) s = .next (State.finish (State.atArm (if bitOf (leAt r 14 1) 3 then u.txcReserve n else u) n (txStored r u.strand) (leAt r 8 6)
      (if bitOf (leAt r 14 1) 3 then some 0xFFFF else none)) 0x0513 q ⟨stDone, [], 0, 0⟩)) ∧
  (∀ (q : Req) (s u : State) (c : Ctx) (d : Draft),
    u = s.served 0x0514 q →
    c = s.ctx 0x0514 q →
    s.accepts 0x0514 q = true →
    (c.payload.length = 28 ∧ (orefOf c.payload).chan ≤ 39) →
    (leAt c.payload 8 1 ≤ 1 ∧ leAt c.payload 9 1 ≤ 3 ∧ leAt c.payload 10 1 ≤ 8 ∧ leAt c.payload 11 1 = 0) →
    (leAt c.payload 12 4 < 2 ^ 29 ∧ leAt c.payload 16 4 < 2 ^ 29 ∧ (bitOf (leAt c.payload 9 1) 0 = false → leAt c.payload 12 4 < 2 ^ 11)) →
    u.draft c.client c.txn = some d →
    (u.locked c.client [lockOf (pkey (orefOf c.payload).key pidSwake)] = false ∧ u.draftRoom c = true) →
    exec (.canSwakeSet q) s = .next (State.reply (u.putChanges c d [(pkey (orefOf c.payload).key pidSwake, leAt c.payload 8 20)]) 0x0514 q stDone)) ∧
  (∀ (q : Req) (s u : State) (c : Ctx) (n : Nat),
    u = s.served 0x0515 q →
    c = s.ctx 0x0515 q →
    s.accepts 0x0515 q = true →
    n = (orefOf c.payload).chan - 24 →
    exec (.canErrorState q) s = .next (State.reply u 0x0515 q stDone (leBytes 4 (u.reg (CanErrStatus.off n)).toNat ++ leBytes 4 (u.reg (CanStatus.off n)).toNat ++
      leBytes 1 (u.canLane n).noAckRun ++ zeros 3)))

/-- The LIN commands select schedules, put the bus to sleep and wake it, and stage tables. For every request that passes
checks 1 to 10 of R92, with n the Channel named: LIN.SCHEDULE_SET with entries in range stages the number of entries
and the entries; LIN.SCHEDULE_SELECT at a commander that is not going to sleep notes the table and the action for the
slot's end while a schedule runs, and otherwise starts the table for action 0; LIN.GOTO_SLEEP at a commander waits for
the slot's end while a slot runs, and otherwise sends the sleep command; LIN.WAKEUP_SEND of an active role with no
schedule running drives the wake-up pulse; LIN.RESPONSE_SET with every byte in range stages the frame table. -/
def Obligations.LinCommandsComplete : Prop :=
  (∀ (q : Req) (s u : State) (c : Ctx) (d : Draft) (k : Nat) (ch : List (Nat × Nat)),
    u = s.served 0x0610 q →
    c = s.ctx 0x0610 q →
    s.accepts 0x0610 q = true →
    ((orefOf c.payload).typ = 0x16 ∧ leAt c.payload 8 2 ≤ 64 ∧ c.payload.length = 12 + 8 * leAt c.payload 8 2 ∧ leAt c.payload 10 2 = 0) →
    ((∀ i, i < leAt c.payload 8 2 → schedOk (leAt c.payload (12 + 8 * i) 8) = true)) →
    (k = (orefOf c.payload).key ∧ ch = [(pkey k (pidRaw 0), leAt c.payload 8 2), (pkey k (pidRaw 1), leVal (c.payload.drop 12))]) →
    u.draft c.client c.txn = some d →
    (u.locked c.client (ch.map (fun kv => lockOf kv.1)) = false ∧ u.draftRoom c = true) →
    exec (.linScheduleSet q) s = .next (State.reply (u.putChanges c d ch) 0x0610 q stDone)) ∧
  (∀ (q : Req) (s u : State) (c : Ctx) (n : Nat) (v : State),
    u = s.served 0x0611 q →
    c = s.ctx 0x0611 q →
    s.accepts 0x0611 q = true →
    (n = (orefOf c.payload).chan - 88 ∧ (orefOf c.payload).typ = 0x16 ∧ leAt c.payload 8 4 ≤ 1) →
    (u.getF (LinStatus.roleActive n) = 1 ∧ (u.linLane n).sleepPend = false ∧ (u.linLane n).slot ≠ .sleep) →
    v = u.setLin n { u.linLane n with restartAt := none, wakeRestart := false, lastTable := if leAt c.payload 8 4 = 0 then some (orefOf c.payload).idx else (u.linLane n).lastTable } →
    exec (.linScheduleSelect q) s = .next (State.finish (if v.flag (LinStatus.running n) || (u.linLane n).slot != .idle then v.setLin n { v.linLane n with select := some ((orefOf c.payload).idx, leAt c.payload 8 4) }
      else if leAt c.payload 8 4 = 0 then v.linStartTable n (orefOf c.payload).idx else v) 0x0611 q ⟨stDone, [], 0, 0⟩)) ∧
  (∀ (q : Req) (s u : State) (c : Ctx) (n : Nat),
    u = s.served 0x0612 q →
    c = s.ctx 0x0612 q →
    s.accepts 0x0612 q = true →
    (n = (orefOf c.payload).chan - 88 ∧ (orefOf c.payload).typ = 0x04) →
    u.getF (LinStatus.roleActive n) = 1 →
    exec (.linGotoSleep q) s = .next (State.finish (if u.flag (LinStatus.running n) || (u.linLane n).slot != .idle then u.setLin n { u.linLane n with sleepPend := true } else u.linSendSleep n) 0x0612 q ⟨stDone, [], 0, 0⟩)) ∧
  (∀ (q : Req) (s u : State) (c : Ctx) (n : Nat),
    u = s.served 0x0613 q →
    c = s.ctx 0x0613 q →
    s.accepts 0x0613 q = true →
    (n = (orefOf c.payload).chan - 88 ∧ (orefOf c.payload).typ = 0x04) →
    (u.getF (LinStatus.roleActive n) ≠ 0 ∧ u.flag (LinStatus.running n) = false) →
    exec (.linWakeupSend q) s = .next (State.finish (u.linPulse n) 0x0613 q ⟨stDone, [], 0, 0⟩)) ∧
  (∀ (q : Req) (s u : State) (c : Ctx) (d : Draft) (n : Nat),
    u = s.served 0x0614 q →
    c = s.ctx 0x0614 q →
    s.accepts 0x0614 q = true →
    (n = (orefOf c.payload).chan - 88 ∧ (orefOf c.payload).typ = 0x04 ∧ leVal ((c.payload.drop 8).drop 60) = 0) →
    ((∀ b ∈ c.payload.drop 8, linDir b.toNat ≤ 2 ∧ bitOf b.toNat 3 = false ∧ bitOf b.toNat 7 = false)) →
    u.draft c.client c.txn = some d →
    (u.locked c.client [lockOf (pkey (oChan (88 + n)) pidFrameTable)] = false ∧ u.draftRoom c = true) →
    exec (.linResponseSet q) s = .next (State.reply (u.putChanges c d [(pkey (oChan (88 + n)) pidFrameTable, leVal (c.payload.drop 8))]) 0x0614 q stDone))

/-- The FDB commands stage, delete and look up entries, flush, and stage ageing and learning. For every request that
passes checks 1 to 10 of R92: FDB.ADD_STATIC with values in range stages the static entry in the way of its bucket
that R230 gives it and answers that index; FDB.DELETE stages the removal of the static entry that holds the key;
FDB.FLUSH with values in range, while no other client has a bucket locked, goes PENDING under a new ticket that
holds the locks of the buckets (log entry 93); FDB.LOOKUP
answers the index and the entry that holds the key; FDB.AGEING_SET stages 0 or 10 to 1,000,000; FDB.LEARN_SET stages
the enable and the limit 1 to 32,768 of a Channel. -/
def Obligations.FdbCommandsComplete : Prop :=
  (∀ (q : Req) (s u : State) (c : Ctx) (w e : Nat) (d : Draft),
    u = s.served 0x0710 q →
    c = s.ctx 0x0710 q →
    s.accepts 0x0710 q = true →
    (orefOf c.payload).typ = 0x01 →
    ((leAt c.payload 14 2) < 4096 ∧ leAt c.payload 16 4 < 2 ^ 23 ∧ leAt c.payload 20 4 ≤ 1) →
    u.locked c.client [fdbLock (fdbBucket (sliceB c.payload 8 6) (leAt c.payload 14 2) * 8)] = false →
    u.fdbPlace c (sliceB c.payload 8 6) (leAt c.payload 14 2) = some w →
    e = leVal (sliceB c.payload 8 6) + (leAt c.payload 14 2) * 2 ^ 48 + 3 * 2 ^ 60 + leAt c.payload 20 4 * 2 ^ 63 + leAt c.payload 16 4 * 2 ^ 64 →
    u.draft c.client c.txn = some d →
    (u.locked c.client [lockOf (pkey (oFdb w) (pidRaw 0))] = false ∧ u.draftRoom c = true) →
    exec (.fdbAddStatic q) s = .next (State.reply (u.putChanges c d [(pkey (oFdb w) (pidRaw 0), e)]) 0x0710 q stDone (leBytes 4 w))) ∧
  (∀ (q : Req) (s u : State) (c : Ctx) (w : Nat) (d : Draft),
    u = s.served 0x0711 q →
    c = s.ctx 0x0711 q →
    s.accepts 0x0711 q = true →
    (orefOf c.payload).typ = 0x01 →
    (leAt c.payload 14 2) < 4096 →
    u.locked c.client [fdbLock (fdbBucket (sliceB c.payload 8 6) (leAt c.payload 14 2) * 8)] = false →
    u.fdbFindStatic c (sliceB c.payload 8 6) (leAt c.payload 14 2) = some w →
    u.draft c.client c.txn = some d →
    (u.locked c.client [lockOf (pkey (oFdb w) (pidRaw 0))] = false ∧ u.draftRoom c = true) →
    exec (.fdbDelete q) s = .next (State.reply (u.putChanges c d [(pkey (oFdb w) (pidRaw 0), 0)]) 0x0711 q stDone)) ∧
  (∀ (q : Req) (s u : State) (c : Ctx),
    u = s.served 0x0712 q →
    c = s.ctx 0x0712 q →
    s.accepts 0x0712 q = true →
    (orefOf c.payload).typ = 0x01 →
    u.locked c.client fdbLocks = false →
    (leAt c.payload 8 4 < 2 ^ 23 ∧ leAt c.payload 14 2 = 0 ∧ (leAt c.payload 12 2 = 0xFFFF ∨ leAt c.payload 12 2 ≤ 4095)) →
    exec (.fdbFlush q) s = .next (State.reply (u.openTicket c fdbLocks).2 0x0712 q stPending [] (u.openTicket c fdbLocks).1)) ∧
  (∀ (q : Req) (s u : State) (c : Ctx) (w : Nat),
    u = s.served 0x0713 q →
    c = s.ctx 0x0713 q →
    s.accepts 0x0713 q = true →
    (orefOf c.payload).typ = 0x01 →
    (leAt c.payload 14 2) < 4096 →
    u.fdbLook c (sliceB c.payload 8 6) (leAt c.payload 14 2) = some w →
    exec (.fdbLookup q) s = .next (State.reply u 0x0713 q stDone (leBytes 4 w ++ leBytes 16 (u.fdbView c w)))) ∧
  (∀ (q : Req) (s u : State) (c : Ctx) (d : Draft),
    u = s.served 0x0714 q →
    c = s.ctx 0x0714 q →
    s.accepts 0x0714 q = true →
    (orefOf c.payload).typ = 0x01 →
    (leAt c.payload 8 4 = 0 ∨ (10 ≤ leAt c.payload 8 4 ∧ leAt c.payload 8 4 ≤ 1000000)) →
    u.draft c.client c.txn = some d →
    (u.locked c.client [lockOf (pkey oDeck pidAgeing)] = false ∧ u.draftRoom c = true) →
    exec (.fdbAgeingSet q) s = .next (State.reply (u.putChanges c d [(pkey oDeck pidAgeing, leAt c.payload 8 4)]) 0x0714 q stDone)) ∧
  (∀ (q : Req) (s u : State) (c : Ctx) (ch : List (Nat × Nat)) (d : Draft),
    u = s.served 0x0715 q →
    c = s.ctx 0x0715 q →
    s.accepts 0x0715 q = true →
    (orefOf c.payload).typ = 0x04 →
    (leAt c.payload 8 1 ≤ 1 ∧ leAt c.payload 9 3 = 0 ∧ 1 ≤ leAt c.payload 12 4 ∧ leAt c.payload 12 4 ≤ 32768) →
    ch = [(pkey (orefOf c.payload).key pidLearnEn, leAt c.payload 8 1), (pkey (orefOf c.payload).key pidLearnLimit, leAt c.payload 12 4)] →
    u.draft c.client c.txn = some d →
    (u.locked c.client (ch.map (fun kv => lockOf kv.1)) = false ∧ u.draftRoom c = true) →
    exec (.fdbLearnSet q) s = .next (State.reply (u.putChanges c d ch) 0x0715 q stDone))

/-- The ROUTE commands open, show and end drafts, and stage Direct, Hash and Fallback entries. For every request that
passes checks 1 to 10 of R92: ROUTE.DRAFT_OPEN of a client with no draft, of four at most, opens one and answers its
handle; ROUTE.COMMIT of a valid draft answers the changes of a dry run, switches the epoch at once with nothing in the
way (and ends this Deck's quarantine where the cascade client commits with CHECK_BASE), or goes PENDING while older
entries are kept, a commit waits before it or a table is dumped; ROUTE.DRAFT_DISCARD ends the caller's draft; ROUTE.DRAFT_STATUS
answers the storage used, the age and the objects changed; ROUTE.EPOCH answers the epoch, the commit ID and the switch
time; ROUTE.DIRECT_SET stages 1 to 496 entries below 16,384; ROUTE.HASH_SET with OP 1 stages the entry in the way R234
gives and with OP 2 its removal, and answers the index; ROUTE.FALLBACK_SET stages an entry whose fields a Fallback may
use. -/
def Obligations.RouteCommandsComplete : Prop :=
  (∀ (q : Req) (s u : State) (c : Ctx) (n : Nat),
    u = s.served 0x0810 q →
    c = s.ctx 0x0810 q →
    s.accepts 0x0810 q = true →
    ((∀ e ∈ u.gci.drafts, e.client ≠ c.client)) →
    u.gci.drafts.length < 4 →
    n = (Config.handleBase + u.gci.draftCount) % (2 ^ 32 - 1) + 1 →
    exec (.routeDraftOpen q) s = .next (State.reply { u with gci := { u.gci with drafts := u.gci.drafts ++ [({ handle := n, client := c.client, lastUse := u.strand, bytes := 0, changes := [] } : Draft)], draftCount := u.gci.draftCount + 1 } } 0x0810 q stDone (leBytes 4 n))) ∧
  (∀ (q : Req) (s u : State) (c : Ctx) (d : Draft) (v : State),
    u = s.served 0x0811 q →
    c = s.ctx 0x0811 q →
    s.accepts 0x0811 q = true →
    u.draft c.client c.txn = some d →
    v = u.useDraft d →
    (bitsOf (leAt c.payload 4 4) 31 2 = 0 ∧ v.commitCheck d (leAt c.payload 0 4) (leAt c.payload 4 4) = none) →
    bitOf (leAt c.payload 4 4) 0 = true →
    exec (.routeCommit q) s = .next (State.reply v 0x0811 q stDone (leBytes 4 0 ++ leBytes 4 (v.changedCount (finalChanges d.changes))))) ∧
  (∀ (q : Req) (s u : State) (c : Ctx) (d : Draft) (v : State),
    u = s.served 0x0811 q →
    c = s.ctx 0x0811 q →
    s.accepts 0x0811 q = true →
    u.draft c.client c.txn = some d →
    v = u.useDraft d →
    (bitsOf (leAt c.payload 4 4) 31 2 = 0 ∧ v.commitCheck d (leAt c.payload 0 4) (leAt c.payload 4 4) = none) →
    bitOf (leAt c.payload 4 4) 0 = false →
    (v.oldCfg = none ∧ v.gci.commits = [] ∧ v.dumping = false) →
    exec (.routeCommit q) s = .next (State.finish (((v.dropDraft d.handle).switchEpoch (finalChanges d.changes) (nextEpoch v.gci.epoch)).quarCommit d.client (leAt c.payload 4 4)) 0x0811 q ⟨stDone, leBytes 4 (nextEpoch v.gci.epoch) ++ leBytes 4 (v.changedCount (finalChanges d.changes)), 0, 0⟩)) ∧
  (∀ (q : Req) (s u : State) (c : Ctx) (d : Draft) (v : State) (o : Resp × State),
    u = s.served 0x0811 q →
    c = s.ctx 0x0811 q →
    s.accepts 0x0811 q = true →
    u.draft c.client c.txn = some d →
    v = u.useDraft d →
    (bitsOf (leAt c.payload 4 4) 31 2 = 0 ∧ v.commitCheck d (leAt c.payload 0 4) (leAt c.payload 4 4) = none) →
    bitOf (leAt c.payload 4 4) 0 = false →
    (v.oldCfg.isSome = true ∨ v.gci.commits ≠ [] ∨ v.dumping = true) →
    o = v.commitWait c d (leAt c.payload 0 4) (leAt c.payload 4 4) →
    exec (.routeCommit q) s = .next (State.finish o.2 0x0811 q o.1)) ∧
  (∀ (q : Req) (s u : State) (c : Ctx) (d : Draft),
    u = s.served 0x0812 q →
    c = s.ctx 0x0812 q →
    s.accepts 0x0812 q = true →
    u.draft c.client (leAt c.payload 0 4) = some d →
    exec (.routeDraftDiscard q) s = .next (State.reply (u.dropDraft (leAt c.payload 0 4)) 0x0812 q stDone)) ∧
  (∀ (q : Req) (s u : State) (c : Ctx) (d : Draft) (l : List Nat),
    u = s.served 0x0813 q →
    c = s.ctx 0x0813 q →
    s.accepts 0x0813 q = true →
    u.draft c.client c.txn = some d →
    l = (d.objects.drop (leAt c.payload 0 4)).take 124 →
    exec (.routeDraftStatus q) s = .next (State.reply u 0x0813 q stDone (leBytes 4 d.bytes ++ leBytes 4 (strandDiff u.strand d.lastUse / msC 1) ++ leBytes 4 d.objects.length ++
      leBytes 4 l.length ++ l.flatMap (fun k => orefBytes (keyOref u.ownDeck k))))) ∧
  (∀ (q : Req) (s u : State) (c : Ctx),
    u = s.served 0x0814 q →
    c = s.ctx 0x0814 q →
    s.accepts 0x0814 q = true →
    (orefOf c.payload).typ = 0x01 →
    exec (.routeEpoch q) s = .next (State.reply u 0x0814 q stDone (leBytes 4 u.gci.epoch ++ leBytes 4 u.pier.commitId ++ leBytes 6 u.gci.switchAt ++ zeros 2))) ∧
  (∀ (q : Req) (s u : State) (c : Ctx) (n : Nat) (ch : List (Nat × Nat)) (d : Draft),
    u = s.served 0x0815 q →
    c = s.ctx 0x0815 q →
    s.accepts 0x0815 q = true →
    ((orefOf c.payload).typ = 0x0B ∧ 1 ≤ n ∧ n ≤ 496 ∧ n = leAt c.payload 8 2 ∧ c.payload.length = 12 + 2 * n ∧ leAt c.payload 10 2 = 0 ∧ (orefOf c.payload).idx + n ≤ 2048) →
    ((∀ i, i < n → leAt c.payload (12 + 2 * i) 2 < 16384)) →
    ch = (List.range n).map (fun i => (pkey (oDirect (orefOf c.payload).chan ((orefOf c.payload).idx + i)) (pidRaw 0), leAt c.payload (12 + 2 * i) 2)) →
    u.draft c.client c.txn = some d →
    (u.locked c.client (ch.map (fun kv => lockOf kv.1)) = false ∧ u.draftRoom c = true) →
    exec (.routeDirectSet q) s = .next (State.reply (u.putChanges c d ch) 0x0815 q stDone)) ∧
  (∀ (q : Req) (s u : State) (c : Ctx) (w e : Nat) (d : Draft),
    u = s.served 0x0816 q →
    c = s.ctx 0x0816 q →
    s.accepts 0x0816 q = true →
    ((leAt c.payload 8 1) ≤ 63 ∧ (leAt c.payload 12 4) < 2 ^ 29 ∧ leAt c.payload 10 2 = 0 ∧ leAt c.payload 18 2 = 0) →
    ((orefOf c.payload).typ = 0x01 ∧ leAt c.payload 9 1 = 1 ∧ 1 ≤ leAt c.payload 16 2 ∧ leAt c.payload 16 2 ≤ 16383) →
    (u.absentVariant = true → (leAt c.payload 8 1) < 32) →
    u.locked c.client [lockOf (pkey (oHash (hashBucket (leAt c.payload 8 1) (leAt c.payload 12 4) * 4)) (pidRaw 0))] = false →
    u.hashPlace c (leAt c.payload 8 1) (leAt c.payload 12 4) = some w →
    e = (leAt c.payload 12 4) + 2 ^ 29 + leAt c.payload 16 2 * 2 ^ 32 + (leAt c.payload 8 1) * 2 ^ 48 →
    u.draft c.client c.txn = some d →
    (u.locked c.client [lockOf (pkey (oHash w) (pidRaw 0))] = false ∧ u.draftRoom c = true) →
    exec (.routeHashSet q) s = .next (State.reply (u.putChanges c d [(pkey (oHash w) (pidRaw 0), e)]) 0x0816 q stDone (leBytes 4 w))) ∧
  (∀ (q : Req) (s u : State) (c : Ctx) (w : Nat) (d : Draft),
    u = s.served 0x0816 q →
    c = s.ctx 0x0816 q →
    s.accepts 0x0816 q = true →
    ((leAt c.payload 8 1) ≤ 63 ∧ (leAt c.payload 12 4) < 2 ^ 29 ∧ leAt c.payload 10 2 = 0 ∧ leAt c.payload 18 2 = 0) →
    ((orefOf c.payload).typ = 0x01 ∧ leAt c.payload 9 1 = 2) →
    (u.absentVariant = true → (leAt c.payload 8 1) < 32) →
    u.locked c.client [lockOf (pkey (oHash (hashBucket (leAt c.payload 8 1) (leAt c.payload 12 4) * 4)) (pidRaw 0))] = false →
    u.hashHolder c (leAt c.payload 8 1) (leAt c.payload 12 4) = some w →
    u.draft c.client c.txn = some d →
    (u.locked c.client [lockOf (pkey (oHash w) (pidRaw 0))] = false ∧ u.draftRoom c = true) →
    exec (.routeHashSet q) s = .next (State.reply (u.putChanges c d [(pkey (oHash w) (pidRaw 0), 0)]) 0x0816 q stDone (leBytes 4 w))) ∧
  (∀ (q : Req) (s u : State) (c : Ctx) (d : Draft),
    u = s.served 0x0817 q →
    c = s.ctx 0x0817 q →
    s.accepts 0x0817 q = true →
    (orefOf c.payload).typ = 0x0E →
    fallbackOk (leAt c.payload 8 32) = true →
    u.draft c.client c.txn = some d →
    (u.locked c.client [lockOf (pkey (orefOf c.payload).key pidEntry)] = false ∧ u.draftRoom c = true) →
    exec (.routeFallbackSet q) s = .next (State.reply (u.putChanges c d [(pkey (orefOf c.payload).key pidEntry, leAt c.payload 8 32)]) 0x0817 q stDone))

/-- The SIG commands stage programs, PDUs and signals, read and inject signals, and answer the admission figures. For
every request that passes checks 1 to 10 of R92: SIG.PROGRAM_LOAD of 1 to 124 instructions whose bits their rows of
R288 list, SIG.PDU_SET of 1 to 31 definitions and SIG.SIGNAL_SET of 1 to 62 definitions in range stage the entries
from the index named on; SIG.SIGNAL_READ answers the 16-byte slots of 1 to 62 signals; SIG.SIGNAL_INJECT writes the
slot with VALID, UPDATED and INJECTED set, the Strand count and SEQ plus 1, and nothing else (the value extended from
WIDTH: DEDUCED, log entry 34); SIG.ADMISSION answers the slack, its kind and the figures of R305 over the caller's
draft. -/
def Obligations.SigCommandsComplete : Prop :=
  (∀ (q : Req) (s u : State) (c : Ctx) (n : Nat) (ch : List (Nat × Nat)) (d : Draft),
    u = s.served 0x0910 q →
    c = s.ctx 0x0910 q →
    s.accepts 0x0910 q = true →
    ((orefOf c.payload).typ = 0x13 ∧ 1 ≤ n ∧ n ≤ 124 ∧ n = leAt c.payload 8 2 ∧ c.payload.length = 12 + 8 * n ∧ leAt c.payload 10 2 = 0 ∧ (orefOf c.payload).idx + n ≤ 262144) →
    ch = (List.range n).map (fun i => (pkey (oIdx 0x13 ((orefOf c.payload).idx + i)) pidInstr, leAt c.payload (12 + 8 * i) 8)) →
    ((∀ i, i < n → instrOk (leAt c.payload (12 + 8 * i) 8) = true)) →
    u.draft c.client c.txn = some d →
    (u.locked c.client (ch.map (fun kv => lockOf kv.1)) = false ∧ u.draftRoom c = true) →
    exec (.sigProgramLoad q) s = .next (State.reply (u.putChanges c d ch) 0x0910 q stDone)) ∧
  (∀ (q : Req) (s u : State) (c : Ctx) (n : Nat) (ch : List (Nat × Nat)) (d : Draft),
    u = s.served 0x0911 q →
    c = s.ctx 0x0911 q →
    s.accepts 0x0911 q = true →
    ((orefOf c.payload).typ = 0x11 ∧ 1 ≤ n ∧ n ≤ 31 ∧ n = leAt c.payload 8 2 ∧ c.payload.length = 12 + 32 * n ∧ leAt c.payload 10 2 = 0 ∧ (orefOf c.payload).idx + n ≤ 16384) →
    ch = (List.range n).map (fun i => (pkey (oIdx 0x11 ((orefOf c.payload).idx + i)) pidEntry, leAt c.payload (12 + 32 * i) 32)) →
    ((∀ i, i < n → pduOk (leAt c.payload (12 + 32 * i) 32) = true)) →
    u.draft c.client c.txn = some d →
    (u.locked c.client (ch.map (fun kv => lockOf kv.1)) = false ∧ u.draftRoom c = true) →
    exec (.sigPduSet q) s = .next (State.reply (u.putChanges c d ch) 0x0911 q stDone)) ∧
  (∀ (q : Req) (s u : State) (c : Ctx) (n : Nat) (ch : List (Nat × Nat)) (d : Draft),
    u = s.served 0x0912 q →
    c = s.ctx 0x0912 q →
    s.accepts 0x0912 q = true →
    ((orefOf c.payload).typ = 0x10 ∧ 1 ≤ n ∧ n ≤ 62 ∧ n = leAt c.payload 8 2 ∧ c.payload.length = 12 + 16 * n ∧ leAt c.payload 10 2 = 0 ∧ (orefOf c.payload).idx + n ≤ 65536) →
    ch = (List.range n).map (fun i => (pkey (oIdx 0x10 ((orefOf c.payload).idx + i)) pidEntry, leAt c.payload (12 + 16 * i) 16)) →
    ((∀ i, i < n → signalOk (leAt c.payload (12 + 16 * i) 16) = true)) →
    u.draft c.client c.txn = some d →
    (u.locked c.client (ch.map (fun kv => lockOf kv.1)) = false ∧ u.draftRoom c = true) →
    exec (.sigSignalSet q) s = .next (State.reply (u.putChanges c d ch) 0x0912 q stDone)) ∧
  (∀ (q : Req) (s u : State) (c : Ctx),
    u = s.served 0x0913 q →
    c = s.ctx 0x0913 q →
    s.accepts 0x0913 q = true →
    ((orefOf c.payload).typ = 0x10 ∧ 1 ≤ leAt c.payload 8 2 ∧ leAt c.payload 8 2 ≤ 62 ∧ (orefOf c.payload).idx + leAt c.payload 8 2 ≤ 65536) →
    exec (.sigSignalRead q) s = .next (State.reply u 0x0913 q stDone ((List.range (leAt c.payload 8 2)).flatMap (fun i => (u.signal ((orefOf c.payload).idx + i)).bytes)))) ∧
  (∀ (q : Req) (s u : State) (c : Ctx) (k w : Nat),
    u = s.served 0x0914 q →
    c = s.ctx 0x0914 q →
    s.accepts 0x0914 q = true →
    (k = (orefOf c.payload).idx ∧ (orefOf c.payload).typ = 0x10) →
    w = (if sgDefined (u.entry (oSignal k)) then extend64 (sgSigned (u.entry (oSignal k))) (sgWidth (u.entry (oSignal k))) (leAt c.payload 8 8) else leAt c.payload 8 8) →
    exec (.sigSignalInject q) s = .next (State.reply (u.setSignal k { value := w, stamp := u.strand, valid := true, updated := true, injected := true, seq := ((u.signal k).seq + 1) % 256 }) 0x0914 q stDone)) ∧
  (∀ (q : Req) (s u : State) (c : Ctx) (a : Admission) (k : Nat),
    u = s.served 0x0915 q →
    c = s.ctx 0x0915 q →
    s.accepts 0x0915 q = true →
    a = (u.withDraft c).admission →
    a.kind = some k →
    exec (.sigAdmission q) s = .next (State.reply u 0x0915 q stDone (leBytes 4 (ofSigned 32 (a.slack.fdiv 64)) ++ orefBytes (keyOref u.ownDeck (oProgram k)) ++ admissionTail a))) ∧
  (∀ (q : Req) (s u : State) (c : Ctx) (a : Admission) (v : State),
    u = s.served 0x0915 q →
    c = s.ctx 0x0915 q →
    s.accepts 0x0915 q = true →
    a = (u.withDraft c).admission →
    a.kind = none →
    v = { u with freeCount := u.freeCount + 1 } →
    exec (.sigAdmission q) s = .next (State.reply v 0x0915 q stDone (leBytes 12 (Config.freeValue u.freeCount) ++ admissionTail a)))

/-- The QOS commands stage gate lists, shapers, meters, admission values and histograms, and answer them. For every
request that passes checks 1 to 10 of R92: QOS.GATE_LIST_SET of a list in range, inline or in a bulk buffer, stages the admin list; QOS.GATE_STATE
answers the record of R328; QOS.SHAPER_SET stages its three values; QOS.METER_SET stages 1 to 62 entries in range;
QOS.ADMISSION_SET stages the values that a SET of each parameter would take, without the Queues that the variant
lacks; QOS.HISTOGRAM_SET stages its enables, period and base; QOS.HISTOGRAM_READ answers SAMPLES and both histograms
and, with CLEAR set, clears them and no other counter. -/
def Obligations.QosCommandsComplete : Prop :=
  (∀ (q : Req) (s u : State) (c : Ctx) (k : Nat → Nat) (ch : List (Nat × Nat)) (d : Draft),
    u = s.served 0x0A10 q →
    c = s.ctx 0x0A10 q →
    s.accepts 0x0A10 q = true →
    c.bulk = none →
    ((orefOf c.payload).typ = 0x14 ∧ leAt c.payload 0x0A 2 ≤ 1024 ∧ (leAt c.payload 0x0A 2 = 0 → leAt c.payload 8 1 = 0) ∧ c.payload.length = 40 + 8 * leAt c.payload 0x0A 2) →
    (gateHeadOk c.payload = true ∧ (∀ i, i < leAt c.payload 0x0A 2 → gateEntryOk (leAt c.payload (0x28 + 8 * i) 8) = true)) →
    (k = fun (i : Nat) => pkey (orefOf c.payload).key (pidRaw i)) →
    ch = [(k 0, leAt c.payload 8 1), (k 1, leAt c.payload 0x0A 2), (k 2, leAt c.payload 0x0C 4), (k 3, leAt c.payload 0x10 8), (k 4, leAt c.payload 0x18 4), (k 5, leAt c.payload 0x20 8),
      (k 6, leVal (sliceB c.payload 0x28 (8 * leAt c.payload 0x0A 2)))] →
    u.draft c.client c.txn = some d →
    (u.locked c.client [lockOf (k 0)] = false ∧ u.locked c.client (ch.map (fun kv => lockOf kv.1)) = false ∧ u.draftRoom c = true) →
    exec (.qosGateListSet q) s = .next (State.reply (u.putChanges c d ch) 0x0A10 q stDone)) ∧
  (∀ (q : Req) (s u : State) (c : Ctx) (b : Bulk) (p : List Byte) (v : State) (k : Nat → Nat) (ch : List (Nat × Nat)) (d : Draft),
    u = s.served 0x0A10 q →
    c = s.ctx 0x0A10 q →
    s.accepts 0x0A10 q = true →
    (c.bulk = some b ∧ b.ok [0] = true ∧ u.bulkRead c b = (some p, v) ∧ v.orefBad c p = none) →
    ((orefOf p).typ = 0x14 ∧ leAt p 0x0A 2 ≤ 1024 ∧ (leAt p 0x0A 2 = 0 → leAt p 8 1 = 0) ∧ p.length = 40 + 8 * leAt p 0x0A 2) →
    (gateHeadOk p = true ∧ (∀ i, i < leAt p 0x0A 2 → gateEntryOk (leAt p (0x28 + 8 * i) 8) = true)) →
    (k = fun (i : Nat) => pkey (orefOf p).key (pidRaw i)) →
    ch = [(k 0, leAt p 8 1), (k 1, leAt p 0x0A 2), (k 2, leAt p 0x0C 4), (k 3, leAt p 0x10 8), (k 4, leAt p 0x18 4), (k 5, leAt p 0x20 8),
      (k 6, leVal (sliceB p 0x28 (8 * leAt p 0x0A 2)))] →
    v.draft c.client c.txn = some d →
    (v.locked c.client [lockOf (k 0)] = false ∧ v.locked c.client (ch.map (fun kv => lockOf kv.1)) = false ∧ v.draftRoom c = true) →
    exec (.qosGateListSet q) s = .next (State.finish (v.putChanges { c with payload := p } d ch) 0x0A10 q ⟨stDone, [], 0, 0⟩)) ∧
  (∀ (q : Req) (s u : State) (c : Ctx) (g : GateSt),
    u = s.served 0x0A11 q →
    c = s.ctx 0x0A11 q →
    s.accepts 0x0A11 q = true →
    (orefOf c.payload).typ = 0x14 →
    g = u.gate (orefOf c.payload).chan →
    g.oper.isSome = true →
    exec (.qosGateState q) s = .next (State.reply u 0x0A11 q stDone (u.gateRecord g 0))) ∧
  (∀ (q : Req) (s u : State) (c : Ctx) (g : GateSt) (v : State),
    u = s.served 0x0A11 q →
    c = s.ctx 0x0A11 q →
    s.accepts 0x0A11 q = true →
    (orefOf c.payload).typ = 0x14 →
    g = u.gate (orefOf c.payload).chan →
    g.oper = none →
    v = { u with freeCount := u.freeCount + 1 } →
    exec (.qosGateState q) s = .next (State.reply v 0x0A11 q stDone (v.gateRecord g (Config.freeValue u.freeCount)))) ∧
  (∀ (q : Req) (s u : State) (c : Ctx) (ch : List (Nat × Nat)) (d : Draft),
    u = s.served 0x0A12 q →
    c = s.ctx 0x0A12 q →
    s.accepts 0x0A12 q = true →
    ((orefOf c.payload).typ = 0x15 ∧ leAt c.payload 8 4 ≤ 10000000 ∧ leAt c.payload 12 4 ≤ 16777215 ∧ leAt c.payload 16 4 ≤ 16777215) →
    ch = (List.range 3).map (fun i => (pkey (orefOf c.payload).key (pidRaw i), leAt c.payload (8 + 4 * i) 4)) →
    u.draft c.client c.txn = some d →
    (u.locked c.client (ch.map (fun kv => lockOf kv.1)) = false ∧ u.draftRoom c = true) →
    exec (.qosShaperSet q) s = .next (State.reply (u.putChanges c d ch) 0x0A12 q stDone)) ∧
  (∀ (q : Req) (s u : State) (c : Ctx) (n : Nat) (ch : List (Nat × Nat)) (d : Draft),
    u = s.served 0x0A13 q →
    c = s.ctx 0x0A13 q →
    s.accepts 0x0A13 q = true →
    ((orefOf c.payload).typ = 0x0A ∧ 1 ≤ n ∧ n ≤ 62 ∧ n = leAt c.payload 8 2 ∧ c.payload.length = 12 + 16 * n ∧ leAt c.payload 10 2 = 0 ∧ (orefOf c.payload).idx + n ≤ 4096) →
    ch = (List.range n).map (fun i => (pkey (oIdx 0x0A ((orefOf c.payload).idx + i)) pidEntry, leAt c.payload (12 + 16 * i) 16)) →
    ((∀ i, i < n → meterOk (leAt c.payload (12 + 16 * i) 16) = true)) →
    u.draft c.client c.txn = some d →
    (u.locked c.client (ch.map (fun kv => lockOf kv.1)) = false ∧ u.draftRoom c = true) →
    exec (.qosMeterSet q) s = .next (State.reply (u.putChanges c d ch) 0x0A13 q stDone)) ∧
  (∀ (q : Req) (s u : State) (c : Ctx) (vs ch : List (Nat × Nat)) (d : Draft),
    u = s.served 0x0A14 q →
    c = s.ctx 0x0A14 q →
    s.accepts 0x0A14 q = true →
    ((orefOf c.payload).typ = 0x01 ∧ leAt c.payload 8 1 ≤ 3 ∧ leAt c.payload 9 1 = 0 ∧ leAt c.payload 0x0E 2 = 0 ∧ (leAt c.payload 0x0C 2 ≠ 0 ∨ leAt c.payload 8 1 ≠ 0)) →
    (leAt c.payload 0x0C 2 ≤ 488 ∧ c.payload.length = 0x20 + 2 * leAt c.payload 0x0C 2 ∧ leAt c.payload 0x0A 2 + leAt c.payload 0x0C 2 ≤ 2048 ∧ leAt c.payload 0x0A 2 ≤ 2047) →
    vs = admissionDeckVals c.payload ++ admissionQueueVals c.payload →
    ((∀ kv ∈ vs, paramTakes kv = true) ∧ u.locked c.client (vs.map (fun kv => lockOf kv.1)) = false) →
    ch = admissionDeckVals c.payload ++ (admissionQueueVals c.payload).filter (fun kv => !u.queueLacks c (keyIdx (pkeyObj kv.1))) →
    u.draft c.client c.txn = some d →
    (u.locked c.client (ch.map (fun kv => lockOf kv.1)) = false ∧ u.draftRoom c = true) →
    exec (.qosAdmissionSet q) s = .next (State.reply (u.putChanges c d ch) 0x0A14 q stDone)) ∧
  (∀ (q : Req) (s u : State) (c : Ctx) (ch : List (Nat × Nat)) (d : Draft),
    u = s.served 0x0A15 q →
    c = s.ctx 0x0A15 q →
    s.accepts 0x0A15 q = true →
    ((orefOf c.payload).typ = 0x05 ∧ leAt c.payload 8 1 ≤ 3 ∧ leAt c.payload 9 3 = 0 ∧ 1 ≤ leAt c.payload 12 4 ∧ leAt c.payload 12 4 ≤ 1000000 ∧ 10 ≤ leAt c.payload 16 4 ∧ leAt c.payload 16 4 ≤ 1000000) →
    ch = [(pkey (orefOf c.payload).key (pidRaw 0), leAt c.payload 8 1), (pkey (orefOf c.payload).key (pidRaw 1), leAt c.payload 12 4), (pkey (orefOf c.payload).key (pidRaw 2), leAt c.payload 16 4)] →
    u.draft c.client c.txn = some d →
    (u.locked c.client (ch.map (fun kv => lockOf kv.1)) = false ∧ u.draftRoom c = true) →
    exec (.qosHistogramSet q) s = .next (State.reply (u.putChanges c d ch) 0x0A15 q stDone)) ∧
  (∀ (q : Req) (s u : State) (c : Ctx) (l : List Nat),
    u = s.served 0x0A16 q →
    c = s.ctx 0x0A16 q →
    s.accepts 0x0A16 q = true →
    ((orefOf c.payload).typ = 0x05 ∧ leAt c.payload 8 4 ≤ 1) →
    l = (List.range 33).map (fun i => histSamples + i) →
    exec (.qosHistogramRead q) s = .next (State.reply (if bitOf (leAt c.payload 8 4) 0 then { u with ctrs := l.foldl (fun (t : Tab Nat) i => tabErase t (ckey (orefOf c.payload).key cQos i)) u.ctrs } else u) 0x0A16 q stDone (l.flatMap (fun i => leBytes 8 (u.ctr (orefOf c.payload).key cQos i)))))

/-- The TIME commands stage domains and outputs, answer the clocks, select the working clock and take captures. For every
request that passes checks 1 to 10 of R92: TIME.DOMAIN_SET with entries that R88 takes stages them; TIME.STATUS
answers the record of R359; TIME.WORKING_SELECT of a LOCKED domain makes it the primary and starts the switch;
TIME.OUTPUT_SET with values in range stages the output's eight values; TIME.CAPTURE_READ of 1 to 16 records answers
the oldest records converted at the read, with the number of drops since the last read, and removes them and no other
record. -/
def Obligations.TimeCommandsComplete : Prop :=
  (∀ (q : Req) (s u : State) (c : Ctx) (es : List (Nat × Nat × List Byte)) (ch : List (Nat × Nat)) (d : Draft),
    u = s.served 0x0B10 q →
    c = s.ctx 0x0B10 q →
    s.accepts 0x0B10 q = true →
    getEntries c.payload = .ok es →
    (orefOf c.payload).typ ≠ 0x0E →
    firstBad (u.setJudge c (orefOf c.payload).key es) 0 es = none →
    ch = es.map (fun e => (pkey (orefOf c.payload).key e.1, leVal e.2.2)) →
    u.draft c.client c.txn = some d →
    (u.locked c.client (ch.map (fun kv => lockOf kv.1)) = false ∧ u.draftRoom c = true) →
    exec (.timeDomainSet q) s = .next (State.reply (u.putChanges c d ch) 0x0B10 q stDone)) ∧
  (∀ (q : Req) (s u : State) (c : Ctx),
    u = s.served 0x0B11 q →
    c = s.ctx 0x0B11 q →
    s.accepts 0x0B11 q = true →
    exec (.timeStatus q) s = .next (State.reply u 0x0B11 q stDone (leBytes 1 (u.domainState 0) ++ leBytes 1 (u.domainState 1) ++ leBytes 1 (u.getF TimeStatus.source) ++
      leBytes 1 u.primary ++ leBytes 4 (ofSigned 32 (u.domain 0).offset) ++ leBytes 4 (ofSigned 32 (u.domain 1).offset) ++ leBytes 4 (ofSigned 32 (u.ratePpb 0)) ++ leBytes 4 (ofSigned 32 (u.ratePpb 1)) ++
      leBytes 4 (ofSigned 32 u.slewLeft) ++ leBytes 1 u.time.pier ++ zeros 3))) ∧
  (∀ (q : Req) (s u : State) (c : Ctx) (k : Nat),
    u = s.served 0x0B12 q →
    c = s.ctx 0x0B12 q →
    s.accepts 0x0B12 q = true →
    (k = (orefOf c.payload).idx ∧ k ≤ 1 ∧ (orefOf c.payload).typ = 0x18 ∧ leAt c.payload 8 4 ≤ 1) →
    u.domainState k = dsLocked →
    exec (.timeWorkingSelect q) s = .next (State.finish ((u.setWork { u.time.work with primary := some k }).workSwitch k (bitOf (leAt c.payload 8 4) 0)) 0x0B12 q ⟨stDone, [], 0, 0⟩)) ∧
  (∀ (q : Req) (s u : State) (c : Ctx) (ch : List (Nat × Nat)) (d : Draft),
    u = s.served 0x0B13 q →
    c = s.ctx 0x0B13 q →
    s.accepts 0x0B13 q = true →
    (orefOf c.payload).typ = 0x19 →
    outputBad c.payload = false →
    ch = (outputVals c.payload).zipIdx.map (fun (x : Nat × Nat) => (pkey (orefOf c.payload).key (pidRaw x.2), x.1)) →
    u.draft c.client c.txn = some d →
    (u.locked c.client (ch.map (fun kv => lockOf kv.1)) = false ∧ u.draftRoom c = true) →
    exec (.timeOutputSet q) s = .next (State.reply (u.putChanges c d ch) 0x0B13 q stDone)) ∧
  (∀ (q : Req) (s u : State) (c : Ctx) (v : CaptureSt) (l : List (Nat × Nat)),
    u = s.served 0x0B14 q →
    c = s.ctx 0x0B14 q →
    s.accepts 0x0B14 q = true →
    ((orefOf c.payload).typ = 0x1A ∧ 1 ≤ leAt c.payload 8 4 ∧ leAt c.payload 8 4 ≤ 16) →
    v = u.capture (orefOf c.payload).idx →
    l = v.recs.take (leAt c.payload 8 4) →
    exec (.timeCaptureRead q) s = .next (State.reply (u.setCapture (orefOf c.payload).idx { v with recs := v.recs.drop (leAt c.payload 8 4), dropsSince := 0 }) 0x0B14 q stDone (leBytes 2 l.length ++ leBytes 2 (min v.dropsSince 65535) ++ zeros 4 ++ l.flatMap (u.captureBytes (u.par (orefOf c.payload).key 0x0101)))))

/-- The SEC commands install and erase keys and associations, and set freshness values. For every request that passes
checks 1 to 10 of R92: SEC.KEY_INSTALL into an empty slot of a key its policy admits stores the key and its policy,
and a persistent one's copy, or answers ACCESS_FAILED with nothing stored where the Hatpin access fails; SEC.KEY_ERASE
aborts the bulk jobs on the slot, retires its associations, erases it and its persistent copy, or answers
ACCESS_FAILED with the slot kept where that write fails; SEC.SA_INSTALL installs the association and, for an enabled
transmit one, makes it the next in use; SEC.SA_RETIRE takes it out of use; SEC.FRESHNESS_SET stores the value. -/
def Obligations.KeyAndAssociationCommandsComplete : Prop :=
  (∀ (f : Bool) (q : Req) (s u : State) (c : Ctx) (key : List Byte),
    u = s.served 0x0C10 q →
    c = s.ctx 0x0C10 q →
    s.accepts 0x0C10 q = true →
    ((orefOf c.payload).typ = 0x1B ∧ (c.payload.drop 18).length = leAt c.payload 9 1 + (if leAt c.payload 15 1 == 1 then 8 else 0) ∧ keyPolicyBad c.payload = false) →
    (u.slot (orefOf c.payload).idx).empty = true →
    (leAt c.payload 15 1 ≠ 1 → u.openLife = true) →
    (leAt c.payload 15 1 = 1 → u.slotUsable (leAt c.payload 16 2) usWrap [6] = true) →
    (u.keyMaterial c.payload = some key ∧ keyBad c.payload (orefOf c.payload).idx key = false) →
    (bitOf (leAt c.payload 14 1) 0 = false ∨ f = false) →
    exec (.secKeyInstall f q) s = .next (State.reply (u.putKey c.payload (orefOf c.payload).idx key) 0x0C10 q stDone)) ∧
  (∀ (q : Req) (s u : State) (c : Ctx) (key : List Byte),
    u = s.served 0x0C10 q →
    c = s.ctx 0x0C10 q →
    s.accepts 0x0C10 q = true →
    ((orefOf c.payload).typ = 0x1B ∧ (c.payload.drop 18).length = leAt c.payload 9 1 + (if leAt c.payload 15 1 == 1 then 8 else 0) ∧ keyPolicyBad c.payload = false) →
    (u.slot (orefOf c.payload).idx).empty = true →
    (leAt c.payload 15 1 ≠ 1 → u.openLife = true) →
    (leAt c.payload 15 1 = 1 → u.slotUsable (leAt c.payload 16 2) usWrap [6] = true) →
    (u.keyMaterial c.payload = some key ∧ keyBad c.payload (orefOf c.payload).idx key = false) →
    bitOf (leAt c.payload 14 1) 0 = true →
    exec (.secKeyInstall true q) s = .next (State.finish u.hatpinDown 0x0C10 q ⟨stAccessFailed, [], 0, 0⟩)) ∧
  (∀ (f : Bool) (q : Req) (s u : State) (c : Ctx),
    u = s.served 0x0C11 q →
    c = s.ctx 0x0C11 q →
    s.accepts 0x0C11 q = true →
    ((orefOf c.payload).typ = 0x1B ∧ leAt c.payload 8 4 ≤ 1 ∧ (u.slot (orefOf c.payload).idx).empty = false) →
    (leAt c.payload 8 4 = 0 → u.slotAssocs (orefOf c.payload).idx = [] ∧ u.slotProfiles (orefOf c.payload).idx = []) →
    ((u.slot (orefOf c.payload).idx).persist = false ∨ f = false) →
    exec (.secKeyErase f q) s = .next (State.finish ((u.abortOn (orefOf c.payload).idx).eraseKey (orefOf c.payload).idx (u.slot (orefOf c.payload).idx).persist) 0x0C11 q ⟨stDone, [], 0, 0⟩)) ∧
  (∀ (q : Req) (s u : State) (c : Ctx),
    u = s.served 0x0C11 q →
    c = s.ctx 0x0C11 q →
    s.accepts 0x0C11 q = true →
    ((orefOf c.payload).typ = 0x1B ∧ leAt c.payload 8 4 ≤ 1 ∧ (u.slot (orefOf c.payload).idx).empty = false) →
    (leAt c.payload 8 4 = 0 → u.slotAssocs (orefOf c.payload).idx = [] ∧ u.slotProfiles (orefOf c.payload).idx = []) →
    (u.slot (orefOf c.payload).idx).persist = true →
    exec (.secKeyErase true q) s = .next (State.finish (u.abortOn (orefOf c.payload).idx).hatpinDown 0x0C11 q ⟨stAccessFailed, [], 0, 0⟩)) ∧
  (∀ (q : Req) (s u : State) (c : Ctx) (n k : Nat),
    u = s.served 0x0C12 q →
    c = s.ctx 0x0C12 q →
    s.accepts 0x0C12 q = true →
    (n = (orefOf c.payload).chan ∧ k = (orefOf c.payload).idx ∧ (orefOf c.payload).typ = 0x1C) →
    (u.saBad c.payload n k = false ∧ (u.assoc n k).installed = false ∧ u.sciClash c.payload n k = false) →
    u.slotUsable (leAt c.payload 8 2) (if k ≤ 3 then usMacTx else usMacRx) [suiteType (u.par (oChan n) 0x1001)] = true →
    exec (.secSaInstall q) s = .next (State.finish (u.putAssoc n k (saOf c.payload k)) 0x0C12 q ⟨stDone, [], 0, 0⟩)) ∧
  (∀ (q : Req) (s u : State) (c : Ctx) (n k : Nat),
    u = s.served 0x0C13 q →
    c = s.ctx 0x0C13 q →
    s.accepts 0x0C13 q = true →
    (n = (orefOf c.payload).chan ∧ k = (orefOf c.payload).idx ∧ (orefOf c.payload).typ = 0x1C) →
    (u.assoc n k).installed = true →
    exec (.secSaRetire q) s = .next (State.finish (u.saRetire n k) 0x0C13 q ⟨stDone, [], 0, 0⟩)) ∧
  (∀ (q : Req) (s u : State) (c : Ctx),
    u = s.served 0x0C1B q →
    c = s.ctx 0x0C1B q →
    s.accepts 0x0C1B q = true →
    ((orefOf c.payload).typ = 0x01 ∧ leAt c.payload 8 2 ≤ 4095 ∧ leAt c.payload 10 2 = 0) →
    u.freshRefused (leAt c.payload 8 2) (leAt c.payload 12 4) = false →
    exec (.secFreshnessSet q) s = .next (State.reply (u.setFresh (leAt c.payload 8 2) { u.fresh (leAt c.payload 8 2) with value := leAt c.payload 12 4, state := 1 }) 0x0C1B q stDone))

/-- The SEC commands of jobs, lifecycle, debug, self-test and zeroisation start and end what they govern. For every
request that passes checks 1 to 10 of R92: SEC.JOB_SUBMIT of a descriptor in range, with a slot and caller its mode
admits and its context as it needs it, queues the job under a ticket; SEC.JOB_ABORT aborts the caller's running job;
SEC.LIFECYCLE answers the state; SEC.LIFECYCLE_ADVANCE of a transition that CONFIRM alone authorises, or that a
signature over the live challenge under a fitting root key does, aborts every bulk job and goes PENDING; SEC.SELFTEST sets SELFTEST_RUN under a ticket; SEC.ZEROISE starts zeroisation with its scope;
SEC.DEBUG_UNLOCK of PHASE 0 answers a fresh challenge that lives 60 s, and of PHASE 1, admitted and authorised over the
live challenge, opens the Brim's access for SCOPE 1 and begins zeroisation under a ticket for any other. -/
def Obligations.HatboxCommandsComplete : Prop :=
  (∀ (q : Req) (s u : State) (c : Ctx) (j : HbxJob) (o : Resp × State),
    u = s.served 0x0C14 q →
    c = s.ctx 0x0C14 q →
    s.accepts 0x0C14 q = true →
    j = u.jobOf c →
    (jobOk j = true ∧ u.par oDeck 0x1110 = 0 ∧ (j.mode = 15 → u.rawOpen = true) ∧ u.jobDenied j = false) →
    j.first ≠ u.ctxOpen c.client j.ctx →
    u.ctxFull j = false →
    o = u.runP c [] (fun s ref => s.queueJob j ref) →
    exec (.secJobSubmit q) s = .next (State.finish o.2 0x0C14 q o.1)) ∧
  (∀ (q : Req) (s u : State) (c : Ctx) (t : Ticket),
    u = s.served 0x0C15 q →
    c = s.ctx 0x0C15 q →
    s.accepts 0x0C15 q = true →
    u.ticket c.client (leAt c.payload 0 4) = some t →
    (t.cmd = 0x0C14 ∧ t.result = none) →
    exec (.secJobAbort q) s = .next (State.finish (u.abortTicket t) 0x0C15 q ⟨stDone, [], 0, 0⟩)) ∧
  (∀ (q : Req) (s u : State),
    u = s.served 0x0C16 q →
    s.accepts 0x0C16 q = true →
    exec (.secLifecycle q) s = .next (State.reply u 0x0C16 q stDone (leBytes 1 u.fuses.lifecycle))) ∧
  (∀ (f : Fin 4) (q : Req) (s u : State) (c : Ctx) (n m r : Nat),
    u = s.served 0x0C17 q →
    c = s.ctx 0x0C17 q →
    s.accepts 0x0C17 q = true →
    (n = u.fuses.lifecycle ∧ m = leAt c.payload 0 1 ∧ r = leAt c.payload 1 1) →
    (lifeAuth n m r = .confirm ∧ c.payload.length = lifeLen n m r ∧ u.lifeBad c.payload = false) →
    exec (.secLifecycleAdvance f q) s = .next (State.finish ((u.abortJobs 1).openTicket c []).2 0x0C17 q ⟨stPending, [], ((u.abortJobs 1).openTicket c []).1, 0⟩)) ∧
  (∀ (f : Fin 4) (q : Req) (s u : State) (c : Ctx) (n m r : Nat) (cls : Option Bool) (ch : List Byte) (v : State),
    u = s.served 0x0C17 q →
    c = s.ctx 0x0C17 q →
    s.accepts 0x0C17 q = true →
    (n = u.fuses.lifecycle ∧ m = leAt c.payload 0 1 ∧ r = leAt c.payload 1 1) →
    (lifeAuth n m r = .signed cls ∧ c.payload.length = lifeLen n m r ∧ u.lifeBad c.payload = false) →
    u.takeChallenge = (some ch, v) →
    (match cls with | some pr => v.rootProduction f == pr | none => lifecycleAdmits n (v.rootProduction f)) = true →
    v.authorised f (0x80 + m) (v.rootProduction f) ch (c.payload.drop 8) = true →
    exec (.secLifecycleAdvance f q) s = .next (State.finish ((v.abortJobs 1).openTicket c []).2 0x0C17 q ⟨stPending, [], ((v.abortJobs 1).openTicket c []).1, 0⟩)) ∧
  (∀ (q : Req) (s u : State) (c : Ctx),
    u = s.served 0x0C18 q →
    c = s.ctx 0x0C18 q →
    s.accepts 0x0C18 q = true →
    u.flag HbxStatus.selftestRun = false →
    exec (.secSelftest q) s = .next (State.finish ((u.openTicket c []).2.setF HbxStatus.selftestRun 1) 0x0C18 q ⟨stPending, [], (u.openTicket c []).1, 0⟩)) ∧
  (∀ (q : Req) (s u : State) (c : Ctx) (o : Resp × State),
    u = s.served 0x0C19 q →
    c = s.ctx 0x0C19 q →
    s.accepts 0x0C19 q = true →
    (leAt c.payload 0 4 ≤ 2 ∧ u.hbx.zeroising = none) →
    o = u.runP c [] (fun s ref => s.zeroiseStart c.client (leAt c.payload 0 4) ref) →
    exec (.secZeroise q) s = .next (State.finish o.2 0x0C19 q o.1)) ∧
  (∀ (q : Req) (s u : State) (c : Ctx),
    u = s.served 0x0C1A q →
    c = s.ctx 0x0C1A q →
    s.accepts 0x0C1A q = true →
    (c.payload = [] ∧ u.hbx.drbgStopped = false) →
    exec (.secDebugUnlock false q) s = .next (State.reply { u with hbx := { u.hbx with challenge := some (Config.drbg (leBytes 48 u.hbx.seed) u.hbx.drawn 32, u.after (secC 60)), drawn := u.hbx.drawn + 1 } } 0x0C1A q stDone (Config.drbg (leBytes 48 u.hbx.seed) u.hbx.drawn 32))) ∧
  (∀ (q : Req) (s u : State) (c : Ctx) (n : Nat) (pr : Bool) (ch : List Byte) (v : State),
    u = s.served 0x0C1A q →
    c = s.ctx 0x0C1A q →
    s.accepts 0x0C1A q = true →
    (n = leAt c.payload 0 1 ∧ c.payload.length = 100 ∧ 1 ≤ n ∧ n ≤ 7 ∧ leAt c.payload 1 1 ≤ 3 ∧ leAt c.payload 2 2 = 0) →
    (unlockAdmits u.fuses.lifecycle n = some pr ∧ u.hbx.zeroising = none) →
    (u.takeChallenge = (some ch, v) ∧ v.authorised (leAt c.payload 1 1) n pr ch (c.payload.drop 4) = true) →
    n = 1 →
    exec (.secDebugUnlock true q) s = .next (State.finish (v.debugOpen 1) 0x0C1A q ⟨stDone, [], 0, 0⟩)) ∧
  (∀ (q : Req) (s u : State) (c : Ctx) (n : Nat) (pr : Bool) (ch : List Byte) (v w : State),
    u = s.served 0x0C1A q →
    c = s.ctx 0x0C1A q →
    s.accepts 0x0C1A q = true →
    (n = leAt c.payload 0 1 ∧ c.payload.length = 100 ∧ 1 ≤ n ∧ n ≤ 7 ∧ leAt c.payload 1 1 ≤ 3 ∧ leAt c.payload 2 2 = 0) →
    (unlockAdmits u.fuses.lifecycle n = some pr ∧ u.hbx.zeroising = none) →
    (u.takeChallenge = (some ch, v) ∧ v.authorised (leAt c.payload 1 1) n pr ch (c.payload.drop 4) = true) →
    n ≠ 1 →
    w = ((v.openTicket c []).2.setF HbxStatus.zeroising 1).zeroiseRam 1 →
    exec (.secDebugUnlock true q) s = .next (State.finish { w with hbx := { w.hbx with zeroising := some (c.client, (v.openTicket c []).1, 1) } } 0x0C1A q ⟨stPending, [], (v.openTicket c []).1, 0⟩))

/-- The EVT commands bind and coalesce queues, move and inject sources, and show a queue. For every request that passes
checks 1 to 10 of R92: EVT.BIND of a queue above 15 with values in range answers the old binding and makes the new one
take effect; EVT.COALESCE_SET of a queue above 15 sets COUNT and TIME; EVT.SOURCE_ENABLE moves the client route of a
source that exists to the queue named, or ends it with 0xFF; EVT.QUEUE_STATE answers the binding, state, fill,
coalescing and drops; EVT.INJECT on a counted source counts an occurrence with INJ set, on a payload source queues its
payload record, and on a level source writes a record on each of its routes. -/
def Obligations.EvtCommandsComplete : Prop :=
  (∀ (q : Req) (s u : State) (c : Ctx),
    u = s.served 0x0D10 q →
    c = s.ctx 0x0D10 q →
    s.accepts 0x0D10 q = true →
    (16 ≤ leAt c.payload 0 1 ∧ u.bindBad c.payload = false) →
    exec (.evtBind q) s = .next (State.finish (u.evqBind (leAt c.payload 0 1) (leAt c.payload 1 1) (if leAt c.payload 2 1 == 0xFF then 7 else leAt c.payload 2 1) (leAt c.payload 3 1) (leAt c.payload 4 2) (leAt c.payload 8 4)) 0x0D10 q ⟨stDone, u.bindingBytes (leAt c.payload 0 1), 0, 0⟩)) ∧
  (∀ (q : Req) (s u : State) (c : Ctx),
    u = s.served 0x0D11 q →
    c = s.ctx 0x0D11 q →
    s.accepts 0x0D11 q = true →
    ((orefOf c.payload).typ = 0x1E ∧ 16 ≤ (orefOf c.payload).idx) →
    (leAt c.payload 8 1 ≠ 0 ∧ leAt c.payload 9 1 = 0 ∧ leAt c.payload 10 2 ≠ 0) →
    exec (.evtCoalesceSet q) s = .next (State.finish (u.coalesce (orefOf c.payload).idx (leAt c.payload 8 1) (leAt c.payload 10 2)) 0x0D11 q ⟨stDone, [], 0, 0⟩)) ∧
  (∀ (q : Req) (s u : State) (c : Ctx) (k : Nat),
    u = s.served 0x0D12 q →
    c = s.ctx 0x0D12 q →
    s.accepts 0x0D12 q = true →
    ((orefOf c.payload).typ = 0x1F ∧ (srcKind (orefOf c.payload).idx).isSome = true) →
    (k = leAt c.payload 8 1 ∧ 16 ≤ k ∧ leAt c.payload 9 3 = 0 ∧ (k = 0xFF ∨ (k ≤ 63 ∧ u.getF (EvqStatus.target k) ≠ 7))) →
    exec (.evtSourceEnable q) s = .next (State.finish (u.sourceRoute (orefOf c.payload).idx k) 0x0D12 q ⟨stDone, [], 0, 0⟩)) ∧
  (∀ (q : Req) (s u : State) (c : Ctx) (k : Nat),
    u = s.served 0x0D13 q →
    c = s.ctx 0x0D13 q →
    s.accepts 0x0D13 q = true →
    (k = (orefOf c.payload).idx ∧ (orefOf c.payload).typ = 0x1E) →
    exec (.evtQueueState q) s = .next (State.reply u 0x0D13 q stDone (u.bindingBytes k ++ leBytes 1 (u.getF (EvqStatus.state k)) ++ leBytes 1 (u.evqFill k) ++ leBytes 1 (u.evq k).count ++
      [0] ++ leBytes 2 (u.evq k).time ++ leBytes 2 (u.getF (EvqDrops.payloadDrops k)) ++ zeros 4))) ∧
  (∀ (q : Req) (s u : State) (c : Ctx),
    u = s.served 0x0D14 q →
    c = s.ctx 0x0D14 q →
    s.accepts 0x0D14 q = true →
    (orefOf c.payload).typ = 0x1F →
    srcKind (orefOf c.payload).idx = some .counted →
    exec (.evtInject q) s = .next (State.finish (u.occur (orefOf c.payload).idx (leAt c.payload 8 4) true) 0x0D14 q ⟨stDone, [], 0, 0⟩)) ∧
  (∀ (q : Req) (s u : State) (c : Ctx),
    u = s.served 0x0D14 q →
    c = s.ctx 0x0D14 q →
    s.accepts 0x0D14 q = true →
    (orefOf c.payload).typ = 0x1F →
    srcKind (orefOf c.payload).idx = some .payload →
    exec (.evtInject q) s = .next (State.finish (u.payload (orefOf c.payload).idx 0 true) 0x0D14 q ⟨stDone, [], 0, 0⟩)) ∧
  (∀ (q : Req) (s u : State) (c : Ctx),
    u = s.served 0x0D14 q →
    c = s.ctx 0x0D14 q →
    s.accepts 0x0D14 q = true →
    (orefOf c.payload).typ = 0x1F →
    srcKind (orefOf c.payload).idx = some .level →
    exec (.evtInject q) s = .next (State.finish ((u.routesOf (orefOf c.payload).idx).foldl (fun (s : State) (rq : Nat × Nat) => s.injectLevel (orefOf c.payload).idx (leAt c.payload 8 4) rq.2) u) 0x0D14 q ⟨stDone, [], 0, 0⟩))

/-- The STORE commands attach, detach, record, transfer, stage and describe the device. For every request that passes
checks 1 to 10 of R92 on a variant with the port: STORE.ATTACH from DETACHED or FAILED and STORE.DETACH from ATTACHED
enter ATTACHING and DETACHING and go PENDING; STORE.RECORDER_START locates the region and sets recording (what
firmware finds on the device is free: log entry of R496); STORE.RECORDER_STOP stops, at once with no block in flight
and PENDING otherwise; STORE.READ and STORE.WRITE of a buffer whose header is in range give the device its command
under a ticket; STORE.STAGE_IMAGE writes the bulk buffer with SOURCE 0 and the staging half of BAR2 with SOURCE 1, and goes PENDING, and
of an SPI client it writes one piece, with PENDING at the last; STORE.HEALTH answers
the record of R497. -/
def Obligations.StoreCommandsComplete : Prop :=
  (∀ (q : Req) (s u : State) (c : Ctx),
    u = s.served 0x0E10 q →
    c = s.ctx 0x0E10 q →
    s.accepts 0x0E10 q = true →
    (u.absentVariant = false ∧ c.payload = []) →
    (u.store.state = ssDetached ∨ u.store.state = ssFailed) →
    exec (.storeAttach q) s = .next (State.finish ((u.setStore ssAttaching).openTicket c []).2 0x0E10 q ⟨stPending, [], ((u.setStore ssAttaching).openTicket c []).1, 0⟩)) ∧
  (∀ (q : Req) (s u : State) (c : Ctx) (v : State),
    u = s.served 0x0E11 q →
    c = s.ctx 0x0E11 q →
    s.accepts 0x0E11 q = true →
    (u.absentVariant = false ∧ c.payload.length = 4 ∧ leAt c.payload 0 4 ≤ 1) →
    u.store.state = ssAttached →
    v = u.detachStart (leAt c.payload 0 4 = 1) →
    exec (.storeDetach q) s = .next (State.finish (v.openTicket c []).2 0x0E11 q ⟨stPending, [], (v.openTicket c []).1, 0⟩)) ∧
  (∀ (q : Req) (s u : State) (c : Ctx) (v : State),
    u = s.served 0x0E12 q →
    c = s.ctx 0x0E12 q →
    s.accepts 0x0E12 q = true →
    (u.absentVariant = false ∧ c.payload.length = 4 ∧ leAt c.payload 0 4 ≤ 1) →
    (u.store.state = ssAttached ∧ u.recCount ≠ 0 ∧ u.xtsOk = true) →
    v = u.recLocate (leAt c.payload 0 4 = 1) →
    exec (.storeRecorderStart q) s = .next (State.finish { v with store := { v.store with recording := true, located := true } } 0x0E12 q ⟨stDone, [], 0, 0⟩)) ∧
  (∀ (q : Req) (s u : State) (c : Ctx),
    u = s.served 0x0E13 q →
    c = s.ctx 0x0E13 q →
    s.accepts 0x0E13 q = true →
    (u.absentVariant = false ∧ c.payload = []) →
    u.recStop.recInFlight = 0 →
    exec (.storeRecorderStop q) s = .next (State.finish u.recStop 0x0E13 q ⟨stDone, [], 0, 0⟩)) ∧
  (∀ (q : Req) (s u : State) (c : Ctx) (v : State),
    u = s.served 0x0E13 q →
    c = s.ctx 0x0E13 q →
    s.accepts 0x0E13 q = true →
    (u.absentVariant = false ∧ c.payload = []) →
    u.recStop.recInFlight ≠ 0 →
    v = (u.recStop.openTicket c []).2 →
    exec (.storeRecorderStop q) s = .next (State.finish { v with store := { v.store with stopping := v.store.stopping ++ [(c.client, (u.recStop.openTicket c []).1)] } } 0x0E13 q ⟨stPending, [], (u.recStop.openTicket c []).1, 0⟩)) ∧
  (∀ (q : Req) (s u : State) (c : Ctx) (b : Bulk) (l : List Byte) (v : State) (a n : Nat) (x : Bool) (o : Resp × State),
    u = s.served 0x0E14 q →
    c = s.ctx 0x0E14 q →
    s.accepts 0x0E14 q = true →
    (u.absentVariant = false ∧ c.bulk = some b ∧ b.ok [2] = true ∧ u.store.state = ssAttached) →
    u.bulkRead c b = (some l, v) →
    v.storeHeader b l = .ok (a, n, x) →
    o = v.readStart c b a n x →
    exec (.storeRead q) s = .next (State.finish o.2 0x0E14 q o.1)) ∧
  (∀ (q : Req) (s u : State) (c : Ctx) (b : Bulk) (l : List Byte) (v : State) (a n : Nat) (x : Bool) (o : Resp × State),
    u = s.served 0x0E15 q →
    c = s.ctx 0x0E15 q →
    s.accepts 0x0E15 q = true →
    (u.absentVariant = false ∧ c.bulk = some b ∧ b.ok [0] = true ∧ u.store.state = ssAttached) →
    u.bulkRead c b = (some l, v) →
    (v.storeHeader b l = .ok (a, n, x) ∧ v.lbaBusy a n = false) →
    o = v.writeStart c l a n x →
    exec (.storeWrite q) s = .next (State.finish o.2 0x0E15 q o.1)) ∧
  (∀ (q : Req) (s u : State) (c : Ctx) (n : Nat) (o : Resp × State),
    u = s.served 0x0E16 q →
    c = s.ctx 0x0E16 q →
    s.accepts 0x0E16 q = true →
    (u.absentVariant = false ∧ c.bulk = none ∧ c.payload.length = 8) →
    (n = leAt c.payload 4 4 ∧ leAt c.payload 0 1 = 1 ∧ leAt c.payload 1 1 ≤ 1 ∧ leAt c.payload 2 2 = 0 ∧ n ≤ 16777216 ∧ n ≤ u.stageCount * u.store.lbaSize) →
    (u.store.state = ssAttached ∧ u.stageCount ≠ 0 ∧ (u.xtsSlot = 0xFFFF ∨ u.xtsOk = true) ∧ u.store.staging = none ∧ u.locked c.client [imageLock] = false) →
    o = (u.stageWrite 0 (memReads u.bar2 0x03000000 n)).stageStart c n (leAt c.payload 1 1) →
    exec (.storeStageImage q) s = .next (State.finish o.2 0x0E16 q o.1)) ∧
  (∀ (q : Req) (s u : State) (c : Ctx) (n : Nat) (b : Bulk) (l : List Byte) (v : State) (o : Resp × State),
    u = s.served 0x0E16 q →
    c = s.ctx 0x0E16 q →
    s.accepts 0x0E16 q = true →
    (u.absentVariant = false ∧ c.payload.length = 24) →
    (c.bulk = some b ∧ (b.seg && u.spiMb c.mb) = false ∧ b.ok [0] = true ∧ n ≤ b.len ∧ u.bulkRead c b = (some l, v)) →
    (n = leAt c.payload 4 4 ∧ leAt c.payload 0 1 = 0 ∧ leAt c.payload 1 1 ≤ 1 ∧ leAt c.payload 2 2 = 0 ∧ n ≤ 16777216 ∧ n ≤ u.stageCount * u.store.lbaSize) →
    (u.store.state = ssAttached ∧ u.stageCount ≠ 0 ∧ (u.xtsSlot = 0xFFFF ∨ u.xtsOk = true) ∧ u.store.staging = none ∧ u.locked c.client [imageLock] = false) →
    o = (v.stageWrite 0 (l.take n)).stageStart c n (leAt c.payload 1 1) →
    exec (.storeStageImage q) s = .next (State.finish o.2 0x0E16 q o.1)) ∧
  (∀ (c : Ctx) (u : State) (b : Bulk) (x : Piece) (v : State),
    (u.absentVariant = false ∧ c.cmd = 0x0E16 ∧ c.bulk = some b ∧ b.seg = true ∧ u.spiMb c.mb = true ∧ b.ok [0] = true) →
    (u.store.state = ssAttached ∧ u.stageCount ≠ 0 ∧ (u.xtsSlot = 0xFFFF ∨ u.xtsOk = true) ∧ u.store.staging = none ∧ u.locked c.client [imageLock] = false) →
    u.pieceOf c b.len (u.stageCount * u.store.lbaSize) = some x →
    v = (u.pieceNote c x).stageWrite x.off x.data →
    bodyStageImage c u = (if x.last then v.stageStart c x.total 0 else (⟨stDone, [], 0, 0⟩, v))) ∧
  (∀ (q : Req) (s u : State) (c : Ctx) (v : StoreState),
    u = s.served 0x0E17 q →
    c = s.ctx 0x0E17 q →
    s.accepts 0x0E17 q = true →
    (u.absentVariant = false ∧ c.payload = []) →
    v = u.store →
    exec (.storeHealth q) s = .next (State.reply u 0x0E17 q stDone (leBytes 1 v.state ++ leBytes 1 (u.getF TrStatus.storeGen + 16 * u.getF TrStatus.storeWidth) ++
      leBytes 1 v.critWarn ++ leBytes 1 v.pctUsed ++ leBytes 2 v.temp ++ leBytes 2 v.lbaSize ++ leBytes 8 v.nsLbas ++
      leBytes 8 v.mediaErrors ++ leBytes 8 v.seq)))

/-- The CASC commands show the ring and the splits, stage the standby link, and heal a Deck. For every request that passes
checks 1 to 10 of R92: CASC.TOPOLOGY answers role, topology, reachability, master and standby link and four Deck
records; CASC.STANDBY_LINK_SET with a Deck and a Pier port stages the link; CASC.HEAL of a Deck in quarantine changes
nothing with ACTION 0, and with ACTION 1 takes the Deck's epoch and commit ID into the ledger, ends its quarantine,
tells the Viaduct so on the active links (log entry 117) and raises the event; CASC.SPLIT_LOG answers the records kept. -/
def Obligations.CascCommandsComplete : Prop :=
  (∀ (q : Req) (s u : State) (c : Ctx) (t : Nat × Nat),
    u = s.served 0x0F10 q →
    c = s.ctx 0x0F10 q →
    s.accepts 0x0F10 q = true →
    c.payload = [] →
    t = u.standbyLink.getD (0xFF, 0xFF) →
    exec (.cascTopology q) s = .next (State.reply u 0x0F10 q stDone ([u.getF CascStatus.role, u.getF CascStatus.topology, u.getF CascStatus.reachable, u.pier.master, t.1, t.2, 0, 0].flatMap (leBytes 1) ++
      (List.range 4).flatMap u.deckEntry))) ∧
  (∀ (q : Req) (s u : State) (c : Ctx) (d : Draft),
    u = s.served 0x0F11 q →
    c = s.ctx 0x0F11 q →
    s.accepts 0x0F11 q = true →
    (orefOf c.payload).typ = 0x01 →
    (leAt c.payload 8 1 ≤ 3 ∧ (leAt c.payload 9 1 = 20 ∨ leAt c.payload 9 1 = 21) ∧ leAt c.payload 10 2 = 0) →
    u.draft c.client c.txn = some d →
    (u.locked c.client [lockOf (pkey oDeck pidStandby)] = false ∧ u.draftRoom c = true) →
    exec (.cascStandbyLinkSet q) s = .next (State.reply (u.putChanges c d [(pkey oDeck pidStandby, 2 ^ 16 + leAt c.payload 8 1 + leAt c.payload 9 1 * 256)]) 0x0F11 q stDone)) ∧
  (∀ (q : Req) (s u : State) (c : Ctx),
    u = s.served 0x0F12 q →
    c = s.ctx 0x0F12 q →
    s.accepts 0x0F12 q = true →
    (c.payload.length = 4 ∧ leAt c.payload 0 1 ≤ 3 ∧ leAt c.payload 2 2 = 0) →
    u.quarantined (leAt c.payload 0 1) = true →
    leAt c.payload 1 1 = 0 →
    exec (.cascHeal q) s = .next (State.reply u 0x0F12 q stDone)) ∧
  (∀ (q : Req) (s u : State) (c : Ctx) (n : Nat) (r : DeckInfo) (e : Nat × Nat) (v : State),
    u = s.served 0x0F12 q →
    c = s.ctx 0x0F12 q →
    s.accepts 0x0F12 q = true →
    (c.payload.length = 4 ∧ leAt c.payload 0 1 ≤ 3 ∧ leAt c.payload 2 2 = 0) →
    (n = leAt c.payload 0 1 ∧ r = u.deckInfo n ∧ u.quarantined n = true) →
    e = (if n = u.ownDeck then (u.gci.epoch, u.pier.commitId) else (r.epoch, r.commitId)) →
    leAt c.payload 1 1 = 1 →
    v = { u with pier := { u.pier with ledger := tabInsert u.pier.ledger n e } } →
    exec (.cascHeal q) s = .next (State.finish (((v.quarSet n false).quarTell n false 2).cascEvent 5 n) 0x0F12 q ⟨stDone, [], 0, 0⟩)) ∧
  (∀ (q : Req) (s u : State) (c : Ctx),
    u = s.served 0x0F13 q →
    c = s.ctx 0x0F13 q →
    s.accepts 0x0F13 q = true →
    c.payload = [] →
    exec (.cascSplitLog q) s = .next (State.reply u 0x0F13 q stDone (u.pier.splitLog.flatMap SplitRec.bytes)))

/-- The DIAG commands read, write, dump, test, mirror and show the audit. For every request that passes checks 1 to 10 of
R92: DIAG.READ of 1 to 250 aligned words of BAR0 answers each word as firmware sees it and changes nothing, of the
Brim queues a Hatpin access, of 65 to 250 words of a table goes PENDING, and of up to 64 answers them; DIAG.WRITE of
BAR0 makes one host write per word, and of the Brim, in the lifecycle states that admit it, queues a Hatpin access; DIAG.TABLE_DUMP whose buffer holds a header in range goes PENDING; DIAG.LOOPBACK
on a disabled Channel that has the mode goes PENDING with the Channel locked; DIAG.MIRROR_SET stages the mirror;
DIAG.AUDIT_STATUS answers passes, reclaimed cells, the last 16 and the totals (its layout is the model's, log entry
38). -/
def Obligations.DiagCommandsComplete : Prop :=
  (∀ (q : Req) (s u : State) (c : Ctx) (n a : Nat),
    u = s.served 0x1010 q →
    c = s.ctx 0x1010 q →
    s.accepts 0x1010 q = true →
    (n = leAt c.payload 1 1 ∧ a = leAt c.payload 4 4 ∧ leAt c.payload 2 2 = 0 ∧ 1 ≤ n ∧ n ≤ 250) →
    (leAt c.payload 0 1 = 0 ∧ a % 4 = 0 ∧ a + 4 * n ≤ 0x1000000) →
    exec (.diagRead q) s = .next (State.reply u 0x1010 q stDone (diagHead a n ++ (List.range n).flatMap (fun k => leBytes 4 (u.peek (a + 4 * k)))))) ∧
  (∀ (q : Req) (s u : State) (c : Ctx) (n : Nat) (o : Resp × State),
    u = s.served 0x1010 q →
    c = s.ctx 0x1010 q →
    s.accepts 0x1010 q = true →
    (n = leAt c.payload 1 1 ∧ leAt c.payload 2 2 = 0 ∧ 1 ≤ n ∧ n ≤ 250) →
    leAt c.payload 0 1 = 1 →
    o = u.pendHatpin c n [] false →
    exec (.diagRead q) s = .next (State.finish o.2 0x1010 q o.1)) ∧
  (∀ (q : Req) (s u : State) (c : Ctx) (n a : Nat),
    u = s.served 0x1010 q →
    c = s.ctx 0x1010 q →
    s.accepts 0x1010 q = true →
    (n = leAt c.payload 1 1 ∧ a = leAt c.payload 4 4 ∧ leAt c.payload 2 2 = 0 ∧ 1 ≤ n ∧ n ≤ 250) →
    (leAt c.payload 0 1 = 2 ∧ u.diagRangeOk (a / 2 ^ 24) (a % 2 ^ 24) n = true) →
    64 < n →
    exec (.diagRead q) s = .next (State.reply (u.openTicket c []).2 0x1010 q stPending [] (u.openTicket c []).1)) ∧
  (∀ (q : Req) (s u : State) (c : Ctx) (n a : Nat) (o : List Byte × State),
    u = s.served 0x1010 q →
    c = s.ctx 0x1010 q →
    s.accepts 0x1010 q = true →
    (n = leAt c.payload 1 1 ∧ a = leAt c.payload 4 4 ∧ leAt c.payload 2 2 = 0 ∧ 1 ≤ n ∧ n ≤ 250) →
    (leAt c.payload 0 1 = 2 ∧ u.diagRangeOk (a / 2 ^ 24) (a % 2 ^ 24) n = true) →
    n ≤ 64 →
    o = u.tableWords (a / 2 ^ 24) (a % 2 ^ 24) n →
    exec (.diagRead q) s = .next (State.finish o.2 0x1010 q ⟨stDone, diagHead a n ++ o.1, 0, 0⟩)) ∧
  (∀ (q : Req) (s u : State) (c : Ctx) (n a : Nat) (v : State),
    u = s.served 0x1011 q →
    c = s.ctx 0x1011 q →
    s.accepts 0x1011 q = true →
    (n = leAt c.payload 1 1 ∧ a = leAt c.payload 4 4 ∧ leAt c.payload 2 2 = 0 ∧ 1 ≤ n ∧ n ≤ 250 ∧ (c.payload.drop 8).length = 4 * n) →
    (leAt c.payload 0 1 = 0 ∧ a + 4 * n ≤ 0x1000000) →
    (v = u.diagWords a (c.payload.drop 8) n ∧ v.fwServing = true) →
    exec (.diagWrite q) s = .next (State.finish v 0x1011 q ⟨stDone, leBytes 1 n ++ zeros 3, 0, 0⟩)) ∧
  (∀ (q : Req) (s u : State) (c : Ctx) (n : Nat) (o : Resp × State),
    u = s.served 0x1011 q →
    c = s.ctx 0x1011 q →
    s.accepts 0x1011 q = true →
    (n = leAt c.payload 1 1 ∧ leAt c.payload 2 2 = 0 ∧ 1 ≤ n ∧ n ≤ 250 ∧ (c.payload.drop 8).length = 4 * n) →
    (leAt c.payload 0 1 = 1 ∧ (u.fuses.lifecycle = 1 ∨ u.fuses.lifecycle = 3)) →
    o = u.pendHatpin c n (c.payload.drop 8) true →
    exec (.diagWrite q) s = .next (State.finish o.2 0x1011 q o.1)) ∧
  (∀ (q : Req) (s u : State) (c : Ctx) (b : Bulk) (l : List Byte) (v : State),
    u = s.served 0x1012 q →
    c = s.ctx 0x1012 q →
    s.accepts 0x1012 q = true →
    (c.bulk = some b ∧ b.ok [2] = true) →
    u.bulkRead c { b with len := 16 } = (some l, v) →
    (16 ≤ b.len ∧ v.dumpOk l b.len = true) →
    exec (.diagTableDump q) s = .next (State.finish (v.openTicket c []).2 0x1012 q ⟨stPending, [], (v.openTicket c []).1, 0⟩)) ∧
  (∀ (q : Req) (s u : State) (c : Ctx) (k : Nat),
    u = s.served 0x1013 q →
    c = s.ctx 0x1013 q →
    s.accepts 0x1013 q = true →
    (k = (orefOf c.payload).chan ∧ (orefOf c.payload).typ = 0x04) →
    (u.loopBad k c.payload = false ∧ u.chanEnabled k = false) →
    exec (.diagLoopback q) s = .next (State.reply (u.openTicket c [(orefOf c.payload).lock]).2 0x1013 q stPending [] (u.openTicket c [(orefOf c.payload).lock]).1)) ∧
  (∀ (q : Req) (s u : State) (c : Ctx) (t p k : Nat) (d : Draft),
    u = s.served 0x1014 q →
    c = s.ctx 0x1014 q →
    s.accepts 0x1014 q = true →
    (t = leAt c.payload 8 1 ∧ p = leAt c.payload 9 1 ∧ k = leAt c.payload 10 1 ∧ t ≤ 2 ∧ p ≤ 19 ∧ k ≤ 7 ∧ leAt c.payload 11 1 = 0) →
    (((orefOf c.payload).typ = 0x04 ∧ (orefOf c.payload).chan ≤ 23) ∨ (orefOf c.payload).typ = 0x0D) →
    (t = 2 → (orefOf c.payload).typ = 0x04 ∧ (orefOf c.payload).chan ≠ 23 ∧ (orefOf c.payload).chan ≠ p) →
    (t = 1 → u.absentVariant = false) →
    u.draft c.client c.txn = some d →
    (u.locked c.client [lockOf (pkey (orefOf c.payload).key pidMirror)] = false ∧ u.draftRoom c = true) →
    exec (.diagMirrorSet q) s = .next (State.reply (u.putChanges c d [(pkey (orefOf c.payload).key pidMirror, t + p * 2 ^ 8 + k * 2 ^ 16)]) 0x1014 q stDone)) ∧
  (∀ (q : Req) (s u : State) (c : Ctx) (o r : List Byte × State) (n m : Nat),
    u = s.served 0x1015 q →
    c = s.ctx 0x1015 q →
    s.accepts 0x1015 q = true →
    (o = u.freeFill u.buf.reclaims 16 ∧ r = o.2.freeFill o.2.buf.auditTotals 5) →
    (n = r.2.ctr oDeck cQos 13 ∧ m = r.2.ctr oDeck cQos 5) →
    exec (.diagAuditStatus q) s = .next (State.finish r.2 0x1015 q ⟨stDone, leBytes 8 n ++ leBytes 8 m ++ o.1 ++ r.1, 0, 0⟩))

/-- The FAULT commands show, clear, inject and read faults, and stage reactions and the watchdog. For every request that
passes checks 1 to 10 of R92: FAULT.STATUS answers FCU_STATUS, WDT_STATUS and the sixteen FCU_LATCHED words;
FAULT.CLEAR of an input, or of all with 0xFFFF, whose conditions are gone ends their latches, and with input 1 starts
the shadow interval; FAULT.REACTION_SET of a reaction no weaker than the least of R527 stages it; FAULT.INJECT of an
assigned input that is not active raises it for its duration with a free DETAIL; FAULT.LOG_READ of 1 to 32 entries
queues the Hatpin access for their words; FAULT.WATCHDOG_SET with OPEN below CLOSE and both in range stages the three
values. -/
def Obligations.FaultCommandsComplete : Prop :=
  (∀ (q : Req) (s u : State),
    u = s.served 0x1110 q →
    s.accepts 0x1110 q = true →
    exec (.faultStatus q) s = .next (State.reply u 0x1110 q stDone ((FcuStatus.off :: WdtStatus.off :: (List.range 16).map FcuLatched.off).flatMap (fun a => leBytes 4 (u.peek a))))) ∧
  (∀ (q : Req) (s u : State) (c : Ctx) (k : Nat) (l : List Nat) (v : State),
    u = s.served 0x1111 q →
    c = s.ctx 0x1111 q →
    s.accepts 0x1111 q = true →
    (k = leAt c.payload 0 2 ∧ leAt c.payload 2 2 = 0 ∧ (k ≤ 511 ∨ k = 0xFFFF)) →
    l = (if k = 0xFFFF then List.range 512 else [k]) →
    ((∀ n ∈ l, u.faultCond n = false)) →
    v = u.faultUnlatch l →
    exec (.faultClear q) s = .next (State.finish (if l.contains 1 then v.shadowStart else v) 0x1111 q ⟨stDone, [], 0, 0⟩)) ∧
  (∀ (q : Req) (s u : State) (c : Ctx) (d : Draft),
    u = s.served 0x1112 q →
    c = s.ctx 0x1112 q →
    s.accepts 0x1112 q = true →
    ((orefOf c.payload).typ = 0x20 ∧ bitsOf (leAt c.payload 8 4) 31 4 = 0 ∧ bitsOf (leAt c.payload 8 4) 1 0 ≠ 3) →
    rxWeaker (leAt c.payload 8 4) (leastReaction (orefOf c.payload).idx) = false →
    u.draft c.client c.txn = some d →
    (u.locked c.client [lockOf (pkey (orefOf c.payload).key (pidRaw 0))] = false ∧ u.draftRoom c = true) →
    exec (.faultReactionSet q) s = .next (State.reply (u.putChanges c d [(pkey (orefOf c.payload).key (pidRaw 0), leAt c.payload 8 4)]) 0x1112 q stDone)) ∧
  (∀ (q : Req) (s u : State) (c : Ctx) (k : Nat) (v : State),
    u = s.served 0x1113 q →
    c = s.ctx 0x1113 q →
    s.accepts 0x1113 q = true →
    (k = leAt c.payload 0 2 ∧ faultAssigned k = true ∧ k ≤ 511 ∧ leAt c.payload 2 2 ≤ 1 ∧ 1 ≤ leAt c.payload 4 4 ∧ leAt c.payload 4 4 ≤ 1000000) →
    u.faultCond k = false →
    v = u.injectFault k (leAt c.payload 2 2 == 1) (leAt c.payload 4 4) →
    v.fwServing = true →
    exec (.faultInject q) s = .next (State.finish v 0x1113 q ⟨stDone, [], 0, 0⟩)) ∧
  (∀ (q : Req) (s u : State) (c : Ctx) (o : Resp × State),
    u = s.served 0x1114 q →
    c = s.ctx 0x1114 q →
    s.accepts 0x1114 q = true →
    (c.payload.length = 4 ∧ 1 ≤ leAt c.payload 2 2 ∧ leAt c.payload 2 2 ≤ 32) →
    o = u.pendHatpin c (4 * (u.faultsFor c.payload).length) [] false →
    exec (.faultLogRead q) s = .next (State.finish o.2 0x1114 q o.1)) ∧
  (∀ (q : Req) (s u : State) (c : Ctx) (ch : List (Nat × Nat)) (d : Draft),
    u = s.served 0x1115 q →
    c = s.ctx 0x1115 q →
    s.accepts 0x1115 q = true →
    (leAt c.payload 0 4 ≤ 1000 ∧ 10 ≤ leAt c.payload 4 4 ∧ leAt c.payload 4 4 ≤ 2000 ∧ leAt c.payload 0 4 < leAt c.payload 4 4 ∧ 50 ≤ leAt c.payload 8 4 ∧ leAt c.payload 8 4 ≤ 5000) →
    ch = [(pkey oDeck (pidWatchdog 0), leAt c.payload 0 4), (pkey oDeck (pidWatchdog 1), leAt c.payload 4 4), (pkey oDeck (pidWatchdog 2), leAt c.payload 8 4)] →
    u.draft c.client c.txn = some d →
    (u.locked c.client (ch.map (fun kv => lockOf kv.1)) = false ∧ u.draftRoom c = true) →
    exec (.faultWatchdogSet q) s = .next (State.reply (u.putChanges c d ch) 0x1115 q stDone))

/-- Host reads and writes of the BARs have the effects of R6, R27 to R30, R154, R338, R472, R476 and the read-clear rules, each
for every offset and length. While the Core island is accessible (`State.hosted`: in Listening and Parked an access changes
nothing, R363 and log entry 76), REGISTER_WRITE to BAR0: of an aligned 32-bit word it is the bus write of that word, any other
size or alignment only makes an IWL entry, and one that its target answers with an error or not in time stores nothing and makes
an IWL entry; to BAR4: of a word of the MSI-X table it is the write of that word, and any other changes nothing. BAR2_WRITE stores
the bytes that fall in writable areas, or, where the target fails, only makes an IWL entry. INBOUND_READ_ABORT only answers a
Completer Abort. COUNTER_LOW_READ, a read without a row of its own: of BAR0 it returns 0 where it is no aligned word or its block
is absent, latches a high word with a counter's low word and uses it up with the high word, and else returns the word and clears
its read-clear fields; of BAR2 and BAR4 it returns their bytes. A read of the Strand counter's low word latches the high word; a
read of SGE_READY, HR_DROPS or EVQ_DROPS returns the register and clears its read-clear field. -/
def Obligations.HostAccessesComplete : Prop :=
  (∀ (o : BitVec 24) (n : BitVec 13) (r : BitVec 16) (w : Word) (s : State),
    (n = 4 ∧ o.toNat % 4 = 0) →
    exec (.registerWrite false o n r w 0) s = .next (s.hosted (s.busWrite o.toNat w.toNat))) ∧
  (∀ (o : BitVec 24) (n : BitVec 13) (r : BitVec 16) (w : Word) (s : State),
    (n ≠ 4 ∨ o.toNat % 4 ≠ 0) →
    exec (.registerWrite false o n r w 0) s = .next (s.hosted (s.iwl iwMisaligned 0 o.toNat r.toNat n.toNat))) ∧
  (∀ (o : BitVec 24) (n : BitVec 13) (r : BitVec 16) (w : Word) (f : Fin 3) (s : State),
    f ≠ 0 →
    exec (.registerWrite false o n r w f) s = .next (s.hosted (s.iwl (if f.val = 1 then iwTargetError else iwTargetTimeout) 0 o.toNat r.toNat n.toNat))) ∧
  (∀ (o : BitVec 24) (n : BitVec 13) (r : BitVec 16) (w : Word) (f : Fin 3) (s : State),
    (n = 4 ∧ o.toNat % 4 = 0 ∧ o.toNat < 0x400) →
    exec (.registerWrite true o n r w f) s = .next (s.hosted (s.msixSet (o.toNat / 16) (setBits (s.msixEntry (o.toNat / 16)) (o.toNat % 16 * 8 + 31) (o.toNat % 16 * 8) w.toNat)))) ∧
  (∀ (o : BitVec 24) (n : BitVec 13) (r : BitVec 16) (w : Word) (f : Fin 3) (s : State),
    (n ≠ 4 ∨ o.toNat % 4 ≠ 0 ∨ 0x400 ≤ o.toNat) →
    exec (.registerWrite true o n r w f) s = .next s) ∧
  (∀ (o : BitVec 26) (r : BitVec 16) (l : List Byte) (s : State),
    exec (.bar2Write o r l 0) s = .next (s.hosted (s.hostWriteBar2 o.toNat r.toNat l))) ∧
  (∀ (o : BitVec 26) (r : BitVec 16) (l : List Byte) (f : Fin 3) (s : State),
    f ≠ 0 →
    exec (.bar2Write o r l f) s = .next (s.hosted (s.iwl (if f.val = 1 then iwTargetError else iwTargetTimeout) 2 o.toNat r.toNat l.length))) ∧
  (∀ (b : Bool) (o : BitVec 26) (s : State),
    exec (.inboundReadAbort b o) s = .next (s.hosted { s with out := .completerAbort (2 * b2n b) o.toNat :: s.out })) ∧
  (∀ (o : BitVec 26) (n : BitVec 13) (s : State) (a : Nat),
    a = o.toNat % 2 ^ 24 →
    (n ≠ 4 ∨ a % 4 ≠ 0 ∨ (s.absentVariant = true ∧ absentBlock a = true)) →
    exec (.counterLowRead 0 o n) s = .next (s.hosted (s.readOut a 0))) ∧
  (∀ (o : BitVec 26) (s : State) (a k : Nat),
    (a = o.toNat % 2 ^ 24 ∧ a % 4 = 0 ∧ (s.absentVariant = true → absentBlock a = false)) →
    (ctrAt a = some (k, false) ∧ a ≠ StrandLo.off ∧ a ≠ StrandHi.off) →
    exec (.counterLowRead 0 o 4) s = .next (s.hosted { s.readOut a (s.peek a) with ctrLatch := tabInsert s.ctrLatch (a + 4) (tabGet ctrDefault s.ctrs k / 2 ^ 32) })) ∧
  (∀ (o : BitVec 26) (s : State) (a k : Nat),
    (a = o.toNat % 2 ^ 24 ∧ a % 4 = 0 ∧ (s.absentVariant = true → absentBlock a = false)) →
    (ctrAt a = some (k, true) ∧ a ≠ StrandLo.off ∧ a ≠ StrandHi.off) →
    exec (.counterLowRead 0 o 4) s = .next (s.hosted { s.readOut a (s.peek a) with ctrLatch := tabErase s.ctrLatch a })) ∧
  (∀ (o : BitVec 26) (s : State) (a : Nat),
    (a = o.toNat % 2 ^ 24 ∧ (s.absentVariant = true → absentBlock a = false)) →
    a = StrandLo.off →
    exec (.counterLowRead 0 o 4) s = .next (s.hosted { s.readOut a (s.strand % 2 ^ 32) with ctrLatch := tabInsert s.ctrLatch StrandHi.off (s.strand / 2 ^ 32) })) ∧
  (∀ (o : BitVec 26) (s : State) (a : Nat),
    (a = o.toNat % 2 ^ 24 ∧ (s.absentVariant = true → absentBlock a = false)) →
    a = StrandHi.off →
    exec (.counterLowRead 0 o 4) s = .next (s.hosted { s.readOut a (s.peek a) with ctrLatch := tabErase s.ctrLatch a })) ∧
  (∀ (o : BitVec 26) (s : State) (a : Nat),
    (a = o.toNat % 2 ^ 24 ∧ a % 4 = 0 ∧ (s.absentVariant = true → absentBlock a = false)) →
    (ctrAt a = none ∧ a ≠ StrandLo.off ∧ a ≠ StrandHi.off) →
    exec (.counterLowRead 0 o 4) s = .next (s.hosted ((s.readEffect a).readOut a (s.peek a)))) ∧
  (∀ (o : BitVec 26) (n : BitVec 13) (s : State),
    exec (.counterLowRead 1 o n) s = .next (s.hosted { s with out := .readBytes 2 o.toNat ((List.range n.toNat).map (fun k => s.bar2Byte (o.toNat + k))) :: s.out })) ∧
  (∀ (o : BitVec 26) (n : BitVec 13) (s : State),
    exec (.counterLowRead 2 o n) s = .next (s.hosted { s with out := .readBytes 4 o.toNat ((List.range n.toNat).map (fun k => s.bar4Byte (o.toNat + k))) :: s.out })) ∧
  (∀ (s : State),
    exec .strandLoRead s = .next (s.hosted { s.readOut StrandLo.off (s.strand % 2 ^ 32) with ctrLatch := tabInsert s.ctrLatch StrandHi.off (s.strand / 2 ^ 32) })) ∧
  (∀ (s : State),
    exec .sgeReadyRead s = .next (s.hosted ((s.readOut SgeReady.off (s.reg SgeReady.off).toNat).setF SgeReady.peak 0))) ∧
  (∀ (r : Fin 64) (s : State),
    exec (.hrDropsRead r) s = .next (s.hosted ((s.readOut (HrDrops.off r) (s.reg (HrDrops.off r)).toNat).setF (HrDrops.drops r) 0))) ∧
  (∀ (q : Fin 64) (s : State),
    exec (.evqDropsRead q) s = .next (s.hosted ((s.readOut (EvqDrops.off q) (s.reg (EvqDrops.off q)).toNat).setF (EvqDrops.payloadDrops q) 0)))

/-- Doorbell, ACK and CANCEL follow the state machine of R55, and SPI frames are answered as R67 and R68 say, each in every state
and for every frame. While the Core island is accessible (`State.hosted`, R363 and log entry 76), through the mailbox's own
transport: a doorbell with RING 0x5A5A and a new SEQ in IDLE posts the request, clears CANCELLED and notes the arrival, and any
other sets PROTO_ERR; ACK in RESPONSE returns to IDLE, and ends the wait of DECK.RESET with scope FULL where it answers that
command, and in any other state changes nothing; CANCEL in POSTED returns to IDLE with CANCELLED, and in any other sets PROTO_ERR;
through any other transport the three change nothing. A write frame whose CRC byte has come is applied and answered with its
status, and one cut short only drives 0xFF; a read frame is answered with 0xA0 and its words, or with its status; an unknown
opcode answers 0xC4, after all bytes (log entry 75, as the order of a status's checks); a release frame loses the SPI clients; an
early rise of CS# applies a write frame whose CRC byte has come, and nothing else. -/
def Obligations.MailboxAndSpiCommandsComplete : Prop :=
  (∀ (n : Fin 16) (b : Bool) (w : Word) (s v : State),
    s.mbReached n (b2n b) = true →
    (s.getF (MbStatus.state n) = mbIdle ∧ bitsOf w.toNat 31 16 = 0x5A5A ∧ bitsOf w.toNat 15 0 ≠ s.getF (MbSeq.lastPosted n)) →
    v = ((s.setF (MbStatus.state n) mbPosted).setF (MbSeq.lastPosted n) (bitsOf w.toNat 15 0)).setF (MbStatus.cancelled n) 0 →
    exec (.mbDoorbell n b w) s = .next (s.hosted { v with gci := { v.gci with arrival := tabSet ctrDefault v.gci.arrival n (v.gci.arrivals + 1), arrivals := v.gci.arrivals + 1 } })) ∧
  (∀ (n : Fin 16) (b : Bool) (w : Word) (s : State),
    s.mbReached n (b2n b) = true →
    (s.getF (MbStatus.state n) ≠ mbIdle ∨ bitsOf w.toNat 31 16 ≠ 0x5A5A ∨ bitsOf w.toNat 15 0 = s.getF (MbSeq.lastPosted n)) →
    exec (.mbDoorbell n b w) s = .next (s.hosted (s.setF (MbStatus.protoErr n) 1))) ∧
  (∀ (n : Fin 16) (b : Bool) (w : Word) (s : State),
    s.mbReached n (b2n b) = false →
    exec (.mbDoorbell n b w) s = .next s ∧ exec (.mbAck n b) s = .next s ∧ exec (.mbCancel n b) s = .next s) ∧
  (∀ (n : Fin 16) (b : Bool) (s v : State),
    s.mbReached n (b2n b) = true →
    s.getF (MbStatus.state n) = mbResponse →
    (v = (s.setF (MbStatus.state n) mbIdle).syncMbLevel n ∧ (∀ d, v.gci.fullReset ≠ some (n.val, d))) →
    exec (.mbAck n b) s = .next (s.hosted v)) ∧
  (∀ (n : Fin 16) (b : Bool) (s v : State) (d : Nat),
    s.mbReached n (b2n b) = true →
    s.getF (MbStatus.state n) = mbResponse →
    (v = (s.setF (MbStatus.state n) mbIdle).syncMbLevel n ∧ v.gci.fullReset = some (n.val, d)) →
    exec (.mbAck n b) s = .next (s.hosted (v.crownReset DeckResetCause.command))) ∧
  (∀ (n : Fin 16) (b : Bool) (s : State),
    s.mbReached n (b2n b) = true →
    s.getF (MbStatus.state n) ≠ mbResponse →
    exec (.mbAck n b) s = .next s) ∧
  (∀ (n : Fin 16) (b : Bool) (s : State),
    s.mbReached n (b2n b) = true →
    s.getF (MbStatus.state n) = mbPosted →
    exec (.mbCancel n b) s = .next (s.hosted ((s.setF (MbStatus.state n) mbIdle).setF (MbStatus.cancelled n) 1))) ∧
  (∀ (n : Fin 16) (b : Bool) (s : State),
    s.mbReached n (b2n b) = true →
    s.getF (MbStatus.state n) ≠ mbPosted →
    exec (.mbCancel n b) s = .next (s.hosted (s.setF (MbStatus.protoErr n) 1))) ∧
  (∀ (f : List Byte) (s : State) (k : Nat),
    leAt f 0 1 = 0x32 →
    (k = (spiHead f).2.2.1 ∧ 5 + 4 * k ≤ f.length) →
    exec (.spiWriteFrame f) s = .next (s.hosted ((s.spiApply f).misoOut (ffs (5 + 4 * k) ++ leBytes 1 (s.spiStatus f (4 + 4 * k) true))))) ∧
  (∀ (f : List Byte) (s : State),
    (leAt f 0 1 = 0x32 ∧ f.length < 5 + 4 * (spiHead f).2.2.1) →
    exec (.spiWriteFrame f) s = .next (s.hosted (s.misoOut (ffs f.length)))) ∧
  (∀ (f : List Byte) (s : State),
    leAt f 0 1 ≠ 0x32 →
    exec (.spiWriteFrame f) s = .next (s.hosted (s.misoOut (ffs f.length ++ [0xC4])))) ∧
  (∀ (f : List Byte) (s : State) (o : List Byte),
    (leAt f 0 1 = 0x3B ∧ 5 ≤ f.length) →
    s.spiStatus f 4 false = 0xA0 →
    o = [0xA0] ++ (List.range (spiHead f).2.2.1).flatMap (fun i => leBytes 4 (s.peek (mbBase (spiHead f).1 + (spiHead f).2.1 + 4 * i))) →
    exec (.spiReadFrame f) s = .next (s.hosted (s.misoOut (ffs 6 ++ o ++ leBytes 1 (crcSpi o))))) ∧
  (∀ (f : List Byte) (s : State) (t : Nat),
    (leAt f 0 1 = 0x3B ∧ 5 ≤ f.length) →
    (t = s.spiStatus f 4 false ∧ t ≠ 0xA0) →
    exec (.spiReadFrame f) s = .next (s.hosted (s.misoOut (ffs 6 ++ leBytes 1 t ++ leBytes 1 (crcSpi (leBytes 1 t)))))) ∧
  (∀ (f : List Byte) (s : State),
    (leAt f 0 1 = 0x3B ∧ f.length < 5) →
    exec (.spiReadFrame f) s = .next (s.hosted (s.misoOut (ffs f.length)))) ∧
  (∀ (f : List Byte) (s : State),
    leAt f 0 1 ≠ 0x3B →
    exec (.spiReadFrame f) s = .next (s.hosted (s.misoOut (ffs f.length ++ [0xC4])))) ∧
  (∀ (s : State),
    exec .spiReleaseFrame s = .next (s.hosted (((List.range 8).filter (fun c => (s.client c).transport == 1)).foldl (fun (t : State) c => t.clientLost c) (s.misoOut (ffs 2))))) ∧
  (∀ (f : List Byte) (s : State),
    (leAt f 0 1 = 0x32 ∧ 5 + 4 * (spiHead f).2.2.1 ≤ f.length) →
    exec (.spiCsEarlyRise f) s = .next (s.hosted (s.spiApply f))) ∧
  (∀ (f : List Byte) (s : State),
    (leAt f 0 1 ≠ 0x32 ∨ f.length < 5 + 4 * (spiHead f).2.2.1) →
    exec (.spiCsEarlyRise f) s = .next s)

/-- Power-on, the resets and the supplies change what R31, R36, R367 and R463 say, each in every power state. VBAT_POWER_ON_RESET
leaves every register and table at reset and keeps the Brim's non-volatile memory, its key store, fuses and flash, with
HBX_STATUS.LIFECYCLE as the fuses say; BRIM_RESET_RELEASE enters Waking from Off; BRIM_NVM_LOADED in Waking, once, starts the 50
ms and the enabled pairs; a supply fault in Running or Listening, but not on the way to Parked (R368), resets the Crown die and
marks the supplies bad, and in Running with three supply retries within 10 s behind it the device stays Degraded; BOARD_RESET,
with VCC5 in tolerance and outside Off and Parked, resets the Crown die, and in Degraded also clears the retry counts;
SUPPLIES_GOOD releases the Crown die from Waking, or ends the fault in Running; PCIE_RESET loses the PCIe clients and resets the
configuration space, the link and MSI-X. In every other state these events change nothing. -/
def Obligations.ResetCommandsComplete : Prop :=
  (∀ (s v w : State),
    v = (s.setPower pwOff).syncFault →
    w = ({ cfg := v.brim.nvm, brim := { nvm := v.brim.nvm, keyStore := v.brim.keyStore }, fuses := v.fuses, flash := v.flash, host := v.host, out := v.out, absentVariant := v.absentVariant, freeCount := v.freeCount, pending := v.pending } : State) →
    exec .vbatPowerOnReset s = .next ((w.setF HbxStatus.lifecycle w.fuses.lifecycle).variantPools)) ∧
  (∀ (s : State),
    s.brim.power = pwOff →
    exec .brimResetRelease s = .next (s.setPower pwWaking)) ∧
  (∀ (s : State),
    s.brim.power ≠ pwOff →
    exec .brimResetRelease s = .next s) ∧
  (∀ (s : State),
    (s.brim.power = pwWaking ∧ s.brim.nvmLoaded = false) →
    exec .brimNvmLoaded s = .next s.nvmLoad) ∧
  (∀ (s : State),
    (s.brim.power ≠ pwWaking ∨ s.brim.nvmLoaded = true) →
    exec .brimNvmLoaded s = .next s) ∧
  (∀ (s v : State),
    (s.brim.entering ≠ some pwParked ∧ (s.brim.power = pwRunning ∨ s.brim.power = pwListening)) →
    (s.brim.power = pwRunning → (s.brim.supplyRetries.filter (fun t => s.brim.hb < t + secC 10)).length < 3) →
    v = s.crownReset DeckResetCause.crownSupply →
    exec .crownSupplyFault s = .next { v with fabricOn := false, brim := { v.brim with supplyBad := true } }) ∧
  (∀ (s v : State),
    (s.brim.entering ≠ some pwParked ∧ s.brim.power = pwRunning) →
    3 ≤ (s.brim.supplyRetries.filter (fun t => s.brim.hb < t + secC 10)).length →
    v = (s.crownReset DeckResetCause.crownSupply).degradeSupply →
    exec .crownSupplyFault s = .next { v with brim := { v.brim with retryAt := none } }) ∧
  (∀ (s : State),
    (s.brim.entering = some pwParked ∨ (s.brim.power ≠ pwRunning ∧ s.brim.power ≠ pwListening)) →
    exec .crownSupplyFault s = .next s) ∧
  (∀ (s : State),
    (s.brim.vcc5 = true ∧ s.brim.power ≠ pwOff ∧ s.brim.power ≠ pwParked ∧ s.brim.power ≠ pwDegraded) →
    exec .boardReset s = .next (s.crownReset DeckResetCause.boardPin)) ∧
  (∀ (s : State),
    (s.brim.vcc5 = true ∧ s.brim.power = pwDegraded) →
    exec .boardReset s = .next ((s.crownReset DeckResetCause.boardPin).retriesClear)) ∧
  (∀ (s : State),
    (s.brim.vcc5 = false ∨ s.brim.power = pwOff ∨ s.brim.power = pwParked) →
    exec .boardReset s = .next s) ∧
  (∀ (s v w : State),
    v = ((List.range 8).filter (fun c => (s.client c).transport == 0)).foldl (fun (t : State) c => t.clientLost c) s →
    w = { v with pcie := { laneGated := v.pcie.laneGated }, evt := { v.evt with msixTab := [], msixPba := 0 } } →
    exec .pcieReset s = .next (((w.setF TrStatus.hostGen 0).setF TrStatus.hostWidth 0).evqTargetSlept 3)) ∧
  (∀ (s : State),
    (s.brim.power = pwWaking ∧ s.brim.prev ≠ pwListening ∧ s.brim.nvmLoaded = true) →
    exec .suppliesGood s = .next (State.setPower { s with brim := { s.brim with supplyTimer := none, supplyBad := false } } pwRunning)) ∧
  (∀ (s : State),
    (s.brim.power = pwRunning ∧ s.brim.supplyBad = true) →
    exec .suppliesGood s = .next { s with brim := { s.brim with supplyBad := false } }) ∧
  (∀ (s : State),
    (s.brim.power = pwWaking → s.brim.prev = pwListening ∨ s.brim.nvmLoaded = false) →
    (s.brim.power = pwRunning → s.brim.supplyBad = false) →
    exec .suppliesGood s = .next s)

/-- Each step of boot takes effect in its own stage and changes nothing in any other: straps, clocks, self-tests, First-light, firmware
and readiness. With the Crown die up: three equal strap samples in stage 1 are taken, unequal ones are counted, and the tenth time the
boot halts; stable clocks, once the straps are taken, start the fabric and enter stage 2; a BIST with at most two failing rows passes and
any other halts the boot; the Hatbox self-test restores the persistent slots and goes on, or locks the Hatbox and halts; stage 3 ends
with or without First-light, in stage 4; stage 4 loads firmware, or with host-loaded boot starts the recovery service;
FIRMWARE_READY in stage 5 begins service. A pair whose handover is due is handed over, at the bus's idle or at the 10 ms mark with
event 3, and no other; a switchover that runs ends with DONE, or after 2 ms with SWITCH_FAILED and the old bank. The host's link comes
up at a rate and width of the endpoint unless its Lane is gated, and a configuration write leaves MSI-X Enable, Function Mask, Bus
Master Enable and the three BARs as written. -/
def Obligations.BootCommandsComplete : Prop :=
  (∀ (a b e : BitVec 5) (s : State),
    (s.crownUp = true ∧ s.getF DeckBootStatus.stage = 1 ∧ s.fw.straps = false) →
    (a = b ∧ b = e) →
    exec (.strapSample a b e) s = .next (s.strapsTake a.toNat)) ∧
  (∀ (a b e : BitVec 5) (s v : State),
    (s.crownUp = true ∧ s.getF DeckBootStatus.stage = 1 ∧ s.fw.straps = false) →
    (a ≠ b ∨ b ≠ e) →
    v = { s with fw := { s.fw with strapTries := s.fw.strapTries + 1 } } →
    exec (.strapSample a b e) s = .next (if s.fw.strapTries < 9 then v else (v.bootFail 0x01).crownHalt)) ∧
  (∀ (a b e : BitVec 5) (s : State),
    (s.crownUp = false ∨ s.getF DeckBootStatus.stage ≠ 1 ∨ s.fw.straps = true) →
    exec (.strapSample a b e) s = .next s) ∧
  (∀ (s : State),
    (s.crownUp = true ∧ s.getF DeckBootStatus.stage = 1 ∧ s.fw.straps = true ∧ s.fabricOn = false) →
    exec .crownClocksStable s = .next (State.setF { s with fabricOn := true } DeckBootStatus.stage 2)) ∧
  (∀ (s : State),
    (s.crownUp = false ∨ s.getF DeckBootStatus.stage ≠ 1 ∨ s.fw.straps = false ∨ s.fabricOn = true) →
    exec .crownClocksStable s = .next s) ∧
  (∀ (n : Fin 4) (b : Bool) (s : State),
    (s.crownUp = true ∧ s.getF DeckBootStatus.stage = 2 ∧ s.fw.bist = false) →
    (n.val ≤ 2 ∧ b = true) →
    exec (.bootBistDone n b) s = .next { s with fw := { s.fw with bist := true } }) ∧
  (∀ (n : Fin 4) (b : Bool) (s : State),
    (s.crownUp = true ∧ s.getF DeckBootStatus.stage = 2 ∧ s.fw.bist = false) →
    (2 < n.val ∨ b = false) →
    exec (.bootBistDone n b) s = .next ((s.bootFail 0x02).crownHalt)) ∧
  (∀ (n : Fin 4) (b : Bool) (s : State),
    (s.crownUp = false ∨ s.getF DeckBootStatus.stage ≠ 2 ∨ s.fw.bist = true) →
    exec (.bootBistDone n b) s = .next s) ∧
  (∀ (b : Bool) (s : State),
    (s.crownUp = true ∧ s.getF DeckBootStatus.stage = 2 ∧ s.fw.bist = true) →
    exec (.hatboxSelftestDone b) s = .next (if b then s.hatboxPass else (s.hbxLock.bootFail 0x03).crownHalt)) ∧
  (∀ (b : Bool) (s : State),
    (s.crownUp = false ∨ s.getF DeckBootStatus.stage ≠ 2 ∨ s.fw.bist = false) →
    exec (.hatboxSelftestDone b) s = .next s) ∧
  (∀ (b : Bool) (s : State),
    (s.crownUp = true ∧ s.getF DeckBootStatus.stage = 3) →
    exec (.firstLightVerify b) s = .next ((s.firstLight b).setF DeckBootStatus.stage 4)) ∧
  (∀ (b : Bool) (s : State),
    (s.crownUp = false ∨ s.getF DeckBootStatus.stage ≠ 3) →
    exec (.firstLightVerify b) s = .next s) ∧
  (∀ (b : Bool) (s : State),
    (s.crownUp = true ∧ s.getF DeckBootStatus.stage = 4) →
    exec (.firmwareImageVerify b) s = .next (if s.bootSrc == 2 then s.recoveryStart else s.firmwareLoad b)) ∧
  (∀ (b : Bool) (s : State),
    (s.crownUp = false ∨ s.getF DeckBootStatus.stage ≠ 4) →
    exec (.firmwareImageVerify b) s = .next s) ∧
  (∀ (s : State),
    (s.crownUp = true ∧ s.getF DeckBootStatus.stage = 5) →
    exec .firmwareReady s = .next s.firmwareStart) ∧
  (∀ (s : State),
    (s.crownUp = false ∨ s.getF DeckBootStatus.stage ≠ 5) →
    exec .firmwareReady s = .next s) ∧
  (∀ (p : Fin 4) (s : State) (t : Nat),
    s.handoverDue p = some t →
    exec (.causewayHandover p) s = .next (s.handover p) ∧
    exec (.causewayHandoverTimeout p) s = .next (((s.hbTo t).handover p).occur 0x003 p)) ∧
  (∀ (p : Fin 4) (s : State),
    s.handoverDue p = none →
    exec (.causewayHandover p) s = .next s ∧ exec (.causewayHandoverTimeout p) s = .next s) ∧
  (∀ (s : State) (m n a t : Nat) (v : State),
    s.fw.switching = some (m, n, a, t) →
    v = State.syncHbx { s with fw := { s.fw with loaded := some (s.bankImage a).length, verified := true }, hbx := { s.hbx with prodFw := s.rootProduction (imgKey s.fwHeader) } } →
    exec .switchReady s = .next (v.switchEnd m n stDone)) ∧
  (∀ (s : State) (m n a t : Nat) (v : State),
    s.fw.switching = some (m, n, a, t) →
    v = s.timeTo t →
    exec .switchReadyTimeout s = .next (State.switchEnd { v with fw := { v.fw with active := a } } m n stSwitchFailed)) ∧
  (∀ (s : State),
    s.fw.switching = none →
    exec .switchReady s = .next s ∧ exec .switchReadyTimeout s = .next s) ∧
  (∀ (g w : Fin 5) (s : State),
    (s.pcie.laneGated = false ∧ g.val ≠ 0 ∧ (w.val = 1 ∨ w.val = 2 ∨ w.val = 4)) →
    exec (.hostLinkUp g w) s = .next (State.hostTarget ((State.setF { s with pcie := { s.pcie with linkUp := true } } TrStatus.hostGen g).setF TrStatus.hostWidth w) (s.targetAsleep 3))) ∧
  (∀ (g w : Fin 5) (s : State),
    (s.pcie.laneGated = true ∨ g.val = 0 ∨ w.val = 0 ∨ w.val = 3) →
    exec (.hostLinkUp g w) s = .next s) ∧
  (∀ (a b e : Bool) (x y z : BitVec 64) (s : State),
    exec (.pcieConfigWrite a b e x y z) s = .next (State.hostTarget { s with pcie := { s.pcie with msixEnable := a, funcMask := b, busMaster := e, bars := (barBase 0x1000000 x.toNat, barBase 0x4000000 y.toNat, barBase 0x4000 z.toNat) } } (s.targetAsleep 3)))

/-- Drains, audit visits, egress selection, cell reads, transmissions, histogram samples and Ethernet reception take the effects
of R128 and R252 to R334, and change nothing where their conditions do not hold. A drained queue that is empty ends its drain, and
one whose deadline passes is forced; Q_PEAK_READ returns and clears the peak; an audit visit to an allocated cell clears SUSPECT
where its owner holds it, sets it at the first failing visit and reclaims the cell at the second; the end of an audit pass notes
the totals, and reports a wrong count or sum. EGRESS_SELECT brings the credits up to date and begins a PLCA opportunity; at a port
that is up a disable goes on, and where none is going on, not in back-off and, under PLCA, with its opportunity, a deferred frame
goes first, a preemptable frame on the wire is preempted where the gate list or an express copy asks for it, and an idle wire runs
the frame boundary. CELL_READ gives the oldest request its next cell, or carries out what R274 and R280 ask where the read fails;
a finished frame is sent; a histogram sample is taken when due; and an Ethernet frame goes through the checks of R128 in their
order, its LPI counted first. -/
def Obligations.BufferAndEgressCommandsComplete : Prop :=
  (∀ (q : Fin 2048) (s v : State),
    (s.flag (QStatus.draining q) = true ∧ s.queue q = []) →
    v = s.setF (QStatus.draining q) 0 →
    exec (.queueDrainDone q) s = .next { v with buf := { v.buf with drainAt := tabErase s.buf.drainAt q } }) ∧
  (∀ (q : Fin 2048) (s : State),
    (s.flag (QStatus.draining q) = false ∨ s.queue q ≠ []) →
    exec (.queueDrainDone q) s = .next s) ∧
  (∀ (q : Fin 2048) (s : State) (t : Nat),
    (tabFind s.buf.drainAt q = some t ∧ s.flag (QStatus.draining q) = true) →
    exec (.queueDrainTimeout q) s = .next ((s.timeTo (t - 1)).forceQueue q)) ∧
  (∀ (q : Fin 2048) (s : State),
    (tabFind s.buf.drainAt q = none ∨ s.flag (QStatus.draining q) = false) →
    exec (.queueDrainTimeout q) s = .next s) ∧
  (∀ (c : Fin 262144) (s : State) (v : Cell) (o : Desc),
    (v = s.cell c ∧ o = s.desc v.owner ∧ v.alloc = true) →
    exec (.auditVisit c) s = .next (if o.state ≠ .free ∧ o.gen = v.gen then s.setCell c { v with suspect := false }
      else if v.suspect = false then s.setCell c { v with suspect := true } else s.leakReclaim c)) ∧
  (∀ (c : Fin 262144) (s : State),
    (s.cell c).alloc = false →
    exec (.auditVisit c) s = .next s) ∧
  (∀ (b : BitVec 17) (s v : State) (n : Nat),
    (n = (65536 - s.liveDescs + b.toNat) % 2 ^ 17 ∧ v = s.auditNote n) →
    (n + s.liveDescs = 65536 ∧ n = v.getF SwFreeDesc.count) →
    exec (.auditPassEnd b) s = .next v) ∧
  (∀ (b : BitVec 17) (s v : State) (n : Nat),
    (n = (65536 - s.liveDescs + b.toNat) % 2 ^ 17 ∧ v = s.auditNote n) →
    (n + s.liveDescs ≠ 65536 ∨ n ≠ v.getF SwFreeDesc.count) →
    exec (.auditPassEnd b) s = .next (((v.incSw 12).event SwEvents.descCountErr 0x02E).faultRise 4)) ∧
  (∀ (q : Fin 2048) (s v : State),
    v = s.setF (QPeak.peak q) 0 →
    exec (.qPeakRead q) s = .next (s.hosted { v with out := .readData (QPeak.off q) (s.getF (QPeak.peak q)) :: s.out })) ∧
  (∀ (p : Fin 22) (t : Bool) (s v : State),
    (v = (if t && ((s.wireFree p).creditSync p).plcaRuns p && ((s.wireFree p).creditSync p).flag (PortStatus.linkUp p) then ((s.wireFree p).creditSync p).plcaTurn p else (s.wireFree p).creditSync p)) →
    (v.flag (PortStatus.linkUp p) = true ∧ (∀ d, (v.port p).disabling = some d → d.mode = 1) ∧ (v.port p).backoffAt = none ∧ v.plcaMay p = true) →
    exec (.egressSelect p t) s = .next (if (v.port p).deferred then v.deferredGo p
      else if tabFind v.buf.egress p = none then v.boundary p
      else if v.gateWaits p then (v.gatePreempt p).boundary p else if v.expressWaits p then (v.preempt p).boundary p else v)) ∧
  (∀ (p : Fin 22) (t : Bool) (s v : State),
    (v = (if t && ((s.wireFree p).creditSync p).plcaRuns p && ((s.wireFree p).creditSync p).flag (PortStatus.linkUp p) then ((s.wireFree p).creditSync p).plcaTurn p else (s.wireFree p).creditSync p)) →
    (v.flag (PortStatus.linkUp p) = false → exec (.egressSelect p t) s = .next v) ∧
    (∀ d, v.flag (PortStatus.linkUp p) = true → (v.port p).disabling = some d → d.mode ≠ 1 →
      exec (.egressSelect p t) s = .next (v.portDisableStep p)) ∧
    ((∀ d, (v.port p).disabling = some d → d.mode = 1) → ((v.port p).backoffAt.isSome = true ∨ v.plcaMay p = false) →
      exec (.egressSelect p t) s = .next v)) ∧
  (∀ (u : Fin 7) (s v : State) (p : Nat) (e : EgressRead),
    s.readWait.oldestRead = some (p, e) →
    s.readWait.readMeets e.desc e.taken u = (true, v) →
    exec (.cellRead u) s = .next (v.cellTake p e (v.nextCell e))) ∧
  (∀ (u : Fin 7) (s v : State) (p : Nat) (e : EgressRead),
    s.readWait.oldestRead = some (p, e) →
    s.readWait.readMeets e.desc e.taken u = (false, v) →
    exec (.cellRead u) s = .next (v.readFails p e)) ∧
  (∀ (u : Fin 7) (s : State),
    s.readWait.oldestRead = none →
    exec (.cellRead u) s = .next s.readWait) ∧
  (∀ (p : Fin 22) (s : State) (e : EgressRead),
    (tabFind s.buf.egress p = some e ∧ (e.cellsLeft = 0 ∨ e.trunc = true)) →
    ((s.port p).backoffAt = none ∧ (s.port p).deferred = false) →
    exec (.frameTransmitComplete p) s = .next (s.frameSent p e)) ∧
  (∀ (p : Fin 22) (s : State),
    ((∀ e, tabFind s.buf.egress p = some e → e.cellsLeft ≠ 0 ∧ e.trunc = false) ∨ (s.port p).backoffAt.isSome = true ∨ (s.port p).deferred = true) →
    exec (.frameTransmitComplete p) s = .next s) ∧
  (∀ (q : Fin 2048) (s : State) (t : Nat),
    tabFind s.egr.histAt q = some t →
    exec (.histogramSample q) s = .next (s.histSample q t)) ∧
  (∀ (q : Fin 2048) (s : State),
    tabFind s.egr.histAt q = none →
    exec (.histogramSample q) s = .next s) ∧
  (∀ (p : Fin 20) (l : List Byte) (a b e : Bool) (k : Byte) (s v : State) (n : Nat),
    (v = s.rxLpi p k.toNat ∧ v.flag (PortStatus.linkUp p) = true ∧ n = s.par (oChan p) 0x0103) →
    exec (.ethFrameReceive p l a b e k) s = .next (if a then v.inc (oChan p) cEth 4 else if b && v.preemptOn p then v.inc (oChan p) cEth 5
      else if l.length < 64 then v.inc (oChan p) cEth 6
      else if n < l.length then (v.inc (oChan p) cEth 7).rxBad p (l.take n) e
      else if !fcsOk l then (v.inc (oChan p) cEth 8).rxBad p l e
      else match v.macsecRx p l with
        | (none, t) => if t.macsecStrict p then t else t.rxBad p l e
        | (some x, t) => t.macAccept p l.length x e)) ∧
  (∀ (p : Fin 20) (l : List Byte) (a b e : Bool) (k : Byte) (s v : State),
    (v = s.rxLpi p k.toNat ∧ v.flag (PortStatus.linkUp p) = false) →
    exec (.ethFrameReceive p l a b e k) s = .next v)

/-- Gate entries, bundles, authentication jobs and commits take effect when they are due, and nothing happens where they are not. With an
operational list: the next entry of the list starts at the end of the one in force unless the cycle or a change time cuts it; a cycle
starts at its time unless a pending list cuts it or extends it; and a pending list becomes operational at its change time. Outside mode
2 the bundler takes the next bundle's message; a window that is over closes its open bundle; and the oldest frame that waits is
unbundled. An SGE reset that has drained enters mode 2. The oldest authentication job of either kind is carried out. The oldest waiting
commit has its turn once no older entries are kept and no table is dumped: its ticket completes ABORTED where its draft is gone (log
entry 87), with the status of a check that fails, or with the switch of the epoch. The older entries are released 40 us after the
switch. -/
def Obligations.GateBundleAuthCommitCommandsComplete : Prop :=
  (∀ (p : Fin 22) (s : State) (g : GateSt) (l : GateList) (a b i t : Nat),
    (g = s.gate p ∧ g.oper = some l) →
    (l.entries[g.entry]? = some (a, b, i) ∧ (l.entries[g.entry + 1]?).isSome = true) →
    t = g.entryStart + i →
    (t < g.cycleStart + l.cycle ∧ (∀ k c, g.pend = some (k, c) → t < c)) →
    exec (.gateEntryStart p) s = .next ((s.clockTo 2 t).gateApply p (g.entry + 1) t)) ∧
  (∀ (p : Fin 22) (s : State) (g : GateSt) (l : GateList) (a b i t : Nat),
    (g = s.gate p ∧ g.oper = some l) →
    (l.entries[g.entry]? = some (a, b, i) ∧ t = g.entryStart + i) →
    (g.cycleStart + l.cycle ≤ t ∨ (∃ k c, g.pend = some (k, c) ∧ c ≤ t)) →
    exec (.gateEntryStart p) s = .next s) ∧
  (∀ (p : Fin 22) (s : State) (g : GateSt),
    g = s.gate p →
    (∀ l, g.oper = some l → l.entries[g.entry]? = none ∨ l.entries[g.entry + 1]? = none) →
    exec (.gateEntryStart p) s = .next s) ∧
  (∀ (p : Fin 22) (s : State) (g : GateSt) (l : GateList) (t : Nat) (v : State),
    (g = s.gate p ∧ g.oper = some l ∧ t = g.cycleStart + l.cycle) →
    (∀ k c, g.pend = some (k, c) → t < c ∧ t + l.ext ≤ c) →
    v = s.clockTo 2 t →
    exec (.gateCycleStart p) s = .next ((v.setGate p { v.gate p with cycleStart := t }).gateApply p 0 t)) ∧
  (∀ (p : Fin 22) (s : State) (g : GateSt) (l k : GateList) (c t : Nat),
    (g = s.gate p ∧ g.oper = some l ∧ t = g.cycleStart + l.cycle) →
    (g.pend = some (k, c) ∧ (c ≤ t ∨ c < t + l.ext)) →
    exec (.gateCycleStart p) s = .next s) ∧
  (∀ (p : Fin 22) (s : State),
    (s.gate p).oper = none →
    exec (.gateCycleStart p) s = .next s) ∧
  (∀ (p : Fin 22) (s : State) (l : GateList) (t : Nat) (v : State),
    ((s.gate p).pend = some (l, t) ∧ v = s.clockTo 2 t) →
    exec (.gateChangeTime p) s = .next ((((v.setGate p { v.gate p with oper := some l, pend := none, cycleStart := t }).gateApply p 0 t).incGate p 0).occur (0x100 + p.val * 16 + 10))) ∧
  (∀ (p : Fin 22) (s : State),
    (s.gate p).pend = none →
    exec (.gateChangeTime p) s = .next s) ∧
  (∀ (u : Fin 7) (s : State) (b : Nat),
    (s.getF SgeStatus.modeActive ≠ 2 ∧ s.bundleTurn = some b) →
    exec (.bundlerTakeMessage u) s = .next (s.bundlerTake b u)) ∧
  (∀ (u : Fin 7) (s : State),
    (s.getF SgeStatus.modeActive = 2 ∨ s.bundleTurn = none) →
    exec (.bundlerTakeMessage u) s = .next s) ∧
  (∀ (b : Fin 1249) (s : State),
    exec (.bundleWindowClose b) s = .next (if (s.bundle b).open_ then (s.timeTo (s.bundle b).until_).bundleClose b else s)) ∧
  (∀ (u : Upset) (s : State) (d : Nat) (l : List Nat) (v : State),
    s.sge.unbundle = d :: l →
    v = { s with sge := { s.sge with unbundle := l } } →
    exec (.unbundleFrame u) s = .next ((v.finishCopy d).unbundleFrame (s.desc d) (s.frameOf (s.desc d)) u)) ∧
  (∀ (u : Upset) (s : State),
    s.sge.unbundle = [] →
    exec (.unbundleFrame u) s = .next s) ∧
  (∀ (s v : State),
    (s.sge.ending.isSome = true ∧ s.sge.ready = [] ∧ s.sge.running = []) →
    v = { s with sge := { unbundle := s.sge.unbundle, orders := s.sge.orders } } →
    exec .sgeDrainDone s = .next (((v.setF SgeStatus.busy 0).setF SgeStatus.modeActive 2).sgeEvent 4)) ∧
  (∀ (s : State),
    (s.sge.ending = none ∨ s.sge.ready ≠ [] ∨ s.sge.running ≠ []) →
    exec .sgeDrainDone s = .next s) ∧
  (∀ (b : Bool) (s : State) (j : AuthJob),
    s.authNext false = some j →
    exec (.canAuthVerifyJob b) s = .next ((s.authTake j).authVerify j b)) ∧
  (∀ (b : Bool) (s : State) (j : AuthJob),
    s.authNext true = some j →
    exec (.canAuthGenerateJob b) s = .next ((s.authTake j).authGenerate j b)) ∧
  (∀ (b : Bool) (s : State),
    (s.authNext false = none → exec (.canAuthVerifyJob b) s = .next s) ∧
    (s.authNext true = none → exec (.canAuthGenerateJob b) s = .next s)) ∧
  (∀ (s : State) (p : PendCommit) (l : List PendCommit) (v : State) (d : Draft) (w : State),
    (s.gci.commits = p :: l ∧ s.oldCfg = none ∧ s.dumping = false) →
    (v = s.popCommit ∧ v.draft p.client p.handle = some d ∧ v.commitCheck d p.baseEpoch p.flags = none) →
    w = ((v.dropDraft d.handle).switchEpoch (finalChanges d.changes) (nextEpoch v.gci.epoch)).quarCommit d.client p.flags →
    exec .epochSwitch s = .next (w.finishTicket p.client p.ticket stDone (leBytes 4 (nextEpoch v.gci.epoch) ++ leBytes 4 (v.changedCount (finalChanges d.changes))))) ∧
  (∀ (s : State) (p : PendCommit) (l : List PendCommit) (v : State) (d : Draft) (st : Nat) (pay : List Byte),
    (s.gci.commits = p :: l ∧ s.oldCfg = none ∧ s.dumping = false) →
    (v = s.popCommit ∧ v.draft p.client p.handle = some d ∧ v.commitCheck d p.baseEpoch p.flags = some (st, pay)) →
    exec .epochSwitch s = .next (v.finishTicket p.client p.ticket st pay)) ∧
  (∀ (s : State) (p : PendCommit) (l : List PendCommit) (v : State),
    (s.gci.commits = p :: l ∧ s.oldCfg = none ∧ s.dumping = false) →
    (v = s.popCommit ∧ v.draft p.client p.handle = none) →
    exec .epochSwitch s = .next (v.finishTicket p.client p.ticket stAborted [])) ∧
  (∀ (s : State),
    (s.gci.commits = [] ∨ s.oldCfg.isSome = true ∨ s.dumping = true) →
    exec .epochSwitch s = .next s) ∧
  (∀ (s v : State),
    s.oldCfg.isSome = true →
    v = s.timeTo (strandPlus s.gci.switchAt (usC 40)) →
    exec .oldEpochRelease s = .next { v with oldCfg := none }) ∧
  (∀ (s : State),
    s.oldCfg = none →
    exec .oldEpochRelease s = .next s)

/-- Reception, feeding, attempts and recovery of a CAN Lane take the effects of R157 and R165 to R180, and change nothing where
their conditions do not hold. A well-formed frame that the Lane listens to is received where its mode knows the format, and is an
unknown frame otherwise; a class scheduler feeds the FIFO; an attempt starts, and one in flight ends with success or failure and
what follows an attempt; the recovery delay and the recovery count, at a Lane that is not gated, start and end recovery; at
AT_TIME the comparator's frame is released, and once its window has passed and it is not in flight it is recorded as late; a
commanded transceiver mode is applied with no frame in flight, and one reached is recorded; a dominant timeout counts
TXD_TIMEOUTS; integration ends with 11 recessive bits at an enabled Lane that is not gated and whose transceiver is in normal or
listen mode; an error as receiver, of the kinds stuff, form, bit and CRC, at a Lane that listens is counted and raises REC by 1,
or by 9 with a dominant bit after the flag. -/
def Obligations.CanLaneCommandsComplete : Prop :=
  (∀ (n : Fin 64) (f : CanFrame) (a : BitVec 32) (u : Upset) (s : State),
    (s.canListens n = true ∧ canFrameOk f = true) →
    exec (.canFrameReceive n f a u) s = .next (if s.canKnows n f.kind then s.canAccept n f a.toNat u else s.canUnknown n)) ∧
  (∀ (n : Fin 64) (f : CanFrame) (a : BitVec 32) (u : Upset) (s : State),
    (s.canListens n = false ∨ canFrameOk f = false) →
    exec (.canFrameReceive n f a u) s = .next s) ∧
  (∀ (n : Fin 64) (u : Fin 7) (s : State),
    exec (.classSchedulerFeed n u) s = .next (s.canFeed n u)) ∧
  (∀ (n : Fin 64) (s : State),
    exec (.canAttemptStart n) s = .next (s.canStart n)) ∧
  (∀ (n : Fin 64) (k : Fin 8) (a b : Bool) (s : State),
    (s.canLane n).inFlight.isSome = true →
    exec (.canAttemptEnd n k a b) s = .next (if k.val = 0 then (s.canSent n).canAfterAttempt n else (s.canFailed n k a b).canAfterAttempt n)) ∧
  (∀ (n : Fin 64) (k : Fin 8) (a b : Bool) (s : State),
    (s.canLane n).inFlight = none →
    exec (.canAttemptEnd n k a b) s = .next s) ∧
  (∀ (n : Fin 64) (s : State) (t : Nat),
    (s.canLane n).recoverAt = some t →
    exec (.recoverDelayExpiry n) s = .next ((s.timeTo t).canRecoverStart n)) ∧
  (∀ (n : Fin 64) (s : State),
    (s.canLane n).recoverAt = none →
    exec (.recoverDelayExpiry n) s = .next s) ∧
  (∀ (n : Fin 64) (s : State),
    exec (.recoveryCountDone n) s = .next (if s.flag (CanStatus.recovering n) = true ∧ s.flag (CanStatus.laneGated n) = false then s.canRecovered n else s)) ∧
  (∀ (n : Fin 64) (s : State) (a : AtFrame) (v : State),
    ((s.canLane n).at_ = some a ∧ v = s.timeTo a.at_) →
    exec (.atTimeRelease n) s = .next (v.setCan n { v.canLane n with at_ := some { a with released := true } })) ∧
  (∀ (n : Fin 64) (s : State) (a : AtFrame),
    ((s.canLane n).at_ = some a ∧ (s.canLane n).inFlight ≠ some .atTime) →
    exec (.atTimeLate n) s = .next ((s.timeTo (strandPlus a.at_ (usC (s.canPar n 0x0207) + 1))).atOutcome n a csLate)) ∧
  (∀ (n : Fin 64) (s : State) (a : AtFrame),
    ((s.canLane n).at_ = some a ∧ (s.canLane n).inFlight = some .atTime) →
    exec (.atTimeLate n) s = .next s) ∧
  (∀ (n : Fin 64) (s : State),
    (s.canLane n).at_ = none →
    exec (.atTimeRelease n) s = .next s ∧ exec (.atTimeLate n) s = .next s) ∧
  (∀ (n : Fin 16) (s : State) (m : Nat),
    ((s.canLane n).xcvrPend = some m ∧ (s.canLane n).inFlight = none) →
    exec (.xcvrModeApply n) s = .next (s.setCan n { s.canLane n with xcvrPend := none, xcvrGoing := some m })) ∧
  (∀ (n : Fin 16) (s : State),
    ((s.canLane n).xcvrPend = none ∨ (s.canLane n).inFlight.isSome = true) →
    exec (.xcvrModeApply n) s = .next s) ∧
  (∀ (n : Fin 16) (s : State) (m : Nat),
    (s.canLane n).xcvrGoing = some m →
    exec (.xcvrModeReached n) s = .next (s.xcvrReached n m)) ∧
  (∀ (n : Fin 16) (s : State),
    (s.canLane n).xcvrGoing = none →
    exec (.xcvrModeReached n) s = .next s) ∧
  (∀ (n : Fin 16) (s : State),
    exec (.txdDominantTimeout n) s = .next (s.incCan n 26)) ∧
  (∀ (n : Fin 64) (s : State),
    (s.flag (CanStatus.enabled n) = true ∧ s.flag (CanStatus.laneGated n) = false ∧ (16 ≤ n.val ∨ s.getF (CanStatus.xcvrMode n) ≤ 1)) →
    exec (.canIntegration n) s = .next (s.setF (CanStatus.integrating n) 0)) ∧
  (∀ (n : Fin 64) (s : State),
    (s.flag (CanStatus.enabled n) = false ∨ s.flag (CanStatus.laneGated n) = true ∨ (n.val < 16 ∧ 1 < s.getF (CanStatus.xcvrMode n))) →
    exec (.canIntegration n) s = .next s) ∧
  (∀ (n : Fin 64) (k : Fin 7) (a b : Bool) (s : State),
    (s.canListens n = true ∧ k.val ≠ 0 ∧ k.val ≠ 3) →
    exec (.canRxError n k a b) s = .next (s.canRxErr n k a (if b then 9 else 1))) ∧
  (∀ (n : Fin 64) (k : Fin 7) (a b : Bool) (s : State),
    (s.canListens n = false ∨ k.val = 0 ∨ k.val = 3) →
    exec (.canRxError n k a b) s = .next s)

/-- The host's record queues of a CAN Channel and its disable follow R186, R188 and R193. The record at TXQ_TAIL is taken
as R188 says; at a Channel that the variant has, a write of RXQ_TAIL or TXC_TAIL within its area that does not pass the head stores the
pointer and updates the Channel's levels, and any other sets RING_ERR; a write of TXQ_HEAD within its area and at most the ring
ahead of TXQ_TAIL stores the pointer and lets the ring run, and any other sets RING_ERR; at a Channel that the variant lacks the three
writes change nothing (R3). A drain with everything sent disables the Channel, one past its deadline goes on as force, and neither
event changes anything otherwise. -/
def Obligations.CanQueueCommandsComplete : Prop :=
  (∀ (n : Fin 64) (s : State),
    exec (.hostTxRecordTake n) s = .next (s.canTake n)) ∧
  (∀ (n : Fin 64) (w : Word) (s : State) (a : Nat),
    s.lacksCan n = false →
    (a = bitsOf w.toNat 11 0 ∧ bitsOf a 10 0 < 2048 ∧ (ptrPos a 2048 + 2 * 2048 - ptrPos (s.word (RxqTail.off n)) 2048) % (2 * 2048) ≤ ringUsed (s.word (RxqHead.off n)) (s.word (RxqTail.off n)) 2048) →
    exec (.rxqTailWrite n w) s = .next (s.hosted ((s.setWord (RxqTail.off n) a).syncCanLevels n))) ∧
  (∀ (n : Fin 64) (w : Word) (s : State) (a : Nat),
    s.lacksCan n = false →
    (a = bitsOf w.toNat 11 0 ∧ (2048 ≤ bitsOf a 10 0 ∨ ringUsed (s.word (RxqHead.off n)) (s.word (RxqTail.off n)) 2048 < (ptrPos a 2048 + 2 * 2048 - ptrPos (s.word (RxqTail.off n)) 2048) % (2 * 2048))) →
    exec (.rxqTailWrite n w) s = .next (s.hosted (s.canEvent n 4))) ∧
  (∀ (n : Fin 64) (w : Word) (s : State) (a : Nat) (v : State),
    s.lacksCan n = false →
    (a = bitsOf w.toNat 11 0 ∧ bitsOf a 10 0 < 1536 ∧ ringUsed a (s.word (TxqTail.off n)) 1536 ≤ 1536) →
    v = s.setWord (TxqHead.off n) a →
    exec (.txqHeadWrite n w) s = .next (s.hosted (v.setCan n { s.canLane n with ringStopped := false }))) ∧
  (∀ (n : Fin 64) (w : Word) (s : State) (a : Nat),
    s.lacksCan n = false →
    (a = bitsOf w.toNat 11 0 ∧ (1536 ≤ bitsOf a 10 0 ∨ 1536 < ringUsed a (s.word (TxqTail.off n)) 1536)) →
    exec (.txqHeadWrite n w) s = .next (s.hosted (s.canEvent n 4))) ∧
  (∀ (n : Fin 64) (w : Word) (s : State) (a : Nat),
    s.lacksCan n = false →
    (a = bitsOf w.toNat 11 0 ∧ bitsOf a 10 0 < 512 ∧ (ptrPos a 512 + 2 * 512 - ptrPos (s.word (TxcTail.off n)) 512) % (2 * 512) ≤ ringUsed (s.word (TxcHead.off n)) (s.word (TxcTail.off n)) 512) →
    exec (.txcTailWrite n w) s = .next (s.hosted ((s.setWord (TxcTail.off n) a).syncCanLevels n))) ∧
  (∀ (n : Fin 64) (w : Word) (s : State) (a : Nat),
    s.lacksCan n = false →
    (a = bitsOf w.toNat 11 0 ∧ (512 ≤ bitsOf a 10 0 ∨ ringUsed (s.word (TxcHead.off n)) (s.word (TxcTail.off n)) 512 < (ptrPos a 512 + 2 * 512 - ptrPos (s.word (TxcTail.off n)) 512) % (2 * 512))) →
    exec (.txcTailWrite n w) s = .next (s.hosted (s.canEvent n 4))) ∧
  (∀ (n : Fin 64) (w : Word) (s : State),
    s.lacksCan n = true →
    exec (.rxqTailWrite n w) s = .next s ∧ exec (.txqHeadWrite n w) s = .next s ∧ exec (.txcTailWrite n w) s = .next s) ∧
  (∀ (n : Fin 64) (s : State),
    (s.flag (CanStatus.draining n) = true ∧ s.canIdle n = true) →
    exec (.canDrainDone n) s = .next (s.canDisabled n)) ∧
  (∀ (n : Fin 64) (s : State),
    (s.flag (CanStatus.draining n) = false ∨ s.canIdle n = false) →
    exec (.canDrainDone n) s = .next s) ∧
  (∀ (n : Fin 64) (s : State) (d : Disabling),
    ((s.canLane n).disabling = some d ∧ d.mode = 1) →
    exec (.canDrainTimeout n) s = .next ((s.timeTo d.deadline).canForce n d.ticket)) ∧
  (∀ (n : Fin 64) (s : State),
    (∀ d, (s.canLane n).disabling = some d → d.mode ≠ 1) →
    exec (.canDrainTimeout n) s = .next s)

/-- Headers, responses, slots, pulses and disables of a LIN Channel follow R194 to R206, and change nothing where their conditions
do not hold. A responder that runs takes a header as activity, notes the time of its break, and answers it, or counts its fault;
at a Channel that runs, in a subscribed slot a correct response of the right length is received, one of another length is activity
only, a wrong checksum counts and ends the response, an event-triggered slot's wrong response is a collision, and kind 3 counts
BIT_ERR and ends the response in any slot; a response timeout in a subscribed slot counts it and ends the response; 4 s without
activity make a responder's bus idle; the slot's boundary is run; a schedule restarts at its time; a TXD timeout counts and ends
the response as the slot asks; a wake- up pulse ends with its counter, its event and, at a commander with a table selected before
it, none running and none selected since, the restart after 100 ms; a publish buffer is written; a drain past its deadline goes on
as force. -/
def Obligations.LinLaneCommandsComplete : Prop :=
  (∀ (n : Fin 16) (i : BitVec 6) (e : Fin 4) (a : BitVec 32) (u : Fin 7) (s v w : State),
    (s.linRuns n = true ∧ s.getF (LinStatus.roleActive n) = 2) →
    (v = s.linActivity n ∧ w = v.setLin n { v.linLane n with brk := strandMinus v.strand a.toNat }) →
    exec (.linHeaderReceive n i e a u) s = .next (State.linSpan (if e.val = 0 then (w.linHeaderIn n i.toNat u).linDisableStep n else w.linHeaderFault n e.val) n)) ∧
  (∀ (n : Fin 16) (i : BitVec 6) (e : Fin 4) (a : BitVec 32) (u : Fin 7) (s : State),
    (s.linRuns n = false ∨ s.getF (LinStatus.roleActive n) ≠ 2) →
    exec (.linHeaderReceive n i e a u) s = .next s) ∧
  (∀ (n : Fin 16) (l : List Byte) (k : Fin 4) (u : Upset) (s : State),
    s.linRuns n = true →
    exec (.linResponseReceive n l k u) s = .next (((s.linResponse n l k u).linDisableStep n).linSpan n)) ∧
  (∀ (n : Fin 16) (l : List Byte) (k : Fin 4) (u : Upset) (s : State),
    s.linRuns n = false →
    exec (.linResponseReceive n l k u) s = .next s) ∧
  (∀ (n : Nat) (s : State) (l : List Byte) (u : Upset),
    s.linResponse n l 3 u = ((s.incLin n 7).linEvent n 7).linResponseEnd n) ∧
  (∀ (n : Nat) (s : State) (l : List Byte) (u : Upset),
    ((s.linLane n).slot = .subscribe ∨ (s.linLane n).slot = .event) →
    s.linResponse n l 0 u = (if l.length = s.linLen n (s.linLane n).lastId then s.linReceived n l u else s.linActivity n)) ∧
  (∀ (n : Nat) (s : State) (l : List Byte) (u : Upset),
    (s.linLane n).slot = .subscribe →
    s.linResponse n l 1 u = (((s.incLin n 4).linEvent n 1).linActivity n).linResponseEnd n ∧
    s.linResponse n l 2 u = s.linActivity n) ∧
  (∀ (n : Nat) (s : State) (l : List Byte) (k : Nat) (u : Upset) (v : State),
    ((s.linLane n).slot = .event ∧ (k = 1 ∨ k = 2)) →
    v = ((s.incLin n 8).linEvent n 3).linActivity n →
    s.linResponse n l k u = v.setLin n { v.linLane n with collided := true }) ∧
  (∀ (n : Nat) (s : State) (l : List Byte) (k : Nat) (u : Upset),
    ((s.linLane n).slot ≠ .subscribe ∧ (s.linLane n).slot ≠ .event ∧ k ≠ 3) →
    s.linResponse n l k u = s.linActivity n) ∧
  (∀ (n : Fin 16) (s v : State),
    (s.linLane n).slot = .subscribe →
    v = s.timeTo (s.linLane n).respEnd →
    exec (.linResponseTimeout n) s = .next ((((v.incLin n 3).linEvent n 0).linResponseEnd n).linDisableStep n)) ∧
  (∀ (n : Fin 16) (s : State),
    (s.linLane n).slot ≠ .subscribe →
    exec (.linResponseTimeout n) s = .next s) ∧
  (∀ (n : Fin 16) (s v : State),
    (s.linRuns n = true ∧ s.getF (LinStatus.roleActive n) = 2 ∧ s.flag (LinStatus.busIdle n) = false) →
    v = State.linEvent ((s.timeTo (strandPlus (s.linLane n).activity (secC 4))).setF (LinStatus.busIdle n) 1) n 6 →
    exec (.linBusIdleTimeout n) s = .next ((v.setLin n { v.linLane n with demand := false }).linSpan n)) ∧
  (∀ (n : Fin 16) (s : State),
    (s.linRuns n = false ∨ s.getF (LinStatus.roleActive n) ≠ 2 ∨ s.flag (LinStatus.busIdle n) = true) →
    exec (.linBusIdleTimeout n) s = .next s) ∧
  (∀ (n : Fin 16) (u : Fin 7) (s : State),
    exec (.publishBufferWrite n u) s = .next (s.linPublishWrite n u)) ∧
  (∀ (n : Fin 16) (u : Fin 7) (s : State),
    exec (.linSlotBoundary n u) s = .next (s.linBoundary n u)) ∧
  (∀ (n : Fin 16) (s : State) (a t : Nat),
    ((s.linLane n).restartAt = some a ∧ (s.linLane n).lastTable = some t) →
    exec (.linScheduleRestart n) s = .next ((s.timeTo a).linStartTable n t)) ∧
  (∀ (n : Fin 16) (s : State),
    ((s.linLane n).restartAt = none ∨ (s.linLane n).lastTable = none) →
    exec (.linScheduleRestart n) s = .next s) ∧
  (∀ (n : Fin 8) (s v : State),
    v = s.incLin n 7 →
    exec (.linTxdTimeout n) s = .next (v.linResponseEnd n)) ∧
  (∀ (n : Fin 16) (s : State) (t : Nat) (v : State) (b : Bool),
    ((s.linLane n).pulseEnd = some t ∧ v = s.timeTo t) →
    b = (v.getF (LinStatus.roleActive n) == 1 && (v.linLane n).lastTable.isSome && !v.flag (LinStatus.running n) && (v.linLane n).wakeRestart) →
    exec (.wakeupPulseEnd n) s = .next (State.linEvent ((v.setLin n { v.linLane n with pulseEnd := none, wakeRestart := false, restartAt := if b then some (v.after (msC 100)) else none }).incLin n 11) n 5)) ∧
  (∀ (n : Fin 16) (s : State),
    (s.linLane n).pulseEnd = none →
    exec (.wakeupPulseEnd n) s = .next s) ∧
  (∀ (n : Fin 16) (s : State) (d : Disabling),
    ((s.linLane n).disabling = some d ∧ d.mode = 1) →
    exec (.linDrainTimeout n) s = .next ((s.timeTo d.deadline).linForce n d.ticket)) ∧
  (∀ (n : Fin 16) (s : State),
    (∀ d, (s.linLane n).disabling = some d → d.mode ≠ 1) →
    exec (.linDrainTimeout n) s = .next s)

/-- Service slices, tickets that end, draft expiry, the configuration image, the recovery service and Hatpin replies take
their effects, and change nothing where their conditions do not hold. With firmware serving, a slice takes the request that the weighted
round of R73 names and serves it with its command's body, and with none waiting it ends the visit; a running ticket ends as its command
says, and a ticket that is complete or does not exist stays as it is; a draft idle for 60 s that no commit holds is discarded with its
event; at STAGE 7 the configuration image is applied; in the recovery service a request posted in an idle mailbox of a client with a new
SEQ is taken and served by the boot ROM, and outside it the doorbell alone takes effect; a Hatpin reply with a good CRC completes a word
of the access at the head, while a bad one, or 2 us without one, fails it, and a failure is counted up to three times; 1 ms after DONE
of a FULL reset the Crown die is reset. -/
def Obligations.ServiceCommandsComplete : Prop :=
  (∀ (b : Bool) (s : State),
    (s.crownUp = true ∧ s.getF DeckBootStatus.stage = 7) →
    exec (.configImageApply b) s = .next (s.configLoad b)) ∧
  (∀ (b : Bool) (s : State),
    (s.crownUp = false ∨ s.getF DeckBootStatus.stage ≠ 7) →
    exec (.configImageApply b) s = .next s) ∧
  (∀ (a : Fin 8) (w : Word) (x : Ext) (s : State) (t : Ticket),
    (s.ticket a w.toNat = some t ∧ t.result = none) →
    exec (.ticketComplete a w x) s = .next (s.ticketEnd t x)) ∧
  (∀ (a : Fin 8) (w : Word) (x : Ext) (s : State),
    (∀ t, s.ticket a w.toNat = some t → t.result.isSome = true) →
    exec (.ticketComplete a w x) s = .next s) ∧
  (∀ (s : State) (t : Ticket) (x : Ext),
    (t.cmd = 0x0111 ∧ s.lanesStill = true) →
    s.ticketEnd t x = (s.resetConfigEnd (x.code.val == 0)).finishTicket t.client t.num stDone []) ∧
  (∀ (s : State) (t : Ticket) (x : Ext),
    (t.cmd = 0x0111 ∧ s.lanesStill = false) →
    s.ticketEnd t x = s) ∧
  (∀ (s : State) (t : Ticket) (x : Ext),
    (t.cmd = 0x0115 → s.ticketEnd t x = if x.code.val = 0 then s.fwLoadEnd t else s.finishTicket t.client t.num stBulkFailed []) ∧
    (t.cmd = 0x0116 → s.ticketEnd t x = s.fwVerifyEnd t) ∧
    (t.cmd = 0x0118 → s.ticketEnd t x = s.fwProgramEnd t (x.code.val == 0)) ∧
    (t.cmd = 0x0119 → s.ticketEnd t x = s.configProgramEnd t (x.code.val == 0)) ∧
    (t.cmd = 0x0712 → s.ticketEnd t x = if x.code.val = 0 then s.fdbFlushEnd t else s.fdbFlushTo t (min (leAt x.data 0 2) 4096)) ∧
    (t.cmd = 0x0C17 → s.ticketEnd t x = s.lifecycleEnd t (x.code.val != 1) (x.code.val != 2)) ∧
    (t.cmd = 0x0C18 → s.ticketEnd t x = s.selftestEnd t (x.code.val == 0)) ∧
    (t.cmd = 0x0E10 → s.ticketEnd t x = s.attachEnd t.client t.num x) ∧
    (t.cmd = 0x0E11 → s.ticketEnd t x = s.detachEnd t.client t.num) ∧
    (t.cmd = 0x0E16 → s.ticketEnd t x = s.stageEnd t x) ∧
    (t.cmd = 0x1010 → s.ticketEnd t x = if leAt t.payload 0 1 = 2 then s.diagReadEnd t else s) ∧
    (t.cmd = 0x1012 → s.ticketEnd t x = s.tableDumpEnd t (x.code.val != 0)) ∧
    (t.cmd = 0x1013 → s.ticketEnd t x = s.loopbackEnd t x.data)) ∧
  (∀ (w : Word) (s : State) (d : Draft),
    s.gci.drafts.find? (fun d => d.handle == w.toNat) = some d →
    s.gci.commits.any (fun p => p.handle == d.handle) = false →
    exec (.draftIdleExpiry w) s = .next (((s.timeTo (strandPlus d.lastUse (secC 60))).dropDraft d.handle).occur (0x010 + d.client))) ∧
  (∀ (w : Word) (s : State) (d : Draft),
    s.gci.drafts.find? (fun d => d.handle == w.toNat) = some d →
    s.gci.commits.any (fun p => p.handle == d.handle) = true →
    exec (.draftIdleExpiry w) s = .next s) ∧
  (∀ (w : Word) (s : State),
    s.gci.drafts.find? (fun d => d.handle == w.toNat) = none →
    exec (.draftIdleExpiry w) s = .next s) ∧
  (∀ (x : Ext) (s : State) (c n : Nat) (v : State),
    (s.fwServing = true ∧ s.nextServed = some (c, n)) →
    v = s.visit c →
    exec (.serviceSlice x) s = .next ((v.mbTake n).serveTaken (v.mbRequest n).1 (v.mbRequest n).2 (bodyOf (v.mbRequest n).1 x))) ∧
  (∀ (x : Ext) (s : State),
    (s.fwServing = true ∧ s.nextServed = none) →
    exec (.serviceSlice x) s = .next s.visitEnd) ∧
  (∀ (x : Ext) (s : State),
    s.fwServing = false →
    exec (.serviceSlice x) s = .next s) ∧
  (∀ (b : BitVec 16) (q : Req) (s v : State),
    (s.mbClient q.mb = true ∧ s.getF (MbStatus.state q.mb) = mbIdle ∧ q.seq.toNat ≠ s.getF (MbSeq.lastPosted q.mb)) →
    v = (s.mbWriteReq b.toNat q).mbDoorbell q.mb (0x5A5A0000 + q.seq.toNat) →
    (v.fw.recovery = true ∧ v.crownUp = true) →
    exec (.recoveryServiceRequest b q) s = .next ((v.mbTake q.mb).serveTaken b.toNat q (v.recoveryBody b.toNat))) ∧
  (∀ (b : BitVec 16) (q : Req) (s v : State),
    s.mbClient q.mb = true →
    v = (s.mbWriteReq b.toNat q).mbDoorbell q.mb (0x5A5A0000 + q.seq.toNat) →
    (s.getF (MbStatus.state q.mb) ≠ mbIdle ∨ q.seq.toNat = s.getF (MbSeq.lastPosted q.mb) ∨ v.fw.recovery = false ∨ v.crownUp = false) →
    exec (.recoveryServiceRequest b q) s = .next v) ∧
  (∀ (b : BitVec 16) (q : Req) (s : State),
    s.mbClient q.mb = false →
    exec (.recoveryServiceRequest b q) s = .next s) ∧
  (∀ (b : Bool) (s : State) (a : HatpinAccess) (l : List HatpinAccess),
    s.hatpin.queue = a :: l →
    exec (.hatpinReply b) s = .next (if b then s.hatpinWord a else s.hatpinFail)) ∧
  (∀ (s : State),
    (s.hatpin.queue ≠ [] ∧ s.hatpin.fails < 3) →
    s.hatpinFail = { s with hatpin := { s.hatpin with fails := s.hatpin.fails + 1 } }) ∧
  (∀ (s : State),
    s.hatpin.queue ≠ [] →
    exec .hatpinReplyTimeout s = .next (s.pass (usC 2)).hatpinFail) ∧
  (∀ (b : Bool) (s : State),
    s.hatpin.queue = [] →
    exec (.hatpinReply b) s = .next s ∧ exec .hatpinReplyTimeout s = .next s) ∧
  (∀ (s : State) (m d : Nat),
    s.gci.fullReset = some (m, d) →
    exec .deckResetAckTimeout s = .next ((s.timeTo d).crownReset DeckResetCause.command)) ∧
  (∀ (s : State),
    s.gci.fullReset = none →
    exec .deckResetAckTimeout s = .next s)

/-- Decisions, cells, the shadow interval and firmware's work on the tables take the effects of R209 to R279, and change nothing where
their conditions do not hold. The oldest frame that waits is compared and its decision, with the port's mirror copy in normal operation,
handed to the queue engine; a frame of a hard mismatch has no copies; a shadow interval without a hard mismatch ends Fallback with its
event; the oldest complete cell goes to the frame's owner, and where no descriptor is left the frame is dropped and counted; a learn
record of source 001 is popped and applied, and any other only popped: a new record of a port at its limit is counted, an entry held is
rewritten at its way unless static, and else the entry takes a free way, or one neither static nor hit, or is counted; an ageing visit
clears HIT bits and removes entries without one; a port that went down loses its learnt entries; a recovery function that timed out is
reset and counted; the first entry reported uncorrectable is rewritten. -/
def Obligations.DecisionCommandsComplete : Prop :=
  (∀ (u : Upset) (s : State) (i : Nat) (f : RxFrame) (v : Option Verdict) (t : State),
    s.rxWaiting = some (i, f) →
    (v, t) = s.twinOf u f →
    exec (.twinDecision u) s = .next (t.decideRx i f v)) ∧
  (∀ (u : Upset) (s : State),
    s.rxWaiting = none →
    exec (.twinDecision u) s = .next s) ∧
  (∀ (s : State) (i : Nat) (f : RxFrame) (v : Verdict),
    s.decideRx i f none = s.enqueueRx i f [] ∧
    s.decideRx i f (some v) = s.enqueueRx i f (v.specs ++ (if s.flag SwStatus.fallback then [] else mirrorSpec (s.par (oChan f.port) pidMirror) 0 f.port))) ∧
  (∀ (s t : State) (u : Upset) (a b : State → Verdict),
    (t = s.tableUpset u ∧ t.flag SwStatus.fallback = false) →
    s.twin u a b = (if u.twin.val = 2 then (none, (t.compared 2).badMet (a t).bad) else (some (a t), ((a t).st.compared u.twin).badMet (a t).bad))) ∧
  (∀ (s t v : State) (u : Upset) (a b : State → Verdict),
    (t = s.tableUpset u ∧ t.flag SwStatus.fallback = true) →
    v = (if u.fall then t.incSw 3 else (b t).st) →
    s.twin u a b = (if u.fall then none else some (b t), (if t.flag SwStatus.shadow then v.compared u.twin else v).badMet (b t).bad)) ∧
  (∀ (s : State) (d : Nat) (v : State),
    (s.buf.shadowEnd = some d ∧ v = s.timeTo d) →
    exec .shadowIntervalEnd s = .next (State.event ((State.setF { v with buf := { v.buf with shadowEnd := none } } SwStatus.shadow 0).setF SwStatus.fallback 0) SwEvents.fallbackExit 0x02A)) ∧
  (∀ (s : State),
    s.buf.shadowEnd = none →
    exec .shadowIntervalEnd s = .next s) ∧
  (∀ (k : Fin 5) (s : State) (i : Nat) (f : RxFrame) (b : List Byte) (l : List (List Byte)) (o : Nat) (v : State),
    (s.oldestCell = some (i, f) ∧ f.todo = b :: l) →
    (s.freeLink k).rxOwner f k = (some o, v) →
    exec (.cellWrite k) s = .next (v.cellTo i { f with owner := some o, todo := l } o b)) ∧
  (∀ (k : Fin 5) (s : State) (i : Nat) (f : RxFrame) (b : List Byte) (l : List (List Byte)) (v : State),
    (s.oldestCell = some (i, f) ∧ f.todo = b :: l) →
    (s.freeLink k).rxOwner f k = (none, v) →
    exec (.cellWrite k) s = .next ((v.incSw 10).eraseRx i)) ∧
  (∀ (k : Fin 5) (s : State),
    (∀ i f, s.oldestCell = some (i, f) → f.todo = []) →
    exec (.cellWrite k) s = .next s) ∧
  (∀ (s v : State) (r : EvRec),
    (s.fwRunning = true ∧ s.evqFill 1 ≠ 0) →
    (r = s.evRec 1 (s.evqRd 1) ∧ v = s.evqMoveRd 1 ((s.evqRd 1 + 1) % 128)) →
    exec .learnRecordProcess s = .next (if r.src = 0x001 then v.learnFrom (leBytes 6 r.payload) (bitsOf r.payload 59 48) (bitOf r.payload 60) (bitsOf r.payload 71 64) else v)) ∧
  (∀ (s : State),
    (s.fwRunning = false ∨ s.evqFill 1 = 0) →
    exec .learnRecordProcess s = .next s) ∧
  (∀ (s : State) (m : List Byte) (a : Nat) (b : Bool) (p : Nat),
    (b = false ∧ s.par (oChan p) pidLearnLimit ≤ s.learntOf p) →
    s.learnFrom m a b p = s.incFdb p 10) ∧
  (∀ (s : State) (m : List Byte) (a : Nat) (b : Bool) (p i : Nat),
    (b = true ∨ s.learntOf p < s.par (oChan p) pidLearnLimit) →
    s.fdbFind m a = some i →
    s.learnFrom m a b p = (if fdbStatic (s.fdbEntry i) then s else s.setLearnt i (leVal m + a * 2 ^ 48 + 5 * 2 ^ 60 + 2 ^ (64 + p)))) ∧
  (∀ (s : State) (m : List Byte) (a : Nat) (b : Bool) (p : Nat) (l : List Nat) (x y : Option Nat),
    (b = true ∨ s.learntOf p < s.par (oChan p) pidLearnLimit) →
    (s.fdbFind m a = none ∧ l = (List.range 8).map (fun w => fdbBucket m a * 8 + w)) →
    (x = l.find? (fun i => !fdbValid (s.fdbEntry i)) ∧ y = l.find? (fun i => !fdbStatic (s.fdbEntry i) && !fdbHit (s.fdbEntry i))) →
    s.learnFrom m a b p = (match x.orElse (fun _ => y) with
      | some i => s.setLearnt i (leVal m + a * 2 ^ 48 + 5 * 2 ^ 60 + 2 ^ (64 + p))
      | none => s.incFdb p 9)) ∧
  (∀ (s : State),
    (s.fwRunning = true ∧ s.par oDeck pidAgeing ≠ 0) →
    exec .ageingVisit s = .next (s.fwd.learnt.foldl (fun (v : State) kv => v.setLearnt kv.1 (if fdbHit kv.2 then setBit kv.2 62 false else 0)) s)) ∧
  (∀ (s : State),
    (s.fwRunning = false ∨ s.par oDeck pidAgeing = 0) →
    exec .ageingVisit s = .next s) ∧
  (∀ (p : Fin 22) (s : State),
    (s.fwRunning = true ∧ p.val ∈ s.fwd.linkDownRemoval) →
    exec (.linkDownFdbRemoval p) s = .next (s.forgetPort p)) ∧
  (∀ (p : Fin 22) (s : State),
    (s.fwRunning = false ∨ p.val ∉ s.fwd.linkDownRemoval) →
    exec (.linkDownFdbRemoval p) s = .next s) ∧
  (∀ (f : Fin 1024) (s : State),
    (s.frerSt f).passed ≠ [] →
    exec (.frerResetTimeout f) s = .next (State.incFrer ((s.timeTo (strandPlus (s.frerSt f).lastPass (msC (bitsOf (s.entry (oFrer f)) 31 16)))).setFrer f {}) f 4)) ∧
  (∀ (f : Fin 1024) (s : State),
    (s.frerSt f).passed = [] →
    exec (.frerResetTimeout f) s = .next s) ∧
  (∀ (s : State) (c : Nat) (l : List Nat) (v : State),
    (s.fwd.badEntries = c :: l ∧ s.fwRunning = true) →
    (v = if c / 2 ^ 24 = 0 ∧ s.par (oFdb (c % 2 ^ 24)) (pidRaw 0) = 0 then s.setLearnt (c % 2 ^ 24) 0 else s) →
    exec .tableEccRepair s = .next (if l = [] then State.faultFall { v with fwd := { v.fwd with badEntries := l } } 15 else { v with fwd := { v.fwd with badEntries := l } })) ∧
  (∀ (s : State),
    (s.fwd.badEntries = [] ∨ s.fwRunning = false) →
    exec .tableEccRepair s = .next s)

/-- Links, drains, pause timers, storms, PLCA, collisions, verification and MDIO of the Ethernet ports take the effects of R122 to
R152, and change nothing where their conditions do not hold. A link that goes down at a port that is not gated takes the port
down, answers a fault with its ordered sets and starts autonegotiation anew; conditions that come to hold at a port that is
enabled, not gated and down start LINK_HOLD, but half duplex after autonegotiation in mode 4 keeps the port down or takes it down;
when the hold ends the port comes up unless a flush is running; the oldest flush ends, and with its port's or Channel's last one
what waits for it; a drain past its deadline is forced; a pause timer ends the pause; a refresh repeats XOFF for the classes in
it; the watchdog, once its cycle is over, enters STORM; a storm hold ends the storm; PLCA falls back with its counter and event
and is restored, at a Lane that is not gated, a frame in back-off then waiting as one in deferral; collisions and back-off follow
R146; a verification times out or is answered; the running MDIO access completes and the next starts; a write of TSQ_TAIL moves
the tail. -/
def Obligations.PortCommandsComplete : Prop :=
  (∀ (p : Fin 20) (k : Fin 3) (s : State),
    exec (.linkDown p k) s = .next (if s.flag (PortStatus.laneGated p) then s else ((s.portDown p).faultAnswer p k).anStart p)) ∧
  (∀ (p : Fin 20) (k : Fin 3) (b : Bool) (s : State) (m : Nat) (a : Bool),
    (s.chanEnabled p = true ∧ s.flag (PortStatus.laneGated p) = false) →
    (m = s.getF (PortStatus.modeActive p) ∧ a = (s.par (oChan p) 0x0101 == 1)) →
    exec (.linkUpConditions p k b) s = .next (if (m == 4 && a && b) = true then s.halfDuplexDown p
      else if s.flag (PortStatus.linkUp p) then s else s.linkConds p m a k)) ∧
  (∀ (p : Fin 20) (k : Fin 3) (b : Bool) (s : State),
    (s.chanEnabled p = false ∨ s.flag (PortStatus.laneGated p) = true) →
    exec (.linkUpConditions p k b) s = .next s) ∧
  (∀ (p : Fin 20) (s : State) (t : Nat) (v w : State),
    ((s.port p).holdEnd = some t ∧ v = s.timeTo t ∧ w = v.setF (PortStatus.holding p) 0) →
    exec (.linkHoldExpiry p) s = .next (if v.flag (PortStatus.flushing p) then w.setPort p { v.port p with holdEnd := none, holdOver := true } else v.portUp p)) ∧
  (∀ (p : Fin 20) (s : State),
    (s.port p).holdEnd = none →
    exec (.linkHoldExpiry p) s = .next s) ∧
  (∀ (s : State) (f : Flush) (l : List Flush) (v : State) (p : Nat),
    (s.buf.flushes = f :: l ∧ v = ((s.timeTo (strandPlus f.at_ 65536)).flushQueues f.queues).flushNext l) →
    f.port = some p →
    exec .flushScanEnd s = .next (if l.any (fun g => g.port == some p) then v else v.portFlushed p)) ∧
  (∀ (s : State) (f : Flush) (l : List Flush) (v : State) (n : Nat),
    (s.buf.flushes = f :: l ∧ v = ((s.timeTo (strandPlus f.at_ 65536)).flushQueues f.queues).flushNext l) →
    (f.port = none ∧ f.can = some n) →
    exec .flushScanEnd s = .next (if l.any (fun g => g.can == some n) then v else v.canFlushed n)) ∧
  (∀ (s : State) (f : Flush) (l : List Flush) (v : State),
    (s.buf.flushes = f :: l ∧ v = ((s.timeTo (strandPlus f.at_ 65536)).flushQueues f.queues).flushNext l) →
    (f.port = none ∧ f.can = none) →
    exec .flushScanEnd s = .next v) ∧
  (∀ (s : State),
    s.buf.flushes = [] →
    exec .flushScanEnd s = .next s) ∧
  (∀ (p : Fin 22) (s : State) (d : Disabling),
    (s.port p).disabling = some d →
    exec (.ethDrainTimeout p) s = .next (if d.mode = 1 then (s.timeTo d.deadline).portForce p d.ticket else s)) ∧
  (∀ (p : Fin 22) (s : State),
    (s.port p).disabling = none →
    exec (.ethDrainTimeout p) s = .next s) ∧
  (∀ (p : Fin 12) (c : Fin 8) (s : State) (t : Nat),
    tabFind (s.port p).rxTimer c = some t →
    exec (.pauseTimerExpiry p c) s = .next ((s.timeTo t).pauseEnd p c)) ∧
  (∀ (p : Fin 12) (s : State) (t : Nat) (v : State),
    ((s.port p).refreshAt = some t ∧ v = s.timeTo t) →
    exec (.pauseRefresh p) s = .next ((v.setPort p { v.port p with refreshAt := none, fcPend := orMask (v.port p).fcPend (maskOf ((v.fcClasses p).filter (fun c => v.xoffOn p c))) }).fcSend p)) ∧
  (∀ (p : Fin 12) (s : State),
    (s.port p).refreshAt = none →
    exec (.pauseRefresh p) s = .next s) ∧
  (∀ (p : Fin 12) (c : Fin 8) (s : State) (t : Nat),
    tabFind (s.port p).dogAt c = some t →
    exec (.pauseWatchdogExpiry p c) s = .next ((s.timeTo (strandPlus t 1)).stormEnter p c t)) ∧
  (∀ (p : Fin 12) (c : Fin 8) (s : State) (t : Nat),
    tabFind (s.port p).stormEnd c = some t →
    exec (.stormHoldExpiry p c) s = .next ((s.timeTo t).stormExit p c)) ∧
  (∀ (p : Fin 12) (c : Fin 8) (s : State),
    (tabFind (s.port p).rxTimer c = none → exec (.pauseTimerExpiry p c) s = .next s) ∧
    (tabFind (s.port p).dogAt c = none → exec (.pauseWatchdogExpiry p c) s = .next s) ∧
    (tabFind (s.port p).stormEnd c = none → exec (.stormHoldExpiry p c) s = .next s)) ∧
  (∀ (k : Fin 8) (s : State) (p : Nat),
    (p = 12 + k.val ∧ s.par (oChan p) 0x0300 = 1 ∧ s.flag (PortStatus.plcaOk p) = true ∧ s.flag (PortStatus.laneGated p) = false) →
    exec (.plcaFallback k) s = .next ((((s.plcaStop p).setF (PortStatus.plcaOk p) 0).inc (oChan p) cEth 29).event (PortEvents.plcaFallback p) (0x104 + p * 16))) ∧
  (∀ (k : Fin 8) (s : State) (p : Nat),
    (p = 12 + k.val ∧ (s.par (oChan p) 0x0300 ≠ 1 ∨ s.flag (PortStatus.plcaOk p) = false ∨ s.flag (PortStatus.laneGated p) = true)) →
    exec (.plcaFallback k) s = .next s) ∧
  (∀ (k : Fin 8) (s : State) (p : Nat),
    (p = 12 + k.val ∧ s.par (oChan p) 0x0300 = 1 ∧ s.flag (PortStatus.laneGated p) = false) →
    exec (.plcaOkRestore k) s = .next ((s.setF (PortStatus.plcaOk p) 1).setPort p { s.port p with backoffAt := none, deferred := (s.port p).deferred || (s.port p).backoffAt.isSome })) ∧
  (∀ (k : Fin 8) (s : State) (p : Nat),
    (p = 12 + k.val ∧ (s.par (oChan p) 0x0300 ≠ 1 ∨ s.flag (PortStatus.laneGated p) = true)) →
    exec (.plcaOkRestore k) s = .next s) ∧
  (∀ (k : Fin 8) (b c : Bool) (s : State),
    exec (.collision k b c) s = .next (s.collision (12 + k.val) b c)) ∧
  (∀ (k : Fin 8) (s : State) (p t : Nat) (v : State),
    (p = 12 + k.val ∧ (s.port p).backoffAt = some t ∧ v = ((s.timeTo t).creditSync p).frameAnew p) →
    exec (.backoffExpiry k) s = .next (v.setPort p { v.port p with backoffAt := none })) ∧
  (∀ (k : Fin 8) (s : State),
    (s.port (12 + k.val)).backoffAt = none →
    exec (.backoffExpiry k) s = .next s) ∧
  (∀ (p : Fin 12) (s : State) (t : Nat),
    (s.port p).verifyAt = some t →
    exec (.verifyTimeExpiry p) s = .next ((s.timeTo t).verifyAgain p)) ∧
  (∀ (p : Fin 12) (s : State),
    (s.port p).verifyAt = none →
    exec (.verifyTimeExpiry p) s = .next s) ∧
  (∀ (p : Fin 12) (s : State),
    exec (.verifyRespondReceive p) s = .next (if s.getF (PortStatus.verify p) = 1 then (s.setPort p { s.port p with verifyAt := none }).setF (PortStatus.verify p) 2 else s)) ∧
  (∀ (m : Fin 2) (d : BitVec 16) (s : State) (c n : Nat) (r : List Byte) (l : List (Nat × Nat × List Byte)) (v : State),
    s.mdioQueue m = (c, n, r) :: l →
    v = State.finishTicket (s.setMdio m l) c n stDone (if s.mdioWrites c n then [] else leBytes 2 d.toNat) →
    exec (.mdioAccessDone m d) s = .next (v.mdioNext m l)) ∧
  (∀ (m : Fin 2) (d : BitVec 16) (s : State),
    s.mdioQueue m = [] →
    exec (.mdioAccessDone m d) s = .next s) ∧
  (∀ (p : Fin 22) (w : Word) (s : State),
    exec (.tsqTailWrite p w) s = .next (s.hosted (s.tsqMoveTail p w.toNat)))

/-- gPTP, holdover, conversion, timed outputs and captures take the effects of R341 to R358, and change nothing where their
conditions do not hold. On a port that is up a gPTP message is handled as its kind: a Sync arms the watchdog of the domains slaved
to it, and with the firmware not in a switchover a one-step Sync or the Follow_Up of a two-step one is taken into its domain, an
Announce arms the timeout of those domains and is kept as their grandmaster information, a Pdelay_Req is answered, and a
Pdelay_Resp of an open request gives the port's delay; a missing Sync or Announce takes a domain that was UNLOCKED or LOCKED to
LOST; a grandmaster's intervals send Sync or Announce and are armed again; a Pdelay interval of a gPTP port is armed again and
asks on a port that is up, outside a switchover; the primary source returns after REVERT_HOLD; a slew that is done takes the
source's value and rate; a history entry is written and the next armed; GO stores its selection and starts a conversion of 80
cycles unless one runs, which ends with its result; a snap latches Strand and the clocks; an output's edges follow R354; and a
selected edge is captured. -/
def Obligations.TimeDrivenCommandsComplete : Prop :=
  (∀ (p : Fin 12) (n : BitVec 7) (k : Fin 6) (a : BitVec 48) (b : BitVec 96) (s : State),
    s.flag (PortStatus.linkUp p) = true →
    exec (.gptpMessageReceive p n k a b) s = .next (s.gptpIn p n.toNat k a.toNat b.toNat)) ∧
  (∀ (p : Fin 12) (n : BitVec 7) (k : Fin 6) (a : BitVec 48) (b : BitVec 96) (s : State),
    s.flag (PortStatus.linkUp p) = false →
    exec (.gptpMessageReceive p n k a b) s = .next s) ∧
  (∀ (s : State) (p n a b : Nat),
    (s.fwRunning = true ∧ s.getF DeckBootStatus.stage ≠ 11) →
    s.gptpIn p n 0 a b = (s.slaveDomains p n).foldl (fun v d => (v.syncArrives d).syncDone d p a b) s ∧
    s.gptpIn p n 1 a b = (s.slaveDomains p n).foldl (fun v d => (v.syncArrives d).setDomain d { (v.syncArrives d).domain d with twoStep := some a }) s ∧
    s.gptpIn p n 2 a b = (s.slaveDomains p n).foldl (fun v d => match (v.domain d).twoStep with
      | none => v
      | some t => (v.setDomain d { v.domain d with twoStep := none }).syncDone d p t b) s ∧
    s.gptpIn p n 3 a b = (s.slaveDomains p n).foldl (fun v d => v.setDomain d { v.domain d with annAt := some (v.annDeadline d), gm := some b }) s ∧
    s.gptpIn p n 4 a b = (if s.gptpPort p then { s with out := .gptp p n 10 (s.localTime p s.strand true) :: .gptp p n 3 (s.localTime p a false) :: s.out } else s)) ∧
  (∀ (s : State) (p n a b t : Nat),
    (s.fwRunning = true ∧ s.getF DeckBootStatus.stage ≠ 11) →
    tabGet stampDefault s.time.pdelayT1 p = some t →
    s.gptpIn p n 5 a b = { s with time := { s.time with pdelayT1 := tabSet stampDefault s.time.pdelayT1 p none, delay := tabSet delayDefault s.time.delay p (some ((((strandDiff a t * nominalInc : Nat) : Int) + s.stampCorr p false - s.stampCorr p true - (b : Int)) / 2)) } }) ∧
  (∀ (s : State) (p n a b : Nat),
    tabGet stampDefault s.time.pdelayT1 p = none →
    s.gptpIn p n 5 a b = s) ∧
  (∀ (s : State) (p n k a b : Nat),
    (s.fwRunning = false ∨ s.getF DeckBootStatus.stage = 11) →
    (k ≤ 1 → s.gptpIn p n k a b = (s.slaveDomains p n).foldl (fun v d => v.syncArrives d) s) ∧
    (2 ≤ k → s.gptpIn p n k a b = s)) ∧
  (∀ (d : Fin 2) (s : State) (t : Nat) (w : State),
    (s.domain d).syncAt = some t →
    w = (s.timeTo t).setDomain d { (s.timeTo t).domain d with syncAt := none } →
    exec (.syncWatchdogExpiry d) s = .next (if w.domainState d = dsUnlocked ∨ w.domainState d = dsLocked then w.domainSet d dsLost else w)) ∧
  (∀ (d : Fin 2) (s : State) (t : Nat) (w : State),
    (s.domain d).annAt = some t →
    w = (s.timeTo t).setDomain d { (s.timeTo t).domain d with annAt := none } →
    exec (.announceTimeout d) s = .next (if w.domainState d = dsUnlocked ∨ w.domainState d = dsLocked then w.domainSet d dsLost else w)) ∧
  (∀ (d : Fin 2) (s : State),
    ((s.domain d).syncAt = none → exec (.syncWatchdogExpiry d) s = .next s) ∧
    ((s.domain d).annAt = none → exec (.announceTimeout d) s = .next s)) ∧
  (∀ (d : Fin 2) (s : State) (t : Nat) (v w : State),
    ((s.domain d).masterAt = some t ∧ v = s.timeTo t) →
    w = v.setDomain d { v.domain d with masterAt := some (v.after (logCycles 1 (v.domPar d 0x0104))) } →
    exec (.syncInterval d false) s = .next (w.gptpMasters d (w.syncMsgs d 0))) ∧
  (∀ (d : Fin 2) (s : State) (t : Nat) (v w : State),
    ((s.domain d).masterAnn = some t ∧ v = s.timeTo t) →
    w = v.setDomain d { v.domain d with masterAnn := some (v.after (logCycles 1 (v.domPar d 0x0107))) } →
    exec (.syncInterval d true) s = .next (w.gptpMasters d (w.announceMsgs d))) ∧
  (∀ (d : Fin 2) (s : State),
    ((s.domain d).masterAt = none → exec (.syncInterval d false) s = .next s) ∧
    ((s.domain d).masterAnn = none → exec (.syncInterval d true) s = .next s)) ∧
  (∀ (p : Fin 12) (s w : State),
    s.gptpPort p = true →
    w = State.pdelayArm (s.dueTo (tabFind s.time.pdelayAt p)) p →
    exec (.pdelayInterval p) s = .next (if w.flag (PortStatus.linkUp p) = true ∧ w.switchover = false then
      { w with time := { w.time with pdelayT1 := tabSet stampDefault w.time.pdelayT1 p (some w.strand) }, out := .gptp p 0 2 0 :: w.out } else w)) ∧
  (∀ (p : Fin 12) (s : State),
    s.gptpPort p = false →
    exec (.pdelayInterval p) s = .next s) ∧
  (∀ (s : State) (p : Nat),
    (p = s.primary ∧ s.par (oClock 2) 0x0202 = 1) →
    (s.getF TimeStatus.source ≠ p ∧ s.getF TimeStatus.source ≠ srcFree ∧ s.domainState p = dsLocked) →
    exec .revertHoldExpiry s = .next ((s.timeTo (strandPlus (s.domain p).lockedAt (secC (s.par (oClock 2) 0x0203)))).workSwitch p)) ∧
  (∀ (s : State) (p : Nat),
    p = s.primary →
    (s.par (oClock 2) 0x0202 ≠ 1 ∨ s.getF TimeStatus.source = p ∨ s.getF TimeStatus.source = srcFree ∨ s.domainState p ≠ dsLocked) →
    exec .revertHoldExpiry s = .next s) ∧
  (∀ (s : State) (a : Int) (t d : Nat) (v w : State),
    (s.time.work.slew = some (a, t) ∧ d = s.workRef ∧ v = s.hbTo t) →
    w = ((State.setWork v { v.time.work with slew := none }).setF TimeStatus.slewing 0).timeEvent 4 →
    exec .slewDone s = .next (w.clockSet 2 (w.clockNow d) (w.clockInc d))) ∧
  (∀ (s : State),
    s.time.work.slew = none →
    exec .slewDone s = .next s) ∧
  (∀ (s v : State),
    v = s.dueTo s.time.histAt →
    exec .historyEntryWrite s = .next (State.historyAll { v with time := { v.time with histAt := some (v.after 800000) } })) ∧
  (∀ (b : BitVec 8) (s v w : State),
    v = s.setReg ConvSel.off (BitVec.ofNat 32 b.toNat) →
    w = v.setF ConvStatus.busy 1 →
    exec (.convGo b) s = .next (s.hosted (if v.flag ConvStatus.busy then v
      else { w with time := { w.time with conv := some (v.after 80, (v.reg ConvStrandLo.off).toNat + v.getF ConvStrandHi.strand * 2 ^ 32, b.toNat) } }))) ∧
  (∀ (s : State),
    exec .conversionDone s = .next s.convFinish) ∧
  (∀ (s : State),
    exec .timeSnap s = .next (s.hosted s.timeSnap)) ∧
  (∀ (i : Fin 4) (s : State) (t : Nat) (v : State),
    (s.output i).next = some t →
    v = (s.clockTo (s.outPar i 3) t).incOutput i 0 →
    exec (.timedOutputLeadingEdge i) s = .next (State.drivePps (v.setOutput i { v.output i with next := (if v.outPar i 1 == 1 then some (t + v.outPar i 7) else none), pulse := some (v.strand, t + v.outPar i 6), pulseOf := (v.outPar i 3, v.outPar i 2, v.outPar i 6) }) i (1 - v.outPar i 2))) ∧
  (∀ (i : Fin 4) (s : State),
    (s.output i).next = none →
    exec (.timedOutputLeadingEdge i) s = .next s) ∧
  (∀ (i : Fin 4) (s : State) (a t : Nat),
    (s.output i).pulse = some (a, t) →
    exec (.timedOutputTrailingEdge i) s = .next ((s.clockTo (s.output i).pulseOf.1 t).pulseOver i (s.output i).changed)) ∧
  (∀ (i : Fin 4) (s : State) (t : Nat),
    ((s.output i).pulse = none ∧ (s.output i).pulseStrand = some t) →
    exec (.timedOutputTrailingEdge i) s = .next ((s.timeTo t).pulseOver i (s.output i).changed)) ∧
  (∀ (i : Fin 4) (s : State),
    ((s.output i).pulse = none ∧ (s.output i).pulseStrand = none) →
    exec (.timedOutputTrailingEdge i) s = .next s) ∧
  (∀ (i : Fin 8) (b : Bool) (s : State),
    exec (.captureEdge i b) s = .next (if bitOf (s.par (oCapture i) 0x0100) (if b then 1 else 0) then s.captureTake i (b2n b) else s))

/-- Bring-up, KEEPALIVE, credit, replay and loss of a Pier link take the effects of R502 to R520, and change nothing in a step of
bring-up that does not know them. On PORT[20 + p] of an
enabled Channel whose firmware runs, signal is step 1; block lock at step 1 begins the HELLO exchange with a fresh
nonce, and so does a bring-up retry at its time; a HELLO before step 2 has no effect; a peer's own HELLO that clashes
holds the port and raises event 7, once per hold, and one that does not is learned, booked, relayed where the link is up, and answered; a told one sets the
link in the map or takes it out, and one about a quarantine is heard; at step 3 of a secured link a right key confirmation installs the
associations and grants credits, a wrong one holds the port and raises event 8, and without the key the port is held; the interval
begins bring-up again where the packet numbers ask for it, and else sends HELLO below step 5 and KEEPALIVE from there on; from step 5 on
KEEPALIVE acknowledges, and carries time at step 6, and CREDIT lowers what is in use, but a unit that the link's security shuts out is
only counted; the end of the link hold brings the link up; a lost peer from step 5 on is dropped with what its link joined, and below it
only a lost lock takes the port back to step 0; the replay timeout sends every unacknowledged unit again, in order, and is armed for
another 20 us. -/
def Obligations.PierLinkCommandsComplete : Prop :=
  (∀ (p : Fin 2) (s : State) (v : PierPort),
    v = s.pierPort (20 + p) →
    (s.fwRunning = true ∧ s.chanEnabled (20 + p) = true ∧ v.step = 0) →
    exec (.pierSignalDetect p) s = .next (s.setPierPort (20 + p) { v with step := 1 })) ∧
  (∀ (p : Fin 2) (s : State),
    (s.fwRunning = false ∨ s.chanEnabled (20 + p) = false ∨ (s.pierPort (20 + p)).step ≠ 0) →
    exec (.pierSignalDetect p) s = .next s) ∧
  (∀ (p : Fin 2) (s : State) (x : Nat) (t : State),
    (s.pierPort (20 + p)).step = 1 →
    (x, t) = s.draw →
    exec (.pierBlockLock p) s = .next (t.helloBegin p { t.pierPort (20 + p) with step := 2, ownNonce := x % 2 ^ 128 })) ∧
  (∀ (p : Fin 2) (s : State),
    (s.pierPort (20 + p)).step ≠ 1 →
    exec (.pierBlockLock p) s = .next s) ∧
  (∀ (p : Fin 2) (h : Hello) (s : State),
    (s.pierPort (20 + p)).step < 2 →
    exec (.hello p h) s = .next s) ∧
  (∀ (p : Fin 2) (h : Hello) (s v : State),
    (2 ≤ (s.pierPort (20 + p)).step ∧ h.kind.val = 0) →
    v = s.pierRx p utHello (helloOf h).length →
    exec (.hello p h) s = .next (if v.helloClash h then (if (v.pierPort (20 + p)).retryAt.isSome then v else (v.pierHold p false).cascEvent 7 (20 + p))
      else if (v.pierPort (20 + p)).step = 6 then (State.helloRelay ((v.helloLearn h).helloBook h) h 1 v.ownDeck p p).helloPeer p h
      else ((v.helloLearn h).helloBook h).helloPeer p h)) ∧
  (∀ (p : Fin 2) (h : Hello) (s v w : State),
    (2 ≤ (s.pierPort (20 + p)).step ∧ h.kind.val = 1) →
    v = s.pierRx p utHello (helloOf h).length →
    w = (v.helloLearn h).helloBook h →
    exec (.hello p h) s = .next (State.helloRelay (State.relink (w.setLink (h.via.val, 20 + h.port.val, h.rank.val) true) (20 + p)) h 1 h.via.val h.port.val p)) ∧
  (∀ (p : Fin 2) (h : Hello) (s v : State),
    (2 ≤ (s.pierPort (20 + p)).step ∧ h.kind.val = 2) →
    v = s.pierRx p utHello (helloOf h).length →
    exec (.hello p h) s = .next ((v.linkFailed (h.via.val, 20 + h.port.val)).helloRelay h 2 h.via.val h.port.val p)) ∧
  (∀ (p : Fin 2) (h : Hello) (s : State),
    (2 ≤ (s.pierPort (20 + p)).step ∧ 3 ≤ h.kind.val) →
    exec (.hello p h) s = .next ((s.pierRx p utHello (helloOf h).length).quarHeard p h)) ∧
  (∀ (p : Fin 2) (m : BitVec 128) (s v : State) (k : List Byte),
    ((s.pierPort (20 + p)).step = 3 ∧ s.pierSecure p = true) →
    (v = s.pierRx p utKeyConfirm 16 ∧ v.pierKey = some k) →
    exec (.keyConfirm p m) s = .next (if v.keyConfirm p k == m.toNat then (v.pierSas p k).pierCredits p else (v.pierHold p true).cascEvent 8 (20 + p))) ∧
  (∀ (p : Fin 2) (m : BitVec 128) (s v : State),
    ((s.pierPort (20 + p)).step = 3 ∧ s.pierSecure p = true) →
    (v = s.pierRx p utKeyConfirm 16 ∧ v.pierKey = none) →
    exec (.keyConfirm p m) s = .next (v.pierHold p true)) ∧
  (∀ (p : Fin 2) (m : BitVec 128) (s : State),
    ((s.pierPort (20 + p)).step ≠ 3 ∨ s.pierSecure p = false) →
    exec (.keyConfirm p m) s = .next s) ∧
  (∀ (p : Fin 2) (s : State) (v : PierPort) (t w : State),
    (v = s.pierPort (20 + p) ∧ 2 ≤ v.step) →
    t = s.timeTo v.nextAt →
    w = t.setPierPort (20 + p) { v with nextAt := t.after (usC 100) } →
    exec (.pierHelloInterval p) s = .next (if w.rekeyDue p then (w.rekeyBegin p 2).sendHello p else if v.step < 5 then w.sendHello p else w.sendKeepalive p v)) ∧
  (∀ (p : Fin 2) (s : State),
    (s.pierPort (20 + p)).step < 2 →
    exec (.pierHelloInterval p) s = .next s) ∧
  (∀ (p : Fin 2) (a : PierAcks) (l : List ClockTime) (s v w : State),
    (5 ≤ (s.pierPort (20 + p)).step ∧ s.pierShut p utKeepalive = false) →
    v = s.pierRx p utKeepalive 6 →
    w = State.pierAck (v.setPierPort (20 + p) { v.pierPort (20 + p) with lastKa := v.strand }) p a →
    exec (.keepalive p a l) s = .next (if (s.pierPort (20 + p)).step == 6 && w.timePort p && !l.isEmpty then w.pierTime p l else w)) ∧
  (∀ (p : Fin 2) (b : List (Fin 11 × BitVec 16)) (a : PierAcks) (s v : State),
    (5 ≤ (s.pierPort (20 + p)).step ∧ s.pierShut p utCredit = false) →
    v = s.pierRx p utCredit (9 * b.length) →
    exec (.credit p b a) s = .next (State.pierAck (v.setPierPort (20 + p) { v.pierPort (20 + p) with used := creditTaken (s.pierPort (20 + p)).used b }) p a)) ∧
  (∀ (p : Fin 2) (a : PierAcks) (l : List ClockTime) (b : List (Fin 11 × BitVec 16)) (s : State),
    5 ≤ (s.pierPort (20 + p)).step →
    (s.pierShut p utKeepalive = true → exec (.keepalive p a l) s = .next (s.pierRx p utKeepalive 6)) ∧
    (s.pierShut p utCredit = true → exec (.credit p b a) s = .next (s.pierRx p utCredit (9 * b.length)))) ∧
  (∀ (p : Fin 2) (a : PierAcks) (l : List ClockTime) (b : List (Fin 11 × BitVec 16)) (s : State),
    (s.pierPort (20 + p)).step < 5 →
    exec (.keepalive p a l) s = .next s ∧ exec (.credit p b a) s = .next s) ∧
  (∀ (p : Fin 2) (s : State) (v : PierPort) (t : Nat),
    (v = s.pierPort (20 + p) ∧ v.holdEnd = some t) →
    exec (.pierLinkHoldEnd p) s = .next (State.peerUp ((s.timeTo t).setPierPort (20 + p) { v with step := 6, rekeying := false, holdEnd := none }) p v.rank)) ∧
  (∀ (p : Fin 2) (s : State),
    (s.pierPort (20 + p)).holdEnd = none →
    exec (.pierLinkHoldEnd p) s = .next s) ∧
  (∀ (p : Fin 2) (s : State) (v : PierPort) (t x : Nat) (w : State),
    (v = s.pierPort (20 + p) ∧ v.retryAt = some t) →
    (x, w) = (s.timeTo t).draw →
    exec (.bringupRetry p) s = .next (w.helloBegin p { v with step := 2, keyHeld := false, retryAt := none, ownNonce := x % 2 ^ 128 })) ∧
  (∀ (p : Fin 2) (s : State),
    (s.pierPort (20 + p)).retryAt = none →
    exec (.bringupRetry p) s = .next s) ∧
  (∀ (p : Fin 2) (b : Bool) (s : State) (v : PierPort),
    (v = s.pierPort (20 + p) ∧ 5 ≤ v.step) →
    exec (.peerLost p b) s = .next (State.peerGone (if b then s else s.timeTo (strandPlus v.lastKa (usC 300))) p v b)) ∧
  (∀ (p : Fin 2) (b : Bool) (s : State),
    (s.pierPort (20 + p)).step < 5 →
    exec (.peerLost p b) s = .next (if b then s.setPierPort (20 + p) {} else s)) ∧
  (∀ (p : Fin 2) (s : State) (v : PierPort) (t : Nat) (w : State),
    (v = s.pierPort (20 + p) ∧ v.resendAt = some t) →
    w = s.timeTo t →
    exec (.replayTimeout p) s = .next (v.replay.foldl (fun x u => x.resendUnit p u) (w.setPierPort (20 + p) { v with resendAt := some (w.after (usC 20)) }))) ∧
  (∀ (p : Fin 2) (s : State),
    (s.pierPort (20 + p)).resendAt = none →
    exec (.replayTimeout p) s = .next s)

/-- Frames, records, requests, completions and events from other Decks, and the roles of discovery, follow R501 to R518. On a Pier
port that is up a good Ethernet frame of at least 60 bytes whose unit lies within MAX_LEN enters the decision pipeline, its credit
held until it has left the receiver, and a record returns its credit and is routed or passed on; what a port shut to that kind of
unit or a Deck kept apart sends ends there, a damaged unit counts as its damage says, a shorter one is dropped and counted in the
CASC counters and a longer one in RX_GIANT, and on a port that is down nothing happens. A request, completion or event unit that
is next in its class is taken, its credit returned, and it is acted on here or passed on to the Deck it names; a request takes a
slot or has its remembered response sent again; an event enters its queue or is dropped where that is full; a unit out of turn is
not taken. The discovery deadline fixes the members; the acting delay makes the lowest reachable rank master of a half without
Deck 0; a forwarded request whose path does not return answers DECK_UNREACHABLE; with none of these running nothing happens. -/
def Obligations.PierUnitCommandsComplete : Prop :=
  (∀ (p : Fin 2) (c : Fin 8) (d : Fin 4) (b : Fin 6) (l : List Byte) (s : State) (v : State),
    (s.flag (PortStatus.linkUp (20 + p)) = true ∧ b.val = 0 ∧ 60 ≤ l.length ∧ l.length + 26 ≤ s.par (oChan (20 + p)) 0x0103) →
    (v = s.pierRx p utEth l.length ∧ s.pierShut p utEth = false) →
    exec (.ethUnit p c d b l) s = .next (if v.apart d then v.creditBack p c (unitCells l) else v.rxPush (20 + p) (ethFinish l) true false none (some d.val) (some (c.val, unitCells l)))) ∧
  (∀ (p : Fin 2) (c : Fin 8) (d : Fin 4) (b : Fin 6) (l : List Byte) (s : State),
    (s.flag (PortStatus.linkUp (20 + p)) = true ∧ b.val = 0 ∧ 60 ≤ l.length ∧ l.length + 26 ≤ s.par (oChan (20 + p)) 0x0103 ∧ s.pierShut p utEth = true) →
    exec (.ethUnit p c d b l) s = .next (s.pierRx p utEth l.length)) ∧
  (∀ (p : Fin 2) (c : Fin 8) (d : Fin 4) (b : Fin 6) (l : List Byte) (s : State),
    (s.flag (PortStatus.linkUp (20 + p)) = true ∧ b.val = 0) →
    (l.length < 60 → exec (.ethUnit p c d b l) s = .next (s.incCasc p 0)) ∧
    (60 ≤ l.length → s.par (oChan (20 + p)) 0x0103 < l.length + 26 →
      exec (.ethUnit p c d b l) s = .next (s.inc (oChan (20 + p)) cEth 7))) ∧
  (∀ (p : Fin 2) (c : Fin 8) (d e : Fin 4) (b : Fin 6) (r : BitVec 14) (l : List Byte) (u : Upset) (s : State),
    (s.flag (PortStatus.linkUp (20 + p)) = true ∧ b.val ≠ 0) →
    exec (.ethUnit p c d b l) s = .next (s.unitBad p b.val) ∧
      exec (.recordUnit p c d e b r l u) s = .next (s.unitBad p b.val)) ∧
  (∀ (p : Fin 2) (c : Fin 8) (d e : Fin 4) (b : Fin 6) (r : BitVec 14) (l : List Byte) (u : Upset) (s : State),
    s.flag (PortStatus.linkUp (20 + p)) = false →
    exec (.ethUnit p c d b l) s = .next s ∧ exec (.recordUnit p c d e b r l u) s = .next s) ∧
  (∀ (p : Fin 2) (c : Fin 8) (d : Fin 4) (e : Fin 4) (b : Fin 6) (r : BitVec 14) (l : List Byte) (u : Upset) (s : State) (v : State),
    (s.flag (PortStatus.linkUp (20 + p)) = true ∧ b.val = 0 ∧ 16 ≤ l.length) →
    v = s.pierRx p utRecord (l.length + 2) →
    exec (.recordUnit p c d e b r l u) s = .next (if s.pierShut p utRecord then v else (v.creditBack p c (unitCells ((0 : Byte) :: 0 :: l))).recordIn p c d e r.toNat l u)) ∧
  (∀ (p : Fin 2) (c : Fin 8) (d : Fin 4) (e : Fin 4) (b : Fin 6) (r : BitVec 14) (l : List Byte) (u : Upset) (s : State),
    (s.flag (PortStatus.linkUp (20 + p)) = true ∧ b.val = 0 ∧ l.length < 16) →
    exec (.recordUnit p c d e b r l u) s = .next (s.incCasc p 0)) ∧
  (∀ (p : Fin 2) (d : Fin 4) (c : Fin 8) (b : Bool) (n : BitVec 16) (m : BitVec 16) (k : BitVec 16) (q : Req) (s : State) (t : State) (r a : List Byte) (v : State),
    (r = reqHeader k.toNat q ++ q.payload.take q.len.toNat ∧ a = leBytes 1 d.val ++ leBytes 1 (c.val + 8 * b2n b) ++ leBytes 2 n.toNat ++ r) →
    (s.pierRx p utReq a.length).pierTake p pcReq m.toNat = some t →
    v = t.creditBack p pcReq (unitCells a) →
    exec (.reqUnit p d c b n m k q) s = .next (if q.deck.toNat % 4 = v.ownDeck then v.reqIn { origin := d.val, client := c.val, num := n.toNat, cmd := k.toNat, req := r, sec := b, waits := (bulkOf k.toNat q.flags.toNat (q.payload.take q.len.toNat)).any (fun b => b.dir != 1) }
      else v.transit pcReq utReq d (q.deck.toNat % 4) a)) ∧
  (∀ (p : Fin 2) (d : Fin 4) (c : Fin 8) (b : Bool) (n : BitVec 16) (m : BitVec 16) (k : BitVec 16) (q : Req) (s v : State),
    v = s.pierRx p utReq (leBytes 1 d.val ++ leBytes 1 (c.val + 8 * b2n b) ++ leBytes 2 n.toNat ++ (reqHeader k.toNat q ++ q.payload.take q.len.toNat)).length →
    v.pierTake p pcReq m.toNat = none →
    exec (.reqUnit p d c b n m k q) s = .next v) ∧
  (∀ (p : Fin 2) (d : Fin 4) (e : Fin 4) (n : BitVec 16) (m : BitVec 16) (b : Bool) (o : BitVec 32) (l : List Byte) (s : State) (t : State) (a : List Byte) (v : State),
    a = leBytes 2 n.toNat ++ leBytes 1 (b2n b) ++ [0] ++ (if b then leBytes 4 o.toNat else []) ++ l →
    (s.pierRx p utCpl a.length).pierTake p pcCpl m.toNat = some t →
    v = t.creditBack p pcCpl (unitCells a) →
    exec (.cplUnit p d e n m b o l) s = .next (if e.val = v.ownDeck then v.cplIn d n.toNat b o.toNat l else v.transit pcCpl utCpl d e a)) ∧
  (∀ (p : Fin 2) (d : Fin 4) (e : Fin 4) (n : BitVec 16) (m : BitVec 16) (b : Bool) (o : BitVec 32) (l : List Byte) (s v : State),
    v = s.pierRx p utCpl (leBytes 2 n.toNat ++ leBytes 1 (b2n b) ++ [0] ++ (if b then leBytes 4 o.toNat else []) ++ l).length →
    v.pierTake p pcCpl m.toNat = none →
    exec (.cplUnit p d e n m b o l) s = .next v) ∧
  (∀ (p : Fin 2) (d : Fin 4) (e : Fin 4) (m : BitVec 16) (n : Fin 64) (r : BitVec 128) (s : State) (t : State) (a : List Byte) (v : State),
    a = leBytes 1 n.val ++ leBytes 16 r.toNat →
    (s.pierRx p utEvt a.length).pierTake p pcEvt m.toNat = some t →
    v = t.creditBack p pcEvt (unitCells a) →
    exec (.evtUnit p d e m n r) s = .next (if e.val ≠ v.ownDeck then v.transit pcEvt utEvt d e a else if 64 ≤ v.evqFill n then v.evqDrop n else v.evqWrite n (evtRecord d r.toNat))) ∧
  (∀ (p : Fin 2) (d : Fin 4) (e : Fin 4) (m : BitVec 16) (n : Fin 64) (r : BitVec 128) (s v : State),
    v = s.pierRx p utEvt (leBytes 1 n.val ++ leBytes 16 r.toNat).length →
    v.pierTake p pcEvt m.toNat = none →
    exec (.evtUnit p d e m n r) s = .next v) ∧
  (∀ (s : State) (t : Nat) (v : State),
    (s.pier.discoverAt = some t ∧ v = s.timeTo t) →
    exec .discoveryDeadline s = .next (State.discovered { v with pier := { v.pier with discoverAt := none } })) ∧
  (∀ (s : State),
    s.pier.discoverAt = none →
    exec .discoveryDeadline s = .next s) ∧
  (∀ (s : State) (t : Nat) (v : State),
    (s.pier.actingAt = some t ∧ v = s.timeTo t) →
    exec .actingDelayExpiry s = .next (State.actingTurn { v with pier := { v.pier with actingAt := none } })) ∧
  (∀ (s : State),
    s.pier.actingAt = none →
    exec .actingDelayExpiry s = .next s) ∧
  (∀ (s : State) (f : FwdReq) (v w : State),
    s.pier.forwarded.find? (fun f => f.lostAt.isSome) = some f →
    v = s.timeTo (f.lostAt.getD s.strand) →
    w = { v with pier := { v.pier with forwarded := v.pier.forwarded.erase f } } →
    exec .requestUnreachableTimeout s = .next (if 16 ≤ f.mb then w else w.mbRespond f.mb f.cmd (w.getF (MbSeq.lastPosted f.mb)) ⟨stDeckUnreachable, [], 0, 0⟩)) ∧
  (∀ (s : State),
    s.pier.forwarded.find? (fun f => f.lostAt.isSome) = none →
    exec .requestUnreachableTimeout s = .next s)

/-- Entry, wake, supply and thermal commands of the Brim die take the effects of R361 to R379. With the entry conditions held the
request of LOW_POWER is accepted, or a wake latched first makes the Brim die refuse it; the end of an accepted request makes the
device Parked or Listening, and a wake latched since, or a crystal that has stopped before Parked, wakes it; a latched wake leaves
Listening or Parked; clocks that resume bring back Running; the wake timer records its wake; Listening goes on to Parked at its
time; supplies not qualified degrade, and a supply or thermal retry follows its rule; temperatures are published and a critical
one in Running degrades; the level falls after 100 ms; the values of Brim non-volatile memory are written, or NVM_FAIL is
reported; a read of the peaks clears them; the crystal's start and stop are recorded. An event whose time or condition does not
stand changes nothing. -/
def Obligations.PowerCommandsComplete : Prop :=
  (∀ (s : State) (v : State),
    v = State.setF { s with brim := { s.brim with xoscOk := true } } PwrStatus.xoscOk 1 →
    exec .xosc32Stable s = .next (if v.brim.parkHeld = true ∧ v.brim.crystalFail = false ∧ (v.brim.power = pwRunning ∨ v.brim.power = pwListening) then v.acceptPark v.brim.wakeSecs else v)) ∧
  (∀ (s : State) (v : State),
    v = State.setF { s with brim := { s.brim with xoscOk := false } } PwrStatus.xoscOk 0 →
    exec .xosc32Stop s = .next (if v.brim.power = pwParked then (State.deviceWake { v with brim := { v.brim with crystalFail := true } }).event PwrEvents.crystalFail 0x042 else v)) ∧
  (∀ (b : Bool) (s : State) (v : State),
    (s.brim.power = pwRunning ∧ s.par oDeck 0x0F00 ≠ 0 ∧ s.fwRunning = true) →
    (s.lpSpansAsleep = true ∧ s.lpRest = true) →
    v = s.hbTo (s.brim.hb + msC (s.par oDeck 0x0F01)) →
    exec (.entryHoldExpiry b) s = .next (if b then v.lpRefuse else v.lpEnter (s.par oDeck 0x0F00))) ∧
  (∀ (b : Bool) (s : State),
    (s.brim.power ≠ pwRunning ∨ s.par oDeck 0x0F00 = 0 ∨ s.fwRunning = false ∨ s.lpSpansAsleep = false ∨ s.lpRest = false) →
    exec (.entryHoldExpiry b) s = .next s) ∧
  (∀ (s : State),
    s.brim.entering = some pwParked →
    exec .parkSupplyFall s = .next (if s.parkedNow.brim.xoscOk = false then s.parkedNow.crystalWake
      else if s.parkedNow.brim.wakeLatched then s.parkedNow.deviceWake else s.parkedNow)) ∧
  (∀ (s : State),
    s.brim.entering ≠ some pwParked →
    exec .parkSupplyFall s = .next s) ∧
  (∀ (s : State),
    (s.brim.entering = some pwListening ∧ s.brim.power = pwRunning) →
    exec .coreClockStop s = .next (if s.listeningNow.brim.wakeLatched then s.listeningNow.deviceWake else s.listeningNow)) ∧
  (∀ (s : State),
    (s.brim.entering ≠ some pwListening ∨ s.brim.power ≠ pwRunning) →
    exec .coreClockStop s = .next s) ∧
  (∀ (s : State),
    exec .listeningWake s = .next (if s.brim.power = pwListening ∧ s.brim.wakeLatched = true then s.deviceWake else s)) ∧
  (∀ (s : State),
    (s.brim.power = pwWaking ∧ s.brim.prev = pwListening) →
    exec .coreClocksResume s = .next (((s.historyAll.setPower pwRunning).watchdogAgain.gatedLost).workChoose.spansResume)) ∧
  (∀ (s : State),
    (s.brim.power ≠ pwWaking ∨ s.brim.prev ≠ pwListening) →
    exec .coreClocksResume s = .next s) ∧
  (∀ (s : State),
    (s.brim.power = pwParked ∨ s.brim.entering = some pwParked) →
    s.brim.wakeLatched = true →
    exec .parkedWake s = .next s.deviceWake) ∧
  (∀ (s : State),
    (s.brim.wakeLatched = false ∨ (s.brim.power ≠ pwParked ∧ s.brim.entering ≠ some pwParked)) →
    exec .parkedWake s = .next s) ∧
  (∀ (s : State) (d : Nat) (v : State),
    (s.brim.wakeTimer = some d ∧ v = s.hbTo d) →
    exec .wakeTimerExpiry s = .next (State.deviceWake (State.wakeRecord { v with brim := { v.brim with wakeTimer := none } } wsWakeTimer 0xFF 0xFF 0 false))) ∧
  (∀ (s : State) (d : Nat) (v : State),
    (s.brim.parkTimer = some d ∧ v = s.hbTo d) →
    exec .listenToParkExpiry s = .next (State.parkOnTime { v with brim := { v.brim with parkTimer := none } })) ∧
  (∀ (s : State),
    (s.brim.power = pwListening ∧ s.brim.crystalFail = false) →
    s.parkOnTime = if s.brim.xoscOk then s.acceptPark s.brim.wakeSecs else { s with brim := { s.brim with parkHeld := true } }) ∧
  (∀ (s : State) (d : Nat),
    s.brim.supplyTimer = some d →
    exec .supplyQualifyTimeout s = .next (if s.brim.power = pwWaking then (s.hbTo d).degradeSupply else s)) ∧
  (∀ (s : State) (d : Nat) (v : State),
    (s.brim.retryAt = some d ∧ v = s.hbTo d) →
    exec .supplyRetryExpiry s = .next (State.supplyRetry { v with brim := { v.brim with retryAt := none } })) ∧
  (∀ (b : Byte) (s : State) (d : Nat),
    s.brim.thermRetryAt = some d →
    exec (.thermalRetryExpiry b) s = .next ((s.hbTo d).thermalRetry b.toNat)) ∧
  (∀ (a : Byte) (b : Byte) (s : State) (v : State),
    v = s.thermPublish a.toNat b.toNat →
    exec (.thermalRead a b) s = .next (if (229 ≤ s.getF ThermStatus.crownTemp ∧ 165 ≤ a.toNat - 64) ∨ 170 ≤ b.toNat - 64 then (if s.brim.power = pwRunning then v.thermCritical else v) else v)) ∧
  (∀ (s : State) (d : Nat),
    s.brim.thermFallAt = some d →
    exec .thermalFallTimer s = .next ((s.hbTo d).thermFall)) ∧
  (∀ (b : Byte) (s : State),
    (s.brim.wakeTimer = none → exec .wakeTimerExpiry s = .next s) ∧
    (s.brim.parkTimer = none → exec .listenToParkExpiry s = .next s) ∧
    (s.brim.supplyTimer = none → exec .supplyQualifyTimeout s = .next s) ∧
    (s.brim.retryAt = none → exec .supplyRetryExpiry s = .next s) ∧
    (s.brim.thermRetryAt = none → exec (.thermalRetryExpiry b) s = .next s) ∧
    (s.brim.thermFallAt = none → exec .thermalFallTimer s = .next s)) ∧
  (∀ (b : Bool) (s : State) (v : State),
    s.gci.nvmPend ≠ [] →
    v = { s with gci := { s.gci with nvmPend := [] } } →
    exec (.inhNvmWrite b) s = .next (if b then v.hatpinDown.event PwrEvents.nvmFail 0x041
      else State.syncInh (State.cwFollow { v with brim := { v.brim with nvm := s.gci.nvmPend.foldl (fun (m : Tab Nat) kv => tabSet cfgDefault m kv.1 kv.2) s.brim.nvm } }))) ∧
  (∀ (b : Bool) (s : State),
    s.gci.nvmPend = [] →
    exec (.inhNvmWrite b) s = .next s) ∧
  (∀ (s : State) (v : State),
    v = s.setReg ThermPeak.off 0 →
    exec .thermPeakRead s = .next (s.hosted { v with out := .readData ThermPeak.off (s.reg ThermPeak.off).toNat :: s.out }))

/-- Idle, prepare, entry, arming and wake sources of the Spans take the effects of R381 to R404. Each timer ends with its
millisecond (log entry 132). Outside a switchover a demand hold that ends lets the Span be judged anew, as does a millisecond
without one; PREPARE that has passed begins the entry; a Span of this Deck without demand at the end of its false-wake time is
marked and goes back, any other is judged; when all is sent, or ENTRY_DRAIN has passed and the rest is discarded, arming begins,
and its outcome makes the Span sleep or fail, after a switchover that runs; a Lane powers up in WAKING; the keep-alive leaves each
period while AWAKE and held; LONG_AWAKE counts and logs; a selective-wake frame, wake-up pattern, selected pin edge, LIN or T1S
wake or matching pattern wakes the Span armed with it; and messages of the Viaduct act as R404 says. An event without its timer,
state or armed source changes nothing. -/
def Obligations.SpanEventsTakeEffect : Prop :=
  (∀ (i : Fin 16) (s : State),
    s.switchover = false →
    exec (.idleTimerExpiry i) s = .next (match (s.span i).idleAt with
      | some d => ((s.timeTo (msEnd d)).idleEnd i).spanUpdate i
      | none => s.spanUpdate i)) ∧
  (∀ (i : Fin 16) (s : State) (d : Nat),
    ((s.span i).prepareAt = some d ∧ s.spanState i = spPrepare ∧ s.switchover = false) →
    exec (.prepareTimeExpiry i) s = .next ((s.timeTo (msEnd d)).spanEnter i)) ∧
  (∀ (i : Fin 16) (s : State),
    ((s.span i).prepareAt = none ∨ s.spanState i ≠ spPrepare ∨ s.switchover = true) →
    exec (.prepareTimeExpiry i) s = .next s) ∧
  (∀ (i : Fin 16) (s : State) (d : Nat) (v w : State),
    ((s.span i).falseAt = some d ∧ s.switchover = false ∧ v = (s.timeTo (msEnd d)).spanDemand i) →
    w = (v.setSpan i { v.span i with falseAt := none }).setF (SpanState.falseWakeRun i) 0 →
    exec (.falseWakeExpiry i) s = .next (if w.hasDemand i = false ∧ (w.span i).correct = false ∧ w.spanState i = spAwake ∧ w.spanRemote i = false then
        State.spanEnter (State.setSpan ((w.markFalseWake i).incSpan i 4) i { ((w.markFalseWake i).incSpan i 4).span i with lastHolder := (0, 0, 0xFF) }) i else w.spanUpdate i)) ∧
  (∀ (i : Fin 16) (s : State),
    s.switchover = true →
    exec (.idleTimerExpiry i) s = .next s ∧ exec (.falseWakeExpiry i) s = .next s) ∧
  (∀ (i : Fin 16) (s : State),
    (s.spanState i = spEntering ∧ (s.span i).step = 0 ∧ s.switchover = false) →
    (s.spanDrained i = true ∨ (s.span i).drainAt = none) →
    exec (.entryDrainEnd i) s = .next (s.spanArm i)) ∧
  (∀ (i : Fin 16) (s : State) (d : Nat),
    (s.spanState i = spEntering ∧ (s.span i).step = 0 ∧ s.switchover = false) →
    (s.spanDrained i = false ∧ (s.span i).drainAt = some d) →
    exec (.entryDrainEnd i) s = .next (((s.timeTo d).spanDiscard i).spanArm i)) ∧
  (∀ (i : Fin 16) (s : State),
    (s.spanState i ≠ spEntering ∨ (s.span i).step ≠ 0 ∨ s.switchover = true) →
    exec (.entryDrainEnd i) s = .next s) ∧
  (∀ (i : Fin 16) (b : Bool) (s : State),
    (s.spanState i = spEntering ∧ (s.span i).step = 1) →
    exec (.armingConfirmed i b) s = .next (if s.switchover then s.spanWait (.armed i b) else if b then s.spanArmFail i else s.spanArmed i)) ∧
  (∀ (i : Fin 16) (b : Bool) (s : State),
    (s.spanState i ≠ spEntering ∨ (s.span i).step ≠ 1) →
    exec (.armingConfirmed i b) s = .next s) ∧
  (∀ (i : Fin 16) (s : State),
    exec (.lanePowerUp i) s = .next (if s.spanState i = spWaking then (((s.spanUngate i).spanXcvrBack i).lineCommand i 0).spanAwakeCheck i else s)) ∧
  (∀ (i : Fin 16) (s : State) (d : Nat) (v w : State),
    ((s.span i).kaAt = some d ∧ v = s.timeTo d) →
    (w = v.setSpan i { v.span i with kaAt := if v.spanPar i 0x010A = 0 then none else some (v.after (msC (v.spanPar i 0x010A))) }) →
    exec (.kaTxPeriodExpiry i) s = .next (if w.spanState i != spAwake || w.getF (SpanState.holds i) == 0 then w else w.kaSend i)) ∧
  (∀ (i : Fin 16) (s : State) (d : Nat) (v w : State),
    ((s.span i).longAt = some d ∧ v = s.timeTo d) →
    (w = v.setSpan i { v.span i with longAt := if v.spanPar i 0x0110 = 0 then none else some (v.after (secC (v.spanPar i 0x0110))) }) →
    exec (.longAwakeExpiry i) s = .next ((w.incSpan i 8).stayLog i 3 (w.longestHolder i))) ∧
  (∀ (i : Fin 16) (s : State),
    ((s.span i).falseAt = none → exec (.falseWakeExpiry i) s = .next s) ∧
    ((s.span i).kaAt = none → exec (.kaTxPeriodExpiry i) s = .next s) ∧
    ((s.span i).longAt = none → exec (.longAwakeExpiry i) s = .next s)) ∧
  (∀ (n : Fin 16) (k : Fin 3) (i : BitVec 30) (r : Bool) (d : BitVec 4) (p : BitVec 64) (s : State) (a : ArmedSpan) (f : Nat),
    s.armedCan n = some (a, f) →
    (bitsOf f 7 0 ≠ 0 → exec (.swakeFrame n k i r d p) s = .next (s.swakeIn n a.span f k i.toNat r d.toNat p.toNat) ∧ exec (.wup n) s = .next s) ∧
    (bitsOf f 7 0 = 0 → exec (.swakeFrame n k i r d p) s = .next s ∧ exec (.wup n) s = .next (s.wake a.span wsWup (24 + n) 0 (24 + n)))) ∧
  (∀ (n : Fin 16) (k : Fin 3) (i : BitVec 30) (r : Bool) (d : BitVec 4) (p : BitVec 64) (s : State),
    s.armedCan n = none →
    exec (.swakeFrame n k i r d p) s = .next s ∧ exec (.wup n) s = .next s) ∧
  (∀ (k : Fin 8) (b : Bool) (s : State) (v : State),
    v = s.setF ⟨WakePinStatus.off, k, k⟩ (b2n b) →
    exec (.wakePin k b) s = .next (if bitOf (bitsOf (s.nvmPar (0x1300 + k.val)) 1 0) (if b then 0 else 1) then (v.pinSpans k).foldl (fun x i => x.wake i wsPin k (b2n b) 0xFF) v else v)) ∧
  (∀ (n : Fin 8) (s : State) (a : ArmedSpan),
    s.armedChan (88 + n.val) = some a →
    exec (.linWake n) s = .next (s.wake a.span wsLin (88 + n.val) 0 (88 + n.val))) ∧
  (∀ (n : Fin 8) (s : State) (a : ArmedSpan),
    s.armedChan (12 + n.val) = some a →
    exec (.t1sWake n) s = .next (s.wake a.span wsT1s (12 + n.val) 0 (12 + n.val))) ∧
  (∀ (n : Fin 8) (s : State),
    (s.armedChan (88 + n.val) = none → exec (.linWake n) s = .next s) ∧
    (s.armedChan (12 + n.val) = none → exec (.t1sWake n) s = .next s)) ∧
  (∀ (p : Fin 12) (l : List Byte) (s : State) (a : ArmedSpan),
    (s.armedChan p = some a ∧ s.par (oPattern p) (pidRaw 0) = 1 ∧ s.wakeFrameOk p l = true) →
    patternMatch (s.par (oPattern p) (pidRaw 1)) (s.par (oPattern p) (pidRaw 2)) (leBytes 128 (s.par (oPattern p) (pidRaw 3))) l = true →
    exec (.wakePatternMatch p l) s = .next (State.wake ((s.inc (oChan p) cEth 15).event (PortEvents.wakeMatch p) (0x105 + p.val * 16)) a.span wsPattern p 0 p)) ∧
  (∀ (p : Fin 12) (l : List Byte) (s : State),
    (s.armedChan p = none ∨ s.par (oPattern p) (pidRaw 0) ≠ 1 ∨ s.wakeFrameOk p l = false ∨
      patternMatch (s.par (oPattern p) (pidRaw 1)) (s.par (oPattern p) (pidRaw 2)) (leBytes 128 (s.par (oPattern p) (pidRaw 3))) l = false) →
    exec (.wakePatternMatch p l) s = .next s) ∧
  (∀ (i : Fin 16) (d : Fin 4) (k : Fin 7) (b : Byte) (s : State),
    (s.spanPar i 0x0111 ≠ 0 ∧ s.spanPar i 0x0100 ≠ 0) →
    exec (.viaductSpanMessage i d k b) s = .next (if s.getF CascStatus.role = 2 then s.spanFromMaster i d k b.toNat else s.spanFromMember i d k b.toNat)) ∧
  (∀ (i : Fin 16) (d : Fin 4) (k : Fin 7) (b : Byte) (s : State),
    s.spanPar i 0x0111 = 0 →
    exec (.viaductSpanMessage i d k b) s = .next (if s.getF CascStatus.role ≠ 2 ∧ (k.val ≤ 1 ∨ k.val = 6) then { s with out := .spanMessage i 5 0 :: s.out } else s)) ∧
  (∀ (i : Fin 16) (d : Fin 4) (k : Fin 7) (b : Byte) (s : State),
    (s.spanPar i 0x0111 ≠ 0 ∧ s.spanPar i 0x0100 = 0) →
    exec (.viaductSpanMessage i d k b) s = .next s)

/-- Each instruction of the signal gateway engine has the effect that R288 gives its opcode. On an executor whose job
stands at an instruction word w: END ends the job as a whole; UNPACK writes the field's value to its signal; PACK
writes a signal's value to the field and, with an update bit, UPDATED to it, and clears UPDATED where bit 16 asks it;
CHECK checks the PDU; MATCH goes on, past as many instructions as it names where the identifier differs; JUMP
continues at its target; PACKK writes the constant; ENTRY goes on; TRIG triggers the PDU with CHANGED, which bit 16
clears. An instruction with an uncorrectable error ends the job short, counts it, raises the event and fault input 5. On
an executor without a job, or whose job stands at another opcode, the instruction changes nothing. -/
def Obligations.SgeInstructionsComplete : Prop :=
  (∀ (e : Fin 16) (b : Bool) (s : State) (r : Running) (w : Nat),
    (b = false ∧ s.executor e = some r) →
    (w = s.instr r.old r.pc ∧ insOp w = 0) →
    exec (.sgeEnd e b) s = .next (s.jobEnd e r true)) ∧
  (∀ (e : Fin 16) (b : Bool) (s : State) (r : Running) (w : Nat),
    (b = false ∧ s.executor e = some r) →
    (w = s.instr r.old r.pc ∧ insOp w = 1) →
    exec (.sgeUnpack e b) s = .next (s.unpackIns e r w)) ∧
  (∀ (e : Fin 16) (b : Bool) (s : State) (r : Running) (w : Nat) (a : List Byte) (v : State),
    (b = false ∧ s.executor e = some r) →
    (w = s.instr r.old r.pc ∧ insOp w = 2) →
    (a = writeField r.body (insField w) (s.signal (insSignal w)).value ∧ v = (if bitOf w 16 then s.setSignal (insSignal w) { s.signal (insSignal w) with updated := false } else s)) →
    exec (.sgePack e b) s = .next (v.sgeNext e { r with body := if insUbEn w then setPayBit a (insUbPos w) (s.signal (insSignal w)).updated else a })) ∧
  (∀ (e : Fin 16) (b : Bool) (s : State) (r : Running) (w : Nat),
    (b = false ∧ s.executor e = some r) →
    (w = s.instr r.old r.pc ∧ insOp w = 3) →
    exec (.sgeCheck e b) s = .next (s.checkIns e r w)) ∧
  (∀ (e : Fin 16) (b : Bool) (s : State) (r : Running) (w : Nat),
    (b = false ∧ s.executor e = some r) →
    (w = s.instr r.old r.pc ∧ insOp w = 4) →
    exec (.sgeMatch e b) s = .next (s.setExecutor e (some { r with pc := r.pc + 1 + if recIdent r.job.record == bitsOf w 28 0 && recIde r.job.record == bitOf w 57 then 0 else bitsOf w 44 37 }))) ∧
  (∀ (e : Fin 16) (b : Bool) (s : State) (r : Running) (w : Nat),
    (b = false ∧ s.executor e = some r) →
    (w = s.instr r.old r.pc ∧ insOp w = 5) →
    exec (.sgeJump e b) s = .next (s.setExecutor e (some { r with pc := bitsOf w 17 0 }))) ∧
  (∀ (e : Fin 16) (b : Bool) (s : State) (r : Running) (w : Nat),
    (b = false ∧ s.executor e = some r) →
    (w = s.instr r.old r.pc ∧ insOp w = 6) →
    exec (.sgePackk e b) s = .next (s.sgeNext e { r with body := writeField r.body (fieldPositions (insBig w) (insStart w) (bitsOf w 55 51 + 1)) (bitsOf w 31 0) })) ∧
  (∀ (e : Fin 16) (b : Bool) (s : State) (r : Running) (w : Nat),
    (b = false ∧ s.executor e = some r) →
    (w = s.instr r.old r.pc ∧ insOp w = 7) →
    exec (.sgeEntry e b) s = .next (s.setExecutor e (some { r with pc := r.pc + 1 }))) ∧
  (∀ (e : Fin 16) (b : Bool) (s : State) (r : Running) (w : Nat),
    (b = false ∧ s.executor e = some r) →
    (w = s.instr r.old r.pc ∧ insOp w = 8) →
    exec (.sgeTrig e b) s = .next ((s.trigger (bitsOf w 13 0) r.changed r.old).sgeNext e { r with changed := r.changed && !bitOf w 16 })) ∧
  (∀ (e : Fin 16) (b : Bool) (i : Instr) (op : Nat) (s : State) (r : Running),
    (i, op) ∈ [(Instr.sgeEnd e b, 0), (.sgeUnpack e b, 1), (.sgePack e b, 2), (.sgeCheck e b, 3), (.sgeMatch e b, 4), (.sgeJump e b, 5), (.sgePackk e b, 6), (.sgeEntry e b, 7), (.sgeTrig e b, 8)] →
    (b = true ∧ s.executor e = some r ∧ insOp (s.instr r.old r.pc) = op) →
    exec i s = .next (State.jobEnd (((s.incSge 13).sgeEvent 3 r.pc).faultRise 5 r.pc) e r false)) ∧
  (∀ (e : Fin 16) (b : Bool) (i : Instr) (op : Nat) (s : State),
    (i, op) ∈ [(Instr.sgeEnd e b, 0), (.sgeUnpack e b, 1), (.sgePack e b, 2), (.sgeCheck e b, 3), (.sgeMatch e b, 4), (.sgeJump e b, 5), (.sgePackk e b, 6), (.sgeEntry e b, 7), (.sgeTrig e b, 8)] →
    (s.executor e = none ∨ ∃ r, s.executor e = some r ∧ insOp (s.instr r.old r.pc) ≠ op) →
    exec i s = .next s)

/-- Feeder, dispatch, signal timeouts and PDU timers take the effects of R284 to R300. In a mode other than 2 the feeder
moves the next copy of the queue that it serves, and one that its read finds lost starts no job; a free executor takes
the ready job with the earliest deadline; a timeout scan visits every signal with an entry; a PDU timer with a boundary
fires as ALIGNED, or as free-running, which is held while the PDU's Span sleeps; and the end of MIN_GAP releases a
deferred trigger once. In mode 2, with nothing to serve, take or release, nothing changes. -/
def Obligations.SgeSchedulingComplete : Prop :=
  (∀ (u : Fin 7) (s : State) (q d : Nat) (v w : State) (b : Bool),
    (s.feederQueue = some q ∧ s.getF SgeStatus.modeActive ≠ 2) →
    (s.dequeue q = some (d, v) ∧ (b, w) = v.readWhole d u) →
    exec (.sgeFeederMove u) s = .next (if b then w.feederTake d else w.releaseCopy d)) ∧
  (∀ (u : Fin 7) (s : State),
    (s.feederQueue = none ∨ s.getF SgeStatus.modeActive = 2 ∨ ∃ q, s.feederQueue = some q ∧ s.dequeue q = none) →
    exec (.sgeFeederMove u) s = .next s) ∧
  (∀ (e : Fin 16) (s : State) (j : SgeJob),
    (s.executor e = none ∧ s.getF SgeStatus.modeActive ≠ 2) →
    s.nextJob = some j →
    exec (.sgeDispatch e) s = .next (s.dispatchJob e j)) ∧
  (∀ (e : Fin 16) (s : State),
    (s.executor e ≠ none ∨ s.getF SgeStatus.modeActive = 2 ∨ s.nextJob = none) →
    exec (.sgeDispatch e) s = .next s) ∧
  (∀ (s : State),
    s.getF SgeStatus.modeActive ≠ 2 →
    exec .signalTimeoutScan s = .next ((s.listed 0x10 pidEntry).foldl (fun v kv => if sgTimeout kv.2 ≠ 0 ∧ (v.signal kv.1).timedOut = false ∧ msC (sgTimeout kv.2) < strandDiff v.strand (v.signal kv.1).stamp then v.signalTimeout kv.1 kv.2 else v) s)) ∧
  (∀ (s : State),
    s.getF SgeStatus.modeActive = 2 →
    exec .signalTimeoutScan s = .next s) ∧
  (∀ (t : Fin 8192) (s : State) (b p d : Nat),
    ((s.timer t).next = some b ∧ s.timerPdu t = some (p, d)) →
    (s.getF SgeStatus.modeActive ≠ 2 ∧ (s.timer t).aligned = true) →
    exec (.pduTimerRelease t) s = .next (s.timerAligned t (s.par (oTimer t) 0x0100) (s.par (oTimer t) 0x0101) b p d)) ∧
  (∀ (t : Fin 8192) (s : State) (b p d : Nat),
    ((s.timer t).next = some b ∧ s.timerPdu t = some (p, d)) →
    (s.getF SgeStatus.modeActive ≠ 2 ∧ (s.timer t).aligned = false) →
    exec (.pduTimerRelease t) s = .next (if s.pduAsleep d then s else s.timerFree t (s.par (oTimer t) 0x0100) (s.par (oTimer t) 0x0101) b p d)) ∧
  (∀ (t : Fin 8192) (s : State),
    ((s.timer t).next = none ∨ s.timerPdu t = none ∨ s.getF SgeStatus.modeActive = 2) →
    exec (.pduTimerRelease t) s = .next s) ∧
  (∀ (p : Fin 16384) (s : State) (t : Nat) (v : State),
    ((s.pdu p).lastDispatch = some t ∧ (s.pdu p).deferred = true) →
    v = s.timeTo (strandPlus t (usC (pdMinGap (s.entry (oPdu p)) * 100))) →
    exec (.minGapEnd p) s = .next (State.feltRelease (v.setPdu p { v.pdu p with deferred := false }) p)) ∧
  (∀ (p : Fin 16384) (s : State),
    ((s.pdu p).lastDispatch = none ∨ (s.pdu p).deferred = false) →
    exec (.minGapEnd p) s = .next s)

/-- Doorbells, coalescing, claims, completion, read pointers, escalation, sleep and MSI-X complete, with the effects of R450
to R465. A doorbell is an occurrence of a counted source, a rise or fall of a level source, or a payload of a payload
source, and one of another kind or of a number never assigned changes nothing. At its coalesce time an IDLE queue that is
not empty enters PENDING, and else the timer ends. A claim takes the queue of R461's choice, which becomes CLAIMED, and returns
its value, or 0xFFF with VALID 0 where none is PENDING. A completion by another than the claimer sets BAD_COMPLETE, and one by the
claimer samples the level routes again and leaves the queue PENDING if it is not empty and IDLE if it is. A write of a read pointer
moves it, sets BAD_RD_PTR where it would pass the write pointer, and does nothing where the host writes one of EVQ[0] to EVQ[15].
An escalation timeout escalates a PENDING queue, signals again one of target 3 that is unfinished, and is held for firmware's queues
during a switchover. A Milliner pair that is halted or runs again and a host link that goes down change what escalates, and an
unmasked vector's entry is stored with its Mask bit clear, its message sent if a queue waits and target 3 is awake. Each of the eight
answers a next state in every state, and leaves the committed configuration, the fuses and the queue of commands. The accesses of
tgtClaim, tgtComplete and evqRdPtrWrite act while the Core island is accessible (`State.hosted`, log entry 76). -/
def Obligations.EventCommandsTakeEffect : Prop :=
  (∀ (a : BitVec 12) (b : BitVec 2) (d : BitVec 32) (p : BitVec 96) (s : State), ∃ t,
    exec (.doorbellAccept a b d p) s = .next t ∧ t.cfg = s.cfg ∧ t.fuses = s.fuses ∧ t.pending = s.pending) ∧
  (∀ (q : Fin 64) (s : State), ∃ t,
    exec (.coalesceTimeExpiry q) s = .next t ∧ t.cfg = s.cfg ∧ t.fuses = s.fuses ∧ t.pending = s.pending) ∧
  (∀ (g : Fin 5) (s : State), ∃ t,
    exec (.tgtClaim g) s = .next t ∧ t.cfg = s.cfg ∧ t.fuses = s.fuses ∧ t.pending = s.pending) ∧
  (∀ (g : Fin 5) (q : Fin 64) (s : State), ∃ t,
    exec (.tgtComplete g q) s = .next t ∧ t.cfg = s.cfg ∧ t.fuses = s.fuses ∧ t.pending = s.pending) ∧
  (∀ (q : Fin 64) (b : Bool) (w : Word) (s : State), ∃ t,
    exec (.evqRdPtrWrite q b w) s = .next t ∧ t.cfg = s.cfg ∧ t.fuses = s.fuses ∧ t.pending = s.pending) ∧
  (∀ (q : Fin 64) (s : State), ∃ t,
    exec (.escTimeoutExpiry q) s = .next t ∧ t.cfg = s.cfg ∧ t.fuses = s.fuses ∧ t.pending = s.pending) ∧
  (∀ (g : Fin 6) (b : Bool) (s : State), ∃ t,
    exec (.targetSleepChange g b) s = .next t ∧ t.cfg = s.cfg ∧ t.fuses = s.fuses ∧ t.pending = s.pending) ∧
  (∀ (v : Fin 64) (s : State), ∃ t,
    exec (.msixVectorUnmask v) s = .next t ∧ t.cfg = s.cfg ∧ t.fuses = s.fuses ∧ t.pending = s.pending) ∧
  (∀ (t : Fin 5) (s : State),
    s.evqPick t = none →
    exec (.tgtClaim t) s = .next (s.hosted { s with out := .readData (0x20100 + (t.val - 3) * 8) 0xFFF :: s.out })) ∧
  (∀ (t : Fin 5) (s v : State) (q n : Nat),
    (s.evqPick t = some q ∧ s.getF (EvqStatus.target q) = 3 ∧ 0 < s.evqFill q) →
    n = (s.evRec q (s.evqRd q)).src + q * 2 ^ 12 + 2 ^ 18 + b2n (s.flag (EvqStatus.escalated q)) * 2 ^ 19 →
    v = ((s.setF (EvqStatus.state q) evqClaimed).setF (EvqStatus.claimer q) t).syncIrq →
    exec (.tgtClaim t) s = .next (s.hosted { v with out := .readData (0x20100 + (t.val - 3) * 8) n :: v.out })) ∧
  (∀ (t : Fin 5) (q : Fin 64) (s : State),
    (s.getF (EvqStatus.state q) ≠ evqClaimed ∨ s.getF (EvqStatus.claimer q) ≠ t) →
    exec (.tgtComplete t q) s = .next (s.hosted (s.setF EvtErr.badComplete 1))) ∧
  (∀ (t : Fin 5) (q : Fin 64) (s v : State),
    (s.getF (EvqStatus.state q) = evqClaimed ∧ s.getF (EvqStatus.claimer q) = t) →
    v = s.evqResample q →
    exec (.tgtComplete t q) s = .next (s.hosted (if v.evqNonEmpty q = true then (v.evqToIdle q).evqEnterPending q else v.evqToIdle q))) ∧
  (∀ (q : Fin 64) (b : Bool) (w : Word) (s : State) (n : Nat),
    (b = false ∨ 16 ≤ q.val) →
    (n = bitsOf w.toNat 6 0 ∧ s.evqFill q < (n + 128 - s.evqRd q) % 128) →
    exec (.evqRdPtrWrite q b w) s = .next (s.hosted (s.setF EvtErr.badRdPtr 1))) ∧
  (∀ (q : Fin 64) (b : Bool) (w : Word) (s : State) (n : Nat),
    (b = false ∨ 16 ≤ q.val) →
    (n = bitsOf w.toNat 6 0 ∧ (n + 128 - s.evqRd q) % 128 ≤ s.evqFill q) →
    exec (.evqRdPtrWrite q b w) s = .next (s.hosted
      (((s.setF (EvqRdPtr.index q) (n % 64)).setF (EvqRdPtr.wrap q) (n / 64)).evqRefill q))) ∧
  (∀ (q : Fin 64) (s : State) (d : Nat) (v : State),
    ((s.evq q).escAt = some d ∧ 16 ≤ q.val) →
    (v = (s.timeTo d).setEvq q { (s.timeTo d).evq q with escAt := none } ∧ v.getF (EvqStatus.state q) = evqPending) →
    exec (.escTimeoutExpiry q) s = .next (v.evqEscalate q)) ∧
  (∀ (n : Fin 64) (s v : State),
    (v = { s with evt := { s.evt with msixTab := tabSet msixDefault s.evt.msixTab n (setBit (s.msixEntry n) 96 false) } } ∧ v.msixWaiting n = []) →
    exec (.msixVectorUnmask n) s = .next v.syncIrq) ∧
  (∀ (n : Fin 64) (s v : State) (q : Nat),
    (v = { s with evt := { s.evt with msixTab := tabSet msixDefault s.evt.msixTab n (setBit (s.msixEntry n) 96 false) } } ∧ v.msixWaiting n = [q]) →
    v.targetAsleep 3 = false →
    exec (.msixVectorUnmask n) s = .next (v.msixDeliver q).syncIrq) ∧
  (∀ (a : BitVec 12) (b : BitVec 2) (d : BitVec 32) (p : BitVec 96) (s : State),
    (srcKind a.toNat = some .counted ∧ b = 0) →
    exec (.doorbellAccept a b d p) s = .next (s.occur a.toNat d.toNat)) ∧
  (∀ (a : BitVec 12) (b : BitVec 2) (d : BitVec 32) (p : BitVec 96) (s : State),
    (srcKind a.toNat = some .level ∧ (b = 1 ∨ b = 2)) →
    exec (.doorbellAccept a b d p) s = .next (s.level a.toNat (b == 1) (if b = 1 then d.toNat else 0))) ∧
  (∀ (a : BitVec 12) (b : BitVec 2) (d : BitVec 32) (p : BitVec 96) (s : State),
    (srcKind a.toNat = some .payload ∧ b = 3) →
    exec (.doorbellAccept a b d p) s = .next (s.payload a.toNat p.toNat)) ∧
  (∀ (a : BitVec 12) (b : BitVec 2) (d : BitVec 32) (p : BitVec 96) (s : State),
    (srcKind a.toNat = none ∨ (srcKind a.toNat = some .counted ∧ b ≠ 0) ∨ (srcKind a.toNat = some .level ∧ (b = 0 ∨ b = 3)) ∨ (srcKind a.toNat = some .payload ∧ b ≠ 3)) →
    exec (.doorbellAccept a b d p) s = .next s) ∧
  (∀ (q : Fin 64) (s : State) (d : Nat) (v : State),
    ((s.evq q).coalAt = some d ∧ v = s.timeTo d) →
    exec (.coalesceTimeExpiry q) s = .next (if v.getF (EvqStatus.state q) = evqIdle ∧ v.evqNonEmpty q = true then v.evqEnterPending q else v.setEvq q { v.evq q with coalAt := none })) ∧
  (∀ (q : Fin 64) (s : State),
    (s.evq q).coalAt = none →
    exec (.coalesceTimeExpiry q) s = .next s) ∧
  (∀ (t : Fin 5) (s : State) (a : Nat) (v : State),
    s.evqClaim t = (a, v) →
    exec (.tgtClaim t) s = .next (s.hosted { v with out := .readData (0x20100 + (t.val - 3) * 8) a :: v.out })) ∧
  (∀ (t : Fin 5) (q : Fin 64) (s : State),
    exec (.tgtComplete t q) s = .next (s.hosted (s.evqComplete q t))) ∧
  (∀ (q : Fin 64) (b : Bool) (w : Word) (s : State),
    (b = false ∨ 16 ≤ q.val) →
    exec (.evqRdPtrWrite q b w) s = .next (s.hosted (s.evqMoveRd q (bitsOf w.toNat 6 0)))) ∧
  (∀ (q : Fin 64) (w : Word) (s : State),
    q.val < 16 →
    exec (.evqRdPtrWrite q true w) s = .next s) ∧
  (∀ (q : Fin 64) (s : State) (d : Nat) (v : State),
    ((s.evq q).escAt = some d ∧ (16 ≤ q.val ∨ s.getF DeckBootStatus.stage ≠ 11)) →
    v = s.timeTo d →
    exec (.escTimeoutExpiry q) s = .next (State.escDue (v.setEvq q { v.evq q with escAt := none }) q)) ∧
  (∀ (q : Fin 64) (s : State),
    ((s.evq q).escAt = none ∨ (q.val < 16 ∧ s.getF DeckBootStatus.stage = 11)) →
    exec (.escTimeoutExpiry q) s = .next s) ∧
  (∀ (t : Fin 6) (b : Bool) (s : State) (v : State),
    (v = (if t.val = 0 then { s with haltA := b } else if t.val = 1 then { s with haltB := b } else if t.val = 3 ∧ b = true then { s with pcie := { s.pcie with linkUp := false } } else s)) →
    exec (.targetSleepChange t b) s = .next (v.evqTargetSlept t)) ∧
  (∀ (v : Fin 64) (s : State),
    exec (.msixVectorUnmask v) s = .next (s.msixSet v (setBit (s.msixEntry v) 96 false)))

/-- Flush groups, logs, host rings and poll slots take the effects of R477 to R489. Once transmit descriptors that are due
are written back, the open flush group of a class closes, 1 us after its first write unless a ring's pointer waits on
it; the oldest issued one ends with its read's completion or 10 ms after it was issued; a write of the read index of the
two logs, of a host pointer, of a SEEN pointer or of a ring's control acts on them; F[22] delivers one frame of the
receive-ring queue that its selection names among those that it may serve; the next transmit ring's descriptor is
fetched and served; a poll slot that is due is armed for its next period and reads, or counts a skipped read while one
is outstanding; and a completed read keeps its value, or raises the slot's event with all ones where it failed. With no
group, ring, frame or read that waits nothing more happens. -/
def Obligations.TrestleCommandsComplete : Prop :=
  (∀ (w : Word) (s : State),
    exec (.iwlRdWrite w) s = .next (s.hosted (s.logRead IwlWr.off IwlRd.off 32 0x800 w.toNat))) ∧
  (∀ (w : Word) (s : State),
    exec (.pdlRdWrite w) s = .next (s.hosted (s.logRead PdlWr.off PdlRd.off 16 0x801 w.toNat))) ∧
  (∀ (c : Fin 5) (s v : State) (g : FlushGroup),
    (v = s.txBacks ∧ v.store.groups.find? (fun g => g.cls == c.val && g.issued.isNone) = some g) →
    exec (.flushGroupClose c) s = .next (State.flushIssue (if g.rings = [] then v.timeTo (strandPlus g.openedAt (usC 1)) else v) c)) ∧
  (∀ (c : Fin 5) (s v : State),
    (v = s.txBacks ∧ v.store.groups.find? (fun g => g.cls == c.val && g.issued.isNone) = none) →
    exec (.flushGroupClose c) s = .next v) ∧
  (∀ (c : Fin 5) (b : Bool) (s : State) (g : FlushGroup),
    s.flushOldest c = some g →
    exec (.flushReadCompletion c b) s = .next (s.flushEnd g b)) ∧
  (∀ (c : Fin 5) (s : State) (g : FlushGroup),
    s.flushOldest c = some g →
    exec (.flushTimeout c) s = .next ((s.timeTo (strandPlus (g.issued.getD 0) (msC 10))).flushEnd g true)) ∧
  (∀ (c : Fin 5) (b : Bool) (s : State),
    s.flushOldest c = none →
    exec (.flushReadCompletion c b) s = .next s ∧ exec (.flushTimeout c) s = .next s) ∧
  (∀ (r : Fin 64) (w : Word) (s : State),
    exec (.hrHostPtrWrite r w) s = .next (s.hosted (s.hrMoveHost r w.toNat))) ∧
  (∀ (r : Fin 64) (w : Word) (s : State),
    exec (.hrSeenWrite r w) s = .next (s.hosted (s.hrMoveSeen r w.toNat))) ∧
  (∀ (r : Fin 64) (w : Word) (s : State),
    exec (.hrCtrlWrite r w) s = .next (s.hosted (s.hrControl r w.toNat))) ∧
  (∀ (u : Fin 7) (s v w : State) (q : Option Nat),
    (v = s.creditSync 22 ∧ (q, w) = v.hostSelect) →
    exec (.hostRxDeliver u) s = .next (match q with | none => w | some k => w.hrDeliver k u)) ∧
  (∀ (b : Bool) (s v : State) (t : Nat),
    (v = s.txBacks ∧ v.txRing = some t) →
    exec (.hostTxDescriptorFetch b) s = .next (v.txTake t b)) ∧
  (∀ (b : Bool) (s v : State),
    (v = s.txBacks ∧ v.txRing = none) →
    exec (.hostTxDescriptorFetch b) s = .next v) ∧
  (∀ (k : Fin 64) (s : State) (d : Nat) (v : State) (p : PollSt),
    ((s.poll k).due = some d ∧ v = s.timeTo d) →
    p = { s.poll k with due := some (strandPlus d (usC (plPeriod (v.par oDeck (0x9100 + k.val))))) } →
    exec (.pollDue k) s = .next (if p.busy then (v.setPoll k p).incTr 6 else v.setPoll k { p with busy := true })) ∧
  (∀ (k : Fin 64) (b : Bool) (w : Word) (s : State) (v : State) (e : Nat),
    ((s.poll k).busy = true ∧ v = s.setPoll k { s.poll k with busy := false }) →
    e = s.par oDeck (0x9100 + k.val) →
    exec (.pollReadComplete k b w) s = .next (if b then v.occur (0x840 + k) 0xFFFFFFFF else v.pollTaken k (if plSpace e == 0 then v.peek (plAddress e) else w.toNat))) ∧
  (∀ (k : Fin 64) (b : Bool) (w : Word) (s : State),
    ((s.poll k).due = none → exec (.pollDue k) s = .next s) ∧
    ((s.poll k).busy = false → exec (.pollReadComplete k b w) s = .next s))

/-- The watchdog, lockstep, the Causeway repeaters and VCC5 take the effects of R527 to R545. With the watchdog running, a
service with the token due and inside the window gives the next token and window and ends fault input 12, any other
resets; a service that the Hatpin link loses is a Hatpin failure; expiry resets; 75% of CLOSE raises input 12. A lockstep
mismatch raises its input, the Hatbox's locks the Hatbox. A repeater that is to take its pair takes it, its transceivers
in normal mode and its directions to calibrate anew; a correct classical frame on a bus of an active pair is taken, and
acknowledged unless the node that would send there is bus-off; an attempt of an aged head of the queue ends with its
outcome unless arbitration is lost; recovery ends bus-off with TEC 0. Without VCC5 the integrated transceivers stand by;
with it the pairs' transceivers follow their repeaters. Otherwise nothing changes. -/
def Obligations.CausewayCommandsComplete : Prop :=
  (∀ (b : Byte) (h : Bool) (s : State),
    s.brim.wdClose ≠ none →
    (b.toNat = s.getF WdtStatus.nextToken ∧ s.brim.wdOpen ≤ s.brim.hb) →
    exec (.watchdogService b h false) s = .next (State.faultFall ((s.setF WdtStatus.nextToken (Config.watchdogNext b.toNat % 256)).watchdogWindow false h) 12)) ∧
  (∀ (b : Byte) (h : Bool) (s : State),
    s.brim.wdClose ≠ none →
    (b.toNat ≠ s.getF WdtStatus.nextToken ∨ s.brim.hb < s.brim.wdOpen) →
    exec (.watchdogService b h false) s = .next s.watchdogReset) ∧
  (∀ (b : Byte) (h : Bool) (s : State),
    exec (.watchdogService b h true) s = .next s.hatpinDown ∧
    (s.brim.wdClose = none → exec (.watchdogService b h false) s = .next s)) ∧
  (∀ (s : State) (d : Nat),
    s.brim.wdClose = some d →
    exec .watchdogExpiry s = .next ((s.hbTo d).watchdogReset)) ∧
  (∀ (s : State) (d : Nat) (v : State),
    (s.brim.wdWarnAt = some d ∧ v = s.hbTo d) →
    exec .watchdogWarning s = .next (State.faultRise { v with brim := { v.brim with wdWarnAt := none } } 12)) ∧
  (∀ (s : State),
    (s.brim.wdClose = none → exec .watchdogExpiry s = .next s) ∧
    (s.brim.wdWarnAt = none → exec .watchdogWarning s = .next s)) ∧
  (∀ (p : Fin 3) (s : State),
    exec (.lockstepMismatch p) s = .next (if p.val = 2 then s.hbxLock else s.faultRise (9 + p))) ∧
  (∀ (p : Fin 4) (s : State) (r v : Repeater),
    (r = s.repeater p ∧ r.waitUntil ≠ none ∧ r.handedOver = false ∧ r.owns = false) →
    v = { r with owns := true, waitUntil := none, ab := { r.ab with calibrated := false }, ba := { r.ba with calibrated := false } } →
    exec (.causewayTakeover p) s = .next ((s.setRepeater p v).cwXcvrs p).handoverStart) ∧
  (∀ (p : Fin 4) (s : State) (r : Repeater),
    (r = s.repeater p ∧ (r.waitUntil = none ∨ r.handedOver = true ∨ r.owns = true)) →
    exec (.causewayTakeover p) s = .next s) ∧
  (∀ (p : Fin 4) (b : Bool) (f : CanFrame) (s v : State),
    (s.cwActive p = true ∧ f.kind.val = 0 ∧ ((s.repeater p).dir (!b)).busOff = false) →
    v = s.cwTake p b f →
    exec (.causewayFrameReceive p b f) s = .next { v with out := .canAck (2 * p + b2n b) :: v.out }) ∧
  (∀ (p : Fin 4) (b : Bool) (f : CanFrame) (s : State),
    (s.cwActive p = false ∨ f.kind.val ≠ 0 ∨ ((s.repeater p).dir (!b)).busOff = true) →
    exec (.causewayFrameReceive p b f) s = .next s) ∧
  (∀ (p : Fin 4) (b : Bool) (o : Fin 4) (s : State) (v : State) (d : RepeatDir) (m : List Byte) (t : Nat) (l : List (List Byte × Nat)),
    (v = s.cwAged p b 4 ∧ d = (v.repeater p).dir b ∧ d.fifo = (m, t) :: l) →
    (v.cwActive p = true ∧ d.busOff = false ∧ d.calibrated = true) →
    exec (.causewayAttemptEnd p b o) s = .next (if o.val = 2 then v else v.cwEnded p b o m l)) ∧
  (∀ (p : Fin 4) (b : Bool) (o : Fin 4) (s : State) (v : State) (d : RepeatDir),
    (v = s.cwAged p b 4 ∧ d = (v.repeater p).dir b) →
    (d.fifo = [] ∨ v.cwActive p = false ∨ d.busOff = true ∨ d.calibrated = false) →
    exec (.causewayAttemptEnd p b o) s = .next v) ∧
  (∀ (p : Fin 4) (b : Bool) (s : State) (d : RepeatDir),
    d = (s.repeater p).dir b →
    exec (.causewayRecoveryDone p b) s = .next (if d.busOff then s.setRepeater p ((s.repeater p).setDir b { d with busOff := false, tec := 0 }) else s)) ∧
  (∀ (s : State) (v : State),
    v = { s with brim := { s.brim with vcc5 := false } } →
    exec .vcc5Loss s = .next ((List.range 16).foldl (fun s n => (s.setCan n { s.canLane n with xcvrPend := none, xcvrGoing := none }).setF (CanStatus.xcvrMode n) 2 |>.setF (CanStatus.monitor n) 0) v)) ∧
  (∀ (s : State) (v : State),
    v = { s with brim := { s.brim with vcc5 := true } } →
    exec .vcc5Restored s = .next ((List.range 4).foldl (fun s p => s.cwXcvrs p) v))

/-- Hatbox engines, entropy, storage and fault inputs take the effects of R411 to R530. An engine runs a quantum of the job that
its round grants, or fails it where its input is in error or its slot's policy denies it, erases a key slot that is in error and
refuses the job, or ends it where the flush that confirms its output fails; a failed entropy test and its retry, an expired
challenge and the invalidation of persistent copies act on the Hatbox; a copy of queue 184 that can be read is recorded while
recording runs; a full block closes; a completed NVMe command, at a Lane that is not gated, leaves the list and ends its client's
job; a storage link that goes down fails the attached device and aborts a detach in progress and every stop that waits; a health
poll stores what the device reports, is armed again after 10 s and raises 806 for a warning; fault inputs rise and fall, and an
injection ends at its time. With no job, time, command, copy or device that they act on, nothing changes. -/
def Obligations.HatboxStorageFaultCommandsComplete : Prop :=
  (∀ (e : Fin 7) (u : Fin 4) (s : State) (v : State) (j : HbxJob) (g : EngineSt) (w : State),
    (v = s.bulkDrainCheck ∧ v.grant e 6 (v.engine e) = some (j, g)) →
    w = (v.setEngine e g).incHbx (3 + j.cls) →
    exec (.bulkQuantum e u) s = .next (if u.val = 1 then w.failJob j 3
      else if u.val = 2 ∧ (w.slot j.slot).typ ≠ 0 then (w.eraseSlot j.slot).breakJob j stPolicyDenied
      else if w.jobDenied j then w.breakJob j stPolicyDenied
      else if u.val = 3 ∧ modeOut j.mode = true ∧ j.seg = false ∧ j.len ≤ j.done + 512 then (w.flushFailed (j.outAddr + j.len - 1)).breakJob j stBulkFailed
      else w.bulkRun e j)) ∧
  (∀ (e : Fin 7) (u : Fin 4) (s : State) (v : State),
    (v = s.bulkDrainCheck ∧ v.grant e 6 (v.engine e) = none) →
    exec (.bulkQuantum e u) s = .next v) ∧
  (∀ (s : State),
    exec .entropyFail s = .next s.entropyFail) ∧
  (∀ (b : Bool) (s : State) (d : Nat) (v : State),
    (s.hbx.retryAt = some d ∧ v = s.timeTo d) →
    exec (.entropyRetry b) s = .next (if b then v.entropyFail else v.drbgSeed)) ∧
  (∀ (s : State) (c : List Byte) (d : Nat) (v : State),
    (s.hbx.challenge = some (c, d) ∧ v = s.timeTo d) →
    exec .challengeExpiry s = .next { v with hbx := { v.hbx with challenge := none } }) ∧
  (∀ (b : Bool) (s : State) (c t k : Nat),
    (s.hbx.zeroising = some (c, t, k) ∧ k ≠ 0) →
    exec (.persistInvalidate b) s = .next ((s.invalidateCopies b).zeroiseEnd b)) ∧
  (∀ (b : Bool) (s : State),
    (s.hbx.zeroising = none ∨ ∃ c t, s.hbx.zeroising = some (c, t, 0)) →
    exec (.persistInvalidate b) s = .next s) ∧
  (∀ (k : Fin 64) (u : Fin 3) (l : List Byte) (s : State) (c : NvmeCmd),
    (s.store.laneGated = false ∧ s.store.nvme[k.val]? = some c) →
    exec (.nvmeCommandComplete k u l) s = .next (State.nvmeDone { s with store := { s.store with nvme := s.store.nvme.erase c } } c u.val l)) ∧
  (∀ (s : State),
    (s.store.state ≠ ssDetached ∧ s.absentVariant = false) →
    exec .storageLinkDown s = .next ((s.storeAbort.storeLinkOff).setStore ssFailed)) ∧
  (∀ (s : State) (c : Nat × Nat) (l : List (Nat × Nat)),
    s.store.stopping = c :: l →
    s.endStops stAborted = (c :: l).foldl (fun v x => v.finishTicket x.1 x.2 stAborted []) { s with store := { s.store with stopping := [] } }) ∧
  (∀ (s : State),
    (s.store.state = ssDetached ∨ s.absentVariant = true) →
    exec .storageLinkDown s = .next s) ∧
  (∀ (a : Byte) (b : Byte) (t : BitVec 16) (m : BitVec 64) (s : State) (d : Nat) (v w : State),
    (s.store.healthAt = some d ∧ v = s.timeTo d) →
    w = { v with store := { v.store with critWarn := a.toNat, pctUsed := b.toNat, temp := t.toNat, mediaErrors := m.toNat, healthAt := some (strandPlus d (secC 10)) } } →
    exec (.healthLogPoll a b t m) s = .next (if a.toNat ≠ 0 then w.occur 0x806 else w)) ∧
  (∀ (k : Fin 64) (u : Fin 3) (l : List Byte) (a b : Byte) (t : BitVec 16) (m : BitVec 64) (f : Bool) (s : State),
    (s.hbx.retryAt = none → exec (.entropyRetry f) s = .next s) ∧
    (s.hbx.challenge = none → exec .challengeExpiry s = .next s) ∧
    (s.store.laneGated = true ∨ s.store.nvme[k.val]? = none → exec (.nvmeCommandComplete k u l) s = .next s) ∧
    (s.store.healthAt = none → exec (.healthLogPoll a b t m) s = .next s)) ∧
  (∀ (u : Fin 7) (s : State) (x : Option (Desc × List Byte)) (v : State),
    s.takeRead 184 u = some (x, v) →
    exec (.recorderCopyConsume u) s = .next (match x with | some (d, b) => if v.store.recording then v.recTake d b else v | none => v)) ∧
  (∀ (u : Fin 7) (s : State),
    s.takeRead 184 u = none →
    exec (.recorderCopyConsume u) s = .next s) ∧
  (∀ (s : State),
    exec .recorderBlockClose s = .next (if s.store.recording = true ∧ 4064 ≤ s.store.recBytes.length then s.blockClose else s)) ∧
  (∀ (n : Fin 512) (w : Word) (s : State),
    exec (.faultInputRise n w) s = .next (s.faultRise n w.toNat)) ∧
  (∀ (n : Fin 512) (s : State),
    exec (.faultInputFall n) s = .next (s.faultFall n)) ∧
  (∀ (n : Fin 512) (s : State) (d : Nat),
    tabFind s.fcu.injected n = some d →
    exec (.faultInjectEnd n) s = .next ((s.timeTo d).faultFall n)) ∧
  (∀ (n : Fin 512) (s : State),
    tabFind s.fcu.injected n = none →
    exec (.faultInjectEnd n) s = .next s)


/-- A step runs the command at the front of the queue, with the queue's rest. On an empty queue the block idles: that clause is the
model's choice (DESIGN CHOICE, log entry 4), no rule of the spec. -/
def Obligations.StepRunsTheFrontCommand : Prop :=
  (∀ (c : Instr) (l : List Instr) (s : State), step { s with pending := c :: l } = exec c { s with pending := l }) ∧
  (∀ (s : State), s.pending = [] → step s = .next s)

/-- Every command takes effect in every state, and none touches the queue of the commands that wait, takes back a draw of free
values, or changes which variant the device is. -/
def Obligations.EveryCommandTakesEffectBesideTheQueue : Prop :=
  ∀ (c : Instr) (s : State), ∃ t, exec c s = .next t ∧ t.pending = s.pending ∧ s.freeCount ≤ t.freeCount ∧
    t.absentVariant = s.absentVariant

/-- After reset the mailboxes, the boot status, the reset cause, the epoch and the tables are as R47, R54, R70, R93 and R97 say: MB[0]
to MB[3] are IDLE, assigned and of weight 4, the others DISABLED with transport none; LAST_POSTED and LAST_ANSWERED are 0xFFFF and no
mailbox shows an error; STAGE is 1, VBAT_POR alone is set of the causes; no draft, no ticket, no committed value, epoch 0; the Strand
counter is 0. -/
def Obligations.ResetLeavesMailboxesAndTables : Prop :=
  (∀ n, n < 4 → State.reset.getF (MbStatus.state n) = mbIdle ∧ State.reset.getF (MbOwner.assigned n) = 1 ∧
    State.reset.getF (MbOwner.client n) = 0 ∧ State.reset.getF (MbOwner.weight n) = 4) ∧
  (∀ n, 4 ≤ n → n < 16 → State.reset.getF (MbStatus.state n) = mbDisabled ∧ State.reset.getF (MbOwner.assigned n) = 0 ∧
    State.reset.getF (MbOwner.transport n) = 3) ∧
  (∀ n, n < 16 → State.reset.getF (MbSeq.lastPosted n) = 0xFFFF ∧ State.reset.getF (MbSeq.lastAnswered n) = 0xFFFF ∧
    State.reset.getF (MbStatus.protoErr n) = 0 ∧ State.reset.getF (MbStatus.cancelled n) = 0 ∧
    State.reset.getF (MbStatus.tickets n) = 0) ∧
  State.reset.getF DeckBootStatus.stage = 1 ∧
  (∀ f ∈ resetCauses, State.reset.getF f = if f = DeckResetCause.vbatPor then 1 else 0) ∧
  State.reset.cfg = [] ∧ State.reset.gci.drafts = [] ∧ State.reset.gci.tickets = [] ∧ State.reset.gci.epoch = 0 ∧
  State.reset.strand = 0

/-- The state after reset is canonical, and its counters are in range: what the two invariants below need to begin with. -/
def Obligations.ResetIsCanonical : Prop :=
  State.reset.canonical = true ∧ State.reset.countersInRange = true

/-- Every step keeps the memories of BAR0 and BAR2, the host's memory, the flash, the segment buffers, the firmware banks and the
registers in canonical form, from every state that has it. -/
def Obligations.EveryStepKeepsCanonicalForm : Prop :=
  ∀ (s t : State), s.canonical = true → step s = .next t → t.canonical = true

/-- Every step keeps every statistics counter below 2^64 (they saturate) and the Strand counter below 2^48 (it wraps), from every state
in which they are. -/
def Obligations.EveryStepKeepsCountersInRange : Prop :=
  ∀ (s t : State), s.countersInRange = true → step s = .next t → t.countersInRange = true

/-- The fuses change only when the ticket of SEC.LIFECYCLE_ADVANCE completes, and no command takes a revocation back: whatever the
command, a root key that is revoked stays revoked, and the anti-rollback counters and other fused values stay. -/
def Obligations.FusesChangeOnlyAtALifecycleAdvance : Prop :=
  (∀ (i : Instr) (s t : State), exec i s = .next t → t.fuses ≠ s.fuses →
    ∃ (cl : Fin 8) (n : Word) (x : Ext) (k : Ticket), i = .ticketComplete cl n x ∧ s.ticket cl.val n.toNat = some k ∧
      k.cmd = 0x0C17 ∧ k.result = none) ∧
  (∀ (i : Instr) (s t : State) (k : Nat), exec i s = .next t → bitOf s.fuses.revoked k = true → bitOf t.fuses.revoked k = true) ∧
  (∀ (i : Instr) (s t : State), exec i s = .next t → t.fuses.rollback = s.fuses.rollback ∧ t.fuses.other = s.fuses.other)

/-- A request that one of the checks 1 to 10 of R92 refuses is answered with what the first failing check says, whichever of the
116 commands it is, and changes no state but its mailbox, what remembers it for a resend (R76), the idle time of the draft it names
(log entry 44), and what announces or carries the response: committed configuration, memories, fuses, Brim die, tables, queues,
engines, drafts' contents and tickets stay. -/
def Obligations.FirstFailingCheckIsAnswered : Prop :=
  ∀ (i : Instr) (cmd : Nat) (q : Req) (s : State) (r : Resp),
    gciOf i = some (cmd, q) →
    s.comes cmd q = true →
    (s.taken cmd q).precheck cmd q = some r →
    ∃ t, exec i s = .next t ∧
      t = (((s.taken cmd q).draftUse cmd q).noteRetry cmd q r).mbRespond q.mb.val cmd q.seq.toNat r ∧
      t.cfg = s.cfg ∧ t.oldCfg = s.oldCfg ∧ t.strand = s.strand ∧ t.bar2 = s.bar2 ∧ t.host = s.host ∧ t.flash = s.flash ∧
      t.fuses = s.fuses ∧ t.brim = s.brim ∧ t.fcu = s.fcu ∧ t.fw = s.fw ∧ t.buf = s.buf ∧ t.fwd = s.fwd ∧ t.egr = s.egr ∧
      t.time = s.time ∧ t.store = s.store ∧ t.sge = s.sge ∧ t.can = s.can ∧ t.lin = s.lin ∧ t.spans = s.spans ∧
      t.hbx.slots = s.hbx.slots ∧ t.gci.tickets = s.gci.tickets ∧ t.gci.epoch = s.gci.epoch ∧ t.gci.seg = s.gci.seg ∧
      t.gci.drafts.map (fun d => (d.handle, d.client, d.changes)) = s.gci.drafts.map (fun d => (d.handle, d.client, d.changes))

/-- R61: past check 1 of R92, a request with a non-zero reserved field or flag, a PAYLOAD_LEN above 1,008, BULK with PAYLOAD_LEN other
than 16, BULK through SPI, or a TARGET_DECK above 3 is answered BAD_HEADER and executes nothing, whichever command it is: the state is
the one in which the request is taken and that answer written. With a good header, an unknown class or verb, unless it is sent again
before the time of a BUSY_RETRY is up (R76), is answered UNKNOWN_COMMAND, and nothing else happens either. -/
def Obligations.BadHeaderIsAnsweredAndNothingRuns : Prop :=
  (∀ (i : Instr) (cmd : Nat) (q : Req) (s : State),
    gciOf i = some (cmd, q) →
    s.comes cmd q = true →
    (s.getF DeckBootStatus.stage ≠ 11 ∧ (s.gci.resetRunning = false ∨ servedInReset cmd = true)) →
    s.headerRefused q →
    exec i s = .next ((s.taken cmd q).reply cmd q stBadHeader)) ∧
  (∀ (i : Instr) (cmd : Nat) (q : Req) (s : State),
    gciOf i = some (cmd, q) →
    s.comes cmd q = true →
    (s.getF DeckBootStatus.stage ≠ 11 ∧ (s.gci.resetRunning = false ∨ servedInReset cmd = true)) →
    (¬ s.headerRefused q ∧ (s.taken cmd q).retryLeft cmd q = none) →
    cmdRow cmd = none →
    exec i s = .next ((s.taken cmd q).reply cmd q stUnknownCommand))

/-- A configuration command takes effect only at commit, and a query never (R90): whatever the state and the request, a command of kind
C or Q leaves the committed configuration, the epoch, fuses, flash, CAN message memory, the Brim's non-volatile memory and the key
slots as they were, and a query leaves every draft as well. -/
def Obligations.QueriesAndConfigurationCommandsLeaveWhatIsCommitted : Prop :=
  ∀ (i : Instr) (cmd : Nat) (q : Req) (r : CmdRow) (s : State),
    gciOf i = some (cmd, q) →
    cmdRow cmd = some r →
    r.kind ≠ .o →
    ∃ t, exec i s = .next t ∧ t.cfg = s.cfg ∧ t.oldCfg = s.oldCfg ∧ t.gci.epoch = s.gci.epoch ∧ t.fuses = s.fuses ∧
      t.flash = s.flash ∧ t.bar2 = s.bar2 ∧ t.brim.nvm = s.brim.nvm ∧ t.hbx.slots = s.hbx.slots ∧
      (r.kind = .q → t.gci.drafts = s.gci.drafts)

/-- R56: through the mailbox's own transport, a doorbell in any state but IDLE, with RING other than 0x5A5A, or with SEQ equal to
LAST_POSTED, and a CANCEL outside POSTED, sets PROTO_ERR and leaves the rest of the mailbox and of the device unchanged. A
doorbell repeated after it was accepted posts nothing: STATE stays POSTED, no arrival is noted, and LAST_POSTED shows the SEQ that
arrived. A doorbell written through BAR0 is the same doorbell, and none is taken while the Core island is not accessible: in
Listening by R363, and in Parked, whose Crown die R363 gives as supplies off, by the model's reading of log entry 76. -/
def Obligations.RefusedDoorbellChangesNothingElse : Prop :=
  (∀ (n : Fin 16) (b : Bool) (w : Word) (s : State),
    (s.coreOn = true ∧ s.mbReached n (b2n b) = true) →
    (s.getF (MbStatus.state n) ≠ mbIdle ∨ bitsOf w.toNat 31 16 ≠ 0x5A5A ∨ bitsOf w.toNat 15 0 = s.getF (MbSeq.lastPosted n)) →
    ∃ t, exec (.mbDoorbell n b w) s = .next t ∧ t.getF (MbStatus.protoErr n) = 1 ∧
      (∀ f ∈ [MbStatus.state n, MbStatus.cancelled n, MbStatus.tickets n], t.getF f = s.getF f) ∧
      (∀ a, a ≠ MbStatus.off n → t.reg a = s.reg a) ∧ { t with regs := s.regs } = s) ∧
  (∀ (n : Fin 16) (b : Bool) (s : State),
    (s.coreOn = true ∧ s.mbReached n (b2n b) = true) →
    s.getF (MbStatus.state n) ≠ mbPosted →
    ∃ t, exec (.mbCancel n b) s = .next t ∧ t.getF (MbStatus.protoErr n) = 1 ∧
      (∀ f ∈ [MbStatus.state n, MbStatus.cancelled n, MbStatus.tickets n], t.getF f = s.getF f) ∧
      (∀ a, a ≠ MbStatus.off n → t.reg a = s.reg a) ∧ { t with regs := s.regs } = s) ∧
  (∀ (n : Fin 16) (b : Bool) (w : Word) (s : State),
    (s.coreOn = true ∧ s.mbReached n (b2n b) = true) →
    (s.getF (MbStatus.state n) = mbIdle ∧ bitsOf w.toNat 31 16 = 0x5A5A ∧ bitsOf w.toNat 15 0 ≠ s.getF (MbSeq.lastPosted n)) →
    ∃ t u, exec (.mbDoorbell n b w) s = .next t ∧ exec (.mbDoorbell n b w) t = .next u ∧
      u.getF (MbStatus.state n) = mbPosted ∧ u.getF (MbStatus.protoErr n) = 1 ∧
      u.getF (MbSeq.lastPosted n) = bitsOf w.toNat 15 0 ∧ u.gci = t.gci ∧ u.bar0 = t.bar0) ∧
  (∀ (n : Fin 16) (req : BitVec 16) (w : Word) (s : State),
    exec (.registerWrite false (BitVec.ofNat 24 (mbBase n + 8)) 4 req w 0) s = exec (.mbDoorbell n false w) s) ∧
  (∀ (n : Fin 16) (b : Bool) (w : Word) (s : State),
    s.coreOn = false →
    exec (.mbDoorbell n b w) s = .next s ∧ exec (.mbCancel n b) s = .next s)

/-- R338: STRAND_LO and STRAND_HI read the counter. A read of STRAND_LO returns its low word and latches its high word, which
STRAND_HI then returns, however much time passes between; with nothing latched STRAND_HI returns the live high word, and its read
uses the latch up. While the Core island is not accessible, in Listening by R363 and in Parked by the model's reading (log entry
76), neither read does anything. -/
def Obligations.StrandReadsFormOneValue : Prop :=
  (∀ (s : State), s.coreOn = true → ∃ t, exec .strandLoRead s = .next t ∧ t.out = .readData StrandLo.off (s.strand % 2 ^ 32) :: s.out ∧
    t.strand = s.strand ∧ (∀ n, (t.pass n).peek StrandHi.off = s.strand / 2 ^ 32)) ∧
  (∀ (s : State), s.peek StrandLo.off = s.strand % 2 ^ 32 ∧
    (tabFind s.ctrLatch StrandHi.off = none → s.peek StrandHi.off = s.strand / 2 ^ 32)) ∧
  (∀ (s : State), s.coreOn = true → ∃ t, exec (.counterLowRead 0 (BitVec.ofNat 26 StrandHi.off) 4) s = .next t ∧
    t.out = .readData StrandHi.off (s.peek StrandHi.off) :: s.out ∧ t.strand = s.strand ∧
    t.peek StrandHi.off = s.strand / 2 ^ 32) ∧
  (∀ (s : State), s.coreOn = false →
    exec .strandLoRead s = .next s ∧ exec (.counterLowRead 0 (BitVec.ofNat 26 StrandHi.off) 4) s = .next s)

/-- R154: a read of a counter's low word returns it and latches the high word; the next read of the high word returns what was
latched, whatever the counters have become, and then reads live again; in Listening and Parked, where the Core island is not
accessible (R363; for Parked log entry 76), a read does nothing. ETH.STATS answers all 32 counters of a port as they stand when it
is served. -/
def Obligations.CounterReadsFormOneValue : Prop :=
  (∀ (o h : BitVec 26) (s : State) (k : Nat),
    (s.coreOn = true ∧ o.toNat % 4 = 0 ∧ o.toNat < 0xFFFFFC ∧ (s.absentVariant = true → absentBlock o.toNat = false)) →
    (ctrAt o.toNat = some (k, false) ∧ h.toNat = o.toNat + 4) →
    ∃ t, exec (.counterLowRead 0 o 4) s = .next t ∧ t.out = .readData o.toNat (tabGet ctrDefault s.ctrs k % 2 ^ 32) :: s.out ∧
      (∀ (c : Tab Nat), ∃ u, exec (.counterLowRead 0 h 4) { t with ctrs := c } = .next u ∧
        u.out = .readData h.toNat (tabGet ctrDefault s.ctrs k / 2 ^ 32) :: t.out ∧
        u.peek h.toNat = tabGet ctrDefault c k / 2 ^ 32)) ∧
  (∀ (o : BitVec 26) (s : State), s.coreOn = false → exec (.counterLowRead 0 o 4) s = .next s) ∧
  (∀ (s : State) (a k : Nat),
    (a % 4 = 0 ∧ a < 0x1000000 ∧ (s.absentVariant = true → absentBlock a = false)) →
    (ctrAt a = some (k, true) ∧ tabFind s.ctrLatch a = none) →
    s.peek a = tabGet ctrDefault s.ctrs k / 2 ^ 32) ∧
  (∀ (q : Req) (s : State),
    s.accepts 0x0404 q = true →
    (orefOf (s.ctx 0x0404 q).payload).typ = 0x04 →
    exec (.verbStats 4 q) s = .next (State.reply (s.served 0x0404 q) 0x0404 q stDone
      ((List.range 32).flatMap (fun i => leBytes 8 ((s.served 0x0404 q).ctr (orefOf (s.ctx 0x0404 q).payload).key cEth i)))))

/-- A reset of the Crown die in full records its cause beside those that stood and beside the watchdog's or the FULL reset's where
those end in the same Hatband cycle of 25 ns (R33), resets what the Crown die holds, and keeps what the
Brim die, the fuses, the flash and the host hold (R15, R31, R33): RESET_N while VCC5 is in tolerance, a supply fault in Running but on the way
to Parked, where it is none (R368), the watchdog's expiry, and the
end of the wait for ACK of DECK.RESET with scope FULL. -/
def Obligations.CrownResetsKeepTheBrimDie : Prop :=
  (∀ (s : State),
    (s.brim.power ≠ pwOff ∧ s.brim.power ≠ pwParked ∧ s.brim.power ≠ pwDegraded ∧ s.brim.vcc5 = true) →
    ∃ t, exec .boardReset s = .next t ∧ CrownResetLeaves s t DeckResetCause.boardPin) ∧
  (∀ (s : State),
    (s.brim.power = pwRunning ∧ s.brim.entering ≠ some pwParked ∧
      (s.brim.supplyRetries.filter (fun t => s.brim.hb < t + secC 10)).length < 3) →
    ∃ t, exec .crownSupplyFault s = .next t ∧ CrownResetLeaves s t DeckResetCause.crownSupply) ∧
  (∀ (s v : State) (d : Nat),
    (s.brim.wdClose = some d ∧ v = s.hbTo d) →
    ∃ t, exec .watchdogExpiry s = .next t ∧ CrownResetLeaves v t DeckResetCause.watchdog) ∧
  (∀ (s v : State) (m d : Nat),
    (s.gci.fullReset = some (m, d) ∧ v = s.timeTo d) →
    ∃ t, exec .deckResetAckTimeout s = .next t ∧ CrownResetLeaves v t DeckResetCause.command)

/-- An ageing visit clears HIT of every learnt entry that has it and removes every other; static entries never age, and nothing else
changes (R227). With PERIOD 0 ageing is off. -/
def Obligations.AgeingClearsHitOrRemoves : Prop :=
  (∀ (s : State),
    tabWf ctrDefault s.fwd.learnt = true →
    (s.fwRunning = true ∧ s.par oDeck pidAgeing ≠ 0) →
    ∃ t, exec .ageingVisit s = .next t ∧
      (∀ i, tabGet ctrDefault t.fwd.learnt i =
        if fdbHit (tabGet ctrDefault s.fwd.learnt i) then setBit (tabGet ctrDefault s.fwd.learnt i) 62 false else 0) ∧
      (∀ i, s.par (oFdb i) (pidRaw 0) ≠ 0 → t.fdbEntry i = s.fdbEntry i) ∧
      { t with fwd := { t.fwd with learnt := s.fwd.learnt } } = s) ∧
  (∀ (s : State), s.par oDeck pidAgeing = 0 → exec .ageingVisit s = .next s)

/-- A host write to BAR2 that its target answers with success stores exactly its bytes that fall in a writable area; every other
byte of BAR2 reads as before, and nothing else changes unless a byte falls in a read-only area, which is entered once in the
inbound write error log (R28, R29). In Listening and Parked a write stores nothing (R363; for Parked log entry 76). -/
def Obligations.Bar2WritesStoreOnlyWritableBytes : Prop :=
  (∀ (o : BitVec 26) (r : BitVec 16) (l : List Byte) (s : State), s.coreOn = true → ∃ t m,
    exec (.bar2Write o r l 0) s = .next t ∧ t.bar2 = m ∧
    (∀ a, memRead m a = if o.toNat ≤ a ∧ a < o.toNat + l.length ∧ bar2Kind a = 2 then l.getD (a - o.toNat) 0 else memRead s.bar2 a) ∧
    ((∀ a, o.toNat ≤ a → a < o.toNat + l.length → bar2Kind a ≠ 1) → t = { s with bar2 := m }) ∧
    ((∃ a, o.toNat ≤ a ∧ a < o.toNat + l.length ∧ bar2Kind a = 1) →
      t = State.iwl { s with bar2 := m } iwReadOnly 2 o.toNat r.toNat l.length)) ∧
  (∀ (o : BitVec 26) (r : BitVec 16) (l : List Byte) (f : Fin 3) (s : State), s.coreOn = false → exec (.bar2Write o r l f) s = .next s)
end

