-- ==== Sys2Proof/Laws/Bits.lean ====
section
/-! SUPPORT. What the bit-field and byte-order helpers do: reading back a field just set, other fields, byte strings. -/

namespace Sys2Proof.Machine

/-- A number with a field replaced, in parts: below the field, the field, above it. -/
theorem setBits_eq (x hi lo v : Nat) : setBits x hi lo v =
    x % 2 ^ lo + 2 ^ lo * (v % 2 ^ (hi + 1 - lo) + 2 ^ (hi + 1 - lo) * (x / 2 ^ lo / 2 ^ (hi + 1 - lo))) := by
  have h1 := Nat.div_add_mod x (2 ^ lo)
  have h2 := Nat.div_add_mod (x / 2 ^ lo) (2 ^ (hi + 1 - lo))
  unfold setBits bitsOf
  generalize 2 ^ lo = A at *
  generalize 2 ^ (hi + 1 - lo) = W at *
  generalize x / A / W = q at *
  generalize hm : x / A % W = m at *
  have hx : x = x % A + A * m + A * (W * q) := by
    rw [← h2] at h1
    nlinarith
  have : x - m * A = x % A + A * (W * q) := by
    have : A * m = m * A := Nat.mul_comm _ _
    omega
  rw [this]
  ring

/-- A field just set reads as what was put into it. -/
@[simp] theorem bitsOf_setBits_same (x hi lo v : Nat) : bitsOf (setBits x hi lo v) hi lo = v % 2 ^ (hi + 1 - lo) := by
  rw [setBits_eq]
  unfold bitsOf
  have hA : 0 < 2 ^ lo := by positivity
  rw [Nat.add_mul_div_left _ _ hA, Nat.div_eq_of_lt (Nat.mod_lt _ hA), Nat.zero_add, Nat.add_mul_mod_self_left,
    Nat.mod_mod]

/-- A field above the one set is as it was. -/
theorem bitsOf_setBits_above (x hi lo v hi' lo' : Nat) (h : lo ≤ hi) (h' : hi < lo') :
    bitsOf (setBits x hi lo v) hi' lo' = bitsOf x hi' lo' := by
  rw [setBits_eq]
  unfold bitsOf
  congr 1
  have hs : 2 ^ lo' = 2 ^ lo * 2 ^ (hi + 1 - lo) * 2 ^ (lo' - (hi + 1)) := by
    rw [← pow_add, ← pow_add]
    congr 1
    omega
  have hA : 0 < 2 ^ lo := by positivity
  have hW : 0 < 2 ^ (hi + 1 - lo) := by positivity
  rw [hs, ← Nat.div_div_eq_div_mul, ← Nat.div_div_eq_div_mul, ← Nat.div_div_eq_div_mul, ← Nat.div_div_eq_div_mul,
    Nat.add_mul_div_left _ _ hA, Nat.div_eq_of_lt (Nat.mod_lt _ hA), Nat.zero_add, Nat.add_mul_div_left _ _ hW,
    Nat.div_eq_of_lt (Nat.mod_lt _ hW), Nat.zero_add]

/-- A field below the one set is as it was. -/
theorem bitsOf_setBits_below (x hi lo v hi' lo' : Nat) (h : lo' ≤ hi') (h' : hi' < lo) :
    bitsOf (setBits x hi lo v) hi' lo' = bitsOf x hi' lo' := by
  rw [setBits_eq]
  generalize v % 2 ^ (hi + 1 - lo) + 2 ^ (hi + 1 - lo) * (x / 2 ^ lo / 2 ^ (hi + 1 - lo)) = k
  have hs : 2 ^ lo = 2 ^ lo' * (2 ^ (hi' + 1 - lo') * 2 ^ (lo - (hi' + 1))) := by
    rw [← pow_add, ← pow_add]
    congr 1
    omega
  unfold bitsOf
  have key : ∀ y j : Nat, y % 2 ^ lo = j % 2 ^ lo → y / 2 ^ lo' % 2 ^ (hi' + 1 - lo') = j / 2 ^ lo' % 2 ^ (hi' + 1 - lo') := by
    intro y j hy
    have e : ∀ z : Nat, z / 2 ^ lo' % 2 ^ (hi' + 1 - lo') = z % 2 ^ lo / 2 ^ lo' % 2 ^ (hi' + 1 - lo') := by
      intro z
      rw [hs, Nat.mod_mul_right_div_self, Nat.mod_mul_right_mod]
    rw [e y, e j, hy]
  apply key
  rw [Nat.add_mul_mod_self_left, Nat.mod_mod]

theorem bitsOf_lt (x hi lo : Nat) : bitsOf x hi lo < 2 ^ (hi + 1 - lo) := Nat.mod_lt _ (by positivity)

/-- Setting a field inside the low `n` bits keeps a number of `n` bits. -/
theorem setBits_lt (x hi lo v n : Nat) (h : lo ≤ hi) (hn : hi < n) (hx : x < 2 ^ n) : setBits x hi lo v < 2 ^ n := by
  rw [setBits_eq]
  have hA : 0 < 2 ^ lo := by positivity
  have hW : 0 < 2 ^ (hi + 1 - lo) := by positivity
  have hs : 2 ^ n = 2 ^ lo * (2 ^ (hi + 1 - lo) * 2 ^ (n - (hi + 1))) := by
    rw [← pow_add, ← pow_add]
    congr 1
    omega
  have h1 : x / 2 ^ lo / 2 ^ (hi + 1 - lo) < 2 ^ (n - (hi + 1)) := by
    rw [Nat.div_div_eq_div_mul, Nat.div_lt_iff_lt_mul (by positivity)]
    rw [hs] at hx
    nlinarith
  have h2 := Nat.mod_lt x hA
  have h3 := Nat.mod_lt v hW
  rw [hs]
  generalize 2 ^ lo = A at *
  generalize 2 ^ (hi + 1 - lo) = W at *
  generalize 2 ^ (n - (hi + 1)) = Q at *
  generalize x / A / W = q at *
  generalize x % A = r at *
  generalize v % W = m at *
  have : W * (q + 1) ≤ W * Q := Nat.mul_le_mul_left _ h1
  have h4 : m + W * q + 1 ≤ W * Q := by nlinarith
  have : A * (m + W * q + 1) ≤ A * (W * Q) := Nat.mul_le_mul_left _ h4
  nlinarith

/-! ### Little-endian bytes -/

@[simp] theorem leBytes_length : ∀ (n x : Nat), (leBytes n x).length = n
  | 0, _ => rfl
  | n + 1, x => by simp [leBytes, leBytes_length n]

/-- The value of `n` bytes of a number is the number modulo 256^n. -/
@[simp] theorem leVal_leBytes : ∀ (n x : Nat), leVal (leBytes n x) = x % 256 ^ n
  | 0, x => by simp [leBytes, leVal, Nat.mod_one]
  | n + 1, x => by
    simp only [leBytes, leVal, leVal_leBytes n, BitVec.toNat_ofNat]
    rw [show (256 : Nat) ^ (n + 1) = 256 * 256 ^ n by ring, Nat.mod_mul]

/-- The bytes of a byte list's value are the list. -/
theorem leBytes_leVal : ∀ (l : List Byte), leBytes l.length (leVal l) = l
  | [] => rfl
  | b :: l => by
    have hb : b.toNat < 256 := b.isLt
    simp only [List.length_cons, leBytes, leVal]
    have h1 : (b.toNat + 256 * leVal l) / 256 = leVal l := by omega
    rw [h1, leBytes_leVal l]
    congr 1
    apply BitVec.eq_of_toNat_eq
    simpa using hb

theorem leVal_lt : ∀ (l : List Byte), leVal l < 256 ^ l.length
  | [] => by simp [leVal]
  | b :: l => by
    have hb : b.toNat < 256 := b.isLt
    have := leVal_lt l
    simp only [List.length_cons, leVal, pow_succ]
    omega

/-! ### Fields of a payload -/

@[simp] theorem sliceB_length (l : List Byte) (o n : Nat) : (sliceB l o n).length = n := by
  simp [sliceB]

/-- A field behind a part of a payload. -/
theorem leAt_append (a l : List Byte) (o n : Nat) (h : a.length ≤ o) : leAt (a ++ l) o n = leAt l (o - a.length) n := by
  unfold leAt sliceB
  rw [List.drop_append, List.drop_eq_nil_of_le h, List.nil_append]

/-- A field of a payload that starts with it. -/
theorem leAt_leBytes (n x : Nat) (l : List Byte) : leAt (leBytes n x ++ l) 0 n = x % 256 ^ n := by
  unfold leAt sliceB
  have : (leBytes n x ++ l).take n = leBytes n x := List.take_left' (leBytes_length n x)
  simp [this]

theorem leAt_skip (m x : Nat) (l : List Byte) (o n : Nat) (h : m ≤ o) : leAt (leBytes m x ++ l) o n = leAt l (o - m) n := by
  rw [leAt_append _ _ _ _ (by simpa using h), leBytes_length]

end Sys2Proof.Machine
end

