-- ==== Sys2Proof/Laws/Tab.lean ====
section
/-! SUPPORT. What the sparse tables and the byte memory do: a read after a write, and the canonical form, which every
operation keeps. -/

namespace Sys2Proof.Machine

section
variable {α : Type}

@[simp] theorem tabFind_nil (k : Nat) : tabFind ([] : Tab α) k = none := rfl

theorem tabFind_tabInsert_same (t : Tab α) (k : Nat) (v : α) : tabFind (tabInsert t k v) k = some v := by
  induction t with
  | nil => simp [tabInsert, tabFind]
  | cons p t ih =>
    obtain ⟨j, w⟩ := p
    simp only [tabInsert]
    split
    · simp [tabFind]
    · split
      · simp [tabFind]
      · simp_all [tabFind]

theorem tabFind_tabInsert_ne (t : Tab α) {k j : Nat} (v : α) (h : j ≠ k) :
    tabFind (tabInsert t k v) j = tabFind t j := by
  induction t with
  | nil => simp [tabInsert, tabFind, h]
  | cons p t ih =>
    obtain ⟨i, w⟩ := p
    simp only [tabInsert]
    split
    · simp [tabFind, h]
    · split
      · rename_i hk
        simp [tabFind, h, ← hk]
      · simp [tabFind, ih]

theorem tabFind_tabErase_same (t : Tab α) (k : Nat) : tabFind (tabErase t k) k = none := by
  induction t with
  | nil => rfl
  | cons p t ih =>
    obtain ⟨j, w⟩ := p
    simp only [tabErase]
    split
    · exact ih
    · simp_all [tabFind]

theorem tabFind_tabErase_ne (t : Tab α) {k j : Nat} (h : j ≠ k) : tabFind (tabErase t k) j = tabFind t j := by
  induction t with
  | nil => rfl
  | cons p t ih =>
    obtain ⟨i, w⟩ := p
    simp only [tabErase]
    split
    · rename_i hk
      simp [tabFind, ← hk, h, ih]
    · simp [tabFind, ih]

variable [DecidableEq α]

/-- Reading the key just written gives the value written. -/
@[simp] theorem tabGet_tabSet_same (d : Nat → α) (t : Tab α) (k : Nat) (v : α) : tabGet d (tabSet d t k v) k = v := by
  unfold tabSet tabGet
  split
  · simp_all [tabFind_tabErase_same]
  · simp [tabFind_tabInsert_same]

/-- A write leaves every other key as it was. -/
theorem tabGet_tabSet_ne (d : Nat → α) (t : Tab α) {k j : Nat} (v : α) (h : j ≠ k) :
    tabGet d (tabSet d t k v) j = tabGet d t j := by
  unfold tabSet tabGet
  split
  · simp [tabFind_tabErase_ne t h]
  · simp [tabFind_tabInsert_ne t v h]

theorem tabGet_tabSet (d : Nat → α) (t : Tab α) (k j : Nat) (v : α) :
    tabGet d (tabSet d t k v) j = if j = k then v else tabGet d t j := by
  split
  · subst_vars; simp
  · exact tabGet_tabSet_ne d t v ‹_›

theorem tabWfFrom_mono (d : Nat → α) : ∀ (t : Tab α) {lo lo' : Nat}, lo' ≤ lo → tabWfFrom d lo t = true →
    tabWfFrom d lo' t = true
  | [], _, _, _, _ => rfl
  | (k, v) :: t, lo, lo', h, hw => by
    simp only [tabWfFrom, Bool.and_eq_true, decide_eq_true_eq] at hw ⊢
    exact ⟨⟨le_trans h hw.1.1, hw.1.2⟩, hw.2⟩

theorem tabWfFrom_tabErase (d : Nat → α) (k : Nat) : ∀ (t : Tab α) {lo : Nat}, tabWfFrom d lo t = true →
    tabWfFrom d lo (tabErase t k) = true
  | [], _, _ => rfl
  | (j, w) :: t, lo, hw => by
    simp only [tabWfFrom, Bool.and_eq_true, decide_eq_true_eq] at hw
    simp only [tabErase]
    split
    · exact tabWfFrom_mono d _ (by omega) (tabWfFrom_tabErase d k t hw.2)
    · simp only [tabWfFrom, Bool.and_eq_true, decide_eq_true_eq]
      exact ⟨hw.1, tabWfFrom_tabErase d k t hw.2⟩

theorem tabWfFrom_tabInsert (d : Nat → α) {k : Nat} {v : α} (hv : v ≠ d k) : ∀ (t : Tab α) {lo : Nat}, lo ≤ k →
    tabWfFrom d lo t = true → tabWfFrom d lo (tabInsert t k v) = true
  | [], lo, hk, _ => by simp [tabInsert, tabWfFrom, hk, hv]
  | (j, w) :: t, lo, hk, hw => by
    simp only [tabWfFrom, Bool.and_eq_true, decide_eq_true_eq] at hw
    simp only [tabInsert]
    split
    · simp only [tabWfFrom, Bool.and_eq_true, decide_eq_true_eq]
      exact ⟨⟨hk, hv⟩, ⟨by omega, hw.1.2⟩, hw.2⟩
    · split
      · rename_i h
        subst h
        simp only [tabWfFrom, Bool.and_eq_true, decide_eq_true_eq]
        exact ⟨⟨hk, hv⟩, hw.2⟩
      · simp only [tabWfFrom, Bool.and_eq_true, decide_eq_true_eq]
        exact ⟨hw.1, tabWfFrom_tabInsert d hv t (by omega) hw.2⟩

/-- A write keeps the canonical form. -/
theorem tabWf_tabSet (d : Nat → α) {t : Tab α} (k : Nat) (v : α) (h : tabWf d t = true) :
    tabWf d (tabSet d t k v) = true := by
  unfold tabSet
  split
  · exact tabWfFrom_tabErase d k t h
  · exact tabWfFrom_tabInsert d ‹_› t (Nat.zero_le k) h

/-- An erasure keeps the canonical form. -/
theorem tabWf_tabErase (d : Nat → α) {t : Tab α} (k : Nat) (h : tabWf d t = true) : tabWf d (tabErase t k) = true :=
  tabWfFrom_tabErase d k t h

@[simp] theorem tabWf_nil (d : Nat → α) : tabWf d ([] : Tab α) = true := rfl

end

/-! ### Memory -/

@[simp] theorem memRead_nil (a : Nat) : memRead [] a = 0 := rfl

@[simp] theorem memRead_memWrite_same (m : Memory) (a : Nat) (b : Byte) : memRead (memWrite m a b) a = b :=
  tabGet_tabSet_same _ _ _ _

theorem memRead_memWrite_ne (m : Memory) {a x : Nat} (b : Byte) (h : x ≠ a) :
    memRead (memWrite m a b) x = memRead m x := tabGet_tabSet_ne _ _ _ h

/-- A store of bytes from `a` on leaves every byte outside them as it was. -/
theorem memRead_memWrites_outside : ∀ (l : List Byte) (m : Memory) {a x : Nat}, (x < a ∨ a + l.length ≤ x) →
    memRead (memWrites m a l) x = memRead m x
  | [], _, _, _, _ => rfl
  | b :: bs, m, a, x, h => by
    simp only [List.length_cons] at h
    rw [memWrites, memRead_memWrites_outside bs _ (by omega), memRead_memWrite_ne _ _ (by omega)]

/-- A byte inside the bytes stored reads as stored. -/
theorem memRead_memWrites_inside : ∀ (l : List Byte) (m : Memory) (a i : Nat) (h : i < l.length),
    memRead (memWrites m a l) (a + i) = l[i]
  | b :: bs, m, a, 0, _ => by
    rw [memWrites, memRead_memWrites_outside bs _ (by omega)]
    simp
  | b :: bs, m, a, i + 1, h => by
    simp only [List.length_cons] at h
    have := memRead_memWrites_inside bs (memWrite m a b) (a + 1) i (by omega)
    rw [memWrites, show a + (i + 1) = a + 1 + i by omega, this]
    rfl

@[simp] theorem memReads_length : ∀ (n : Nat) (m : Memory) (a : Nat), (memReads m a n).length = n
  | 0, _, _ => rfl
  | n + 1, m, a => by simp [memReads, memReads_length n]

theorem memReads_getElem : ∀ (n : Nat) (m : Memory) (a i : Nat) (h : i < (memReads m a n).length),
    (memReads m a n)[i] = memRead m (a + i)
  | n + 1, m, a, 0, _ => by simp [memReads]
  | n + 1, m, a, i + 1, h => by
    have h' : i < (memReads m (a + 1) n).length := by simp at h ⊢; omega
    have := memReads_getElem n m (a + 1) i h'
    simp only [memReads, List.getElem_cons_succ]
    rw [this]
    congr 1
    omega

/-- Reading back the bytes just stored gives them. -/
theorem memReads_memWrites (l : List Byte) (m : Memory) (a : Nat) : memReads (memWrites m a l) a l.length = l := by
  apply List.ext_getElem
  · simp
  · intro i h1 h2
    rw [memReads_getElem, memRead_memWrites_inside l m a i h2]

theorem memReads_outside (l : List Byte) (m : Memory) (a x n : Nat) (h : x + n ≤ a ∨ a + l.length ≤ x) :
    memReads (memWrites m a l) x n = memReads m x n := by
  apply List.ext_getElem
  · simp
  · intro i h1 h2
    simp only [memReads_length] at h1
    rw [memReads_getElem, memReads_getElem, memRead_memWrites_outside]
    omega

/-- Stores keep the canonical form. -/
theorem memWrite_wf {m : Memory} (a : Nat) (b : Byte) (h : Memory.wf m = true) : Memory.wf (memWrite m a b) = true :=
  tabWf_tabSet _ _ _ h

theorem memWrites_wf : ∀ (l : List Byte) {m : Memory} (a : Nat), Memory.wf m = true →
    Memory.wf (memWrites m a l) = true
  | [], _, _, h => h
  | b :: bs, _, a, h => memWrites_wf bs (a + 1) (memWrite_wf a b h)

end Sys2Proof.Machine
end

