-- ==== Sys2Proof/Laws/Ops.lean ====
section
/-! SUPPORT. What the named operations over registers, configuration and counters do: the register, parameter or counter
written reads as written, and every other one as before. -/

namespace Sys2Proof.Machine

/-- An access to the Core island takes place while the island is accessible, and else changes nothing (R363). -/
@[simp] theorem State.hosted_self (s : State) : s.hosted s = s := by
  unfold State.hosted
  split <;> rfl

theorem State.hosted_on {s : State} (h : s.coreOn = true) (t : State) : s.hosted t = t := if_pos h

theorem State.hosted_off {s : State} (h : s.coreOn = false) (t : State) : s.hosted t = s := if_neg (by simp [h])

/-- A register just stored reads as stored. -/
@[simp] theorem State.reg_setReg_same (s : State) (a : Nat) (w : Word) : (s.setReg a w).reg a = w :=
  tabGet_tabSet_same _ _ _ _

/-- Storing a register leaves every other register as it was. -/
theorem State.reg_setReg_ne (s : State) {a b : Nat} (w : Word) (h : b ≠ a) : (s.setReg a w).reg b = s.reg b :=
  tabGet_tabSet_ne _ _ _ h

/-- A field just stored reads as what was put into it. -/
theorem State.getF_setF_same (s : State) (f : Field) (v : Nat) (h : f.lo ≤ f.hi) (h' : f.hi < 32) :
    (s.setF f v).getF f = v % 2 ^ (f.hi + 1 - f.lo) := by
  unfold State.getF State.setF
  rw [State.reg_setReg_same, BitVec.toNat_ofNat, Nat.mod_eq_of_lt (setBits_lt _ _ _ _ 32 h h' (BitVec.isLt _)),
    bitsOf_setBits_same]

/-- Storing a field leaves the fields of every other register as they were. -/
theorem State.getF_setF_off (s : State) (f g : Field) (v : Nat) (h : g.off ≠ f.off) : (s.setF f v).getF g = s.getF g := by
  unfold State.getF State.setF
  rw [State.reg_setReg_ne _ _ h]

/-- Storing a field leaves the other fields of its register as they were. -/
theorem State.getF_setF_disj (s : State) (f g : Field) (v : Nat) (hf : f.lo ≤ f.hi) (hf' : f.hi < 32) (hg : g.lo ≤ g.hi)
    (h : f.hi < g.lo ∨ g.hi < f.lo) : (s.setF f v).getF g = s.getF g := by
  by_cases ho : g.off = f.off
  · unfold State.getF State.setF
    rw [ho, State.reg_setReg_same, BitVec.toNat_ofNat, Nat.mod_eq_of_lt (setBits_lt _ _ _ _ 32 hf hf' (BitVec.isLt _))]
    rcases h with h | h
    · exact bitsOf_setBits_above _ _ _ _ _ _ hf h
    · exact bitsOf_setBits_below _ _ _ _ _ _ hg h
  · exact State.getF_setF_off s f g v ho

/-- Storing a register leaves the fields of every other register as they were. -/
theorem State.getF_setReg_ne (s : State) {a : Nat} (w : Word) (g : Field) (h : g.off ≠ a) :
    (s.setReg a w).getF g = s.getF g := by
  unfold State.getF
  rw [State.reg_setReg_ne _ _ h]

/-- Reading a field depends on the registers alone. -/
theorem State.getF_congr {s t : State} (f : Field) (h : t.regs = s.regs) : t.getF f = s.getF f := by
  unfold State.getF State.reg
  rw [h]

theorem State.flag_congr {s t : State} (f : Field) (h : t.regs = s.regs) : t.flag f = s.flag f := by
  unfold State.flag
  rw [State.getF_congr f h]

/-- A parameter just stored reads as stored. -/
@[simp] theorem State.par_setPar_same (s : State) (o pid v : Nat) : (s.setPar o pid v).par o pid = v :=
  tabGet_tabSet_same _ _ _ _

/-- A counter just added to has grown, up to 2^64 − 1 (R557). -/
@[simp] theorem State.ctr_addCtr_same (s : State) (o cls i k : Nat) :
    (s.addCtr o cls i k).ctr o cls i = min (s.ctr o cls i + k) (2 ^ 64 - 1) := tabGet_tabSet_same _ _ _ _

/-- Adding to a counter leaves every other counter as it was. -/
theorem State.ctr_addCtr_ne (s : State) {o cls i o' cls' i' : Nat} (k : Nat) (h : ckey o' cls' i' ≠ ckey o cls i) :
    (s.addCtr o cls i k).ctr o' cls' i' = s.ctr o' cls' i' := tabGet_tabSet_ne _ _ _ h

/-- Clearing counters touches no register. -/
theorem State.clearCtrs_regs (s : State) (o cls n : Nat) : (s.clearCtrs o cls n).regs = s.regs := by
  induction n with
  | zero => rfl
  | succ n ih => exact ih

/-- A timer's end that lies ahead moves the Strand counter to it, and no other time passes (R337). -/
theorem strandPlus_strandDiff (a d : Nat) (hd : d < 2 ^ 48) : strandPlus a (strandDiff d a) = d := by
  unfold strandPlus strandDiff
  omega

end Sys2Proof.Machine
end

