-- ==== Sys2Proof/Laws/Gci.lean ====
section
/-! SUPPORT. How a request of the Gateway Command Interface runs: what taking it leaves as it was, and that an accepted request is
answered with what its command's body gives. -/

namespace Sys2Proof.Machine

/-- Reading a field after storing one of another register, or another field of the same register. -/
theorem State.getF_setF_ne (s : State) (f g : Field) (v : Nat)
    (h : g.off ≠ f.off ∨ (f.lo ≤ f.hi ∧ f.hi < 32 ∧ g.lo ≤ g.hi ∧ (f.hi < g.lo ∨ g.hi < f.lo))) :
    (s.setF f v).getF g = s.getF g := by
  rcases h with h | ⟨h1, h2, h3, h4⟩
  · exact State.getF_setF_off s f g v h
  · exact State.getF_setF_disj s f g v h1 h2 h3 h4

theorem State.mbWriteReq_regs (s : State) (cmd : Nat) (q : Req) : (s.mbWriteReq cmd q).regs = s.regs := by
  unfold State.mbWriteReq
  split <;> rfl

/-- Whether firmware serves depends on the stage of boot and the power state alone. -/
theorem State.fwServing_of {s t : State} (h : t.getF DeckBootStatus.stage = s.getF DeckBootStatus.stage)
    (hb : t.brim.power = s.brim.power) : t.fwServing = s.fwServing := by
  simp only [State.fwServing, State.coreOn, h, hb]

theorem State.draftUse_regs (s : State) (cmd : Nat) (q : Req) : (s.draftUse cmd q).regs = s.regs := by
  unfold State.draftUse
  simp only
  split_ifs <;> rfl

/-- Storing a field of a mailbox register leaves every register field below the mailbox blocks as it was. -/
theorem State.getF_low (s : State) (f g : Field) (v : Nat) (hg : g.off < 0x10000) (hf : 0x10000 ≤ f.off) :
    (s.setF f v).getF g = s.getF g := State.getF_setF_off s f g v (by omega)

theorem State.mbDoorbell_low (s : State) (n w : Nat) (g : Field) (hg : g.off < 0x10000) :
    (s.mbDoorbell n w).getF g = s.getF g := by
  unfold State.mbDoorbell
  split
  · change (((s.setF (MbStatus.state n) mbPosted).setF (MbSeq.lastPosted n) (bitsOf w 15 0)).setF (MbStatus.cancelled n) 0).getF
      g = _
    rw [State.getF_low _ _ _ _ hg, State.getF_low _ _ _ _ hg, State.getF_low _ _ _ _ hg] <;>
      simp [MbStatus.cancelled, MbSeq.lastPosted, MbStatus.state, MbStatus.off, MbSeq.off] <;> omega
  · rw [State.getF_low _ _ _ _ hg]
    simp [MbStatus.protoErr, MbStatus.off]
    omega

theorem State.visit_regs (s : State) (c : Nat) : (s.visit c).regs = s.regs := rfl

theorem State.visitEnd_regs (s : State) : s.visitEnd.regs = s.regs := by
  unfold State.visitEnd
  split <;> rfl

/-- The registers of a posted request's state, below the doorbell. -/
theorem State.posted_regs (s : State) (cmd : Nat) (q : Req) : (s.visitEnd.mbWriteReq cmd q).regs = s.regs :=
  (State.mbWriteReq_regs _ cmd q).trans s.visitEnd_regs

/-- A request that comes to its command (R55, R73). -/
theorem State.comes_spec {s : State} {cmd : Nat} {q : Req} (h : s.comes cmd q = true) :
    s.mbClient q.mb.val = true ∧ s.getF (MbStatus.state q.mb.val) = mbIdle ∧
      q.seq.toNat ≠ s.getF (MbSeq.lastPosted q.mb.val) ∧ s.fwServing = true := by
  simp only [State.comes, Bool.and_eq_true, beq_iff_eq, bne_iff_ne, ne_eq] at h
  exact ⟨h.1.1.1.1, h.1.1.1.2, h.1.1.2, h.1.2⟩

/-- A doorbell changes registers of its own mailbox's status and SEQ only. -/
theorem State.mbDoorbell_other (s : State) (n w : Nat) (g : Field) (h1 : g.off ≠ MbStatus.off n) (h2 : g.off ≠ MbSeq.off n) :
    (s.mbDoorbell n w).getF g = s.getF g := by
  unfold State.mbDoorbell
  split
  · change (((s.setF (MbStatus.state n) mbPosted).setF (MbSeq.lastPosted n) (bitsOf w 15 0)).setF (MbStatus.cancelled n) 0).getF
      g = _
    rw [State.getF_setF_off _ _ _ _ h1, State.getF_setF_off _ _ _ _ h2, State.getF_setF_off _ _ _ _ h1]
  · exact State.getF_setF_off _ _ _ _ h1

/-- A request that is served leaves the owners of the mailboxes as they were. -/
theorem State.served_owner (s : State) (cmd : Nat) (q : Req) :
    (s.served cmd q).getF (MbOwner.transport q.mb.val) = s.getF (MbOwner.transport q.mb.val) := by
  have h1 : (MbOwner.transport q.mb.val).off ≠ MbStatus.off q.mb.val := by
    simp [MbOwner.transport, MbOwner.off, MbStatus.off]
  have h2 : (MbOwner.transport q.mb.val).off ≠ MbSeq.off q.mb.val := by
    simp [MbOwner.transport, MbOwner.off, MbSeq.off]
  unfold State.served State.taken State.mbTake State.post
  rw [State.getF_congr _ (State.draftUse_regs _ cmd q), State.getF_setF_off _ _ _ _ h1,
    State.getF_congr _ (State.visit_regs _ _), State.mbDoorbell_other _ _ _ _ h1 h2,
    State.getF_congr _ (State.posted_regs s cmd q)]

/-- Taking a request leaves every register below the mailbox blocks as it was. -/
theorem State.taken_low (s : State) (cmd : Nat) (q : Req) (g : Field) (hg : g.off < 0x10000) :
    (s.taken cmd q).getF g = s.getF g := by
  unfold State.taken State.mbTake
  rw [State.getF_low _ _ _ _ hg (by simp [MbStatus.state, MbStatus.off]; omega), State.getF_congr g (State.visit_regs _ _)]
  unfold State.post
  rw [State.mbDoorbell_low _ _ _ _ hg, State.getF_congr g (State.posted_regs s cmd q)]

theorem State.served_low (s : State) (cmd : Nat) (q : Req) (g : Field) (hg : g.off < 0x10000) :
    (s.served cmd q).getF g = s.getF g := by
  unfold State.served
  rw [State.getF_congr g (State.draftUse_regs _ cmd q), State.taken_low s cmd q g hg]

theorem State.mbDoorbell_brim (s : State) (n w : Nat) : (s.mbDoorbell n w).brim = s.brim := by
  unfold State.mbDoorbell
  split <;> rfl

/-- What the Brim die holds is as it was when a request is served. -/
theorem State.served_brim (s : State) (cmd : Nat) (q : Req) : (s.served cmd q).brim = s.brim := by
  have hd : (s.served cmd q).brim = (s.post cmd q).brim := by
    unfold State.served State.draftUse
    simp only
    split_ifs <;> rfl
  have hv : s.visitEnd.brim = s.brim := by
    unfold State.visitEnd
    split <;> rfl
  have hw : (s.visitEnd.mbWriteReq cmd q).brim = s.visitEnd.brim := by
    unfold State.mbWriteReq
    split <;> rfl
  rw [hd, State.post, State.mbDoorbell_brim, hw, hv]

theorem State.served_fwServing (s : State) (cmd : Nat) (q : Req) : (s.served cmd q).fwServing = s.fwServing :=
  State.fwServing_of (State.served_low s cmd q DeckBootStatus.stage (by decide)) (by rw [State.served_brim])

theorem State.served_ownDeck (s : State) (cmd : Nat) (q : Req) : (s.served cmd q).ownDeck = s.ownDeck :=
  State.served_low s cmd q DeckStraps.cascRank (by decide)

/-- A taken mailbox stands in SERVING. -/
theorem State.taken_state (s : State) (cmd : Nat) (q : Req) :
    (s.taken cmd q).getF (MbStatus.state q.mb.val) = mbServing := by
  unfold State.taken State.mbTake
  rw [State.getF_setF_same _ _ _ (by simp [MbStatus.state]) (by simp [MbStatus.state])]
  rfl

theorem State.served_state (s : State) (cmd : Nat) (q : Req) :
    (s.served cmd q).getF (MbStatus.state q.mb.val) = mbServing := by
  unfold State.served
  rw [State.getF_congr _ (State.draftUse_regs _ cmd q), State.taken_state]

theorem bitsOf_ring (x : Nat) (h : x < 65536) : bitsOf (0x5A5A0000 + x) 31 16 = 0x5A5A ∧ bitsOf (0x5A5A0000 + x) 15 0 = x := by
  unfold bitsOf
  omega

/-- The posted SEQ of a request that is taken from an IDLE mailbox is its own. -/
theorem State.taken_lastPosted (s : State) (cmd : Nat) (q : Req) (h1 : s.getF (MbStatus.state q.mb.val) = mbIdle)
    (h2 : q.seq.toNat ≠ s.getF (MbSeq.lastPosted q.mb.val)) :
    (s.taken cmd q).getF (MbSeq.lastPosted q.mb.val) = q.seq.toNat := by
  have hs : q.seq.toNat < 65536 := q.seq.isLt
  unfold State.taken State.mbTake
  rw [State.getF_setF_off _ _ _ _ (by simp [MbStatus.state, MbSeq.lastPosted, MbStatus.off, MbSeq.off])]
  rw [State.getF_congr _ (State.visit_regs _ _)]
  unfold State.post State.mbDoorbell
  rw [State.getF_congr _ (State.posted_regs s cmd q), State.getF_congr _ (State.posted_regs s cmd q), h1,
    (bitsOf_ring _ hs).1, (bitsOf_ring _ hs).2]
  simp only [beq_self_eq_true, Bool.and_self]
  rw [if_pos (by simpa using h2)]
  change ((((s.visitEnd.mbWriteReq cmd q).setF (MbStatus.state q.mb.val) mbPosted).setF (MbSeq.lastPosted q.mb.val) q.seq.toNat).setF
    (MbStatus.cancelled q.mb.val) 0).getF _ = _
  rw [State.getF_setF_off _ _ _ _ (by simp [MbStatus.cancelled, MbSeq.lastPosted, MbStatus.off, MbSeq.off]),
    State.getF_setF_same _ _ _ (by simp [MbSeq.lastPosted]) (by simp [MbSeq.lastPosted])]
  simp only [MbSeq.lastPosted]
  exact Nat.mod_eq_of_lt hs

/-- An accepted request: what its command's body gives is written as the answer, unless the body leaves the mailbox SERVING, or
leaves no firmware to answer. -/
theorem State.request_accepts {s : State} {cmd : Nat} {q : Req} (h : s.accepts cmd q = true) (body : Body) :
    s.request cmd q body =
      (let o := body (s.ctx cmd q) (s.served cmd q)
       if o.1.status == stHold || !o.2.fwAnswers || o.2.getF (MbStatus.state q.mb.val) != mbServing then o.2
       else (o.2.noteRetry cmd q o.1).mbRespond q.mb.val cmd q.seq.toNat o.1) := by
  simp only [State.accepts, Bool.and_eq_true, beq_iff_eq, Option.isNone_iff_eq_none] at h
  obtain ⟨⟨hc, h4⟩, h5⟩ := h
  obtain ⟨hm, h1, h2, -⟩ := State.comes_spec hc
  have hp := State.taken_lastPosted s cmd q h1 h2
  have hd : (s.served cmd q).ownDeck = q.deck.toNat := by rw [State.served_ownDeck, h4]
  unfold State.request
  simp only [hm, hc, Bool.not_true, Bool.false_eq_true, if_false, if_true]
  unfold State.serveTaken
  simp only [hp, h5, bne_self_eq_false, Bool.false_eq_true, if_false]
  change (if (q.deck.toNat != (s.served cmd q).ownDeck) = true then _ else _) = _
  rw [hd]
  have ht : s.getF (MbOwner.transport q.mb.val) ≠ 2 := by
    simp only [State.mbClient, State.mbReached, Bool.or_eq_true, Bool.and_eq_true, beq_iff_eq] at hm
    omega
  have hseg : (s.served cmd q).slotSeg q.mb.val = s.served cmd q := by
    unfold State.slotSeg
    rw [State.served_owner]
    simp [ht]
  have hseg' : ((s.taken cmd q).draftUse cmd q).slotSeg q.mb.val = s.served cmd q := hseg
  simp only [bne_self_eq_false, Bool.false_eq_true, if_false, hseg']
  rfl

theorem State.noteRetry_of_ne (s : State) (cmd : Nat) (q : Req) (r : Resp) (h : r.status ≠ stBusyRetry) :
    s.noteRetry cmd q r = s := by
  unfold State.noteRetry
  simp [h]

/-- `t` differs from `u` neither in the stage of boot, nor in the power state, nor in the state of any mailbox: firmware serves in both
alike. -/
def Quiet (u t : State) : Prop :=
  t.getF DeckBootStatus.stage = u.getF DeckBootStatus.stage ∧
  (∀ n, t.getF (MbStatus.state n) = u.getF (MbStatus.state n)) ∧ t.brim.power = u.brim.power

theorem Quiet.refl (u : State) : Quiet u u := ⟨rfl, fun _ => rfl, rfl⟩

theorem Quiet.trans {u v w : State} (h : Quiet u v) (h' : Quiet v w) : Quiet u w :=
  ⟨h'.1.trans h.1, fun n => (h'.2.1 n).trans (h.2.1 n), h'.2.2.trans h.2.2⟩

theorem Quiet.of_regs {u t : State} (h : t.regs = u.regs) (hb : t.brim.power = u.brim.power := by rfl) : Quiet u t :=
  ⟨State.getF_congr _ h, fun _ => State.getF_congr _ h, hb⟩

theorem Quiet.fwServing {u t : State} (h : Quiet u t) : t.fwServing = u.fwServing := State.fwServing_of h.1 h.2.2

/-- A field that is neither the stage of boot nor a mailbox's state. -/
def QuietField (f : Field) : Prop :=
  f.off ≠ 0x40 ∧ ∀ n, f.off ≠ MbStatus.off n ∨ (3 ≤ f.lo ∧ f.lo ≤ f.hi ∧ f.hi < 32)

theorem Quiet.setF (u : State) (f : Field) (v : Nat) (h : QuietField f) : Quiet u (u.setF f v) := by
  refine ⟨State.getF_setF_off _ _ _ _ (fun e => h.1 (by rw [← e]; rfl)), fun n => State.getF_setF_ne _ _ _ _ ?_, rfl⟩
  rcases h.2 n with h | h
  · exact Or.inl (fun e => h e.symm)
  · exact Or.inr ⟨h.2.1, h.2.2, by simp [MbStatus.state], Or.inr (by simp only [MbStatus.state]; omega)⟩

theorem Quiet.foldl {α : Type} (f : State → α → State) (h : ∀ u a, Quiet u (f u a)) :
    ∀ (l : List α) (u : State), Quiet u (l.foldl f u)
  | [], u => Quiet.refl u
  | a :: l, u => (h u a).trans (Quiet.foldl f h l (f u a))

theorem quietField_tickets (n : Nat) : QuietField (MbStatus.tickets n) := by
  refine ⟨by simp [MbStatus.tickets, MbStatus.off]; omega, fun m => Or.inr ?_⟩
  simp [MbStatus.tickets]

theorem Quiet.syncTickets (u : State) (c : Nat) : Quiet u (u.syncTickets c) := by
  unfold State.syncTickets
  refine Quiet.foldl _ (fun v n => ?_) _ _
  split
  · exact Quiet.setF _ _ _ (quietField_tickets n)
  · exact Quiet.refl _

theorem Quiet.openTicket (u : State) (c : Ctx) (l : List Nat) : Quiet u (u.openTicket c l).2 := by
  unfold State.openTicket
  exact (Quiet.of_regs (by rfl)).trans (Quiet.syncTickets _ _)

theorem Quiet.freeTicket (u : State) (c n : Nat) : Quiet u (u.freeTicket c n) := by
  unfold State.freeTicket
  exact (Quiet.of_regs (by rfl)).trans (Quiet.syncTickets _ _)

/-- An accepted request whose body leaves the mailboxes and the stage of boot alone is answered with the body's answer. -/
theorem State.request_reply {s u : State} {cmd : Nat} {q : Req} {body : Body} {st : Nat} {pay : List Byte} {tk : Nat}
    (h : s.accepts cmd q = true) (hb : body (s.ctx cmd q) (s.served cmd q) = (⟨st, pay, tk, 0⟩, u))
    (hr : Quiet (s.served cmd q) u) (h1 : st ≠ stHold) (h2 : st ≠ stBusyRetry) :
    s.request cmd q body = u.reply cmd q st pay tk := by
  rw [State.request_accepts h]
  simp only [hb]
  have hf : u.fwAnswers = true := by
    have : u.fwServing = true := by
      rw [hr.fwServing, State.served_fwServing]
      simp only [State.accepts, Bool.and_eq_true] at h
      exact (State.comes_spec h.1.1).2.2.2
    simp [State.fwAnswers, this]
  have hs : u.getF (MbStatus.state q.mb.val) = mbServing := by rw [hr.2.1, State.served_state]
  simp only [hf, hs, beq_iff_eq, h1, bne_self_eq_false, Bool.not_true, Bool.or_false, Bool.false_eq_true, if_false]
  rw [State.noteRetry_of_ne _ _ _ _ h2]
  rfl

/-- An accepted request whose body gives `r` and state `u`: what firmware then does. -/
theorem State.request_finish {s u : State} {cmd : Nat} {q : Req} {body : Body} {r : Resp}
    (h : s.accepts cmd q = true) (hb : body (s.ctx cmd q) (s.served cmd q) = (r, u)) :
    s.request cmd q body = u.finish cmd q r := by
  rw [State.request_accepts h]
  simp only [hb]
  rfl

/-- Staging under a draft of the caller's, with no lock in the way and room in the storage. -/
theorem State.stage_ok {u : State} {c : Ctx} {d : Draft} {ch : List (Nat × Nat)} (h : u.draft c.client c.txn = some d)
    (hl : u.locked c.client (ch.map (fun kv => lockOf kv.1)) = false) (hr : u.draftRoom c = true) (pay : List Byte) :
    u.stage c ch pay = (⟨stDone, pay, 0, 0⟩, u.putChanges c d ch) := by
  unfold State.stage State.answer
  simp [h, hl, hr]

end Sys2Proof.Machine
end

