-- ==== Sys2Proof/Laws/State.lean ====
section
/-! SUPPORT. What each update of State leaves as it was, field by field, so that no proof unfolds a record update. -/

namespace Sys2Proof.Machine

/-! ### setReg -/

@[simp] theorem State.cfg_setReg (s : State) (a : Nat) (w : Word) : (s.setReg a w).cfg = s.cfg := rfl
@[simp] theorem State.oldCfg_setReg (s : State) (a : Nat) (w : Word) : (s.setReg a w).oldCfg = s.oldCfg := rfl
@[simp] theorem State.ctrs_setReg (s : State) (a : Nat) (w : Word) : (s.setReg a w).ctrs = s.ctrs := rfl
@[simp] theorem State.ctrLatch_setReg (s : State) (a : Nat) (w : Word) : (s.setReg a w).ctrLatch = s.ctrLatch := rfl
@[simp] theorem State.strand_setReg (s : State) (a : Nat) (w : Word) : (s.setReg a w).strand = s.strand := rfl
@[simp] theorem State.bar0_setReg (s : State) (a : Nat) (w : Word) : (s.setReg a w).bar0 = s.bar0 := rfl
@[simp] theorem State.bar2_setReg (s : State) (a : Nat) (w : Word) : (s.setReg a w).bar2 = s.bar2 := rfl
@[simp] theorem State.host_setReg (s : State) (a : Nat) (w : Word) : (s.setReg a w).host = s.host := rfl
@[simp] theorem State.out_setReg (s : State) (a : Nat) (w : Word) : (s.setReg a w).out = s.out := rfl
@[simp] theorem State.evt_setReg (s : State) (a : Nat) (w : Word) : (s.setReg a w).evt = s.evt := rfl
@[simp] theorem State.pcie_setReg (s : State) (a : Nat) (w : Word) : (s.setReg a w).pcie = s.pcie := rfl
@[simp] theorem State.haltA_setReg (s : State) (a : Nat) (w : Word) : (s.setReg a w).haltA = s.haltA := rfl
@[simp] theorem State.haltB_setReg (s : State) (a : Nat) (w : Word) : (s.setReg a w).haltB = s.haltB := rfl
@[simp] theorem State.gci_setReg (s : State) (a : Nat) (w : Word) : (s.setReg a w).gci = s.gci := rfl
@[simp] theorem State.brim_setReg (s : State) (a : Nat) (w : Word) : (s.setReg a w).brim = s.brim := rfl
@[simp] theorem State.fcu_setReg (s : State) (a : Nat) (w : Word) : (s.setReg a w).fcu = s.fcu := rfl
@[simp] theorem State.fuses_setReg (s : State) (a : Nat) (w : Word) : (s.setReg a w).fuses = s.fuses := rfl
@[simp] theorem State.flash_setReg (s : State) (a : Nat) (w : Word) : (s.setReg a w).flash = s.flash := rfl
@[simp] theorem State.fabricOn_setReg (s : State) (a : Nat) (w : Word) : (s.setReg a w).fabricOn = s.fabricOn := rfl
@[simp] theorem State.pier_setReg (s : State) (a : Nat) (w : Word) : (s.setReg a w).pier = s.pier := rfl
@[simp] theorem State.absentVariant_setReg (s : State) (a : Nat) (w : Word) : (s.setReg a w).absentVariant = s.absentVariant := rfl
@[simp] theorem State.buf_setReg (s : State) (a : Nat) (w : Word) : (s.setReg a w).buf = s.buf := rfl
@[simp] theorem State.fwd_setReg (s : State) (a : Nat) (w : Word) : (s.setReg a w).fwd = s.fwd := rfl
@[simp] theorem State.egr_setReg (s : State) (a : Nat) (w : Word) : (s.setReg a w).egr = s.egr := rfl
@[simp] theorem State.time_setReg (s : State) (a : Nat) (w : Word) : (s.setReg a w).time = s.time := rfl
@[simp] theorem State.hbx_setReg (s : State) (a : Nat) (w : Word) : (s.setReg a w).hbx = s.hbx := rfl
@[simp] theorem State.store_setReg (s : State) (a : Nat) (w : Word) : (s.setReg a w).store = s.store := rfl
@[simp] theorem State.fw_setReg (s : State) (a : Nat) (w : Word) : (s.setReg a w).fw = s.fw := rfl
@[simp] theorem State.hatpin_setReg (s : State) (a : Nat) (w : Word) : (s.setReg a w).hatpin = s.hatpin := rfl
@[simp] theorem State.sge_setReg (s : State) (a : Nat) (w : Word) : (s.setReg a w).sge = s.sge := rfl
@[simp] theorem State.chanOn_setReg (s : State) (a : Nat) (w : Word) : (s.setReg a w).chanOn = s.chanOn := rfl
@[simp] theorem State.can_setReg (s : State) (a : Nat) (w : Word) : (s.setReg a w).can = s.can := rfl
@[simp] theorem State.lin_setReg (s : State) (a : Nat) (w : Word) : (s.setReg a w).lin = s.lin := rfl
@[simp] theorem State.spans_setReg (s : State) (a : Nat) (w : Word) : (s.setReg a w).spans = s.spans := rfl
@[simp] theorem State.freeCount_setReg (s : State) (a : Nat) (w : Word) : (s.setReg a w).freeCount = s.freeCount :=
  rfl
@[simp] theorem State.pending_setReg (s : State) (a : Nat) (w : Word) : (s.setReg a w).pending = s.pending := rfl

/-! ### setF -/

@[simp] theorem State.cfg_setF (s : State) (f : Field) (v : Nat) : (s.setF f v).cfg = s.cfg := rfl
@[simp] theorem State.oldCfg_setF (s : State) (f : Field) (v : Nat) : (s.setF f v).oldCfg = s.oldCfg := rfl
@[simp] theorem State.ctrs_setF (s : State) (f : Field) (v : Nat) : (s.setF f v).ctrs = s.ctrs := rfl
@[simp] theorem State.ctrLatch_setF (s : State) (f : Field) (v : Nat) : (s.setF f v).ctrLatch = s.ctrLatch := rfl
@[simp] theorem State.strand_setF (s : State) (f : Field) (v : Nat) : (s.setF f v).strand = s.strand := rfl
@[simp] theorem State.bar0_setF (s : State) (f : Field) (v : Nat) : (s.setF f v).bar0 = s.bar0 := rfl
@[simp] theorem State.bar2_setF (s : State) (f : Field) (v : Nat) : (s.setF f v).bar2 = s.bar2 := rfl
@[simp] theorem State.host_setF (s : State) (f : Field) (v : Nat) : (s.setF f v).host = s.host := rfl
@[simp] theorem State.out_setF (s : State) (f : Field) (v : Nat) : (s.setF f v).out = s.out := rfl
@[simp] theorem State.evt_setF (s : State) (f : Field) (v : Nat) : (s.setF f v).evt = s.evt := rfl
@[simp] theorem State.pcie_setF (s : State) (f : Field) (v : Nat) : (s.setF f v).pcie = s.pcie := rfl
@[simp] theorem State.haltA_setF (s : State) (f : Field) (v : Nat) : (s.setF f v).haltA = s.haltA := rfl
@[simp] theorem State.haltB_setF (s : State) (f : Field) (v : Nat) : (s.setF f v).haltB = s.haltB := rfl
@[simp] theorem State.gci_setF (s : State) (f : Field) (v : Nat) : (s.setF f v).gci = s.gci := rfl
@[simp] theorem State.brim_setF (s : State) (f : Field) (v : Nat) : (s.setF f v).brim = s.brim := rfl
@[simp] theorem State.fcu_setF (s : State) (f : Field) (v : Nat) : (s.setF f v).fcu = s.fcu := rfl
@[simp] theorem State.fuses_setF (s : State) (f : Field) (v : Nat) : (s.setF f v).fuses = s.fuses := rfl
@[simp] theorem State.flash_setF (s : State) (f : Field) (v : Nat) : (s.setF f v).flash = s.flash := rfl
@[simp] theorem State.fabricOn_setF (s : State) (f : Field) (v : Nat) : (s.setF f v).fabricOn = s.fabricOn := rfl
@[simp] theorem State.pier_setF (s : State) (f : Field) (v : Nat) : (s.setF f v).pier = s.pier := rfl
@[simp] theorem State.absentVariant_setF (s : State) (f : Field) (v : Nat) : (s.setF f v).absentVariant = s.absentVariant := rfl
@[simp] theorem State.buf_setF (s : State) (f : Field) (v : Nat) : (s.setF f v).buf = s.buf := rfl
@[simp] theorem State.fwd_setF (s : State) (f : Field) (v : Nat) : (s.setF f v).fwd = s.fwd := rfl
@[simp] theorem State.egr_setF (s : State) (f : Field) (v : Nat) : (s.setF f v).egr = s.egr := rfl
@[simp] theorem State.time_setF (s : State) (f : Field) (v : Nat) : (s.setF f v).time = s.time := rfl
@[simp] theorem State.hbx_setF (s : State) (f : Field) (v : Nat) : (s.setF f v).hbx = s.hbx := rfl
@[simp] theorem State.store_setF (s : State) (f : Field) (v : Nat) : (s.setF f v).store = s.store := rfl
@[simp] theorem State.fw_setF (s : State) (f : Field) (v : Nat) : (s.setF f v).fw = s.fw := rfl
@[simp] theorem State.hatpin_setF (s : State) (f : Field) (v : Nat) : (s.setF f v).hatpin = s.hatpin := rfl
@[simp] theorem State.sge_setF (s : State) (f : Field) (v : Nat) : (s.setF f v).sge = s.sge := rfl
@[simp] theorem State.chanOn_setF (s : State) (f : Field) (v : Nat) : (s.setF f v).chanOn = s.chanOn := rfl
@[simp] theorem State.can_setF (s : State) (f : Field) (v : Nat) : (s.setF f v).can = s.can := rfl
@[simp] theorem State.lin_setF (s : State) (f : Field) (v : Nat) : (s.setF f v).lin = s.lin := rfl
@[simp] theorem State.spans_setF (s : State) (f : Field) (v : Nat) : (s.setF f v).spans = s.spans := rfl
@[simp] theorem State.freeCount_setF (s : State) (f : Field) (v : Nat) : (s.setF f v).freeCount = s.freeCount := rfl
@[simp] theorem State.pending_setF (s : State) (f : Field) (v : Nat) : (s.setF f v).pending = s.pending := rfl

/-! ### setFlag -/

@[simp] theorem State.cfg_setFlag (s : State) (f : Field) (b : Bool) : (s.setFlag f b).cfg = s.cfg := rfl
@[simp] theorem State.oldCfg_setFlag (s : State) (f : Field) (b : Bool) : (s.setFlag f b).oldCfg = s.oldCfg := rfl
@[simp] theorem State.ctrs_setFlag (s : State) (f : Field) (b : Bool) : (s.setFlag f b).ctrs = s.ctrs := rfl
@[simp] theorem State.ctrLatch_setFlag (s : State) (f : Field) (b : Bool) : (s.setFlag f b).ctrLatch = s.ctrLatch :=
  rfl
@[simp] theorem State.strand_setFlag (s : State) (f : Field) (b : Bool) : (s.setFlag f b).strand = s.strand := rfl
@[simp] theorem State.bar0_setFlag (s : State) (f : Field) (b : Bool) : (s.setFlag f b).bar0 = s.bar0 := rfl
@[simp] theorem State.bar2_setFlag (s : State) (f : Field) (b : Bool) : (s.setFlag f b).bar2 = s.bar2 := rfl
@[simp] theorem State.host_setFlag (s : State) (f : Field) (b : Bool) : (s.setFlag f b).host = s.host := rfl
@[simp] theorem State.out_setFlag (s : State) (f : Field) (b : Bool) : (s.setFlag f b).out = s.out := rfl
@[simp] theorem State.evt_setFlag (s : State) (f : Field) (b : Bool) : (s.setFlag f b).evt = s.evt := rfl
@[simp] theorem State.pcie_setFlag (s : State) (f : Field) (b : Bool) : (s.setFlag f b).pcie = s.pcie := rfl
@[simp] theorem State.haltA_setFlag (s : State) (f : Field) (b : Bool) : (s.setFlag f b).haltA = s.haltA := rfl
@[simp] theorem State.haltB_setFlag (s : State) (f : Field) (b : Bool) : (s.setFlag f b).haltB = s.haltB := rfl
@[simp] theorem State.gci_setFlag (s : State) (f : Field) (b : Bool) : (s.setFlag f b).gci = s.gci := rfl
@[simp] theorem State.brim_setFlag (s : State) (f : Field) (b : Bool) : (s.setFlag f b).brim = s.brim := rfl
@[simp] theorem State.fcu_setFlag (s : State) (f : Field) (b : Bool) : (s.setFlag f b).fcu = s.fcu := rfl
@[simp] theorem State.fuses_setFlag (s : State) (f : Field) (b : Bool) : (s.setFlag f b).fuses = s.fuses := rfl
@[simp] theorem State.flash_setFlag (s : State) (f : Field) (b : Bool) : (s.setFlag f b).flash = s.flash := rfl
@[simp] theorem State.fabricOn_setFlag (s : State) (f : Field) (b : Bool) : (s.setFlag f b).fabricOn = s.fabricOn :=
  rfl
@[simp] theorem State.pier_setFlag (s : State) (f : Field) (b : Bool) : (s.setFlag f b).pier = s.pier := rfl
@[simp] theorem State.absentVariant_setFlag (s : State) (f : Field) (b : Bool) : (s.setFlag f b).absentVariant = s.absentVariant := rfl
@[simp] theorem State.buf_setFlag (s : State) (f : Field) (b : Bool) : (s.setFlag f b).buf = s.buf := rfl
@[simp] theorem State.fwd_setFlag (s : State) (f : Field) (b : Bool) : (s.setFlag f b).fwd = s.fwd := rfl
@[simp] theorem State.egr_setFlag (s : State) (f : Field) (b : Bool) : (s.setFlag f b).egr = s.egr := rfl
@[simp] theorem State.time_setFlag (s : State) (f : Field) (b : Bool) : (s.setFlag f b).time = s.time := rfl
@[simp] theorem State.hbx_setFlag (s : State) (f : Field) (b : Bool) : (s.setFlag f b).hbx = s.hbx := rfl
@[simp] theorem State.store_setFlag (s : State) (f : Field) (b : Bool) : (s.setFlag f b).store = s.store := rfl
@[simp] theorem State.fw_setFlag (s : State) (f : Field) (b : Bool) : (s.setFlag f b).fw = s.fw := rfl
@[simp] theorem State.hatpin_setFlag (s : State) (f : Field) (b : Bool) : (s.setFlag f b).hatpin = s.hatpin := rfl
@[simp] theorem State.sge_setFlag (s : State) (f : Field) (b : Bool) : (s.setFlag f b).sge = s.sge := rfl
@[simp] theorem State.chanOn_setFlag (s : State) (f : Field) (b : Bool) : (s.setFlag f b).chanOn = s.chanOn := rfl
@[simp] theorem State.can_setFlag (s : State) (f : Field) (b : Bool) : (s.setFlag f b).can = s.can := rfl
@[simp] theorem State.lin_setFlag (s : State) (f : Field) (b : Bool) : (s.setFlag f b).lin = s.lin := rfl
@[simp] theorem State.spans_setFlag (s : State) (f : Field) (b : Bool) : (s.setFlag f b).spans = s.spans := rfl
@[simp] theorem State.freeCount_setFlag (s : State) (f : Field) (b : Bool) : (s.setFlag f b).freeCount = s.freeCount :=
  rfl
@[simp] theorem State.pending_setFlag (s : State) (f : Field) (b : Bool) : (s.setFlag f b).pending = s.pending := rfl

/-! ### setPar -/

@[simp] theorem State.regs_setPar (s : State) (o pid v : Nat) : (s.setPar o pid v).regs = s.regs := rfl
@[simp] theorem State.oldCfg_setPar (s : State) (o pid v : Nat) : (s.setPar o pid v).oldCfg = s.oldCfg := rfl
@[simp] theorem State.ctrs_setPar (s : State) (o pid v : Nat) : (s.setPar o pid v).ctrs = s.ctrs := rfl
@[simp] theorem State.ctrLatch_setPar (s : State) (o pid v : Nat) : (s.setPar o pid v).ctrLatch = s.ctrLatch := rfl
@[simp] theorem State.strand_setPar (s : State) (o pid v : Nat) : (s.setPar o pid v).strand = s.strand := rfl
@[simp] theorem State.bar0_setPar (s : State) (o pid v : Nat) : (s.setPar o pid v).bar0 = s.bar0 := rfl
@[simp] theorem State.bar2_setPar (s : State) (o pid v : Nat) : (s.setPar o pid v).bar2 = s.bar2 := rfl
@[simp] theorem State.host_setPar (s : State) (o pid v : Nat) : (s.setPar o pid v).host = s.host := rfl
@[simp] theorem State.out_setPar (s : State) (o pid v : Nat) : (s.setPar o pid v).out = s.out := rfl
@[simp] theorem State.evt_setPar (s : State) (o pid v : Nat) : (s.setPar o pid v).evt = s.evt := rfl
@[simp] theorem State.pcie_setPar (s : State) (o pid v : Nat) : (s.setPar o pid v).pcie = s.pcie := rfl
@[simp] theorem State.haltA_setPar (s : State) (o pid v : Nat) : (s.setPar o pid v).haltA = s.haltA := rfl
@[simp] theorem State.haltB_setPar (s : State) (o pid v : Nat) : (s.setPar o pid v).haltB = s.haltB := rfl
@[simp] theorem State.gci_setPar (s : State) (o pid v : Nat) : (s.setPar o pid v).gci = s.gci := rfl
@[simp] theorem State.brim_setPar (s : State) (o pid v : Nat) : (s.setPar o pid v).brim = s.brim := rfl
@[simp] theorem State.fcu_setPar (s : State) (o pid v : Nat) : (s.setPar o pid v).fcu = s.fcu := rfl
@[simp] theorem State.fuses_setPar (s : State) (o pid v : Nat) : (s.setPar o pid v).fuses = s.fuses := rfl
@[simp] theorem State.flash_setPar (s : State) (o pid v : Nat) : (s.setPar o pid v).flash = s.flash := rfl
@[simp] theorem State.fabricOn_setPar (s : State) (o pid v : Nat) : (s.setPar o pid v).fabricOn = s.fabricOn := rfl
@[simp] theorem State.pier_setPar (s : State) (o pid v : Nat) : (s.setPar o pid v).pier = s.pier := rfl
@[simp] theorem State.absentVariant_setPar (s : State) (o pid v : Nat) : (s.setPar o pid v).absentVariant = s.absentVariant := rfl
@[simp] theorem State.buf_setPar (s : State) (o pid v : Nat) : (s.setPar o pid v).buf = s.buf := rfl
@[simp] theorem State.fwd_setPar (s : State) (o pid v : Nat) : (s.setPar o pid v).fwd = s.fwd := rfl
@[simp] theorem State.egr_setPar (s : State) (o pid v : Nat) : (s.setPar o pid v).egr = s.egr := rfl
@[simp] theorem State.time_setPar (s : State) (o pid v : Nat) : (s.setPar o pid v).time = s.time := rfl
@[simp] theorem State.hbx_setPar (s : State) (o pid v : Nat) : (s.setPar o pid v).hbx = s.hbx := rfl
@[simp] theorem State.store_setPar (s : State) (o pid v : Nat) : (s.setPar o pid v).store = s.store := rfl
@[simp] theorem State.fw_setPar (s : State) (o pid v : Nat) : (s.setPar o pid v).fw = s.fw := rfl
@[simp] theorem State.hatpin_setPar (s : State) (o pid v : Nat) : (s.setPar o pid v).hatpin = s.hatpin := rfl
@[simp] theorem State.sge_setPar (s : State) (o pid v : Nat) : (s.setPar o pid v).sge = s.sge := rfl
@[simp] theorem State.chanOn_setPar (s : State) (o pid v : Nat) : (s.setPar o pid v).chanOn = s.chanOn := rfl
@[simp] theorem State.can_setPar (s : State) (o pid v : Nat) : (s.setPar o pid v).can = s.can := rfl
@[simp] theorem State.lin_setPar (s : State) (o pid v : Nat) : (s.setPar o pid v).lin = s.lin := rfl
@[simp] theorem State.spans_setPar (s : State) (o pid v : Nat) : (s.setPar o pid v).spans = s.spans := rfl
@[simp] theorem State.freeCount_setPar (s : State) (o pid v : Nat) : (s.setPar o pid v).freeCount = s.freeCount := rfl
@[simp] theorem State.pending_setPar (s : State) (o pid v : Nat) : (s.setPar o pid v).pending = s.pending := rfl

/-! ### addCtr -/

@[simp] theorem State.regs_addCtr (s : State) (o cls i k : Nat) : (s.addCtr o cls i k).regs = s.regs := rfl
@[simp] theorem State.cfg_addCtr (s : State) (o cls i k : Nat) : (s.addCtr o cls i k).cfg = s.cfg := rfl
@[simp] theorem State.oldCfg_addCtr (s : State) (o cls i k : Nat) : (s.addCtr o cls i k).oldCfg = s.oldCfg := rfl
@[simp] theorem State.ctrLatch_addCtr (s : State) (o cls i k : Nat) : (s.addCtr o cls i k).ctrLatch = s.ctrLatch :=
  rfl
@[simp] theorem State.strand_addCtr (s : State) (o cls i k : Nat) : (s.addCtr o cls i k).strand = s.strand := rfl
@[simp] theorem State.bar0_addCtr (s : State) (o cls i k : Nat) : (s.addCtr o cls i k).bar0 = s.bar0 := rfl
@[simp] theorem State.bar2_addCtr (s : State) (o cls i k : Nat) : (s.addCtr o cls i k).bar2 = s.bar2 := rfl
@[simp] theorem State.host_addCtr (s : State) (o cls i k : Nat) : (s.addCtr o cls i k).host = s.host := rfl
@[simp] theorem State.out_addCtr (s : State) (o cls i k : Nat) : (s.addCtr o cls i k).out = s.out := rfl
@[simp] theorem State.evt_addCtr (s : State) (o cls i k : Nat) : (s.addCtr o cls i k).evt = s.evt := rfl
@[simp] theorem State.pcie_addCtr (s : State) (o cls i k : Nat) : (s.addCtr o cls i k).pcie = s.pcie := rfl
@[simp] theorem State.haltA_addCtr (s : State) (o cls i k : Nat) : (s.addCtr o cls i k).haltA = s.haltA := rfl
@[simp] theorem State.haltB_addCtr (s : State) (o cls i k : Nat) : (s.addCtr o cls i k).haltB = s.haltB := rfl
@[simp] theorem State.gci_addCtr (s : State) (o cls i k : Nat) : (s.addCtr o cls i k).gci = s.gci := rfl
@[simp] theorem State.brim_addCtr (s : State) (o cls i k : Nat) : (s.addCtr o cls i k).brim = s.brim := rfl
@[simp] theorem State.fcu_addCtr (s : State) (o cls i k : Nat) : (s.addCtr o cls i k).fcu = s.fcu := rfl
@[simp] theorem State.fuses_addCtr (s : State) (o cls i k : Nat) : (s.addCtr o cls i k).fuses = s.fuses := rfl
@[simp] theorem State.flash_addCtr (s : State) (o cls i k : Nat) : (s.addCtr o cls i k).flash = s.flash := rfl
@[simp] theorem State.fabricOn_addCtr (s : State) (o cls i k : Nat) : (s.addCtr o cls i k).fabricOn = s.fabricOn :=
  rfl
@[simp] theorem State.pier_addCtr (s : State) (o cls i k : Nat) : (s.addCtr o cls i k).pier = s.pier := rfl
@[simp] theorem State.absentVariant_addCtr (s : State) (o cls i k : Nat) : (s.addCtr o cls i k).absentVariant = s.absentVariant := rfl
@[simp] theorem State.buf_addCtr (s : State) (o cls i k : Nat) : (s.addCtr o cls i k).buf = s.buf := rfl
@[simp] theorem State.fwd_addCtr (s : State) (o cls i k : Nat) : (s.addCtr o cls i k).fwd = s.fwd := rfl
@[simp] theorem State.egr_addCtr (s : State) (o cls i k : Nat) : (s.addCtr o cls i k).egr = s.egr := rfl
@[simp] theorem State.time_addCtr (s : State) (o cls i k : Nat) : (s.addCtr o cls i k).time = s.time := rfl
@[simp] theorem State.hbx_addCtr (s : State) (o cls i k : Nat) : (s.addCtr o cls i k).hbx = s.hbx := rfl
@[simp] theorem State.store_addCtr (s : State) (o cls i k : Nat) : (s.addCtr o cls i k).store = s.store := rfl
@[simp] theorem State.fw_addCtr (s : State) (o cls i k : Nat) : (s.addCtr o cls i k).fw = s.fw := rfl
@[simp] theorem State.hatpin_addCtr (s : State) (o cls i k : Nat) : (s.addCtr o cls i k).hatpin = s.hatpin := rfl
@[simp] theorem State.sge_addCtr (s : State) (o cls i k : Nat) : (s.addCtr o cls i k).sge = s.sge := rfl
@[simp] theorem State.chanOn_addCtr (s : State) (o cls i k : Nat) : (s.addCtr o cls i k).chanOn = s.chanOn := rfl
@[simp] theorem State.can_addCtr (s : State) (o cls i k : Nat) : (s.addCtr o cls i k).can = s.can := rfl
@[simp] theorem State.lin_addCtr (s : State) (o cls i k : Nat) : (s.addCtr o cls i k).lin = s.lin := rfl
@[simp] theorem State.spans_addCtr (s : State) (o cls i k : Nat) : (s.addCtr o cls i k).spans = s.spans := rfl
@[simp] theorem State.freeCount_addCtr (s : State) (o cls i k : Nat) : (s.addCtr o cls i k).freeCount = s.freeCount :=
  rfl
@[simp] theorem State.pending_addCtr (s : State) (o cls i k : Nat) : (s.addCtr o cls i k).pending = s.pending := rfl

/-! ### inc -/

@[simp] theorem State.regs_inc (s : State) (o cls i : Nat) : (s.inc o cls i).regs = s.regs := rfl
@[simp] theorem State.cfg_inc (s : State) (o cls i : Nat) : (s.inc o cls i).cfg = s.cfg := rfl
@[simp] theorem State.oldCfg_inc (s : State) (o cls i : Nat) : (s.inc o cls i).oldCfg = s.oldCfg := rfl
@[simp] theorem State.ctrLatch_inc (s : State) (o cls i : Nat) : (s.inc o cls i).ctrLatch = s.ctrLatch := rfl
@[simp] theorem State.strand_inc (s : State) (o cls i : Nat) : (s.inc o cls i).strand = s.strand := rfl
@[simp] theorem State.bar0_inc (s : State) (o cls i : Nat) : (s.inc o cls i).bar0 = s.bar0 := rfl
@[simp] theorem State.bar2_inc (s : State) (o cls i : Nat) : (s.inc o cls i).bar2 = s.bar2 := rfl
@[simp] theorem State.host_inc (s : State) (o cls i : Nat) : (s.inc o cls i).host = s.host := rfl
@[simp] theorem State.out_inc (s : State) (o cls i : Nat) : (s.inc o cls i).out = s.out := rfl
@[simp] theorem State.evt_inc (s : State) (o cls i : Nat) : (s.inc o cls i).evt = s.evt := rfl
@[simp] theorem State.pcie_inc (s : State) (o cls i : Nat) : (s.inc o cls i).pcie = s.pcie := rfl
@[simp] theorem State.haltA_inc (s : State) (o cls i : Nat) : (s.inc o cls i).haltA = s.haltA := rfl
@[simp] theorem State.haltB_inc (s : State) (o cls i : Nat) : (s.inc o cls i).haltB = s.haltB := rfl
@[simp] theorem State.gci_inc (s : State) (o cls i : Nat) : (s.inc o cls i).gci = s.gci := rfl
@[simp] theorem State.brim_inc (s : State) (o cls i : Nat) : (s.inc o cls i).brim = s.brim := rfl
@[simp] theorem State.fcu_inc (s : State) (o cls i : Nat) : (s.inc o cls i).fcu = s.fcu := rfl
@[simp] theorem State.fuses_inc (s : State) (o cls i : Nat) : (s.inc o cls i).fuses = s.fuses := rfl
@[simp] theorem State.flash_inc (s : State) (o cls i : Nat) : (s.inc o cls i).flash = s.flash := rfl
@[simp] theorem State.fabricOn_inc (s : State) (o cls i : Nat) : (s.inc o cls i).fabricOn = s.fabricOn := rfl
@[simp] theorem State.pier_inc (s : State) (o cls i : Nat) : (s.inc o cls i).pier = s.pier := rfl
@[simp] theorem State.absentVariant_inc (s : State) (o cls i : Nat) : (s.inc o cls i).absentVariant = s.absentVariant :=
  rfl
@[simp] theorem State.buf_inc (s : State) (o cls i : Nat) : (s.inc o cls i).buf = s.buf := rfl
@[simp] theorem State.fwd_inc (s : State) (o cls i : Nat) : (s.inc o cls i).fwd = s.fwd := rfl
@[simp] theorem State.egr_inc (s : State) (o cls i : Nat) : (s.inc o cls i).egr = s.egr := rfl
@[simp] theorem State.time_inc (s : State) (o cls i : Nat) : (s.inc o cls i).time = s.time := rfl
@[simp] theorem State.hbx_inc (s : State) (o cls i : Nat) : (s.inc o cls i).hbx = s.hbx := rfl
@[simp] theorem State.store_inc (s : State) (o cls i : Nat) : (s.inc o cls i).store = s.store := rfl
@[simp] theorem State.fw_inc (s : State) (o cls i : Nat) : (s.inc o cls i).fw = s.fw := rfl
@[simp] theorem State.hatpin_inc (s : State) (o cls i : Nat) : (s.inc o cls i).hatpin = s.hatpin := rfl
@[simp] theorem State.sge_inc (s : State) (o cls i : Nat) : (s.inc o cls i).sge = s.sge := rfl
@[simp] theorem State.chanOn_inc (s : State) (o cls i : Nat) : (s.inc o cls i).chanOn = s.chanOn := rfl
@[simp] theorem State.can_inc (s : State) (o cls i : Nat) : (s.inc o cls i).can = s.can := rfl
@[simp] theorem State.lin_inc (s : State) (o cls i : Nat) : (s.inc o cls i).lin = s.lin := rfl
@[simp] theorem State.spans_inc (s : State) (o cls i : Nat) : (s.inc o cls i).spans = s.spans := rfl
@[simp] theorem State.freeCount_inc (s : State) (o cls i : Nat) : (s.inc o cls i).freeCount = s.freeCount := rfl
@[simp] theorem State.pending_inc (s : State) (o cls i : Nat) : (s.inc o cls i).pending = s.pending := rfl

/-! ### pass -/

@[simp] theorem State.regs_pass (s : State) (n : Nat) : (s.pass n).regs = s.regs := rfl
@[simp] theorem State.cfg_pass (s : State) (n : Nat) : (s.pass n).cfg = s.cfg := rfl
@[simp] theorem State.oldCfg_pass (s : State) (n : Nat) : (s.pass n).oldCfg = s.oldCfg := rfl
@[simp] theorem State.ctrs_pass (s : State) (n : Nat) : (s.pass n).ctrs = s.ctrs := rfl
@[simp] theorem State.ctrLatch_pass (s : State) (n : Nat) : (s.pass n).ctrLatch = s.ctrLatch := rfl
@[simp] theorem State.bar0_pass (s : State) (n : Nat) : (s.pass n).bar0 = s.bar0 := rfl
@[simp] theorem State.bar2_pass (s : State) (n : Nat) : (s.pass n).bar2 = s.bar2 := rfl
@[simp] theorem State.host_pass (s : State) (n : Nat) : (s.pass n).host = s.host := rfl
@[simp] theorem State.out_pass (s : State) (n : Nat) : (s.pass n).out = s.out := rfl
@[simp] theorem State.evt_pass (s : State) (n : Nat) : (s.pass n).evt = s.evt := rfl
@[simp] theorem State.pcie_pass (s : State) (n : Nat) : (s.pass n).pcie = s.pcie := rfl
@[simp] theorem State.haltA_pass (s : State) (n : Nat) : (s.pass n).haltA = s.haltA := rfl
@[simp] theorem State.haltB_pass (s : State) (n : Nat) : (s.pass n).haltB = s.haltB := rfl
@[simp] theorem State.gci_pass (s : State) (n : Nat) : (s.pass n).gci = s.gci := rfl
@[simp] theorem State.fcu_pass (s : State) (n : Nat) : (s.pass n).fcu = s.fcu := rfl
@[simp] theorem State.fuses_pass (s : State) (n : Nat) : (s.pass n).fuses = s.fuses := rfl
@[simp] theorem State.flash_pass (s : State) (n : Nat) : (s.pass n).flash = s.flash := rfl
@[simp] theorem State.fabricOn_pass (s : State) (n : Nat) : (s.pass n).fabricOn = s.fabricOn := rfl
@[simp] theorem State.pier_pass (s : State) (n : Nat) : (s.pass n).pier = s.pier := rfl
@[simp] theorem State.absentVariant_pass (s : State) (n : Nat) : (s.pass n).absentVariant = s.absentVariant := rfl
@[simp] theorem State.buf_pass (s : State) (n : Nat) : (s.pass n).buf = s.buf := rfl
@[simp] theorem State.fwd_pass (s : State) (n : Nat) : (s.pass n).fwd = s.fwd := rfl
@[simp] theorem State.egr_pass (s : State) (n : Nat) : (s.pass n).egr = s.egr := rfl
@[simp] theorem State.time_pass (s : State) (n : Nat) : (s.pass n).time = s.time := rfl
@[simp] theorem State.hbx_pass (s : State) (n : Nat) : (s.pass n).hbx = s.hbx := rfl
@[simp] theorem State.store_pass (s : State) (n : Nat) : (s.pass n).store = s.store := rfl
@[simp] theorem State.fw_pass (s : State) (n : Nat) : (s.pass n).fw = s.fw := rfl
@[simp] theorem State.hatpin_pass (s : State) (n : Nat) : (s.pass n).hatpin = s.hatpin := rfl
@[simp] theorem State.sge_pass (s : State) (n : Nat) : (s.pass n).sge = s.sge := rfl
@[simp] theorem State.chanOn_pass (s : State) (n : Nat) : (s.pass n).chanOn = s.chanOn := rfl
@[simp] theorem State.can_pass (s : State) (n : Nat) : (s.pass n).can = s.can := rfl
@[simp] theorem State.lin_pass (s : State) (n : Nat) : (s.pass n).lin = s.lin := rfl
@[simp] theorem State.spans_pass (s : State) (n : Nat) : (s.pass n).spans = s.spans := rfl
@[simp] theorem State.freeCount_pass (s : State) (n : Nat) : (s.pass n).freeCount = s.freeCount := rfl
@[simp] theorem State.pending_pass (s : State) (n : Nat) : (s.pass n).pending = s.pending := rfl

/-! ### setCell -/

@[simp] theorem State.regs_setCell (s : State) (c : Nat) (v : Cell) : (s.setCell c v).regs = s.regs := rfl
@[simp] theorem State.cfg_setCell (s : State) (c : Nat) (v : Cell) : (s.setCell c v).cfg = s.cfg := rfl
@[simp] theorem State.ctrs_setCell (s : State) (c : Nat) (v : Cell) : (s.setCell c v).ctrs = s.ctrs := rfl
@[simp] theorem State.strand_setCell (s : State) (c : Nat) (v : Cell) : (s.setCell c v).strand = s.strand := rfl
@[simp] theorem State.gci_setCell (s : State) (c : Nat) (v : Cell) : (s.setCell c v).gci = s.gci := rfl
@[simp] theorem State.brim_setCell (s : State) (c : Nat) (v : Cell) : (s.setCell c v).brim = s.brim := rfl
@[simp] theorem State.bar0_setCell (s : State) (c : Nat) (v : Cell) : (s.setCell c v).bar0 = s.bar0 := rfl
@[simp] theorem State.pending_setCell (s : State) (c : Nat) (v : Cell) : (s.setCell c v).pending = s.pending := rfl

/-! ### setDesc -/

@[simp] theorem State.regs_setDesc (s : State) (d : Nat) (v : Desc) : (s.setDesc d v).regs = s.regs := rfl
@[simp] theorem State.cfg_setDesc (s : State) (d : Nat) (v : Desc) : (s.setDesc d v).cfg = s.cfg := rfl
@[simp] theorem State.ctrs_setDesc (s : State) (d : Nat) (v : Desc) : (s.setDesc d v).ctrs = s.ctrs := rfl
@[simp] theorem State.strand_setDesc (s : State) (d : Nat) (v : Desc) : (s.setDesc d v).strand = s.strand := rfl
@[simp] theorem State.gci_setDesc (s : State) (d : Nat) (v : Desc) : (s.setDesc d v).gci = s.gci := rfl
@[simp] theorem State.brim_setDesc (s : State) (d : Nat) (v : Desc) : (s.setDesc d v).brim = s.brim := rfl
@[simp] theorem State.bar0_setDesc (s : State) (d : Nat) (v : Desc) : (s.setDesc d v).bar0 = s.bar0 := rfl
@[simp] theorem State.pending_setDesc (s : State) (d : Nat) (v : Desc) : (s.setDesc d v).pending = s.pending := rfl

/-! ### setPort -/

@[simp] theorem State.regs_setPort (s : State) (p : Nat) (v : EthPort) : (s.setPort p v).regs = s.regs := rfl
@[simp] theorem State.cfg_setPort (s : State) (p : Nat) (v : EthPort) : (s.setPort p v).cfg = s.cfg := rfl
@[simp] theorem State.ctrs_setPort (s : State) (p : Nat) (v : EthPort) : (s.setPort p v).ctrs = s.ctrs := rfl
@[simp] theorem State.strand_setPort (s : State) (p : Nat) (v : EthPort) : (s.setPort p v).strand = s.strand := rfl
@[simp] theorem State.gci_setPort (s : State) (p : Nat) (v : EthPort) : (s.setPort p v).gci = s.gci := rfl
@[simp] theorem State.brim_setPort (s : State) (p : Nat) (v : EthPort) : (s.setPort p v).brim = s.brim := rfl
@[simp] theorem State.bar0_setPort (s : State) (p : Nat) (v : EthPort) : (s.setPort p v).bar0 = s.bar0 := rfl
@[simp] theorem State.pending_setPort (s : State) (p : Nat) (v : EthPort) : (s.setPort p v).pending = s.pending := rfl

/-! ### setGate -/

@[simp] theorem State.regs_setGate (s : State) (p : Nat) (g : GateSt) : (s.setGate p g).regs = s.regs := rfl
@[simp] theorem State.cfg_setGate (s : State) (p : Nat) (g : GateSt) : (s.setGate p g).cfg = s.cfg := rfl
@[simp] theorem State.ctrs_setGate (s : State) (p : Nat) (g : GateSt) : (s.setGate p g).ctrs = s.ctrs := rfl
@[simp] theorem State.strand_setGate (s : State) (p : Nat) (g : GateSt) : (s.setGate p g).strand = s.strand := rfl
@[simp] theorem State.gci_setGate (s : State) (p : Nat) (g : GateSt) : (s.setGate p g).gci = s.gci := rfl
@[simp] theorem State.brim_setGate (s : State) (p : Nat) (g : GateSt) : (s.setGate p g).brim = s.brim := rfl
@[simp] theorem State.bar0_setGate (s : State) (p : Nat) (g : GateSt) : (s.setGate p g).bar0 = s.bar0 := rfl
@[simp] theorem State.pending_setGate (s : State) (p : Nat) (g : GateSt) : (s.setGate p g).pending = s.pending := rfl

/-! ### setTag -/

@[simp] theorem State.regs_setTag (s : State) (q : Nat) (v : QTag) : (s.setTag q v).regs = s.regs := rfl
@[simp] theorem State.cfg_setTag (s : State) (q : Nat) (v : QTag) : (s.setTag q v).cfg = s.cfg := rfl
@[simp] theorem State.ctrs_setTag (s : State) (q : Nat) (v : QTag) : (s.setTag q v).ctrs = s.ctrs := rfl
@[simp] theorem State.strand_setTag (s : State) (q : Nat) (v : QTag) : (s.setTag q v).strand = s.strand := rfl
@[simp] theorem State.gci_setTag (s : State) (q : Nat) (v : QTag) : (s.setTag q v).gci = s.gci := rfl
@[simp] theorem State.brim_setTag (s : State) (q : Nat) (v : QTag) : (s.setTag q v).brim = s.brim := rfl
@[simp] theorem State.bar0_setTag (s : State) (q : Nat) (v : QTag) : (s.setTag q v).bar0 = s.bar0 := rfl
@[simp] theorem State.pending_setTag (s : State) (q : Nat) (v : QTag) : (s.setTag q v).pending = s.pending := rfl

/-! ### setBundle -/

@[simp] theorem State.regs_setBundle (s : State) (b : Nat) (v : Bundle) : (s.setBundle b v).regs = s.regs := rfl
@[simp] theorem State.cfg_setBundle (s : State) (b : Nat) (v : Bundle) : (s.setBundle b v).cfg = s.cfg := rfl
@[simp] theorem State.ctrs_setBundle (s : State) (b : Nat) (v : Bundle) : (s.setBundle b v).ctrs = s.ctrs := rfl
@[simp] theorem State.strand_setBundle (s : State) (b : Nat) (v : Bundle) : (s.setBundle b v).strand = s.strand := rfl
@[simp] theorem State.gci_setBundle (s : State) (b : Nat) (v : Bundle) : (s.setBundle b v).gci = s.gci := rfl
@[simp] theorem State.brim_setBundle (s : State) (b : Nat) (v : Bundle) : (s.setBundle b v).brim = s.brim := rfl
@[simp] theorem State.bar0_setBundle (s : State) (b : Nat) (v : Bundle) : (s.setBundle b v).bar0 = s.bar0 := rfl
@[simp] theorem State.pending_setBundle (s : State) (b : Nat) (v : Bundle) : (s.setBundle b v).pending = s.pending :=
  rfl

/-! ### setCan -/

@[simp] theorem State.regs_setCan (s : State) (n : Nat) (v : CanLane) : (s.setCan n v).regs = s.regs := rfl
@[simp] theorem State.cfg_setCan (s : State) (n : Nat) (v : CanLane) : (s.setCan n v).cfg = s.cfg := rfl
@[simp] theorem State.ctrs_setCan (s : State) (n : Nat) (v : CanLane) : (s.setCan n v).ctrs = s.ctrs := rfl
@[simp] theorem State.strand_setCan (s : State) (n : Nat) (v : CanLane) : (s.setCan n v).strand = s.strand := rfl
@[simp] theorem State.gci_setCan (s : State) (n : Nat) (v : CanLane) : (s.setCan n v).gci = s.gci := rfl
@[simp] theorem State.brim_setCan (s : State) (n : Nat) (v : CanLane) : (s.setCan n v).brim = s.brim := rfl
@[simp] theorem State.bar0_setCan (s : State) (n : Nat) (v : CanLane) : (s.setCan n v).bar0 = s.bar0 := rfl
@[simp] theorem State.pending_setCan (s : State) (n : Nat) (v : CanLane) : (s.setCan n v).pending = s.pending := rfl

/-! ### setMeter -/

@[simp] theorem State.regs_setMeter (s : State) (m : Nat) (v : MeterSt) : (s.setMeter m v).regs = s.regs := rfl
@[simp] theorem State.cfg_setMeter (s : State) (m : Nat) (v : MeterSt) : (s.setMeter m v).cfg = s.cfg := rfl
@[simp] theorem State.ctrs_setMeter (s : State) (m : Nat) (v : MeterSt) : (s.setMeter m v).ctrs = s.ctrs := rfl
@[simp] theorem State.strand_setMeter (s : State) (m : Nat) (v : MeterSt) : (s.setMeter m v).strand = s.strand := rfl
@[simp] theorem State.gci_setMeter (s : State) (m : Nat) (v : MeterSt) : (s.setMeter m v).gci = s.gci := rfl
@[simp] theorem State.brim_setMeter (s : State) (m : Nat) (v : MeterSt) : (s.setMeter m v).brim = s.brim := rfl
@[simp] theorem State.bar0_setMeter (s : State) (m : Nat) (v : MeterSt) : (s.setMeter m v).bar0 = s.bar0 := rfl
@[simp] theorem State.pending_setMeter (s : State) (m : Nat) (v : MeterSt) : (s.setMeter m v).pending = s.pending :=
  rfl

/-! ### setRate -/

@[simp] theorem State.regs_setRate (s : State) (r : Nat) (v : RateSt) : (s.setRate r v).regs = s.regs := rfl
@[simp] theorem State.cfg_setRate (s : State) (r : Nat) (v : RateSt) : (s.setRate r v).cfg = s.cfg := rfl
@[simp] theorem State.ctrs_setRate (s : State) (r : Nat) (v : RateSt) : (s.setRate r v).ctrs = s.ctrs := rfl
@[simp] theorem State.strand_setRate (s : State) (r : Nat) (v : RateSt) : (s.setRate r v).strand = s.strand := rfl
@[simp] theorem State.gci_setRate (s : State) (r : Nat) (v : RateSt) : (s.setRate r v).gci = s.gci := rfl
@[simp] theorem State.brim_setRate (s : State) (r : Nat) (v : RateSt) : (s.setRate r v).brim = s.brim := rfl
@[simp] theorem State.bar0_setRate (s : State) (r : Nat) (v : RateSt) : (s.setRate r v).bar0 = s.bar0 := rfl
@[simp] theorem State.pending_setRate (s : State) (r : Nat) (v : RateSt) : (s.setRate r v).pending = s.pending := rfl

/-! ### setFrer -/

@[simp] theorem State.regs_setFrer (s : State) (f : Nat) (v : FrerSt) : (s.setFrer f v).regs = s.regs := rfl
@[simp] theorem State.cfg_setFrer (s : State) (f : Nat) (v : FrerSt) : (s.setFrer f v).cfg = s.cfg := rfl
@[simp] theorem State.ctrs_setFrer (s : State) (f : Nat) (v : FrerSt) : (s.setFrer f v).ctrs = s.ctrs := rfl
@[simp] theorem State.strand_setFrer (s : State) (f : Nat) (v : FrerSt) : (s.setFrer f v).strand = s.strand := rfl
@[simp] theorem State.gci_setFrer (s : State) (f : Nat) (v : FrerSt) : (s.setFrer f v).gci = s.gci := rfl
@[simp] theorem State.brim_setFrer (s : State) (f : Nat) (v : FrerSt) : (s.setFrer f v).brim = s.brim := rfl
@[simp] theorem State.bar0_setFrer (s : State) (f : Nat) (v : FrerSt) : (s.setFrer f v).bar0 = s.bar0 := rfl
@[simp] theorem State.pending_setFrer (s : State) (f : Nat) (v : FrerSt) : (s.setFrer f v).pending = s.pending := rfl

/-! ### setRx -/

@[simp] theorem State.regs_setRx (s : State) (id : Nat) (f : RxFrame) : (s.setRx id f).regs = s.regs := rfl
@[simp] theorem State.cfg_setRx (s : State) (id : Nat) (f : RxFrame) : (s.setRx id f).cfg = s.cfg := rfl
@[simp] theorem State.ctrs_setRx (s : State) (id : Nat) (f : RxFrame) : (s.setRx id f).ctrs = s.ctrs := rfl
@[simp] theorem State.strand_setRx (s : State) (id : Nat) (f : RxFrame) : (s.setRx id f).strand = s.strand := rfl
@[simp] theorem State.gci_setRx (s : State) (id : Nat) (f : RxFrame) : (s.setRx id f).gci = s.gci := rfl
@[simp] theorem State.brim_setRx (s : State) (id : Nat) (f : RxFrame) : (s.setRx id f).brim = s.brim := rfl
@[simp] theorem State.bar0_setRx (s : State) (id : Nat) (f : RxFrame) : (s.setRx id f).bar0 = s.bar0 := rfl
@[simp] theorem State.pending_setRx (s : State) (id : Nat) (f : RxFrame) : (s.setRx id f).pending = s.pending := rfl

/-! ### setEvq -/

@[simp] theorem State.regs_setEvq (s : State) (q : Nat) (v : EvQueue) : (s.setEvq q v).regs = s.regs := rfl
@[simp] theorem State.cfg_setEvq (s : State) (q : Nat) (v : EvQueue) : (s.setEvq q v).cfg = s.cfg := rfl
@[simp] theorem State.ctrs_setEvq (s : State) (q : Nat) (v : EvQueue) : (s.setEvq q v).ctrs = s.ctrs := rfl
@[simp] theorem State.strand_setEvq (s : State) (q : Nat) (v : EvQueue) : (s.setEvq q v).strand = s.strand := rfl
@[simp] theorem State.gci_setEvq (s : State) (q : Nat) (v : EvQueue) : (s.setEvq q v).gci = s.gci := rfl
@[simp] theorem State.brim_setEvq (s : State) (q : Nat) (v : EvQueue) : (s.setEvq q v).brim = s.brim := rfl
@[simp] theorem State.bar0_setEvq (s : State) (q : Nat) (v : EvQueue) : (s.setEvq q v).bar0 = s.bar0 := rfl
@[simp] theorem State.pending_setEvq (s : State) (q : Nat) (v : EvQueue) : (s.setEvq q v).pending = s.pending := rfl

/-! ### setEvRec -/

@[simp] theorem State.regs_setEvRec (s : State) (q k : Nat) (r : EvRec) : (s.setEvRec q k r).regs = s.regs := rfl
@[simp] theorem State.cfg_setEvRec (s : State) (q k : Nat) (r : EvRec) : (s.setEvRec q k r).cfg = s.cfg := rfl
@[simp] theorem State.ctrs_setEvRec (s : State) (q k : Nat) (r : EvRec) : (s.setEvRec q k r).ctrs = s.ctrs := rfl
@[simp] theorem State.strand_setEvRec (s : State) (q k : Nat) (r : EvRec) : (s.setEvRec q k r).strand = s.strand :=
  rfl
@[simp] theorem State.gci_setEvRec (s : State) (q k : Nat) (r : EvRec) : (s.setEvRec q k r).gci = s.gci := rfl
@[simp] theorem State.brim_setEvRec (s : State) (q k : Nat) (r : EvRec) : (s.setEvRec q k r).brim = s.brim := rfl
@[simp] theorem State.bar0_setEvRec (s : State) (q k : Nat) (r : EvRec) : (s.setEvRec q k r).bar0 = s.bar0 := rfl
@[simp] theorem State.pending_setEvRec (s : State) (q k : Nat) (r : EvRec) : (s.setEvRec q k r).pending = s.pending :=
  rfl

/-! ### setRoute -/

@[simp] theorem State.regs_setRoute (s : State) (src r : Nat) (v : RouteSt) : (s.setRoute src r v).regs = s.regs :=
  rfl
@[simp] theorem State.cfg_setRoute (s : State) (src r : Nat) (v : RouteSt) : (s.setRoute src r v).cfg = s.cfg := rfl
@[simp] theorem State.ctrs_setRoute (s : State) (src r : Nat) (v : RouteSt) : (s.setRoute src r v).ctrs = s.ctrs :=
  rfl
@[simp] theorem State.strand_setRoute (s : State) (src r : Nat) (v : RouteSt) : (s.setRoute src r v).strand = s.strand :=
  rfl
@[simp] theorem State.gci_setRoute (s : State) (src r : Nat) (v : RouteSt) : (s.setRoute src r v).gci = s.gci := rfl
@[simp] theorem State.brim_setRoute (s : State) (src r : Nat) (v : RouteSt) : (s.setRoute src r v).brim = s.brim :=
  rfl
@[simp] theorem State.bar0_setRoute (s : State) (src r : Nat) (v : RouteSt) : (s.setRoute src r v).bar0 = s.bar0 :=
  rfl
@[simp] theorem State.pending_setRoute (s : State) (src r : Nat) (v : RouteSt) : (s.setRoute src r v).pending = s.pending := rfl

/-! ### setFresh -/

@[simp] theorem State.regs_setFresh (s : State) (c : Nat) (v : Fresh) : (s.setFresh c v).regs = s.regs := rfl
@[simp] theorem State.cfg_setFresh (s : State) (c : Nat) (v : Fresh) : (s.setFresh c v).cfg = s.cfg := rfl
@[simp] theorem State.ctrs_setFresh (s : State) (c : Nat) (v : Fresh) : (s.setFresh c v).ctrs = s.ctrs := rfl
@[simp] theorem State.strand_setFresh (s : State) (c : Nat) (v : Fresh) : (s.setFresh c v).strand = s.strand := rfl
@[simp] theorem State.gci_setFresh (s : State) (c : Nat) (v : Fresh) : (s.setFresh c v).gci = s.gci := rfl
@[simp] theorem State.brim_setFresh (s : State) (c : Nat) (v : Fresh) : (s.setFresh c v).brim = s.brim := rfl
@[simp] theorem State.bar0_setFresh (s : State) (c : Nat) (v : Fresh) : (s.setFresh c v).bar0 = s.bar0 := rfl
@[simp] theorem State.pending_setFresh (s : State) (c : Nat) (v : Fresh) : (s.setFresh c v).pending = s.pending := rfl

/-! ### setClock -/

@[simp] theorem State.regs_setClock (s : State) (k : Nat) (v : ClockSt) : (s.setClock k v).regs = s.regs := rfl
@[simp] theorem State.cfg_setClock (s : State) (k : Nat) (v : ClockSt) : (s.setClock k v).cfg = s.cfg := rfl
@[simp] theorem State.ctrs_setClock (s : State) (k : Nat) (v : ClockSt) : (s.setClock k v).ctrs = s.ctrs := rfl
@[simp] theorem State.strand_setClock (s : State) (k : Nat) (v : ClockSt) : (s.setClock k v).strand = s.strand := rfl
@[simp] theorem State.gci_setClock (s : State) (k : Nat) (v : ClockSt) : (s.setClock k v).gci = s.gci := rfl
@[simp] theorem State.brim_setClock (s : State) (k : Nat) (v : ClockSt) : (s.setClock k v).brim = s.brim := rfl
@[simp] theorem State.bar0_setClock (s : State) (k : Nat) (v : ClockSt) : (s.setClock k v).bar0 = s.bar0 := rfl
@[simp] theorem State.pending_setClock (s : State) (k : Nat) (v : ClockSt) : (s.setClock k v).pending = s.pending :=
  rfl

/-! ### setSlot -/

@[simp] theorem State.regs_setSlot (s : State) (k : Nat) (v : KeySlot) : (s.setSlot k v).regs = s.regs := rfl
@[simp] theorem State.cfg_setSlot (s : State) (k : Nat) (v : KeySlot) : (s.setSlot k v).cfg = s.cfg := rfl
@[simp] theorem State.ctrs_setSlot (s : State) (k : Nat) (v : KeySlot) : (s.setSlot k v).ctrs = s.ctrs := rfl
@[simp] theorem State.strand_setSlot (s : State) (k : Nat) (v : KeySlot) : (s.setSlot k v).strand = s.strand := rfl
@[simp] theorem State.gci_setSlot (s : State) (k : Nat) (v : KeySlot) : (s.setSlot k v).gci = s.gci := rfl
@[simp] theorem State.brim_setSlot (s : State) (k : Nat) (v : KeySlot) : (s.setSlot k v).brim = s.brim := rfl
@[simp] theorem State.bar0_setSlot (s : State) (k : Nat) (v : KeySlot) : (s.setSlot k v).bar0 = s.bar0 := rfl
@[simp] theorem State.pending_setSlot (s : State) (k : Nat) (v : KeySlot) : (s.setSlot k v).pending = s.pending := rfl

/-! ### setAssoc -/

@[simp] theorem State.regs_setAssoc (s : State) (p i : Nat) (v : SecAssoc) : (s.setAssoc p i v).regs = s.regs := rfl
@[simp] theorem State.cfg_setAssoc (s : State) (p i : Nat) (v : SecAssoc) : (s.setAssoc p i v).cfg = s.cfg := rfl
@[simp] theorem State.ctrs_setAssoc (s : State) (p i : Nat) (v : SecAssoc) : (s.setAssoc p i v).ctrs = s.ctrs := rfl
@[simp] theorem State.strand_setAssoc (s : State) (p i : Nat) (v : SecAssoc) : (s.setAssoc p i v).strand = s.strand :=
  rfl
@[simp] theorem State.gci_setAssoc (s : State) (p i : Nat) (v : SecAssoc) : (s.setAssoc p i v).gci = s.gci := rfl
@[simp] theorem State.brim_setAssoc (s : State) (p i : Nat) (v : SecAssoc) : (s.setAssoc p i v).brim = s.brim := rfl
@[simp] theorem State.bar0_setAssoc (s : State) (p i : Nat) (v : SecAssoc) : (s.setAssoc p i v).bar0 = s.bar0 := rfl
@[simp] theorem State.pending_setAssoc (s : State) (p i : Nat) (v : SecAssoc) : (s.setAssoc p i v).pending = s.pending :=
  rfl

/-! ### setLin -/

@[simp] theorem State.regs_setLin (s : State) (n : Nat) (v : LinLane) : (s.setLin n v).regs = s.regs := rfl
@[simp] theorem State.cfg_setLin (s : State) (n : Nat) (v : LinLane) : (s.setLin n v).cfg = s.cfg := rfl
@[simp] theorem State.ctrs_setLin (s : State) (n : Nat) (v : LinLane) : (s.setLin n v).ctrs = s.ctrs := rfl
@[simp] theorem State.strand_setLin (s : State) (n : Nat) (v : LinLane) : (s.setLin n v).strand = s.strand := rfl
@[simp] theorem State.gci_setLin (s : State) (n : Nat) (v : LinLane) : (s.setLin n v).gci = s.gci := rfl
@[simp] theorem State.brim_setLin (s : State) (n : Nat) (v : LinLane) : (s.setLin n v).brim = s.brim := rfl
@[simp] theorem State.bar0_setLin (s : State) (n : Nat) (v : LinLane) : (s.setLin n v).bar0 = s.bar0 := rfl
@[simp] theorem State.pending_setLin (s : State) (n : Nat) (v : LinLane) : (s.setLin n v).pending = s.pending := rfl

/-! ### setPublish -/

@[simp] theorem State.regs_setPublish (s : State) (n id : Nat) (p : Publish) : (s.setPublish n id p).regs = s.regs :=
  rfl
@[simp] theorem State.cfg_setPublish (s : State) (n id : Nat) (p : Publish) : (s.setPublish n id p).cfg = s.cfg := rfl
@[simp] theorem State.ctrs_setPublish (s : State) (n id : Nat) (p : Publish) : (s.setPublish n id p).ctrs = s.ctrs :=
  rfl
@[simp] theorem State.strand_setPublish (s : State) (n id : Nat) (p : Publish) : (s.setPublish n id p).strand = s.strand := rfl
@[simp] theorem State.gci_setPublish (s : State) (n id : Nat) (p : Publish) : (s.setPublish n id p).gci = s.gci := rfl
@[simp] theorem State.brim_setPublish (s : State) (n id : Nat) (p : Publish) : (s.setPublish n id p).brim = s.brim :=
  rfl
@[simp] theorem State.bar0_setPublish (s : State) (n id : Nat) (p : Publish) : (s.setPublish n id p).bar0 = s.bar0 :=
  rfl
@[simp] theorem State.pending_setPublish (s : State) (n id : Nat) (p : Publish) : (s.setPublish n id p).pending = s.pending := rfl

/-! ### setPierPort -/

@[simp] theorem State.regs_setPierPort (s : State) (p : Nat) (v : PierPort) : (s.setPierPort p v).regs = s.regs := rfl
@[simp] theorem State.cfg_setPierPort (s : State) (p : Nat) (v : PierPort) : (s.setPierPort p v).cfg = s.cfg := rfl
@[simp] theorem State.ctrs_setPierPort (s : State) (p : Nat) (v : PierPort) : (s.setPierPort p v).ctrs = s.ctrs := rfl
@[simp] theorem State.strand_setPierPort (s : State) (p : Nat) (v : PierPort) : (s.setPierPort p v).strand = s.strand :=
  rfl
@[simp] theorem State.gci_setPierPort (s : State) (p : Nat) (v : PierPort) : (s.setPierPort p v).gci = s.gci := rfl
@[simp] theorem State.brim_setPierPort (s : State) (p : Nat) (v : PierPort) : (s.setPierPort p v).brim = s.brim := rfl
@[simp] theorem State.bar0_setPierPort (s : State) (p : Nat) (v : PierPort) : (s.setPierPort p v).bar0 = s.bar0 := rfl
@[simp] theorem State.pending_setPierPort (s : State) (p : Nat) (v : PierPort) : (s.setPierPort p v).pending = s.pending := rfl

/-! ### setDeckInfo -/

@[simp] theorem State.regs_setDeckInfo (s : State) (d : Nat) (v : DeckInfo) : (s.setDeckInfo d v).regs = s.regs := rfl
@[simp] theorem State.cfg_setDeckInfo (s : State) (d : Nat) (v : DeckInfo) : (s.setDeckInfo d v).cfg = s.cfg := rfl
@[simp] theorem State.ctrs_setDeckInfo (s : State) (d : Nat) (v : DeckInfo) : (s.setDeckInfo d v).ctrs = s.ctrs := rfl
@[simp] theorem State.strand_setDeckInfo (s : State) (d : Nat) (v : DeckInfo) : (s.setDeckInfo d v).strand = s.strand :=
  rfl
@[simp] theorem State.gci_setDeckInfo (s : State) (d : Nat) (v : DeckInfo) : (s.setDeckInfo d v).gci = s.gci := rfl
@[simp] theorem State.brim_setDeckInfo (s : State) (d : Nat) (v : DeckInfo) : (s.setDeckInfo d v).brim = s.brim := rfl
@[simp] theorem State.bar0_setDeckInfo (s : State) (d : Nat) (v : DeckInfo) : (s.setDeckInfo d v).bar0 = s.bar0 := rfl
@[simp] theorem State.pending_setDeckInfo (s : State) (d : Nat) (v : DeckInfo) : (s.setDeckInfo d v).pending = s.pending := rfl

/-! ### setSignal -/

@[simp] theorem State.regs_setSignal (s : State) (i : Nat) (v : Signal) : (s.setSignal i v).regs = s.regs := rfl
@[simp] theorem State.cfg_setSignal (s : State) (i : Nat) (v : Signal) : (s.setSignal i v).cfg = s.cfg := rfl
@[simp] theorem State.ctrs_setSignal (s : State) (i : Nat) (v : Signal) : (s.setSignal i v).ctrs = s.ctrs := rfl
@[simp] theorem State.strand_setSignal (s : State) (i : Nat) (v : Signal) : (s.setSignal i v).strand = s.strand := rfl
@[simp] theorem State.gci_setSignal (s : State) (i : Nat) (v : Signal) : (s.setSignal i v).gci = s.gci := rfl
@[simp] theorem State.brim_setSignal (s : State) (i : Nat) (v : Signal) : (s.setSignal i v).brim = s.brim := rfl
@[simp] theorem State.bar0_setSignal (s : State) (i : Nat) (v : Signal) : (s.setSignal i v).bar0 = s.bar0 := rfl
@[simp] theorem State.pending_setSignal (s : State) (i : Nat) (v : Signal) : (s.setSignal i v).pending = s.pending :=
  rfl

/-! ### setPdu -/

@[simp] theorem State.regs_setPdu (s : State) (i : Nat) (v : PduSt) : (s.setPdu i v).regs = s.regs := rfl
@[simp] theorem State.cfg_setPdu (s : State) (i : Nat) (v : PduSt) : (s.setPdu i v).cfg = s.cfg := rfl
@[simp] theorem State.ctrs_setPdu (s : State) (i : Nat) (v : PduSt) : (s.setPdu i v).ctrs = s.ctrs := rfl
@[simp] theorem State.strand_setPdu (s : State) (i : Nat) (v : PduSt) : (s.setPdu i v).strand = s.strand := rfl
@[simp] theorem State.gci_setPdu (s : State) (i : Nat) (v : PduSt) : (s.setPdu i v).gci = s.gci := rfl
@[simp] theorem State.brim_setPdu (s : State) (i : Nat) (v : PduSt) : (s.setPdu i v).brim = s.brim := rfl
@[simp] theorem State.bar0_setPdu (s : State) (i : Nat) (v : PduSt) : (s.setPdu i v).bar0 = s.bar0 := rfl
@[simp] theorem State.pending_setPdu (s : State) (i : Nat) (v : PduSt) : (s.setPdu i v).pending = s.pending := rfl

/-! ### setTimer -/

@[simp] theorem State.regs_setTimer (s : State) (i : Nat) (v : PduTimer) : (s.setTimer i v).regs = s.regs := rfl
@[simp] theorem State.cfg_setTimer (s : State) (i : Nat) (v : PduTimer) : (s.setTimer i v).cfg = s.cfg := rfl
@[simp] theorem State.ctrs_setTimer (s : State) (i : Nat) (v : PduTimer) : (s.setTimer i v).ctrs = s.ctrs := rfl
@[simp] theorem State.strand_setTimer (s : State) (i : Nat) (v : PduTimer) : (s.setTimer i v).strand = s.strand := rfl
@[simp] theorem State.gci_setTimer (s : State) (i : Nat) (v : PduTimer) : (s.setTimer i v).gci = s.gci := rfl
@[simp] theorem State.brim_setTimer (s : State) (i : Nat) (v : PduTimer) : (s.setTimer i v).brim = s.brim := rfl
@[simp] theorem State.bar0_setTimer (s : State) (i : Nat) (v : PduTimer) : (s.setTimer i v).bar0 = s.bar0 := rfl
@[simp] theorem State.pending_setTimer (s : State) (i : Nat) (v : PduTimer) : (s.setTimer i v).pending = s.pending :=
  rfl

/-! ### setExecutor -/

@[simp] theorem State.cfg_setExecutor (s : State) (e : Nat) (r : Option Running) : (s.setExecutor e r).cfg = s.cfg :=
  rfl
@[simp] theorem State.ctrs_setExecutor (s : State) (e : Nat) (r : Option Running) : (s.setExecutor e r).ctrs = s.ctrs :=
  rfl
@[simp] theorem State.strand_setExecutor (s : State) (e : Nat) (r : Option Running) : (s.setExecutor e r).strand = s.strand := rfl
@[simp] theorem State.gci_setExecutor (s : State) (e : Nat) (r : Option Running) : (s.setExecutor e r).gci = s.gci :=
  rfl
@[simp] theorem State.brim_setExecutor (s : State) (e : Nat) (r : Option Running) : (s.setExecutor e r).brim = s.brim :=
  rfl
@[simp] theorem State.bar0_setExecutor (s : State) (e : Nat) (r : Option Running) : (s.setExecutor e r).bar0 = s.bar0 :=
  rfl
@[simp] theorem State.pending_setExecutor (s : State) (e : Nat) (r : Option Running) : (s.setExecutor e r).pending = s.pending := rfl

/-! ### setReady -/

@[simp] theorem State.cfg_setReady (s : State) (l : List SgeJob) : (s.setReady l).cfg = s.cfg := rfl
@[simp] theorem State.ctrs_setReady (s : State) (l : List SgeJob) : (s.setReady l).ctrs = s.ctrs := rfl
@[simp] theorem State.strand_setReady (s : State) (l : List SgeJob) : (s.setReady l).strand = s.strand := rfl
@[simp] theorem State.gci_setReady (s : State) (l : List SgeJob) : (s.setReady l).gci = s.gci := rfl
@[simp] theorem State.brim_setReady (s : State) (l : List SgeJob) : (s.setReady l).brim = s.brim := rfl
@[simp] theorem State.bar0_setReady (s : State) (l : List SgeJob) : (s.setReady l).bar0 = s.bar0 := rfl
@[simp] theorem State.pending_setReady (s : State) (l : List SgeJob) : (s.setReady l).pending = s.pending := rfl

/-! ### setSpan -/

@[simp] theorem State.regs_setSpan (s : State) (i : Nat) (v : SpanSt) : (s.setSpan i v).regs = s.regs := rfl
@[simp] theorem State.cfg_setSpan (s : State) (i : Nat) (v : SpanSt) : (s.setSpan i v).cfg = s.cfg := rfl
@[simp] theorem State.ctrs_setSpan (s : State) (i : Nat) (v : SpanSt) : (s.setSpan i v).ctrs = s.ctrs := rfl
@[simp] theorem State.strand_setSpan (s : State) (i : Nat) (v : SpanSt) : (s.setSpan i v).strand = s.strand := rfl
@[simp] theorem State.gci_setSpan (s : State) (i : Nat) (v : SpanSt) : (s.setSpan i v).gci = s.gci := rfl
@[simp] theorem State.brim_setSpan (s : State) (i : Nat) (v : SpanSt) : (s.setSpan i v).brim = s.brim := rfl
@[simp] theorem State.bar0_setSpan (s : State) (i : Nat) (v : SpanSt) : (s.setSpan i v).bar0 = s.bar0 := rfl
@[simp] theorem State.pending_setSpan (s : State) (i : Nat) (v : SpanSt) : (s.setSpan i v).pending = s.pending := rfl

/-! ### setDomain -/

@[simp] theorem State.regs_setDomain (s : State) (d : Nat) (v : DomainSt) : (s.setDomain d v).regs = s.regs := rfl
@[simp] theorem State.cfg_setDomain (s : State) (d : Nat) (v : DomainSt) : (s.setDomain d v).cfg = s.cfg := rfl
@[simp] theorem State.ctrs_setDomain (s : State) (d : Nat) (v : DomainSt) : (s.setDomain d v).ctrs = s.ctrs := rfl
@[simp] theorem State.strand_setDomain (s : State) (d : Nat) (v : DomainSt) : (s.setDomain d v).strand = s.strand :=
  rfl
@[simp] theorem State.gci_setDomain (s : State) (d : Nat) (v : DomainSt) : (s.setDomain d v).gci = s.gci := rfl
@[simp] theorem State.brim_setDomain (s : State) (d : Nat) (v : DomainSt) : (s.setDomain d v).brim = s.brim := rfl
@[simp] theorem State.bar0_setDomain (s : State) (d : Nat) (v : DomainSt) : (s.setDomain d v).bar0 = s.bar0 := rfl
@[simp] theorem State.pending_setDomain (s : State) (d : Nat) (v : DomainSt) : (s.setDomain d v).pending = s.pending :=
  rfl

/-! ### setOutput -/

@[simp] theorem State.regs_setOutput (s : State) (i : Nat) (v : OutputSt) : (s.setOutput i v).regs = s.regs := rfl
@[simp] theorem State.cfg_setOutput (s : State) (i : Nat) (v : OutputSt) : (s.setOutput i v).cfg = s.cfg := rfl
@[simp] theorem State.ctrs_setOutput (s : State) (i : Nat) (v : OutputSt) : (s.setOutput i v).ctrs = s.ctrs := rfl
@[simp] theorem State.strand_setOutput (s : State) (i : Nat) (v : OutputSt) : (s.setOutput i v).strand = s.strand :=
  rfl
@[simp] theorem State.gci_setOutput (s : State) (i : Nat) (v : OutputSt) : (s.setOutput i v).gci = s.gci := rfl
@[simp] theorem State.brim_setOutput (s : State) (i : Nat) (v : OutputSt) : (s.setOutput i v).brim = s.brim := rfl
@[simp] theorem State.bar0_setOutput (s : State) (i : Nat) (v : OutputSt) : (s.setOutput i v).bar0 = s.bar0 := rfl
@[simp] theorem State.pending_setOutput (s : State) (i : Nat) (v : OutputSt) : (s.setOutput i v).pending = s.pending :=
  rfl

/-! ### setCapture -/

@[simp] theorem State.regs_setCapture (s : State) (i : Nat) (v : CaptureSt) : (s.setCapture i v).regs = s.regs := rfl
@[simp] theorem State.cfg_setCapture (s : State) (i : Nat) (v : CaptureSt) : (s.setCapture i v).cfg = s.cfg := rfl
@[simp] theorem State.ctrs_setCapture (s : State) (i : Nat) (v : CaptureSt) : (s.setCapture i v).ctrs = s.ctrs := rfl
@[simp] theorem State.strand_setCapture (s : State) (i : Nat) (v : CaptureSt) : (s.setCapture i v).strand = s.strand :=
  rfl
@[simp] theorem State.gci_setCapture (s : State) (i : Nat) (v : CaptureSt) : (s.setCapture i v).gci = s.gci := rfl
@[simp] theorem State.brim_setCapture (s : State) (i : Nat) (v : CaptureSt) : (s.setCapture i v).brim = s.brim := rfl
@[simp] theorem State.bar0_setCapture (s : State) (i : Nat) (v : CaptureSt) : (s.setCapture i v).bar0 = s.bar0 := rfl
@[simp] theorem State.pending_setCapture (s : State) (i : Nat) (v : CaptureSt) : (s.setCapture i v).pending = s.pending := rfl

/-! ### setWork -/

@[simp] theorem State.regs_setWork (s : State) (w : WorkSt) : (s.setWork w).regs = s.regs := rfl
@[simp] theorem State.cfg_setWork (s : State) (w : WorkSt) : (s.setWork w).cfg = s.cfg := rfl
@[simp] theorem State.ctrs_setWork (s : State) (w : WorkSt) : (s.setWork w).ctrs = s.ctrs := rfl
@[simp] theorem State.strand_setWork (s : State) (w : WorkSt) : (s.setWork w).strand = s.strand := rfl
@[simp] theorem State.gci_setWork (s : State) (w : WorkSt) : (s.setWork w).gci = s.gci := rfl
@[simp] theorem State.brim_setWork (s : State) (w : WorkSt) : (s.setWork w).brim = s.brim := rfl
@[simp] theorem State.bar0_setWork (s : State) (w : WorkSt) : (s.setWork w).bar0 = s.bar0 := rfl
@[simp] theorem State.pending_setWork (s : State) (w : WorkSt) : (s.setWork w).pending = s.pending := rfl

/-! ### setPoll -/

@[simp] theorem State.regs_setPoll (s : State) (i : Nat) (v : PollSt) : (s.setPoll i v).regs = s.regs := rfl
@[simp] theorem State.cfg_setPoll (s : State) (i : Nat) (v : PollSt) : (s.setPoll i v).cfg = s.cfg := rfl
@[simp] theorem State.ctrs_setPoll (s : State) (i : Nat) (v : PollSt) : (s.setPoll i v).ctrs = s.ctrs := rfl
@[simp] theorem State.strand_setPoll (s : State) (i : Nat) (v : PollSt) : (s.setPoll i v).strand = s.strand := rfl
@[simp] theorem State.gci_setPoll (s : State) (i : Nat) (v : PollSt) : (s.setPoll i v).gci = s.gci := rfl
@[simp] theorem State.brim_setPoll (s : State) (i : Nat) (v : PollSt) : (s.setPoll i v).brim = s.brim := rfl
@[simp] theorem State.bar0_setPoll (s : State) (i : Nat) (v : PollSt) : (s.setPoll i v).bar0 = s.bar0 := rfl
@[simp] theorem State.pending_setPoll (s : State) (i : Nat) (v : PollSt) : (s.setPoll i v).pending = s.pending := rfl

end Sys2Proof.Machine
end

