-- ==== Sys2Proof/Laws/All.lean ====
section
/-! SUPPORT. Every law file. -/
end

