-- ==== Sys2Proof/WellFormed.lean ====
section
/-! DEFINITION. Commands that stand for something that can happen at the block's pins, links and registers. `exec` is total on
the others too. -/

namespace Sys2Proof

/-- A request fits the request area behind its header (R54, R59). -/
def Req.ok (q : Req) : Bool := decide (q.payload.length ≤ 1008)

/-- Command classes of R91. -/
def classOk (cls : Byte) : Bool := decide (1 ≤ cls.toNat ∧ cls.toNat ≤ 0x11)

/-- A frame of its kind (R157): an 11-bit identifier unless IDE; classical frames of up to 8 bytes, their length that of the DLC
or none with RTR; FD lengths; XL frames of 1 to 2,048 bytes with a priority identifier. -/
def CanFrame.ok (f : CanFrame) : Bool :=
  let n := f.payload.length
  (f.ide || decide (f.id.toNat < 2048)) &&
  (match f.kind.val with
   | 0 => !f.brs && !f.esi && (if f.rtr then n == 0 else n == min f.dlc.toNat 8)
   | 1 => !f.rtr && (decide (n ≤ 8) || [12, 16, 20, 24, 32, 48, 64].contains n)
   | _ => !f.rtr && !f.ide && decide (1 ≤ n ∧ n ≤ 2048))

/-- The longest SPI frame (R66): 256 words with header and CRC. -/
def spiLenOk (frame : List Byte) : Bool := decide (frame.length ≤ 1029)

/-- A LIN response has up to 8 data bytes (R196). -/
def linLenOk (data : List Byte) : Bool := decide (data.length ≤ 8)

/-- Rates and widths at which the host link trains (R1). -/
def linkOk (gen width : Fin 5) : Bool := gen.val != 0 && (width.val == 1 || width.val == 2 || width.val == 4)

/-- The model's pieces of bulk data between Decks (log entry 21). -/
def unitLenOk (data : List Byte) : Bool := decide (data.length ≤ 8192)

/-- Is the command one that can come? -/
def Instr.wf (i : Instr) : Bool :=
  match i with
  | .registerWrite .. | .inboundReadAbort .. | .counterLowRead .. | .strandLoRead .. | .qPeakRead .. | .sgeReadyRead ..
  | .thermPeakRead .. | .hrDropsRead .. | .evqDropsRead .. | .mbDoorbell .. | .mbAck .. | .mbCancel .. | .serviceSlice ..
  | .ticketComplete .. | .draftIdleExpiry .. | .spiReleaseFrame .. | .epochSwitch .. | .oldEpochRelease ..
  | .deckResetAckTimeout .. | .vbatPowerOnReset .. | .brimResetRelease .. | .brimNvmLoaded .. | .crownSupplyFault ..
  | .boardReset .. | .pcieReset .. | .vcc5Loss .. | .suppliesGood .. | .strapSample .. | .crownClocksStable ..
  | .bootBistDone .. | .hatboxSelftestDone .. | .firstLightVerify .. | .firmwareImageVerify .. | .firmwareReady ..
  | .configImageApply .. | .causewayHandover .. | .causewayHandoverTimeout .. | .switchReady .. | .switchReadyTimeout ..
  | .hatpinReply .. | .hatpinReplyTimeout .. | .linkDown .. | .linkUpConditions .. | .linkHoldExpiry ..
  | .pauseTimerExpiry .. | .pauseRefresh .. | .pauseWatchdogExpiry .. | .stormHoldExpiry .. | .plcaFallback ..
  | .collision .. | .backoffExpiry .. | .verifyTimeExpiry .. | .verifyRespondReceive .. | .wakePatternMatch ..
  | .mdioAccessDone .. | .egressSelect .. | .frameTransmitComplete .. | .tsqTailWrite .. | .ethDrainTimeout ..
  | .classSchedulerFeed .. | .canAttemptStart .. | .canAttemptEnd .. | .recoverDelayExpiry .. | .recoveryCountDone ..
  | .atTimeRelease .. | .atTimeLate .. | .xcvrModeApply .. | .xcvrModeReached .. | .txdDominantTimeout ..
  | .hostTxRecordTake .. | .rxqTailWrite .. | .txqHeadWrite .. | .txcTailWrite .. | .canDrainDone .. | .canDrainTimeout ..
  | .linSlotBoundary .. | .linHeaderReceive .. | .linResponseTimeout .. | .linBusIdleTimeout .. | .wakeupPulseEnd ..
  | .linScheduleRestart .. | .linTxdTimeout .. | .linDrainTimeout .. | .publishBufferWrite .. | .learnRecordProcess ..
  | .ageingVisit .. | .linkDownFdbRemoval .. | .frerResetTimeout .. | .tableEccRepair .. | .twinDecision ..
  | .shadowIntervalEnd .. | .cellWrite .. | .cellRead .. | .flushScanEnd .. | .queueDrainDone .. | .queueDrainTimeout ..
  | .auditVisit .. | .auditPassEnd .. | .sgeFeederMove .. | .sgeDispatch .. | .sgeEntry .. | .sgeUnpack .. | .sgePack ..
  | .sgeCheck .. | .sgeMatch .. | .sgeJump .. | .sgePackk .. | .sgeTrig .. | .sgeEnd .. | .signalTimeoutScan ..
  | .pduTimerRelease .. | .minGapEnd .. | .bundlerTakeMessage .. | .bundleWindowClose .. | .unbundleFrame ..
  | .sgeDrainDone .. | .gateEntryStart .. | .gateCycleStart .. | .gateChangeTime .. | .histogramSample ..
  | .gptpMessageReceive .. | .syncWatchdogExpiry .. | .announceTimeout .. | .syncInterval .. | .revertHoldExpiry ..
  | .slewDone .. | .historyEntryWrite .. | .convGo .. | .conversionDone .. | .timeSnap .. | .timedOutputLeadingEdge ..
  | .timedOutputTrailingEdge .. | .captureEdge .. | .xosc32Stable .. | .xosc32Stop .. | .entryHoldExpiry ..
  | .parkSupplyFall .. | .coreClockStop .. | .listeningWake .. | .coreClocksResume .. | .parkedWake ..
  | .wakeTimerExpiry .. | .listenToParkExpiry .. | .supplyQualifyTimeout .. | .supplyRetryExpiry ..
  | .thermalRetryExpiry .. | .thermalRead .. | .thermalFallTimer .. | .inhNvmWrite .. | .idleTimerExpiry ..
  | .prepareTimeExpiry .. | .falseWakeExpiry .. | .entryDrainEnd .. | .armingConfirmed .. | .lanePowerUp ..
  | .kaTxPeriodExpiry .. | .longAwakeExpiry .. | .swakeFrame .. | .wup .. | .wakePin .. | .linWake .. | .t1sWake ..
  | .viaductSpanMessage .. | .bulkQuantum .. | .canAuthVerifyJob .. | .canAuthGenerateJob .. | .entropyFail ..
  | .entropyRetry .. | .challengeExpiry .. | .persistInvalidate .. | .doorbellAccept .. | .coalesceTimeExpiry ..
  | .tgtClaim .. | .tgtComplete .. | .evqRdPtrWrite .. | .escTimeoutExpiry .. | .targetSleepChange ..
  | .msixVectorUnmask .. | .iwlRdWrite .. | .pdlRdWrite .. | .pollDue .. | .pollReadComplete .. | .hrHostPtrWrite ..
  | .hrSeenWrite .. | .hrCtrlWrite .. | .hostRxDeliver .. | .hostTxDescriptorFetch .. | .nvmeCommandComplete ..
  | .storageLinkDown .. | .healthLogPoll .. | .recorderCopyConsume .. | .recorderBlockClose .. | .pierSignalDetect ..
  | .pierBlockLock .. | .hello .. | .keyConfirm .. | .keepalive .. | .credit .. | .ethUnit .. | .recordUnit ..
  | .evtUnit .. | .pierHelloInterval .. | .pierLinkHoldEnd .. | .bringupRetry .. | .peerLost .. | .replayTimeout ..
  | .discoveryDeadline .. | .actingDelayExpiry .. | .requestUnreachableTimeout .. | .faultInputRise .. | .faultInputFall ..
  | .lockstepMismatch .. | .faultInjectEnd .. | .watchdogService .. | .watchdogExpiry .. | .watchdogWarning ..
  | .causewayTakeover .. | .causewayAttemptEnd .. | .causewayRecoveryDone .. | .canIntegration .. | .canRxError ..
  | .plcaOkRestore .. | .vcc5Restored .. | .pdelayInterval .. | .pcieConfigWrite .. => true
  | .deckIdentify q | .deckReset q | .deckClientSet q | .deckTicketStatus q | .deckTicketAbort q | .deckFwLoad q
  | .deckFwVerify q | .deckFwSwitch q | .deckFwProgram q | .deckConfigProgram q | .deckSegWrite q | .deckSegExec q
  | .deckSegRead q | .spanSleepReq q | .spanWakeReq q | .spanState q | .spanWakeSources q | .spanStayAwakeLog q
  | .spanMemberSet q | .chanEnable q | .chanDisable q | .chanLinkState q | .ethWakePatternSet q | .ethPauseStormClear q
  | .ethMdioRead q | .ethMdioWrite q | .canBusOffRecover q | .canRestrictedSet q | .canTxFrame q | .canTxAtTime q
  | .canSwakeSet q | .canErrorState q | .linScheduleSet q | .linScheduleSelect q | .linGotoSleep q | .linWakeupSend q
  | .linResponseSet q | .fdbAddStatic q | .fdbDelete q | .fdbFlush q | .fdbLookup q | .fdbAgeingSet q | .fdbLearnSet q
  | .routeDraftOpen q | .routeCommit q | .routeDraftDiscard q | .routeDraftStatus q | .routeEpoch q | .routeDirectSet q
  | .routeHashSet q | .routeFallbackSet q | .sigProgramLoad q | .sigPduSet q | .sigSignalSet q | .sigSignalRead q
  | .sigSignalInject q | .sigAdmission q | .qosGateListSet q | .qosGateState q | .qosShaperSet q | .qosMeterSet q
  | .qosAdmissionSet q | .qosHistogramSet q | .qosHistogramRead q | .timeDomainSet q | .timeStatus q | .timeWorkingSelect q
  | .timeOutputSet q | .timeCaptureRead q | .secSaInstall q | .secSaRetire q | .secJobSubmit q | .secJobAbort q
  | .secLifecycle q | .secSelftest q | .secZeroise q | .secFreshnessSet q | .evtBind q | .evtCoalesceSet q
  | .evtSourceEnable q | .evtQueueState q | .evtInject q | .storeAttach q | .storeDetach q | .storeRecorderStart q
  | .storeRecorderStop q | .storeRead q | .storeWrite q | .storeStageImage q | .storeHealth q | .cascTopology q
  | .cascStandbyLinkSet q | .cascHeal q | .cascSplitLog q | .diagRead q | .diagWrite q | .diagTableDump q | .diagLoopback q
  | .diagMirrorSet q | .diagAuditStatus q | .faultStatus q | .faultClear q | .faultReactionSet q | .faultInject q
  | .faultLogRead q | .faultWatchdogSet q => q.ok
  | .verbGet cls q => classOk cls && q.ok
  | .verbSet cls q => classOk cls && q.ok
  | .verbList cls q => classOk cls && q.ok
  | .verbStats cls q => classOk cls && q.ok
  | .clearStats cls q => classOk cls && q.ok
  | .chanXcvrMode _ q => q.ok
  | .secKeyInstall _ q => q.ok
  | .secKeyErase _ q => q.ok
  | .secLifecycleAdvance _ q => q.ok
  | .secDebugUnlock _ q => q.ok
  | .bar2Write off _ data _ => !data.isEmpty && decide (off.toNat + data.length ≤ 2 ^ 26)
  | .spiWriteFrame frame => spiLenOk frame
  | .spiReadFrame frame => spiLenOk frame
  | .spiCsEarlyRise frame => spiLenOk frame
  | .ethFrameReceive _ frame .. => !frame.isEmpty
  | .canFrameReceive _ f .. => f.ok
  | .linResponseReceive _ data _ _ => linLenOk data
  | .flushGroupClose cls => cls.val != 0
  | .flushReadCompletion cls _ => cls.val != 0
  | .flushTimeout cls => cls.val != 0
  | .reqUnit _ _ _ _ _ _ _ q => q.ok
  | .cplUnit _ _ _ _ _ _ _ data => unitLenOk data
  | .causewayFrameReceive _ _ f => f.ok
  | .recoveryServiceRequest _ q => q.ok
  | .hostLinkUp gen width => linkOk gen width

end Sys2Proof
end

