-- ==== Sys2Proof/Tests/Slice0.lean ====
section
/-! SUPPORT. Small states and requests, witnesses that the statements' hypotheses can be met, and tests of single commands. -/

namespace Sys2Proof.Tests
open Sys2Proof Sys2Proof.Machine

-- One theorem at a time: a check by the kernel waits for every theorem before it, and each one that waits holds a
-- thread with its whole stack.
set_option Elab.async false

/-! ### States and requests -/

/-- Firmware runs (STAGE 8), and client 0 has an empty draft 7. -/
def wState : State :=
  { regs := [(0x40, 0x8)], gci := { drafts := [⟨7, 0, 0, 0, []⟩] } }

/-- A request in mailbox 0 with SEQ 1: its draft and its payload. -/
def wReq (txn : BitVec 32) (p : List Byte) : Req := ⟨0, 1, 0, 0, BitVec.ofNat 16 p.length, txn, 0, p⟩

/-- A ticket of client 0. -/
def wTick (n : Nat) : Ticket := ⟨n, 0, 0x0116, [], false, [], none, false, [], none, 0⟩

/-- Client 0 holds running ticket 5 and complete ticket 6. -/
def wTicket : State :=
  { wState with gci := { wState.gci with tickets := [wTick 5, { wTick 6 with result := some (0, [9]) }] } }

/-- Mailbox 0 is on SPI. -/
def wSpi : State := { wState with regs := [(0x40, 0x8), (0x10010, 0x40028)] }

/-- A static entry of FID 5 is committed. -/
def wStatic : State :=
  { wState with cfg := [(pkey (oFdb (fdbBucket [0x11, 0x22, 0x33, 0x44, 0x55, 0x66] 5 * 8)) (pidRaw 0), 0x30056655443322110000 / 65536)] }

/-- A Hash entry of Channel 24 and identifier 0x123 is committed. -/
def wHash : State :=
  { wState with cfg := [(pkey (oHash (hashBucket 24 0x123 * 4)) (pidRaw 0), 0x123 + 2 ^ 29 + 5 * 2 ^ 32 + 24 * 2 ^ 48)] }

/-- Clock domain 1 is LOCKED. -/
def wLocked : State := wState.setF (domainField 1) dsLocked

/-- Slot 3 holds a persistent MACsec key of client 0. -/
def wKey : State :=
  { wState with hbx := { wState.hbx with slots := [(3, { typ := 1, usage := 3, callers := 1, flags := 1, key := zeros 16 })] } }

/-- Association 0 of port 1 is installed on slot 3. -/
def wAssoc : State := wKey.putAssoc 1 0 { installed := true, slot := 3, enabled := true, nextPn := 1 }

/-- A device of 512-byte LBAs is attached; the recorder region is LBA 0 to 63 and the staging region LBA 64 to 127. -/
def wStore : State :=
  { wState with
    cfg := [(pkey oDeck 0x4201, 64), (pkey oDeck 0x4202, 64), (pkey oDeck 0x4203, 64), (pkey oDeck 0x1600, 5)]
    hbx := { wState.hbx with slots := [(5, { typ := 3, usage := 16, callers := 256, key := zeros 32 })] }
    store := { wState.store with state := ssAttached, lbaSize := 512, nsLbas := 1024 } }

/-- The same with the host link up, and a buffer of one LBA at host address 0. -/
def wStoreHost : State :=
  { wStore with pcie := { wStore.pcie with linkUp := true, busMaster := true }, host := [(8, 1)] }

/-- Deck 2 is in quarantine. -/
def wQuar : State := wState.setDeckInfo 2 { wState.deckInfo 2 with known := true, quarantine := true }

/-- Pair 0 is the repeater's, and its handover is awaited until 9. -/
def wHandover : State := wState.setRepeater 0 { wState.repeater 0 with owns := true, waitUntil := some 9 }

/-- A copy of two cells that port 0 sends. -/
def wEgr : EgressRead := { desc := 1, d := { state := .active }, cellAt := 3, cellsLeft := 2 }

/-- Port 0 reads that copy. -/
def wRead : State := { wState with buf := { wState.buf with egress := [(0, wEgr)] } }

/-- An authentication job waits. -/
def wAuth (gen : Bool) : State :=
  { wState with hbx := { wState.hbx with auth := [⟨gen, 1, 0, [], 24, none, 1, 0, none, []⟩] } }

/-- LIN[1] runs as a responder. -/
def wLin : State := (wState.setF (LinStatus.laneGated 1) 0).setF (LinStatus.roleActive 1) 2

/-- CAN[20] is enabled and on the bus. -/
def wCan : State := ((wState.setF (CanStatus.enabled 20) 1).setF (CanStatus.integrating 20) 0).setF (CanStatus.laneGated 20) 0

/-- A Hatpin read of one word for ticket 5 is on the wire. -/
def wHatpin : State := { wTicket with hatpin := { wTicket.hatpin with queue := [{ client := 0, ticket := 5, left := 1 }] } }

/-- A frame waits for its decision, with its first cell written. -/
def wRx : State := { wState with buf := { wState.buf with rx := [(1, { port := 1, bytes := [], stamp := 0, todo := [], written := [3] })] } }

/-- A frame with a cell to write. -/
def wRxTodo : State := { wState with buf := { wState.buf with rx := [(1, { port := 1, bytes := [], stamp := 0, todo := [zeros 64] })] } }

/-- FID 5 has a learnt entry. -/
def wLearnt : State :=
  { wState with fwd := { wState.fwd with learnt := [(fdbBucket [0x11, 0x22, 0x33, 0x44, 0x55, 0x66] 5 * 8, 0x50056655443322110000 / 65536)] } }

/-- Queue 1 holds a learn record. -/
def wLearn : State := (wState.setEvRec 1 0 { src := 1, payload := 5 }).setWord (EvqWrPtr.off 1) 1

/-- The Crown die is powered and out of reset. -/
def wUp : State := { wState with brim := { wState.brim with power := pwRunning, supplyBad := false } }

/-- A flush of queue 8 for a port. -/
def wFlush (p : Nat) : Flush := { queues := [8], port := some p }

/-- Port 1 is the slave port of domain clock 0, and its link is up. -/
def wGptp : State :=
  { wState with cfg := [(pkey (oClock 0) 0x0100, 1), (pkey (oClock 0) 0x0102, 1)] }.setF (PortStatus.linkUp 1) 1

/-- Domain clock 0 is primary and LOCKED while clock 1 is the source. -/
def wRevert : State :=
  ({ wState with cfg := [(pkey (oClock 2) 0x0202, 1)] }.setF (domainField 0) dsLocked).setF TimeStatus.source 1

/-- A HELLO of Deck 2. -/
def wHello (k : Fin 5) : Hello := ⟨2, false, 7, 0, 0, 0, 0, 0, k, 0, 1⟩

/-- PORT[21] is at step 3 of a secured bring-up with a Pier key in slot 3. -/
def wPierKey : State :=
  State.setPierPort
    { wState with
      cfg := [(pkey (oChan 21) 0x1000, 1), (pkey oDeck 0x1702, 3)]
      hbx := { wState.hbx with slots := [(3, { typ := 2, usage := 255, callers := 4, flags := 1, key := zeros 16 })] } } 21 { step := 3 }

/-- Span 1 is armed: selective wake or a plain pattern on CAN[1], and LIN[1], PORT[13] and PORT[1]. -/
def wArmed (f : Nat) : State :=
  { wState with brim := { wState.brim with armedSpans := [⟨1, 0, [89, 13, 1], [(1, f)]⟩] } }

/-- WAKE pin 1 wakes on both edges. -/
def wPinEdge : State := { wState with brim := { wState.brim with nvm := [(pkey oDeck 0x1301, 3)] } }

/-- Span 1 holds CAN[20], which has an attempt in flight, and drains until 9. -/
def wDrain : State :=
  (({ wState with cfg := [(pkey (oChan 44) pidSpan, 1)] }.setCan 20 { inFlight := some .fifo }).setSpan 1 { drainAt := some 9 }).setF
    (SpanState.state 1) spEntering

/-- Executor 1 has a received record's job that stands at an instruction of this opcode. -/
def wIns (op : Nat) : State :=
  State.setExecutor { wState with cfg := [(pkey (oProgram 0) pidInstr, op * 2 ^ 58)] } 1
    (some { job := ⟨none, 0, zeros 24, 0, 0, 0, 0⟩, pc := 0, body := [], stamp := 0 })

/-- Queue 200 of the feeder holds a copy. -/
def wFeed : State := { wState with buf := { wState.buf with queues := [(200, [3])] } }

/-- Timer 1 has a boundary at 9 and releases PDU 2. -/
def wTimer (aligned : Bool) : State :=
  State.setTimer { wState with cfg := [(pkey (oPdu 2) pidEntry, 13 + 2 ^ 80)] } 1 { next := some 9, aligned := aligned }

/-- An IDLE queue with a record and a coalesce time. -/
def wCoal : State := ((wState.setEvRec 1 0 { src := 0x010 }).setWord (EvqWrPtr.off 1) 1).setEvq 1 { coalAt := some 9 }

/-- The open or issued flush group of class 1. -/
def wGroup (i : Option Nat) : State :=
  { wState with store := { wState.store with groups := [{ cls := 1, issued := i }] } }

/-- The host link is up. -/
def wHostUp : State := { wState with pcie := { wState.pcie with linkUp := true, busMaster := true } }

/-- Receive ring 0 and transmit ring 0 are enabled and have a descriptor; queue 768 holds a frame. -/
def wRings : State :=
  ((({ wHostUp with buf := { wHostUp.buf with queues := [(768, [3])] } }.setF (HrCtrl.enable 0) 1).setWord (HrHostPtr.off 0) 1).setF
    (HrCtrl.enable 32) 1).setWord (HrHostPtr.off 32) 1

/-- A DRBG job of client 0 waits for the hash engine's round. -/
def wJob : State :=
  { wState with hbx := { wState.hbx with jobs := [{ cls := 1, client := 0, ticket := 5, desc := zeros 64, seg := false }] } }

/-- Repeater 0 owns its enabled pair; direction A to B is calibrated and has a frame. -/
def wCw : State :=
  State.setRepeater { wUp with brim := { wUp.brim with vcc5 := true, nvm := [(pkey oDeck 0x1800, 1)] } } 0
    (Repeater.setDir { owns := true } false { calibrated := true, fifo := [(zeros 24, 0)] })

/-- A client's NVMe command is in flight. -/
def wNvme : State :=
  { wState with store := { wState.store with nvme := [{ ticket := some (0, 5), write := true, lba := 0, count := 1 }] } }

/-- The recorder runs and queue 184 holds a copy. -/
def wRec : State :=
  { wState with store := { wState.store with recording := true }, buf := { wState.buf with queues := [(184, [3])] } }

/-- A root key of this class stands in slot 0, and the challenge [1] lives. -/
def wSigned (life : Nat) (production : Bool) : State :=
  { wState with
    fuses := { wState.fuses with lifecycle := life, rootHash := [(0, 1 + 2 ^ 384 * b2n production)] }
    hbx := { wState.hbx with challenge := some ([1], 5) } }

/-- A message verifies under a usable root key of its class where the signature does. -/
theorem authorised_of {s : State} {k purpose : Nat} {production : Bool} {ch sig : List Byte}
    (h : (s.rootUsable k && s.rootProduction k == production) = true)
    (hv : Config.sigVerify (s.rootBytes k)
      (beBytes 48 (Config.sha384 (ch ++ leBytes 8 Config.uniqueId.toNat ++ leBytes 1 purpose)).toNat) sig = true) :
    s.authorised k purpose production ch sig = true := by
  unfold State.authorised
  simp only [h, hv, Bool.and_self]

/-- With every descriptor in use a frame that has none gets none. -/
theorem rxOwner_full (s : State) (f : RxFrame) (n : Nat) (hn : 65536 ≤ n)
    (h : s.buf.descs = List.replicate n (0, { state := .active })) (hf : f.owner = none) :
    (s.freeLink 0).rxOwner f 0 = (none, s) := by
  have hp : s.pickDesc = none := by
    unfold State.pickDesc
    rw [h, List.filter_eq_self.2 (fun a ha => by rw [List.eq_of_mem_replicate ha]; rfl)]
    simp only [List.length_map, List.length_replicate, ge_iff_le, hn, if_true]
  have ht : ∀ i, s.takeDesc i = none := by
    intro i
    unfold State.takeDesc
    rw [hp]
  unfold State.rxOwner
  rw [hf]
  change (match s.takeDesc _ with | none => (none, s) | some (o, s) => (some o, s.setDesc o { s.desc o with owner := o })) = _
  rw [ht]

theorem witness_deckIdentify : ∃ (q : Req) (s u : State) (c : Ctx),
    (u = s.served 0x0110 q) ∧ (c = s.ctx 0x0110 q) ∧ (s.accepts 0x0110 q = true) :=
  ⟨wReq 0 [], wState, _, _, rfl, rfl, by decide⟩

theorem witness_deckTicketStatus : ∃ (q : Req) (s u : State) (c : Ctx) (t : Ticket),
    (u = s.served 0x0113 q) ∧ (c = s.ctx 0x0113 q) ∧ (s.accepts 0x0113 q = true) ∧ (u.ticket c.client (leAt c.payload 0 4) = some t) ∧ (t.result = none) :=
  ⟨wReq 0 [5, 0, 0, 0], wTicket, _, _, wTick 5, rfl, rfl, by decide⟩

theorem witness_deckTicketStatus_complete : ∃ (q : Req) (s u : State) (c : Ctx) (t : Ticket) (st : Nat) (pay : List Byte),
    (u = s.served 0x0113 q) ∧ (c = s.ctx 0x0113 q) ∧ (s.accepts 0x0113 q = true) ∧ (u.ticket c.client (leAt c.payload 0 4) = some t) ∧ (t.result = some (st, pay)) ∧ (st ≠ stHold ∧ st ≠ stBusyRetry) :=
  ⟨wReq 0 [6, 0, 0, 0], wTicket, _, _, { wTick 6 with result := some (0, [9]) }, 0, [9], rfl, rfl, by decide⟩

theorem witness_deckSegRead : ∃ (q : Req) (s u : State) (c : Ctx),
    (u = s.served 0x011C q) ∧ (c = s.ctx 0x011C q) ∧ (s.accepts 0x011C q = true) ∧ (u.spiMb c.mb = true) ∧ (4 ≤ leAt c.payload 4 4 ∧ leAt c.payload 4 4 ≤ 1000 ∧ leAt c.payload 0 4 + leAt c.payload 4 4 ≤ 65536) :=
  ⟨wReq 0 [0, 0, 0, 0, 4, 0, 0, 0], wSpi, _, _, rfl, rfl, by decide⟩

theorem witness_deckReset : ∃ (q : Req) (s u : State) (c : Ctx),
    (u = s.served 0x0111 q) ∧ (c = s.ctx 0x0111 q) ∧ (s.accepts 0x0111 q = true) ∧ (leAt c.payload 0 1 = 2) ∧ (leAt c.payload 1 3 = 0 ∧ leAt c.payload 4 4 = 0xDECA) :=
  ⟨wReq 0 [2, 0, 0, 0, 0xCA, 0xDE, 0, 0], wState, _, _, rfl, rfl, by decide⟩

theorem witness_deckReset_config : ∃ (q : Req) (s u : State) (c : Ctx),
    (u = s.served 0x0111 q) ∧ (c = s.ctx 0x0111 q) ∧ (s.accepts 0x0111 q = true) ∧ (leAt c.payload 0 1 = 1) ∧ (leAt c.payload 1 3 = 0 ∧ leAt c.payload 4 4 = 0xDECA) :=
  ⟨wReq 0 [1, 0, 0, 0, 0xCA, 0xDE, 0, 0], wState, _, _, rfl, rfl, by decide⟩

theorem witness_deckClientSet : ∃ (q : Req) (s u : State) (c : Ctx) (d : Draft) (v : Nat),
    (u = s.served 0x0112 q) ∧ (c = s.ctx 0x0112 q) ∧ (s.accepts 0x0112 q = true) ∧ ((orefOf c.payload).typ = 0x02) ∧ (clientSetBad (leAt c.payload 4 4) (leAt c.payload 8 2) (leAt c.payload 10 1) (leAt c.payload 11 1) (leAt c.payload 12 4)
        (leAt c.payload 16 4) = false) ∧ (v = clientWord (leAt c.payload 8 2) (leAt c.payload 10 1) (leAt c.payload 11 1) (leAt c.payload 12 4) (leAt c.payload 16 4)) ∧ (u.draft c.client c.txn = some d) ∧ (u.lastDeckControl (some d) (leAt c.payload 4 4) v = false) ∧ ((∀ n, n < 16 → bitOf (leAt c.payload 8 2) n ≠ u.mbOf n (leAt c.payload 4 4) → u.mbHeld n = false)) ∧ (u.locked c.client [lockOf (pkey (oClient (leAt c.payload 4 4)) (pidRaw 0))] = false ∧ u.draftRoom c = true) :=
  ⟨wReq 7 [2, 0, 0xFF, 0xFF, 1, 0, 0, 0, 0x10, 0, 0, 1, 0, 0, 0, 0, 0, 0, 0, 0], wState, _, _, ⟨7, 0, 0, 0, []⟩, _, rfl, rfl, by decide, by decide, by decide, rfl, by decide⟩

theorem witness_deckTicketAbort : ∃ (q : Req) (s u : State) (c : Ctx) (t : Ticket),
    (u = s.served 0x0114 q) ∧ (c = s.ctx 0x0114 q) ∧ (s.accepts 0x0114 q = true) ∧ (u.ticket c.client (leAt c.payload 0 4) = some t) ∧ (t.result = none) :=
  ⟨wReq 0 [5, 0, 0, 0], wTicket, _, _, wTick 5, rfl, rfl, by decide⟩

theorem witness_deckSegWrite : ∃ (q : Req) (s u : State) (c : Ctx),
    (u = s.served 0x011A q) ∧ (c = s.ctx 0x011A q) ∧ (s.accepts 0x011A q = true) ∧ ((c.payload.drop 4).length % 4 = 0 ∧ (c.payload.drop 4).length ≤ 1000) ∧ (u.spiMb c.mb = true) ∧ (u.segBusy c.client = false) ∧ (leAt c.payload 0 4 + (c.payload.drop 4).length ≤ 65536) :=
  ⟨wReq 0 [0, 0, 0, 0, 1, 2, 3, 4], wSpi, _, _, rfl, rfl, by decide⟩

theorem witness_DeckControlCompletes_5 : ∃ (q : Req) (s u : State) (c : Ctx) (r : CmdRow) (body : Body) (o : Resp × State),
    (u = s.served 0x011B q) ∧ (c = s.ctx 0x011B q) ∧ (s.accepts 0x011B q = true) ∧ (cmdRow (leAt c.payload 0 2) = some r) ∧ (segBody (leAt c.payload 0 2) = some body) ∧ ((u.client c.client).right r.kind (leAt c.payload 0 2 / 256) = true) ∧ (u.getF CascStatus.role = 3 → splitFrozen r = false) ∧ (u.spiMb c.mb = true) ∧ (u.segBusy c.client = false) ∧ (leAt c.payload 2 2 = 0 ∧ leAt c.payload 9 3 = 0 ∧ leAt c.payload 8 1 ≤ 2 ∧ rng 1 65536 (leAt c.payload 4 4) = true) ∧ (o = body { c with cmd := leAt c.payload 0 2, bulk := some ⟨0, leAt c.payload 4 4, leAt c.payload 8 1, 0, true⟩, payload := zeros 8 ++ leBytes 4 (leAt c.payload 4 4) ++ leBytes 1 (leAt c.payload 8 1) ++ zeros 3 } u) :=
  ⟨(wReq 0 [0x15, 1, 0, 0, 32, 0, 0, 0, 0, 0, 0, 0]), wSpi, _, _, _, _, _, rfl, rfl, by decide +kernel, rfl, rfl, by decide +kernel, by decide +kernel, by decide +kernel, by decide +kernel, by decide +kernel, rfl⟩

theorem witness_deckFwLoad : ∃ (q : Req) (s u : State) (c : Ctx) (b : Bulk),
    (u = s.served 0x0115 q) ∧ (c = s.ctx 0x0115 q) ∧ (s.accepts 0x0115 q = true) ∧ (c.bulk = some b) ∧ (b.ok [0] = true) ∧ (u.locked c.client [imageLock] = false) ∧ ((b.seg && u.spiMb c.mb) = false) ∧ (b.len ≤ imgMax itFirmware + 224) :=
  ⟨{ wReq 0 [0, 0, 0, 0, 0, 0, 0, 0, 0xE0, 0, 0, 0, 0, 0, 0, 0] with flags := 1 }, wState, _, _, ⟨0, 0xE0, 0, 0, false⟩, rfl, rfl, by decide⟩

theorem witness_deckFwLoad_piece : ∃ (c : Ctx) (u : State) (b : Bulk) (p : Piece) (v : State),
    (c.bulk = some b) ∧ (b.ok [0] = true) ∧ (u.locked c.client [imageLock] = false) ∧ ((b.seg && u.spiMb c.mb) = true) ∧ (u.pieceOf c b.len (imgMax itFirmware + 224) = some p) ∧ (p.last = false) ∧ (v = (u.pieceNote c p).bankWrite (1 - u.fw.active) p.off p.data) :=
  ⟨⟨0x0115, 0, 0, 0, 0, 0, [], some ⟨0, 32, 0, 0, true⟩⟩, { wSpi with gci := { wSpi.gci with seg := memWrites [] 4 [64, 0, 0, 0, 1] } }, ⟨0, 32, 0, 0, true⟩, ⟨0, 64, false, zeros 16⟩, _, by decide, by decide, by decide, by decide, by decide, by decide, rfl⟩

theorem witness_DeckImageCommandsComplete_2 : ∃ (c : Ctx) (u : State) (b : Bulk) (p : Piece) (v : State),
    (c.bulk = some b) ∧ (b.ok [0] = true) ∧ (u.locked c.client [imageLock] = false) ∧ ((b.seg && u.spiMb c.mb) = true) ∧ (u.pieceOf c b.len (imgMax itFirmware + 224) = some p) ∧ (p.last = true) ∧ (v = (u.pieceNote c p).bankWrite (1 - u.fw.active) p.off p.data) :=
  ⟨⟨0x0115, 0, 0, 0, 0, 0, [], some ⟨0, 32, 0, 0, true⟩⟩, { wSpi with gci := { wSpi.gci with seg := memWrites [] 4 [16, 0, 0, 0, 3] } }, _, _, _, rfl, by decide +kernel, by decide +kernel, by decide +kernel, rfl, by decide +kernel, rfl⟩

theorem witness_deckFwVerify : ∃ (q : Req) (s u : State) (c : Ctx),
    (u = s.served 0x0116 q) ∧ (c = s.ctx 0x0116 q) ∧ (s.accepts 0x0116 q = true) ∧ (u.locked c.client [imageLock] = false) ∧ (u.fw.loaded.isSome = true) :=
  ⟨wReq 0 [], { wState with fw := { loaded := some 224 } }, _, _, rfl, rfl, by decide⟩

theorem witness_deckFwSwitch : ∃ (q : Req) (s u : State) (c : Ctx) (v : State),
    (u = s.served 0x0117 q) ∧ (c = s.ctx 0x0117 q) ∧ (s.accepts 0x0117 q = true) ∧ (leAt c.payload 0 4 ≤ 1) ∧ (u.fw.verified = true) ∧ (bitOf (leAt c.payload 0 4) 0 = true ∨ (u.gci.drafts = [] ∧ u.gci.tickets.filter (fun t => t.result.isNone) = [])) ∧ (v = (((u.gci.tickets.filter (fun t => t.result.isNone)).foldl (fun (s : State) t => s.abortTicket t)
        { u with gci := { u.gci with drafts := [] } }).watchdogPet.setF DeckBootStatus.stage 11)) :=
  ⟨wReq 0 [1, 0, 0, 0], { wState with fw := { verified := true } }, _, _, _, rfl, rfl, by decide, by decide, by decide, by decide, rfl⟩

theorem witness_deckFwProgram : ∃ (q : Req) (s u : State) (c : Ctx),
    (u = s.served 0x0118 q) ∧ (c = s.ctx 0x0118 q) ∧ (s.accepts 0x0118 q = true) ∧ (u.locked c.client [imageLock] = false) :=
  ⟨wReq 0 [], wState, _, _, rfl, rfl, by decide⟩

theorem witness_deckConfigProgram : ∃ (q : Req) (s u : State) (c : Ctx) (b : Bulk),
    (u = s.served 0x0119 q) ∧ (c = s.ctx 0x0119 q) ∧ (s.accepts 0x0119 q = true) ∧ (c.bulk = some b) ∧ (b.ok [0] = true) ∧ (u.locked c.client [imageLock] = false) ∧ ((b.seg && u.spiMb c.mb) = false) ∧ (b.len ≤ imgMax itConfig + 224) :=
  ⟨{ wReq 0 [0, 0, 0, 0, 0, 0, 0, 0, 0xE0, 0, 0, 0, 0, 0, 0, 0] with flags := 1 }, wState, _, _, ⟨0, 0xE0, 0, 0, false⟩, rfl, rfl, by decide⟩

theorem witness_DeckImageCommandsComplete_7 : ∃ (c : Ctx) (u : State) (b : Bulk) (p : Piece),
    (c.bulk = some b) ∧ (b.ok [0] = true) ∧ (u.locked c.client [imageLock] = false) ∧ ((b.seg && u.spiMb c.mb) = true) ∧ (u.pieceOf c b.len (imgMax itConfig + 224) = some p) :=
  ⟨⟨0x0115, 0, 0, 0, 0, 0, [], some ⟨0, 32, 0, 0, true⟩⟩, { wSpi with gci := { wSpi.gci with seg := memWrites [] 4 [64, 0, 0, 0, 1] } }, _, _, rfl, by decide +kernel, by decide +kernel, by decide +kernel, rfl⟩

theorem witness_verbGet : ∃ (cls : Byte) (q : Req) (s u : State) (c : Ctx) (es : List (Nat × Nat × List Byte)),
    (u = s.served (cls.toNat * 256 + 1) q) ∧ (c = s.ctx (cls.toNat * 256 + 1) q) ∧ (s.accepts (cls.toNat * 256 + 1) q = true) ∧ (getEntries c.payload = .ok es) ∧ (firstBad (getJudge (c.cmd / 256) (orefOf c.payload).key) 0 es = none) :=
  ⟨4, wReq 0 [4, 0, 255, 0, 255, 255, 255, 255, 1, 0, 0, 0, 0, 1, 4, 0, 0, 0, 0, 0], wState, _, _, [(0x0100, 4, [0, 0, 0, 0])], rfl, rfl, by decide, by rfl, by decide +kernel⟩

theorem witness_verbSet : ∃ (cls : Byte) (q : Req) (s u : State) (c : Ctx) (d : Draft) (es : List (Nat × Nat × List Byte)) (ch : List (Nat × Nat)),
    (u = s.served (cls.toNat * 256 + 2) q) ∧ (c = s.ctx (cls.toNat * 256 + 2) q) ∧ (s.accepts (cls.toNat * 256 + 2) q = true) ∧ (getEntries c.payload = .ok es) ∧ ((orefOf c.payload).typ ≠ 0x0E) ∧ (firstBad (u.setJudge c (orefOf c.payload).key es) 0 es = none) ∧ (ch = es.map (fun e => (pkey (orefOf c.payload).key e.1, leVal e.2.2))) ∧ (u.draft c.client c.txn = some d) ∧ (u.locked c.client (es.map (fun e => lockOf (pkey (orefOf c.payload).key e.1))) = false ∧ u.draftRoom c = true) :=
  ⟨4, wReq 7 [4, 0, 255, 0, 255, 255, 255, 255, 1, 0, 0, 0, 0, 1, 4, 0, 1, 0, 0, 0], wState, _, _, ⟨7, 0, 0, 0, []⟩, [(0x0100, 4, [1, 0, 0, 0])], _, rfl, rfl, by decide +kernel, by rfl, by decide +kernel, by decide +kernel, rfl, by decide +kernel⟩

theorem witness_verbList : ∃ (cls : Byte) (q : Req) (s u : State) (c : Ctx) (r : TypeRow) (l : List Nat),
    (u = s.served (cls.toNat * 256 + 3) q) ∧ (c = s.ctx (cls.toNat * 256 + 3) q) ∧ (s.accepts (cls.toNat * 256 + 3) q = true) ∧ (typeRow (orefOf c.payload).typ = some r) ∧ (r.usesIdx = true) ∧ (l = u.occupied c (orefOf c.payload)) :=
  ⟨1, wReq 0 [2, 0, 255, 255, 0, 0, 0, 0], wState, _, _, _, _, rfl, rfl, by decide, rfl, by decide, rfl⟩

theorem witness_verbStats : ∃ (cls : Byte) (q : Req) (s u : State) (c : Ctx) (n m : Nat),
    (u = s.served (cls.toNat * 256 + 4) q) ∧ (c = s.ctx (cls.toNat * 256 + 4) q) ∧ (s.accepts (cls.toNat * 256 + 4) q = true) ∧ (statCount (c.cmd / 256) (orefOf c.payload) = some (n, m)) ∧ (¬(c.cmd / 256 = cSec ∧ (orefOf c.payload).typ = 0x1C) ∧ ¬(c.cmd / 256 = cFault ∧ (orefOf c.payload).typ = 0x01)) :=
  ⟨4, wReq 0 [4, 0, 255, 0, 255, 255, 255, 255], wState, _, _, 32, 33, rfl, rfl, by decide⟩

theorem witness_verbStats_association : ∃ (cls : Byte) (q : Req) (s u : State) (c : Ctx),
    (u = s.served (cls.toNat * 256 + 4) q) ∧ (c = s.ctx (cls.toNat * 256 + 4) q) ∧ (s.accepts (cls.toNat * 256 + 4) q = true) ∧ (c.cmd / 256 = cSec ∧ (orefOf c.payload).typ = 0x1C) :=
  ⟨12, wReq 0 [28, 0, 255, 0, 0, 0, 0, 0], wState, _, _, rfl, rfl, by decide⟩

theorem witness_verbStats_causeway : ∃ (cls : Byte) (q : Req) (s u : State) (c : Ctx),
    (u = s.served (cls.toNat * 256 + 4) q) ∧ (c = s.ctx (cls.toNat * 256 + 4) q) ∧ (s.accepts (cls.toNat * 256 + 4) q = true) ∧ (c.cmd / 256 = cFault ∧ (orefOf c.payload).typ = 0x01) :=
  ⟨17, wReq 0 [1, 0, 255, 255, 255, 255, 255, 255], wState, _, _, rfl, rfl, by decide⟩

theorem witness_clearStats : ∃ (cls : Byte) (q : Req) (s u : State) (c : Ctx) (n m : Nat),
    (u = s.served (cls.toNat * 256 + 5) q) ∧ (c = s.ctx (cls.toNat * 256 + 5) q) ∧ (s.accepts (cls.toNat * 256 + 5) q = true) ∧ (statCount (c.cmd / 256) (orefOf c.payload) = some (m, n)) ∧ (¬(c.cmd / 256 = cSec ∧ (orefOf c.payload).typ = 0x1C) ∧ ¬(c.cmd / 256 = cFault ∧ (orefOf c.payload).typ = 0x01)) :=
  ⟨4, wReq 0 [4, 0, 255, 0, 255, 255, 255, 255], wState, _, _, 33, 32, rfl, rfl, by decide⟩

theorem witness_CommonVerbsComplete_7 : ∃ (cls : Byte) (q : Req) (s u : State) (c : Ctx),
    (u = s.served (cls.toNat * 256 + 5) q) ∧ (c = s.ctx (cls.toNat * 256 + 5) q) ∧ (s.accepts (cls.toNat * 256 + 5) q = true) ∧ (c.cmd / 256 = cSec ∧ (orefOf c.payload).typ = 0x1C) :=
  ⟨12, (wReq 0 [28, 0, 255, 0, 0, 0, 0, 0]), wState, _, _, rfl, rfl, by decide +kernel, by decide +kernel⟩

theorem witness_CommonVerbsComplete_8 : ∃ (cls : Byte) (q : Req) (s u : State) (c : Ctx),
    (u = s.served (cls.toNat * 256 + 5) q) ∧ (c = s.ctx (cls.toNat * 256 + 5) q) ∧ (s.accepts (cls.toNat * 256 + 5) q = true) ∧ (c.cmd / 256 = cFault ∧ (orefOf c.payload).typ = 0x01) :=
  ⟨17, (wReq 0 [1, 0, 255, 255, 255, 255, 255, 255]), wState, _, _, rfl, rfl, by decide +kernel, by decide +kernel⟩

theorem witness_spanSleepReq : ∃ (q : Req) (s u : State) (c : Ctx) (v : State),
    (u = s.served 0x0210 q) ∧ (c = s.ctx 0x0210 q) ∧ (s.accepts 0x0210 q = true) ∧ ((orefOf c.payload).typ = 0x03) ∧ (leAt c.payload 8 4 ≤ 1) ∧ (u.spanPar (orefOf c.payload).span 0x0100 ≠ 0) ∧ (v = u.holdClear (orefOf c.payload).span c.client) :=
  ⟨wReq 0 [3, 0, 1, 255, 255, 255, 255, 255, 0, 0, 0, 0], { wState with cfg := [(pkey (oSpan 1) 0x0100, 1)] }, _, _, _, rfl, rfl, by decide, by decide, by decide, by decide, rfl⟩

theorem witness_spanWakeReq : ∃ (q : Req) (s u : State) (c : Ctx) (v : State),
    (u = s.served 0x0211 q) ∧ (c = s.ctx 0x0211 q) ∧ (s.accepts 0x0211 q = true) ∧ ((orefOf c.payload).typ = 0x03) ∧ (v = u.holdSet (orefOf c.payload).span c.client) :=
  ⟨wReq 0 [3, 0, 1, 255, 255, 255, 255, 255], wState, _, _, _, rfl, rfl, by decide, by decide, rfl⟩

theorem witness_spanState : ∃ (q : Req) (s u : State) (c : Ctx) (v : SpanSt),
    (u = s.served 0x0212 q) ∧ (c = s.ctx 0x0212 q) ∧ (s.accepts 0x0212 q = true) ∧ ((orefOf c.payload).typ = 0x03) ∧ (v = u.span (orefOf c.payload).span) :=
  ⟨wReq 0 [3, 0, 1, 255, 255, 255, 255, 255], wState, _, _, _, rfl, rfl, by decide, by decide, rfl⟩

theorem witness_spanWakeSources : ∃ (q : Req) (s u : State) (c : Ctx) (v : State),
    (u = s.served 0x0213 q) ∧ (c = s.ctx 0x0213 q) ∧ (s.accepts 0x0213 q = true) ∧ (1 ≤ leAt c.payload 10 2 ∧ leAt c.payload 10 2 ≤ 62) ∧ (v = (u.openTicket c []).2) :=
  ⟨wReq 0 [1, 0, 255, 255, 255, 255, 255, 255, 0, 0, 1, 0], wState, _, _, _, rfl, rfl, by decide, by decide, rfl⟩

theorem witness_spanStayAwakeLog : ∃ (q : Req) (s u : State) (c : Ctx),
    (u = s.served 0x0214 q) ∧ (c = s.ctx 0x0214 q) ∧ (s.accepts 0x0214 q = true) ∧ ((orefOf c.payload).typ = 0x03 ∧ leAt c.payload 9 3 = 0) ∧ (leAt c.payload 8 1 = 0 ∧ 1 ≤ leAt c.payload 14 2 ∧ leAt c.payload 14 2 ≤ 62) :=
  ⟨wReq 0 [3, 0, 1, 255, 255, 255, 255, 255, 0, 0, 0, 0, 0, 0, 1, 0], wState, _, _, rfl, rfl, by decide⟩

theorem witness_spanStayAwakeLog_nodes : ∃ (q : Req) (s u : State) (c : Ctx),
    (u = s.served 0x0214 q) ∧ (c = s.ctx 0x0214 q) ∧ (s.accepts 0x0214 q = true) ∧ ((orefOf c.payload).typ = 0x03 ∧ leAt c.payload 9 3 = 0) ∧ (leAt c.payload 8 1 = 1 ∧ 1 ≤ leAt c.payload 14 2 ∧ leAt c.payload 14 2 ≤ 252 ∧ leAt c.payload 12 2 + leAt c.payload 14 2 ≤ 256) :=
  ⟨wReq 0 [3, 0, 1, 255, 255, 255, 255, 255, 1, 0, 0, 0, 0, 0, 1, 0], wState, _, _, rfl, rfl, by decide⟩

theorem witness_spanStayAwakeLog_clients : ∃ (q : Req) (s u : State) (c : Ctx),
    (u = s.served 0x0214 q) ∧ (c = s.ctx 0x0214 q) ∧ (s.accepts 0x0214 q = true) ∧ ((orefOf c.payload).typ = 0x03 ∧ leAt c.payload 9 3 = 0) ∧ (leAt c.payload 8 1 = 2 ∧ leAt c.payload 12 2 = 0 ∧ leAt c.payload 14 2 = 8) :=
  ⟨wReq 0 [3, 0, 1, 255, 255, 255, 255, 255, 2, 0, 0, 0, 0, 0, 8, 0], wState, _, _, rfl, rfl, by decide⟩

theorem witness_spanMemberSet : ∃ (q : Req) (s u : State) (c : Ctx) (d : Draft),
    (u = s.served 0x0215 q) ∧ (c = s.ctx 0x0215 q) ∧ (s.accepts 0x0215 q = true) ∧ ((orefOf c.payload).typ = 0x03 ∧ leAt c.payload 8 1 ≤ 103 ∧ leAt c.payload 9 3 = 0 ∧ u.absentVariant = false) ∧ (u.spanState (u.spanOf (leAt c.payload 8 1)) = spAwake ∧ u.spanState (orefOf c.payload).span = spAwake) ∧ (u.draft c.client c.txn = some d) ∧ (u.locked c.client [lockOf (pkey (oChan (leAt c.payload 8 1)) pidSpan)] = false ∧ u.draftRoom c = true) :=
  ⟨wReq 7 [3, 0, 1, 255, 255, 255, 255, 255, 24, 0, 0, 0], wState, _, _, ⟨7, 0, 0, 0, []⟩, rfl, rfl, by decide +kernel⟩

theorem witness_chanEnable_enabled : ∃ (q : Req) (s u : State) (c : Ctx),
    (u = s.served 0x0310 q) ∧ (c = s.ctx 0x0310 q) ∧ (s.accepts 0x0310 q = true) ∧ ((orefOf c.payload).chan ≠ 22 ∧ (orefOf c.payload).chan ≠ 23) ∧ (u.chanEnabled (orefOf c.payload).chan = true) :=
  ⟨wReq 0 [4, 0, 255, 24, 255, 255, 255, 255], (wState.setF (CanStatus.enabled 0) 1), _, _, rfl, rfl, by decide +kernel⟩

theorem witness_ChannelCommandsComplete_1 : ∃ (q : Req) (s u : State) (c : Ctx),
    (u = s.served 0x0310 q) ∧ (c = s.ctx 0x0310 q) ∧ (s.accepts 0x0310 q = true) ∧ ((orefOf c.payload).chan ≠ 22 ∧ (orefOf c.payload).chan ≠ 23) ∧ (u.chanEnabled (orefOf c.payload).chan = false) ∧ (u.spanState (u.spanOf (orefOf c.payload).chan) ∉ [spEntering, spAsleep, spWaking]) ∧ (24 ≤ (orefOf c.payload).chan ∧ (orefOf c.payload).chan ≤ 31 → u.cwRetained (((orefOf c.payload).chan - 24) / 2) = false) :=
  ⟨(wReq 0 [4, 0, 255, 24, 255, 255, 255, 255]), wState, _, _, rfl, rfl, by decide +kernel, by decide +kernel, by decide +kernel, by decide +kernel, by decide +kernel⟩

theorem witness_chanDisable_disabled : ∃ (q : Req) (s u : State) (c : Ctx),
    (u = s.served 0x0311 q) ∧ (c = s.ctx 0x0311 q) ∧ (s.accepts 0x0311 q = true) ∧ ((orefOf c.payload).chan ≠ 22 ∧ (orefOf c.payload).chan ≠ 23 ∧ (leAt c.payload 8 1 = 1 ∨ leAt c.payload 8 1 = 2) ∧ leAt c.payload 9 3 = 0) ∧ (u.chanEnabled (orefOf c.payload).chan = false) :=
  ⟨wReq 0 [4, 0, 255, 24, 255, 255, 255, 255, 1, 0, 0, 0], wState, _, _, rfl, rfl, by decide +kernel⟩

theorem witness_chanDisable : ∃ (q : Req) (s u : State) (c : Ctx) (o : Resp × State),
    (u = s.served 0x0311 q) ∧ (c = s.ctx 0x0311 q) ∧ (s.accepts 0x0311 q = true) ∧ ((orefOf c.payload).chan ≠ 22 ∧ (orefOf c.payload).chan ≠ 23 ∧ (leAt c.payload 8 1 = 1 ∨ leAt c.payload 8 1 = 2) ∧ leAt c.payload 9 3 = 0) ∧ (u.chanEnabled (orefOf c.payload).chan = true) ∧ (o = u.runP c [(orefOf c.payload).lock] (fun s ref => s.chanDisable (orefOf c.payload).chan (leAt c.payload 8 1) ref)) :=
  ⟨wReq 0 [4, 0, 255, 24, 255, 255, 255, 255, 1, 0, 0, 0], (wState.setF (CanStatus.enabled 0) 1), _, _, _, rfl, rfl, by decide +kernel, by decide +kernel, by decide +kernel, rfl⟩

theorem witness_chanLinkState : ∃ (q : Req) (s u : State) (c : Ctx) (w : Nat → List Byte),
    (u = s.served 0x0312 q) ∧ (c = s.ctx 0x0312 q) ∧ (s.accepts 0x0312 q = true) ∧ (w = fun (x : Nat) => leBytes 4 (if x = 0 then 0 else (u.reg x).toNat)) :=
  ⟨wReq 0 [4, 0, 255, 24, 255, 255, 255, 255], wState, _, _, _, rfl, rfl, by decide, rfl⟩

theorem witness_chanXcvrMode_fails : ∃ (q : Req) (s u : State) (c : Ctx),
    (u = s.served 0x0313 q) ∧ (c = s.ctx 0x0313 q) ∧ (s.accepts 0x0313 q = true) ∧ (24 ≤ (orefOf c.payload).chan ∧ (orefOf c.payload).chan ≤ 39 ∧ leAt c.payload 8 1 ≤ 3 ∧ leAt c.payload 9 3 = 0) ∧ (leAt c.payload 8 1 = 0 → u.spanState (u.spanOf (orefOf c.payload).chan) = spAwake ∧ u.brim.vcc5 = true) :=
  ⟨wReq 0 [4, 0, 255, 24, 255, 255, 255, 255, 2, 0, 0, 0], wState, _, _, rfl, rfl, by decide +kernel⟩

theorem witness_ethWakePatternSet : ∃ (q : Req) (s u : State) (c : Ctx) (d : Draft) (k : Nat) (ch : List (Nat × Nat)),
    (u = s.served 0x0410 q) ∧ (c = s.ctx 0x0410 q) ∧ (s.accepts 0x0410 q = true) ∧ (c.payload.length = 156 ∧ (orefOf c.payload).typ = 0x17) ∧ (leAt c.payload 8 1 ≤ 1 ∧ 1 ≤ leAt c.payload 9 1 ∧ leAt c.payload 9 1 ≤ 128 ∧ leAt c.payload 10 2 = 0 ∧
        leVal ((sliceB c.payload 0x1C 128).drop (leAt c.payload 9 1)) = 0) ∧ (k = (orefOf c.payload).key ∧ ch = [(pkey k (pidRaw 0), leAt c.payload 8 1), (pkey k (pidRaw 1), leAt c.payload 9 1),
        (pkey k (pidRaw 2), leAt c.payload 12 16), (pkey k (pidRaw 3), leVal (sliceB c.payload 0x1C 128))]) ∧ (u.draft c.client c.txn = some d) ∧ (u.locked c.client (ch.map (fun kv => lockOf kv.1)) = false ∧ u.draftRoom c = true) :=
  ⟨wReq 7 ([0x17, 0, 0xFF, 0, 255, 255, 255, 255, 1, 1, 0, 0] ++ zeros 144), wState, _, _, ⟨7, 0, 0, 0, []⟩, _, _, rfl, rfl, by decide +kernel, by decide +kernel, by decide +kernel, ⟨rfl, rfl⟩, by decide +kernel⟩

theorem witness_ethPauseStormClear : ∃ (q : Req) (s u : State) (c : Ctx),
    (u = s.served 0x0411 q) ∧ (c = s.ctx 0x0411 q) ∧ (s.accepts 0x0411 q = true) ∧ ((orefOf c.payload).typ = 0x04) :=
  ⟨wReq 0 [4, 0, 255, 0, 255, 255, 255, 255, 1, 0, 0, 0], wState, _, _, rfl, rfl, by decide⟩

theorem witness_ethMdioRead : ∃ (q : Req) (s u : State) (c : Ctx) (v : State),
    (u = s.served 0x0412 q) ∧ (c = s.ctx 0x0412 q) ∧ (s.accepts 0x0412 q = true) ∧ (c.payload.length = 8 ∧ mdioOk c.payload false = true) ∧ (u.mdioQueue (leAt c.payload 0 1) = [] ∧ leAt c.payload 1 1 = 22) ∧ (v = u.mdioStart (leAt c.payload 0 1) c.payload false) :=
  ⟨wReq 0 [0, 22, 1, 0, 1, 0, 0, 0], wState, _, _, _, rfl, rfl, by decide +kernel, by decide +kernel, by decide +kernel, rfl⟩

theorem witness_ethMdioRead_pending : ∃ (q : Req) (s u : State) (c : Ctx) (v : State),
    (u = s.served 0x0412 q) ∧ (c = s.ctx 0x0412 q) ∧ (s.accepts 0x0412 q = true) ∧ (c.payload.length = 8 ∧ mdioOk c.payload false = true) ∧ (u.mdioQueue (leAt c.payload 0 1) ≠ []) ∧ (v = (u.openTicket c []).2) :=
  ⟨wReq 0 [0, 22, 1, 0, 1, 0, 0, 0], { wState with egr := { mdio := [(0, [(0, 5, [])])] } }, _, _, _, rfl, rfl, by decide +kernel, by decide +kernel, by decide +kernel, rfl⟩

theorem witness_EthCommandsComplete_4 : ∃ (q : Req) (s u : State) (c : Ctx) (v : State),
    (u = s.served 0x0412 q) ∧ (c = s.ctx 0x0412 q) ∧ (s.accepts 0x0412 q = true) ∧ (c.payload.length = 8 ∧ mdioOk c.payload false = true) ∧ (u.mdioQueue (leAt c.payload 0 1) = [] ∧ leAt c.payload 1 1 = 45) ∧ (v = u.mdioStart (leAt c.payload 0 1) c.payload false) :=
  ⟨(wReq 0 [0, 45, 1, 0, 1, 0, 0, 0]), wState, _, _, _, rfl, rfl, by decide +kernel, by decide +kernel, by decide +kernel, rfl⟩

theorem witness_ethMdioWrite : ∃ (q : Req) (s u : State) (c : Ctx),
    (u = s.served 0x0413 q) ∧ (c = s.ctx 0x0413 q) ∧ (s.accepts 0x0413 q = true) ∧ (c.payload.length = 8 ∧ mdioOk c.payload true = true) ∧ (u.mdioQueue (leAt c.payload 0 1) = [] ∧ leAt c.payload 1 1 = 22) :=
  ⟨wReq 0 [0, 22, 1, 0, 1, 0, 0, 0], wState, _, _, rfl, rfl, by decide +kernel⟩

theorem witness_ethMdioWrite_pending : ∃ (q : Req) (s u : State) (c : Ctx) (v : State),
    (u = s.served 0x0413 q) ∧ (c = s.ctx 0x0413 q) ∧ (s.accepts 0x0413 q = true) ∧ (c.payload.length = 8 ∧ mdioOk c.payload true = true) ∧ (u.mdioQueue (leAt c.payload 0 1) = [] ∧ leAt c.payload 1 1 = 45) ∧ (v = u.mdioStart (leAt c.payload 0 1) c.payload true) :=
  ⟨wReq 0 [0, 45, 1, 0, 1, 0, 0, 0], wState, _, _, _, rfl, rfl, by decide +kernel, by decide +kernel, by decide +kernel, rfl⟩

theorem witness_EthCommandsComplete_7 : ∃ (q : Req) (s u : State) (c : Ctx) (v : State),
    (u = s.served 0x0413 q) ∧ (c = s.ctx 0x0413 q) ∧ (s.accepts 0x0413 q = true) ∧ (c.payload.length = 8 ∧ mdioOk c.payload true = true) ∧ (u.mdioQueue (leAt c.payload 0 1) ≠ []) ∧ (v = (u.openTicket c []).2) :=
  ⟨(wReq 0 [0, 22, 1, 0, 1, 0, 0, 0]), { wState with egr := { mdio := [(0, [(0, 5, [])])] } }, _, _, _, rfl, rfl, by decide +kernel, by decide +kernel, by decide +kernel, rfl⟩

theorem witness_canBusOffRecover : ∃ (q : Req) (s u : State) (c : Ctx) (n : Nat),
    (u = s.served 0x0510 q) ∧ (c = s.ctx 0x0510 q) ∧ (s.accepts 0x0510 q = true) ∧ (n = (orefOf c.payload).chan - 24) ∧ (u.getF (CanStatus.errState n) = 2) :=
  ⟨wReq 0 [4, 0, 255, 24, 255, 255, 255, 255], (wState.setF (CanStatus.errState 0) 2), _, _, _, rfl, rfl, by decide +kernel, rfl, by decide +kernel⟩

theorem witness_canRestrictedSet : ∃ (q : Req) (s u : State) (c : Ctx) (n : Nat),
    (u = s.served 0x0511 q) ∧ (c = s.ctx 0x0511 q) ∧ (s.accepts 0x0511 q = true) ∧ (n = (orefOf c.payload).chan - 24) ∧ (leAt c.payload 8 4 = 1) ∧ (u.getF (CanStatus.errState n) ≠ 2) :=
  ⟨wReq 0 [4, 0, 255, 24, 255, 255, 255, 255, 1, 0, 0, 0], wState, _, _, _, rfl, rfl, by decide +kernel, rfl, by decide +kernel⟩

theorem witness_canRestrictedSet_clear : ∃ (q : Req) (s u : State) (c : Ctx) (n : Nat),
    (u = s.served 0x0511 q) ∧ (c = s.ctx 0x0511 q) ∧ (s.accepts 0x0511 q = true) ∧ (n = (orefOf c.payload).chan - 24) ∧ (leAt c.payload 8 4 = 0) ∧ (u.getF (CanStatus.errState n) ≠ 2) :=
  ⟨wReq 0 [4, 0, 255, 24, 255, 255, 255, 255, 0, 0, 0, 0], wState, _, _, _, rfl, rfl, by decide +kernel, rfl, by decide +kernel⟩

theorem witness_canTxFrame : ∃ (q : Req) (s u : State) (c : Ctx) (n : Nat) (r : List Byte) (t : State),
    (u = s.served 0x0512 q) ∧ (c = s.ctx 0x0512 q) ∧ (s.accepts 0x0512 q = true) ∧ (n = (orefOf c.payload).chan - 24) ∧ (txRecordOf c.payload = some r) ∧ (u.canClosed n = false ∧ txRecordOk r = true ∧ u.canCarries n r = true) ∧ (bitOf (leAt r 14 1) 3 = true → u.txcFree n ≠ 0) ∧ (bitOf (leAt r 14 1) 4 = false) ∧ (State.canEnqueueTx (if bitOf (leAt r 14 1) 3 then u.txcReserve n else u) n r (if bitOf (leAt r 14 1) 3 then some 0xFFFF else none) = some t) :=
  ⟨wReq 0 ([4, 0, 255, 24, 255, 255, 255, 255] ++ zeros 16), (wState.setF (CanStatus.enabled 0) 1), _, _, _, _, _, rfl, rfl, by decide +kernel, rfl, rfl, by decide +kernel, by decide +kernel, by decide +kernel, rfl⟩

theorem witness_canTxFrame_atTime : ∃ (q : Req) (s u : State) (c : Ctx) (n : Nat) (r : List Byte),
    (u = s.served 0x0512 q) ∧ (c = s.ctx 0x0512 q) ∧ (s.accepts 0x0512 q = true) ∧ (n = (orefOf c.payload).chan - 24) ∧ (txRecordOf c.payload = some r) ∧ (u.canClosed n = false ∧ txRecordOk r = true ∧ u.canCarries n r = true) ∧ (bitOf (leAt r 14 1) 3 = true → u.txcFree n ≠ 0) ∧ (bitOf (leAt r 14 1) 4 = true ∧ (u.canLane n).at_ = none) :=
  ⟨wReq 0 ([4, 0, 255, 24, 255, 255, 255, 255] ++ zeros 14 ++ [0x10, 0]), (wState.setF (CanStatus.enabled 0) 1), _, _, _, _, rfl, rfl, by decide +kernel, rfl, rfl, by decide +kernel, by decide +kernel, by decide +kernel⟩

theorem witness_canTxAtTime : ∃ (q : Req) (s u : State) (c : Ctx) (n : Nat) (r : List Byte),
    (u = s.served 0x0513 q) ∧ (c = s.ctx 0x0513 q) ∧ (s.accepts 0x0513 q = true) ∧ (n = (orefOf c.payload).chan - 24) ∧ (txRecordOf c.payload = some r) ∧ (u.canClosed n = false ∧ (u.canLane n).at_ = none ∧ txRecordOk r = true ∧ u.canCarries n r = true) ∧ (bitOf (leAt r 14 1) 3 = true → u.txcFree n ≠ 0) :=
  ⟨wReq 0 ([4, 0, 255, 24, 255, 255, 255, 255] ++ zeros 16), (wState.setF (CanStatus.enabled 0) 1), _, _, _, _, rfl, rfl, by decide +kernel, rfl, rfl, by decide +kernel, by decide +kernel⟩

theorem witness_canSwakeSet : ∃ (q : Req) (s u : State) (c : Ctx) (d : Draft),
    (u = s.served 0x0514 q) ∧ (c = s.ctx 0x0514 q) ∧ (s.accepts 0x0514 q = true) ∧ (c.payload.length = 28 ∧ (orefOf c.payload).chan ≤ 39) ∧ (leAt c.payload 8 1 ≤ 1 ∧ leAt c.payload 9 1 ≤ 3 ∧ leAt c.payload 10 1 ≤ 8 ∧ leAt c.payload 11 1 = 0) ∧ (leAt c.payload 12 4 < 2 ^ 29 ∧ leAt c.payload 16 4 < 2 ^ 29 ∧ (bitOf (leAt c.payload 9 1) 0 = false → leAt c.payload 12 4 < 2 ^ 11)) ∧ (u.draft c.client c.txn = some d) ∧ (u.locked c.client [lockOf (pkey (orefOf c.payload).key pidSwake)] = false ∧ u.draftRoom c = true) :=
  ⟨wReq 7 ([4, 0, 255, 24, 255, 255, 255, 255] ++ zeros 20), wState, _, _, ⟨7, 0, 0, 0, []⟩, rfl, rfl, by decide +kernel⟩

theorem witness_canErrorState : ∃ (q : Req) (s u : State) (c : Ctx) (n : Nat),
    (u = s.served 0x0515 q) ∧ (c = s.ctx 0x0515 q) ∧ (s.accepts 0x0515 q = true) ∧ (n = (orefOf c.payload).chan - 24) :=
  ⟨wReq 0 [4, 0, 255, 24, 255, 255, 255, 255], wState, _, _, _, rfl, rfl, by decide, rfl⟩

theorem witness_linScheduleSet : ∃ (q : Req) (s u : State) (c : Ctx) (d : Draft) (k : Nat) (ch : List (Nat × Nat)),
    (u = s.served 0x0610 q) ∧ (c = s.ctx 0x0610 q) ∧ (s.accepts 0x0610 q = true) ∧ ((orefOf c.payload).typ = 0x16 ∧ leAt c.payload 8 2 ≤ 64 ∧ c.payload.length = 12 + 8 * leAt c.payload 8 2 ∧ leAt c.payload 10 2 = 0) ∧ ((∀ i, i < leAt c.payload 8 2 → schedOk (leAt c.payload (12 + 8 * i) 8) = true)) ∧ (k = (orefOf c.payload).key ∧ ch = [(pkey k (pidRaw 0), leAt c.payload 8 2), (pkey k (pidRaw 1), leVal (c.payload.drop 12))]) ∧ (u.draft c.client c.txn = some d) ∧ (u.locked c.client (ch.map (fun kv => lockOf kv.1)) = false ∧ u.draftRoom c = true) :=
  ⟨wReq 7 [22, 0, 255, 88, 0, 0, 0, 0, 1, 0, 0, 0, 0, 5, 10, 0, 0, 0, 0, 0], wState, _, _, ⟨7, 0, 0, 0, []⟩, _, _, rfl, rfl, by decide, by decide, by decide, ⟨rfl, rfl⟩, by decide⟩

theorem witness_LinCommandsComplete_1 : ∃ (q : Req) (s u : State) (c : Ctx) (n : Nat) (v : State),
    (u = s.served 0x0611 q) ∧ (c = s.ctx 0x0611 q) ∧ (s.accepts 0x0611 q = true) ∧ (n = (orefOf c.payload).chan - 88 ∧ (orefOf c.payload).typ = 0x16 ∧ leAt c.payload 8 4 ≤ 1) ∧ (u.getF (LinStatus.roleActive n) = 1 ∧ (u.linLane n).sleepPend = false ∧ (u.linLane n).slot ≠ .sleep) ∧ (v = u.setLin n { u.linLane n with restartAt := none, wakeRestart := false, lastTable := if leAt c.payload 8 4 = 0 then some (orefOf c.payload).idx else (u.linLane n).lastTable }) :=
  ⟨(wReq 0 [22, 0, 255, 88, 0, 0, 0, 0, 0, 0, 0, 0]), (wState.setF (LinStatus.roleActive 0) 1), _, _, _, _, rfl, rfl, by decide +kernel, ⟨rfl, by decide +kernel, by decide +kernel⟩, by decide +kernel, rfl⟩

theorem witness_linGotoSleep : ∃ (q : Req) (s u : State) (c : Ctx) (n : Nat),
    (u = s.served 0x0612 q) ∧ (c = s.ctx 0x0612 q) ∧ (s.accepts 0x0612 q = true) ∧ (n = (orefOf c.payload).chan - 88 ∧ (orefOf c.payload).typ = 0x04) ∧ (u.getF (LinStatus.roleActive n) = 1) :=
  ⟨wReq 0 [4, 0, 255, 88, 255, 255, 255, 255], (wState.setF (LinStatus.roleActive 0) 1), _, _, _, rfl, rfl, by decide +kernel, ⟨rfl, by decide +kernel⟩, by decide +kernel⟩

theorem witness_linWakeupSend : ∃ (q : Req) (s u : State) (c : Ctx) (n : Nat),
    (u = s.served 0x0613 q) ∧ (c = s.ctx 0x0613 q) ∧ (s.accepts 0x0613 q = true) ∧ (n = (orefOf c.payload).chan - 88 ∧ (orefOf c.payload).typ = 0x04) ∧ (u.getF (LinStatus.roleActive n) ≠ 0 ∧ u.flag (LinStatus.running n) = false) :=
  ⟨wReq 0 [4, 0, 255, 88, 255, 255, 255, 255], (wState.setF (LinStatus.roleActive 0) 2), _, _, _, rfl, rfl, by decide +kernel, ⟨rfl, by decide +kernel⟩, by decide +kernel⟩

theorem witness_linResponseSet : ∃ (q : Req) (s u : State) (c : Ctx) (d : Draft) (n : Nat),
    (u = s.served 0x0614 q) ∧ (c = s.ctx 0x0614 q) ∧ (s.accepts 0x0614 q = true) ∧ (n = (orefOf c.payload).chan - 88 ∧ (orefOf c.payload).typ = 0x04 ∧ leVal ((c.payload.drop 8).drop 60) = 0) ∧ ((∀ b ∈ c.payload.drop 8, linDir b.toNat ≤ 2 ∧ bitOf b.toNat 3 = false ∧ bitOf b.toNat 7 = false)) ∧ (u.draft c.client c.txn = some d) ∧ (u.locked c.client [lockOf (pkey (oChan (88 + n)) pidFrameTable)] = false ∧ u.draftRoom c = true) :=
  ⟨wReq 7 ([4, 0, 255, 88, 255, 255, 255, 255] ++ zeros 64), wState, _, _, ⟨7, 0, 0, 0, []⟩, _, rfl, rfl, by decide +kernel, ⟨rfl, by decide +kernel⟩, by decide +kernel, by decide +kernel, by decide +kernel⟩

theorem witness_fdbAddStatic : ∃ (q : Req) (s u : State) (c : Ctx) (w e : Nat) (d : Draft),
    (u = s.served 0x0710 q) ∧ (c = s.ctx 0x0710 q) ∧ (s.accepts 0x0710 q = true) ∧ ((orefOf c.payload).typ = 0x01) ∧ ((leAt c.payload 14 2) < 4096 ∧ leAt c.payload 16 4 < 2 ^ 23 ∧ leAt c.payload 20 4 ≤ 1) ∧ (u.locked c.client [fdbLock (fdbBucket (sliceB c.payload 8 6) (leAt c.payload 14 2) * 8)] = false) ∧ (u.fdbPlace c (sliceB c.payload 8 6) (leAt c.payload 14 2) = some w) ∧ (e = leVal (sliceB c.payload 8 6) + (leAt c.payload 14 2) * 2 ^ 48 + 3 * 2 ^ 60 + leAt c.payload 20 4 * 2 ^ 63 + leAt c.payload 16 4 * 2 ^ 64) ∧ (u.draft c.client c.txn = some d) ∧ (u.locked c.client [lockOf (pkey (oFdb w) (pidRaw 0))] = false ∧ u.draftRoom c = true) :=
  ⟨wReq 7 ([1, 0, 255, 255, 255, 255, 255, 255] ++ [0x11, 0x22, 0x33, 0x44, 0x55, 0x66] ++ [5, 0, 3, 0, 0, 0, 1, 0, 0, 0]), wState, _, _, fdbBucket [0x11, 0x22, 0x33, 0x44, 0x55, 0x66] 5 * 8, _, ⟨7, 0, 0, 0, []⟩, rfl, rfl, by decide +kernel, by decide +kernel, by decide +kernel, by decide +kernel, by decide +kernel, rfl, by decide +kernel, by decide +kernel⟩

theorem witness_fdbDelete : ∃ (q : Req) (s u : State) (c : Ctx) (w : Nat) (d : Draft),
    (u = s.served 0x0711 q) ∧ (c = s.ctx 0x0711 q) ∧ (s.accepts 0x0711 q = true) ∧ ((orefOf c.payload).typ = 0x01) ∧ ((leAt c.payload 14 2) < 4096) ∧ (u.locked c.client [fdbLock (fdbBucket (sliceB c.payload 8 6) (leAt c.payload 14 2) * 8)] = false) ∧ (u.fdbFindStatic c (sliceB c.payload 8 6) (leAt c.payload 14 2) = some w) ∧ (u.draft c.client c.txn = some d) ∧ (u.locked c.client [lockOf (pkey (oFdb w) (pidRaw 0))] = false ∧ u.draftRoom c = true) :=
  ⟨wReq 7 ([1, 0, 255, 255, 255, 255, 255, 255] ++ [0x11, 0x22, 0x33, 0x44, 0x55, 0x66] ++ [5, 0]), wStatic, _, _, fdbBucket [0x11, 0x22, 0x33, 0x44, 0x55, 0x66] 5 * 8, ⟨7, 0, 0, 0, []⟩, rfl, rfl, by decide +kernel⟩

theorem witness_FdbCommandsComplete_2 : ∃ (q : Req) (s u : State) (c : Ctx),
    (u = s.served 0x0712 q) ∧ (c = s.ctx 0x0712 q) ∧ (s.accepts 0x0712 q = true) ∧ ((orefOf c.payload).typ = 0x01) ∧ (u.locked c.client fdbLocks = false) ∧ (leAt c.payload 8 4 < 2 ^ 23 ∧ leAt c.payload 14 2 = 0 ∧ (leAt c.payload 12 2 = 0xFFFF ∨ leAt c.payload 12 2 ≤ 4095)) :=
  ⟨(wReq 0 [1, 0, 255, 255, 255, 255, 255, 255, 0, 0, 0, 0, 5, 0, 0, 0]), wState, _, _, rfl, rfl, by decide +kernel, by decide +kernel, by decide +kernel, by decide +kernel⟩

theorem witness_fdbLookup : ∃ (q : Req) (s u : State) (c : Ctx) (w : Nat),
    (u = s.served 0x0713 q) ∧ (c = s.ctx 0x0713 q) ∧ (s.accepts 0x0713 q = true) ∧ ((orefOf c.payload).typ = 0x01) ∧ ((leAt c.payload 14 2) < 4096) ∧ (u.fdbLook c (sliceB c.payload 8 6) (leAt c.payload 14 2) = some w) :=
  ⟨wReq 0 ([1, 0, 255, 255, 255, 255, 255, 255] ++ [0x11, 0x22, 0x33, 0x44, 0x55, 0x66] ++ [5, 0]), wStatic, _, _, fdbBucket [0x11, 0x22, 0x33, 0x44, 0x55, 0x66] 5 * 8, rfl, rfl, by decide +kernel⟩

theorem witness_fdbAgeingSet : ∃ (q : Req) (s u : State) (c : Ctx) (d : Draft),
    (u = s.served 0x0714 q) ∧ (c = s.ctx 0x0714 q) ∧ (s.accepts 0x0714 q = true) ∧ ((orefOf c.payload).typ = 0x01) ∧ (leAt c.payload 8 4 = 0 ∨ (10 ≤ leAt c.payload 8 4 ∧ leAt c.payload 8 4 ≤ 1000000)) ∧ (u.draft c.client c.txn = some d) ∧ (u.locked c.client [lockOf (pkey oDeck pidAgeing)] = false ∧ u.draftRoom c = true) :=
  ⟨wReq 7 [1, 0, 255, 255, 255, 255, 255, 255, 10, 0, 0, 0], wState, _, _, ⟨7, 0, 0, 0, []⟩, rfl, rfl, by decide⟩

theorem witness_fdbLearnSet : ∃ (q : Req) (s u : State) (c : Ctx) (ch : List (Nat × Nat)) (d : Draft),
    (u = s.served 0x0715 q) ∧ (c = s.ctx 0x0715 q) ∧ (s.accepts 0x0715 q = true) ∧ ((orefOf c.payload).typ = 0x04) ∧ (leAt c.payload 8 1 ≤ 1 ∧ leAt c.payload 9 3 = 0 ∧ 1 ≤ leAt c.payload 12 4 ∧ leAt c.payload 12 4 ≤ 32768) ∧ (ch = [(pkey (orefOf c.payload).key pidLearnEn, leAt c.payload 8 1), (pkey (orefOf c.payload).key pidLearnLimit, leAt c.payload 12 4)]) ∧ (u.draft c.client c.txn = some d) ∧ (u.locked c.client (ch.map (fun kv => lockOf kv.1)) = false ∧ u.draftRoom c = true) :=
  ⟨wReq 7 [4, 0, 255, 1, 255, 255, 255, 255, 1, 0, 0, 0, 9, 0, 0, 0], wState, _, _, _, ⟨7, 0, 0, 0, []⟩, rfl, rfl, by decide, by decide, by decide, rfl, by decide, by decide⟩

theorem witness_routeDraftOpen : ∃ (q : Req) (s u : State) (c : Ctx) (n : Nat),
    (u = s.served 0x0810 q) ∧ (c = s.ctx 0x0810 q) ∧ (s.accepts 0x0810 q = true) ∧ ((∀ e ∈ u.gci.drafts, e.client ≠ c.client)) ∧ (u.gci.drafts.length < 4) ∧ (n = (Config.handleBase + u.gci.draftCount) % (2 ^ 32 - 1) + 1) :=
  ⟨wReq 0 [], { regs := [(0x40, 0x8)] }, _, _, _, rfl, rfl, by decide, by decide, by decide, rfl⟩

theorem witness_routeCommit_dry : ∃ (q : Req) (s u : State) (c : Ctx) (d : Draft) (v : State),
    (u = s.served 0x0811 q) ∧ (c = s.ctx 0x0811 q) ∧ (s.accepts 0x0811 q = true) ∧ (u.draft c.client c.txn = some d) ∧ (v = u.useDraft d) ∧ (bitsOf (leAt c.payload 4 4) 31 2 = 0 ∧ v.commitCheck d (leAt c.payload 0 4) (leAt c.payload 4 4) = none) ∧ (bitOf (leAt c.payload 4 4) 0 = true) :=
  ⟨wReq 7 [0, 0, 0, 0, 1, 0, 0, 0], wState, _, _, ⟨7, 0, 0, 0, []⟩, _, rfl, rfl, by decide, by decide, rfl, by decide +kernel, by decide⟩

theorem witness_routeCommit : ∃ (q : Req) (s u : State) (c : Ctx) (d : Draft) (v : State),
    (u = s.served 0x0811 q) ∧ (c = s.ctx 0x0811 q) ∧ (s.accepts 0x0811 q = true) ∧ (u.draft c.client c.txn = some d) ∧ (v = u.useDraft d) ∧ (bitsOf (leAt c.payload 4 4) 31 2 = 0 ∧ v.commitCheck d (leAt c.payload 0 4) (leAt c.payload 4 4) = none) ∧ (bitOf (leAt c.payload 4 4) 0 = false) ∧ (v.oldCfg = none ∧ v.gci.commits = [] ∧ v.dumping = false) :=
  ⟨wReq 7 [0, 0, 0, 0, 0, 0, 0, 0], wState, _, _, ⟨7, 0, 0, 0, []⟩, _, rfl, rfl, by decide, by decide, rfl, by decide +kernel, by decide, by decide +kernel⟩

theorem witness_RouteCommandsComplete_3 : ∃ (q : Req) (s u : State) (c : Ctx) (d : Draft) (v : State) (o : Resp × State),
    (u = s.served 0x0811 q) ∧ (c = s.ctx 0x0811 q) ∧ (s.accepts 0x0811 q = true) ∧ (u.draft c.client c.txn = some d) ∧ (v = u.useDraft d) ∧ (bitsOf (leAt c.payload 4 4) 31 2 = 0 ∧ v.commitCheck d (leAt c.payload 0 4) (leAt c.payload 4 4) = none) ∧ (bitOf (leAt c.payload 4 4) 0 = false) ∧ (v.oldCfg.isSome = true ∨ v.gci.commits ≠ [] ∨ v.dumping = true) ∧ (o = v.commitWait c d (leAt c.payload 0 4) (leAt c.payload 4 4)) :=
  ⟨(wReq 7 [0, 0, 0, 0, 0, 0, 0, 0]), { wState with oldCfg := some [] }, _, _, _, _, _, rfl, rfl, by decide +kernel, rfl, rfl, by decide +kernel, by decide +kernel, by decide +kernel, rfl⟩

theorem witness_routeDraftDiscard : ∃ (q : Req) (s u : State) (c : Ctx) (d : Draft),
    (u = s.served 0x0812 q) ∧ (c = s.ctx 0x0812 q) ∧ (s.accepts 0x0812 q = true) ∧ (u.draft c.client (leAt c.payload 0 4) = some d) :=
  ⟨wReq 0 [7, 0, 0, 0], wState, _, _, ⟨7, 0, 0, 0, []⟩, rfl, rfl, by decide⟩

theorem witness_routeDraftStatus : ∃ (q : Req) (s u : State) (c : Ctx) (d : Draft) (l : List Nat),
    (u = s.served 0x0813 q) ∧ (c = s.ctx 0x0813 q) ∧ (s.accepts 0x0813 q = true) ∧ (u.draft c.client c.txn = some d) ∧ (l = (d.objects.drop (leAt c.payload 0 4)).take 124) :=
  ⟨wReq 7 [0, 0, 0, 0], wState, _, _, ⟨7, 0, 0, 0, []⟩, _, rfl, rfl, by decide, by decide, rfl⟩

theorem witness_routeEpoch : ∃ (q : Req) (s u : State) (c : Ctx),
    (u = s.served 0x0814 q) ∧ (c = s.ctx 0x0814 q) ∧ (s.accepts 0x0814 q = true) ∧ ((orefOf c.payload).typ = 0x01) :=
  ⟨wReq 0 [1, 0, 255, 255, 255, 255, 255, 255], wState, _, _, rfl, rfl, by decide⟩

theorem witness_routeDirectSet : ∃ (q : Req) (s u : State) (c : Ctx) (n : Nat) (ch : List (Nat × Nat)) (d : Draft),
    (u = s.served 0x0815 q) ∧ (c = s.ctx 0x0815 q) ∧ (s.accepts 0x0815 q = true) ∧ ((orefOf c.payload).typ = 0x0B ∧ 1 ≤ n ∧ n ≤ 496 ∧ n = leAt c.payload 8 2 ∧ c.payload.length = 12 + 2 * n ∧ leAt c.payload 10 2 = 0 ∧ (orefOf c.payload).idx + n ≤ 2048) ∧ ((∀ i, i < n → leAt c.payload (12 + 2 * i) 2 < 16384)) ∧ (ch = (List.range n).map (fun i => (pkey (oDirect (orefOf c.payload).chan ((orefOf c.payload).idx + i)) (pidRaw 0), leAt c.payload (12 + 2 * i) 2))) ∧ (u.draft c.client c.txn = some d) ∧ (u.locked c.client (ch.map (fun kv => lockOf kv.1)) = false ∧ u.draftRoom c = true) :=
  ⟨wReq 7 [11, 0, 255, 24, 3, 0, 0, 0, 1, 0, 0, 0, 9, 0], wState, _, _, 1, _, ⟨7, 0, 0, 0, []⟩, rfl, rfl, by decide, by decide, by decide, rfl, by decide, by decide⟩

theorem witness_routeHashSet : ∃ (q : Req) (s u : State) (c : Ctx) (w e : Nat) (d : Draft),
    (u = s.served 0x0816 q) ∧ (c = s.ctx 0x0816 q) ∧ (s.accepts 0x0816 q = true) ∧ ((leAt c.payload 8 1) ≤ 63 ∧ (leAt c.payload 12 4) < 2 ^ 29 ∧ leAt c.payload 10 2 = 0 ∧ leAt c.payload 18 2 = 0) ∧ ((orefOf c.payload).typ = 0x01 ∧ leAt c.payload 9 1 = 1 ∧ 1 ≤ leAt c.payload 16 2 ∧ leAt c.payload 16 2 ≤ 16383) ∧ (u.absentVariant = true → (leAt c.payload 8 1) < 32) ∧ (u.locked c.client [lockOf (pkey (oHash (hashBucket (leAt c.payload 8 1) (leAt c.payload 12 4) * 4)) (pidRaw 0))] = false) ∧ (u.hashPlace c (leAt c.payload 8 1) (leAt c.payload 12 4) = some w) ∧ (e = (leAt c.payload 12 4) + 2 ^ 29 + leAt c.payload 16 2 * 2 ^ 32 + (leAt c.payload 8 1) * 2 ^ 48) ∧ (u.draft c.client c.txn = some d) ∧ (u.locked c.client [lockOf (pkey (oHash w) (pidRaw 0))] = false ∧ u.draftRoom c = true) :=
  ⟨wReq 7 [1, 0, 255, 255, 255, 255, 255, 255, 24, 1, 0, 0, 35, 1, 0, 0, 5, 0, 0, 0], wState, _, _, hashBucket 24 0x123 * 4, _, ⟨7, 0, 0, 0, []⟩, rfl, rfl, by decide +kernel, by decide +kernel, by decide +kernel, by decide +kernel, by decide +kernel, by decide +kernel, rfl, by decide +kernel, by decide +kernel⟩

theorem witness_routeHashSet_remove : ∃ (q : Req) (s u : State) (c : Ctx) (w : Nat) (d : Draft),
    (u = s.served 0x0816 q) ∧ (c = s.ctx 0x0816 q) ∧ (s.accepts 0x0816 q = true) ∧ ((leAt c.payload 8 1) ≤ 63 ∧ (leAt c.payload 12 4) < 2 ^ 29 ∧ leAt c.payload 10 2 = 0 ∧ leAt c.payload 18 2 = 0) ∧ ((orefOf c.payload).typ = 0x01 ∧ leAt c.payload 9 1 = 2) ∧ (u.absentVariant = true → (leAt c.payload 8 1) < 32) ∧ (u.locked c.client [lockOf (pkey (oHash (hashBucket (leAt c.payload 8 1) (leAt c.payload 12 4) * 4)) (pidRaw 0))] = false) ∧ (u.hashHolder c (leAt c.payload 8 1) (leAt c.payload 12 4) = some w) ∧ (u.draft c.client c.txn = some d) ∧ (u.locked c.client [lockOf (pkey (oHash w) (pidRaw 0))] = false ∧ u.draftRoom c = true) :=
  ⟨wReq 7 [1, 0, 255, 255, 255, 255, 255, 255, 24, 2, 0, 0, 35, 1, 0, 0, 0, 0, 0, 0], wHash, _, _, hashBucket 24 0x123 * 4, ⟨7, 0, 0, 0, []⟩, rfl, rfl, by decide +kernel⟩

theorem witness_routeFallbackSet : ∃ (q : Req) (s u : State) (c : Ctx) (d : Draft),
    (u = s.served 0x0817 q) ∧ (c = s.ctx 0x0817 q) ∧ (s.accepts 0x0817 q = true) ∧ ((orefOf c.payload).typ = 0x0E) ∧ (fallbackOk (leAt c.payload 8 32) = true) ∧ (u.draft c.client c.txn = some d) ∧ (u.locked c.client [lockOf (pkey (orefOf c.payload).key pidEntry)] = false ∧ u.draftRoom c = true) :=
  ⟨wReq 7 ([14, 0, 255, 255, 1, 0, 0, 0] ++ zeros 32), wState, _, _, ⟨7, 0, 0, 0, []⟩, rfl, rfl, by decide +kernel⟩

theorem witness_sigProgramLoad : ∃ (q : Req) (s u : State) (c : Ctx) (n : Nat) (ch : List (Nat × Nat)) (d : Draft),
    (u = s.served 0x0910 q) ∧ (c = s.ctx 0x0910 q) ∧ (s.accepts 0x0910 q = true) ∧ ((orefOf c.payload).typ = 0x13 ∧ 1 ≤ n ∧ n ≤ 124 ∧ n = leAt c.payload 8 2 ∧ c.payload.length = 12 + 8 * n ∧ leAt c.payload 10 2 = 0 ∧ (orefOf c.payload).idx + n ≤ 262144) ∧ (ch = (List.range n).map (fun i => (pkey (oIdx 0x13 ((orefOf c.payload).idx + i)) pidInstr, leAt c.payload (12 + 8 * i) 8))) ∧ ((∀ i, i < n → instrOk (leAt c.payload (12 + 8 * i) 8) = true)) ∧ (u.draft c.client c.txn = some d) ∧ (u.locked c.client (ch.map (fun kv => lockOf kv.1)) = false ∧ u.draftRoom c = true) :=
  ⟨wReq 7 [19, 0, 255, 255, 5, 0, 0, 0, 1, 0, 0, 0, 0, 0, 0, 0, 0, 0, 0, 0], wState, _, _, 1, _, ⟨7, 0, 0, 0, []⟩, rfl, rfl, by decide, by decide, rfl, by decide, by decide, by decide⟩

theorem witness_sigPduSet : ∃ (q : Req) (s u : State) (c : Ctx) (n : Nat) (ch : List (Nat × Nat)) (d : Draft),
    (u = s.served 0x0911 q) ∧ (c = s.ctx 0x0911 q) ∧ (s.accepts 0x0911 q = true) ∧ ((orefOf c.payload).typ = 0x11 ∧ 1 ≤ n ∧ n ≤ 31 ∧ n = leAt c.payload 8 2 ∧ c.payload.length = 12 + 32 * n ∧ leAt c.payload 10 2 = 0 ∧ (orefOf c.payload).idx + n ≤ 16384) ∧ (ch = (List.range n).map (fun i => (pkey (oIdx 0x11 ((orefOf c.payload).idx + i)) pidEntry, leAt c.payload (12 + 32 * i) 32))) ∧ ((∀ i, i < n → pduOk (leAt c.payload (12 + 32 * i) 32) = true)) ∧ (u.draft c.client c.txn = some d) ∧ (u.locked c.client (ch.map (fun kv => lockOf kv.1)) = false ∧ u.draftRoom c = true) :=
  ⟨wReq 7 ([17, 0, 255, 255, 5, 0, 0, 0, 1, 0, 0, 0] ++ zeros 32), wState, _, _, 1, _, ⟨7, 0, 0, 0, []⟩, rfl, rfl, by decide +kernel, by decide +kernel, rfl, by decide +kernel, by decide +kernel, by decide +kernel⟩

theorem witness_sigSignalSet : ∃ (q : Req) (s u : State) (c : Ctx) (n : Nat) (ch : List (Nat × Nat)) (d : Draft),
    (u = s.served 0x0912 q) ∧ (c = s.ctx 0x0912 q) ∧ (s.accepts 0x0912 q = true) ∧ ((orefOf c.payload).typ = 0x10 ∧ 1 ≤ n ∧ n ≤ 62 ∧ n = leAt c.payload 8 2 ∧ c.payload.length = 12 + 16 * n ∧ leAt c.payload 10 2 = 0 ∧ (orefOf c.payload).idx + n ≤ 65536) ∧ (ch = (List.range n).map (fun i => (pkey (oIdx 0x10 ((orefOf c.payload).idx + i)) pidEntry, leAt c.payload (12 + 16 * i) 16))) ∧ ((∀ i, i < n → signalOk (leAt c.payload (12 + 16 * i) 16) = true)) ∧ (u.draft c.client c.txn = some d) ∧ (u.locked c.client (ch.map (fun kv => lockOf kv.1)) = false ∧ u.draftRoom c = true) :=
  ⟨wReq 7 ([16, 0, 255, 255, 5, 0, 0, 0, 1, 0, 0, 0] ++ zeros 16), wState, _, _, 1, _, ⟨7, 0, 0, 0, []⟩, rfl, rfl, by decide +kernel, by decide +kernel, rfl, by decide +kernel, by decide +kernel, by decide +kernel⟩

theorem witness_sigSignalRead : ∃ (q : Req) (s u : State) (c : Ctx),
    (u = s.served 0x0913 q) ∧ (c = s.ctx 0x0913 q) ∧ (s.accepts 0x0913 q = true) ∧ ((orefOf c.payload).typ = 0x10 ∧ 1 ≤ leAt c.payload 8 2 ∧ leAt c.payload 8 2 ≤ 62 ∧ (orefOf c.payload).idx + leAt c.payload 8 2 ≤ 65536) :=
  ⟨wReq 0 [16, 0, 255, 255, 5, 0, 0, 0, 1, 0], wState, _, _, rfl, rfl, by decide⟩

theorem witness_sigSignalInject : ∃ (q : Req) (s u : State) (c : Ctx) (k w : Nat),
    (u = s.served 0x0914 q) ∧ (c = s.ctx 0x0914 q) ∧ (s.accepts 0x0914 q = true) ∧ (k = (orefOf c.payload).idx ∧ (orefOf c.payload).typ = 0x10) ∧ (w = (if sgDefined (u.entry (oSignal k)) then extend64 (sgSigned (u.entry (oSignal k))) (sgWidth (u.entry (oSignal k))) (leAt c.payload 8 8) else leAt c.payload 8 8)) :=
  ⟨wReq 0 [16, 0, 255, 255, 5, 0, 0, 0, 0, 0, 0, 0, 0, 0, 0, 0], wState, _, _, _, _, rfl, rfl, by decide, ⟨rfl, by decide⟩, rfl⟩

theorem witness_sigAdmission : ∃ (q : Req) (s u : State) (c : Ctx) (a : Admission) (k : Nat),
    (u = s.served 0x0915 q) ∧ (c = s.ctx 0x0915 q) ∧ (s.accepts 0x0915 q = true) ∧ (a = (u.withDraft c).admission) ∧ (a.kind = some k) :=
  ⟨wReq 0 [], { wState with cfg := [(pkey (oPdu 0) pidEntry, 9)] }, _, _, _, 0, rfl, rfl, by decide, rfl, by decide +kernel⟩

theorem witness_sigAdmission_none : ∃ (q : Req) (s u : State) (c : Ctx) (a : Admission) (v : State),
    (u = s.served 0x0915 q) ∧ (c = s.ctx 0x0915 q) ∧ (s.accepts 0x0915 q = true) ∧ (a = (u.withDraft c).admission) ∧ (a.kind = none) ∧ (v = { u with freeCount := u.freeCount + 1 }) :=
  ⟨wReq 0 [], wState, _, _, _, _, rfl, rfl, by decide, rfl, by decide +kernel, rfl⟩

theorem witness_qosGateListSet : ∃ (q : Req) (s u : State) (c : Ctx) (k : Nat → Nat) (ch : List (Nat × Nat)) (d : Draft),
    (u = s.served 0x0A10 q) ∧ (c = s.ctx 0x0A10 q) ∧ (s.accepts 0x0A10 q = true) ∧ (c.bulk = none) ∧ ((orefOf c.payload).typ = 0x14 ∧ leAt c.payload 0x0A 2 ≤ 1024 ∧ (leAt c.payload 0x0A 2 = 0 → leAt c.payload 8 1 = 0) ∧ c.payload.length = 40 + 8 * leAt c.payload 0x0A 2) ∧ (gateHeadOk c.payload = true ∧ (∀ i, i < leAt c.payload 0x0A 2 → gateEntryOk (leAt c.payload (0x28 + 8 * i) 8) = true)) ∧ (k = fun (i : Nat) => pkey (orefOf c.payload).key (pidRaw i)) ∧ (ch = [(k 0, leAt c.payload 8 1), (k 1, leAt c.payload 0x0A 2), (k 2, leAt c.payload 0x0C 4), (k 3, leAt c.payload 0x10 8), (k 4, leAt c.payload 0x18 4), (k 5, leAt c.payload 0x20 8),
      (k 6, leVal (sliceB c.payload 0x28 (8 * leAt c.payload 0x0A 2)))]) ∧ (u.draft c.client c.txn = some d) ∧ (u.locked c.client [lockOf (k 0)] = false ∧ u.locked c.client (ch.map (fun kv => lockOf kv.1)) = false ∧ u.draftRoom c = true) :=
  ⟨wReq 7 ([20, 0, 255, 2, 255, 255, 255, 255, 1, 0, 1, 0, 0, 0, 0, 0, 0, 0, 0, 0, 0, 0, 0, 0, 0, 0, 0, 0, 0, 0, 0, 0] ++ [0xE8, 3, 0, 0, 0, 0, 0, 0, 1, 0, 0, 0, 5, 0, 0, 0]), wState, _, _, _, _, ⟨7, 0, 0, 0, []⟩, rfl, rfl, by decide +kernel, by decide +kernel, by decide +kernel, by decide +kernel, rfl, rfl, by decide +kernel, by decide +kernel⟩

set_option maxRecDepth 20000 in
theorem witness_QosCommandsComplete_1 : ∃ (q : Req) (s u : State) (c : Ctx) (b : Bulk) (p : List Byte) (v : State) (k : Nat → Nat) (ch : List (Nat × Nat)) (d : Draft),
    (u = s.served 0x0A10 q) ∧ (c = s.ctx 0x0A10 q) ∧ (s.accepts 0x0A10 q = true) ∧ (c.bulk = some b ∧ b.ok [0] = true ∧ u.bulkRead c b = (some p, v) ∧ v.orefBad c p = none) ∧ ((orefOf p).typ = 0x14 ∧ leAt p 0x0A 2 ≤ 1024 ∧ (leAt p 0x0A 2 = 0 → leAt p 8 1 = 0) ∧ p.length = 40 + 8 * leAt p 0x0A 2) ∧ (gateHeadOk p = true ∧ (∀ i, i < leAt p 0x0A 2 → gateEntryOk (leAt p (0x28 + 8 * i) 8) = true)) ∧ (k = fun (i : Nat) => pkey (orefOf p).key (pidRaw i)) ∧ (ch = [(k 0, leAt p 8 1), (k 1, leAt p 0x0A 2), (k 2, leAt p 0x0C 4), (k 3, leAt p 0x10 8), (k 4, leAt p 0x18 4), (k 5, leAt p 0x20 8),
      (k 6, leVal (sliceB p 0x28 (8 * leAt p 0x0A 2)))]) ∧ (v.draft c.client c.txn = some d) ∧ (v.locked c.client [lockOf (k 0)] = false ∧ v.locked c.client (ch.map (fun kv => lockOf kv.1)) = false ∧ v.draftRoom c = true) :=
  ⟨{ wReq 7 (zeros 8 ++ [48, 0, 0, 0, 0, 0, 0, 0]) with flags := 1 }, { wHostUp with host := memWrites [] 0 ([20, 0, 255, 2, 255, 255, 255, 255, 1, 0, 1, 0, 0, 0, 0, 0, 0, 0, 0, 0, 0, 0, 0, 0, 0, 0, 0, 0, 0, 0, 0, 0] ++ [0xE8, 3, 0, 0, 0, 0, 0, 0, 1, 0, 0, 0, 5, 0, 0, 0]) }, _, _, ⟨0, 48, 0, 0, false⟩, _, _, _, _, ⟨7, 0, 0, 0, []⟩, rfl, rfl, by decide +kernel, ⟨rfl, by decide +kernel, rfl, by decide +kernel⟩, by decide +kernel, by decide +kernel, rfl, rfl, rfl, by decide +kernel⟩

theorem witness_qosGateState : ∃ (q : Req) (s u : State) (c : Ctx) (g : GateSt),
    (u = s.served 0x0A11 q) ∧ (c = s.ctx 0x0A11 q) ∧ (s.accepts 0x0A11 q = true) ∧ ((orefOf c.payload).typ = 0x14) ∧ (g = u.gate (orefOf c.payload).chan) ∧ (g.oper.isSome = true) :=
  ⟨wReq 0 [20, 0, 255, 2, 255, 255, 255, 255], { wState with egr := { wState.egr with gates := [(2, { oper := some ⟨0, 1000, 0, [], 0⟩ })] } }, _, _, _, rfl, rfl, by decide, by decide, rfl, by decide⟩

theorem witness_qosGateState_none : ∃ (q : Req) (s u : State) (c : Ctx) (g : GateSt) (v : State),
    (u = s.served 0x0A11 q) ∧ (c = s.ctx 0x0A11 q) ∧ (s.accepts 0x0A11 q = true) ∧ ((orefOf c.payload).typ = 0x14) ∧ (g = u.gate (orefOf c.payload).chan) ∧ (g.oper = none) ∧ (v = { u with freeCount := u.freeCount + 1 }) :=
  ⟨wReq 0 [20, 0, 255, 2, 255, 255, 255, 255], wState, _, _, _, _, rfl, rfl, by decide, by decide, rfl, by decide, rfl⟩

theorem witness_qosShaperSet : ∃ (q : Req) (s u : State) (c : Ctx) (ch : List (Nat × Nat)) (d : Draft),
    (u = s.served 0x0A12 q) ∧ (c = s.ctx 0x0A12 q) ∧ (s.accepts 0x0A12 q = true) ∧ ((orefOf c.payload).typ = 0x15 ∧ leAt c.payload 8 4 ≤ 10000000 ∧ leAt c.payload 12 4 ≤ 16777215 ∧ leAt c.payload 16 4 ≤ 16777215) ∧ (ch = (List.range 3).map (fun i => (pkey (orefOf c.payload).key (pidRaw i), leAt c.payload (8 + 4 * i) 4))) ∧ (u.draft c.client c.txn = some d) ∧ (u.locked c.client (ch.map (fun kv => lockOf kv.1)) = false ∧ u.draftRoom c = true) :=
  ⟨wReq 7 [21, 0, 255, 2, 3, 0, 0, 0, 0, 0, 0, 0, 0, 0, 0, 0, 0, 0, 0, 0], wState, _, _, _, ⟨7, 0, 0, 0, []⟩, rfl, rfl, by decide, by decide, rfl, by decide, by decide⟩

theorem witness_qosMeterSet : ∃ (q : Req) (s u : State) (c : Ctx) (n : Nat) (ch : List (Nat × Nat)) (d : Draft),
    (u = s.served 0x0A13 q) ∧ (c = s.ctx 0x0A13 q) ∧ (s.accepts 0x0A13 q = true) ∧ ((orefOf c.payload).typ = 0x0A ∧ 1 ≤ n ∧ n ≤ 62 ∧ n = leAt c.payload 8 2 ∧ c.payload.length = 12 + 16 * n ∧ leAt c.payload 10 2 = 0 ∧ (orefOf c.payload).idx + n ≤ 4096) ∧ (ch = (List.range n).map (fun i => (pkey (oIdx 0x0A ((orefOf c.payload).idx + i)) pidEntry, leAt c.payload (12 + 16 * i) 16))) ∧ ((∀ i, i < n → meterOk (leAt c.payload (12 + 16 * i) 16) = true)) ∧ (u.draft c.client c.txn = some d) ∧ (u.locked c.client (ch.map (fun kv => lockOf kv.1)) = false ∧ u.draftRoom c = true) :=
  ⟨wReq 7 ([10, 0, 255, 255, 5, 0, 0, 0, 1, 0, 0, 0] ++ zeros 16), wState, _, _, 1, _, ⟨7, 0, 0, 0, []⟩, rfl, rfl, by decide +kernel, by decide +kernel, rfl, by decide +kernel, by decide +kernel, by decide +kernel⟩

theorem witness_qosAdmissionSet : ∃ (q : Req) (s u : State) (c : Ctx) (vs ch : List (Nat × Nat)) (d : Draft),
    (u = s.served 0x0A14 q) ∧ (c = s.ctx 0x0A14 q) ∧ (s.accepts 0x0A14 q = true) ∧ ((orefOf c.payload).typ = 0x01 ∧ leAt c.payload 8 1 ≤ 3 ∧ leAt c.payload 9 1 = 0 ∧ leAt c.payload 0x0E 2 = 0 ∧ (leAt c.payload 0x0C 2 ≠ 0 ∨ leAt c.payload 8 1 ≠ 0)) ∧ (leAt c.payload 0x0C 2 ≤ 488 ∧ c.payload.length = 0x20 + 2 * leAt c.payload 0x0C 2 ∧ leAt c.payload 0x0A 2 + leAt c.payload 0x0C 2 ≤ 2048 ∧ leAt c.payload 0x0A 2 ≤ 2047) ∧ (vs = admissionDeckVals c.payload ++ admissionQueueVals c.payload) ∧ ((∀ kv ∈ vs, paramTakes kv = true) ∧ u.locked c.client (vs.map (fun kv => lockOf kv.1)) = false) ∧ (ch = admissionDeckVals c.payload ++ (admissionQueueVals c.payload).filter (fun kv => !u.queueLacks c (keyIdx (pkeyObj kv.1)))) ∧ (u.draft c.client c.txn = some d) ∧ (u.locked c.client (ch.map (fun kv => lockOf kv.1)) = false ∧ u.draftRoom c = true) :=
  ⟨wReq 7 ([1, 0, 255, 255, 255, 255, 255, 255, 0, 0, 5, 0, 1, 0, 0, 0] ++ zeros 18), wState, _, _, _, _, ⟨7, 0, 0, 0, []⟩, rfl, rfl, by decide +kernel, by decide +kernel, by decide +kernel, rfl, by decide +kernel, rfl, by decide +kernel, by decide +kernel⟩

theorem witness_qosHistogramSet : ∃ (q : Req) (s u : State) (c : Ctx) (ch : List (Nat × Nat)) (d : Draft),
    (u = s.served 0x0A15 q) ∧ (c = s.ctx 0x0A15 q) ∧ (s.accepts 0x0A15 q = true) ∧ ((orefOf c.payload).typ = 0x05 ∧ leAt c.payload 8 1 ≤ 3 ∧ leAt c.payload 9 3 = 0 ∧ 1 ≤ leAt c.payload 12 4 ∧ leAt c.payload 12 4 ≤ 1000000 ∧ 10 ≤ leAt c.payload 16 4 ∧ leAt c.payload 16 4 ≤ 1000000) ∧ (ch = [(pkey (orefOf c.payload).key (pidRaw 0), leAt c.payload 8 1), (pkey (orefOf c.payload).key (pidRaw 1), leAt c.payload 12 4), (pkey (orefOf c.payload).key (pidRaw 2), leAt c.payload 16 4)]) ∧ (u.draft c.client c.txn = some d) ∧ (u.locked c.client (ch.map (fun kv => lockOf kv.1)) = false ∧ u.draftRoom c = true) :=
  ⟨wReq 7 [5, 0, 255, 255, 2, 0, 0, 0, 1, 0, 0, 0, 100, 0, 0, 0, 10, 0, 0, 0], wState, _, _, _, ⟨7, 0, 0, 0, []⟩, rfl, rfl, by decide, by decide, rfl, by decide, by decide⟩

theorem witness_qosHistogramRead : ∃ (q : Req) (s u : State) (c : Ctx) (l : List Nat),
    (u = s.served 0x0A16 q) ∧ (c = s.ctx 0x0A16 q) ∧ (s.accepts 0x0A16 q = true) ∧ ((orefOf c.payload).typ = 0x05 ∧ leAt c.payload 8 4 ≤ 1) ∧ (l = (List.range 33).map (fun i => histSamples + i)) :=
  ⟨wReq 0 [5, 0, 255, 255, 2, 0, 0, 0, 1, 0, 0, 0], wState, _, _, _, rfl, rfl, by decide, by decide, rfl⟩

theorem witness_timeDomainSet : ∃ (q : Req) (s u : State) (c : Ctx) (es : List (Nat × Nat × List Byte)) (ch : List (Nat × Nat)) (d : Draft),
    (u = s.served 0x0B10 q) ∧ (c = s.ctx 0x0B10 q) ∧ (s.accepts 0x0B10 q = true) ∧ (getEntries c.payload = .ok es) ∧ ((orefOf c.payload).typ ≠ 0x0E) ∧ (firstBad (u.setJudge c (orefOf c.payload).key es) 0 es = none) ∧ (ch = es.map (fun e => (pkey (orefOf c.payload).key e.1, leVal e.2.2))) ∧ (u.draft c.client c.txn = some d) ∧ (u.locked c.client (ch.map (fun kv => lockOf kv.1)) = false ∧ u.draftRoom c = true) :=
  ⟨wReq 7 [24, 0, 255, 255, 1, 0, 0, 0, 1, 0, 0, 0, 0, 1, 4, 0, 1, 0, 0, 0], wState, _, _, [(0x100, 4, [1, 0, 0, 0])], _, ⟨7, 0, 0, 0, []⟩, rfl, rfl, by decide +kernel, rfl, by decide +kernel, by decide +kernel, rfl, by decide +kernel, by decide +kernel⟩

theorem witness_timeStatus : ∃ (q : Req) (s u : State) (c : Ctx),
    (u = s.served 0x0B11 q) ∧ (c = s.ctx 0x0B11 q) ∧ (s.accepts 0x0B11 q = true) :=
  ⟨wReq 0 [], wState, _, _, rfl, rfl, by decide⟩

theorem witness_timeWorkingSelect : ∃ (q : Req) (s u : State) (c : Ctx) (k : Nat),
    (u = s.served 0x0B12 q) ∧ (c = s.ctx 0x0B12 q) ∧ (s.accepts 0x0B12 q = true) ∧ (k = (orefOf c.payload).idx ∧ k ≤ 1 ∧ (orefOf c.payload).typ = 0x18 ∧ leAt c.payload 8 4 ≤ 1) ∧ (u.domainState k = dsLocked) :=
  ⟨wReq 0 [24, 0, 255, 255, 1, 0, 0, 0, 0, 0, 0, 0], wLocked, _, _, _, rfl, rfl, by decide +kernel, ⟨rfl, by decide +kernel⟩, by decide +kernel⟩

theorem witness_timeOutputSet : ∃ (q : Req) (s u : State) (c : Ctx) (ch : List (Nat × Nat)) (d : Draft),
    (u = s.served 0x0B13 q) ∧ (c = s.ctx 0x0B13 q) ∧ (s.accepts 0x0B13 q = true) ∧ ((orefOf c.payload).typ = 0x19) ∧ (outputBad c.payload = false) ∧ (ch = (outputVals c.payload).zipIdx.map (fun (x : Nat × Nat) => (pkey (orefOf c.payload).key (pidRaw x.2), x.1))) ∧ (u.draft c.client c.txn = some d) ∧ (u.locked c.client (ch.map (fun kv => lockOf kv.1)) = false ∧ u.draftRoom c = true) :=
  ⟨wReq 7 ([25, 0, 255, 255, 1, 0, 0, 0] ++ [1, 0, 0, 0] ++ zeros 16 ++ [10, 0, 0, 0] ++ zeros 8), wState, _, _, _, ⟨7, 0, 0, 0, []⟩, rfl, rfl, by decide +kernel, by decide +kernel, by decide +kernel, rfl, by decide +kernel, by decide +kernel⟩

theorem witness_timeCaptureRead : ∃ (q : Req) (s u : State) (c : Ctx) (v : CaptureSt) (l : List (Nat × Nat)),
    (u = s.served 0x0B14 q) ∧ (c = s.ctx 0x0B14 q) ∧ (s.accepts 0x0B14 q = true) ∧ ((orefOf c.payload).typ = 0x1A ∧ 1 ≤ leAt c.payload 8 4 ∧ leAt c.payload 8 4 ≤ 16) ∧ (v = u.capture (orefOf c.payload).idx) ∧ (l = v.recs.take (leAt c.payload 8 4)) :=
  ⟨wReq 0 [26, 0, 255, 255, 1, 0, 0, 0, 4, 0, 0, 0], wState, _, _, _, _, rfl, rfl, by decide, by decide, rfl, rfl⟩

theorem witness_secKeyInstall : ∃ (f : Bool) (q : Req) (s u : State) (c : Ctx) (key : List Byte),
    (u = s.served 0x0C10 q) ∧ (c = s.ctx 0x0C10 q) ∧ (s.accepts 0x0C10 q = true) ∧ ((orefOf c.payload).typ = 0x1B ∧ (c.payload.drop 18).length = leAt c.payload 9 1 + (if leAt c.payload 15 1 == 1 then 8 else 0) ∧ keyPolicyBad c.payload = false) ∧ ((u.slot (orefOf c.payload).idx).empty = true) ∧ (leAt c.payload 15 1 ≠ 1 → u.openLife = true) ∧ (leAt c.payload 15 1 = 1 → u.slotUsable (leAt c.payload 16 2) usWrap [6] = true) ∧ (u.keyMaterial c.payload = some key ∧ keyBad c.payload (orefOf c.payload).idx key = false) ∧ (bitOf (leAt c.payload 14 1) 0 = false ∨ f = false) :=
  ⟨false, wReq 0 ([27, 0, 255, 255, 44, 1, 0, 0] ++ [1, 16, 1, 0, 1, 0, 0, 0, 0, 0] ++ zeros 16), { wState with fuses := { wState.fuses with lifecycle := 1 } }, _, _, zeros 16, rfl, rfl, by decide +kernel⟩

theorem witness_secKeyInstall_fails : ∃ (q : Req) (s u : State) (c : Ctx) (key : List Byte),
    (u = s.served 0x0C10 q) ∧ (c = s.ctx 0x0C10 q) ∧ (s.accepts 0x0C10 q = true) ∧ ((orefOf c.payload).typ = 0x1B ∧ (c.payload.drop 18).length = leAt c.payload 9 1 + (if leAt c.payload 15 1 == 1 then 8 else 0) ∧ keyPolicyBad c.payload = false) ∧ ((u.slot (orefOf c.payload).idx).empty = true) ∧ (leAt c.payload 15 1 ≠ 1 → u.openLife = true) ∧ (leAt c.payload 15 1 = 1 → u.slotUsable (leAt c.payload 16 2) usWrap [6] = true) ∧ (u.keyMaterial c.payload = some key ∧ keyBad c.payload (orefOf c.payload).idx key = false) ∧ (bitOf (leAt c.payload 14 1) 0 = true) :=
  ⟨wReq 0 ([27, 0, 255, 255, 3, 0, 0, 0] ++ [1, 16, 1, 0, 1, 0, 1, 0, 0, 0] ++ zeros 16), { wState with fuses := { wState.fuses with lifecycle := 1 } }, _, _, zeros 16, rfl, rfl, by decide +kernel⟩

theorem witness_secKeyErase : ∃ (f : Bool) (q : Req) (s u : State) (c : Ctx),
    (u = s.served 0x0C11 q) ∧ (c = s.ctx 0x0C11 q) ∧ (s.accepts 0x0C11 q = true) ∧ ((orefOf c.payload).typ = 0x1B ∧ leAt c.payload 8 4 ≤ 1 ∧ (u.slot (orefOf c.payload).idx).empty = false) ∧ (leAt c.payload 8 4 = 0 → u.slotAssocs (orefOf c.payload).idx = [] ∧ u.slotProfiles (orefOf c.payload).idx = []) ∧ ((u.slot (orefOf c.payload).idx).persist = false ∨ f = false) :=
  ⟨false, wReq 0 [27, 0, 255, 255, 3, 0, 0, 0, 0, 0, 0, 0], wKey, _, _, rfl, rfl, by decide +kernel⟩

theorem witness_secKeyErase_fails : ∃ (q : Req) (s u : State) (c : Ctx),
    (u = s.served 0x0C11 q) ∧ (c = s.ctx 0x0C11 q) ∧ (s.accepts 0x0C11 q = true) ∧ ((orefOf c.payload).typ = 0x1B ∧ leAt c.payload 8 4 ≤ 1 ∧ (u.slot (orefOf c.payload).idx).empty = false) ∧ (leAt c.payload 8 4 = 0 → u.slotAssocs (orefOf c.payload).idx = [] ∧ u.slotProfiles (orefOf c.payload).idx = []) ∧ ((u.slot (orefOf c.payload).idx).persist = true) :=
  ⟨wReq 0 [27, 0, 255, 255, 3, 0, 0, 0, 0, 0, 0, 0], wKey, _, _, rfl, rfl, by decide +kernel⟩

theorem witness_secSaInstall : ∃ (q : Req) (s u : State) (c : Ctx) (n k : Nat),
    (u = s.served 0x0C12 q) ∧ (c = s.ctx 0x0C12 q) ∧ (s.accepts 0x0C12 q = true) ∧ (n = (orefOf c.payload).chan ∧ k = (orefOf c.payload).idx ∧ (orefOf c.payload).typ = 0x1C) ∧ (u.saBad c.payload n k = false ∧ (u.assoc n k).installed = false ∧ u.sciClash c.payload n k = false) ∧ (u.slotUsable (leAt c.payload 8 2) (if k ≤ 3 then usMacTx else usMacRx) [suiteType (u.par (oChan n) 0x1001)] = true) :=
  ⟨wReq 0 ([28, 0, 255, 1, 0, 0, 0, 0] ++ [3, 0, 1, 0, 0, 0, 0, 0, 1, 0, 0, 0, 0, 0, 0, 0] ++ zeros 32), wKey, _, _, _, _, rfl, rfl, by decide +kernel, ⟨rfl, rfl, by decide +kernel⟩, by decide +kernel, by decide +kernel⟩

theorem witness_secSaRetire : ∃ (q : Req) (s u : State) (c : Ctx) (n k : Nat),
    (u = s.served 0x0C13 q) ∧ (c = s.ctx 0x0C13 q) ∧ (s.accepts 0x0C13 q = true) ∧ (n = (orefOf c.payload).chan ∧ k = (orefOf c.payload).idx ∧ (orefOf c.payload).typ = 0x1C) ∧ ((u.assoc n k).installed = true) :=
  ⟨wReq 0 [28, 0, 255, 1, 0, 0, 0, 0], wAssoc, _, _, _, _, rfl, rfl, by decide +kernel, ⟨rfl, rfl, by decide +kernel⟩, by decide +kernel⟩

theorem witness_secFreshnessSet : ∃ (q : Req) (s u : State) (c : Ctx),
    (u = s.served 0x0C1B q) ∧ (c = s.ctx 0x0C1B q) ∧ (s.accepts 0x0C1B q = true) ∧ ((orefOf c.payload).typ = 0x01 ∧ leAt c.payload 8 2 ≤ 4095 ∧ leAt c.payload 10 2 = 0) ∧ (u.freshRefused (leAt c.payload 8 2) (leAt c.payload 12 4) = false) :=
  ⟨wReq 0 [1, 0, 255, 255, 255, 255, 255, 255, 5, 0, 0, 0, 9, 0, 0, 0], wState, _, _, rfl, rfl, by decide +kernel⟩

theorem witness_HatboxCommandsComplete_0 : ∃ (q : Req) (s u : State) (c : Ctx) (j : HbxJob) (o : Resp × State),
    (u = s.served 0x0C14 q) ∧ (c = s.ctx 0x0C14 q) ∧ (s.accepts 0x0C14 q = true) ∧ (j = u.jobOf c) ∧ (jobOk j = true ∧ u.par oDeck 0x1110 = 0 ∧ (j.mode = 15 → u.rawOpen = true) ∧ u.jobDenied j = false) ∧ (j.first ≠ u.ctxOpen c.client j.ctx) ∧ (u.ctxFull j = false) ∧ (o = u.runP c [] (fun s ref => s.queueJob j ref)) :=
  ⟨(wReq 0 ([12, 3, 0xFF, 0xFF, 0, 0, 0, 0, 16, 0, 0, 0] ++ zeros 68)), wState, _, _, _, _, rfl, rfl, by decide +kernel, rfl, by decide +kernel, by decide +kernel, by decide +kernel, rfl⟩

theorem witness_secJobAbort : ∃ (q : Req) (s u : State) (c : Ctx) (t : Ticket),
    (u = s.served 0x0C15 q) ∧ (c = s.ctx 0x0C15 q) ∧ (s.accepts 0x0C15 q = true) ∧ (u.ticket c.client (leAt c.payload 0 4) = some t) ∧ (t.cmd = 0x0C14 ∧ t.result = none) :=
  ⟨wReq 0 [5, 0, 0, 0], { wState with gci := { wState.gci with tickets := [{ wTick 5 with cmd := 0x0C14 }] } }, _, _, { wTick 5 with cmd := 0x0C14 }, rfl, rfl, by decide⟩

theorem witness_secLifecycle : ∃ (q : Req) (s u : State),
    (u = s.served 0x0C16 q) ∧ (s.accepts 0x0C16 q = true) :=
  ⟨wReq 0 [], wState, _, rfl, by decide⟩

theorem witness_secLifecycleAdvance : ∃ (f : Fin 4) (q : Req) (s u : State) (c : Ctx) (n m r : Nat),
    (u = s.served 0x0C17 q) ∧ (c = s.ctx 0x0C17 q) ∧ (s.accepts 0x0C17 q = true) ∧ (n = u.fuses.lifecycle ∧ m = leAt c.payload 0 1 ∧ r = leAt c.payload 1 1) ∧ (lifeAuth n m r = .confirm ∧ c.payload.length = lifeLen n m r ∧ u.lifeBad c.payload = false) :=
  ⟨0, wReq 0 [4, 0, 0, 0, 0xFE, 0x11, 0, 0], { wState with fuses := { wState.fuses with lifecycle := 1 } }, _, _, _, _, _, rfl, rfl, by decide +kernel, ⟨rfl, rfl, rfl⟩, by decide +kernel⟩

set_option maxRecDepth 20000 in
/-- A signed transition; whether a signature verifies is an uninterpreted function, so the last hypothesis holds where it does. -/
theorem witness_HatboxCommandsComplete_4 : ∃ (f : Fin 4) (q : Req) (s u : State) (c : Ctx) (n m r : Nat) (cls : Option Bool) (ch : List Byte) (v : State),
    (u = s.served 0x0C17 q) ∧ (c = s.ctx 0x0C17 q) ∧ (s.accepts 0x0C17 q = true) ∧ (n = u.fuses.lifecycle ∧ m = leAt c.payload 0 1 ∧ r = leAt c.payload 1 1) ∧ (lifeAuth n m r = .signed cls ∧ c.payload.length = lifeLen n m r ∧ u.lifeBad c.payload = false) ∧ (u.takeChallenge = (some ch, v)) ∧ ((match cls with | some pr => v.rootProduction f == pr | none => lifecycleAdmits n (v.rootProduction f)) = true) ∧
    (Config.sigVerify (v.rootBytes f) (beBytes 48 (Config.sha384 (ch ++ leBytes 8 Config.uniqueId.toNat ++ leBytes 1 (0x80 + m))).toNat) (c.payload.drop 8) = true →
      v.authorised f (0x80 + m) (v.rootProduction f) ch (c.payload.drop 8) = true) :=
  ⟨0, wReq 0 ([3, 0, 0, 0, 0xFE, 0x11, 0, 0] ++ zeros 96), wSigned 2 true, _, _, _, _, _, some true, [1], _, rfl, rfl, by decide +kernel, ⟨rfl, rfl, rfl⟩,
    by decide +kernel, Prod.ext (by decide +kernel) rfl, by decide +kernel, authorised_of (by decide +kernel)⟩

theorem witness_secSelftest : ∃ (q : Req) (s u : State) (c : Ctx),
    (u = s.served 0x0C18 q) ∧ (c = s.ctx 0x0C18 q) ∧ (s.accepts 0x0C18 q = true) ∧ (u.flag HbxStatus.selftestRun = false) :=
  ⟨wReq 0 [], wState, _, _, rfl, rfl, by decide⟩

theorem witness_secZeroise : ∃ (q : Req) (s u : State) (c : Ctx) (o : Resp × State),
    (u = s.served 0x0C19 q) ∧ (c = s.ctx 0x0C19 q) ∧ (s.accepts 0x0C19 q = true) ∧ (leAt c.payload 0 4 ≤ 2 ∧ u.hbx.zeroising = none) ∧ (o = u.runP c [] (fun s ref => s.zeroiseStart c.client (leAt c.payload 0 4) ref)) :=
  ⟨wReq 0 [1, 0, 0, 0], wState, _, _, _, rfl, rfl, by decide, by decide, rfl⟩

theorem witness_secDebugUnlock : ∃ (q : Req) (s u : State) (c : Ctx),
    (u = s.served 0x0C1A q) ∧ (c = s.ctx 0x0C1A q) ∧ (s.accepts 0x0C1A q = true) ∧ (c.payload = [] ∧ u.hbx.drbgStopped = false) :=
  ⟨wReq 0 [], wState, _, _, rfl, rfl, by decide⟩

set_option maxRecDepth 20000 in
theorem witness_HatboxCommandsComplete_8 : ∃ (q : Req) (s u : State) (c : Ctx) (n : Nat) (pr : Bool) (ch : List Byte) (v : State),
    (u = s.served 0x0C1A q) ∧ (c = s.ctx 0x0C1A q) ∧ (s.accepts 0x0C1A q = true) ∧ (n = leAt c.payload 0 1 ∧ c.payload.length = 100 ∧ 1 ≤ n ∧ n ≤ 7 ∧ leAt c.payload 1 1 ≤ 3 ∧ leAt c.payload 2 2 = 0) ∧ (unlockAdmits u.fuses.lifecycle n = some pr ∧ u.hbx.zeroising = none) ∧ (u.takeChallenge = (some ch, v) ∧
    (Config.sigVerify (v.rootBytes (leAt c.payload 1 1)) (beBytes 48 (Config.sha384 (ch ++ leBytes 8 Config.uniqueId.toNat ++ leBytes 1 (n))).toNat) (c.payload.drop 4) = true →
      v.authorised (leAt c.payload 1 1) n pr ch (c.payload.drop 4) = true)) ∧ (n = 1) :=
  ⟨wReq 0 ([1, 0, 0, 0] ++ zeros 96), wSigned 2 true, _, _, 1, true, [1], _, rfl, rfl, by decide +kernel, by decide +kernel, by decide +kernel,
    ⟨Prod.ext (by decide +kernel) rfl, authorised_of (by decide +kernel)⟩, rfl⟩

set_option maxRecDepth 20000 in
theorem witness_HatboxCommandsComplete_9 : ∃ (q : Req) (s u : State) (c : Ctx) (n : Nat) (pr : Bool) (ch : List Byte) (v w : State),
    (u = s.served 0x0C1A q) ∧ (c = s.ctx 0x0C1A q) ∧ (s.accepts 0x0C1A q = true) ∧ (n = leAt c.payload 0 1 ∧ c.payload.length = 100 ∧ 1 ≤ n ∧ n ≤ 7 ∧ leAt c.payload 1 1 ≤ 3 ∧ leAt c.payload 2 2 = 0) ∧ (unlockAdmits u.fuses.lifecycle n = some pr ∧ u.hbx.zeroising = none) ∧ (u.takeChallenge = (some ch, v) ∧
    (Config.sigVerify (v.rootBytes (leAt c.payload 1 1)) (beBytes 48 (Config.sha384 (ch ++ leBytes 8 Config.uniqueId.toNat ++ leBytes 1 (n))).toNat) (c.payload.drop 4) = true →
      v.authorised (leAt c.payload 1 1) n pr ch (c.payload.drop 4) = true)) ∧ (n ≠ 1) ∧ (w = ((v.openTicket c []).2.setF HbxStatus.zeroising 1).zeroiseRam 1) :=
  ⟨wReq 0 ([2, 0, 0, 0] ++ zeros 96), wSigned 1 false, _, _, 2, false, [1], _, _, rfl, rfl, by decide +kernel, by decide +kernel, by decide +kernel,
    ⟨Prod.ext (by decide +kernel) rfl, authorised_of (by decide +kernel)⟩, by decide +kernel, rfl⟩

theorem witness_evtBind : ∃ (q : Req) (s u : State) (c : Ctx),
    (u = s.served 0x0D10 q) ∧ (c = s.ctx 0x0D10 q) ∧ (s.accepts 0x0D10 q = true) ∧ (16 ≤ leAt c.payload 0 1 ∧ u.bindBad c.payload = false) :=
  ⟨wReq 0 [20, 3, 255, 0, 1, 0, 0, 0, 10, 0, 0, 0], wState, _, _, rfl, rfl, by decide +kernel⟩

theorem witness_evtCoalesceSet : ∃ (q : Req) (s u : State) (c : Ctx),
    (u = s.served 0x0D11 q) ∧ (c = s.ctx 0x0D11 q) ∧ (s.accepts 0x0D11 q = true) ∧ ((orefOf c.payload).typ = 0x1E ∧ 16 ≤ (orefOf c.payload).idx) ∧ (leAt c.payload 8 1 ≠ 0 ∧ leAt c.payload 9 1 = 0 ∧ leAt c.payload 10 2 ≠ 0) :=
  ⟨wReq 0 [30, 0, 255, 255, 20, 0, 0, 0, 5, 0, 100, 0], wState, _, _, rfl, rfl, by decide +kernel⟩

theorem witness_evtSourceEnable : ∃ (q : Req) (s u : State) (c : Ctx) (k : Nat),
    (u = s.served 0x0D12 q) ∧ (c = s.ctx 0x0D12 q) ∧ (s.accepts 0x0D12 q = true) ∧ ((orefOf c.payload).typ = 0x1F ∧ (srcKind (orefOf c.payload).idx).isSome = true) ∧ (k = leAt c.payload 8 1 ∧ 16 ≤ k ∧ leAt c.payload 9 3 = 0 ∧ (k = 0xFF ∨ (k ≤ 63 ∧ u.getF (EvqStatus.target k) ≠ 7))) :=
  ⟨wReq 0 [31, 0, 255, 255, 3, 8, 0, 0, 255, 0, 0, 0], wState, _, _, _, rfl, rfl, by decide +kernel, by decide +kernel, ⟨rfl, by decide +kernel⟩⟩

theorem witness_evtQueueState : ∃ (q : Req) (s u : State) (c : Ctx) (k : Nat),
    (u = s.served 0x0D13 q) ∧ (c = s.ctx 0x0D13 q) ∧ (s.accepts 0x0D13 q = true) ∧ (k = (orefOf c.payload).idx ∧ (orefOf c.payload).typ = 0x1E) :=
  ⟨wReq 0 [30, 0, 255, 255, 20, 0, 0, 0], wState, _, _, _, rfl, rfl, by decide, rfl, by decide⟩

theorem witness_evtInject : ∃ (q : Req) (s u : State) (c : Ctx),
    (u = s.served 0x0D14 q) ∧ (c = s.ctx 0x0D14 q) ∧ (s.accepts 0x0D14 q = true) ∧ ((orefOf c.payload).typ = 0x1F) ∧ (srcKind (orefOf c.payload).idx = some .counted) :=
  ⟨wReq 0 [31, 0, 255, 255, 3, 8, 0, 0, 0, 0, 0, 0], wState, _, _, rfl, rfl, by decide +kernel⟩

theorem witness_evtInject_payload : ∃ (q : Req) (s u : State) (c : Ctx),
    (u = s.served 0x0D14 q) ∧ (c = s.ctx 0x0D14 q) ∧ (s.accepts 0x0D14 q = true) ∧ ((orefOf c.payload).typ = 0x1F) ∧ (srcKind (orefOf c.payload).idx = some .payload) :=
  ⟨wReq 0 [31, 0, 255, 255, 8, 0, 0, 0, 0, 0, 0, 0], wState, _, _, rfl, rfl, by decide +kernel⟩

theorem witness_evtInject_level : ∃ (q : Req) (s u : State) (c : Ctx),
    (u = s.served 0x0D14 q) ∧ (c = s.ctx 0x0D14 q) ∧ (s.accepts 0x0D14 q = true) ∧ ((orefOf c.payload).typ = 0x1F) ∧ (srcKind (orefOf c.payload).idx = some .level) :=
  ⟨wReq 0 [31, 0, 255, 255, 24, 0, 0, 0, 0, 0, 0, 0], wState, _, _, rfl, rfl, by decide +kernel⟩

theorem witness_storeAttach : ∃ (q : Req) (s u : State) (c : Ctx),
    (u = s.served 0x0E10 q) ∧ (c = s.ctx 0x0E10 q) ∧ (s.accepts 0x0E10 q = true) ∧ (u.absentVariant = false ∧ c.payload = []) ∧ (u.store.state = ssDetached ∨ u.store.state = ssFailed) :=
  ⟨wReq 0 [], wState, _, _, rfl, rfl, by decide +kernel⟩

theorem witness_storeDetach : ∃ (q : Req) (s u : State) (c : Ctx) (v : State),
    (u = s.served 0x0E11 q) ∧ (c = s.ctx 0x0E11 q) ∧ (s.accepts 0x0E11 q = true) ∧ (u.absentVariant = false ∧ c.payload.length = 4 ∧ leAt c.payload 0 4 ≤ 1) ∧ (u.store.state = ssAttached) ∧ (v = u.detachStart (leAt c.payload 0 4 = 1)) :=
  ⟨wReq 0 [0, 0, 0, 0], wStore, _, _, _, rfl, rfl, by decide +kernel, by decide +kernel, by decide +kernel, rfl⟩

theorem witness_storeRecorderStart : ∃ (q : Req) (s u : State) (c : Ctx) (v : State),
    (u = s.served 0x0E12 q) ∧ (c = s.ctx 0x0E12 q) ∧ (s.accepts 0x0E12 q = true) ∧ (u.absentVariant = false ∧ c.payload.length = 4 ∧ leAt c.payload 0 4 ≤ 1) ∧ (u.store.state = ssAttached ∧ u.recCount ≠ 0 ∧ u.xtsOk = true) ∧ (v = u.recLocate (leAt c.payload 0 4 = 1)) :=
  ⟨wReq 0 [1, 0, 0, 0], wStore, _, _, _, rfl, rfl, by decide +kernel, by decide +kernel, by decide +kernel, rfl⟩

theorem witness_storeRecorderStop : ∃ (q : Req) (s u : State) (c : Ctx),
    (u = s.served 0x0E13 q) ∧ (c = s.ctx 0x0E13 q) ∧ (s.accepts 0x0E13 q = true) ∧ (u.absentVariant = false ∧ c.payload = []) ∧ (u.recStop.recInFlight = 0) :=
  ⟨wReq 0 [], wStore, _, _, rfl, rfl, by decide +kernel⟩

theorem witness_storeRecorderStop_pending : ∃ (q : Req) (s u : State) (c : Ctx) (v : State),
    (u = s.served 0x0E13 q) ∧ (c = s.ctx 0x0E13 q) ∧ (s.accepts 0x0E13 q = true) ∧ (u.absentVariant = false ∧ c.payload = []) ∧ (u.recStop.recInFlight ≠ 0) ∧ (v = (u.recStop.openTicket c []).2) :=
  ⟨wReq 0 [], { wStore with store := { wStore.store with recording := true, nvme := [{ ticket := none, write := true, lba := 0, count := 1 }] } }, _, _, _, rfl, rfl, by decide +kernel, by decide +kernel, by decide +kernel, rfl⟩

theorem witness_storeRead : ∃ (q : Req) (s u : State) (c : Ctx) (b : Bulk) (l : List Byte) (v : State) (a n : Nat) (x : Bool) (o : Resp × State),
    (u = s.served 0x0E14 q) ∧ (c = s.ctx 0x0E14 q) ∧ (s.accepts 0x0E14 q = true) ∧ (u.absentVariant = false ∧ c.bulk = some b ∧ b.ok [2] = true ∧ u.store.state = ssAttached) ∧ (u.bulkRead c b = (some l, v)) ∧ (v.storeHeader b l = .ok (a, n, x)) ∧ (o = v.readStart c b a n x) :=
  ⟨{ wReq 0 (zeros 8 ++ [16, 2, 0, 0, 2, 0, 0, 0]) with flags := 1 }, wStoreHost, _, _, ⟨0, 528, 2, 0, false⟩, _, _, 0, 1, false, _, rfl, rfl, by decide +kernel, by decide +kernel, rfl, rfl, rfl⟩

theorem witness_storeWrite : ∃ (q : Req) (s u : State) (c : Ctx) (b : Bulk) (l : List Byte) (v : State) (a n : Nat) (x : Bool) (o : Resp × State),
    (u = s.served 0x0E15 q) ∧ (c = s.ctx 0x0E15 q) ∧ (s.accepts 0x0E15 q = true) ∧ (u.absentVariant = false ∧ c.bulk = some b ∧ b.ok [0] = true ∧ u.store.state = ssAttached) ∧ (u.bulkRead c b = (some l, v)) ∧ (v.storeHeader b l = .ok (a, n, x) ∧ v.lbaBusy a n = false) ∧ (o = v.writeStart c l a n x) :=
  ⟨{ wReq 0 (zeros 8 ++ [16, 2, 0, 0, 0, 0, 0, 0]) with flags := 1 }, wStoreHost, _, _, ⟨0, 528, 0, 0, false⟩, _, _, 0, 1, false, _, rfl, rfl, by decide +kernel, by decide +kernel, rfl, ⟨rfl, by decide +kernel⟩, rfl⟩

theorem witness_storeStageImage : ∃ (q : Req) (s u : State) (c : Ctx) (n : Nat) (o : Resp × State),
    (u = s.served 0x0E16 q) ∧ (c = s.ctx 0x0E16 q) ∧ (s.accepts 0x0E16 q = true) ∧ (u.absentVariant = false ∧ c.bulk = none ∧ c.payload.length = 8) ∧ (n = leAt c.payload 4 4 ∧ leAt c.payload 0 1 = 1 ∧ leAt c.payload 1 1 ≤ 1 ∧ leAt c.payload 2 2 = 0 ∧ n ≤ 16777216 ∧ n ≤ u.stageCount * u.store.lbaSize) ∧ (u.store.state = ssAttached ∧ u.stageCount ≠ 0 ∧ (u.xtsSlot = 0xFFFF ∨ u.xtsOk = true) ∧ u.store.staging = none ∧ u.locked c.client [imageLock] = false) ∧ (o = (u.stageWrite 0 (memReads u.bar2 0x03000000 n)).stageStart c n (leAt c.payload 1 1)) :=
  ⟨wReq 0 [1, 0, 0, 0, 0, 0, 0, 0], wStore, _, _, _, _, rfl, rfl, by decide +kernel, by decide +kernel, ⟨rfl, by decide +kernel⟩, by decide +kernel, rfl⟩

theorem witness_StoreCommandsComplete_8 : ∃ (q : Req) (s u : State) (c : Ctx) (n : Nat) (b : Bulk) (l : List Byte) (v : State) (o : Resp × State),
    (u = s.served 0x0E16 q) ∧ (c = s.ctx 0x0E16 q) ∧ (s.accepts 0x0E16 q = true) ∧ (u.absentVariant = false ∧ c.payload.length = 24) ∧ (c.bulk = some b ∧ (b.seg && u.spiMb c.mb) = false ∧ b.ok [0] = true ∧ n ≤ b.len ∧ u.bulkRead c b = (some l, v)) ∧ (n = leAt c.payload 4 4 ∧ leAt c.payload 0 1 = 0 ∧ leAt c.payload 1 1 ≤ 1 ∧ leAt c.payload 2 2 = 0 ∧ n ≤ 16777216 ∧ n ≤ u.stageCount * u.store.lbaSize) ∧ (u.store.state = ssAttached ∧ u.stageCount ≠ 0 ∧ (u.xtsSlot = 0xFFFF ∨ u.xtsOk = true) ∧ u.store.staging = none ∧ u.locked c.client [imageLock] = false) ∧ (o = (v.stageWrite 0 (l.take n)).stageStart c n (leAt c.payload 1 1)) :=
  ⟨wReq 0 ([0, 0, 0, 0, 8, 0, 0, 0] ++ zeros 8 ++ [8, 0, 0, 0, 0, 0, 0, 0]), wStoreHost, _, _, _, ⟨0, 8, 0, 0, false⟩, _, _, _, rfl, rfl, by decide +kernel, by decide +kernel, ⟨rfl, by decide +kernel, by decide +kernel, by decide +kernel, rfl⟩, ⟨rfl, by decide +kernel, by decide +kernel, by decide +kernel, by decide +kernel, by decide +kernel⟩, by decide +kernel, rfl⟩

theorem witness_StoreCommandsComplete_9 : ∃ (c : Ctx) (u : State) (b : Bulk) (x : Piece) (v : State),
    (u.absentVariant = false ∧ c.cmd = 0x0E16 ∧ c.bulk = some b ∧ b.seg = true ∧ u.spiMb c.mb = true ∧ b.ok [0] = true) ∧ (u.store.state = ssAttached ∧ u.stageCount ≠ 0 ∧ (u.xtsSlot = 0xFFFF ∨ u.xtsOk = true) ∧ u.store.staging = none ∧ u.locked c.client [imageLock] = false) ∧ (u.pieceOf c b.len (u.stageCount * u.store.lbaSize) = some x) ∧ (v = (u.pieceNote c x).stageWrite x.off x.data) :=
  ⟨⟨0x0E16, 0, 0, 0, 0, 0, [], some ⟨0, 32, 0, 0, true⟩⟩, { wStore with regs := wSpi.regs, gci := { wStore.gci with seg := memWrites [] 4 [16, 0, 0, 0, 3] } }, _, _, _, ⟨by decide +kernel, by decide +kernel, rfl, by decide +kernel, by decide +kernel, by decide +kernel⟩, by decide +kernel, rfl, rfl⟩

theorem witness_storeHealth : ∃ (q : Req) (s u : State) (c : Ctx) (v : StoreState),
    (u = s.served 0x0E17 q) ∧ (c = s.ctx 0x0E17 q) ∧ (s.accepts 0x0E17 q = true) ∧ (u.absentVariant = false ∧ c.payload = []) ∧ (v = u.store) :=
  ⟨wReq 0 [], wState, _, _, _, rfl, rfl, by decide, by decide, rfl⟩

theorem witness_cascTopology : ∃ (q : Req) (s u : State) (c : Ctx) (t : Nat × Nat),
    (u = s.served 0x0F10 q) ∧ (c = s.ctx 0x0F10 q) ∧ (s.accepts 0x0F10 q = true) ∧ (c.payload = []) ∧ (t = u.standbyLink.getD (0xFF, 0xFF)) :=
  ⟨wReq 0 [], wState, _, _, _, rfl, rfl, by decide, by decide, rfl⟩

theorem witness_cascStandbyLinkSet : ∃ (q : Req) (s u : State) (c : Ctx) (d : Draft),
    (u = s.served 0x0F11 q) ∧ (c = s.ctx 0x0F11 q) ∧ (s.accepts 0x0F11 q = true) ∧ ((orefOf c.payload).typ = 0x01) ∧ (leAt c.payload 8 1 ≤ 3 ∧ (leAt c.payload 9 1 = 20 ∨ leAt c.payload 9 1 = 21) ∧ leAt c.payload 10 2 = 0) ∧ (u.draft c.client c.txn = some d) ∧ (u.locked c.client [lockOf (pkey oDeck pidStandby)] = false ∧ u.draftRoom c = true) :=
  ⟨wReq 7 [1, 0, 255, 255, 255, 255, 255, 255, 1, 20, 0, 0], wState, _, _, ⟨7, 0, 0, 0, []⟩, rfl, rfl, by decide⟩

theorem witness_cascHeal_keep : ∃ (q : Req) (s u : State) (c : Ctx),
    (u = s.served 0x0F12 q) ∧ (c = s.ctx 0x0F12 q) ∧ (s.accepts 0x0F12 q = true) ∧ (c.payload.length = 4 ∧ leAt c.payload 0 1 ≤ 3 ∧ leAt c.payload 2 2 = 0) ∧ (u.quarantined (leAt c.payload 0 1) = true) ∧ (leAt c.payload 1 1 = 0) :=
  ⟨wReq 0 [2, 0, 0, 0], wQuar, _, _, rfl, rfl, by decide +kernel⟩

theorem witness_cascHeal : ∃ (q : Req) (s u : State) (c : Ctx) (n : Nat) (r : DeckInfo) (e : Nat × Nat) (v : State),
    (u = s.served 0x0F12 q) ∧ (c = s.ctx 0x0F12 q) ∧ (s.accepts 0x0F12 q = true) ∧ (c.payload.length = 4 ∧ leAt c.payload 0 1 ≤ 3 ∧ leAt c.payload 2 2 = 0) ∧ (n = leAt c.payload 0 1 ∧ r = u.deckInfo n ∧ u.quarantined n = true) ∧ (e = (if n = u.ownDeck then (u.gci.epoch, u.pier.commitId) else (r.epoch, r.commitId))) ∧ (leAt c.payload 1 1 = 1) ∧ (v = { u with pier := { u.pier with ledger := tabInsert u.pier.ledger n e } }) :=
  ⟨wReq 0 [2, 1, 0, 0], wQuar, _, _, _, _, _, _, rfl, rfl, by decide +kernel, by decide +kernel, ⟨rfl, rfl, by decide +kernel⟩, rfl, by decide +kernel, rfl⟩

theorem witness_cascSplitLog : ∃ (q : Req) (s u : State) (c : Ctx),
    (u = s.served 0x0F13 q) ∧ (c = s.ctx 0x0F13 q) ∧ (s.accepts 0x0F13 q = true) ∧ (c.payload = []) :=
  ⟨wReq 0 [], wState, _, _, rfl, rfl, by decide⟩

theorem witness_diagRead : ∃ (q : Req) (s u : State) (c : Ctx) (n a : Nat),
    (u = s.served 0x1010 q) ∧ (c = s.ctx 0x1010 q) ∧ (s.accepts 0x1010 q = true) ∧ (n = leAt c.payload 1 1 ∧ a = leAt c.payload 4 4 ∧ leAt c.payload 2 2 = 0 ∧ 1 ≤ n ∧ n ≤ 250) ∧ (leAt c.payload 0 1 = 0 ∧ a % 4 = 0 ∧ a + 4 * n ≤ 0x1000000) :=
  ⟨wReq 0 [0, 1, 0, 0, 64, 0, 0, 0], wState, _, _, _, _, rfl, rfl, by decide, ⟨rfl, rfl, by decide⟩, by decide⟩

theorem witness_diagRead_brim : ∃ (q : Req) (s u : State) (c : Ctx) (n : Nat) (o : Resp × State),
    (u = s.served 0x1010 q) ∧ (c = s.ctx 0x1010 q) ∧ (s.accepts 0x1010 q = true) ∧ (n = leAt c.payload 1 1 ∧ leAt c.payload 2 2 = 0 ∧ 1 ≤ n ∧ n ≤ 250) ∧ (leAt c.payload 0 1 = 1) ∧ (o = u.pendHatpin c n [] false) :=
  ⟨wReq 0 [1, 1, 0, 0, 64, 0, 0, 0], wState, _, _, _, _, rfl, rfl, by decide, ⟨rfl, by decide⟩, by decide, rfl⟩

theorem witness_DiagCommandsComplete_2 : ∃ (q : Req) (s u : State) (c : Ctx) (n a : Nat),
    (u = s.served 0x1010 q) ∧ (c = s.ctx 0x1010 q) ∧ (s.accepts 0x1010 q = true) ∧ (n = leAt c.payload 1 1 ∧ a = leAt c.payload 4 4 ∧ leAt c.payload 2 2 = 0 ∧ 1 ≤ n ∧ n ≤ 250) ∧ (leAt c.payload 0 1 = 2 ∧ u.diagRangeOk (a / 2 ^ 24) (a % 2 ^ 24) n = true) ∧ (64 < n) :=
  ⟨(wReq 0 [2, 65, 0, 0, 0, 0, 0, 0]), wState, _, _, _, _, rfl, rfl, by decide +kernel, ⟨rfl, rfl, by decide +kernel, by decide +kernel, by decide +kernel⟩, by decide +kernel, by decide +kernel⟩

theorem witness_DiagCommandsComplete_3 : ∃ (q : Req) (s u : State) (c : Ctx) (n a : Nat) (o : List Byte × State),
    (u = s.served 0x1010 q) ∧ (c = s.ctx 0x1010 q) ∧ (s.accepts 0x1010 q = true) ∧ (n = leAt c.payload 1 1 ∧ a = leAt c.payload 4 4 ∧ leAt c.payload 2 2 = 0 ∧ 1 ≤ n ∧ n ≤ 250) ∧ (leAt c.payload 0 1 = 2 ∧ u.diagRangeOk (a / 2 ^ 24) (a % 2 ^ 24) n = true) ∧ (n ≤ 64) ∧ (o = u.tableWords (a / 2 ^ 24) (a % 2 ^ 24) n) :=
  ⟨(wReq 0 [2, 4, 0, 0, 0, 0, 0, 0]), wState, _, _, _, _, _, rfl, rfl, by decide +kernel, ⟨rfl, rfl, by decide +kernel, by decide +kernel, by decide +kernel⟩, by decide +kernel, by decide +kernel, rfl⟩

theorem witness_diagWrite : ∃ (q : Req) (s u : State) (c : Ctx) (n a : Nat) (v : State),
    (u = s.served 0x1011 q) ∧ (c = s.ctx 0x1011 q) ∧ (s.accepts 0x1011 q = true) ∧ (n = leAt c.payload 1 1 ∧ a = leAt c.payload 4 4 ∧ leAt c.payload 2 2 = 0 ∧ 1 ≤ n ∧ n ≤ 250 ∧ (c.payload.drop 8).length = 4 * n) ∧ (leAt c.payload 0 1 = 0 ∧ a + 4 * n ≤ 0x1000000) ∧ (v = u.diagWords a (c.payload.drop 8) n ∧ v.fwServing = true) :=
  ⟨wReq 0 [0, 1, 0, 0, 0, 0, 64, 0, 1, 0, 0, 0], wState, _, _, _, _, _, rfl, rfl, by decide +kernel, ⟨rfl, rfl, by decide +kernel⟩, by decide +kernel, ⟨rfl, by decide +kernel⟩⟩

theorem witness_DiagCommandsComplete_5 : ∃ (q : Req) (s u : State) (c : Ctx) (n : Nat) (o : Resp × State),
    (u = s.served 0x1011 q) ∧ (c = s.ctx 0x1011 q) ∧ (s.accepts 0x1011 q = true) ∧ (n = leAt c.payload 1 1 ∧ leAt c.payload 2 2 = 0 ∧ 1 ≤ n ∧ n ≤ 250 ∧ (c.payload.drop 8).length = 4 * n) ∧ (leAt c.payload 0 1 = 1 ∧ (u.fuses.lifecycle = 1 ∨ u.fuses.lifecycle = 3)) ∧ (o = u.pendHatpin c n (c.payload.drop 8) true) :=
  ⟨wReq 0 [1, 1, 0, 0, 0, 0, 0, 0, 9, 0, 0, 0], { wState with fuses := { wState.fuses with lifecycle := 1 } }, _, _, _, _, rfl, rfl, by decide +kernel, ⟨rfl, by decide +kernel, by decide +kernel, by decide +kernel, by decide +kernel⟩, by decide +kernel, rfl⟩

theorem witness_DiagCommandsComplete_6 : ∃ (q : Req) (s u : State) (c : Ctx) (b : Bulk) (l : List Byte) (v : State),
    (u = s.served 0x1012 q) ∧ (c = s.ctx 0x1012 q) ∧ (s.accepts 0x1012 q = true) ∧ (c.bulk = some b ∧ b.ok [2] = true) ∧ (u.bulkRead c { b with len := 16 } = (some l, v)) ∧ (16 ≤ b.len ∧ v.dumpOk l b.len = true) :=
  ⟨{ wReq 0 (zeros 8 ++ [32, 0, 0, 0, 2, 0, 0, 0]) with flags := 1 }, wStoreHost, _, _, ⟨0, 32, 2, 0, false⟩, _, _, rfl, rfl, by decide +kernel, ⟨rfl, by decide +kernel⟩, rfl, by decide +kernel⟩

theorem witness_diagLoopback : ∃ (q : Req) (s u : State) (c : Ctx) (k : Nat),
    (u = s.served 0x1013 q) ∧ (c = s.ctx 0x1013 q) ∧ (s.accepts 0x1013 q = true) ∧ (k = (orefOf c.payload).chan ∧ (orefOf c.payload).typ = 0x04) ∧ (u.loopBad k c.payload = false ∧ u.chanEnabled k = false) :=
  ⟨wReq 0 [4, 0, 255, 24, 255, 255, 255, 255, 1, 0, 10, 0, 8, 0, 0, 0], wState, _, _, _, rfl, rfl, by decide +kernel, ⟨rfl, by decide +kernel⟩, by decide +kernel⟩

theorem witness_diagMirrorSet : ∃ (q : Req) (s u : State) (c : Ctx) (t p k : Nat) (d : Draft),
    (u = s.served 0x1014 q) ∧ (c = s.ctx 0x1014 q) ∧ (s.accepts 0x1014 q = true) ∧ (t = leAt c.payload 8 1 ∧ p = leAt c.payload 9 1 ∧ k = leAt c.payload 10 1 ∧ t ≤ 2 ∧ p ≤ 19 ∧ k ≤ 7 ∧ leAt c.payload 11 1 = 0) ∧ (((orefOf c.payload).typ = 0x04 ∧ (orefOf c.payload).chan ≤ 23) ∨ (orefOf c.payload).typ = 0x0D) ∧ (t = 2 → (orefOf c.payload).typ = 0x04 ∧ (orefOf c.payload).chan ≠ 23 ∧ (orefOf c.payload).chan ≠ p) ∧ (t = 1 → u.absentVariant = false) ∧ (u.draft c.client c.txn = some d) ∧ (u.locked c.client [lockOf (pkey (orefOf c.payload).key pidMirror)] = false ∧ u.draftRoom c = true) :=
  ⟨wReq 7 [4, 0, 255, 2, 255, 255, 255, 255, 2, 5, 1, 0], wState, _, _, _, _, _, ⟨7, 0, 0, 0, []⟩, rfl, rfl, by decide +kernel, ⟨rfl, rfl, rfl, by decide +kernel⟩, by decide +kernel, by decide +kernel, by decide +kernel, by decide +kernel, by decide +kernel⟩

theorem witness_diagAuditStatus : ∃ (q : Req) (s u : State) (c : Ctx) (o r : List Byte × State) (n m : Nat),
    (u = s.served 0x1015 q) ∧ (c = s.ctx 0x1015 q) ∧ (s.accepts 0x1015 q = true) ∧ (o = u.freeFill u.buf.reclaims 16 ∧ r = o.2.freeFill o.2.buf.auditTotals 5) ∧ (n = r.2.ctr oDeck cQos 13 ∧ m = r.2.ctr oDeck cQos 5) :=
  ⟨wReq 0 [], wState, _, _, _, _, _, _, rfl, rfl, by decide, ⟨rfl, rfl⟩, ⟨rfl, rfl⟩⟩

theorem witness_faultStatus : ∃ (q : Req) (s u : State),
    (u = s.served 0x1110 q) ∧ (s.accepts 0x1110 q = true) :=
  ⟨wReq 0 [], wState, _, rfl, by decide⟩

theorem witness_faultClear : ∃ (q : Req) (s u : State) (c : Ctx) (k : Nat) (l : List Nat) (v : State),
    (u = s.served 0x1111 q) ∧ (c = s.ctx 0x1111 q) ∧ (s.accepts 0x1111 q = true) ∧ (k = leAt c.payload 0 2 ∧ leAt c.payload 2 2 = 0 ∧ (k ≤ 511 ∨ k = 0xFFFF)) ∧ (l = (if k = 0xFFFF then List.range 512 else [k])) ∧ ((∀ n ∈ l, u.faultCond n = false)) ∧ (v = u.faultUnlatch l) :=
  ⟨wReq 0 [1, 0, 0, 0], wState, _, _, _, [1], _, rfl, rfl, by decide, ⟨rfl, by decide⟩, rfl, by decide, rfl⟩

theorem witness_faultReactionSet : ∃ (q : Req) (s u : State) (c : Ctx) (d : Draft),
    (u = s.served 0x1112 q) ∧ (c = s.ctx 0x1112 q) ∧ (s.accepts 0x1112 q = true) ∧ ((orefOf c.payload).typ = 0x20 ∧ bitsOf (leAt c.payload 8 4) 31 4 = 0 ∧ bitsOf (leAt c.payload 8 4) 1 0 ≠ 3) ∧ (rxWeaker (leAt c.payload 8 4) (leastReaction (orefOf c.payload).idx) = false) ∧ (u.draft c.client c.txn = some d) ∧ (u.locked c.client [lockOf (pkey (orefOf c.payload).key (pidRaw 0))] = false ∧ u.draftRoom c = true) :=
  ⟨wReq 7 [32, 0, 255, 255, 3, 0, 0, 0, 8, 0, 0, 0], wState, _, _, ⟨7, 0, 0, 0, []⟩, rfl, rfl, by decide +kernel⟩

theorem witness_faultInject : ∃ (q : Req) (s u : State) (c : Ctx) (k : Nat) (v : State),
    (u = s.served 0x1113 q) ∧ (c = s.ctx 0x1113 q) ∧ (s.accepts 0x1113 q = true) ∧ (k = leAt c.payload 0 2 ∧ faultAssigned k = true ∧ k ≤ 511 ∧ leAt c.payload 2 2 ≤ 1 ∧ 1 ≤ leAt c.payload 4 4 ∧ leAt c.payload 4 4 ≤ 1000000) ∧ (u.faultCond k = false) ∧ (v = u.injectFault k (leAt c.payload 2 2 == 1) (leAt c.payload 4 4)) ∧ (v.fwServing = true) :=
  ⟨wReq 0 [3, 0, 0, 0, 10, 0, 0, 0], wState, _, _, _, _, rfl, rfl, by decide +kernel, ⟨rfl, by decide +kernel⟩, by decide +kernel, rfl, by decide +kernel⟩

theorem witness_faultLogRead : ∃ (q : Req) (s u : State) (c : Ctx) (o : Resp × State),
    (u = s.served 0x1114 q) ∧ (c = s.ctx 0x1114 q) ∧ (s.accepts 0x1114 q = true) ∧ (c.payload.length = 4 ∧ 1 ≤ leAt c.payload 2 2 ∧ leAt c.payload 2 2 ≤ 32) ∧ (o = u.pendHatpin c (4 * (u.faultsFor c.payload).length) [] false) :=
  ⟨wReq 0 [0, 0, 1, 0], wState, _, _, _, rfl, rfl, by decide, by decide, rfl⟩

theorem witness_faultWatchdogSet : ∃ (q : Req) (s u : State) (c : Ctx) (ch : List (Nat × Nat)) (d : Draft),
    (u = s.served 0x1115 q) ∧ (c = s.ctx 0x1115 q) ∧ (s.accepts 0x1115 q = true) ∧ (leAt c.payload 0 4 ≤ 1000 ∧ 10 ≤ leAt c.payload 4 4 ∧ leAt c.payload 4 4 ≤ 2000 ∧ leAt c.payload 0 4 < leAt c.payload 4 4 ∧ 50 ≤ leAt c.payload 8 4 ∧ leAt c.payload 8 4 ≤ 5000) ∧ (ch = [(pkey oDeck (pidWatchdog 0), leAt c.payload 0 4), (pkey oDeck (pidWatchdog 1), leAt c.payload 4 4), (pkey oDeck (pidWatchdog 2), leAt c.payload 8 4)]) ∧ (u.draft c.client c.txn = some d) ∧ (u.locked c.client (ch.map (fun kv => lockOf kv.1)) = false ∧ u.draftRoom c = true) :=
  ⟨wReq 7 [5, 0, 0, 0, 100, 0, 0, 0, 100, 0, 0, 0], wState, _, _, _, ⟨7, 0, 0, 0, []⟩, rfl, rfl, by decide, by decide, rfl, by decide, by decide⟩

theorem witness_registerWrite : ∃ (o : BitVec 24) (n : BitVec 13) (r : BitVec 16) (w : Word) (s : State),
    n = 4 ∧ o.toNat % 4 = 0 :=
  ⟨0x40, 4, 0, 0, wState, by decide⟩

theorem witness_registerWrite_misaligned : ∃ (o : BitVec 24) (n : BitVec 13) (r : BitVec 16) (w : Word) (s : State),
    n ≠ 4 ∨ o.toNat % 4 ≠ 0 :=
  ⟨0x41, 4, 0, 0, wState, by decide⟩

theorem witness_HostAccessesComplete_2 : ∃ (o : BitVec 24) (n : BitVec 13) (r : BitVec 16) (w : Word) (f : Fin 3) (s : State),
    (f ≠ 0) :=
  ⟨0x40, 4, 0, 0, 1, wState, by decide +kernel⟩

theorem witness_HostAccessesComplete_3 : ∃ (o : BitVec 24) (n : BitVec 13) (r : BitVec 16) (w : Word) (f : Fin 3) (s : State),
    (n = 4 ∧ o.toNat % 4 = 0 ∧ o.toNat < 0x400) :=
  ⟨0x40, _, 0, 0, 1, wState, ⟨rfl, by decide +kernel, by decide +kernel⟩⟩

theorem witness_HostAccessesComplete_4 : ∃ (o : BitVec 24) (n : BitVec 13) (r : BitVec 16) (w : Word) (f : Fin 3) (s : State),
    (n ≠ 4 ∨ o.toNat % 4 ≠ 0 ∨ 0x400 ≤ o.toNat) :=
  ⟨0x40, 0, 0, 0, 1, wState, by decide +kernel⟩

theorem witness_HostAccessesComplete_6 : ∃ (o : BitVec 26) (r : BitVec 16) (l : List Byte) (f : Fin 3) (s : State),
    (f ≠ 0) :=
  ⟨0, 0, [], 1, wState, by decide +kernel⟩

theorem witness_HostAccessesComplete_8 : ∃ (o : BitVec 26) (n : BitVec 13) (s : State) (a : Nat),
    (a = o.toNat % 2 ^ 24) ∧ (n ≠ 4 ∨ a % 4 ≠ 0 ∨ (s.absentVariant = true ∧ absentBlock a = true)) :=
  ⟨0, 0, wState, _, rfl, by decide +kernel⟩

theorem witness_HostAccessesComplete_9 : ∃ (o : BitVec 26) (s : State) (a k : Nat),
    (a = o.toNat % 2 ^ 24 ∧ a % 4 = 0 ∧ (s.absentVariant = true → absentBlock a = false)) ∧ (ctrAt a = some (k, false) ∧ a ≠ StrandLo.off ∧ a ≠ StrandHi.off) :=
  ⟨0x200, wState, _, _, ⟨rfl, by decide +kernel, by decide +kernel⟩, ⟨rfl, by decide +kernel, by decide +kernel⟩⟩

theorem witness_HostAccessesComplete_10 : ∃ (o : BitVec 26) (s : State) (a k : Nat),
    (a = o.toNat % 2 ^ 24 ∧ a % 4 = 0 ∧ (s.absentVariant = true → absentBlock a = false)) ∧ (ctrAt a = some (k, true) ∧ a ≠ StrandLo.off ∧ a ≠ StrandHi.off) :=
  ⟨0x204, wState, _, _, ⟨rfl, by decide +kernel, by decide +kernel⟩, ⟨rfl, by decide +kernel, by decide +kernel⟩⟩

theorem witness_HostAccessesComplete_11 : ∃ (o : BitVec 26) (s : State) (a : Nat),
    (a = o.toNat % 2 ^ 24 ∧ (s.absentVariant = true → absentBlock a = false)) ∧ (a = StrandLo.off) :=
  ⟨BitVec.ofNat 26 StrandLo.off, wState, _, ⟨rfl, by decide +kernel⟩, by decide +kernel⟩

theorem witness_HostAccessesComplete_12 : ∃ (o : BitVec 26) (s : State) (a : Nat),
    (a = o.toNat % 2 ^ 24 ∧ (s.absentVariant = true → absentBlock a = false)) ∧ (a = StrandHi.off) :=
  ⟨BitVec.ofNat 26 StrandHi.off, wState, _, ⟨rfl, by decide +kernel⟩, by decide +kernel⟩

theorem witness_HostAccessesComplete_13 : ∃ (o : BitVec 26) (s : State) (a : Nat),
    (a = o.toNat % 2 ^ 24 ∧ a % 4 = 0 ∧ (s.absentVariant = true → absentBlock a = false)) ∧ (ctrAt a = none ∧ a ≠ StrandLo.off ∧ a ≠ StrandHi.off) :=
  ⟨0, wState, _, ⟨rfl, by decide +kernel, by decide +kernel⟩, by decide +kernel⟩

theorem witness_MailboxAndSpiCommandsComplete_0 : ∃ (n : Fin 16) (b : Bool) (w : Word) (s v : State),
    (s.mbReached n (b2n b) = true) ∧ (s.getF (MbStatus.state n) = mbIdle ∧ bitsOf w.toNat 31 16 = 0x5A5A ∧ bitsOf w.toNat 15 0 ≠ s.getF (MbSeq.lastPosted n)) ∧ (v = ((s.setF (MbStatus.state n) mbPosted).setF (MbSeq.lastPosted n) (bitsOf w.toNat 15 0)).setF (MbStatus.cancelled n) 0) :=
  ⟨0, false, 0x5A5A0001#32, wState, _, by decide +kernel, by decide +kernel, rfl⟩

theorem witness_mbDoorbell_refused : ∃ (n : Fin 16) (b : Bool) (w : Word) (s : State),
    (s.mbReached n (b2n b) = true) ∧ (s.getF (MbStatus.state n) ≠ mbIdle ∨ bitsOf w.toNat 31 16 ≠ 0x5A5A ∨ bitsOf w.toNat 15 0 = s.getF (MbSeq.lastPosted n)) :=
  ⟨0, false, 0x5A5B0001#32, wState, by decide⟩

theorem witness_mbDoorbell_other : ∃ (n : Fin 16) (b : Bool) (w : Word) (s : State),
    s.mbReached n (b2n b) = false :=
  ⟨0, true, 0x5A5A0000#32, wState, by decide⟩

theorem witness_MailboxAndSpiCommandsComplete_3 : ∃ (n : Fin 16) (b : Bool) (s v : State),
    (s.mbReached n (b2n b) = true) ∧ (s.getF (MbStatus.state n) = mbResponse) ∧ (v = (s.setF (MbStatus.state n) mbIdle).syncMbLevel n ∧ (∀ d, v.gci.fullReset ≠ some (n.val, d))) :=
  ⟨0, false, wState.setF (MbStatus.state 0) mbResponse, _, by decide +kernel, by decide +kernel, ⟨rfl, (by intro _ h; have h' : none = some _ := h; cases h')⟩⟩

theorem witness_MailboxAndSpiCommandsComplete_4 : ∃ (n : Fin 16) (b : Bool) (s v : State) (d : Nat),
    (s.mbReached n (b2n b) = true) ∧ (s.getF (MbStatus.state n) = mbResponse) ∧ (v = (s.setF (MbStatus.state n) mbIdle).syncMbLevel n ∧ v.gci.fullReset = some (n.val, d)) :=
  ⟨0, false, State.setF { wState with gci := { wState.gci with fullReset := some (0, 9) } } (MbStatus.state 0) mbResponse, _, 9, by decide +kernel, by decide +kernel, ⟨rfl, by decide +kernel⟩⟩

theorem witness_mbAck_idle : ∃ (n : Fin 16) (b : Bool) (s : State),
    (s.mbReached n (b2n b) = true) ∧ (s.getF (MbStatus.state n) ≠ mbResponse) :=
  ⟨0, false, wState, by decide +kernel⟩

theorem witness_mbCancel : ∃ (n : Fin 16) (b : Bool) (s : State),
    (s.mbReached n (b2n b) = true) ∧ (s.getF (MbStatus.state n) = mbPosted) :=
  ⟨0, false, (wState.setF (MbStatus.state 0) mbPosted), by decide +kernel⟩

theorem witness_cancel_refused : ∃ (n : Fin 16) (b : Bool) (s : State),
    (s.mbReached n (b2n b) = true) ∧ (s.getF (MbStatus.state n) ≠ mbPosted) :=
  ⟨0, false, wState, by decide +kernel⟩

theorem witness_spiWriteFrame : ∃ (f : List Byte) (s : State) (k : Nat),
    (leAt f 0 1 = 0x32) ∧ (k = (spiHead f).2.2.1 ∧ 5 + 4 * k ≤ f.length) :=
  ⟨([0x32, 4, 0, 0] ++ zeros 5), wState, _, by decide, ⟨rfl, by decide⟩⟩

theorem witness_MailboxAndSpiCommandsComplete_9 : ∃ (f : List Byte) (s : State),
    (leAt f 0 1 = 0x32 ∧ f.length < 5 + 4 * (spiHead f).2.2.1) :=
  ⟨[0x32], wState, by decide +kernel⟩

theorem witness_spiWriteFrame_opcode : ∃ (f : List Byte) (s : State),
    leAt f 0 1 ≠ 0x32 :=
  ⟨[0x33, 4, 0, 0], wState, by decide⟩

theorem witness_spiReadFrame : ∃ (f : List Byte) (s : State) (o : List Byte),
    (leAt f 0 1 = 0x3B ∧ 5 ≤ f.length) ∧ (s.spiStatus f 4 false = 0xA0) ∧ (o = [0xA0] ++ (List.range (spiHead f).2.2.1).flatMap (fun i => leBytes 4 (s.peek (mbBase (spiHead f).1 + (spiHead f).2.1 + 4 * i)))) :=
  ⟨([0x3B, 0, 4, 0] ++ leBytes 1 (crcSpi [0x3B, 0, 4, 0])), wSpi, _, by decide, by decide +kernel, rfl⟩

theorem witness_spiReadFrame_refused : ∃ (f : List Byte) (s : State) (t : Nat),
    (leAt f 0 1 = 0x3B ∧ 5 ≤ f.length) ∧ (t = s.spiStatus f 4 false ∧ t ≠ 0xA0) :=
  ⟨([0x3B, 0, 4, 0] ++ leBytes 1 (crcSpi [0x3B, 0, 4, 0])), wState, _, by decide, ⟨rfl, by decide +kernel⟩⟩

theorem witness_MailboxAndSpiCommandsComplete_13 : ∃ (f : List Byte) (s : State),
    (leAt f 0 1 = 0x3B ∧ f.length < 5) :=
  ⟨[0x3B], wState, by decide +kernel⟩

theorem witness_MailboxAndSpiCommandsComplete_14 : ∃ (f : List Byte) (s : State),
    (leAt f 0 1 ≠ 0x3B) :=
  ⟨([0x32, 4, 0, 0] ++ zeros 5), wState, by decide +kernel⟩

theorem witness_spiCsEarlyRise : ∃ (f : List Byte) (s : State),
    leAt f 0 1 = 0x32 ∧ 5 + 4 * (spiHead f).2.2.1 ≤ f.length :=
  ⟨([0x32, 4, 0, 0] ++ zeros 5), wState, by decide⟩

theorem witness_spiCsEarlyRise_short : ∃ (f : List Byte) (s : State),
    leAt f 0 1 ≠ 0x32 ∨ f.length < 5 + 4 * (spiHead f).2.2.1 :=
  ⟨[0x32], wState, by decide⟩

theorem witness_ResetCommandsComplete_0 : ∃ (s v w : State),
    (v = (s.setPower pwOff).syncFault) ∧ (w = ({ cfg := v.brim.nvm, brim := { nvm := v.brim.nvm, keyStore := v.brim.keyStore }, fuses := v.fuses, flash := v.flash, host := v.host, out := v.out, absentVariant := v.absentVariant, freeCount := v.freeCount, pending := v.pending } : State)) :=
  ⟨wState, _, _, rfl, rfl⟩

theorem witness_brimResetRelease : ∃ (s : State),
    s.brim.power = pwOff :=
  ⟨State.reset, by decide⟩

theorem witness_ResetCommandsComplete_2 : ∃ (s : State),
    (s.brim.power ≠ pwOff) :=
  ⟨(State.reset.setPower pwWaking), by decide +kernel⟩

theorem witness_brimNvmLoaded : ∃ (s : State),
    s.brim.power = pwWaking ∧ s.brim.nvmLoaded = false :=
  ⟨(State.reset.setPower pwWaking), by decide +kernel⟩

theorem witness_ResetCommandsComplete_4 : ∃ (s : State),
    (s.brim.power ≠ pwWaking ∨ s.brim.nvmLoaded = true) :=
  ⟨wState, by decide +kernel⟩

theorem witness_ResetCommandsComplete_5 : ∃ (s v : State),
    (s.brim.entering ≠ some pwParked ∧ (s.brim.power = pwRunning ∨ s.brim.power = pwListening)) ∧ (s.brim.power = pwRunning → (s.brim.supplyRetries.filter (fun t => s.brim.hb < t + secC 10)).length < 3) ∧ (v = s.crownReset DeckResetCause.crownSupply) :=
  ⟨(wState.setPower pwRunning), _, by decide +kernel, by decide +kernel, rfl⟩

theorem witness_ResetCommandsComplete_6 : ∃ (s v : State),
    (s.brim.entering ≠ some pwParked ∧ s.brim.power = pwRunning) ∧ (3 ≤ (s.brim.supplyRetries.filter (fun t => s.brim.hb < t + secC 10)).length) ∧ (v = (s.crownReset DeckResetCause.crownSupply).degradeSupply) :=
  ⟨(State.setPower { wState with brim := { wState.brim with supplyRetries := [0, 0, 0] } } pwRunning), _, by decide +kernel, by decide +kernel, rfl⟩

theorem witness_ResetCommandsComplete_7 : ∃ (s : State),
    (s.brim.entering = some pwParked ∨ (s.brim.power ≠ pwRunning ∧ s.brim.power ≠ pwListening)) :=
  ⟨wState, by decide +kernel⟩

theorem witness_ResetCommandsComplete_8 : ∃ (s : State),
    (s.brim.vcc5 = true ∧ s.brim.power ≠ pwOff ∧ s.brim.power ≠ pwParked ∧ s.brim.power ≠ pwDegraded) :=
  ⟨(State.reset.setPower pwWaking), by decide +kernel⟩

theorem witness_ResetCommandsComplete_9 : ∃ (s : State),
    (s.brim.vcc5 = true ∧ s.brim.power = pwDegraded) :=
  ⟨(wState.setPower pwDegraded), by decide +kernel⟩

theorem witness_ResetCommandsComplete_10 : ∃ (s : State),
    (s.brim.vcc5 = false ∨ s.brim.power = pwOff ∨ s.brim.power = pwParked) :=
  ⟨wState, by decide +kernel⟩

theorem witness_ResetCommandsComplete_11 : ∃ (s v w : State),
    (v = ((List.range 8).filter (fun c => (s.client c).transport == 0)).foldl (fun (t : State) c => t.clientLost c) s) ∧ (w = { v with pcie := { laneGated := v.pcie.laneGated }, evt := { v.evt with msixTab := [], msixPba := 0 } }) :=
  ⟨wState, _, _, rfl, rfl⟩

theorem witness_suppliesGood : ∃ (s : State),
    s.brim.power = pwWaking ∧ s.brim.prev ≠ pwListening ∧ s.brim.nvmLoaded = true :=
  ⟨(State.setPower { State.reset with brim := { State.reset.brim with nvmLoaded := true } } pwWaking), by decide +kernel⟩

theorem witness_suppliesGood_again : ∃ (s : State),
    s.brim.power = pwRunning ∧ s.brim.supplyBad = true :=
  ⟨(State.setPower { wState with brim := { wState.brim with supplyBad := true } } pwRunning), by decide +kernel⟩

theorem witness_ResetCommandsComplete_14 : ∃ (s : State),
    (s.brim.power = pwWaking → s.brim.prev = pwListening ∨ s.brim.nvmLoaded = false) ∧ (s.brim.power = pwRunning → s.brim.supplyBad = false) :=
  ⟨wState, by decide +kernel, by decide +kernel⟩

theorem witness_BootCommandsComplete_0 : ∃ (a b e : BitVec 5) (s : State),
    (s.crownUp = true ∧ s.getF DeckBootStatus.stage = 1 ∧ s.fw.straps = false) ∧ (a = b ∧ b = e) :=
  ⟨_, _, 1, (State.setPower State.reset pwRunning), by decide +kernel, ⟨rfl, rfl⟩⟩

theorem witness_BootCommandsComplete_1 : ∃ (a b e : BitVec 5) (s v : State),
    (s.crownUp = true ∧ s.getF DeckBootStatus.stage = 1 ∧ s.fw.straps = false) ∧ (a ≠ b ∨ b ≠ e) ∧ (v = { s with fw := { s.fw with strapTries := s.fw.strapTries + 1 } }) :=
  ⟨1, 1, 0, (State.setPower State.reset pwRunning), _, by decide +kernel, by decide +kernel, rfl⟩

theorem witness_BootCommandsComplete_2 : ∃ (a b e : BitVec 5) (s : State),
    (s.crownUp = false ∨ s.getF DeckBootStatus.stage ≠ 1 ∨ s.fw.straps = true) :=
  ⟨1, 1, 1, (State.setPower { State.reset with fw := { straps := true } } pwRunning), by decide +kernel⟩

theorem witness_crownClocksStable : ∃ (s : State),
    s.crownUp = true ∧ s.getF DeckBootStatus.stage = 1 ∧ s.fw.straps = true ∧ s.fabricOn = false :=
  ⟨(State.setPower { State.reset with fw := { straps := true } } pwRunning), by decide +kernel⟩

theorem witness_BootCommandsComplete_4 : ∃ (s : State),
    (s.crownUp = false ∨ s.getF DeckBootStatus.stage ≠ 1 ∨ s.fw.straps = false ∨ s.fabricOn = true) :=
  ⟨(State.setPower State.reset pwRunning), by decide +kernel⟩

theorem witness_bootBistDone : ∃ (n : Fin 4) (b : Bool) (s : State),
    (s.crownUp = true ∧ s.getF DeckBootStatus.stage = 2 ∧ s.fw.bist = false) ∧ (n.val ≤ 2 ∧ b = true) :=
  ⟨1, true, ((State.reset.setPower pwRunning).setF DeckBootStatus.stage 2), by decide +kernel⟩

theorem witness_bootBistDone_fails : ∃ (n : Fin 4) (b : Bool) (s : State),
    (s.crownUp = true ∧ s.getF DeckBootStatus.stage = 2 ∧ s.fw.bist = false) ∧ (2 < n.val ∨ b = false) :=
  ⟨3, true, ((State.reset.setPower pwRunning).setF DeckBootStatus.stage 2), by decide +kernel⟩

theorem witness_BootCommandsComplete_7 : ∃ (n : Fin 4) (b : Bool) (s : State),
    (s.crownUp = false ∨ s.getF DeckBootStatus.stage ≠ 2 ∨ s.fw.bist = true) :=
  ⟨1, true, (State.setPower State.reset pwRunning), by decide +kernel⟩

theorem witness_hatboxSelftestDone : ∃ (b : Bool) (s : State),
    s.crownUp = true ∧ s.getF DeckBootStatus.stage = 2 ∧ s.fw.bist = true :=
  ⟨true, (State.setF (State.setPower { State.reset with fw := { bist := true } } pwRunning) DeckBootStatus.stage 2), by decide +kernel⟩

theorem witness_BootCommandsComplete_9 : ∃ (b : Bool) (s : State),
    (s.crownUp = false ∨ s.getF DeckBootStatus.stage ≠ 2 ∨ s.fw.bist = false) :=
  ⟨true, (State.setPower State.reset pwRunning), by decide +kernel⟩

theorem witness_firstLightVerify : ∃ (b : Bool) (s : State),
    s.crownUp = true ∧ s.getF DeckBootStatus.stage = 3 :=
  ⟨true, ((State.reset.setPower pwRunning).setF DeckBootStatus.stage 3), by decide +kernel⟩

theorem witness_BootCommandsComplete_11 : ∃ (b : Bool) (s : State),
    (s.crownUp = false ∨ s.getF DeckBootStatus.stage ≠ 3) :=
  ⟨true, (State.setPower State.reset pwRunning), by decide +kernel⟩

theorem witness_firmwareImageVerify : ∃ (b : Bool) (s : State),
    s.crownUp = true ∧ s.getF DeckBootStatus.stage = 4 :=
  ⟨true, ((State.reset.setPower pwRunning).setF DeckBootStatus.stage 4), by decide +kernel⟩

theorem witness_BootCommandsComplete_13 : ∃ (b : Bool) (s : State),
    (s.crownUp = false ∨ s.getF DeckBootStatus.stage ≠ 4) :=
  ⟨true, (State.setPower State.reset pwRunning), by decide +kernel⟩

theorem witness_firmwareReady : ∃ (s : State),
    s.crownUp = true ∧ s.getF DeckBootStatus.stage = 5 :=
  ⟨((State.reset.setPower pwRunning).setF DeckBootStatus.stage 5), by decide +kernel⟩

theorem witness_BootCommandsComplete_15 : ∃ (s : State),
    (s.crownUp = false ∨ s.getF DeckBootStatus.stage ≠ 5) :=
  ⟨(State.setPower State.reset pwRunning), by decide +kernel⟩

theorem witness_causewayHandoverTimeout : ∃ (p : Fin 4) (s : State) (t : Nat),
    s.handoverDue p = some t :=
  ⟨0, wHandover, 9, by decide⟩

theorem witness_BootCommandsComplete_17 : ∃ (p : Fin 4) (s : State),
    (s.handoverDue p = none) :=
  ⟨1, (State.setPower State.reset pwRunning), by decide +kernel⟩

theorem witness_switchReady : ∃ (s : State) (m n a t : Nat) (v : State),
    (s.fw.switching = some (m, n, a, t)) ∧ (v = State.syncHbx { s with fw := { s.fw with loaded := some (s.bankImage a).length, verified := true }, hbx := { s.hbx with prodFw := s.rootProduction (imgKey s.fwHeader) } }) :=
  ⟨{ wState with fw := { wState.fw with switching := some (0, 1, 0, 5) } }, 0, 1, 0, 5, _, by decide, rfl⟩

theorem witness_switchReadyTimeout : ∃ (s : State) (m n a t : Nat) (v : State),
    (s.fw.switching = some (m, n, a, t)) ∧ (v = s.timeTo t) :=
  ⟨{ wState with fw := { wState.fw with switching := some (0, 1, 0, 5) } }, 0, 1, 0, 5, _, by decide, rfl⟩

theorem witness_BootCommandsComplete_20 : ∃ (s : State),
    (s.fw.switching = none) :=
  ⟨(State.setPower State.reset pwRunning), by decide +kernel⟩

theorem witness_BootCommandsComplete_21 : ∃ (g w : Fin 5) (s : State),
    (s.pcie.laneGated = false ∧ g.val ≠ 0 ∧ (w.val = 1 ∨ w.val = 2 ∨ w.val = 4)) :=
  ⟨4, 4, (State.setPower State.reset pwRunning), by decide +kernel⟩

theorem witness_BootCommandsComplete_22 : ∃ (g w : Fin 5) (s : State),
    (s.pcie.laneGated = true ∨ g.val = 0 ∨ w.val = 0 ∨ w.val = 3) :=
  ⟨4, 0, (State.setPower State.reset pwRunning), by decide +kernel⟩

theorem witness_BufferAndEgressCommandsComplete_0 : ∃ (q : Fin 2048) (s v : State),
    (s.flag (QStatus.draining q) = true ∧ s.queue q = []) ∧ (v = s.setF (QStatus.draining q) 0) :=
  ⟨5, (wState.setF (QStatus.draining 5) 1), _, by decide +kernel, rfl⟩

theorem witness_BufferAndEgressCommandsComplete_1 : ∃ (q : Fin 2048) (s : State),
    (s.flag (QStatus.draining q) = false ∨ s.queue q ≠ []) :=
  ⟨5, { wState with buf := { wState.buf with cells := [(3, { alloc := true })] } }, by decide +kernel⟩

theorem witness_queueDrainTimeout : ∃ (q : Fin 2048) (s : State) (t : Nat),
    tabFind s.buf.drainAt q = some t ∧ s.flag (QStatus.draining q) = true :=
  ⟨5, (State.setF { wState with buf := { wState.buf with drainAt := [(5, 9)] } } (QStatus.draining 5) 1), 9, by decide +kernel⟩

theorem witness_BufferAndEgressCommandsComplete_3 : ∃ (q : Fin 2048) (s : State),
    (tabFind s.buf.drainAt q = none ∨ s.flag (QStatus.draining q) = false) :=
  ⟨5, (wState.setF (QStatus.draining 5) 1), by decide +kernel⟩

theorem witness_auditVisit : ∃ (c : Fin 262144) (s : State) (v : Cell) (o : Desc),
    v = s.cell c ∧ o = s.desc v.owner ∧ v.alloc = true :=
  ⟨3, { wState with buf := { wState.buf with cells := [(3, { alloc := true })] } }, _, _, ⟨rfl, rfl, by decide +kernel⟩⟩

theorem witness_BufferAndEgressCommandsComplete_5 : ∃ (c : Fin 262144) (s : State),
    ((s.cell c).alloc = false) :=
  ⟨3, (wState.setF (QStatus.draining 5) 1), by decide +kernel⟩

theorem witness_BufferAndEgressCommandsComplete_6 : ∃ (b : BitVec 17) (s v : State) (n : Nat),
    (n = (65536 - s.liveDescs + b.toNat) % 2 ^ 17 ∧ v = s.auditNote n) ∧ (n + s.liveDescs = 65536 ∧ n = v.getF SwFreeDesc.count) :=
  ⟨0, (wState.setF (QStatus.draining 5) 1), _, _, ⟨rfl, rfl⟩, by decide +kernel⟩

theorem witness_BufferAndEgressCommandsComplete_7 : ∃ (b : BitVec 17) (s v : State) (n : Nat),
    (n = (65536 - s.liveDescs + b.toNat) % 2 ^ 17 ∧ v = s.auditNote n) ∧ (n + s.liveDescs ≠ 65536 ∨ n ≠ v.getF SwFreeDesc.count) :=
  ⟨1, (wState.setF (QStatus.draining 5) 1), _, _, ⟨rfl, rfl⟩, by decide +kernel⟩

theorem witness_BufferAndEgressCommandsComplete_8 : ∃ (q : Fin 2048) (s v : State),
    (v = s.setF (QPeak.peak q) 0) :=
  ⟨5, (wState.setF (QStatus.draining 5) 1), _, rfl⟩

theorem witness_BufferAndEgressCommandsComplete_9 : ∃ (p : Fin 22) (t : Bool) (s v : State),
    (v = (if t && ((s.wireFree p).creditSync p).plcaRuns p && ((s.wireFree p).creditSync p).flag (PortStatus.linkUp p) then ((s.wireFree p).creditSync p).plcaTurn p else (s.wireFree p).creditSync p)) ∧ (v.flag (PortStatus.linkUp p) = true ∧ (∀ d, (v.port p).disabling = some d → d.mode = 1) ∧ (v.port p).backoffAt = none ∧ v.plcaMay p = true) :=
  ⟨1, false, wState.setF (PortStatus.linkUp 1) 1, _, rfl, ⟨by decide +kernel, (by intro _ h; have h' : none = some _ := h; cases h'), by decide +kernel, by decide +kernel⟩⟩

theorem witness_BufferAndEgressCommandsComplete_10 : ∃ (p : Fin 22) (t : Bool) (s v : State),
    (v = (if t && ((s.wireFree p).creditSync p).plcaRuns p && ((s.wireFree p).creditSync p).flag (PortStatus.linkUp p) then ((s.wireFree p).creditSync p).plcaTurn p else (s.wireFree p).creditSync p)) :=
  ⟨1, false, wState, _, rfl⟩

theorem witness_egressSelect_down : ∃ (p : Fin 22) (t : Bool) (s v : State),
    v = (if t && ((s.wireFree p).creditSync p).plcaRuns p && ((s.wireFree p).creditSync p).flag (PortStatus.linkUp p) then ((s.wireFree p).creditSync p).plcaTurn p else (s.wireFree p).creditSync p) ∧ v.flag (PortStatus.linkUp p) = false :=
  ⟨1, false, wState, _, rfl, by decide +kernel⟩

theorem witness_egressSelect_disabling : ∃ (p : Fin 22) (t : Bool) (s v : State) (d : Disabling),
    v = (if t && ((s.wireFree p).creditSync p).plcaRuns p && ((s.wireFree p).creditSync p).flag (PortStatus.linkUp p) then ((s.wireFree p).creditSync p).plcaTurn p else (s.wireFree p).creditSync p) ∧ v.flag (PortStatus.linkUp p) = true ∧ (v.port p).disabling = some d ∧ d.mode ≠ 1 :=
  ⟨1, false, (wState.setPort 1 { disabling := some { mode := 0, ticket := 5, deadline := 9 } }).setF (PortStatus.linkUp 1) 1, _, _, rfl, by decide +kernel, rfl, by decide⟩

theorem witness_egressSelect_waits : ∃ (p : Fin 22) (t : Bool) (s v : State),
    v = (if t && ((s.wireFree p).creditSync p).plcaRuns p && ((s.wireFree p).creditSync p).flag (PortStatus.linkUp p) then ((s.wireFree p).creditSync p).plcaTurn p else (s.wireFree p).creditSync p) ∧ (∀ d, (v.port p).disabling = some d → d.mode = 1) ∧ (v.port p).backoffAt.isSome = true :=
  ⟨13, false, wState.setPort 13 { backoffAt := some 9 }, _, rfl, (by intro _ h; have h' : none = some _ := h; cases h'), by decide +kernel⟩

theorem witness_BufferAndEgressCommandsComplete_11 : ∃ (u : Fin 7) (s v : State) (p : Nat) (e : EgressRead),
    (s.readWait.oldestRead = some (p, e)) ∧ (s.readWait.readMeets e.desc e.taken u = (true, v)) :=
  ⟨1, wRead, _, _, _, rfl, rfl⟩

theorem witness_BufferAndEgressCommandsComplete_12 : ∃ (u : Fin 7) (s v : State) (p : Nat) (e : EgressRead),
    (s.readWait.oldestRead = some (p, e)) ∧ (s.readWait.readMeets e.desc e.taken u = (false, v)) :=
  ⟨2, wRead, _, _, _, rfl, rfl⟩

theorem witness_BufferAndEgressCommandsComplete_13 : ∃ (u : Fin 7) (s : State),
    (s.readWait.oldestRead = none) :=
  ⟨1, (wState.setF (QStatus.draining 5) 1), by decide +kernel⟩

theorem witness_BufferAndEgressCommandsComplete_14 : ∃ (p : Fin 22) (s : State) (e : EgressRead),
    (tabFind s.buf.egress p = some e ∧ (e.cellsLeft = 0 ∨ e.trunc = true)) ∧ ((s.port p).backoffAt = none ∧ (s.port p).deferred = false) :=
  ⟨0, { wRead with buf := { wRead.buf with egress := [(0, { wEgr with cellsLeft := 0 })] } }, _, ⟨rfl, by decide +kernel⟩, by decide +kernel⟩

theorem witness_BufferAndEgressCommandsComplete_15 : ∃ (p : Fin 22) (s : State),
    ((∀ e, tabFind s.buf.egress p = some e → e.cellsLeft ≠ 0 ∧ e.trunc = false) ∨ (s.port p).backoffAt.isSome = true ∨ (s.port p).deferred = true) :=
  ⟨1, wState, by decide +kernel⟩

theorem witness_histogramSample : ∃ (q : Fin 2048) (s : State) (t : Nat),
    tabFind s.egr.histAt q = some t :=
  ⟨5, { wState with egr := { wState.egr with histAt := [(5, 9)] } }, 9, by decide⟩

theorem witness_BufferAndEgressCommandsComplete_17 : ∃ (q : Fin 2048) (s : State),
    (tabFind s.egr.histAt q = none) :=
  ⟨5, (wState.setF (QStatus.draining 5) 1), by decide +kernel⟩

theorem witness_BufferAndEgressCommandsComplete_18 : ∃ (p : Fin 20) (l : List Byte) (a b e : Bool) (k : Byte) (s v : State) (n : Nat),
    (v = s.rxLpi p k.toNat ∧ v.flag (PortStatus.linkUp p) = true ∧ n = s.par (oChan p) 0x0103) :=
  ⟨1, [], false, false, false, 0, (wState.setF (PortStatus.linkUp 1) 1), _, _, ⟨rfl, by decide +kernel, rfl⟩⟩

theorem witness_BufferAndEgressCommandsComplete_19 : ∃ (p : Fin 20) (l : List Byte) (a b e : Bool) (k : Byte) (s v : State),
    (v = s.rxLpi p k.toNat ∧ v.flag (PortStatus.linkUp p) = false) :=
  ⟨1, [], false, false, false, 0, (wState.setF (QStatus.draining 5) 1), _, ⟨rfl, by decide +kernel⟩⟩

theorem witness_GateBundleAuthCommitCommandsComplete_0 : ∃ (p : Fin 22) (s : State) (g : GateSt) (l : GateList) (a b i t : Nat),
    (g = s.gate p ∧ g.oper = some l) ∧ (l.entries[g.entry]? = some (a, b, i) ∧ (l.entries[g.entry + 1]?).isSome = true) ∧ (t = g.entryStart + i) ∧ (t < g.cycleStart + l.cycle ∧ (∀ k c, g.pend = some (k, c) → t < c)) :=
  ⟨1, wState.setGate 1 { oper := some ⟨0, 100, 0, [(0, 1, 5), (0, 2, 5)], 0⟩ }, _, _, _, _, _, _, ⟨rfl, rfl⟩, ⟨rfl, by decide +kernel⟩, rfl, ⟨by decide +kernel, (by intro _ _ h; have h' : none = some _ := h; cases h')⟩⟩

theorem witness_GateBundleAuthCommitCommandsComplete_1 : ∃ (p : Fin 22) (s : State) (g : GateSt) (l : GateList) (a b i t : Nat),
    (g = s.gate p ∧ g.oper = some l) ∧ (l.entries[g.entry]? = some (a, b, i) ∧ t = g.entryStart + i) ∧ (g.cycleStart + l.cycle ≤ t ∨ (∃ k c, g.pend = some (k, c) ∧ c ≤ t)) :=
  ⟨1, wState.setGate 1 { oper := some ⟨0, 5, 0, [(0, 1, 5)], 0⟩ }, _, _, _, _, _, _, ⟨rfl, rfl⟩, ⟨rfl, rfl⟩, Or.inl (by decide +kernel)⟩

theorem witness_GateBundleAuthCommitCommandsComplete_2 : ∃ (p : Fin 22) (s : State) (g : GateSt),
    (g = s.gate p) ∧ (∀ l, g.oper = some l → l.entries[g.entry]? = none ∨ l.entries[g.entry + 1]? = none) :=
  ⟨1, wState, _, rfl, by decide +kernel⟩

theorem witness_GateBundleAuthCommitCommandsComplete_3 : ∃ (p : Fin 22) (s : State) (g : GateSt) (l : GateList) (t : Nat) (v : State),
    (g = s.gate p ∧ g.oper = some l ∧ t = g.cycleStart + l.cycle) ∧ (∀ k c, g.pend = some (k, c) → t < c ∧ t + l.ext ≤ c) ∧ (v = s.clockTo 2 t) :=
  ⟨1, wState.setGate 1 { oper := some ⟨0, 100, 0, [(0, 1, 5), (0, 2, 5)], 0⟩ }, _, _, _, _, ⟨rfl, rfl, rfl⟩, (by intro _ _ h; have h' : none = some _ := h; cases h'), rfl⟩

theorem witness_GateBundleAuthCommitCommandsComplete_4 : ∃ (p : Fin 22) (s : State) (g : GateSt) (l k : GateList) (c t : Nat),
    (g = s.gate p ∧ g.oper = some l ∧ t = g.cycleStart + l.cycle) ∧ (g.pend = some (k, c) ∧ (c ≤ t ∨ c < t + l.ext)) :=
  ⟨1, wState.setGate 1 { oper := some ⟨0, 100, 0, [(0, 1, 5), (0, 2, 5)], 0⟩, pend := some (⟨0, 100, 0, [(0, 1, 5)], 0⟩, 9) }, _, _, _, _, _, ⟨rfl, rfl, rfl⟩, ⟨rfl, by decide +kernel⟩⟩

theorem witness_GateBundleAuthCommitCommandsComplete_5 : ∃ (p : Fin 22) (s : State),
    ((s.gate p).oper = none) :=
  ⟨1, { wState with egr := { wState.egr with gates := [(1, { pend := some (⟨0, 1000, 0, [(1, 0, 10)], 0⟩, 5) })] } }, by decide +kernel⟩

theorem witness_gateChangeTime : ∃ (p : Fin 22) (s : State) (l : GateList) (t : Nat) (v : State),
    (s.gate p).pend = some (l, t) ∧ v = s.clockTo 2 t :=
  ⟨1, { wState with egr := { wState.egr with gates := [(1, { pend := some (⟨0, 1000, 0, [(1, 0, 10)], 0⟩, 5) })] } }, _, _, _, ⟨rfl, rfl⟩⟩

theorem witness_GateBundleAuthCommitCommandsComplete_7 : ∃ (p : Fin 22) (s : State),
    ((s.gate p).pend = none) :=
  ⟨1, { wState with egr := { wState.egr with gates := [(1, { oper := some ⟨0, 1000, 0, [(1, 0, 10), (2, 0, 10)], 0⟩ })] } }, by decide +kernel⟩

theorem witness_GateBundleAuthCommitCommandsComplete_8 : ∃ (u : Fin 7) (s : State) (b : Nat),
    (s.getF SgeStatus.modeActive ≠ 2 ∧ s.bundleTurn = some b) :=
  ⟨1, { wState with cfg := [(pkey (oQueue 800) 0x0101, 25), (pkey (oQueue 800) pidEntry, 2 ^ 256 - 1)], buf := { wState.buf with queues := [(800, [0])] } }, _, ⟨by decide +kernel, rfl⟩⟩

theorem witness_GateBundleAuthCommitCommandsComplete_9 : ∃ (u : Fin 7) (s : State),
    (s.getF SgeStatus.modeActive = 2 ∨ s.bundleTurn = none) :=
  ⟨1, { wState with egr := { wState.egr with gates := [(1, { oper := some ⟨0, 1000, 0, [(1, 0, 10), (2, 0, 10)], 0⟩ })] } }, by decide +kernel⟩

theorem witness_unbundleFrame : ∃ (u : Upset) (s : State) (d : Nat) (l : List Nat) (v : State),
    (s.sge.unbundle = d :: l) ∧ (v = { s with sge := { s.sge with unbundle := l } }) :=
  ⟨⟨0, false, false, none, false⟩, { wState with sge := { wState.sge with unbundle := [4] } }, 4, [], _, rfl, rfl⟩

theorem witness_GateBundleAuthCommitCommandsComplete_12 : ∃ (u : Upset) (s : State),
    (s.sge.unbundle = []) :=
  ⟨⟨0, false, false, none, false⟩, { wState with egr := { wState.egr with gates := [(1, { oper := some ⟨0, 1000, 0, [(1, 0, 10), (2, 0, 10)], 0⟩ })] } }, by decide +kernel⟩

theorem witness_GateBundleAuthCommitCommandsComplete_13 : ∃ (s v : State),
    (s.sge.ending.isSome = true ∧ s.sge.ready = [] ∧ s.sge.running = []) ∧ (v = { s with sge := { unbundle := s.sge.unbundle, orders := s.sge.orders } }) :=
  ⟨{ wState with sge := { wState.sge with ending := some 5 } }, _, by decide +kernel, rfl⟩

theorem witness_GateBundleAuthCommitCommandsComplete_14 : ∃ (s : State),
    (s.sge.ending = none ∨ s.sge.ready ≠ [] ∨ s.sge.running ≠ []) :=
  ⟨{ wState with egr := { wState.egr with gates := [(1, { oper := some ⟨0, 1000, 0, [(1, 0, 10), (2, 0, 10)], 0⟩ })] } }, by decide +kernel⟩

theorem witness_canAuthVerifyJob : ∃ (b : Bool) (s : State) (j : AuthJob),
    s.authNext false = some j :=
  ⟨false, wAuth false, _, rfl⟩

theorem witness_canAuthGenerateJob : ∃ (b : Bool) (s : State) (j : AuthJob),
    s.authNext true = some j :=
  ⟨false, wAuth true, _, rfl⟩

theorem witness_GateBundleAuthCommitCommandsComplete_18 : ∃ (s : State) (p : PendCommit) (l : List PendCommit) (v : State) (d : Draft) (w : State),
    (s.gci.commits = p :: l ∧ s.oldCfg = none ∧ s.dumping = false) ∧ (v = s.popCommit ∧ v.draft p.client p.handle = some d ∧ v.commitCheck d p.baseEpoch p.flags = none) ∧ (w = ((v.dropDraft d.handle).switchEpoch (finalChanges d.changes) (nextEpoch v.gci.epoch)).quarCommit d.client p.flags) :=
  ⟨{ wState with gci := { wState.gci with commits := [⟨7, 0, 5, 0, 0, 0⟩] } }, _, _, _, _, _, ⟨rfl, by decide +kernel, by decide +kernel⟩, ⟨rfl, rfl, by decide +kernel⟩, rfl⟩

theorem witness_GateBundleAuthCommitCommandsComplete_19 : ∃ (s : State) (p : PendCommit) (l : List PendCommit) (v : State) (d : Draft) (st : Nat) (pay : List Byte),
    (s.gci.commits = p :: l ∧ s.oldCfg = none ∧ s.dumping = false) ∧ (v = s.popCommit ∧ v.draft p.client p.handle = some d ∧ v.commitCheck d p.baseEpoch p.flags = some (st, pay)) :=
  ⟨{ wState with gci := { wState.gci with commits := [⟨7, 0, 5, 2, 3, 0⟩] } }, _, _, _, _, _, _, ⟨rfl, by decide +kernel, by decide +kernel⟩, ⟨rfl, rfl, rfl⟩⟩

theorem witness_epochSwitch_gone : ∃ (s : State) (p : PendCommit) (l : List PendCommit) (v : State),
    (s.gci.commits = p :: l ∧ s.oldCfg = none ∧ s.dumping = false) ∧ (v = s.popCommit ∧ v.draft p.client p.handle = none) :=
  ⟨{ wState with gci := { wState.gci with commits := [⟨8, 0, 5, 0, 0, 0⟩] } }, ⟨8, 0, 5, 0, 0, 0⟩, [], _, by decide, ⟨rfl, by decide⟩⟩

theorem witness_GateBundleAuthCommitCommandsComplete_21 : ∃ (s : State),
    (s.gci.commits = [] ∨ s.oldCfg.isSome = true ∨ s.dumping = true) :=
  ⟨{ wState with egr := { wState.egr with gates := [(1, { oper := some ⟨0, 1000, 0, [(1, 0, 10), (2, 0, 10)], 0⟩ })] } }, by decide +kernel⟩

theorem witness_GateBundleAuthCommitCommandsComplete_22 : ∃ (s v : State),
    (s.oldCfg.isSome = true) ∧ (v = s.timeTo (strandPlus s.gci.switchAt (usC 40))) :=
  ⟨{ wState with oldCfg := some [] }, _, by decide +kernel, rfl⟩

theorem witness_GateBundleAuthCommitCommandsComplete_23 : ∃ (s : State),
    (s.oldCfg = none) :=
  ⟨{ wState with egr := { wState.egr with gates := [(1, { oper := some ⟨0, 1000, 0, [(1, 0, 10), (2, 0, 10)], 0⟩ })] } }, by decide +kernel⟩

theorem witness_CanLaneCommandsComplete_0 : ∃ (n : Fin 64) (f : CanFrame) (a : BitVec 32) (u : Upset) (s : State),
    (s.canListens n = true ∧ canFrameOk f = true) :=
  ⟨20, ⟨5, false, false, 0, false, false, 0, [], 0, 0, false, 0⟩, 0, ⟨0, false, false, none, false⟩, wCan, by decide +kernel⟩

theorem witness_CanLaneCommandsComplete_1 : ∃ (n : Fin 64) (f : CanFrame) (a : BitVec 32) (u : Upset) (s : State),
    (s.canListens n = false ∨ canFrameOk f = false) :=
  ⟨20, ⟨5, false, false, 0, false, false, 0, [], 0, 0, false, 0⟩, 0, ⟨0, false, false, none, false⟩, (wState.setCan 1 { inFlight := some .fifo }), by decide +kernel⟩

theorem witness_CanLaneCommandsComplete_4 : ∃ (n : Fin 64) (k : Fin 8) (a b : Bool) (s : State),
    ((s.canLane n).inFlight.isSome = true) :=
  ⟨20, 0, false, false, wDrain, by decide +kernel⟩

theorem witness_CanLaneCommandsComplete_5 : ∃ (n : Fin 64) (k : Fin 8) (a b : Bool) (s : State),
    ((s.canLane n).inFlight = none) :=
  ⟨20, 0, false, false, wCan, by decide +kernel⟩

theorem witness_recoverDelayExpiry : ∃ (n : Fin 64) (s : State) (t : Nat),
    (s.canLane n).recoverAt = some t :=
  ⟨1, (wState.setCan 1 { recoverAt := some 9 }), 9, by decide⟩

theorem witness_CanLaneCommandsComplete_7 : ∃ (n : Fin 64) (s : State),
    ((s.canLane n).recoverAt = none) :=
  ⟨20, wCan, by decide +kernel⟩

theorem witness_atTimeRelease : ∃ (n : Fin 64) (s : State) (a : AtFrame) (v : State),
    (s.canLane n).at_ = some a ∧ v = s.timeTo a.at_ :=
  ⟨1, (wState.setCan 1 { at_ := some { bytes := [], at_ := 9, comp := none } }), _, _, ⟨rfl, rfl⟩⟩

theorem witness_atTimeLate : ∃ (n : Fin 64) (s : State) (a : AtFrame),
    (s.canLane n).at_ = some a ∧ (s.canLane n).inFlight ≠ some .atTime :=
  ⟨1, (wState.setCan 1 { at_ := some { bytes := [], at_ := 9, comp := none } }), _, ⟨rfl, by decide⟩⟩

theorem witness_CanLaneCommandsComplete_11 : ∃ (n : Fin 64) (s : State) (a : AtFrame),
    ((s.canLane n).at_ = some a ∧ (s.canLane n).inFlight = some .atTime) :=
  ⟨1, wState.setCan 1 { at_ := some { bytes := [], at_ := 9, comp := none }, inFlight := some .atTime }, _, ⟨rfl, by decide +kernel⟩⟩

theorem witness_CanLaneCommandsComplete_12 : ∃ (n : Fin 64) (s : State),
    ((s.canLane n).at_ = none) :=
  ⟨20, wCan, by decide +kernel⟩

theorem witness_xcvrModeApply : ∃ (n : Fin 16) (s : State) (m : Nat),
    (s.canLane n).xcvrPend = some m ∧ (s.canLane n).inFlight = none :=
  ⟨1, (wState.setCan 1 { xcvrPend := some 2 }), 2, by decide⟩

theorem witness_CanLaneCommandsComplete_14 : ∃ (n : Fin 16) (s : State),
    ((s.canLane n).xcvrPend = none ∨ (s.canLane n).inFlight.isSome = true) :=
  ⟨1, wCan, by decide +kernel⟩

theorem witness_xcvrModeReached : ∃ (n : Fin 16) (s : State) (m : Nat),
    (s.canLane n).xcvrGoing = some m :=
  ⟨1, (wState.setCan 1 { xcvrGoing := some 2 }), 2, by decide⟩

theorem witness_CanLaneCommandsComplete_16 : ∃ (n : Fin 16) (s : State),
    ((s.canLane n).xcvrGoing = none) :=
  ⟨1, wCan, by decide +kernel⟩

theorem witness_canIntegration : ∃ (n : Fin 64) (s : State),
    s.flag (CanStatus.enabled n) = true ∧ s.flag (CanStatus.laneGated n) = false ∧ (16 ≤ n.val ∨ s.getF (CanStatus.xcvrMode n) ≤ 1) :=
  ⟨20, wCan, by decide +kernel⟩

theorem witness_CanLaneCommandsComplete_19 : ∃ (n : Fin 64) (s : State),
    (s.flag (CanStatus.enabled n) = false ∨ s.flag (CanStatus.laneGated n) = true ∨ (n.val < 16 ∧ 1 < s.getF (CanStatus.xcvrMode n))) :=
  ⟨20, (wState.setCan 1 { inFlight := some .fifo }), by decide +kernel⟩

theorem witness_CanLaneCommandsComplete_20 : ∃ (n : Fin 64) (k : Fin 7) (a b : Bool) (s : State),
    (s.canListens n = true ∧ k.val ≠ 0 ∧ k.val ≠ 3) :=
  ⟨20, 2, false, false, wCan, by decide +kernel⟩

theorem witness_CanLaneCommandsComplete_21 : ∃ (n : Fin 64) (k : Fin 7) (a b : Bool) (s : State),
    (s.canListens n = false ∨ k.val = 0 ∨ k.val = 3) :=
  ⟨20, 2, false, false, (wState.setCan 1 { inFlight := some .fifo }), by decide +kernel⟩

theorem witness_CanQueueCommandsComplete_1 : ∃ (n : Fin 64) (w : Word) (s : State) (a : Nat),
    (s.lacksCan n = false) ∧ (a = bitsOf w.toNat 11 0 ∧ bitsOf a 10 0 < 2048 ∧ (ptrPos a 2048 + 2 * 2048 - ptrPos (s.word (RxqTail.off n)) 2048) % (2 * 2048) ≤ ringUsed (s.word (RxqHead.off n)) (s.word (RxqTail.off n)) 2048) :=
  ⟨1, 0, wState, _, by decide +kernel, ⟨rfl, by decide +kernel, by decide +kernel⟩⟩

theorem witness_CanQueueCommandsComplete_2 : ∃ (n : Fin 64) (w : Word) (s : State) (a : Nat),
    (s.lacksCan n = false) ∧ (a = bitsOf w.toNat 11 0 ∧ (2048 ≤ bitsOf a 10 0 ∨ ringUsed (s.word (RxqHead.off n)) (s.word (RxqTail.off n)) 2048 < (ptrPos a 2048 + 2 * 2048 - ptrPos (s.word (RxqTail.off n)) 2048) % (2 * 2048))) :=
  ⟨1, 2047, wState, _, by decide +kernel, ⟨rfl, by decide +kernel⟩⟩

theorem witness_CanQueueCommandsComplete_3 : ∃ (n : Fin 64) (w : Word) (s : State) (a : Nat) (v : State),
    (s.lacksCan n = false) ∧ (a = bitsOf w.toNat 11 0 ∧ bitsOf a 10 0 < 1536 ∧ ringUsed a (s.word (TxqTail.off n)) 1536 ≤ 1536) ∧ (v = s.setWord (TxqHead.off n) a) :=
  ⟨1, 0, wState, _, _, by decide +kernel, ⟨rfl, by decide +kernel, by decide +kernel⟩, rfl⟩

theorem witness_CanQueueCommandsComplete_4 : ∃ (n : Fin 64) (w : Word) (s : State) (a : Nat),
    (s.lacksCan n = false) ∧ (a = bitsOf w.toNat 11 0 ∧ (1536 ≤ bitsOf a 10 0 ∨ 1536 < ringUsed a (s.word (TxqTail.off n)) 1536)) :=
  ⟨1, 2047, wState, _, by decide +kernel, ⟨rfl, by decide +kernel⟩⟩

theorem witness_CanQueueCommandsComplete_5 : ∃ (n : Fin 64) (w : Word) (s : State) (a : Nat),
    (s.lacksCan n = false) ∧ (a = bitsOf w.toNat 11 0 ∧ bitsOf a 10 0 < 512 ∧ (ptrPos a 512 + 2 * 512 - ptrPos (s.word (TxcTail.off n)) 512) % (2 * 512) ≤ ringUsed (s.word (TxcHead.off n)) (s.word (TxcTail.off n)) 512) :=
  ⟨1, 0, wState, _, by decide +kernel, ⟨rfl, by decide +kernel, by decide +kernel⟩⟩

theorem witness_CanQueueCommandsComplete_6 : ∃ (n : Fin 64) (w : Word) (s : State) (a : Nat),
    (s.lacksCan n = false) ∧ (a = bitsOf w.toNat 11 0 ∧ (512 ≤ bitsOf a 10 0 ∨ ringUsed (s.word (TxcHead.off n)) (s.word (TxcTail.off n)) 512 < (ptrPos a 512 + 2 * 512 - ptrPos (s.word (TxcTail.off n)) 512) % (2 * 512))) :=
  ⟨1, 2047, wState, _, by decide +kernel, ⟨rfl, by decide +kernel⟩⟩

theorem witness_CanQueueCommandsComplete_7 : ∃ (n : Fin 64) (w : Word) (s : State),
    (s.lacksCan n = true) :=
  ⟨40, 0, { wState with absentVariant := true }, by decide +kernel⟩

theorem witness_canDrainDone : ∃ (n : Fin 64) (s : State),
    s.flag (CanStatus.draining n) = true ∧ s.canIdle n = true :=
  ⟨1, (wState.setF (CanStatus.draining 1) 1), by decide +kernel⟩

theorem witness_CanQueueCommandsComplete_9 : ∃ (n : Fin 64) (s : State),
    (s.flag (CanStatus.draining n) = false ∨ s.canIdle n = false) :=
  ⟨1, wState, by decide +kernel⟩

theorem witness_canDrainTimeout : ∃ (n : Fin 64) (s : State) (d : Disabling),
    (s.canLane n).disabling = some d ∧ d.mode = 1 :=
  ⟨1, (wState.setCan 1 { disabling := some ⟨1, 5, 9⟩ }), ⟨1, 5, 9⟩, by decide⟩

theorem witness_CanQueueCommandsComplete_11 : ∃ (n : Fin 64) (s : State),
    (∀ d, (s.canLane n).disabling = some d → d.mode ≠ 1) :=
  ⟨1, wState, (by intro _ h; have h' : none = some _ := h; cases h')⟩

theorem witness_LinLaneCommandsComplete_0 : ∃ (n : Fin 16) (i : BitVec 6) (e : Fin 4) (a : BitVec 32) (u : Fin 7) (s v w : State),
    (s.linRuns n = true ∧ s.getF (LinStatus.roleActive n) = 2) ∧ (v = s.linActivity n ∧ w = v.setLin n { v.linLane n with brk := strandMinus v.strand a.toNat }) :=
  ⟨1, 5, 0, 0, 1, wLin, _, _, by decide +kernel, ⟨rfl, rfl⟩⟩

theorem witness_LinLaneCommandsComplete_1 : ∃ (n : Fin 16) (i : BitVec 6) (e : Fin 4) (a : BitVec 32) (u : Fin 7) (s : State),
    (s.linRuns n = false ∨ s.getF (LinStatus.roleActive n) ≠ 2) :=
  ⟨1, 5, 0, 0, 1, wState, by decide +kernel⟩

theorem witness_linResponseReceive : ∃ (n : Fin 16) (l : List Byte) (k : Fin 4) (u : Upset) (s : State),
    s.linRuns n = true :=
  ⟨1, [], 3, ⟨0, false, false, none, false⟩, wLin, by decide +kernel⟩

theorem witness_LinLaneCommandsComplete_3 : ∃ (n : Fin 16) (l : List Byte) (k : Fin 4) (u : Upset) (s : State),
    (s.linRuns n = false) :=
  ⟨1, [], 0, ⟨0, false, false, none, false⟩, wState, by decide +kernel⟩

theorem witness_LinLaneCommandsComplete_5 : ∃ (n : Nat) (s : State) (l : List Byte) (u : Upset),
    ((s.linLane n).slot = .subscribe ∨ (s.linLane n).slot = .event) :=
  ⟨1, (wLin.setLin 1 { slot := .subscribe }), [], ⟨0, false, false, none, false⟩, by decide +kernel⟩

theorem witness_LinLaneCommandsComplete_6 : ∃ (n : Nat) (s : State) (l : List Byte) (u : Upset),
    (s.linLane n).slot = .subscribe :=
  ⟨1, (wLin.setLin 1 { slot := .subscribe }), [], ⟨0, false, false, none, false⟩, by decide +kernel⟩

theorem witness_LinLaneCommandsComplete_7 : ∃ (n : Nat) (s : State) (l : List Byte) (k : Nat) (u : Upset) (v : State),
    ((s.linLane n).slot = .event ∧ (k = 1 ∨ k = 2)) ∧ (v = ((s.incLin n 8).linEvent n 3).linActivity n) :=
  ⟨1, wLin.setLin 1 { slot := .event }, [], 1, ⟨0, false, false, none, false⟩, _, by decide +kernel, rfl⟩

theorem witness_LinLaneCommandsComplete_8 : ∃ (n : Nat) (s : State) (l : List Byte) (k : Nat) (u : Upset),
    ((s.linLane n).slot ≠ .subscribe ∧ (s.linLane n).slot ≠ .event ∧ k ≠ 3) :=
  ⟨1, wLin, [], 1, ⟨0, false, false, none, false⟩, by decide +kernel⟩

theorem witness_LinLaneCommandsComplete_9 : ∃ (n : Fin 16) (s v : State),
    ((s.linLane n).slot = .subscribe) ∧ (v = s.timeTo (s.linLane n).respEnd) :=
  ⟨1, (wLin.setLin 1 { slot := .subscribe }), _, by decide +kernel, rfl⟩

theorem witness_LinLaneCommandsComplete_10 : ∃ (n : Fin 16) (s : State),
    ((s.linLane n).slot ≠ .subscribe) :=
  ⟨1, wLin, by decide +kernel⟩

theorem witness_LinLaneCommandsComplete_11 : ∃ (n : Fin 16) (s v : State),
    (s.linRuns n = true ∧ s.getF (LinStatus.roleActive n) = 2 ∧ s.flag (LinStatus.busIdle n) = false) ∧ (v = State.linEvent ((s.timeTo (strandPlus (s.linLane n).activity (secC 4))).setF (LinStatus.busIdle n) 1) n 6) :=
  ⟨1, wLin, _, by decide +kernel, rfl⟩

theorem witness_LinLaneCommandsComplete_12 : ∃ (n : Fin 16) (s : State),
    (s.linRuns n = false ∨ s.getF (LinStatus.roleActive n) ≠ 2 ∨ s.flag (LinStatus.busIdle n) = true) :=
  ⟨1, wState, by decide +kernel⟩

theorem witness_linScheduleRestart : ∃ (n : Fin 16) (s : State) (a t : Nat),
    (s.linLane n).restartAt = some a ∧ (s.linLane n).lastTable = some t :=
  ⟨1, (wLin.setLin 1 { restartAt := some 9, lastTable := some 2 }), 9, 2, by decide⟩

theorem witness_LinLaneCommandsComplete_16 : ∃ (n : Fin 16) (s : State),
    ((s.linLane n).restartAt = none ∨ (s.linLane n).lastTable = none) :=
  ⟨1, wLin, by decide +kernel⟩

theorem witness_LinLaneCommandsComplete_17 : ∃ (n : Fin 8) (s v : State),
    (v = s.incLin n 7) :=
  ⟨1, wLin, _, rfl⟩

theorem witness_LinLaneCommandsComplete_18 : ∃ (n : Fin 16) (s : State) (t : Nat) (v : State) (b : Bool),
    ((s.linLane n).pulseEnd = some t ∧ v = s.timeTo t) ∧ (b = (v.getF (LinStatus.roleActive n) == 1 && (v.linLane n).lastTable.isSome && !v.flag (LinStatus.running n) && (v.linLane n).wakeRestart)) :=
  ⟨1, (wLin.setLin 1 { pulseEnd := some 9 }), _, _, _, ⟨rfl, rfl⟩, rfl⟩

theorem witness_LinLaneCommandsComplete_19 : ∃ (n : Fin 16) (s : State),
    ((s.linLane n).pulseEnd = none) :=
  ⟨1, wLin, by decide +kernel⟩

theorem witness_linDrainTimeout : ∃ (n : Fin 16) (s : State) (d : Disabling),
    (s.linLane n).disabling = some d ∧ d.mode = 1 :=
  ⟨1, (wLin.setLin 1 { disabling := some ⟨1, 5, 9⟩ }), ⟨1, 5, 9⟩, by decide⟩

theorem witness_LinLaneCommandsComplete_21 : ∃ (n : Fin 16) (s : State),
    (∀ d, (s.linLane n).disabling = some d → d.mode ≠ 1) :=
  ⟨1, wState, (by intro _ h; have h' : none = some _ := h; cases h')⟩

theorem witness_configImageApply : ∃ (b : Bool) (s : State),
    s.crownUp = true ∧ s.getF DeckBootStatus.stage = 7 :=
  ⟨true, wUp.setF DeckBootStatus.stage 7, by decide +kernel⟩

theorem witness_ServiceCommandsComplete_1 : ∃ (b : Bool) (s : State),
    (s.crownUp = false ∨ s.getF DeckBootStatus.stage ≠ 7) :=
  ⟨false, wState, by decide +kernel⟩

theorem witness_ticketComplete : ∃ (a : Fin 8) (w : Word) (x : Ext) (s : State) (t : Ticket),
    s.ticket a w.toNat = some t ∧ t.result = none :=
  ⟨0, 5, ⟨0, []⟩, wTicket, wTick 5, by decide +kernel⟩

theorem witness_ServiceCommandsComplete_3 : ∃ (a : Fin 8) (w : Word) (x : Ext) (s : State),
    (∀ t, s.ticket a w.toNat = some t → t.result.isSome = true) :=
  ⟨0, 9, ⟨0, []⟩, wState, (by intro _ h; have h' : none = some _ := h; cases h')⟩

theorem witness_ServiceCommandsComplete_4 : ∃ (s : State) (t : Ticket) (x : Ext),
    (t.cmd = 0x0111 ∧ s.lanesStill = true) :=
  ⟨wState, { wTick 5 with cmd := 0x0111 }, ⟨0, []⟩, by decide +kernel⟩

theorem witness_ServiceCommandsComplete_5 : ∃ (s : State) (t : Ticket) (x : Ext),
    (t.cmd = 0x0111 ∧ s.lanesStill = false) :=
  ⟨wCan, { wTick 5 with cmd := 0x0111 }, ⟨0, []⟩, by decide +kernel⟩

theorem witness_draftIdleExpiry : ∃ (w : Word) (s : State) (d : Draft),
    (s.gci.drafts.find? (fun d => d.handle == w.toNat) = some d) ∧ (s.gci.commits.any (fun p => p.handle == d.handle) = false) :=
  ⟨7, wState, ⟨7, 0, 0, 0, []⟩, by decide +kernel, by decide⟩

theorem witness_ServiceCommandsComplete_8 : ∃ (w : Word) (s : State) (d : Draft),
    (s.gci.drafts.find? (fun d => d.handle == w.toNat) = some d) ∧ (s.gci.commits.any (fun p => p.handle == d.handle) = true) :=
  ⟨7, { wState with gci := { wState.gci with commits := [⟨7, 0, 5, 2, 3, 0⟩] } }, _, rfl, by decide +kernel⟩

theorem witness_ServiceCommandsComplete_9 : ∃ (w : Word) (s : State),
    (s.gci.drafts.find? (fun d => d.handle == w.toNat) = none) :=
  ⟨0x5A5A0001#32, wState, by decide +kernel⟩

theorem witness_serviceSlice : ∃ (x : Ext) (s : State) (c n : Nat) (v : State),
    (s.fwServing = true ∧ s.nextServed = some (c, n)) ∧ (v = s.visit c) :=
  ⟨⟨0, []⟩, wState.setF (MbStatus.state 0) mbPosted, 0, 0, _, by decide +kernel, rfl⟩

theorem witness_ServiceCommandsComplete_11 : ∃ (x : Ext) (s : State),
    (s.fwServing = true ∧ s.nextServed = none) :=
  ⟨⟨0, []⟩, wState, by decide +kernel⟩

theorem witness_ServiceCommandsComplete_12 : ∃ (x : Ext) (s : State),
    (s.fwServing = false) :=
  ⟨⟨0, []⟩, State.reset, by decide +kernel⟩

theorem witness_ServiceCommandsComplete_13 : ∃ (b : BitVec 16) (q : Req) (s v : State),
    (s.mbClient q.mb = true ∧ s.getF (MbStatus.state q.mb) = mbIdle ∧ q.seq.toNat ≠ s.getF (MbSeq.lastPosted q.mb)) ∧ (v = (s.mbWriteReq b.toNat q).mbDoorbell q.mb (0x5A5A0000 + q.seq.toNat)) ∧ (v.fw.recovery = true ∧ v.crownUp = true) :=
  ⟨0x0110, (wReq 0 []), { wUp with fw := { wUp.fw with recovery := true } }, _, by decide +kernel, rfl, by decide +kernel⟩

theorem witness_ServiceCommandsComplete_14 : ∃ (b : BitVec 16) (q : Req) (s v : State),
    (s.mbClient q.mb = true) ∧ (v = (s.mbWriteReq b.toNat q).mbDoorbell q.mb (0x5A5A0000 + q.seq.toNat)) ∧ (s.getF (MbStatus.state q.mb) ≠ mbIdle ∨ q.seq.toNat = s.getF (MbSeq.lastPosted q.mb) ∨ v.fw.recovery = false ∨ v.crownUp = false) :=
  ⟨0x0110, (wReq 0 []), wState, _, by decide +kernel, rfl, by decide +kernel⟩

theorem witness_ServiceCommandsComplete_15 : ∃ (b : BitVec 16) (q : Req) (s : State),
    (s.mbClient q.mb = false) :=
  ⟨0, ⟨9, 1, 0, 0, 0, 0, 0, []⟩, wState, by decide +kernel⟩

theorem witness_hatpinReply : ∃ (b : Bool) (s : State) (a : HatpinAccess) (l : List HatpinAccess),
    s.hatpin.queue = a :: l :=
  ⟨true, wHatpin, _, _, rfl⟩

theorem witness_ServiceCommandsComplete_17 : ∃ (s : State),
    s.hatpin.queue ≠ [] ∧ s.hatpin.fails < 3 :=
  ⟨wHatpin, by decide⟩

theorem witness_hatpinReplyTimeout : ∃ (s : State),
    s.hatpin.queue ≠ [] :=
  ⟨wHatpin, by decide⟩

theorem witness_ServiceCommandsComplete_19 : ∃ (b : Bool) (s : State),
    (s.hatpin.queue = []) :=
  ⟨false, wState, by decide +kernel⟩

theorem witness_deckResetAckTimeout : ∃ (s : State) (m d : Nat),
    s.gci.fullReset = some (m, d) :=
  ⟨{ wState with gci := { wState.gci with fullReset := some (0, 9) } }, 0, 9, rfl⟩

theorem witness_ServiceCommandsComplete_21 : ∃ (s : State),
    (s.gci.fullReset = none) :=
  ⟨wState, by decide +kernel⟩

theorem witness_twinDecision : ∃ (u : Upset) (s : State) (i : Nat) (f : RxFrame) (v : Option Verdict) (t : State),
    (s.rxWaiting = some (i, f)) ∧ ((v, t) = s.twinOf u f) :=
  ⟨⟨0, false, false, none, false⟩, wRx, _, _, _, _, rfl, rfl⟩

theorem witness_DecisionCommandsComplete_1 : ∃ (u : Upset) (s : State),
    (s.rxWaiting = none) :=
  ⟨⟨0, false, false, none, false⟩, wState, by decide +kernel⟩

theorem witness_DecisionCommandsComplete_3 : ∃ (s t : State) (u : Upset) (a b : State → Verdict),
    (t = s.tableUpset u ∧ t.flag SwStatus.fallback = false) :=
  ⟨wRx, _, ⟨0, false, false, none, false⟩, (fun s => ⟨[], [], s⟩), (fun s => ⟨[], [], s⟩), ⟨rfl, by decide +kernel⟩⟩

theorem witness_DecisionCommandsComplete_4 : ∃ (s t v : State) (u : Upset) (a b : State → Verdict),
    (t = s.tableUpset u ∧ t.flag SwStatus.fallback = true) ∧ (v = (if u.fall then t.incSw 3 else (b t).st)) :=
  ⟨(wRx.setF SwStatus.fallback 1), _, _, ⟨0, false, false, none, false⟩, (fun s => ⟨[], [], s⟩), (fun s => ⟨[], [], s⟩), ⟨rfl, by decide +kernel⟩, rfl⟩

theorem witness_shadowIntervalEnd : ∃ (s : State) (d : Nat) (v : State),
    s.buf.shadowEnd = some d ∧ v = s.timeTo d :=
  ⟨{ wState with buf := { wState.buf with shadowEnd := some 9 } }, 9, _, ⟨rfl, rfl⟩⟩

theorem witness_DecisionCommandsComplete_6 : ∃ (s : State),
    (s.buf.shadowEnd = none) :=
  ⟨wRx, by decide +kernel⟩

theorem witness_DecisionCommandsComplete_7 : ∃ (k : Fin 5) (s : State) (i : Nat) (f : RxFrame) (b : List Byte) (l : List (List Byte)) (o : Nat) (v : State),
    (s.oldestCell = some (i, f) ∧ f.todo = b :: l) ∧ ((s.freeLink k).rxOwner f k = (some o, v)) :=
  ⟨1, wRxTodo, _, _, _, _, _, _, ⟨rfl, rfl⟩, rfl⟩

theorem witness_DecisionCommandsComplete_8 : ∃ (k : Fin 5) (s : State) (i : Nat) (f : RxFrame) (b : List Byte) (l : List (List Byte)) (v : State),
    (s.oldestCell = some (i, f) ∧ f.todo = b :: l) ∧ ((s.freeLink k).rxOwner f k = (none, v)) :=
  ⟨0, { wRxTodo with buf := { wRxTodo.buf with descs := List.replicate 65536 (0, { state := .active }) } }, 1, _, _, _, _, ⟨rfl, rfl⟩,
    rxOwner_full _ _ _ (Nat.le_refl 65536) rfl rfl⟩

theorem witness_DecisionCommandsComplete_9 : ∃ (k : Fin 5) (s : State),
    (∀ i f, s.oldestCell = some (i, f) → f.todo = []) :=
  ⟨0, wState, (by intro _ _ h; have h' : none = some _ := h; cases h')⟩

theorem witness_DecisionCommandsComplete_10 : ∃ (s v : State) (r : EvRec),
    (s.fwRunning = true ∧ s.evqFill 1 ≠ 0) ∧ (r = s.evRec 1 (s.evqRd 1) ∧ v = s.evqMoveRd 1 ((s.evqRd 1 + 1) % 128)) :=
  ⟨wLearn, _, _, by decide +kernel, ⟨rfl, rfl⟩⟩

theorem witness_DecisionCommandsComplete_11 : ∃ (s : State),
    (s.fwRunning = false ∨ s.evqFill 1 = 0) :=
  ⟨wRx, by decide +kernel⟩

theorem witness_DecisionCommandsComplete_12 : ∃ (s : State) (m : List Byte) (a : Nat) (b : Bool) (p : Nat),
    (b = false ∧ s.par (oChan p) pidLearnLimit ≤ s.learntOf p) :=
  ⟨{ wState with cfg := [(pkey (oChan 1) pidLearnLimit, 0)] }, [], 0, _, 1, ⟨rfl, by decide +kernel⟩⟩

theorem witness_DecisionCommandsComplete_13 : ∃ (s : State) (m : List Byte) (a : Nat) (b : Bool) (p i : Nat),
    (b = true ∨ s.learntOf p < s.par (oChan p) pidLearnLimit) ∧ (s.fdbFind m a = some i) :=
  ⟨wLearnt, ([0x11, 0x22, 0x33, 0x44, 0x55, 0x66]), 5, false, 1, _, by decide +kernel, rfl⟩

theorem witness_DecisionCommandsComplete_14 : ∃ (s : State) (m : List Byte) (a : Nat) (b : Bool) (p : Nat) (l : List Nat) (x y : Option Nat),
    (b = true ∨ s.learntOf p < s.par (oChan p) pidLearnLimit) ∧ (s.fdbFind m a = none ∧ l = (List.range 8).map (fun w => fdbBucket m a * 8 + w)) ∧ (x = l.find? (fun i => !fdbValid (s.fdbEntry i)) ∧ y = l.find? (fun i => !fdbStatic (s.fdbEntry i) && !fdbHit (s.fdbEntry i))) :=
  ⟨wRx, ([0x11, 0x22, 0x33, 0x44, 0x55, 0x66]), 1, false, 1, _, _, _, by decide +kernel, ⟨by decide +kernel, rfl⟩, ⟨rfl, rfl⟩⟩

theorem witness_ageingVisit : ∃ (s : State),
    s.fwRunning = true ∧ s.par oDeck pidAgeing ≠ 0 :=
  ⟨wState, by decide +kernel⟩

theorem witness_DecisionCommandsComplete_16 : ∃ (s : State),
    (s.fwRunning = false ∨ s.par oDeck pidAgeing = 0) :=
  ⟨State.reset, by decide +kernel⟩

theorem witness_linkDownFdbRemoval : ∃ (p : Fin 22) (s : State),
    s.fwRunning = true ∧ p.val ∈ s.fwd.linkDownRemoval :=
  ⟨1, { wState with fwd := { wState.fwd with linkDownRemoval := [1] } }, by decide +kernel⟩

theorem witness_DecisionCommandsComplete_18 : ∃ (p : Fin 22) (s : State),
    (s.fwRunning = false ∨ p.val ∉ s.fwd.linkDownRemoval) :=
  ⟨1, wRx, by decide +kernel⟩

theorem witness_frerResetTimeout : ∃ (f : Fin 1024) (s : State),
    (s.frerSt f).passed ≠ [] :=
  ⟨3, wState.setFrer 3 { passed := [5] }, by decide +kernel⟩

theorem witness_DecisionCommandsComplete_20 : ∃ (f : Fin 1024) (s : State),
    ((s.frerSt f).passed = []) :=
  ⟨3, wRx, by decide +kernel⟩

theorem witness_tableEccRepair : ∃ (s : State) (c : Nat) (l : List Nat) (v : State),
    (s.fwd.badEntries = c :: l ∧ s.fwRunning = true) ∧ (v = if c / 2 ^ 24 = 0 ∧ s.par (oFdb (c % 2 ^ 24)) (pidRaw 0) = 0 then s.setLearnt (c % 2 ^ 24) 0 else s) :=
  ⟨{ wState with fwd := { wState.fwd with badEntries := [5] } }, 5, [], _, by decide +kernel, rfl⟩

theorem witness_DecisionCommandsComplete_22 : ∃ (s : State),
    (s.fwd.badEntries = [] ∨ s.fwRunning = false) :=
  ⟨wRx, by decide +kernel⟩

theorem witness_PortCommandsComplete_1 : ∃ (p : Fin 20) (k : Fin 3) (b : Bool) (s : State) (m : Nat) (a : Bool),
    (s.chanEnabled p = true ∧ s.flag (PortStatus.laneGated p) = false) ∧ (m = s.getF (PortStatus.modeActive p) ∧ a = (s.par (oChan p) 0x0101 == 1)) :=
  ⟨1, 0, false, { wState with chanOn := [(1, true)] }.setF (PortStatus.laneGated 1) 0, _, _, by decide +kernel, ⟨rfl, rfl⟩⟩

theorem witness_PortCommandsComplete_2 : ∃ (p : Fin 20) (k : Fin 3) (b : Bool) (s : State),
    (s.chanEnabled p = false ∨ s.flag (PortStatus.laneGated p) = true) :=
  ⟨1, 0, false, (wState.setPort 1 { holdEnd := some 9 }), by decide +kernel⟩

theorem witness_PortCommandsComplete_3 : ∃ (p : Fin 20) (s : State) (t : Nat) (v w : State),
    ((s.port p).holdEnd = some t ∧ v = s.timeTo t ∧ w = v.setF (PortStatus.holding p) 0) :=
  ⟨1, (wState.setPort 1 { holdEnd := some 9 }), _, _, _, ⟨rfl, rfl, rfl⟩⟩

theorem witness_PortCommandsComplete_4 : ∃ (p : Fin 20) (s : State),
    ((s.port p).holdEnd = none) :=
  ⟨1, { wState with chanOn := [(1, true)] }.setF (PortStatus.laneGated 1) 0, by decide +kernel⟩

theorem witness_PortCommandsComplete_5 : ∃ (s : State) (f : Flush) (l : List Flush) (v : State) (p : Nat),
    (s.buf.flushes = f :: l ∧ v = ((s.timeTo (strandPlus f.at_ 65536)).flushQueues f.queues).flushNext l) ∧ (f.port = some p) :=
  ⟨{ wState with buf := { wState.buf with flushes := [wFlush 1] } }, _, _, _, _, ⟨rfl, rfl⟩, rfl⟩

theorem witness_PortCommandsComplete_6 : ∃ (s : State) (f : Flush) (l : List Flush) (v : State) (n : Nat),
    (s.buf.flushes = f :: l ∧ v = ((s.timeTo (strandPlus f.at_ 65536)).flushQueues f.queues).flushNext l) ∧ (f.port = none ∧ f.can = some n) :=
  ⟨{ wState with buf := { wState.buf with flushes := [{ queues := [8], port := none, can := some 1 }] } }, _, _, _, _, ⟨rfl, rfl⟩, ⟨by decide +kernel, rfl⟩⟩

theorem witness_PortCommandsComplete_7 : ∃ (s : State) (f : Flush) (l : List Flush) (v : State),
    (s.buf.flushes = f :: l ∧ v = ((s.timeTo (strandPlus f.at_ 65536)).flushQueues f.queues).flushNext l) ∧ (f.port = none ∧ f.can = none) :=
  ⟨{ wState with buf := { wState.buf with flushes := [{ queues := [8], port := none }] } }, _, _, _, ⟨rfl, rfl⟩, by decide +kernel⟩

theorem witness_PortCommandsComplete_8 : ∃ (s : State),
    (s.buf.flushes = []) :=
  ⟨{ wState with chanOn := [(1, true)] }.setF (PortStatus.laneGated 1) 0, by decide +kernel⟩

theorem witness_PortCommandsComplete_9 : ∃ (p : Fin 22) (s : State) (d : Disabling),
    ((s.port p).disabling = some d) :=
  ⟨1, (wState.setPort 1 { disabling := some ⟨1, 5, 9⟩ }), _, rfl⟩

theorem witness_PortCommandsComplete_10 : ∃ (p : Fin 22) (s : State),
    ((s.port p).disabling = none) :=
  ⟨1, { wState with chanOn := [(1, true)] }.setF (PortStatus.laneGated 1) 0, by decide +kernel⟩

theorem witness_pauseTimerExpiry : ∃ (p : Fin 12) (c : Fin 8) (s : State) (t : Nat),
    tabFind (s.port p).rxTimer c = some t :=
  ⟨1, 2, (wState.setPort 1 { rxTimer := [(2, 9)] }), 9, by decide⟩

theorem witness_pauseRefresh : ∃ (p : Fin 12) (s : State) (t : Nat) (v : State),
    (s.port p).refreshAt = some t ∧ v = s.timeTo t :=
  ⟨1, (wState.setPort 1 { refreshAt := some 9 }), 9, _, ⟨rfl, rfl⟩⟩

theorem witness_PortCommandsComplete_13 : ∃ (p : Fin 12) (s : State),
    ((s.port p).refreshAt = none) :=
  ⟨1, { wState with chanOn := [(1, true)] }.setF (PortStatus.laneGated 1) 0, by decide +kernel⟩

theorem witness_pauseWatchdogExpiry : ∃ (p : Fin 12) (c : Fin 8) (s : State) (t : Nat),
    tabFind (s.port p).dogAt c = some t :=
  ⟨1, 2, (wState.setPort 1 { dogAt := [(2, 9)] }), 9, by decide⟩

theorem witness_stormHoldExpiry : ∃ (p : Fin 12) (c : Fin 8) (s : State) (t : Nat),
    tabFind (s.port p).stormEnd c = some t :=
  ⟨1, 2, (wState.setPort 1 { stormEnd := [(2, 9)] }), 9, by decide⟩

theorem witness_plcaFallback : ∃ (k : Fin 8) (s : State) (p : Nat),
    p = 12 + k.val ∧ s.par (oChan p) 0x0300 = 1 ∧ s.flag (PortStatus.plcaOk p) = true ∧ s.flag (PortStatus.laneGated p) = false :=
  ⟨1, (State.setF { wState with cfg := [(pkey (oChan 13) 0x0300, 1)] } (PortStatus.laneGated 13) 0).setF (PortStatus.plcaOk 13) 1, _, by exact ⟨rfl, by decide +kernel⟩⟩

theorem witness_PortCommandsComplete_18 : ∃ (k : Fin 8) (s : State) (p : Nat),
    (p = 12 + k.val ∧ (s.par (oChan p) 0x0300 ≠ 1 ∨ s.flag (PortStatus.plcaOk p) = false ∨ s.flag (PortStatus.laneGated p) = true)) :=
  ⟨2, wState, _, ⟨rfl, by decide +kernel⟩⟩

theorem witness_plcaOkRestore : ∃ (k : Fin 8) (s : State) (p : Nat),
    p = 12 + k.val ∧ s.par (oChan p) 0x0300 = 1 ∧ s.flag (PortStatus.laneGated p) = false :=
  ⟨1, State.setF { wState with cfg := [(pkey (oChan 13) 0x0300, 1)] } (PortStatus.laneGated 13) 0, _, by exact ⟨rfl, by decide +kernel⟩⟩

theorem witness_PortCommandsComplete_20 : ∃ (k : Fin 8) (s : State) (p : Nat),
    (p = 12 + k.val ∧ (s.par (oChan p) 0x0300 ≠ 1 ∨ s.flag (PortStatus.laneGated p) = true)) :=
  ⟨2, wState, _, ⟨rfl, by decide +kernel⟩⟩

theorem witness_backoffExpiry : ∃ (k : Fin 8) (s : State) (p t : Nat) (v : State),
    p = 12 + k.val ∧ (s.port p).backoffAt = some t ∧ v = ((s.timeTo t).creditSync p).frameAnew p :=
  ⟨1, wState.setPort 13 { backoffAt := some 9 }, _, 9, _, ⟨rfl, rfl, rfl⟩⟩

theorem witness_PortCommandsComplete_23 : ∃ (k : Fin 8) (s : State),
    ((s.port (12 + k.val)).backoffAt = none) :=
  ⟨2, { wState with chanOn := [(1, true)] }.setF (PortStatus.laneGated 1) 0, by decide +kernel⟩

theorem witness_verifyTimeExpiry : ∃ (p : Fin 12) (s : State) (t : Nat),
    (s.port p).verifyAt = some t :=
  ⟨1, (wState.setPort 1 { verifyAt := some 9 }), 9, by decide⟩

theorem witness_PortCommandsComplete_25 : ∃ (p : Fin 12) (s : State),
    ((s.port p).verifyAt = none) :=
  ⟨1, { wState with chanOn := [(1, true)] }.setF (PortStatus.laneGated 1) 0, by decide +kernel⟩

theorem witness_mdioAccessDone : ∃ (m : Fin 2) (d : BitVec 16) (s : State) (c n : Nat) (r : List Byte) (l : List (Nat × Nat × List Byte)) (v : State),
    (s.mdioQueue m = (c, n, r) :: l) ∧ (v = State.finishTicket (s.setMdio m l) c n stDone (if s.mdioWrites c n then [] else leBytes 2 d.toNat)) :=
  ⟨0, 5, wTicket.setMdio 0 [(0, 5, [])], _, _, _, _, _, rfl, rfl⟩

theorem witness_PortCommandsComplete_28 : ∃ (m : Fin 2) (d : BitVec 16) (s : State),
    (s.mdioQueue m = []) :=
  ⟨0, 5, { wState with chanOn := [(1, true)] }.setF (PortStatus.laneGated 1) 0, by decide +kernel⟩

theorem witness_gptpMessageReceive : ∃ (p : Fin 12) (n : BitVec 7) (k : Fin 6) (a : BitVec 48) (b : BitVec 96) (s : State),
    s.flag (PortStatus.linkUp p) = true :=
  ⟨1, 0, 4, 0, 0, wState.setF (PortStatus.linkUp 1) 1, by decide +kernel⟩

theorem witness_TimeDrivenCommandsComplete_1 : ∃ (p : Fin 12) (n : BitVec 7) (k : Fin 6) (a : BitVec 48) (b : BitVec 96) (s : State),
    (s.flag (PortStatus.linkUp p) = false) :=
  ⟨1, 0, 4, 0, 0, wState, by decide +kernel⟩

theorem witness_TimeDrivenCommandsComplete_2 : ∃ (s : State) (p n a b : Nat),
    s.fwRunning = true ∧ s.getF DeckBootStatus.stage ≠ 11 :=
  ⟨wState, 1, 0, 0, 0, by decide +kernel⟩

theorem witness_TimeDrivenCommandsComplete_3 : ∃ (s : State) (p n a b t : Nat),
    (s.fwRunning = true ∧ s.getF DeckBootStatus.stage ≠ 11) ∧ (tabGet stampDefault s.time.pdelayT1 p = some t) :=
  ⟨{ wState with time := { wState.time with pdelayT1 := [(1, some 5)] } }, 1, 0, 0, 0, _, by decide +kernel, rfl⟩

theorem witness_TimeDrivenCommandsComplete_4 : ∃ (s : State) (p n a b : Nat),
    (tabGet stampDefault s.time.pdelayT1 p = none) :=
  ⟨(wState.setF (PortStatus.linkUp 1) 1), 1, 1, 1, 1, by decide +kernel⟩

theorem witness_TimeDrivenCommandsComplete_5 : ∃ (s : State) (p n k a b : Nat),
    (s.fwRunning = false ∨ s.getF DeckBootStatus.stage = 11) :=
  ⟨State.reset, 1, 1, 1, 1, 1, by decide +kernel⟩

theorem witness_TimeDrivenCommandsComplete_6 : ∃ (d : Fin 2) (s : State) (t : Nat) (w : State),
    ((s.domain d).syncAt = some t) ∧ (w = (s.timeTo t).setDomain d { (s.timeTo t).domain d with syncAt := none }) :=
  ⟨1, (wState.setDomain 1 { syncAt := some 9 }).setF (domainField 1) dsLocked, _, _, rfl, rfl⟩

theorem witness_TimeDrivenCommandsComplete_7 : ∃ (d : Fin 2) (s : State) (t : Nat) (w : State),
    ((s.domain d).annAt = some t) ∧ (w = (s.timeTo t).setDomain d { (s.timeTo t).domain d with annAt := none }) :=
  ⟨1, (wState.setDomain 1 { annAt := some 9 }).setF (domainField 1) dsLocked, _, _, rfl, rfl⟩

theorem witness_TimeDrivenCommandsComplete_9 : ∃ (d : Fin 2) (s : State) (t : Nat) (v w : State),
    ((s.domain d).masterAt = some t ∧ v = s.timeTo t) ∧ (w = v.setDomain d { v.domain d with masterAt := some (v.after (logCycles 1 (v.domPar d 0x0104))) }) :=
  ⟨1, (wState.setDomain 1 { masterAt := some 9 }), _, _, _, ⟨rfl, rfl⟩, rfl⟩

theorem witness_TimeDrivenCommandsComplete_10 : ∃ (d : Fin 2) (s : State) (t : Nat) (v w : State),
    ((s.domain d).masterAnn = some t ∧ v = s.timeTo t) ∧ (w = v.setDomain d { v.domain d with masterAnn := some (v.after (logCycles 1 (v.domPar d 0x0107))) }) :=
  ⟨1, (wState.setDomain 1 { masterAnn := some 9 }), _, _, _, ⟨rfl, rfl⟩, rfl⟩

theorem witness_TimeDrivenCommandsComplete_12 : ∃ (p : Fin 12) (s w : State),
    (s.gptpPort p = true) ∧ (w = State.pdelayArm (s.dueTo (tabFind s.time.pdelayAt p)) p) :=
  ⟨1, wGptp, _, by decide +kernel, rfl⟩

theorem witness_TimeDrivenCommandsComplete_13 : ∃ (p : Fin 12) (s : State),
    (s.gptpPort p = false) :=
  ⟨1, (wState.setF (PortStatus.linkUp 1) 1), by decide +kernel⟩

theorem witness_revertHoldExpiry : ∃ (s : State) (p : Nat),
    (p = s.primary ∧ s.par (oClock 2) 0x0202 = 1) ∧ (s.getF TimeStatus.source ≠ p ∧ s.getF TimeStatus.source ≠ srcFree ∧ s.domainState p = dsLocked) :=
  ⟨wRevert, _, ⟨rfl, by decide +kernel⟩, by decide +kernel⟩

theorem witness_TimeDrivenCommandsComplete_15 : ∃ (s : State) (p : Nat),
    (p = s.primary) ∧ (s.par (oClock 2) 0x0202 ≠ 1 ∨ s.getF TimeStatus.source = p ∨ s.getF TimeStatus.source = srcFree ∨ s.domainState p ≠ dsLocked) :=
  ⟨(wState.setF (PortStatus.linkUp 1) 1), _, rfl, by decide +kernel⟩

theorem witness_slewDone : ∃ (s : State) (a : Int) (t d : Nat) (v w : State),
    (s.time.work.slew = some (a, t) ∧ d = s.workRef ∧ v = s.hbTo t) ∧ (w = ((State.setWork v { v.time.work with slew := none }).setF TimeStatus.slewing 0).timeEvent 4) :=
  ⟨wState.setWork { wState.time.work with slew := some (0, 9) }, _, _, _, _, _, ⟨rfl, rfl, rfl⟩, rfl⟩

theorem witness_TimeDrivenCommandsComplete_17 : ∃ (s : State),
    (s.time.work.slew = none) :=
  ⟨(wState.setF (PortStatus.linkUp 1) 1), by decide +kernel⟩

theorem witness_TimeDrivenCommandsComplete_18 : ∃ (s v : State),
    (v = s.dueTo s.time.histAt) :=
  ⟨(wState.setF (PortStatus.linkUp 1) 1), _, rfl⟩

theorem witness_TimeDrivenCommandsComplete_19 : ∃ (b : BitVec 8) (s v w : State),
    (v = s.setReg ConvSel.off (BitVec.ofNat 32 b.toNat)) ∧ (w = v.setF ConvStatus.busy 1) :=
  ⟨0, (wState.setF (PortStatus.linkUp 1) 1), _, _, rfl, rfl⟩

theorem witness_timedOutputLeadingEdge : ∃ (i : Fin 4) (s : State) (t : Nat) (v : State),
    ((s.output i).next = some t) ∧ (v = (s.clockTo (s.outPar i 3) t).incOutput i 0) :=
  ⟨1, wState.setOutput 1 { next := some 9 }, 9, _, by decide +kernel, rfl⟩

theorem witness_TimeDrivenCommandsComplete_23 : ∃ (i : Fin 4) (s : State),
    ((s.output i).next = none) :=
  ⟨1, (wState.setF (PortStatus.linkUp 1) 1), by decide +kernel⟩

theorem witness_timedOutputTrailingEdge : ∃ (i : Fin 4) (s : State) (a t : Nat),
    (s.output i).pulse = some (a, t) :=
  ⟨1, wState.setOutput 1 { pulse := some (1, 9) }, 1, 9, by decide +kernel⟩

theorem witness_timedOutputTrailingEdge_strand : ∃ (i : Fin 4) (s : State) (t : Nat),
    (s.output i).pulse = none ∧ (s.output i).pulseStrand = some t :=
  ⟨1, wState.setOutput 1 { pulseStrand := some 9 }, 9, by decide +kernel⟩

theorem witness_TimeDrivenCommandsComplete_26 : ∃ (i : Fin 4) (s : State),
    ((s.output i).pulse = none ∧ (s.output i).pulseStrand = none) :=
  ⟨1, (wState.setF (PortStatus.linkUp 1) 1), by decide +kernel⟩

theorem witness_pierSignalDetect : ∃ (p : Fin 2) (s : State) (v : PierPort),
    (v = s.pierPort (20 + p)) ∧ (s.fwRunning = true ∧ s.chanEnabled (20 + p) = true ∧ v.step = 0) :=
  ⟨1, { wState with chanOn := [(21, true)] }, _, rfl, by decide +kernel⟩

theorem witness_PierLinkCommandsComplete_1 : ∃ (p : Fin 2) (s : State),
    (s.fwRunning = false ∨ s.chanEnabled (20 + p) = false ∨ (s.pierPort (20 + p)).step ≠ 0) :=
  ⟨1, (wState.setPierPort 21 { step := 1 }), by decide +kernel⟩

theorem witness_pierBlockLock : ∃ (p : Fin 2) (s : State) (x : Nat) (t : State),
    ((s.pierPort (20 + p)).step = 1) ∧ ((x, t) = s.draw) :=
  ⟨1, (wState.setPierPort 21 { step := 1 }), _, _, by decide +kernel, rfl⟩

theorem witness_PierLinkCommandsComplete_3 : ∃ (p : Fin 2) (s : State),
    ((s.pierPort (20 + p)).step ≠ 1) :=
  ⟨1, { wState with chanOn := [(21, true)] }, by decide +kernel⟩

theorem witness_PierLinkCommandsComplete_4 : ∃ (p : Fin 2) (h : Hello) (s : State),
    ((s.pierPort (20 + p)).step < 2) :=
  ⟨1, (wHello 0), { wState with chanOn := [(21, true)] }, by decide +kernel⟩

theorem witness_PierLinkCommandsComplete_5 : ∃ (p : Fin 2) (h : Hello) (s v : State),
    (2 ≤ (s.pierPort (20 + p)).step ∧ h.kind.val = 0) ∧ (v = s.pierRx p utHello (helloOf h).length) :=
  ⟨1, (wHello 0), (wState.setPierPort 21 { step := 2 }), _, by decide +kernel, rfl⟩

theorem witness_PierLinkCommandsComplete_6 : ∃ (p : Fin 2) (h : Hello) (s v w : State),
    (2 ≤ (s.pierPort (20 + p)).step ∧ h.kind.val = 1) ∧ (v = s.pierRx p utHello (helloOf h).length) ∧ (w = (v.helloLearn h).helloBook h) :=
  ⟨1, (wHello 1), (wState.setPierPort 21 { step := 2 }), _, _, by decide +kernel, rfl, rfl⟩

theorem witness_PierLinkCommandsComplete_7 : ∃ (p : Fin 2) (h : Hello) (s v : State),
    (2 ≤ (s.pierPort (20 + p)).step ∧ h.kind.val = 2) ∧ (v = s.pierRx p utHello (helloOf h).length) :=
  ⟨1, (wHello 2), (wState.setPierPort 21 { step := 2 }), _, by decide +kernel, rfl⟩

theorem witness_PierLinkCommandsComplete_8 : ∃ (p : Fin 2) (h : Hello) (s : State),
    (2 ≤ (s.pierPort (20 + p)).step ∧ 3 ≤ h.kind.val) :=
  ⟨1, wHello 3, (wState.setPierPort 21 { step := 2 }), by decide +kernel⟩

theorem witness_PierLinkCommandsComplete_9 : ∃ (p : Fin 2) (m : BitVec 128) (s v : State) (k : List Byte),
    ((s.pierPort (20 + p)).step = 3 ∧ s.pierSecure p = true) ∧ (v = s.pierRx p utKeyConfirm 16 ∧ v.pierKey = some k) :=
  ⟨1, 0, wPierKey, _, _, by decide +kernel, ⟨rfl, rfl⟩⟩

theorem witness_PierLinkCommandsComplete_10 : ∃ (p : Fin 2) (m : BitVec 128) (s v : State),
    ((s.pierPort (20 + p)).step = 3 ∧ s.pierSecure p = true) ∧ (v = s.pierRx p utKeyConfirm 16 ∧ v.pierKey = none) :=
  ⟨1, 0, { wPierKey with cfg := [(pkey (oChan 21) 0x1000, 1)] }, _, by decide +kernel, ⟨rfl, by decide +kernel⟩⟩

theorem witness_PierLinkCommandsComplete_11 : ∃ (p : Fin 2) (m : BitVec 128) (s : State),
    ((s.pierPort (20 + p)).step ≠ 3 ∨ s.pierSecure p = false) :=
  ⟨1, 0, { wState with chanOn := [(21, true)] }, by decide +kernel⟩

theorem witness_pierHelloInterval : ∃ (p : Fin 2) (s : State) (v : PierPort) (t w : State),
    (v = s.pierPort (20 + p) ∧ 2 ≤ v.step) ∧ (t = s.timeTo v.nextAt) ∧ (w = t.setPierPort (20 + p) { v with nextAt := t.after (usC 100) }) :=
  ⟨1, (wState.setPierPort 21 { step := 2 }), _, _, _, ⟨rfl, by decide +kernel⟩, rfl, rfl⟩

theorem witness_PierLinkCommandsComplete_13 : ∃ (p : Fin 2) (s : State),
    ((s.pierPort (20 + p)).step < 2) :=
  ⟨1, { wState with chanOn := [(21, true)] }, by decide +kernel⟩

theorem witness_PierLinkCommandsComplete_14 : ∃ (p : Fin 2) (a : PierAcks) (l : List ClockTime) (s v w : State),
    (5 ≤ (s.pierPort (20 + p)).step ∧ s.pierShut p utKeepalive = false) ∧ (v = s.pierRx p utKeepalive 6) ∧ (w = State.pierAck (v.setPierPort (20 + p) { v.pierPort (20 + p) with lastKa := v.strand }) p a) :=
  ⟨1, ⟨0, 0, 0⟩, [], (wState.setPierPort 21 { step := 5 }), _, _, by decide +kernel, rfl, rfl⟩

theorem witness_PierLinkCommandsComplete_15 : ∃ (p : Fin 2) (b : List (Fin 11 × BitVec 16)) (a : PierAcks) (s v : State),
    (5 ≤ (s.pierPort (20 + p)).step ∧ s.pierShut p utCredit = false) ∧ (v = s.pierRx p utCredit (9 * b.length)) :=
  ⟨1, [], ⟨0, 0, 0⟩, (wState.setPierPort 21 { step := 5 }), _, by decide +kernel, rfl⟩

theorem witness_PierLinkCommandsComplete_16 : ∃ (p : Fin 2) (a : PierAcks) (l : List ClockTime) (b : List (Fin 11 × BitVec 16)) (s : State),
    (5 ≤ (s.pierPort (20 + p)).step) :=
  ⟨1, ⟨0, 0, 0⟩, [], [], (wState.setPierPort 21 { step := 5 }), by decide +kernel⟩

theorem witness_PierLinkCommandsComplete_17 : ∃ (p : Fin 2) (a : PierAcks) (l : List ClockTime) (b : List (Fin 11 × BitVec 16)) (s : State),
    ((s.pierPort (20 + p)).step < 5) :=
  ⟨1, ⟨0, 0, 0⟩, [], [], { wState with chanOn := [(21, true)] }, by decide +kernel⟩

theorem witness_pierLinkHoldEnd : ∃ (p : Fin 2) (s : State) (v : PierPort) (t : Nat),
    v = s.pierPort (20 + p) ∧ v.holdEnd = some t :=
  ⟨1, (wState.setPierPort 21 { holdEnd := some 9 }), _, 9, ⟨rfl, by decide +kernel⟩⟩

theorem witness_PierLinkCommandsComplete_19 : ∃ (p : Fin 2) (s : State),
    ((s.pierPort (20 + p)).holdEnd = none) :=
  ⟨1, { wState with chanOn := [(21, true)] }, by decide +kernel⟩

theorem witness_bringupRetry : ∃ (p : Fin 2) (s : State) (v : PierPort) (t x : Nat) (w : State),
    (v = s.pierPort (20 + p) ∧ v.retryAt = some t) ∧ ((x, w) = (s.timeTo t).draw) :=
  ⟨1, (wState.setPierPort 21 { retryAt := some 9 }), _, 9, _, _, ⟨rfl, by decide +kernel⟩, rfl⟩

theorem witness_PierLinkCommandsComplete_21 : ∃ (p : Fin 2) (s : State),
    ((s.pierPort (20 + p)).retryAt = none) :=
  ⟨1, { wState with chanOn := [(21, true)] }, by decide +kernel⟩

theorem witness_peerLost : ∃ (p : Fin 2) (b : Bool) (s : State) (v : PierPort),
    v = s.pierPort (20 + p) ∧ 5 ≤ v.step :=
  ⟨1, true, (wState.setPierPort 21 { step := 6 }), _, ⟨rfl, by decide +kernel⟩⟩

theorem witness_PierLinkCommandsComplete_23 : ∃ (p : Fin 2) (b : Bool) (s : State),
    ((s.pierPort (20 + p)).step < 5) :=
  ⟨1, true, { wState with chanOn := [(21, true)] }, by decide +kernel⟩

theorem witness_replayTimeout : ∃ (p : Fin 2) (s : State) (v : PierPort) (t : Nat) (w : State),
    (v = s.pierPort (20 + p) ∧ v.resendAt = some t) ∧ (w = s.timeTo t) :=
  ⟨1, (wState.setPierPort 21 { resendAt := some 9 }), _, 9, _, ⟨rfl, by decide +kernel⟩, rfl⟩

theorem witness_PierLinkCommandsComplete_25 : ∃ (p : Fin 2) (s : State),
    ((s.pierPort (20 + p)).resendAt = none) :=
  ⟨1, { wState with chanOn := [(21, true)] }, by decide +kernel⟩

theorem witness_PierUnitCommandsComplete_0 : ∃ (p : Fin 2) (c : Fin 8) (d : Fin 4) (b : Fin 6) (l : List Byte) (s : State) (v : State),
    (s.flag (PortStatus.linkUp (20 + p)) = true ∧ b.val = 0 ∧ 60 ≤ l.length ∧ l.length + 26 ≤ s.par (oChan (20 + p)) 0x0103) ∧ (v = s.pierRx p utEth l.length ∧ s.pierShut p utEth = false) :=
  ⟨1, 0, 2, 0, (zeros 60), (wState.setF (PortStatus.linkUp 21) 1), _, by decide +kernel, ⟨rfl, by decide +kernel⟩⟩

theorem witness_PierUnitCommandsComplete_1 : ∃ (p : Fin 2) (c : Fin 8) (d : Fin 4) (b : Fin 6) (l : List Byte) (s : State),
    (s.flag (PortStatus.linkUp (20 + p)) = true ∧ b.val = 0 ∧ 60 ≤ l.length ∧ l.length + 26 ≤ s.par (oChan (20 + p)) 0x0103 ∧ s.pierShut p utEth = true) :=
  ⟨1, 0, 0, 0, zeros 64, (wPierKey.setF (PortStatus.linkUp 21) 1).setF HbxStatus.locked 1, by decide +kernel⟩

theorem witness_PierUnitCommandsComplete_2 : ∃ (p : Fin 2) (c : Fin 8) (d : Fin 4) (b : Fin 6) (l : List Byte) (s : State),
    (s.flag (PortStatus.linkUp (20 + p)) = true ∧ b.val = 0) :=
  ⟨1, 0, 2, 0, [], (wState.setF (PortStatus.linkUp 21) 1), by decide +kernel⟩

theorem witness_ethUnit_short : ∃ (p : Fin 2) (b : Fin 6) (l : List Byte) (s : State),
    (s.flag (PortStatus.linkUp (20 + p)) = true ∧ b.val = 0) ∧ l.length < 60 :=
  ⟨1, 0, zeros 59, wState.setF (PortStatus.linkUp 21) 1, by decide +kernel, by decide⟩

theorem witness_ethUnit_giant : ∃ (p : Fin 2) (b : Fin 6) (l : List Byte) (s : State),
    (s.flag (PortStatus.linkUp (20 + p)) = true ∧ b.val = 0) ∧ 60 ≤ l.length ∧ s.par (oChan (20 + p)) 0x0103 < l.length + 26 :=
  ⟨1, 0, zeros 100, State.setF { wState with cfg := [(pkey (oChan 21) 0x0103, 120)] } (PortStatus.linkUp 21) 1, by decide +kernel, by decide +kernel⟩

theorem witness_PierUnitCommandsComplete_3 : ∃ (p : Fin 2) (c : Fin 8) (d e : Fin 4) (b : Fin 6) (r : BitVec 14) (l : List Byte) (u : Upset) (s : State),
    (s.flag (PortStatus.linkUp (20 + p)) = true ∧ b.val ≠ 0) :=
  ⟨1, 0, 2, 2, 1, 5, (zeros 60), ⟨0, false, false, none, false⟩, (wState.setF (PortStatus.linkUp 21) 1), by decide +kernel⟩

theorem witness_PierUnitCommandsComplete_4 : ∃ (p : Fin 2) (c : Fin 8) (d e : Fin 4) (b : Fin 6) (r : BitVec 14) (l : List Byte) (u : Upset) (s : State),
    (s.flag (PortStatus.linkUp (20 + p)) = false) :=
  ⟨1, 0, 2, 2, 1, 5, (zeros 60), ⟨0, false, false, none, false⟩, (wState.setPierPort 21 { step := 5 }), by decide +kernel⟩

theorem witness_PierUnitCommandsComplete_5 : ∃ (p : Fin 2) (c : Fin 8) (d : Fin 4) (e : Fin 4) (b : Fin 6) (r : BitVec 14) (l : List Byte) (u : Upset) (s : State) (v : State),
    (s.flag (PortStatus.linkUp (20 + p)) = true ∧ b.val = 0 ∧ 16 ≤ l.length) ∧ (v = s.pierRx p utRecord (l.length + 2)) :=
  ⟨1, 0, 2, 2, 0, 5, (zeros 60), ⟨0, false, false, none, false⟩, (wState.setF (PortStatus.linkUp 21) 1), _, by decide +kernel, rfl⟩

theorem witness_PierUnitCommandsComplete_6 : ∃ (p : Fin 2) (c : Fin 8) (d : Fin 4) (e : Fin 4) (b : Fin 6) (r : BitVec 14) (l : List Byte) (u : Upset) (s : State),
    (s.flag (PortStatus.linkUp (20 + p)) = true ∧ b.val = 0 ∧ l.length < 16) :=
  ⟨1, 0, 2, 2, 0, 5, [], ⟨0, false, false, none, false⟩, (wState.setF (PortStatus.linkUp 21) 1), by decide +kernel⟩

theorem witness_PierUnitCommandsComplete_7 : ∃ (p : Fin 2) (d : Fin 4) (c : Fin 8) (b : Bool) (n : BitVec 16) (m : BitVec 16) (k : BitVec 16) (q : Req) (s : State) (t : State) (r a : List Byte) (v : State),
    (r = reqHeader k.toNat q ++ q.payload.take q.len.toNat ∧ a = leBytes 1 d.val ++ leBytes 1 (c.val + 8 * b2n b) ++ leBytes 2 n.toNat ++ r) ∧ ((s.pierRx p utReq a.length).pierTake p pcReq m.toNat = some t) ∧ (v = t.creditBack p pcReq (unitCells a)) :=
  ⟨1, 2, 0, false, 7, 0, 7, (wReq 0 []), (wState.setPierPort 21 { step := 5 }), _, _, _, _, ⟨rfl, rfl⟩, rfl, rfl⟩

theorem witness_PierUnitCommandsComplete_8 : ∃ (p : Fin 2) (d : Fin 4) (c : Fin 8) (b : Bool) (n : BitVec 16) (m : BitVec 16) (k : BitVec 16) (q : Req) (s v : State),
    (v = s.pierRx p utReq (leBytes 1 d.val ++ leBytes 1 (c.val + 8 * b2n b) ++ leBytes 2 n.toNat ++ (reqHeader k.toNat q ++ q.payload.take q.len.toNat)).length) ∧ (v.pierTake p pcReq m.toNat = none) :=
  ⟨1, 2, 0, false, 7, 7, 7, (wReq 0 []), (wState.setF (PortStatus.linkUp 21) 1), _, rfl, by decide +kernel⟩

theorem witness_PierUnitCommandsComplete_9 : ∃ (p : Fin 2) (d : Fin 4) (e : Fin 4) (n : BitVec 16) (m : BitVec 16) (b : Bool) (o : BitVec 32) (l : List Byte) (s : State) (t : State) (a : List Byte) (v : State),
    (a = leBytes 2 n.toNat ++ leBytes 1 (b2n b) ++ [0] ++ (if b then leBytes 4 o.toNat else []) ++ l) ∧ ((s.pierRx p utCpl a.length).pierTake p pcCpl m.toNat = some t) ∧ (v = t.creditBack p pcCpl (unitCells a)) :=
  ⟨1, 2, 2, 7, 0, false, 0, (zeros 60), (wState.setPierPort 21 { step := 5 }), _, _, _, rfl, rfl, rfl⟩

theorem witness_PierUnitCommandsComplete_10 : ∃ (p : Fin 2) (d : Fin 4) (e : Fin 4) (n : BitVec 16) (m : BitVec 16) (b : Bool) (o : BitVec 32) (l : List Byte) (s v : State),
    (v = s.pierRx p utCpl (leBytes 2 n.toNat ++ leBytes 1 (b2n b) ++ [0] ++ (if b then leBytes 4 o.toNat else []) ++ l).length) ∧ (v.pierTake p pcCpl m.toNat = none) :=
  ⟨1, 2, 2, 7, 7, false, 0, (zeros 60), (wState.setF (PortStatus.linkUp 21) 1), _, rfl, by decide +kernel⟩

theorem witness_PierUnitCommandsComplete_11 : ∃ (p : Fin 2) (d : Fin 4) (e : Fin 4) (m : BitVec 16) (n : Fin 64) (r : BitVec 128) (s : State) (t : State) (a : List Byte) (v : State),
    (a = leBytes 1 n.val ++ leBytes 16 r.toNat) ∧ ((s.pierRx p utEvt a.length).pierTake p pcEvt m.toNat = some t) ∧ (v = t.creditBack p pcEvt (unitCells a)) :=
  ⟨1, 2, 2, 0, 7, 0, (wState.setPierPort 21 { step := 5 }), _, _, _, rfl, rfl, rfl⟩

theorem witness_PierUnitCommandsComplete_12 : ∃ (p : Fin 2) (d : Fin 4) (e : Fin 4) (m : BitVec 16) (n : Fin 64) (r : BitVec 128) (s v : State),
    (v = s.pierRx p utEvt (leBytes 1 n.val ++ leBytes 16 r.toNat).length) ∧ (v.pierTake p pcEvt m.toNat = none) :=
  ⟨1, 2, 2, 7, 7, 0, (wState.setF (PortStatus.linkUp 21) 1), _, rfl, by decide +kernel⟩

theorem witness_discoveryDeadline : ∃ (s : State) (t : Nat) (v : State),
    s.pier.discoverAt = some t ∧ v = s.timeTo t :=
  ⟨{ wState with pier := { wState.pier with discoverAt := some 9 } }, 9, _, ⟨rfl, rfl⟩⟩

theorem witness_PierUnitCommandsComplete_14 : ∃ (s : State),
    (s.pier.discoverAt = none) :=
  ⟨(wState.setF (PortStatus.linkUp 21) 1), by decide +kernel⟩

theorem witness_actingDelayExpiry : ∃ (s : State) (t : Nat) (v : State),
    s.pier.actingAt = some t ∧ v = s.timeTo t :=
  ⟨{ wState with pier := { wState.pier with actingAt := some 9 } }, 9, _, ⟨rfl, rfl⟩⟩

theorem witness_PierUnitCommandsComplete_16 : ∃ (s : State),
    (s.pier.actingAt = none) :=
  ⟨(wState.setF (PortStatus.linkUp 21) 1), by decide +kernel⟩

theorem witness_requestUnreachableTimeout : ∃ (s : State) (f : FwdReq) (v w : State),
    (s.pier.forwarded.find? (fun f => f.lostAt.isSome) = some f) ∧ (v = s.timeTo (f.lostAt.getD s.strand)) ∧ (w = { v with pier := { v.pier with forwarded := v.pier.forwarded.erase f } }) :=
  ⟨{ wState with pier := { wState.pier with forwarded := [{ mb := 0, deck := 1, num := 0, cmd := 0x0110, body := [], lostAt := some 9 }] } }, _, _, _, rfl, rfl, rfl⟩

theorem witness_PierUnitCommandsComplete_18 : ∃ (s : State),
    (s.pier.forwarded.find? (fun f => f.lostAt.isSome) = none) :=
  ⟨(wState.setF (PortStatus.linkUp 21) 1), by decide +kernel⟩

theorem witness_xosc32Stable : ∃ (s : State) (v : State),
    v = State.setF { s with brim := { s.brim with xoscOk := true } } PwrStatus.xoscOk 1 :=
  ⟨wState, _, rfl⟩

theorem witness_xosc32Stop : ∃ (s : State) (v : State),
    v = State.setF { s with brim := { s.brim with xoscOk := false } } PwrStatus.xoscOk 0 :=
  ⟨wState, _, rfl⟩

theorem witness_PowerCommandsComplete_2 : ∃ (b : Bool) (s : State) (v : State),
    (s.brim.power = pwRunning ∧ s.par oDeck 0x0F00 ≠ 0 ∧ s.fwRunning = true) ∧ (s.lpSpansAsleep = true ∧ s.lpRest = true) ∧ (v = s.hbTo (s.brim.hb + msC (s.par oDeck 0x0F01))) :=
  ⟨false, State.setF { wUp with gci := {}, cfg := [(pkey oDeck 0x0F00, 1), (pkey (oChan 22) pidSpan, 1)] } (SpanState.state 1) spAsleep, _,
    by decide +kernel, by decide +kernel, rfl⟩

theorem witness_PowerCommandsComplete_3 : ∃ (b : Bool) (s : State),
    (s.brim.power ≠ pwRunning ∨ s.par oDeck 0x0F00 = 0 ∨ s.fwRunning = false ∨ s.lpSpansAsleep = false ∨ s.lpRest = false) :=
  ⟨false, wState, by decide +kernel⟩

theorem witness_parkSupplyFall : ∃ (s : State),
    s.brim.entering = some pwParked :=
  ⟨{ wState with brim := { wState.brim with entering := some pwParked } }, by decide⟩

theorem witness_PowerCommandsComplete_5 : ∃ (s : State),
    (s.brim.entering ≠ some pwParked) :=
  ⟨wState, by decide +kernel⟩

theorem witness_coreClockStop : ∃ (s : State),
    s.brim.entering = some pwListening ∧ s.brim.power = pwRunning :=
  ⟨{ wUp with brim := { wUp.brim with entering := some pwListening } }, by decide⟩

theorem witness_PowerCommandsComplete_7 : ∃ (s : State),
    (s.brim.entering ≠ some pwListening ∨ s.brim.power ≠ pwRunning) :=
  ⟨wState, by decide +kernel⟩

theorem witness_coreClocksResume : ∃ (s : State),
    s.brim.power = pwWaking ∧ s.brim.prev = pwListening :=
  ⟨{ wState with brim := { wState.brim with power := pwWaking, prev := pwListening } }, by decide⟩

theorem witness_PowerCommandsComplete_10 : ∃ (s : State),
    (s.brim.power ≠ pwWaking ∨ s.brim.prev ≠ pwListening) :=
  ⟨wState, by decide +kernel⟩

theorem witness_parkedWake : ∃ (s : State),
    (s.brim.power = pwParked ∨ s.brim.entering = some pwParked) ∧ (s.brim.wakeLatched = true) :=
  ⟨{ wState with brim := { wState.brim with power := pwParked, wakeLatched := true } }, by decide, by decide⟩

theorem witness_PowerCommandsComplete_12 : ∃ (s : State),
    (s.brim.wakeLatched = false ∨ (s.brim.power ≠ pwParked ∧ s.brim.entering ≠ some pwParked)) :=
  ⟨wState, by decide +kernel⟩

theorem witness_wakeTimerExpiry : ∃ (s : State) (d : Nat) (v : State),
    s.brim.wakeTimer = some d ∧ v = s.hbTo d :=
  ⟨{ wState with brim := { wState.brim with wakeTimer := some 9 } }, 9, _, ⟨rfl, rfl⟩⟩

theorem witness_listenToParkExpiry : ∃ (s : State) (d : Nat) (v : State),
    s.brim.parkTimer = some d ∧ v = s.hbTo d :=
  ⟨{ wState with brim := { wState.brim with parkTimer := some 9, power := pwListening } }, 9, _, ⟨rfl, rfl⟩⟩

theorem witness_PowerCommandsComplete_15 : ∃ (s : State),
    s.brim.power = pwListening ∧ s.brim.crystalFail = false :=
  ⟨{ wState with brim := { wState.brim with power := pwListening } }, by decide⟩

theorem witness_PowerCommandsComplete_16 : ∃ (s : State) (d : Nat),
    (s.brim.supplyTimer = some d) :=
  ⟨{ wState with brim := { wState.brim with supplyTimer := some 9, power := pwWaking } }, _, rfl⟩

theorem witness_supplyRetryExpiry : ∃ (s : State) (d : Nat) (v : State),
    s.brim.retryAt = some d ∧ v = s.hbTo d :=
  ⟨{ wState with brim := { wState.brim with retryAt := some 9 } }, 9, _, ⟨rfl, rfl⟩⟩

theorem witness_thermalRetryExpiry : ∃ (b : Byte) (s : State) (d : Nat),
    s.brim.thermRetryAt = some d :=
  ⟨5, { wState with brim := { wState.brim with thermRetryAt := some 9 } }, 9, by decide⟩

theorem witness_thermalRead : ∃ (a : Byte) (b : Byte) (s : State) (v : State),
    v = s.thermPublish a.toNat b.toNat :=
  ⟨5, 6, wState, _, rfl⟩

theorem witness_thermalFallTimer : ∃ (s : State) (d : Nat),
    s.brim.thermFallAt = some d :=
  ⟨{ wState with brim := { wState.brim with thermFallAt := some 9 } }, 9, rfl⟩

theorem witness_inhNvmWrite : ∃ (b : Bool) (s : State) (v : State),
    (s.gci.nvmPend ≠ []) ∧ (v = { s with gci := { s.gci with nvmPend := [] } }) :=
  ⟨true, { wState with gci := { wState.gci with nvmPend := [(5, 6)] } }, _, by decide, rfl⟩

theorem witness_PowerCommandsComplete_23 : ∃ (b : Bool) (s : State),
    (s.gci.nvmPend = []) :=
  ⟨false, wState, by decide +kernel⟩

theorem witness_thermPeakRead : ∃ (s : State) (v : State),
    v = s.setReg ThermPeak.off 0 :=
  ⟨wState, _, rfl⟩

theorem witness_SpanEventsTakeEffect_0 : ∃ (i : Fin 16) (s : State),
    (s.switchover = false) :=
  ⟨1, wState, by decide +kernel⟩

theorem witness_SpanEventsTakeEffect_1 : ∃ (i : Fin 16) (s : State) (d : Nat),
    ((s.span i).prepareAt = some d ∧ s.spanState i = spPrepare ∧ s.switchover = false) :=
  ⟨1, (wState.setSpan 1 { prepareAt := some 9 }).setF (SpanState.state 1) spPrepare, _, ⟨rfl, by decide +kernel, by decide +kernel⟩⟩

theorem witness_SpanEventsTakeEffect_2 : ∃ (i : Fin 16) (s : State),
    ((s.span i).prepareAt = none ∨ s.spanState i ≠ spPrepare ∨ s.switchover = true) :=
  ⟨1, wState, by decide +kernel⟩

theorem witness_SpanEventsTakeEffect_3 : ∃ (i : Fin 16) (s : State) (d : Nat) (v w : State),
    ((s.span i).falseAt = some d ∧ s.switchover = false ∧ v = (s.timeTo (msEnd d)).spanDemand i) ∧ (w = (v.setSpan i { v.span i with falseAt := none }).setF (SpanState.falseWakeRun i) 0) :=
  ⟨1, (wState.setSpan 1 { falseAt := some 9 }), _, _, _, ⟨rfl, by decide +kernel, rfl⟩, rfl⟩

theorem witness_SpanEventsTakeEffect_4 : ∃ (i : Fin 16) (s : State),
    (s.switchover = true) :=
  ⟨1, wState.setF DeckBootStatus.stage 11, by decide +kernel⟩

theorem witness_entryDrainEnd : ∃ (i : Fin 16) (s : State),
    (s.spanState i = spEntering ∧ (s.span i).step = 0 ∧ s.switchover = false) ∧ (s.spanDrained i = true ∨ (s.span i).drainAt = none) :=
  ⟨1, wState.setF (SpanState.state 1) spEntering, by decide +kernel, by decide +kernel⟩

theorem witness_entryDrainEnd_late : ∃ (i : Fin 16) (s : State) (d : Nat),
    (s.spanState i = spEntering ∧ (s.span i).step = 0 ∧ s.switchover = false) ∧ (s.spanDrained i = false ∧ (s.span i).drainAt = some d) :=
  ⟨1, wDrain, 9, by decide +kernel, by decide +kernel⟩

theorem witness_SpanEventsTakeEffect_7 : ∃ (i : Fin 16) (s : State),
    (s.spanState i ≠ spEntering ∨ (s.span i).step ≠ 0 ∨ s.switchover = true) :=
  ⟨1, wState, by decide +kernel⟩

theorem witness_armingConfirmed : ∃ (i : Fin 16) (b : Bool) (s : State),
    s.spanState i = spEntering ∧ (s.span i).step = 1 :=
  ⟨1, false, (wState.setSpan 1 { step := 1 }).setF (SpanState.state 1) spEntering, by decide +kernel⟩

theorem witness_SpanEventsTakeEffect_9 : ∃ (i : Fin 16) (b : Bool) (s : State),
    (s.spanState i ≠ spEntering ∨ (s.span i).step ≠ 1) :=
  ⟨1, false, wState, by decide +kernel⟩

theorem witness_kaTxPeriodExpiry : ∃ (i : Fin 16) (s : State) (d : Nat) (v w : State),
    ((s.span i).kaAt = some d ∧ v = s.timeTo d) ∧ (w = v.setSpan i { v.span i with kaAt := if v.spanPar i 0x010A = 0 then none else some (v.after (msC (v.spanPar i 0x010A))) }) :=
  ⟨1, (wState.setSpan 1 { kaAt := some 9 }), 9, _, _, ⟨by decide +kernel, rfl⟩, rfl⟩

theorem witness_longAwakeExpiry : ∃ (i : Fin 16) (s : State) (d : Nat) (v w : State),
    ((s.span i).longAt = some d ∧ v = s.timeTo d) ∧ (w = v.setSpan i { v.span i with longAt := if v.spanPar i 0x0110 = 0 then none else some (v.after (secC (v.spanPar i 0x0110))) }) :=
  ⟨1, (wState.setSpan 1 { longAt := some 9 }), 9, _, _, ⟨by decide +kernel, rfl⟩, rfl⟩

theorem witness_SpanEventsTakeEffect_14 : ∃ (n : Fin 16) (k : Fin 3) (i : BitVec 30) (r : Bool) (d : BitVec 4) (p : BitVec 64) (s : State) (a : ArmedSpan) (f : Nat),
    (s.armedCan n = some (a, f)) :=
  ⟨1, 0, 5, false, 0, 0, (wArmed 1), _, _, rfl⟩

theorem witness_SpanEventsTakeEffect_15 : ∃ (n : Fin 16) (k : Fin 3) (i : BitVec 30) (r : Bool) (d : BitVec 4) (p : BitVec 64) (s : State),
    (s.armedCan n = none) :=
  ⟨1, 0, 5, false, 0, 0, wState, by decide +kernel⟩

theorem witness_SpanEventsTakeEffect_16 : ∃ (k : Fin 8) (b : Bool) (s : State) (v : State),
    (v = s.setF ⟨WakePinStatus.off, k, k⟩ (b2n b)) :=
  ⟨1, false, wState, _, rfl⟩

theorem witness_linWake : ∃ (n : Fin 8) (s : State) (a : ArmedSpan),
    s.armedChan (88 + n.val) = some a :=
  ⟨1, wArmed 0, _, rfl⟩

theorem witness_t1sWake : ∃ (n : Fin 8) (s : State) (a : ArmedSpan),
    s.armedChan (12 + n.val) = some a :=
  ⟨1, wArmed 0, _, rfl⟩

theorem witness_SpanEventsTakeEffect_20 : ∃ (p : Fin 12) (l : List Byte) (s : State) (a : ArmedSpan),
    (s.armedChan p = some a ∧ s.par (oPattern p) (pidRaw 0) = 1 ∧ s.wakeFrameOk p l = true) ∧ (patternMatch (s.par (oPattern p) (pidRaw 1)) (s.par (oPattern p) (pidRaw 2)) (leBytes 128 (s.par (oPattern p) (pidRaw 3))) l = true) :=
  ⟨1, zeros 60 ++ ethFcs (zeros 60), { wArmed 0 with cfg := [(pkey (oPattern 1) (pidRaw 0), 1)] }, _, ⟨rfl, by decide +kernel, by decide +kernel⟩, by decide +kernel⟩

theorem witness_SpanEventsTakeEffect_21 : ∃ (p : Fin 12) (l : List Byte) (s : State),
    (s.armedChan p = none ∨ s.par (oPattern p) (pidRaw 0) ≠ 1 ∨ s.wakeFrameOk p l = false ∨
      patternMatch (s.par (oPattern p) (pidRaw 1)) (s.par (oPattern p) (pidRaw 2)) (leBytes 128 (s.par (oPattern p) (pidRaw 3))) l = false) :=
  ⟨1, (zeros 200), wState, by decide +kernel⟩

theorem witness_SpanEventsTakeEffect_22 : ∃ (i : Fin 16) (d : Fin 4) (k : Fin 7) (b : Byte) (s : State),
    (s.spanPar i 0x0111 ≠ 0 ∧ s.spanPar i 0x0100 ≠ 0) :=
  ⟨1, 2, 1, 1, { wState with cfg := [(pkey (oSpan 1) 0x0100, 1), (pkey (oSpan 1) 0x0111, 1)] }, by decide +kernel⟩

theorem witness_SpanEventsTakeEffect_23 : ∃ (i : Fin 16) (d : Fin 4) (k : Fin 7) (b : Byte) (s : State),
    (s.spanPar i 0x0111 = 0) :=
  ⟨1, 2, 1, 1, wState, by decide +kernel⟩

theorem witness_SpanEventsTakeEffect_24 : ∃ (i : Fin 16) (d : Fin 4) (k : Fin 7) (b : Byte) (s : State),
    (s.spanPar i 0x0111 ≠ 0 ∧ s.spanPar i 0x0100 = 0) :=
  ⟨1, 0, 0, 0, { wState with cfg := [(pkey (oSpan 1) 0x0111, 1)] }, by decide +kernel⟩

theorem witness_sgeEnd : ∃ (e : Fin 16) (b : Bool) (s : State) (r : Running) (w : Nat),
    (b = false ∧ s.executor e = some r) ∧ (w = s.instr r.old r.pc ∧ insOp w = 0) :=
  ⟨1, false, wIns 0, _, _, ⟨rfl, rfl⟩, ⟨rfl, by decide +kernel⟩⟩

theorem witness_sgeUnpack : ∃ (e : Fin 16) (b : Bool) (s : State) (r : Running) (w : Nat),
    (b = false ∧ s.executor e = some r) ∧ (w = s.instr r.old r.pc ∧ insOp w = 1) :=
  ⟨1, false, wIns 1, _, _, ⟨rfl, rfl⟩, ⟨rfl, by decide +kernel⟩⟩

theorem witness_sgePack : ∃ (e : Fin 16) (b : Bool) (s : State) (r : Running) (w : Nat) (a : List Byte) (v : State),
    (b = false ∧ s.executor e = some r) ∧ (w = s.instr r.old r.pc ∧ insOp w = 2) ∧ (a = writeField r.body (insField w) (s.signal (insSignal w)).value ∧ v = (if bitOf w 16 then s.setSignal (insSignal w) { s.signal (insSignal w) with updated := false } else s)) :=
  ⟨1, false, wIns 2, _, _, _, _, ⟨rfl, rfl⟩, ⟨rfl, by decide +kernel⟩, ⟨rfl, rfl⟩⟩

theorem witness_sgeCheck : ∃ (e : Fin 16) (b : Bool) (s : State) (r : Running) (w : Nat),
    (b = false ∧ s.executor e = some r) ∧ (w = s.instr r.old r.pc ∧ insOp w = 3) :=
  ⟨1, false, wIns 3, _, _, ⟨rfl, rfl⟩, ⟨rfl, by decide +kernel⟩⟩

theorem witness_sgeMatch : ∃ (e : Fin 16) (b : Bool) (s : State) (r : Running) (w : Nat),
    (b = false ∧ s.executor e = some r) ∧ (w = s.instr r.old r.pc ∧ insOp w = 4) :=
  ⟨1, false, wIns 4, _, _, ⟨rfl, rfl⟩, ⟨rfl, by decide +kernel⟩⟩

theorem witness_sgeJump : ∃ (e : Fin 16) (b : Bool) (s : State) (r : Running) (w : Nat),
    (b = false ∧ s.executor e = some r) ∧ (w = s.instr r.old r.pc ∧ insOp w = 5) :=
  ⟨1, false, wIns 5, _, _, ⟨rfl, rfl⟩, ⟨rfl, by decide +kernel⟩⟩

theorem witness_sgePackk : ∃ (e : Fin 16) (b : Bool) (s : State) (r : Running) (w : Nat),
    (b = false ∧ s.executor e = some r) ∧ (w = s.instr r.old r.pc ∧ insOp w = 6) :=
  ⟨1, false, wIns 6, _, _, ⟨rfl, rfl⟩, ⟨rfl, by decide +kernel⟩⟩

theorem witness_sgeEntry : ∃ (e : Fin 16) (b : Bool) (s : State) (r : Running) (w : Nat),
    (b = false ∧ s.executor e = some r) ∧ (w = s.instr r.old r.pc ∧ insOp w = 7) :=
  ⟨1, false, wIns 7, _, _, ⟨rfl, rfl⟩, ⟨rfl, by decide +kernel⟩⟩

theorem witness_sgeTrig : ∃ (e : Fin 16) (b : Bool) (s : State) (r : Running) (w : Nat),
    (b = false ∧ s.executor e = some r) ∧ (w = s.instr r.old r.pc ∧ insOp w = 8) :=
  ⟨1, false, wIns 8, _, _, ⟨rfl, rfl⟩, ⟨rfl, by decide +kernel⟩⟩

theorem witness_SgeInstructionsComplete_9 : ∃ (e : Fin 16) (b : Bool) (i : Instr) (op : Nat) (s : State) (r : Running),
    ((i, op) ∈ [(Instr.sgeEnd e b, 0), (.sgeUnpack e b, 1), (.sgePack e b, 2), (.sgeCheck e b, 3), (.sgeMatch e b, 4), (.sgeJump e b, 5), (.sgePackk e b, 6), (.sgeEntry e b, 7), (.sgeTrig e b, 8)]) ∧ (b = true ∧ s.executor e = some r ∧ insOp (s.instr r.old r.pc) = op) :=
  ⟨1, _, .sgeEnd 1 true, 0, wIns 0, _, by decide +kernel, ⟨rfl, rfl, by decide +kernel⟩⟩

theorem witness_SgeInstructionsComplete_10 : ∃ (e : Fin 16) (b : Bool) (i : Instr) (op : Nat) (s : State),
    ((i, op) ∈ [(Instr.sgeEnd e b, 0), (.sgeUnpack e b, 1), (.sgePack e b, 2), (.sgeCheck e b, 3), (.sgeMatch e b, 4), (.sgeJump e b, 5), (.sgePackk e b, 6), (.sgeEntry e b, 7), (.sgeTrig e b, 8)]) ∧ (s.executor e = none ∨ ∃ r, s.executor e = some r ∧ insOp (s.instr r.old r.pc) ≠ op) :=
  ⟨1, true, .sgeEnd 1 true, 0, wState, by decide +kernel, by decide +kernel⟩

theorem witness_SgeSchedulingComplete_0 : ∃ (u : Fin 7) (s : State) (q d : Nat) (v w : State) (b : Bool),
    (s.feederQueue = some q ∧ s.getF SgeStatus.modeActive ≠ 2) ∧ (s.dequeue q = some (d, v) ∧ (b, w) = v.readWhole d u) :=
  ⟨1, wFeed, _, _, _, _, _, ⟨rfl, by decide +kernel⟩, ⟨rfl, rfl⟩⟩

theorem witness_SgeSchedulingComplete_1 : ∃ (u : Fin 7) (s : State),
    (s.feederQueue = none ∨ s.getF SgeStatus.modeActive = 2 ∨ ∃ q, s.feederQueue = some q ∧ s.dequeue q = none) :=
  ⟨0, wState, by decide +kernel⟩

theorem witness_sgeDispatch : ∃ (e : Fin 16) (s : State) (j : SgeJob),
    (s.executor e = none ∧ s.getF SgeStatus.modeActive ≠ 2) ∧ (s.nextJob = some j) :=
  ⟨1, { wState with sge := { wState.sge with ready := [⟨none, 0, [], 0, 0, 0, 0⟩] } }, _, by decide +kernel, rfl⟩

theorem witness_SgeSchedulingComplete_3 : ∃ (e : Fin 16) (s : State),
    (s.executor e ≠ none ∨ s.getF SgeStatus.modeActive = 2 ∨ s.nextJob = none) :=
  ⟨1, wFeed, by decide +kernel⟩

theorem witness_signalTimeoutScan : ∃ (s : State),
    s.getF SgeStatus.modeActive ≠ 2 :=
  ⟨wState, by decide +kernel⟩

theorem witness_SgeSchedulingComplete_5 : ∃ (s : State),
    (s.getF SgeStatus.modeActive = 2) :=
  ⟨wState.setF SgeStatus.modeActive 2, by decide +kernel⟩

theorem witness_pduTimerRelease : ∃ (t : Fin 8192) (s : State) (b p d : Nat),
    ((s.timer t).next = some b ∧ s.timerPdu t = some (p, d)) ∧ (s.getF SgeStatus.modeActive ≠ 2 ∧ (s.timer t).aligned = true) :=
  ⟨1, wTimer true, 9, _, _, ⟨rfl, rfl⟩, by decide +kernel⟩

theorem witness_pduTimerRelease_free : ∃ (t : Fin 8192) (s : State) (b p d : Nat),
    ((s.timer t).next = some b ∧ s.timerPdu t = some (p, d)) ∧ (s.getF SgeStatus.modeActive ≠ 2 ∧ (s.timer t).aligned = false) :=
  ⟨1, wTimer false, 9, _, _, ⟨rfl, rfl⟩, by decide +kernel⟩

theorem witness_SgeSchedulingComplete_8 : ∃ (t : Fin 8192) (s : State),
    ((s.timer t).next = none ∨ s.timerPdu t = none ∨ s.getF SgeStatus.modeActive = 2) :=
  ⟨1, wFeed, by decide +kernel⟩

theorem witness_minGapEnd : ∃ (p : Fin 16384) (s : State) (t : Nat) (v : State),
    ((s.pdu p).lastDispatch = some t ∧ (s.pdu p).deferred = true) ∧ (v = s.timeTo (strandPlus t (usC (pdMinGap (s.entry (oPdu p)) * 100)))) :=
  ⟨1, wState.setPdu 1 { lastDispatch := some 9, deferred := true }, 9, _, ⟨by decide +kernel, by decide +kernel⟩, rfl⟩

theorem witness_SgeSchedulingComplete_10 : ∃ (p : Fin 16384) (s : State),
    ((s.pdu p).lastDispatch = none ∨ (s.pdu p).deferred = false) :=
  ⟨1, wFeed, by decide +kernel⟩

theorem witness_doorbellAccept : ∃ (a : BitVec 12) (b : BitVec 2) (d : BitVec 32) (p : BitVec 96) (s : State),
    srcKind a.toNat = some .counted ∧ b = 0 :=
  ⟨0x010, 0, 0, 0, wState, by decide +kernel⟩

theorem witness_doorbellAccept_level : ∃ (a : BitVec 12) (b : BitVec 2) (d : BitVec 32) (p : BitVec 96) (s : State),
    srcKind a.toNat = some .level ∧ (b = 1 ∨ b = 2) :=
  ⟨0x018, 1, 0, 0, wState, by decide +kernel⟩

theorem witness_doorbellAccept_payload : ∃ (a : BitVec 12) (b : BitVec 2) (d : BitVec 32) (p : BitVec 96) (s : State),
    srcKind a.toNat = some .payload ∧ b = 3 :=
  ⟨0x001, 3, 0, 0, wState, by decide +kernel⟩

theorem witness_EventCommandsTakeEffect_3 : ∃ (a : BitVec 12) (b : BitVec 2) (d : BitVec 32) (p : BitVec 96) (s : State),
    (srcKind a.toNat = none ∨ (srcKind a.toNat = some .counted ∧ b ≠ 0) ∨ (srcKind a.toNat = some .level ∧ (b = 0 ∨ b = 3)) ∨ (srcKind a.toNat = some .payload ∧ b ≠ 3)) :=
  ⟨0x010, 1, 0, 0, wState, by decide +kernel⟩

theorem witness_EventCommandsTakeEffect_4 : ∃ (q : Fin 64) (s : State) (d : Nat) (v : State),
    ((s.evq q).coalAt = some d ∧ v = s.timeTo d) :=
  ⟨1, wCoal, _, _, ⟨rfl, rfl⟩⟩

theorem witness_EventCommandsTakeEffect_5 : ∃ (q : Fin 64) (s : State),
    ((s.evq q).coalAt = none) :=
  ⟨1, wState, by decide +kernel⟩

theorem witness_tgtClaim : ∃ (t : Fin 5) (s : State) (a : Nat) (v : State),
    s.evqClaim t = (a, v) :=
  ⟨3, wState, _, _, rfl⟩

theorem witness_evqRdPtrWrite : ∃ (q : Fin 64) (b : Bool) (w : Word) (s : State),
    b = false ∨ 16 ≤ q.val :=
  ⟨20, true, 0, wState, by decide⟩

theorem witness_EventCommandsTakeEffect_9 : ∃ (q : Fin 64) (w : Word) (s : State),
    (q.val < 16) :=
  ⟨1, 0, wState, by decide +kernel⟩

theorem witness_escTimeoutExpiry : ∃ (q : Fin 64) (s : State) (d : Nat) (v : State),
    ((s.evq q).escAt = some d ∧ (16 ≤ q.val ∨ s.getF DeckBootStatus.stage ≠ 11)) ∧ (v = s.timeTo d) :=
  ⟨20, wState.setEvq 20 { escAt := some 9 }, 9, _, ⟨by decide +kernel, Or.inl (by decide)⟩, rfl⟩

theorem witness_EventCommandsTakeEffect_11 : ∃ (q : Fin 64) (s : State),
    ((s.evq q).escAt = none ∨ (q.val < 16 ∧ s.getF DeckBootStatus.stage = 11)) :=
  ⟨1, wState, by decide +kernel⟩

theorem witness_targetSleepChange : ∃ (t : Fin 6) (b : Bool) (s : State) (v : State),
    v = (if t.val = 0 then { s with haltA := b } else if t.val = 1 then { s with haltB := b } else if t.val = 3 ∧ b = true then { s with pcie := { s.pcie with linkUp := false } } else s) :=
  ⟨1, true, wState, _, rfl⟩

theorem witness_TrestleCommandsComplete_2 : ∃ (c : Fin 5) (s v : State) (g : FlushGroup),
    (v = s.txBacks ∧ v.store.groups.find? (fun g => g.cls == c.val && g.issued.isNone) = some g) :=
  ⟨1, wGroup none, _, _, ⟨rfl, rfl⟩⟩

theorem witness_TrestleCommandsComplete_3 : ∃ (c : Fin 5) (s v : State),
    (v = s.txBacks ∧ v.store.groups.find? (fun g => g.cls == c.val && g.issued.isNone) = none) :=
  ⟨1, (wGroup (some 9)), _, ⟨rfl, by decide +kernel⟩⟩

theorem witness_flushReadCompletion : ∃ (c : Fin 5) (b : Bool) (s : State) (g : FlushGroup),
    s.flushOldest c = some g :=
  ⟨1, false, wGroup (some 9), _, rfl⟩

theorem witness_flushTimeout : ∃ (c : Fin 5) (s : State) (g : FlushGroup),
    s.flushOldest c = some g :=
  ⟨1, wGroup (some 9), _, rfl⟩

theorem witness_TrestleCommandsComplete_6 : ∃ (c : Fin 5) (b : Bool) (s : State),
    (s.flushOldest c = none) :=
  ⟨1, false, (wGroup none), by decide +kernel⟩

theorem witness_TrestleCommandsComplete_10 : ∃ (u : Fin 7) (s v w : State) (q : Option Nat),
    (v = s.creditSync 22 ∧ (q, w) = v.hostSelect) :=
  ⟨0, wRings, wRings.creditSync 22, _, _, rfl, Prod.eta _⟩

theorem witness_TrestleCommandsComplete_11 : ∃ (b : Bool) (s v : State) (t : Nat),
    (v = s.txBacks ∧ v.txRing = some t) :=
  ⟨false, wRings, _, _, ⟨rfl, rfl⟩⟩

theorem witness_TrestleCommandsComplete_12 : ∃ (b : Bool) (s v : State),
    (v = s.txBacks ∧ v.txRing = none) :=
  ⟨false, (wGroup none), _, ⟨rfl, by decide +kernel⟩⟩

theorem witness_pollDue : ∃ (k : Fin 64) (s : State) (d : Nat) (v : State) (p : PollSt),
    ((s.poll k).due = some d ∧ v = s.timeTo d) ∧ (p = { s.poll k with due := some (strandPlus d (usC (plPeriod (v.par oDeck (0x9100 + k.val))))) }) :=
  ⟨1, wState.setPoll 1 { due := some 9 }, 9, _, _, ⟨rfl, rfl⟩, rfl⟩

theorem witness_pollReadComplete : ∃ (k : Fin 64) (b : Bool) (w : Word) (s : State) (v : State) (e : Nat),
    ((s.poll k).busy = true ∧ v = s.setPoll k { s.poll k with busy := false }) ∧ (e = s.par oDeck (0x9100 + k.val)) :=
  ⟨1, true, 0, wState.setPoll 1 { busy := true }, _, _, ⟨by decide +kernel, rfl⟩, rfl⟩

theorem witness_watchdogService : ∃ (b : Byte) (h : Bool) (s : State),
    (s.brim.wdClose ≠ none) ∧ (b.toNat = s.getF WdtStatus.nextToken ∧ s.brim.wdOpen ≤ s.brim.hb) :=
  ⟨1, false, { wState with brim := { wState.brim with wdClose := some 9 } }, by decide, by decide +kernel⟩

theorem witness_watchdogService_wrong : ∃ (b : Byte) (h : Bool) (s : State),
    (s.brim.wdClose ≠ none) ∧ (b.toNat ≠ s.getF WdtStatus.nextToken ∨ s.brim.hb < s.brim.wdOpen) :=
  ⟨5, false, { wState with brim := { wState.brim with wdClose := some 9 } }, by decide, by decide +kernel⟩

theorem witness_watchdogExpiry : ∃ (s : State) (d : Nat),
    s.brim.wdClose = some d :=
  ⟨{ wState with brim := { wState.brim with wdClose := some 9 } }, 9, rfl⟩

theorem witness_watchdogWarning : ∃ (s : State) (d : Nat) (v : State),
    s.brim.wdWarnAt = some d ∧ v = s.hbTo d :=
  ⟨{ wState with brim := { wState.brim with wdWarnAt := some 9 } }, 9, _, ⟨rfl, rfl⟩⟩

theorem witness_CausewayCommandsComplete_7 : ∃ (p : Fin 4) (s : State) (r v : Repeater),
    (r = s.repeater p ∧ r.waitUntil ≠ none ∧ r.handedOver = false ∧ r.owns = false) ∧ (v = { r with owns := true, waitUntil := none, ab := { r.ab with calibrated := false }, ba := { r.ba with calibrated := false } }) :=
  ⟨1, (wState.setRepeater 1 { waitUntil := some 9 }), _, _, ⟨rfl, by decide +kernel, by decide +kernel, by decide +kernel⟩, rfl⟩

theorem witness_CausewayCommandsComplete_8 : ∃ (p : Fin 4) (s : State) (r : Repeater),
    (r = s.repeater p ∧ (r.waitUntil = none ∨ r.handedOver = true ∨ r.owns = true)) :=
  ⟨1, { wState with brim := { wState.brim with wdClose := some 9 } }, _, ⟨rfl, by decide +kernel⟩⟩

theorem witness_CausewayCommandsComplete_9 : ∃ (p : Fin 4) (b : Bool) (f : CanFrame) (s v : State),
    (s.cwActive p = true ∧ f.kind.val = 0 ∧ ((s.repeater p).dir (!b)).busOff = false) ∧ (v = s.cwTake p b f) :=
  ⟨0, false, ⟨5, false, false, 0, false, false, 0, [], 0, 0, false, 0⟩, wCw, _, by decide +kernel, rfl⟩

theorem witness_CausewayCommandsComplete_10 : ∃ (p : Fin 4) (b : Bool) (f : CanFrame) (s : State),
    (s.cwActive p = false ∨ f.kind.val ≠ 0 ∨ ((s.repeater p).dir (!b)).busOff = true) :=
  ⟨1, false, ⟨5, false, false, 0, false, false, 0, [], 0, 0, false, 0⟩, { wState with brim := { wState.brim with wdClose := some 9 } }, by decide +kernel⟩

theorem witness_causewayAttemptEnd : ∃ (p : Fin 4) (b : Bool) (o : Fin 4) (s : State) (v : State) (d : RepeatDir) (m : List Byte) (t : Nat) (l : List (List Byte × Nat)),
    (v = s.cwAged p b 4 ∧ d = (v.repeater p).dir b ∧ d.fifo = (m, t) :: l) ∧ (v.cwActive p = true ∧ d.busOff = false ∧ d.calibrated = true) :=
  ⟨0, false, 0, wCw, _, _, _, _, _, ⟨rfl, rfl, rfl⟩, by decide +kernel⟩

theorem witness_CausewayCommandsComplete_12 : ∃ (p : Fin 4) (b : Bool) (o : Fin 4) (s : State) (v : State) (d : RepeatDir),
    (v = s.cwAged p b 4 ∧ d = (v.repeater p).dir b) ∧ (d.fifo = [] ∨ v.cwActive p = false ∨ d.busOff = true ∨ d.calibrated = false) :=
  ⟨1, false, 1, { wState with brim := { wState.brim with wdClose := some 9 } }, _, _, ⟨rfl, rfl⟩, by decide +kernel⟩

theorem witness_CausewayCommandsComplete_13 : ∃ (p : Fin 4) (b : Bool) (s : State) (d : RepeatDir),
    (d = (s.repeater p).dir b) :=
  ⟨1, false, { wState with brim := { wState.brim with wdClose := some 9 } }, _, rfl⟩

theorem witness_vcc5Loss : ∃ (s : State) (v : State),
    v = { s with brim := { s.brim with vcc5 := false } } :=
  ⟨wState, _, rfl⟩

theorem witness_vcc5Restored : ∃ (s : State) (v : State),
    v = { s with brim := { s.brim with vcc5 := true } } :=
  ⟨wState, _, rfl⟩

theorem witness_HatboxStorageFaultCommandsComplete_0 : ∃ (e : Fin 7) (u : Fin 4) (s : State) (v : State) (j : HbxJob) (g : EngineSt) (w : State),
    (v = s.bulkDrainCheck ∧ v.grant e 6 (v.engine e) = some (j, g)) ∧ (w = (v.setEngine e g).incHbx (3 + j.cls)) :=
  ⟨0, 1, wJob, _, _, _, _, ⟨rfl, rfl⟩, rfl⟩

theorem witness_HatboxStorageFaultCommandsComplete_1 : ∃ (e : Fin 7) (u : Fin 4) (s : State) (v : State),
    (v = s.bulkDrainCheck ∧ v.grant e 6 (v.engine e) = none) :=
  ⟨0, 1, { wState with hbx := { wState.hbx with retryAt := some 9 } }, _, ⟨rfl, by decide +kernel⟩⟩

theorem witness_entropyRetry : ∃ (b : Bool) (s : State) (d : Nat) (v : State),
    s.hbx.retryAt = some d ∧ v = s.timeTo d :=
  ⟨false, { wState with hbx := { wState.hbx with retryAt := some 9 } }, 9, _, ⟨rfl, rfl⟩⟩

theorem witness_challengeExpiry : ∃ (s : State) (c : List Byte) (d : Nat) (v : State),
    s.hbx.challenge = some (c, d) ∧ v = s.timeTo d :=
  ⟨{ wState with hbx := { wState.hbx with challenge := some ([], 9) } }, [], 9, _, ⟨rfl, rfl⟩⟩

theorem witness_persistInvalidate : ∃ (b : Bool) (s : State) (c t k : Nat),
    s.hbx.zeroising = some (c, t, k) ∧ k ≠ 0 :=
  ⟨false, { wState with hbx := { wState.hbx with zeroising := some (0, 5, 1) } }, 0, 5, 1, by decide⟩

theorem witness_HatboxStorageFaultCommandsComplete_6 : ∃ (b : Bool) (s : State),
    (s.hbx.zeroising = none ∨ ∃ c t, s.hbx.zeroising = some (c, t, 0)) :=
  ⟨false, wJob, Or.inl (by decide +kernel)⟩

theorem witness_HatboxStorageFaultCommandsComplete_7 : ∃ (k : Fin 64) (u : Fin 3) (l : List Byte) (s : State) (c : NvmeCmd),
    (s.store.laneGated = false ∧ s.store.nvme[k.val]? = some c) :=
  ⟨0, 1, [], wNvme, _, by decide, rfl⟩

theorem witness_storageLinkDown : ∃ (s : State),
    (s.store.state ≠ ssDetached ∧ s.absentVariant = false) :=
  ⟨wStore, by decide +kernel⟩

theorem witness_endStops : ∃ (s : State) (c : Nat × Nat) (l : List (Nat × Nat)),
    s.store.stopping = c :: l :=
  ⟨{ wStore with store := { wStore.store with stopping := [(0, 5), (1, 6)] } }, _, _, rfl⟩

theorem witness_HatboxStorageFaultCommandsComplete_10 : ∃ (s : State),
    (s.store.state = ssDetached ∨ s.absentVariant = true) :=
  ⟨wJob, by decide +kernel⟩

theorem witness_healthLogPoll : ∃ (a : Byte) (b : Byte) (t : BitVec 16) (m : BitVec 64) (s : State) (d : Nat) (v w : State),
    (s.store.healthAt = some d ∧ v = s.timeTo d) ∧ (w = { v with store := { v.store with critWarn := a.toNat, pctUsed := b.toNat, temp := t.toNat, mediaErrors := m.toNat, healthAt := some (strandPlus d (secC 10)) } }) :=
  ⟨0, 1, 2, 3, { wState with store := { wState.store with healthAt := some 9 } }, 9, _, _, ⟨rfl, rfl⟩, rfl⟩

theorem witness_HatboxStorageFaultCommandsComplete_13 : ∃ (u : Fin 7) (s : State) (x : Option (Desc × List Byte)) (v : State),
    (s.takeRead 184 u = some (x, v)) :=
  ⟨0, wRec, _, _, rfl⟩

theorem witness_HatboxStorageFaultCommandsComplete_14 : ∃ (u : Fin 7) (s : State),
    (s.takeRead 184 u = none) :=
  ⟨0, wJob, by decide +kernel⟩

theorem witness_faultInjectEnd : ∃ (n : Fin 512) (s : State) (d : Nat),
    tabFind s.fcu.injected n = some d :=
  ⟨5, { wState with fcu := { wState.fcu with injected := [(5, 9)] } }, 9, by decide +kernel⟩

theorem witness_HatboxStorageFaultCommandsComplete_19 : ∃ (n : Fin 512) (s : State),
    (tabFind s.fcu.injected n = none) :=
  ⟨5, wJob, by decide +kernel⟩

theorem witness_tgtClaim_none : ∃ (t : Fin 5) (s : State), s.evqPick t = none := ⟨3, wState, by decide +kernel⟩

theorem witness_tgtClaim_some : ∃ (t : Fin 5) (s v : State) (q n : Nat),
    (s.evqPick t = some q ∧ s.getF (EvqStatus.target q) = 3 ∧ 0 < s.evqFill q) ∧
    (n = (s.evRec q (s.evqRd q)).src + q * 2 ^ 12 + 2 ^ 18 + b2n (s.flag (EvqStatus.escalated q)) * 2 ^ 19) ∧
    (v = ((s.setF (EvqStatus.state q) evqClaimed).setF (EvqStatus.claimer q) t).syncIrq) :=
  ⟨3, (wCoal.setF (EvqStatus.target 1) 3).setF (EvqStatus.state 1) evqPending, _, 1, _, by decide +kernel, rfl, rfl⟩

theorem witness_tgtComplete_refused : ∃ (t : Fin 5) (q : Fin 64) (s : State),
    (s.getF (EvqStatus.state q) ≠ evqClaimed ∨ s.getF (EvqStatus.claimer q) ≠ t) :=
  ⟨3, 1, wState, by decide +kernel⟩

theorem witness_tgtComplete : ∃ (t : Fin 5) (q : Fin 64) (s v : State),
    (s.getF (EvqStatus.state q) = evqClaimed ∧ s.getF (EvqStatus.claimer q) = t) ∧ (v = s.evqResample q) :=
  ⟨3, 1, (wCoal.setF (EvqStatus.claimer 1) 3).setF (EvqStatus.state 1) evqClaimed, _, by decide +kernel, rfl⟩

theorem witness_evqRdPtrWrite_past : ∃ (q : Fin 64) (b : Bool) (w : Word) (s : State) (n : Nat),
    (b = false ∨ 16 ≤ q.val) ∧ (n = bitsOf w.toNat 6 0 ∧ s.evqFill q < (n + 128 - s.evqRd q) % 128) :=
  ⟨1, false, 2, wCoal, _, Or.inl rfl, rfl, by decide +kernel⟩

theorem witness_evqRdPtrWrite_moves : ∃ (q : Fin 64) (b : Bool) (w : Word) (s : State) (n : Nat),
    (b = false ∨ 16 ≤ q.val) ∧ (n = bitsOf w.toNat 6 0 ∧ (n + 128 - s.evqRd q) % 128 ≤ s.evqFill q) :=
  ⟨1, false, 1, wCoal, _, Or.inl rfl, rfl, by decide +kernel⟩

theorem witness_escTimeoutExpiry_pending : ∃ (q : Fin 64) (s : State) (d : Nat) (v : State),
    ((s.evq q).escAt = some d ∧ 16 ≤ q.val) ∧
    (v = (s.timeTo d).setEvq q { (s.timeTo d).evq q with escAt := none } ∧ v.getF (EvqStatus.state q) = evqPending) :=
  ⟨20, (wState.setEvq 20 { escAt := some 9 }).setF (EvqStatus.state 20) evqPending, 9, _, by decide +kernel, rfl, by decide +kernel⟩

theorem witness_msixVectorUnmask : ∃ (n : Fin 64) (s v : State),
    (v = { s with evt := { s.evt with msixTab := tabSet msixDefault s.evt.msixTab n (setBit (s.msixEntry n) 96 false) } } ∧ v.msixWaiting n = []) :=
  ⟨5, wState, _, rfl, by decide +kernel⟩

theorem witness_msixVectorUnmask_waits : ∃ (n : Fin 64) (s v : State) (q : Nat),
    (v = { s with evt := { s.evt with msixTab := tabSet msixDefault s.evt.msixTab n (setBit (s.msixEntry n) 96 false) } } ∧ v.msixWaiting n = [q]) ∧
    (v.targetAsleep 3 = false) :=
  ⟨0, { ((wCoal.setF (EvqStatus.target 1) 3).setF (EvqStatus.state 1) evqPending) with pcie := { wState.pcie with linkUp := true, busMaster := true, msixEnable := true } },
    _, 1, ⟨rfl, by decide +kernel⟩, by decide +kernel⟩

/-! ### The rules over the whole machine -/

/-- The same request with a reserved bit set in its header. -/
def wBadReq : Req := { wReq 0 [] with rsv := 1 }

theorem witness_stepRunsTheFrontCommand : ∃ (s : State), s.pending = [] := ⟨wState, by decide⟩

theorem witness_everyStepKeepsCanonicalForm : ∃ (s t : State), s.canonical = true ∧ step s = .next t :=
  ⟨wState, wState, by decide +kernel, rfl⟩

theorem witness_everyStepKeepsCountersInRange : ∃ (s t : State), s.countersInRange = true ∧ step s = .next t :=
  ⟨{ wState with ctrs := [(0, 2 ^ 64 - 1)] }, { wState with ctrs := [(0, 2 ^ 64 - 1)] }, by decide +kernel, rfl⟩

/-- A ticket of SEC.LIFECYCLE_ADVANCE, from DEVELOP to PRODUCE, with root key 2 revoked before. -/
def wLife : State :=
  { wState with fuses := { wState.fuses with lifecycle := 1, revoked := 4 },
                gci := { wState.gci with tickets := [{ wTick 5 with cmd := 0x0C17, payload := [2, 0, 0, 0, 0xFE, 0x11, 0, 0] }] } }

theorem witness_fusesChange : ∃ (i : Instr) (s t : State), exec i s = .next t ∧ t.fuses ≠ s.fuses :=
  ⟨.ticketComplete 0 5 ⟨0, []⟩, wLife, _, rfl, by decide +kernel⟩

theorem witness_fusesKeep : ∃ (i : Instr) (s t : State) (k : Nat), exec i s = .next t ∧ bitOf s.fuses.revoked k = true :=
  ⟨.storageLinkDown, wLife, _, 2, rfl, by decide +kernel⟩

theorem witness_firstFailingCheck : ∃ (i : Instr) (cmd : Nat) (q : Req) (s : State) (r : Resp),
    gciOf i = some (cmd, q) ∧ s.comes cmd q = true ∧ (s.taken cmd q).precheck cmd q = some r :=
  ⟨.deckIdentify (wReq 9 []), 0x0110, wReq 9 [], wState, ⟨stTxnUnknown, [], 0, 0⟩, by decide +kernel⟩

theorem witness_badHeader : ∃ (i : Instr) (cmd : Nat) (q : Req) (s : State),
    gciOf i = some (cmd, q) ∧ s.comes cmd q = true ∧
    (s.getF DeckBootStatus.stage ≠ 11 ∧ (s.gci.resetRunning = false ∨ servedInReset cmd = true)) ∧ s.headerRefused q :=
  ⟨.deckIdentify wBadReq, 0x0110, wBadReq, wState, rfl, by decide +kernel, by decide +kernel, .inl (by decide)⟩

theorem witness_unknownClass : ∃ (i : Instr) (cmd : Nat) (q : Req) (s : State),
    gciOf i = some (cmd, q) ∧ s.comes cmd q = true ∧
    (s.getF DeckBootStatus.stage ≠ 11 ∧ (s.gci.resetRunning = false ∨ servedInReset cmd = true)) ∧
    (¬ s.headerRefused q ∧ (s.taken cmd q).retryLeft cmd q = none) ∧ cmdRow cmd = none :=
  ⟨.verbGet 0x12 (wReq 0 []), 0x1201, wReq 0 [], wState, rfl, by decide +kernel, by decide +kernel, by decide +kernel, by decide +kernel⟩

theorem witness_configurationCommand : ∃ (i : Instr) (cmd : Nat) (q : Req) (r : CmdRow),
    gciOf i = some (cmd, q) ∧ cmdRow cmd = some r ∧ r.kind ≠ .o :=
  ⟨.fdbAgeingSet (wReq 7 []), 0x0714, wReq 7 [], ⟨0x0714, .c, false, 12, true, true⟩, by decide +kernel⟩

theorem witness_doorbellRefused : ∃ (n : Fin 16) (b : Bool) (w : Word) (s : State),
    (s.coreOn = true ∧ s.mbReached n (b2n b) = true) ∧ bitsOf w.toNat 15 0 = s.getF (MbSeq.lastPosted n) ∧ s.getF (MbStatus.state n) ≠ mbPosted :=
  ⟨3, false, 0x5A5AFFFF, wState, by decide +kernel⟩

theorem witness_doorbellRepeated : ∃ (n : Fin 16) (b : Bool) (w : Word) (s : State),
    (s.coreOn = true ∧ s.mbReached n (b2n b) = true) ∧ s.getF (MbStatus.state n) = mbIdle ∧ bitsOf w.toNat 31 16 = 0x5A5A ∧
    bitsOf w.toNat 15 0 ≠ s.getF (MbSeq.lastPosted n) :=
  ⟨0, false, 0x5A5A0000, wState, by decide +kernel⟩

theorem witness_strandHiLive : ∃ (s : State), s.coreOn = true ∧ tabFind s.ctrLatch StrandHi.off = none := ⟨wState, by decide⟩

theorem witness_coreOff : ∃ (s : State), s.coreOn = false :=
  ⟨{ wState with brim := { wState.brim with power := pwListening } }, by decide⟩

theorem witness_counterReads : ∃ (o h : BitVec 26) (s : State) (k : Nat),
    (s.coreOn = true ∧ o.toNat % 4 = 0 ∧ o.toNat < 0xFFFFFC ∧ (s.absentVariant = true → absentBlock o.toNat = false)) ∧
    (ctrAt o.toNat = some (k, false) ∧ h.toNat = o.toNat + 4) :=
  ⟨0x102008, 0x10200C, wState, ckey (oChan 0) cEth 32, by decide +kernel⟩

theorem witness_counterHighLive : ∃ (s : State) (a k : Nat),
    (a % 4 = 0 ∧ a < 0x1000000 ∧ (s.absentVariant = true → absentBlock a = false)) ∧
    (ctrAt a = some (k, true) ∧ tabFind s.ctrLatch a = none) :=
  ⟨wState, 0x10100C, ckey (oChan 0) cEth 1, by decide +kernel⟩

theorem witness_ethStats : ∃ (q : Req) (s : State), s.accepts 0x0404 q = true ∧ (orefOf (s.ctx 0x0404 q).payload).typ = 0x04 :=
  ⟨wReq 0 [4, 0, 255, 21, 255, 255, 255, 255], wState, by decide +kernel⟩

theorem witness_crownResets : ∃ (s : State) (d m e : Nat),
    (s.brim.power = pwRunning ∧ s.brim.entering ≠ some pwParked ∧
      (s.brim.supplyRetries.filter (fun t => s.brim.hb < t + secC 10)).length < 3) ∧
    (s.brim.power ≠ pwOff ∧ s.brim.power ≠ pwParked ∧ s.brim.power ≠ pwDegraded ∧ s.brim.vcc5 = true) ∧
    s.brim.wdClose = some d ∧ s.gci.fullReset = some (m, e) :=
  ⟨{ wUp with brim := { wUp.brim with wdClose := some 9, vcc5 := true }, gci := { wUp.gci with fullReset := some (0, 7) } }, 9, 0, 7, by decide +kernel⟩

theorem witness_ageing : ∃ (s : State), tabWf ctrDefault s.fwd.learnt = true ∧ s.fwRunning = true ∧ s.par oDeck pidAgeing ≠ 0 :=
  ⟨wLearnt, by decide +kernel⟩

theorem witness_ageingOff : ∃ (s : State), s.par oDeck pidAgeing = 0 :=
  ⟨{ wState with cfg := [(pkey oDeck pidAgeing, 0)] }, by decide +kernel⟩

theorem witness_bar2Write : ∃ (o : BitVec 26) (l : List Byte) (a : Nat) (s : State),
    s.coreOn = true ∧ o.toNat ≤ a ∧ a < o.toNat + l.length ∧ bar2Kind a = 1 :=
  ⟨0x1000000, [1], 0x1000000, wState, by decide +kernel⟩

theorem witness_bar2Write_writable : ∃ (o : BitVec 26) (l : List Byte), l ≠ [] ∧ ∀ a, o.toNat ≤ a → a < o.toNat + l.length → bar2Kind a ≠ 1 := by
  refine ⟨0x3000000, [1], by decide, fun a h1 h2 => ?_⟩
  obtain rfl : a = 0x3000000 := Nat.le_antisymm (Nat.lt_succ_iff.1 h2) h1
  decide +kernel

/-! ### Commands that cannot come, one for each check of WellFormed -/

theorem test_wf_request : Instr.wf (.deckIdentify (wReq 0 (zeros 1009))) = false := by decide +kernel
theorem test_wf_class : Instr.wf (.verbGet 0x12 (wReq 0 [])) = false := by decide
theorem test_wf_canIdentifier : CanFrame.ok ⟨0x800, false, false, 0, false, false, 0, [], 0, 0, false, 0⟩ = false := by decide
theorem test_wf_canLength : CanFrame.ok ⟨0x123, false, false, 0, false, false, 2, [1], 0, 0, false, 0⟩ = false := by decide
theorem test_wf_canFdLength : CanFrame.ok ⟨0x123, false, false, 1, false, false, 0, zeros 9, 0, 0, false, 0⟩ = false := by decide
theorem test_wf_canXlEmpty : CanFrame.ok ⟨0x123, false, false, 2, false, false, 0, [], 0, 0, false, 0⟩ = false := by decide
theorem test_wf_spiFrame : Instr.wf (.spiWriteFrame (zeros 1030)) = false := by decide +kernel
theorem test_wf_linResponse : linLenOk (zeros 9) = false := by decide
theorem test_wf_hostLink : Instr.wf (.hostLinkUp 4 3) = false := by decide
theorem test_wf_bulkPiece : unitLenOk (zeros 8193) = false := by decide +kernel
theorem test_wf_bar2Past : Instr.wf (.bar2Write 0x3FFFFFF 0 [1, 2] 0) = false := by decide
theorem test_wf_ethEmpty : ∀ a b c d e, Instr.wf (.ethFrameReceive a [] b c d e) = false := by intros; rfl
theorem test_wf_flushClass : ∀ a, Instr.wf (.flushReadCompletion 0 a) = false := by intros; rfl

end Sys2Proof.Tests
end

/-! O22: host reads and writes of the BARs, each access by the case of its size, alignment and target. -/

namespace Sys2Proof.Machine

/-! ### What a host write does (R9, R27, R30) -/

theorem State.hostWriteBar0_aligned (s : State) {off len : Nat} (req w : Nat) (h : len = 4 ∧ off % 4 = 0) :
    s.hostWriteBar0 off len req w = s.busWrite off w := by
  simp [State.hostWriteBar0, h]

theorem State.hostWriteBar0_misaligned (s : State) {off len : Nat} (req w : Nat) (h : len ≠ 4 ∨ off % 4 ≠ 0) :
    s.hostWriteBar0 off len req w = s.iwl iwMisaligned 0 off req len := by
  simp [State.hostWriteBar0, show ¬(len = 4 ∧ off % 4 = 0) by omega]

theorem State.hostWriteBar4_word (s : State) {off len : Nat} (w : Nat) (h : len = 4 ∧ off % 4 = 0 ∧ off < 0x400) :
    s.hostWriteBar4 off len w =
      s.msixSet (off / 16) (setBits (s.msixEntry (off / 16)) (off % 16 * 8 + 31) (off % 16 * 8) w) := by
  obtain ⟨hlen, halign, htable⟩ := h
  simp [State.hostWriteBar4, hlen, halign, htable]

theorem State.hostWriteBar4_other (s : State) {off len : Nat} (w : Nat) (h : len ≠ 4 ∨ off % 4 ≠ 0 ∨ 0x400 ≤ off) :
    s.hostWriteBar4 off len w = s := by
  simp [State.hostWriteBar4, show ¬((len = 4 ∧ off % 4 = 0) ∧ off < 0x400) by omega]

/-! ### What a host read of BAR0 does (R6, R27, R154, R338) -/

theorem State.hostReadBar0_refused (s : State) {a len : Nat}
    (h : len ≠ 4 ∨ a % 4 ≠ 0 ∨ (s.absentVariant = true ∧ absentBlock a = true)) :
    s.hostReadBar0 a len = s.readOut a 0 := if_pos h

/-- An aligned word whose block the variant has is read as a word. -/
theorem hostReadBar0_accepts {s : State} {a : Nat} (ha : a % 4 = 0) (hv : s.absentVariant = true → absentBlock a = false) :
    ¬(4 ≠ 4 ∨ a % 4 ≠ 0 ∨ (s.absentVariant = true ∧ absentBlock a = true)) := by
  rintro (h | h | ⟨h, h'⟩)
  · exact h rfl
  · exact h ha
  · simp [hv h] at h'

/-- A read of a word of the Strand counter or of a statistics counter goes through the latch. -/
theorem State.hostReadBar0_latching (s : State) {a : Nat} (ha : a % 4 = 0)
    (hv : s.absentVariant = true → absentBlock a = false)
    (hl : a = StrandLo.off ∨ a = StrandHi.off ∨ (ctrAt a).isSome = true) :
    s.hostReadBar0 a 4 = s.latchRead a := by
  rw [State.hostReadBar0, if_neg (hostReadBar0_accepts ha hv), if_pos hl]

/-- A read of any other word returns it and has its read's effect. -/
theorem State.hostReadBar0_plain (s : State) {a : Nat} (ha : a % 4 = 0)
    (hv : s.absentVariant = true → absentBlock a = false)
    (hc : ctrAt a = none) (hlo : a ≠ StrandLo.off) (hhi : a ≠ StrandHi.off) :
    s.hostReadBar0 a 4 = (s.readEffect a).readOut a (s.peek a) := by
  rw [State.hostReadBar0, if_neg (hostReadBar0_accepts ha hv), if_neg]
  rintro (h | h | h)
  · exact hlo h
  · exact hhi h
  · simp [hc] at h

theorem State.latchRead_strandLo (s : State) :
    s.latchRead StrandLo.off = { s.readOut StrandLo.off (s.strand % 2 ^ 32) with
      ctrLatch := tabInsert s.ctrLatch StrandHi.off (s.strand / 2 ^ 32) } := if_pos rfl

theorem State.latchRead_strandHi (s : State) :
    s.latchRead StrandHi.off = { s.readOut StrandHi.off (s.peek StrandHi.off) with
      ctrLatch := tabErase s.ctrLatch StrandHi.off } := by
  rw [State.latchRead, if_neg (by decide), if_pos rfl]

theorem State.latchRead_ctrLow (s : State) {a k : Nat} (hc : ctrAt a = some (k, false))
    (hlo : a ≠ StrandLo.off) (hhi : a ≠ StrandHi.off) :
    s.latchRead a = { s.readOut a (s.peek a) with
      ctrLatch := tabInsert s.ctrLatch (a + 4) (tabGet ctrDefault s.ctrs k / 2 ^ 32) } := by
  simp [State.latchRead, hlo, hhi, hc]

theorem State.latchRead_ctrHigh (s : State) {a k : Nat} (hc : ctrAt a = some (k, true))
    (hlo : a ≠ StrandLo.off) (hhi : a ≠ StrandHi.off) :
    s.latchRead a = { s.readOut a (s.peek a) with ctrLatch := tabErase s.ctrLatch a } := by
  simp [State.latchRead, hlo, hhi, hc]

/-! ### The commands -/

/-- A write of BAR0 whose target takes it. -/
theorem exec_registerWrite_bar0 (o : BitVec 24) (n : BitVec 13) (r : BitVec 16) (w : Word) (s : State) :
    exec (.registerWrite false o n r w 0) s = .next (s.hosted (s.hostWriteBar0 o.toNat n.toNat r.toNat w.toNat)) := rfl

theorem exec_registerWrite_bar4 (o : BitVec 24) (n : BitVec 13) (r : BitVec 16) (w : Word) (f : Fin 3) (s : State) :
    exec (.registerWrite true o n r w f) s = .next (s.hosted (s.hostWriteBar4 o.toNat n.toNat w.toNat)) := rfl

theorem exec_counterLowRead_bar0 (o : BitVec 26) (n : BitVec 13) (s : State) :
    exec (.counterLowRead 0 o n) s = .next (s.hosted (s.hostReadBar0 (o.toNat % 2 ^ 24) n.toNat)) := rfl

theorem exec_counterLowRead_word (o : BitVec 26) (s : State) :
    exec (.counterLowRead 0 o 4) s = .next (s.hosted (s.hostReadBar0 (o.toNat % 2 ^ 24) 4)) := rfl

/-- Settles O22: each access by the equation of its case. -/
theorem hostAccessesComplete : Obligations.HostAccessesComplete := by
  unfold Obligations.HostAccessesComplete
  refine ⟨?bar0Aligned, ?bar0Misaligned, ?bar0Failed, ?bar4Word, ?bar4Other, fun _ _ _ _ => rfl, ?bar2Failed,
    fun _ _ _ => rfl, ?readRefused, ?readCtrLow, ?readCtrHigh, ?readStrandLo, ?readStrandHi, ?readPlain,
    fun _ _ _ => rfl, fun _ _ _ => rfl, ?strandLoRead, fun _ => rfl, fun _ _ => rfl, fun _ _ => rfl⟩
  case bar0Aligned =>
    rintro o n r w s ⟨rfl, halign⟩
    have hlen : (4 : BitVec 13).toNat = 4 := rfl
    rw [exec_registerWrite_bar0, s.hostWriteBar0_aligned _ _ ⟨hlen, halign⟩]
  case bar0Misaligned =>
    intro o n r w s h
    rw [exec_registerWrite_bar0, s.hostWriteBar0_misaligned _ _ (h.imp_left fun hn => by bv_omega)]
  case bar0Failed =>
    intro o n r w f s hf
    simp [exec, execRegisterWrite, State.writeFailed, hf]
  case bar4Word =>
    rintro o n r w f s ⟨rfl, halign, htable⟩
    have hlen : (4 : BitVec 13).toNat = 4 := rfl
    rw [exec_registerWrite_bar4, s.hostWriteBar4_word _ ⟨hlen, halign, htable⟩]
  case bar4Other =>
    intro o n r w f s h
    rw [exec_registerWrite_bar4, s.hostWriteBar4_other _ (h.imp_left fun hn => by bv_omega), State.hosted_self]
  case bar2Failed =>
    intro o r l f s hf
    simp [exec, execBar2Write, State.writeFailed, hf]
  case readRefused =>
    rintro o n s a rfl h
    rw [exec_counterLowRead_bar0, s.hostReadBar0_refused (h.imp_left fun hn => by bv_omega)]
  case readCtrLow =>
    rintro o s a k ⟨rfl, ha, hv⟩ ⟨hc, hlo, hhi⟩
    rw [exec_counterLowRead_word, s.hostReadBar0_latching ha hv (.inr (.inr (by rw [hc]; rfl))), s.latchRead_ctrLow hc hlo hhi]
  case readCtrHigh =>
    rintro o s a k ⟨rfl, ha, hv⟩ ⟨hc, hlo, hhi⟩
    rw [exec_counterLowRead_word, s.hostReadBar0_latching ha hv (.inr (.inr (by rw [hc]; rfl))), s.latchRead_ctrHigh hc hlo hhi]
  case readStrandLo =>
    rintro o s a ⟨ha, hv⟩ rfl
    rw [exec_counterLowRead_word, ← ha, s.hostReadBar0_latching (by decide) hv (.inl rfl), s.latchRead_strandLo]
  case readStrandHi =>
    rintro o s a ⟨ha, hv⟩ rfl
    rw [exec_counterLowRead_word, ← ha, s.hostReadBar0_latching (by decide) hv (.inr (.inl rfl)), s.latchRead_strandHi]
  case readPlain =>
    rintro o s a ⟨rfl, ha, hv⟩ ⟨hc, hlo, hhi⟩
    rw [exec_counterLowRead_word, s.hostReadBar0_plain ha hv hc hlo hhi]
  case strandLoRead =>
    intro s
    rw [← s.latchRead_strandLo]
    rfl

end Sys2Proof.Machine

/-! O46: what every command keeps. `Keeps s t` says what no operation of the model takes from a state `s` on its way to a state `t`:
the commands that wait, the variant, the draws of free values, the fuses, the canonical form of memories and registers, and the ranges
of the counters. It is proved once for each operation, in the order in which the model defines them, and so holds of every command. -/

namespace Sys2Proof.Machine

/-! ### The relation -/

/-- `t` has what every operation keeps of `s`. -/
structure Keeps (s t : State) : Prop where
  pending : t.pending = s.pending
  absentVariant : t.absentVariant = s.absentVariant
  freeCount : s.freeCount ≤ t.freeCount
  fuses : t.fuses = s.fuses
  canonical : s.canonical = true → t.canonical = true
  countersInRange : s.countersInRange = true → t.countersInRange = true

section
variable {s t u : State}

@[refl] theorem Keeps.refl (s : State) : Keeps s s := ⟨rfl, rfl, le_rfl, rfl, id, id⟩

@[trans] theorem Keeps.trans (h : Keeps s t) (h' : Keeps t u) : Keeps s u where
  pending := h'.pending.trans h.pending
  absentVariant := h'.absentVariant.trans h.absentVariant
  freeCount := h.freeCount.trans h'.freeCount
  fuses := h'.fuses.trans h.fuses
  canonical := h'.canonical ∘ h.canonical
  countersInRange := h'.countersInRange ∘ h.countersInRange

theorem State.canonical_iff : s.canonical = true ↔ (Memory.wf s.bar0 = true ∧ Memory.wf s.bar2 = true ∧ Memory.wf s.host = true ∧
    Memory.wf s.flash = true ∧ Memory.wf s.gci.seg = true ∧ Memory.wf s.fw.banks = true) ∧ tabWf regDefault s.regs = true := by
  simp [State.canonical, State.memoriesWf, State.regsWf, and_assoc]

theorem State.countersInRange_iff : s.countersInRange = true ↔
    (∀ kv ∈ s.ctrs, kv.2 < 2 ^ 64) ∧ (∀ kv ∈ s.brim.cwCtrs, kv.2 < 2 ^ 64) ∧ s.strand < 2 ^ 48 := by
  simp only [State.countersInRange, Bool.and_eq_true, List.all_eq_true, decide_eq_true_eq, and_assoc]

/-- A change of what `Keeps` does not speak of: each such field may take any value, and of the three that hold a memory or counters
only that part must stay. -/
theorem Keeps.edit (h : Keeps s t) {cfg : Tab Nat} {oldCfg : Option (Tab Nat)} {ctrLatch : Tab Nat} {out : List Emit}
    {evt : EvtState} {pcie : PcieState} {haltA haltB : Bool} {gci : GciState} {brim : BrimState} {fcu : FcuState} {fabricOn : Bool}
    {pier : PierState} {buf : BufState} {fwd : FwdState} {egr : EgrState} {time : TimeState} {hbx : HbxState} {store : StoreState}
    {fw : FwState} {hatpin : HatpinState} {sge : SgeState} {chanOn : Tab Bool} {can : Tab CanLane} {lin : Tab LinLane}
    {spans : Tab SpanSt} (hseg : gci.seg = t.gci.seg := by rfl) (hcw : brim.cwCtrs = t.brim.cwCtrs := by rfl)
    (hbanks : fw.banks = t.fw.banks := by rfl) :
    Keeps s { t with
      cfg := cfg, oldCfg := oldCfg, ctrLatch := ctrLatch, out := out, evt := evt, pcie := pcie, haltA := haltA, haltB := haltB,
      gci := gci, brim := brim, fcu := fcu, fabricOn := fabricOn, pier := pier, buf := buf, fwd := fwd, egr := egr, time := time,
      hbx := hbx, store := store, fw := fw, hatpin := hatpin, sge := sge, chanOn := chanOn, can := can, lin := lin,
      spans := spans } := by
  refine h.trans ⟨rfl, rfl, le_rfl, rfl, ?_, ?_⟩
  · simp only [State.canonical_iff, hseg, hbanks]; exact id
  · simp only [State.countersInRange_iff, hcw]; exact id

/-! ### Shapes of programs -/

theorem Keeps.ite {c : Prop} {_ : Decidable c} {v : State} (h : Keeps s u) (h' : Keeps s v) : Keeps s (if c then u else v) := by
  split <;> assumption

/-- A choice whether to go on from a state. -/
theorem Keeps.iteThen {c : Prop} {_ : Decidable c} {v : State} (h : Keeps s u) (f : Keeps s u → Keeps s v) :
    Keeps s (if c then v else u) := (f h).ite h

theorem Keeps.iteElse {c : Prop} {_ : Decidable c} {v : State} (h : Keeps s u) (f : Keeps s u → Keeps s v) :
    Keeps s (if c then u else v) := h.ite (f h)

/-- A choice between two results, of which `π` is the state. -/
theorem Keeps.iteOn {α : Type} {c : Prop} {_ : Decidable c} {a b : α} (π : α → State) (h : Keeps s (π a)) (h' : Keeps s (π b)) :
    Keeps s (π (if c then a else b)) := by
  split <;> assumption

theorem Keeps.foldl {α : Type} {f : State → α → State} {l : List α} (h : Keeps s t)
    (hf : ∀ u x, Keeps s u → Keeps s (f u x)) : Keeps s (l.foldl f t) := by
  induction l generalizing t with
  | nil => exact h
  | cons x l ih => exact ih (hf t x h)

/-- A fold over results, of which `π` is the state. -/
theorem Keeps.foldlOn {α β : Type} {f : β → α → β} {l : List α} {b : β} (π : β → State) (h : Keeps s (π b))
    (hf : ∀ u x, Keeps s (π u) → Keeps s (π (f u x))) : Keeps s (π (l.foldl f b)) := by
  induction l generalizing b with
  | nil => exact h
  | cons x l ih => exact ih (hf b x h)

/-- The state of a result that has been taken apart. -/
theorem Keeps.snd {α : Type} {p : α × State} {a : α} (h : Keeps s p.2) (e : p = (a, u)) : Keeps s u := by
  subst e
  exact h

theorem Keeps.pair {α : Type} {a : α} (h : Keeps s u) : Keeps s (a, u).2 := h

/-- A function of the model may be unfolded as a function: this equation the kernel checks without a run of the function's body. -/
theorem Keeps.unfolded {α β : Type} {f g : State → α → β → State} {a : α} {b : β} (e : f = g) (h : Keeps s (g t a b)) :
    Keeps s (f t a b) := e ▸ h

/-- What a command does to a state that keeps what `s` has: it takes effect, and its next state keeps it too. -/
def KeptBy (s : State) (o : Host.Outcome State Fault Refusal) : Prop := ∃ t, o = .next t ∧ Keeps s t

theorem KeptBy.next (h : Keeps s t) : KeptBy s (.next t) := ⟨t, rfl, h⟩

/-- An access to the Core island, whether it takes place or not (R363). -/
theorem Keeps.hosted (h : Keeps s t) (h' : Keeps s u) : Keeps s (t.hosted u) := h'.ite h

/-! ### Registers, counters, time and free values -/

theorem Keeps.setRegs (h : Keeps s t) {r : Tab Word} (hr : tabWf regDefault t.regs = true → tabWf regDefault r = true) :
    Keeps s { t with regs := r } := by
  refine h.trans ⟨rfl, rfl, le_rfl, rfl, ?_, id⟩
  rw [State.canonical_iff, State.canonical_iff]
  exact And.imp_right hr

theorem Keeps.setReg (h : Keeps s t) {a : Nat} {w : Word} : Keeps s (t.setReg a w) := h.setRegs (tabWf_tabSet _ _ _)

theorem Keeps.setF (h : Keeps s t) {f : Field} {v : Nat} : Keeps s (t.setF f v) := h.setReg

theorem Keeps.setFlag (h : Keeps s t) {f : Field} {b : Bool} : Keeps s (t.setFlag f b) := h.setF

theorem mem_tabErase {α : Type} {k : Nat} : ∀ {t : Tab α} {x : Nat × α}, x ∈ tabErase t k → x ∈ t
  | (j, w) :: t, x, hx => by
    simp only [tabErase] at hx
    split at hx
    · exact .tail _ (mem_tabErase hx)
    · rcases List.mem_cons.1 hx with rfl | hx
      · exact .head _
      · exact .tail _ (mem_tabErase hx)

theorem mem_tabInsert {α : Type} {k : Nat} {v : α} : ∀ {t : Tab α} {x : Nat × α}, x ∈ tabInsert t k v → x = (k, v) ∨ x ∈ t
  | [], x, hx => .inl (List.mem_singleton.1 hx)
  | (j, w) :: t, x, hx => by
    simp only [tabInsert] at hx
    split at hx
    · exact List.mem_cons.1 hx
    · split at hx
      · exact (List.mem_cons.1 hx).imp_right (.tail _)
      · rcases List.mem_cons.1 hx with rfl | hx
        · exact .inr (.head _)
        · exact (mem_tabInsert hx).imp_right (.tail _)

theorem mem_tabSet {α : Type} [DecidableEq α] {d : Nat → α} {t : Tab α} {k : Nat} {v : α} {x : Nat × α} (hx : x ∈ tabSet d t k v) :
    x = (k, v) ∨ x ∈ t := by
  unfold tabSet at hx
  split at hx
  · exact .inr (mem_tabErase hx)
  · exact mem_tabInsert hx

/-- A counter set to a value in range leaves all in range. -/
theorem ctrs_tabSet_lt {t : Tab Nat} {k v : Nat} (hv : v < 2 ^ 64) (h : ∀ kv ∈ t, kv.2 < 2 ^ 64) :
    ∀ kv ∈ tabSet ctrDefault t k v, kv.2 < 2 ^ 64 := by
  intro kv hkv
  rcases mem_tabSet hkv with rfl | hkv
  · exact hv
  · exact h kv hkv

theorem Keeps.setCtrs (h : Keeps s t) {c : Tab Nat} (hc : (∀ kv ∈ t.ctrs, kv.2 < 2 ^ 64) → ∀ kv ∈ c, kv.2 < 2 ^ 64) :
    Keeps s { t with ctrs := c } := by
  refine h.trans ⟨rfl, rfl, le_rfl, rfl, id, ?_⟩
  rw [State.countersInRange_iff, State.countersInRange_iff]
  exact And.imp_left hc

/-- Counters kept among those that stood stay in range. -/
theorem Keeps.dropCtrs (h : Keeps s t) {c : Tab Nat} (hc : c ⊆ t.ctrs) : Keeps s { t with ctrs := c } :=
  h.setCtrs fun hr kv hkv => hr kv (hc hkv)

theorem Keeps.addCtr (h : Keeps s t) {o cls i k : Nat} : Keeps s (t.addCtr o cls i k) :=
  h.setCtrs (ctrs_tabSet_lt (by omega))

theorem Keeps.inc (h : Keeps s t) {o cls i : Nat} : Keeps s (t.inc o cls i) := h.addCtr

theorem Keeps.clearCtrs (h : Keeps s t) {o cls n : Nat} : Keeps s (t.clearCtrs o cls n) := by
  induction n with
  | zero => exact h
  | succ n ih => exact ih.dropCtrs fun _ => mem_tabErase

theorem Keeps.setCwCtrs (h : Keeps s t) {b : BrimState}
    (hc : (∀ kv ∈ t.brim.cwCtrs, kv.2 < 2 ^ 64) → ∀ kv ∈ b.cwCtrs, kv.2 < 2 ^ 64) : Keeps s { t with brim := b } := by
  refine h.trans ⟨rfl, rfl, le_rfl, rfl, id, ?_⟩
  rw [State.countersInRange_iff, State.countersInRange_iff]
  exact And.imp_right (And.imp_left hc)

theorem Keeps.setStrand (h : Keeps s t) {n : Nat} (hn : n < 2 ^ 48) : Keeps s { t with strand := n } := by
  refine h.trans ⟨rfl, rfl, le_rfl, rfl, id, ?_⟩
  rw [State.countersInRange_iff, State.countersInRange_iff]
  exact And.imp_right (And.imp_right fun _ => hn)

theorem Keeps.pass (h : Keeps s t) {n : Nat} : Keeps s (t.pass n) :=
  (h.setStrand (n := strandPlus t.strand n) (Nat.mod_lt _ (by decide))).edit

theorem Keeps.draw (h : Keeps s t) : Keeps s t.draw.2 :=
  h.trans ⟨rfl, rfl, Nat.le_succ _, rfl, id, id⟩

/-! ### Memories -/

theorem tabWfFrom_filter {α : Type} [DecidableEq α] (d : Nat → α) (p : Nat × α → Bool) : ∀ (t : Tab α) {lo : Nat},
    tabWfFrom d lo t = true → tabWfFrom d lo (t.filter p) = true
  | [], _, _ => rfl
  | (k, v) :: t, lo, h => by
    simp only [tabWfFrom, Bool.and_eq_true, decide_eq_true_eq] at h
    obtain ⟨⟨hlo, hv⟩, ht⟩ := h
    have hf := tabWfFrom_filter d p t ht
    rw [List.filter_cons]
    split
    · simp only [tabWfFrom, Bool.and_eq_true, decide_eq_true_eq]
      exact ⟨⟨hlo, hv⟩, hf⟩
    · exact tabWfFrom_mono d _ (by omega) hf

theorem Memory.wf_filter (p : Nat × Byte → Bool) {m : Memory} : Memory.wf m = true → Memory.wf (m.filter p) = true :=
  tabWfFrom_filter memDefault p m

theorem Keeps.setBar0 (h : Keeps s t) {m : Memory} (hm : Memory.wf t.bar0 = true → Memory.wf m = true) :
    Keeps s { t with bar0 := m } := by
  refine h.trans ⟨rfl, rfl, le_rfl, rfl, ?_, id⟩
  simp only [State.canonical_iff]
  tauto

theorem Keeps.setBar2 (h : Keeps s t) {m : Memory} (hm : Memory.wf t.bar2 = true → Memory.wf m = true) :
    Keeps s { t with bar2 := m } := by
  refine h.trans ⟨rfl, rfl, le_rfl, rfl, ?_, id⟩
  simp only [State.canonical_iff]
  tauto

theorem Keeps.setHost (h : Keeps s t) {m : Memory} (hm : Memory.wf t.host = true → Memory.wf m = true) :
    Keeps s { t with host := m } := by
  refine h.trans ⟨rfl, rfl, le_rfl, rfl, ?_, id⟩
  simp only [State.canonical_iff]
  tauto

theorem Keeps.setFlash (h : Keeps s t) {m : Memory} (hm : Memory.wf t.flash = true → Memory.wf m = true) :
    Keeps s { t with flash := m } := by
  refine h.trans ⟨rfl, rfl, le_rfl, rfl, ?_, id⟩
  simp only [State.canonical_iff]
  tauto

theorem Keeps.setSeg (h : Keeps s t) {g : GciState} (hm : Memory.wf t.gci.seg = true → Memory.wf g.seg = true) :
    Keeps s { t with gci := g } := by
  refine h.trans ⟨rfl, rfl, le_rfl, rfl, ?_, id⟩
  simp only [State.canonical_iff]
  tauto

theorem Keeps.setBanks (h : Keeps s t) {w : FwState} (hm : Memory.wf t.fw.banks = true → Memory.wf w.banks = true) :
    Keeps s { t with fw := w } := by
  refine h.trans ⟨rfl, rfl, le_rfl, rfl, ?_, id⟩
  simp only [State.canonical_iff]
  tauto

theorem Keeps.writeBar0 (h : Keeps s t) {a : Nat} {l : List Byte} : Keeps s { t with bar0 := memWrites t.bar0 a l } :=
  h.setBar0 (memWrites_wf _ _)

theorem Keeps.writeBar2 (h : Keeps s t) {a : Nat} {l : List Byte} : Keeps s { t with bar2 := memWrites t.bar2 a l } :=
  h.setBar2 (memWrites_wf _ _)

theorem Keeps.writeHost (h : Keeps s t) {a : Nat} {l : List Byte} : Keeps s { t with host := memWrites t.host a l } :=
  h.setHost (memWrites_wf _ _)

theorem Keeps.writeFlash (h : Keeps s t) {a : Nat} {l : List Byte} : Keeps s { t with flash := memWrites t.flash a l } :=
  h.setFlash (memWrites_wf _ _)

theorem Keeps.writeSeg (h : Keeps s t) {a : Nat} {l : List Byte} :
    Keeps s { t with gci := { t.gci with seg := memWrites t.gci.seg a l } } :=
  h.setSeg (memWrites_wf _ _)

theorem Keeps.writeBanks (h : Keeps s t) {a : Nat} {l : List Byte} :
    Keeps s { t with fw := { t.fw with banks := memWrites t.fw.banks a l } } :=
  h.setBanks (memWrites_wf _ _)

end

end Sys2Proof.Machine

/-! O46, continued: what each operation of the model keeps, in the model's order and with one lemma each. The lemmas of the operations
that an operation is made of, chained, are its proof. -/

namespace Sys2Proof.Machine

section
variable {s t u : State}

-- The theorems are many and short: checked at the same time, all that wait for a slow one would each hold a thread.
set_option Elab.async false

/-! ### Operations of Ops -/

theorem Keeps.setPar (h : Keeps s t) {o pid v : Nat} : Keeps s (t.setPar o pid v) := h.edit

theorem Keeps.timeTo (h : Keeps s t) {d : Nat} : Keeps s (t.timeTo d) := h.ite h.pass

theorem Keeps.hbTo (h : Keeps s t) {d : Nat} : Keeps s (t.hbTo d) := h.pass.ite h.edit

/-! ### Operations of Events -/

theorem Keeps.setEvq (h : Keeps s t) {q : Nat} {v : EvQueue} : Keeps s (t.setEvq q v) := h.edit

theorem Keeps.setEvRec (h : Keeps s t) {q k : Nat} {r : EvRec} : Keeps s (t.setEvRec q k r) := h.edit

theorem Keeps.syncIrq (h : Keeps s t) : Keeps s t.syncIrq := h.edit

theorem Keeps.msixDeliver (h : Keeps s t) {q : Nat} : Keeps s (t.msixDeliver q) := h.ite (h.edit.ite h.edit.setF.setF)

theorem Keeps.evqSignal (h : Keeps s t) {q : Nat} : Keeps s (t.evqSignal q) :=
  ((h.msixDeliver.ite h).iteThen fun hu => hu.setF.setF).syncIrq

theorem Keeps.evqEscalate (h : Keeps s t) {q : Nat} : Keeps s (t.evqEscalate q) := h.ite h.setF.evqSignal

theorem Keeps.evqEnterPending (h : Keeps s t) {q : Nat} : Keeps s (t.evqEnterPending q) :=
  h.setEvq.setF.evqEscalate.ite h.setEvq.setF.evqSignal

theorem Keeps.evqToIdle (h : Keeps s t) {q : Nat} : Keeps s (t.evqToIdle q) := h.setEvq.setF.setF.setF.syncIrq

theorem Keeps.evqWrite (h : Keeps s t) {q : Nat} {r : EvRec} : Keeps s (t.evqWrite q r) := by
  unfold State.evqWrite
  refine h.setEvRec.setF.setF.setEvq.ite (h.setEvRec.setF.setF.setEvq.evqEnterPending.ite ?_)
  split
  · exact h.setEvRec.setF.setF.setEvq
  · exact h.setEvRec.setF.setF.setEvq.setEvq

theorem Keeps.evqDrop (h : Keeps s t) {q : Nat} : Keeps s (t.evqDrop q) := h.setF.setEvq

theorem Keeps.setRoute (h : Keeps s t) {src r : Nat} {v : RouteSt} : Keeps s (t.setRoute src r v) := h.edit

theorem Keeps.occurOn (h : Keeps s t) {src detail : Nat} {inj : Bool} {rq : Nat × Nat} :
    Keeps s (t.occurOn src detail inj rq) := by
  unfold State.occurOn
  dsimp only
  exact h.setRoute.ite h.evqWrite

theorem Keeps.occur (h : Keeps s t) {src detail : Nat} {inj : Bool} : Keeps s (t.occur src detail inj) :=
  h.foldl fun _ _ hu => hu.occurOn

theorem Keeps.payloadOn (h : Keeps s t) {src pay : Nat} {inj : Bool} {q : Nat} : Keeps s (t.payloadOn src pay inj q) :=
  h.evqDrop.ite h.evqWrite

theorem Keeps.payload (h : Keeps s t) {src pay : Nat} {inj : Bool} : Keeps s (t.payload src pay inj) :=
  h.foldl fun _ _ hu => hu.payloadOn

theorem Keeps.levelWrite (h : Keeps s t) {src detail stamp : Nat} {rq : Nat × Nat} :
    Keeps s (t.levelWrite src detail stamp rq) := by
  unfold State.levelWrite
  dsimp only
  exact h.ite (h.setRoute.ite h.setRoute.evqWrite)

theorem Keeps.levelFall (h : Keeps s t) {src : Nat} {rq : Nat × Nat} : Keeps s (t.levelFall src rq) := by
  unfold State.levelFall
  dsimp only
  exact h.setRoute.iteElse fun hu => (hu.foldl fun _ _ hv => hv.setEvRec).evqToIdle.ite ((hu.foldl fun _ _ hv =>
      hv.setEvRec).iteThen fun hv => hv.setEvq)

theorem Keeps.level (h : Keeps s t) {src : Nat} {cond : Bool} {detail : Nat} : Keeps s (t.level src cond detail) :=
  h.ite (h.edit.foldl fun _ _ hu => hu.levelWrite.ite hu.levelFall)

theorem Keeps.evqRefill (h : Keeps s t) {q : Nat} : Keeps s (t.evqRefill q) :=
  (h.foldl fun _ _ hu => hu.setRoute.evqWrite.ite hu).foldl fun _ _ hu => hu.foldl fun _ _ hv => hv.levelWrite.ite hv

theorem Keeps.evqMoveRd (h : Keeps s t) {q ptr : Nat} : Keeps s (t.evqMoveRd q ptr) :=
  h.setF.ite h.setF.setF.evqRefill

theorem Keeps.evqClaim (h : Keeps s t) {t' : Nat} : Keeps s (t.evqClaim t').2 := by
  unfold State.evqClaim
  split
  · exact h
  · exact (h.setF.setF.iteElse fun hu => hu.setEvq).syncIrq

theorem Keeps.evqResample (h : Keeps s t) {q : Nat} : Keeps s (t.evqResample q) :=
  h.foldl fun _ _ hu => hu.foldl fun _ _ hv => hv.evqWrite.ite hv

theorem Keeps.evqComplete (h : Keeps s t) {q t' : Nat} : Keeps s (t.evqComplete q t') :=
  h.setF.ite (h.evqResample.evqToIdle.iteThen fun hu => hu.evqEnterPending)

theorem Keeps.evqTargetSlept (h : Keeps s t) {t' : Nat} : Keeps s (t.evqTargetSlept t') :=
  (h.foldl fun _ _ hu => hu.evqEscalate.ite hu).syncIrq

theorem Keeps.hostTarget (h : Keeps s t) {was : Bool} : Keeps s (t.hostTarget was) :=
  (h.ite h.evqTargetSlept).ite ((h.foldl fun _ _ hu => hu.evqSignal.ite hu).ite h)

theorem Keeps.event (h : Keeps s t) {f : Field} {src detail : Nat} : Keeps s (t.event f src detail) := h.setF.occur

theorem Keeps.syncMbLevel (h : Keeps s t) {n : Nat} : Keeps s (t.syncMbLevel n) := h.level

theorem Keeps.execDoorbellAccept (h : Keeps s t) {src : BitVec 12} {op : BitVec 2} {detail : BitVec 32} {pay : BitVec 96} :
    KeptBy s (execDoorbellAccept src op detail pay t) := by
  unfold Machine.execDoorbellAccept
  refine .next ?_
  split
  · exact h.occur
  · exact h.level
  · exact h.level
  · exact h.payload
  · exact h

theorem Keeps.execCoalesceTimeExpiry (h : Keeps s t) {q : Fin 64} : KeptBy s (execCoalesceTimeExpiry q t) := by
  unfold Machine.execCoalesceTimeExpiry
  refine .next ?_
  split
  · exact h
  · exact h.timeTo.evqEnterPending.ite h.timeTo.setEvq

theorem Keeps.execTgtClaim (h : Keeps s t) {t' : Fin 5} : KeptBy s (execTgtClaim t' t) := by
  unfold Machine.execTgtClaim
  dsimp only
  exact .next (h.hosted h.evqClaim.edit)

theorem Keeps.execTgtComplete (h : Keeps s t) {t' : Fin 5} {q : Fin 64} : KeptBy s (execTgtComplete t' q t) :=
  .next (h.hosted h.evqComplete)

theorem Keeps.execEvqRdPtrWrite (h : Keeps s t) {q : Fin 64} {host : Bool} {w : Word} :
    KeptBy s (execEvqRdPtrWrite q host w t) :=
  .next (h.hosted (h.ite h.evqMoveRd))

theorem Keeps.escDue (h : Keeps s t) {q : Nat} : Keeps s (t.escDue q) :=
  h.evqEscalate.ite ((h.setF.setF.iteThen fun hu => hu.setF.setF).syncIrq.ite h)

theorem Keeps.execEscTimeoutExpiry (h : Keeps s t) {q : Fin 64} : KeptBy s (execEscTimeoutExpiry q t) := by
  unfold Machine.execEscTimeoutExpiry
  refine .next ?_
  split
  · exact h
  · exact h.ite h.timeTo.setEvq.escDue

theorem Keeps.execTargetSleepChange (h : Keeps s t) {t' : Fin 6} {asleep : Bool} :
    KeptBy s (execTargetSleepChange t' asleep t) :=
  .next (h.edit.ite (h.edit.ite (h.edit.ite h))).evqTargetSlept

theorem Keeps.msixSet (h : Keeps s t) {v e : Nat} : Keeps s (t.msixSet v e) := by
  unfold State.msixSet
  dsimp only
  split
  · exact h.edit.syncIrq
  · exact h.edit.syncIrq.ite (h.edit.msixDeliver.foldl fun _ _ hu => hu.setF.setF).syncIrq

theorem Keeps.execMsixVectorUnmask (h : Keeps s t) {v : Fin 64} : KeptBy s (execMsixVectorUnmask v t) := .next h.msixSet

/-! ### Operations of Fault -/

theorem Keeps.bootFail (h : Keeps s t) {code : Nat} : Keeps s (t.bootFail code) := h.setF.payload.ite h.setF.edit

theorem Keeps.inhLearn (h : Keeps s t) : Keeps s t.inhLearn := h.edit.ite h

theorem Keeps.syncInh (h : Keeps s t) : Keeps s t.syncInh := h.inhLearn.setF.edit

theorem Keeps.setPower (h : Keeps s t) {p : Nat} : Keeps s (t.setPower p) :=
  (((h.edit.setF.iteThen fun hu => hu.event).ite (h.edit.iteThen fun hu => hu.edit)).iteElse fun hu => hu.edit).setF.syncInh

theorem Keeps.syncFault (h : Keeps s t) : Keeps s t.syncFault := h.setF.iteElse fun hu => hu.setFlag.edit

theorem Keeps.syncLatchBit (h : Keeps s t) {i : Nat} : Keeps s (t.syncLatchBit i) := h.setF

theorem Keeps.setRepeater (h : Keeps s t) {p : Nat} {r : Repeater} : Keeps s (t.setRepeater p r) := h.edit

theorem Keeps.cwFollow (h : Keeps s t) : Keeps s t.cwFollow :=
  h.foldl fun _ _ hu => (hu.setRepeater.ite hu).ite (hu.setRepeater.ite hu)

theorem Keeps.watchdogWindow (h : Keeps s t) {boot hold : Bool} : Keeps s (t.watchdogWindow boot hold) := by
  unfold State.watchdogWindow
  dsimp only
  exact h.edit

theorem Keeps.watchdogAgain (h : Keeps s t) : Keeps s t.watchdogAgain := h.watchdogWindow.ite h

theorem Keeps.causewayRelease (h : Keeps s t) : Keeps s t.causewayRelease :=
  h.foldl fun _ _ hu => hu.setRepeater.ite (hu.setRepeater.ite hu)

theorem Keeps.variantPools (h : Keeps s t) : Keeps s t.variantPools := h.setF.ite h

/-- A Crown-die reset leaves the waiting commands, the variant, the draws, the fuses and the memories outside the die; what it clears is
in canonical form, and its counters stand at 0. -/
theorem Keeps.crownClear (h : Keeps s t) : Keeps s t.crownClear := by
  have hc : Keeps s { cfg := t.brim.nvm,
                      brim := { t.brim with wdClose := none, wdWarnAt := none, parkHeld := false, thermFallAt := none },
                      fuses := t.fuses, flash := t.flash, host := t.host, out := t.out, absentVariant := t.absentVariant,
                      freeCount := t.freeCount, pending := t.pending } := by
    refine h.trans ⟨rfl, rfl, le_rfl, rfl, ?_, ?_⟩
    · rw [State.canonical_iff, State.canonical_iff]
      exact fun ⟨⟨_, _, hhost, hflash, _, _⟩, _⟩ => ⟨⟨rfl, rfl, hhost, hflash, rfl, rfl⟩, rfl⟩
    · rw [State.countersInRange_iff, State.countersInRange_iff]
      exact fun ⟨_, hcw, _⟩ => ⟨List.forall_mem_nil _, hcw, Nat.two_pow_pos 48⟩
  exact hc.setReg.setReg.setF.setF.setF.setReg.setF.variantPools.foldl fun _ _ hu => hu.setF

theorem Keeps.crownReset (h : Keeps s t) {cause : Field} : Keeps s (t.crownReset cause) :=
  ((h.crownClear.setF.iteThen fun hu => hu.setF).iteThen fun hu => hu.setF).causewayRelease

theorem Keeps.crownHalt (h : Keeps s t) : Keeps s t.crownHalt := h.ite h.setF.edit.setPower.causewayRelease.syncFault

theorem Keeps.logFault (h : Keeps s t) {input action : Nat} {injected limited fn : Bool} {detail : Nat} :
    Keeps s (t.logFault input action injected limited fn detail) :=
  h.edit

theorem Keeps.faultRise (h : Keeps s t) {i detail : Nat} {injected full : Bool} :
    Keeps s (t.faultRise i detail injected full) :=
  h.ite ((h.edit.syncLatchBit.iteElse fun hu => hu.setF.setF).logFault.level.syncFault.iteElse fun hu =>
      hu.edit.crownReset.ite (hu.crownHalt.ite (hu.edit.evqTargetSlept.ite hu)))

theorem Keeps.hatpinDown (h : Keeps s t) : Keeps s t.hatpinDown := h.faultRise.edit

theorem Keeps.faultFall (h : Keeps s t) {i : Nat} : Keeps s (t.faultFall i) := h.ite h.edit.syncLatchBit.level.syncFault

theorem Keeps.faultUnlatch (h : Keeps s t) {inputs : List Nat} : Keeps s (t.faultUnlatch inputs) :=
  (h.foldl fun _ _ hu => hu.edit.syncLatchBit.level.ite hu).setF.syncFault

theorem Keeps.execFaultInputRise (h : Keeps s t) {i : Fin 512} {detail : Word} : KeptBy s (execFaultInputRise i detail t) :=
  .next h.faultRise

theorem Keeps.execFaultInputFall (h : Keeps s t) {i : Fin 512} : KeptBy s (execFaultInputFall i t) := .next h.faultFall

theorem Keeps.execFaultInjectEnd (h : Keeps s t) {i : Fin 512} : KeptBy s (execFaultInjectEnd i t) := by
  unfold Machine.execFaultInjectEnd
  refine .next ?_
  split
  · exact h
  · exact h.timeTo.faultFall

/-! ### Operations of CanRing -/

theorem Keeps.setCan (h : Keeps s t) {n : Nat} {v : CanLane} : Keeps s (t.setCan n v) := h.edit

theorem Keeps.incCan (h : Keeps s t) {n i k : Nat} : Keeps s (t.incCan n i k) := h.addCtr

theorem Keeps.canEvent (h : Keeps s t) {n bit detail : Nat} : Keeps s (t.canEvent n bit detail) := h.event

theorem Keeps.setWord (h : Keeps s t) {a v : Nat} : Keeps s (t.setWord a v) := h.setReg

theorem Keeps.syncCanLevels (h : Keeps s t) {n : Nat} : Keeps s (t.syncCanLevels n) := h.level.level

theorem Keeps.txcWrite (h : Keeps s t) {n : Nat} {ring : Nat} {status : Nat} {attempts : Nat} {arb : Nat} {stamp : Nat} :
    Keeps s (t.txcWrite n ring status attempts arb stamp) :=
  h.writeBar2.setCan.setWord.syncCanLevels

theorem Keeps.countStatus (h : Keeps s t) {n st : Nat} : Keeps s (t.countStatus n st) := by
  unfold State.countStatus
  split
  · exact h.incCan
  · exact h

theorem Keeps.canEnds (h : Keeps s t) {n st : Nat} {comp : Option Nat} {attempts arbs stamp : Nat} :
    Keeps s (t.canEnds n st comp attempts arbs stamp) := by
  unfold State.canEnds
  dsimp only
  split
  · exact h.countStatus.txcWrite
  · exact h.countStatus

/-! ### Operations of Buffer -/

theorem Keeps.setCell (h : Keeps s t) {c : Nat} {v : Cell} : Keeps s (t.setCell c v) := h.edit

theorem Keeps.setDesc (h : Keeps s t) {d : Nat} {v : Desc} : Keeps s (t.setDesc d v) := h.edit

theorem Keeps.setPort (h : Keeps s t) {p : Nat} {v : EthPort} : Keeps s (t.setPort p v) := h.edit

theorem Keeps.decF (h : Keeps s t) {f : Field} {k : Nat} : Keeps s (t.decF f k) := h.setF

theorem Keeps.incF (h : Keeps s t) {f : Field} {k : Nat} : Keeps s (t.incF f k) := h.setF

theorem Keeps.incSw (h : Keeps s t) {i : Nat} : Keeps s (t.incSw i) := h.inc

theorem Keeps.incQ (h : Keeps s t) {q i : Nat} : Keeps s (t.incQ q i) := h.inc

theorem Keeps.setGate (h : Keeps s t) {p : Nat} {g : GateSt} : Keeps s (t.setGate p g) := h.edit

theorem Keeps.setTag (h : Keeps s t) {q : Nat} {v : QTag} : Keeps s (t.setTag q v) := h.edit

theorem Keeps.setCredit (h : Keeps s t) {p c : Nat} {v : Int} : Keeps s (t.setCredit p c v) := h.setPort

theorem Keeps.hostCredit (h : Keeps s t) {sending : Bool} : Keeps s (t.hostCredit sending) := h.setCredit.setPort

theorem Keeps.creditRun (h : Keeps s t) {p n at_ : Nat} : Keeps s (t.creditRun p n at_) :=
  (((h.foldl fun _ _ hu => hu.ite hu.setCredit).setCredit.ite (h.foldl fun _ _ hu =>
      hu.ite hu.setCredit).setCredit).foldl fun _ _ hu => hu.ite hu.setTag).setPort

theorem Keeps.creditSync (h : Keeps s t) {p : Nat} : Keeps s (t.creditSync p) := h.ite (h.hostCredit.ite h.creditRun)

theorem Keeps.wireFree (h : Keeps s t) {p : Nat} : Keeps s (t.wireFree p) := h.timeTo.ite h

theorem Keeps.creditSyncAll (h : Keeps s t) : Keeps s t.creditSyncAll := h.foldl fun _ _ hu => hu.creditSync

theorem Keeps.creditSyncQ (h : Keeps s t) {q : Nat} : Keeps s (t.creditSyncQ q) := by
  unfold State.creditSyncQ
  split
  · exact h.creditSync
  · exact h

theorem Keeps.setQueue (h : Keeps s t) {q : Nat} {l : List Nat} : Keeps s (t.setQueue q l) := h.creditSyncQ.edit.setF

theorem Keeps.fcSend (h : Keeps s t) {p : Nat} : Keeps s (t.fcSend p) := h.ite h.edit.inc.setPort

theorem Keeps.setXoff (h : Keeps s t) {p c : Nat} {b : Bool} : Keeps s (t.setXoff p c b) := h.ite h.setF.setPort

theorem Keeps.xoffCheck (h : Keeps s t) {p : Nat} : Keeps s (t.xoffCheck p) :=
  (h.foldl fun _ _ hu => hu.setXoff.ite (hu.setXoff.ite hu)).fcSend

theorem Keeps.xoffRefused (h : Keeps s t) {p c : Nat} : Keeps s (t.xoffRefused p c) := h.setXoff.ite h

theorem Keeps.takeDesc (h : Keeps s t) {init : Desc} {d : Nat} (e : t.takeDesc init = some (d, u)) : Keeps s u := by
  unfold State.takeDesc at e
  split at e <;> cases e
  exact h.setDesc.decF

theorem Keeps.freeDesc (h : Keeps s t) {d : Nat} : Keeps s (t.freeDesc d) := h.setDesc.incF

theorem Keeps.creditPool (h : Keeps s t) {c : Nat} : Keeps s (t.creditPool c) := by
  unfold State.creditPool
  dsimp only
  split
  · exact h
  · exact h.incF.ite h.edit
  · exact h.incF.ite h.edit
  · exact h.edit

theorem Keeps.debitCell (h : Keeps s t) {c port : Nat} {srcs : List Source} : Keeps s (t.debitCell c port srcs) :=
  h.setCell.decF.ite (h.setCell.edit.ite (h.setCell.decF.ite h))

theorem Keeps.freeCell (h : Keeps s t) {c : Nat} : Keeps s (t.freeCell c) := h.creditPool.edit.incF

theorem Keeps.putCell (h : Keeps s t) {owner : Nat} {port : Nat} {data : List Byte} {prev : Option Nat} {last : Bool} {c : Nat}
    (e : t.putCell owner port data prev last = some (c, u)) : Keeps s u := by
  unfold State.putCell at e
  split at e <;> cases e
  split
  · exact h.setCell.decF
  · exact h.setCell.decF.setCell

theorem Keeps.charge (h : Keeps s t) {q : Nat} {src : Source} : Keeps s (t.charge q src) := by
  unfold State.charge
  dsimp only
  split
  · exact h.incF.setF.incQ.edit.incQ
  · exact h.incF.setF.incQ.incQ
  · exact h.incF.setF.incQ

theorem Keeps.uncharge (h : Keeps s t) {d : Desc} : Keeps s (t.uncharge d) := h.decF.edit

theorem Keeps.ownerDone (h : Keeps s t) {o : Nat} : Keeps s (t.ownerDone o) :=
  h.ite (h.foldl fun _ _ hu => hu.freeCell).freeDesc.xoffCheck

theorem Keeps.releaseCopy (h : Keeps s t) {d : Nat} : Keeps s (t.releaseCopy d) :=
  (h.uncharge.setDesc.setDesc.ite h.uncharge.setDesc.freeDesc).ownerDone

theorem Keeps.enqClosed (h : Keeps s t) {q : Nat} (e : t.enqClosed q = some u) : Keeps s u := by
  simp only [State.enqClosed] at e
  split at e
  · cases e; exact h.incQ
  split at e
  · cases e; exact h.incQ
  split at e
  · cases e; exact h.inc
  split at e
  · split at e <;> cases e
    exact h.incCan
  split at e
  · split at e <;> cases e
    exact h.inc
  · cases e

theorem Keeps.enqRefused (h : Keeps s t) {c : CopySpec} {bytes : List Byte} (e : t.enqRefused c bytes = some u) : Keeps s u := by
  unfold State.enqRefused at e
  split at e
  · cases e; exact h.enqClosed ‹_›
  · split at e <;> cases e
    exact h.inc
  · cases e

theorem Keeps.refuseCell (h : Keeps s t) {d port cls : Nat} : Keeps s (t.refuseCell d port cls) :=
  h.uncharge.incQ.setDesc.xoffRefused

theorem Keeps.admitCopy (h : Keeps s t) {d port : Nat} : Keeps s (t.admitCopy d port).2 := by
  unfold State.admitCopy
  dsimp only
  split
  · exact h.charge.setDesc
  · exact h.refuseCell

theorem Keeps.admitAll (h : Keeps s t) {c port : Nat} {live : List Nat} : Keeps s (t.admitAll c port live).2 := by
  unfold State.admitAll
  dsimp only
  refine Keeps.debitCell (Keeps.foldlOn (Prod.snd ∘ Prod.snd) h ?_)
  intro _ _ hu
  split
  · exact hu.admitCopy.snd ‹State.admitCopy .. = _›
  · exact hu.admitCopy.snd ‹State.admitCopy .. = _›

theorem Keeps.dropCopies (h : Keeps s t) {owner : Nat} {ds : List Nat} : Keeps s (t.dropCopies owner ds) :=
  h.foldl fun _ _ hu => hu.setDesc.setDesc.ite hu.setDesc.freeDesc

theorem Keeps.linkCopy (h : Keeps s t) {d : Nat} : Keeps s (t.linkCopy d) := h.setDesc.setQueue.incQ

theorem Keeps.frameRefused (h : Keeps s t) {owner port cls : Nat} {adm : Bool} :
    Keeps s (t.frameRefused owner port cls adm) :=
  (h.ite h.setDesc.ownerDone).iteThen fun hu => hu.inc.event

theorem Keeps.makeCopies (h : Keeps s t) {owner : Nat} {bytes : List Byte} {specs : List CopySpec} :
    Keeps s (t.makeCopies owner bytes specs).2 := by
  unfold State.makeCopies
  refine Keeps.foldlOn Prod.snd h ?_
  intro _ _ hu
  dsimp only
  split
  · exact hu.enqRefused ‹State.enqRefused .. = _›
  · refine Keeps.iteOn Prod.snd hu.setDesc ?_
    split
    · exact hu.incQ
    · exact (hu.takeDesc ‹State.takeDesc .. = _›).setDesc

theorem Keeps.classCells (h : Keeps s t) {owner cls : Nat} {cells : List Nat} : Keeps s (t.classCells owner cls cells) :=
  h.foldl fun _ _ hu => hu.setCell

theorem Keeps.storeFrame (h : Keeps s t) {port stamp : Nat} {bytes : List Byte} {specs : List CopySpec} :
    Keeps s (t.storeFrame port stamp bytes specs).2 := by
  unfold State.storeFrame
  dsimp only
  split
  · exact h.incSw
  · refine Keeps.iteOn Prod.snd (Keeps.frameRefused (Keeps.foldl (Keeps.classCells (Keeps.setDesc (Keeps.foldlOn
      (Prod.snd ∘ Prod.snd) (h.takeDesc ‹State.takeDesc .. = _›).setDesc ?_))) fun _ _ hu => hu.incQ.xoffRefused))
      (Keeps.iteOn Prod.snd (Keeps.frameRefused (Keeps.foldlOn Prod.snd (Keeps.makeCopies (Keeps.classCells (Keeps.setDesc
      (Keeps.foldlOn (Prod.snd ∘ Prod.snd) (h.takeDesc ‹State.takeDesc .. = _›).setDesc ?_)))) (fun _ _ hu => hu.admitAll)))
      (Keeps.xoffCheck (Keeps.foldl (Keeps.dropCopies (Keeps.foldlOn Prod.snd (Keeps.makeCopies (Keeps.classCells
      (Keeps.setDesc (Keeps.foldlOn (Prod.snd ∘ Prod.snd) (h.takeDesc ‹State.takeDesc .. = _›).setDesc ?_)))) (fun _ _ hu =>
      hu.admitAll))) fun _ _ hu => hu.linkCopy)))
    · intro _ _ hu
      refine Keeps.iteOn (Prod.snd ∘ Prod.snd) hu ?_
      split
      · exact hu
      · exact hu.putCell ‹State.putCell .. = _›
    · intro _ _ hu
      refine Keeps.iteOn (Prod.snd ∘ Prod.snd) hu ?_
      split
      · exact hu
      · exact hu.putCell ‹State.putCell .. = _›
    · intro _ _ hu
      refine Keeps.iteOn (Prod.snd ∘ Prod.snd) hu ?_
      split
      · exact hu
      · exact hu.putCell ‹State.putCell .. = _›

theorem Keeps.dequeue (h : Keeps s t) {q d : Nat} (e : t.dequeue q = some (d, u)) : Keeps s u := by
  unfold State.dequeue at e
  split at e <;> cases e
  exact h.setQueue.setDesc

theorem Keeps.unqueue (h : Keeps s t) {d : Nat} : Keeps s (t.unqueue d) := h.setQueue

theorem Keeps.finishCopy (h : Keeps s t) {d : Nat} : Keeps s (t.finishCopy d) := h.incQ.releaseCopy

theorem Keeps.flushCopy (h : Keeps s t) {q d : Nat} : Keeps s (t.flushCopy q d) :=
  (h.incQ.iteThen fun hu => hu.canEnds).releaseCopy

theorem Keeps.flushQueue (h : Keeps s t) {q : Nat} : Keeps s (t.flushQueue q) := h.setQueue.foldl fun _ _ hu => hu.flushCopy

theorem Keeps.startFlush (h : Keeps s t) {qs : List Nat} {port can : Option Nat} : Keeps s (t.startFlush qs port can) := by
  unfold State.startFlush
  dsimp only
  split
  · exact h.edit.setF.setF
  · exact h.edit.setF

theorem Keeps.breakQueue (h : Keeps s t) {q : Nat} : Keeps s (t.breakQueue q) := h.ite h.setF.incSw.event.startFlush

theorem Keeps.forceQueue (h : Keeps s t) {q : Nat} : Keeps s (t.forceQueue q) := h.setF.setF.startFlush.edit

theorem Keeps.queueMended (h : Keeps s t) {q : Nat} : Keeps s (t.queueMended q) := h.ite h.setF

theorem Keeps.applyQueueDisable (h : Keeps s t) {q : Nat} : Keeps s (t.applyQueueDisable q) := by
  unfold State.applyQueueDisable
  split
  · exact h.setF.setF.edit
  · exact h.setF.iteElse fun hu => hu.setF.edit
  · exact h.forceQueue

theorem Keeps.linkMismatch (h : Keeps s t) {detail : Nat} : Keeps s (t.linkMismatch detail) := h.incSw.event.faultRise

theorem Keeps.eccUncorr (h : Keeps s t) {detail : Nat} : Keeps s (t.eccUncorr detail) := h.incSw.event.faultRise

theorem Keeps.execQueueDrainDone (h : Keeps s t) {q : Fin 2048} : KeptBy s (execQueueDrainDone q t) :=
  .next (h.setF.edit.ite h)

theorem Keeps.execQueueDrainTimeout (h : Keeps s t) {q : Fin 2048} : KeptBy s (execQueueDrainTimeout q t) := by
  unfold Machine.execQueueDrainTimeout
  refine .next ?_
  split
  · exact h
  · exact h.timeTo.forceQueue.ite h

theorem Keeps.leakReclaim (h : Keeps s t) {c : Nat} : Keeps s (t.leakReclaim c) := h.freeCell.incSw.edit.event

theorem Keeps.execAuditVisit (h : Keeps s t) {c : Fin 262144} : KeptBy s (execAuditVisit c t) :=
  .next (h.ite (h.setCell.ite (h.setCell.ite h.leakReclaim)))

theorem Keeps.auditNote (h : Keeps s t) {free : Nat} : Keeps s (t.auditNote free) := h.edit.setF.incSw

theorem Keeps.execAuditPassEnd (h : Keeps s t) {off : BitVec 17} : KeptBy s (execAuditPassEnd off t) :=
  .next (h.auditNote.iteThen fun hu => hu.incSw.event.faultRise)

theorem Keeps.execQPeakRead (h : Keeps s t) {q : Fin 2048} : KeptBy s (execQPeakRead q t) := .next (h.hosted h.setF.edit)

/-! ### Operations of Macsec -/

theorem Keeps.setSlot (h : Keeps s t) {k : Nat} {v : KeySlot} : Keeps s (t.setSlot k v) := h.edit

theorem Keeps.eraseSlot (h : Keeps s t) {k : Nat} : Keeps s (t.eraseSlot k) := h.ite h.setSlot.edit

theorem Keeps.setAssoc (h : Keeps s t) {p i : Nat} {v : SecAssoc} : Keeps s (t.setAssoc p i v) := h.edit

theorem Keeps.incMac (h : Keeps s t) {p i k : Nat} : Keeps s (t.incMac p i k) := h.addCtr

theorem Keeps.macEvent (h : Keeps s t) {p bit detail : Nat} : Keeps s (t.macEvent p bit detail) := h.event

theorem Keeps.syncMacsec (h : Keeps s t) {p : Nat} : Keeps s (t.syncMacsec p) := h.setF.setF.setF

theorem Keeps.macsecFrameStart (h : Keeps s t) {p : Nat} : Keeps s (t.macsecFrameStart p) := by
  unfold State.macsecFrameStart
  split
  · exact h
  · exact h.edit.setF.setF

theorem Keeps.saStart (h : Keeps s t) {p len : Nat} {bypass : Bool} : Keeps s (t.saStart p len bypass).2 := by
  unfold State.saStart
  refine Keeps.iteOn Prod.snd h (Keeps.iteOn Prod.snd h.macsecFrameStart.incMac ?_)
  dsimp only
  split
  · exact h.macsecFrameStart.incMac
  · exact Keeps.iteOn Prod.snd h.macsecFrameStart.incMac ((h.macsecFrameStart.setAssoc.iteThen fun hu =>
      hu.macEvent).iteThen fun hu => hu.setF.macEvent)

theorem Keeps.macsecTxStart (h : Keeps s t) {p : Nat} {body : List Byte} : Keeps s (t.macsecTxStart p body).2 := h.saStart

theorem Keeps.macsecProtect (h : Keeps s t) {p : Nat} {u : TxSa} {b : List Byte} : Keeps s (t.macsecProtect p u b).2 :=
  h.incMac.incMac

theorem Keeps.macsecRx (h : Keeps s t) {p : Nat} {b : List Byte} : Keeps s (t.macsecRx p b).2 := by
  unfold State.macsecRx
  refine Keeps.iteOn Prod.snd h (Keeps.iteOn Prod.snd h.incMac (Keeps.iteOn Prod.snd h.incMac (Keeps.iteOn Prod.snd h.incMac
      (Keeps.iteOn Prod.snd h.incMac ?_))))
  dsimp only
  split
  · exact h.incMac
  · split
    · exact h.incMac
    · exact Keeps.iteOn Prod.snd h.incMac (Keeps.iteOn Prod.snd h.incMac (Keeps.iteOn Prod.snd
        (Keeps.iteOn Prod.snd h.macEvent.incMac h.macEvent.incMac) (h.setAssoc.iteElse fun hu => hu.macEvent).incMac.incMac))

/-! ### Operations of PierLink -/

theorem Keeps.setPierPort (h : Keeps s t) {p : Nat} {v : PierPort} : Keeps s (t.setPierPort p v) := h.edit

theorem Keeps.setDeckInfo (h : Keeps s t) {d : Nat} {v : DeckInfo} : Keeps s (t.setDeckInfo d v) := h.edit

theorem Keeps.unitWire (h : Keeps s t) {p cls typ decks seq : Nat} {body : List Byte} :
    Keeps s (t.unitWire p cls typ decks seq body) :=
  h.inc.addCtr.edit

theorem Keeps.unitProtected (h : Keeps s t) {p len : Nat} {u : TxSa} : Keeps s (t.unitProtected p len u) :=
  h.incMac.incMac

theorem Keeps.unitOut (h : Keeps s t) {p cls typ decks seq : Nat} {body : List Byte} {prot : Option (Option TxSa)} :
    Keeps s (t.unitOut p cls typ decks seq body prot) := by
  unfold State.unitOut
  dsimp only
  refine h.unitWire.ite ?_
  split
  · split
    · exact h
    · exact h.saStart
  · refine Keeps.unitWire ?_
    split
    · exact h
    · exact h.saStart
  · refine Keeps.unitWire (Keeps.unitProtected ?_)
    split
    · exact h
    · exact h.saStart

theorem Keeps.unitSend (h : Keeps s t) {p cls typ decks : Nat} {body : List Byte} {prot : Option (Option TxSa)} :
    Keeps s (t.unitSend p cls typ decks body prot) :=
  h.setPierPort.unitOut

theorem Keeps.unitFlush (h : Keeps s t) {p n : Nat} : Keeps s (t.unitFlush p n) := by
  induction n generalizing t with
  | zero => exact h
  | succ n ih =>
    unfold State.unitFlush
    refine h.ite ?_
    split
    · exact h
    · exact ih h.setPierPort.unitSend

theorem Keeps.pierFlush (h : Keeps s t) {p : Nat} : Keeps s (t.pierFlush p) := h.unitFlush

theorem Keeps.pierSend (h : Keeps s t) {p cls typ decks : Nat} {body : List Byte} :
    Keeps s (t.pierSend p cls typ decks body) :=
  h.setPierPort.pierFlush

theorem Keeps.creditBack (h : Keeps s t) {p cls cells : Nat} : Keeps s (t.creditBack p cls cells) :=
  h.pierSend

/-! ### Operations of HostMem -/

theorem Keeps.incTr (h : Keeps s t) {i : Nat} : Keeps s (t.incTr i) := h.inc

theorem Keeps.logRing (h : Keeps s t) {wr rd base n src drop : Nat} {e : List Byte} :
    Keeps s (t.logRing wr rd base n src drop e) :=
  h.incTr.ite h.writeBar0.setReg.level

theorem Keeps.iwl (h : Keeps s t) {cause bar off req len : Nat} : Keeps s (t.iwl cause bar off req len) :=
  h.logRing

theorem Keeps.pdl (h : Keeps s t) {reason addr : Nat} : Keeps s (t.pdl reason addr) := h.incTr.logRing

theorem Keeps.prefetchDrop (h : Keeps s t) {t' reason : Nat} : Keeps s (t.prefetchDrop t' reason) := by
  unfold State.prefetchDrop
  split
  · exact h
  · exact h.edit.iteElse fun hu => hu.pdl

theorem Keeps.prefetchWritten (h : Keeps s t) {addr len : Nat} : Keeps s (t.prefetchWritten addr len) :=
  h.foldl fun _ _ hu => hu.prefetchDrop.ite hu

theorem Keeps.hostRead (h : Keeps s t) {addr len : Nat} : Keeps s (t.hostRead addr len).2 :=
  Keeps.iteOn Prod.snd h.incTr (Keeps.iteOn Prod.snd h h)

theorem Keeps.hostStore (h : Keeps s t) {addr : Nat} {d : List Byte} : Keeps s (t.hostStore addr d) :=
  h.ite h.prefetchWritten.writeHost.edit

theorem Keeps.hostWrite (h : Keeps s t) {addr : Nat} {d : List Byte} : Keeps s (t.hostWrite addr d).2 :=
  Keeps.iteOn Prod.snd (h.incTr.ite h) (Keeps.iteOn Prod.snd h.hostStore.incTr h.hostStore)

theorem Keeps.flushOne (h : Keeps s t) {d : List Byte} : Keeps s (t.flushOne d) := h.ite h.incTr

theorem Keeps.flushFailed (h : Keeps s t) {addr : Nat} : Keeps s (t.flushFailed addr) := h.incTr.occur

/-! ### Operations of Gci -/

theorem Keeps.answer (h : Keeps s t) {st : Nat} {payload : List Byte} : Keeps s (t.answer st payload).2 := h

theorem Keeps.busy (h : Keeps s t) {after : Nat} : Keeps s (t.busy after).2 := h

theorem Keeps.bulkRead (h : Keeps s t) {c : Ctx} {b : Bulk} : Keeps s (t.bulkRead c b).2 := Keeps.iteOn Prod.snd h h.hostRead

theorem Keeps.bulkWrite (h : Keeps s t) {c : Ctx} {b : Bulk} {d : List Byte} : Keeps s (t.bulkWrite c b d).2 := by
  unfold State.bulkWrite
  dsimp only
  exact Keeps.iteOn Prod.snd h.writeSeg (h.hostWrite.iteThen fun hu => hu.flushOne)

theorem Keeps.mbDoorbell (h : Keeps s t) {n w : Nat} : Keeps s (t.mbDoorbell n w) := h.setF.setF.setF.edit.ite h.setF

theorem Keeps.mbAck (h : Keeps s t) {n : Nat} : Keeps s (t.mbAck n) := h.setF.syncMbLevel.ite h

theorem Keeps.mbCancel (h : Keeps s t) {n : Nat} : Keeps s (t.mbCancel n) := h.setF.setF.ite h.setF

theorem Keeps.mbWriteReq (h : Keeps s t) {cmd : Nat} {q : Req} : Keeps s (t.mbWriteReq cmd q) := h.writeBar0.ite h

theorem Keeps.mbTake (h : Keeps s t) {n : Nat} : Keeps s (t.mbTake n) := h.setF

theorem Keeps.mbDiscard (h : Keeps s t) {n : Nat} : Keeps s (t.mbDiscard n) := h.edit

theorem Keeps.syncTickets (h : Keeps s t) {c : Nat} : Keeps s (t.syncTickets c) := h.foldl fun _ _ hu => hu.setF.ite hu

theorem Keeps.slotFeed (h : Keeps s t) : Keeps s t.slotFeed := by
  unfold State.slotFeed
  refine h.foldl ?_
  intro _ _ hu
  refine Keeps.ite ?_ hu
  split
  · exact hu
  · exact hu.writeBar0.edit.mbDoorbell

theorem Keeps.bulkUnits (h : Keeps s t) {deck num : Nat} {d : List Byte} : Keeps s (t.bulkUnits deck num d) :=
  h.foldl fun _ _ hu => hu.pierSend

theorem Keeps.slotSeg (h : Keeps s t) {n : Nat} : Keeps s (t.slotSeg n) := by
  unfold State.slotSeg
  refine h.ite ?_
  split
  · exact h
  · exact h.writeSeg

theorem Keeps.cplSend (h : Keeps s t) {n : Nat} {resp : List Byte} : Keeps s (t.cplSend n resp) := by
  unfold State.cplSend
  split
  · exact h
  · refine Keeps.slotFeed (Keeps.pierSend (Keeps.setF (Keeps.edit ?_)))
    split
    · exact h.bulkUnits
    · exact h

theorem Keeps.mbRespond (h : Keeps s t) {n cmd seq : Nat} {r : Resp} : Keeps s (t.mbRespond n cmd seq r) :=
  h.writeBar0.setF.setF.syncMbLevel.iteThen fun hu => hu.cplSend

theorem Keeps.openTicket (h : Keeps s t) {c : Ctx} {locks : List Nat} : Keeps s (t.openTicket c locks).2 := h.edit.syncTickets

theorem Keeps.pend (h : Keeps s t) {c : Ctx} {locks : List Nat} : Keeps s (t.pend c locks).2 := by
  unfold State.pend
  dsimp only
  exact h.openTicket

theorem Keeps.farOutput (h : Keeps s t) {t' : Ticket} {status : Nat} : Keeps s (t.farOutput t' status) := by
  unfold State.farOutput
  split
  · exact h
  · exact h.bulkUnits.ite h

theorem Keeps.finishTicket (h : Keeps s t) {client num status : Nat} {pay : List Byte} :
    Keeps s (t.finishTicket client num status pay) := by
  unfold State.finishTicket
  split
  · exact h
  · split
    · exact h
    · exact h.farOutput.edit.iteThen fun hu => hu.payload

theorem Keeps.freeTicket (h : Keeps s t) {client num : Nat} : Keeps s (t.freeTicket client num) := h.edit.syncTickets

theorem Keeps.busyLock (h : Keeps s t) {c : Ctx} {locks : List Nat} : Keeps s (t.busyLock c locks).2 := h.busy

theorem Keeps.putChanges (h : Keeps s t) {c : Ctx} {d : Draft} {changes : List (Nat × Nat)} :
    Keeps s (t.putChanges c d changes) :=
  h.edit

theorem Keeps.stage (h : Keeps s t) {c : Ctx} {changes : List (Nat × Nat)} {pay : List Byte} :
    Keeps s (t.stage c changes pay).2 := by
  unfold State.stage
  split
  · exact h.answer
  · exact Keeps.iteOn Prod.snd h.busyLock (Keeps.iteOn Prod.snd h.answer h.putChanges.answer)

theorem Keeps.dropDraft (h : Keeps s t) {handle : Nat} : Keeps s (t.dropDraft handle) := h.edit

theorem Keeps.draftUse (h : Keeps s t) {cmd : Nat} {q : Req} : Keeps s (t.draftUse cmd q) := h.edit.ite h

theorem Keeps.noteRetry (h : Keeps s t) {cmd : Nat} {q : Req} {r : Resp} : Keeps s (t.noteRetry cmd q r) := h.ite h.edit

theorem Keeps.sendReq (h : Keeps s t) {mb deck client cmd : Nat} {req : List Byte} :
    Keeps s (t.sendReq mb deck client cmd req).2 :=
  h.edit.pierSend

theorem Keeps.farAbort (h : Keeps s t) {deck client ticket : Nat} : Keeps s (t.farAbort deck client ticket) :=
  h.foldl fun _ _ hu => hu.sendReq

theorem Keeps.forwardReq (h : Keeps s t) {cmd : Nat} {q : Req} : Keeps s (t.forwardReq cmd q) := by
  unfold State.forwardReq
  dsimp only
  refine h.setF.ite (h.mbRespond.ite ?_)
  split
  · refine Keeps.mbRespond ?_
    split
    · exact h
    · exact h.hostRead
  · refine Keeps.bulkUnits (Keeps.sendReq ?_)
    split
    · exact h
    · exact h.hostRead

theorem Keeps.serveTaken (h : Keeps s t) {cmd : Nat} {q : Req} {body : Body} (hbody : ∀ (x : Ctx)
    (u : State), Keeps s u → Keeps s (body x u).2) : Keeps s (t.serveTaken cmd q body) := by
  unfold State.serveTaken
  dsimp only
  split
  · exact h.draftUse.noteRetry.mbRespond
  · exact h.draftUse.forwardReq.ite ((hbody _ _ h.draftUse.slotSeg).iteElse fun hu => hu.noteRetry.mbRespond)

theorem Keeps.visit (h : Keeps s t) {c : Nat} : Keeps s (t.visit c) := h.edit

theorem Keeps.visitEnd (h : Keeps s t) : Keeps s t.visitEnd := h.edit.ite h

theorem Keeps.post (h : Keeps s t) {cmd : Nat} {q : Req} : Keeps s (t.post cmd q) := h.visitEnd.mbWriteReq.mbDoorbell

theorem Keeps.taken (h : Keeps s t) {cmd : Nat} {q : Req} : Keeps s (t.taken cmd q) := h.post.visit.mbTake

theorem Keeps.request (h : Keeps s t) {cmd : Nat} {q : Req} {body : Body} (hbody : ∀ (x : Ctx)
    (u : State), Keeps s u → Keeps s (body x u).2) : Keeps s (t.request cmd q body) :=
  h.ite ((h.taken.serveTaken fun _ _ hu => hbody _ _ hu).ite h.post)

/-! ### Operations of Gates -/

theorem Keeps.setClock (h : Keeps s t) {k : Nat} {v : ClockSt} : Keeps s (t.setClock k v) := h.edit

theorem Keeps.clockSet (h : Keeps s t) {k v inc : Nat} : Keeps s (t.clockSet k v inc) := h.setClock

theorem Keeps.clockRate (h : Keeps s t) {k inc : Nat} : Keeps s (t.clockRate k inc) := h.clockSet

theorem Keeps.historyAll (h : Keeps s t) : Keeps s t.historyAll := h.foldl fun _ _ hu => hu.clockSet

theorem Keeps.clockTo (h : Keeps s t) {k ns : Nat} : Keeps s (t.clockTo k ns) := h.ite h.pass

theorem Keeps.incGate (h : Keeps s t) {p i : Nat} : Keeps s (t.incGate p i) := h.inc

theorem Keeps.preempt (h : Keeps s t) {p : Nat} : Keeps s (t.preempt p) := by
  unfold State.preempt
  dsimp only
  split
  · exact h.creditSync
  · exact h.creditSync.creditRun.setPort.edit.inc

theorem Keeps.gateApply (h : Keeps s t) {p i at_ : Nat} : Keeps s (t.gateApply p i at_) := by
  unfold State.gateApply
  dsimp only
  split
  · exact h.creditSync
  · split
    · exact h.creditSync.setGate
    · exact (h.creditSync.setGate.iteThen fun hu => hu.incGate.occur).iteThen fun hu => (hu.incGate.ite hu).preempt

theorem Keeps.poolSettle (h : Keeps s t) : Keeps s t.poolSettle :=
  h.ite (Keeps.foldlOn Prod.snd h (fun _ _ hu => Keeps.iteOn Prod.snd hu hu.setGate))

theorem Keeps.applyGateList (h : Keeps s t) {p : Nat} : Keeps s (t.applyGateList p) :=
  h.creditSync.setGate.setGate.ite h.creditSync.setGate.setGate

theorem Keeps.gateResync (h : Keeps s t) : Keeps s t.gateResync := by
  unfold State.gateResync
  refine h.foldl ?_
  intro _ _ hu
  dsimp only
  split
  · exact hu
  · exact hu.setGate.gateApply.incGate

theorem Keeps.execGateEntryStart (h : Keeps s t) {p : Fin 22} : KeptBy s (execGateEntryStart p t) := by
  unfold Machine.execGateEntryStart
  refine .next ?_
  split
  · exact h
  · split
    · exact h.ite h.clockTo.gateApply
    · exact h

theorem Keeps.execGateCycleStart (h : Keeps s t) {p : Fin 22} : KeptBy s (execGateCycleStart p t) := by
  unfold Machine.execGateCycleStart
  refine .next ?_
  split
  · exact h
  · exact h.ite h.clockTo.setGate.gateApply

theorem Keeps.execGateChangeTime (h : Keeps s t) {p : Fin 22} : KeptBy s (execGateChangeTime p t) := by
  unfold Machine.execGateChangeTime
  refine .next ?_
  split
  · exact h
  · exact h.clockTo.setGate.gateApply.incGate.occur

/-! ### Operations of Time -/

theorem Keeps.setDomain (h : Keeps s t) {d : Nat} {v : DomainSt} : Keeps s (t.setDomain d v) := h.edit

theorem Keeps.setOutput (h : Keeps s t) {i : Nat} {v : OutputSt} : Keeps s (t.setOutput i v) := h.edit

theorem Keeps.setCapture (h : Keeps s t) {i : Nat} {v : CaptureSt} : Keeps s (t.setCapture i v) := h.edit

theorem Keeps.setWork (h : Keeps s t) {w : WorkSt} : Keeps s (t.setWork w) := h.edit

theorem Keeps.timeEvent (h : Keeps s t) {bit detail : Nat} : Keeps s (t.timeEvent bit detail) := h.event

theorem Keeps.incClock (h : Keeps s t) {k i : Nat} : Keeps s (t.incClock k i) := h.inc

theorem Keeps.incOutput (h : Keeps s t) {i k : Nat} : Keeps s (t.incOutput i k) := h.inc

theorem Keeps.drivePps (h : Keeps s t) {i level : Nat} : Keeps s (t.drivePps i level) := h.edit

theorem Keeps.outputMissed (h : Keeps s t) {i : Nat} : Keeps s (t.outputMissed i) := h.incOutput.timeEvent

theorem Keeps.outputStart (h : Keeps s t) {i t' : Nat} : Keeps s (t.outputStart i t') :=
  h.setF.setOutput.drivePps.ite (h.setF.drivePps.setOutput.ite (h.setF.drivePps.setOutput.outputMissed.ite
      h.setF.drivePps.setOutput))

theorem Keeps.applyOutput (h : Keeps s t) {i : Nat} : Keeps s (t.applyOutput i) := h.setOutput.ite h.outputStart

theorem Keeps.outputsStepped (h : Keeps s t) {k before : Nat} : Keeps s (t.outputsStepped k before) := by
  unfold State.outputsStepped
  refine h.foldl ?_
  intro _ _ hu
  refine Keeps.ite ?_ ?_
  · split
    · exact hu.ite hu.setOutput
    · exact hu
  · split
    · split
      · exact hu.ite hu.setOutput
      · exact hu
    · refine Keeps.ite (Keeps.setOutput ?_) (Keeps.ite (Keeps.outputMissed (Keeps.setOutput ?_)) ?_)
      · split
        · exact hu.ite hu.setOutput
        · exact hu
      · split
        · exact hu.ite hu.setOutput
        · exact hu
      · split
        · exact hu.ite hu.setOutput
        · exact hu

theorem Keeps.clockStep (h : Keeps s t) {k v inc : Nat} : Keeps s (t.clockStep k v inc) :=
  h.clockSet.outputsStepped

theorem Keeps.workRate (h : Keeps s t) {sign : Int} : Keeps s (t.workRate sign) := h.clockSet

theorem Keeps.workBleed (h : Keeps s t) : Keeps s t.workBleed := h.setWork.setF.workRate.ite h.setWork.setF.workRate

theorem Keeps.workStepTo (h : Keeps s t) {v inc : Nat} : Keeps s (t.workStepTo v inc) := by
  unfold State.workStepTo
  exact h.setWork.setF.clockStep.incClock.timeEvent.gateResync

theorem Keeps.workStep (h : Keeps s t) : Keeps s t.workStep := h.workStepTo

theorem Keeps.workSwitch (h : Keeps s t) {d : Nat} {step : Bool} : Keeps s (t.workSwitch d step) :=
  (h.setF.iteThen fun hu => hu.incClock.timeEvent).workStep.ite (h.setF.iteThen fun hu => hu.incClock.timeEvent).workBleed

theorem Keeps.workHoldover (h : Keeps s t) : Keeps s t.workHoldover := h.setWork.setF.setF.incClock.timeEvent

theorem Keeps.workChoose (h : Keeps s t) : Keeps s t.workChoose := by
  unfold State.workChoose
  refine Keeps.ite ?_ (Keeps.ite ?_ ((h.workSwitch.ite h.workHoldover).ite h))
  · split
    · exact h.setF.workStep
    · exact h
  · split
    · exact h.workSwitch
    · exact h

theorem Keeps.domainPut (h : Keeps s t) {d st : Nat} : Keeps s (t.domainPut d st) :=
  h.ite (h.setF.setDomain.incClock.timeEvent.ite (h.setF.setDomain.incClock.timeEvent.ite h.setF.setDomain))

theorem Keeps.domainSet (h : Keeps s t) {d st : Nat} : Keeps s (t.domainSet d st) := h.domainPut.workChoose

theorem Keeps.applyDomain (h : Keeps s t) {d oldMode : Nat} : Keeps s (t.applyDomain d oldMode) :=
  h.setDomain.ite h.setDomain.domainPut

theorem Keeps.timeLinkDown (h : Keeps s t) {p : Nat} : Keeps s (t.timeLinkDown p) :=
  (h.foldl fun _ _ hu => hu.domainPut.ite hu).workChoose

theorem Keeps.servoInc (h : Keeps s t) : Keeps s t.servoInc.2 := by
  unfold State.servoInc
  dsimp only
  exact h.draw

theorem Keeps.domainStep (h : Keeps s t) {d v inc : Nat} {off : Int} : Keeps s (t.domainStep d v inc off) := by
  unfold State.domainStep
  exact h.clockStep.incClock.iteElse fun hu => hu.workStep.ite hu.workBleed

theorem Keeps.domainFollow (h : Keeps s t) {d : Nat} : Keeps s (t.domainFollow d) := by
  unfold State.domainFollow
  refine h.ite ?_
  split
  · exact h.workRate
  · exact h.workRate

theorem Keeps.servo (h : Keeps s t) {d : Nat} {off : Int} : Keeps s (t.servo d off) := by
  unfold State.servo
  dsimp only
  exact (h.setDomain.domainStep.ite h.setDomain.servoInc.clockRate.domainFollow).domainSet.ite
      ((h.setDomain.domainStep.ite h.setDomain.servoInc.clockRate.domainFollow).iteThen fun hu => hu.domainSet)

theorem Keeps.gptpMasters (h : Keeps s t) {d : Nat} {msgs : Nat → List (Nat × Nat)} : Keeps s (t.gptpMasters d msgs) :=
  h.foldl fun _ _ hu => hu.edit.ite hu

theorem Keeps.syncDone (h : Keeps s t) {d p st origin : Nat} : Keeps s (t.syncDone d p st origin) := by
  unfold State.syncDone
  dsimp only
  split
  · exact h
  · exact h.edit.servo

theorem Keeps.syncArrives (h : Keeps s t) {d : Nat} : Keeps s (t.syncArrives d) :=
  h.incClock.setDomain.iteThen fun hu => hu.setDomain.domainSet

theorem Keeps.syncTsq (h : Keeps s t) {p : Nat} : Keeps s (t.syncTsq p) := h.level

theorem Keeps.tsqWrite (h : Keeps s t) {p id clk flags : Nat} {st : Option Nat} : Keeps s (t.tsqWrite p id clk flags st) :=
  h.ite (h.inc.occur.ite h.writeBar0.setReg.syncTsq)

theorem Keeps.tsqMoveTail (h : Keeps s t) {p w : Nat} : Keeps s (t.tsqMoveTail p w) := h.ite h.setReg.syncTsq

theorem Keeps.convSelect (h : Keeps s t) {w : Nat} : Keeps s (t.convSelect w) := h.setReg.iteElse fun hu => hu.setF.edit

theorem Keeps.putClockRegs (h : Keeps s t) {f : Nat → Nat} {v : Nat} : Keeps s (t.putClockRegs f v) :=
  h.foldl fun _ _ hu => hu.setReg

theorem Keeps.convFinish (h : Keeps s t) : Keeps s t.convFinish := by
  unfold State.convFinish
  dsimp only
  split
  · exact h
  · exact (h.timeTo.edit.setReg.setF.foldl fun _ _ hu => hu.setReg).ite h.timeTo.edit.setReg.putClockRegs.setF

theorem Keeps.timeSnap (h : Keeps s t) : Keeps s t.timeSnap := h.setReg.setReg.foldl fun _ _ hu => hu.putClockRegs

theorem Keeps.gptpIn (h : Keeps s t) {p num kind st value : Nat} : Keeps s (t.gptpIn p num kind st value) := by
  unfold State.gptpIn
  dsimp only
  split
  · exact h.foldl fun _ _ hu => hu.syncArrives.iteElse fun hv => hv.syncDone.ite hv.setDomain
  · exact h.foldl fun _ _ hu => hu.syncArrives.iteElse fun hv => hv.syncDone.ite hv.setDomain
  · refine h.ite (h.foldl ?_)
    intro _ _ hu
    split
    · exact hu
    · exact hu.setDomain.syncDone
  · exact h.ite (h.foldl fun _ _ hu => hu.setDomain)
  · exact h.edit.ite h
  · split
    · exact h
    · exact h.ite h.edit

theorem Keeps.execGptpMessageReceive (h : Keeps s t) {p : Fin 12} {num : BitVec 7} {kind : Fin 6} {st : BitVec 48} {value :
    BitVec 96} : KeptBy s (execGptpMessageReceive p num kind st value t) :=
  .next (h.ite h.gptpIn)

theorem Keeps.applySlew (h : Keeps s t) : Keeps s t.applySlew := h.workBleed.ite h

theorem Keeps.execSyncWatchdogExpiry (h : Keeps s t) {d : Fin 2} : KeptBy s (execSyncWatchdogExpiry d t) := by
  unfold Machine.execSyncWatchdogExpiry
  refine .next ?_
  split
  · exact h
  · exact h.timeTo.setDomain.iteThen fun hu => hu.domainSet

theorem Keeps.execAnnounceTimeout (h : Keeps s t) {d : Fin 2} : KeptBy s (execAnnounceTimeout d t) := by
  unfold Machine.execAnnounceTimeout
  refine .next ?_
  split
  · exact h
  · exact h.timeTo.setDomain.iteThen fun hu => hu.domainSet

theorem Keeps.execSyncInterval (h : Keeps s t) {d : Fin 2} {announce : Bool} : KeptBy s (execSyncInterval d announce t) := by
  unfold Machine.execSyncInterval
  refine .next ?_
  split
  · exact h
  · exact h.timeTo.setDomain.gptpMasters.ite h.timeTo.setDomain.gptpMasters

theorem Keeps.dueTo (h : Keeps s t) {a : Option Nat} : Keeps s (t.dueTo a) := by
  unfold State.dueTo
  split
  · exact h.timeTo
  · exact h

theorem Keeps.pdelayArm (h : Keeps s t) {p : Nat} : Keeps s (t.pdelayArm p) := h.edit

theorem Keeps.execPdelayInterval (h : Keeps s t) {p : Fin 12} : KeptBy s (execPdelayInterval p t) :=
  .next (h.ite (h.dueTo.pdelayArm.iteThen fun hu => hu.edit))

theorem Keeps.execRevertHoldExpiry (h : Keeps s t) : KeptBy s (execRevertHoldExpiry t) := .next (h.timeTo.workSwitch.ite h)

theorem Keeps.execSlewDone (h : Keeps s t) : KeptBy s (execSlewDone t) := by
  unfold Machine.execSlewDone
  refine .next ?_
  split
  · exact h
  · exact h.hbTo.setWork.setF.timeEvent.clockSet

theorem Keeps.execHistoryEntryWrite (h : Keeps s t) : KeptBy s (execHistoryEntryWrite t) := .next h.dueTo.edit.historyAll

theorem Keeps.execGo (h : Keeps s t) {sel : BitVec 8} : KeptBy s (execGo sel t) := .next (h.hosted h.convSelect)

theorem Keeps.execConversionDone (h : Keeps s t) : KeptBy s (execConversionDone t) := .next h.convFinish

theorem Keeps.execTimeSnap (h : Keeps s t) : KeptBy s (execTimeSnap t) := .next (h.hosted h.timeSnap)

theorem Keeps.execTimedOutputLeadingEdge (h : Keeps s t) {i : Fin 4} : KeptBy s (execTimedOutputLeadingEdge i t) := by
  unfold Machine.execTimedOutputLeadingEdge
  refine .next ?_
  split
  · exact h
  · exact h.clockTo.incOutput.setOutput.drivePps

theorem Keeps.pulseOver (h : Keeps s t) {i : Nat} {changed : Bool} : Keeps s (t.pulseOver i changed) :=
  h.setOutput.drivePps.iteThen fun hu => hu.setOutput.outputStart

theorem Keeps.execTimedOutputTrailingEdge (h : Keeps s t) {i : Fin 4} : KeptBy s (execTimedOutputTrailingEdge i t) := by
  unfold Machine.execTimedOutputTrailingEdge
  refine .next ?_
  split
  · exact h.clockTo.pulseOver
  · exact h.timeTo.pulseOver
  · exact h

theorem Keeps.captureTake (h : Keeps s t) {i e : Nat} : Keeps s (t.captureTake i e) :=
  h.inc.ite (h.setCapture.inc.timeEvent.ite h.setCapture.inc.occur)

theorem Keeps.execCaptureEdge (h : Keeps s t) {i : Fin 8} {falling : Bool} : KeptBy s (execCaptureEdge i falling t) :=
  .next (h.ite h.captureTake)

/-! ### Operations of ReadError -/

theorem Keeps.eraseRx (h : Keeps s t) {id : Nat} : Keeps s (t.eraseRx id) := by
  unfold State.eraseRx
  dsimp only
  split
  · exact h.edit
  · split
    · exact h.edit
    · exact h.edit.creditBack

theorem Keeps.egressErase (h : Keeps s t) {p : Nat} : Keeps s (t.egressErase p) := h.creditSync.edit

theorem Keeps.truncate (h : Keeps s t) {p : Nat} : Keeps s (t.truncate p) := by
  unfold State.truncate
  split
  · exact h
  · exact h.edit

theorem Keeps.tsqDiscard (h : Keeps s t) {d : Desc} : Keeps s (t.tsqDiscard d) := by
  unfold State.tsqDiscard
  split
  · exact h.tsqWrite
  · exact h

theorem Keeps.tsqEntry (h : Keeps s t) {p : Nat} {d : Desc} {flags : Nat} : Keeps s (t.tsqEntry p d flags) := by
  unfold State.tsqEntry
  split
  · exact h
  · exact h.setPort.ite (h.setPort.tsqWrite.foldl fun _ _ hu => hu.tsqWrite)

theorem Keeps.tsqAbort (h : Keeps s t) {p : Nat} {d : Desc} : Keeps s (t.tsqAbort p d) := h.tsqEntry

theorem Keeps.readFails (h : Keeps s t) {p : Nat} {e : EgressRead} : Keeps s (t.readFails p e) :=
  h.egressErase.tsqDiscard.releaseCopy.ite h.truncate

theorem Keeps.dropUnlinked (h : Keeps s t) {d : Nat} : Keeps s (t.dropUnlinked d) := h.uncharge.setDesc.dropCopies

theorem Keeps.dropSiblings (h : Keeps s t) {owner d good : Nat} : Keeps s (t.dropSiblings owner d good) := by
  unfold State.dropSiblings
  refine Keeps.foldl ?_ ?_
  · split
    · exact h.setDesc.eraseRx
    · exact h.setDesc
  · intro _ _ hu
    split
    · exact hu.tsqDiscard.unqueue.releaseCopy
    · exact hu.tsqDiscard.dropUnlinked
    · split
      · exact hu.readFails
      · exact hu
    · exact hu

theorem Keeps.readMeets (h : Keeps s t) {d good u : Nat} : Keeps s (t.readMeets d good u).2 := by
  unfold State.readMeets
  dsimp only
  split
  · exact h.incSw
  · exact h.eccUncorr
  · exact h.incSw
  · exact h.linkMismatch.dropSiblings
  · exact h.eccUncorr.breakQueue
  · exact h.linkMismatch.breakQueue
  · exact h

theorem Keeps.goodCells (h : Keeps s t) {v : Desc} {u : Nat} : Keeps s (t.goodCells v u).2 := Keeps.iteOn Prod.snd h h.draw

theorem Keeps.readWhole (h : Keeps s t) {d u : Nat} : Keeps s (t.readWhole d u).2 := h.goodCells.readMeets

theorem Keeps.takeRead (h : Keeps s t) {q n : Nat} {x : Option (Desc × List Byte)} (e : t.takeRead q n = some (x, u)) :
    Keeps s u := by
  unfold State.takeRead at e
  split at e
  · cases e
  · have hd := h.dequeue ‹State.dequeue .. = _›
    dsimp only at e
    split at e <;> cases e
    · exact (hd.readWhole.snd ‹_›).finishCopy
    · exact (hd.readWhole.snd ‹_›).releaseCopy

/-! ### Operations of CanLane -/

theorem Keeps.setFifo (h : Keeps s t) {n : Nat} {l : List Nat} : Keeps s (t.setFifo n l) := h.setCan.setF

theorem Keeps.canMoveTail (h : Keeps s t) {n head tail size w : Nat} : Keeps s (t.canMoveTail n head tail size w) :=
  h.canEvent.ite h.setWord.syncCanLevels

theorem Keeps.canMoveTxq (h : Keeps s t) {n w : Nat} : Keeps s (t.canMoveTxq n w) := h.canEvent.ite h.setWord.setCan

theorem Keeps.rxRecordWrite (h : Keeps s t) {n : Nat} {r : List Byte} : Keeps s (t.rxRecordWrite n r) := by
  have hm {c : Prop} {_ : Decidable c} {a : Nat} {l : List Byte} (hw : Memory.wf t.bar2 = true) :
      Memory.wf (if c then memWrites t.bar2 a l else t.bar2) = true := by
    split
    · exact memWrites_wf _ _ hw
    · exact hw
  exact Keeps.ite h.setCan.incCan.canEvent (h.setBar2 fun hw => memWrites_wf _ _ (hm hw)).setCan.setWord.syncCanLevels

theorem Keeps.canOutcome (h : Keeps s t) {n d st : Nat} : Keeps s (t.canOutcome n d st) :=
  h.canEnds.finishCopy.ite h.canEnds.releaseCopy

theorem Keeps.atOutcome (h : Keeps s t) {n : Nat} {a : AtFrame} {st : Nat} : Keeps s (t.atOutcome n a st) :=
  h.canEnds.setCan.setF

theorem Keeps.canErrSync (h : Keeps s t) {n : Nat} : Keeps s (t.canErrSync n) :=
  h.setFlag.iteElse fun hu => hu.setF.canEvent.iteThen fun hv => hv.incCan

theorem Keeps.tecRaise (h : Keeps s t) {n : Nat} : Keeps s (t.tecRaise n) :=
  h.setF.canErrSync.iteThen fun hu => hu.incCan.canEvent.setCan

theorem Keeps.recRaise (h : Keeps s t) {n k : Nat} : Keeps s (t.recRaise n k) := h.ite h.setF.canErrSync

theorem Keeps.recFall (h : Keeps s t) {n : Nat} : Keeps s (t.recFall n) := by
  unfold State.recFall
  dsimp only
  exact h.ite (h.draw.setF.canErrSync.ite h.setF.canErrSync)

theorem Keeps.canNotLonely (h : Keeps s t) {n : Nat} : Keeps s (t.canNotLonely n) := h.setCan.setF

theorem Keeps.canErrCount (h : Keeps s t) {n lec : Nat} {dataPhase : Bool} : Keeps s (t.canErrCount n lec dataPhase) := by
  unfold State.canErrCount
  dsimp only
  split
  · exact h.setF.setFlag.incCan
  · exact h.setF.setFlag.incCan
  · exact h.setF.setFlag.incCan
  · exact h.setF.setFlag.incCan
  · exact h.setF.setFlag.incCan
  · exact h.setF.setFlag.incCan
  · exact h.setF.setFlag

theorem Keeps.canUnreadable (h : Keeps s t) {n d : Nat} : Keeps s (t.canUnreadable n d) := by
  unfold State.canUnreadable
  refine Keeps.releaseCopy ?_
  split
  · exact h.txcWrite
  · exact h

theorem Keeps.canFeed (h : Keeps s t) {n u : Nat} : Keeps s (t.canFeed n u) := by
  unfold State.canFeed
  refine h.ite ?_
  split
  · exact h
  · split
    · exact h
    · split
      · exact ((h.dequeue ‹State.dequeue .. = _›).readWhole.snd ‹State.readWhole .. = _›).canUnreadable
      · exact ((h.dequeue ‹State.dequeue .. = _›).readWhole.snd ‹State.readWhole .. = _›).canOutcome.ite
          ((h.dequeue ‹State.dequeue .. = _›).readWhole.snd ‹State.readWhole .. = _›).setFifo

theorem Keeps.canAbortRequeue (h : Keeps s t) {n : Nat} : Keeps s (t.canAbortRequeue n) := by
  unfold State.canAbortRequeue
  dsimp only
  split
  · exact (h.foldl fun _ _ hu => hu.setDesc.setQueue.incCan).setCan.setFifo.ite h
  · exact h

theorem Keeps.canAgeHeads (h : Keeps s t) {n k : Nat} : Keeps s (t.canAgeHeads n k) := by
  induction k generalizing t with
  | zero => exact h
  | succ k ih =>
    unfold State.canAgeHeads
    dsimp only
    split
    · exact (ih h.setCan.setFifo.canOutcome).ite h
    · exact h

theorem Keeps.canOffer (h : Keeps s t) {n : Nat} {o : Offer} {bytes : List Byte} : Keeps s (t.canOffer n o bytes) :=
  h.setCan.edit

theorem Keeps.canStart (h : Keeps s t) {n : Nat} : Keeps s (t.canStart n) := by
  unfold State.canStart
  refine h.ite ?_
  split
  · exact h.atOutcome.ite h.setCan.canOffer
  · dsimp only
    split
    · exact h.canAgeHeads
    · exact h.canAgeHeads.setCan.setDesc.canOffer

theorem Keeps.canDrop (h : Keeps s t) {n : Nat} : Keeps s (t.canDrop n) := by
  unfold State.canDrop
  dsimp only
  split
  · exact (h.setFifo.foldl fun _ _ hu => hu.canOutcome).iteElse fun hu => hu.atOutcome
  · exact h.setFifo.foldl fun _ _ hu => hu.canOutcome

theorem Keeps.canDiscard (h : Keeps s t) {n : Nat} : Keeps s (t.canDiscard n) := h.canDrop.foldl fun _ _ hu => hu.flushQueue

theorem Keeps.xcvrSent (h : Keeps s t) {n mode : Nat} : Keeps s (t.xcvrSent n mode) := h.setCan.edit

theorem Keeps.xcvrCommand (h : Keeps s t) {n mode : Nat} : Keeps s (t.xcvrCommand n mode) := h.edit.ite h

theorem Keeps.finishRef (h : Keeps s t) {t' status : Nat} {pay : List Byte} : Keeps s (t.finishRef t' status pay) :=
  h.ite h.finishTicket

theorem Keeps.canDisabled (h : Keeps s t) {n : Nat} : Keeps s (t.canDisabled n) := h.setCan.setF.setF.xcvrCommand.finishRef

theorem Keeps.canFlush (h : Keeps s t) {n ticket : Nat} : Keeps s (t.canFlush n ticket) := by
  unfold State.canFlush
  exact h.canDrop.setCan.startFlush

theorem Keeps.canFlushed (h : Keeps s t) {n : Nat} : Keeps s (t.canFlushed n) := by
  unfold State.canFlushed
  split
  · exact h.canDisabled.ite h
  · exact h

theorem Keeps.canForce (h : Keeps s t) {n ticket : Nat} : Keeps s (t.canForce n ticket) :=
  h.setF.setCan.iteThen fun hu => hu.canFlush

theorem Keeps.canAfterAttempt (h : Keeps s t) {n : Nat} : Keeps s (t.canAfterAttempt n) := by
  unfold State.canAfterAttempt
  dsimp only
  split
  · exact ((h.setCan.setF.ite h).iteElse fun hu => hu.canAbortRequeue).iteThen fun hu => hu.canFlush
  · exact (h.setCan.setF.ite h).iteElse fun hu => hu.canAbortRequeue

theorem Keeps.canSent (h : Keeps s t) {n : Nat} : Keeps s (t.canSent n) := by
  unfold State.canSent
  refine Keeps.ite (Keeps.rxRecordWrite ?_) ?_
  · split
    · exact (h.incCan.incCan.canNotLonely.iteElse fun hu => hu.setF.canErrSync).setCan.setFifo.canOutcome
    · exact (h.incCan.incCan.canNotLonely.iteElse fun hu => hu.setF.canErrSync).setCan.atOutcome
    · exact (h.incCan.incCan.canNotLonely.iteElse fun hu => hu.setF.canErrSync).setCan
  · split
    · exact (h.incCan.incCan.canNotLonely.iteElse fun hu => hu.setF.canErrSync).setCan.setFifo.canOutcome
    · exact (h.incCan.incCan.canNotLonely.iteElse fun hu => hu.setF.canErrSync).setCan.atOutcome
    · exact (h.incCan.incCan.canNotLonely.iteElse fun hu => hu.setF.canErrSync).setCan

theorem Keeps.canNoAck (h : Keeps s t) {n : Nat} : Keeps s (t.canNoAck n) := h.setCan.iteThen fun hu => hu.setF.canEvent

theorem Keeps.canFailed (h : Keeps s t) {n lec : Nat} {dataPhase quiet : Bool} :
    Keeps s (t.canFailed n lec dataPhase quiet) := by
  unfold State.canFailed
  dsimp only
  split
  · split
    · exact ((h.incCan.ite h.canErrCount).setCan.iteElse fun hu => hu.tecRaise).setDesc.iteElse fun hu =>
        hu.setFifo.canOutcome.iteThen fun hv => hv.canNoAck
    · exact ((h.incCan.ite h.canErrCount).setCan.iteElse fun hu => hu.tecRaise).setDesc
  · split
    · exact ((h.incCan.ite h.canErrCount).setCan.iteElse fun hu => hu.tecRaise).setCan.ite
        (((h.incCan.ite h.canErrCount).setCan.iteElse fun hu => hu.tecRaise).atOutcome.iteThen fun hu => hu.canNoAck)
    · exact ((h.incCan.ite h.canErrCount).setCan.iteElse fun hu => hu.tecRaise).setCan
  · exact (h.incCan.ite h.canErrCount).setCan.iteElse fun hu => hu.tecRaise

theorem Keeps.canRecoverStart (h : Keeps s t) {n : Nat} : Keeps s (t.canRecoverStart n) := h.setCan.setF

theorem Keeps.canRecovered (h : Keeps s t) {n : Nat} : Keeps s (t.canRecovered n) :=
  h.setF.setF.setF.canErrSync.canEvent.setCan

theorem Keeps.atArm (h : Keeps s t) {n : Nat} {bytes : List Byte} {time : Nat} {comp : Option Nat} :
    Keeps s (t.atArm n bytes time comp) :=
  h.atOutcome.ite h.setCan.setF

theorem Keeps.canEnqueueTx (h : Keeps s t) {n : Nat} {r : List Byte} {ring : Option Nat} (e : t.canEnqueueTx n r ring = some u) :
    Keeps s u := by
  simp only [State.canEnqueueTx] at e
  split at e
  · cases e
  · split at e <;> cases e
    exact h.storeFrame.snd ‹_›

theorem Keeps.txcReserve (h : Keeps s t) {n : Nat} : Keeps s (t.txcReserve n) := h.setCan

theorem Keeps.canTake (h : Keeps s t) {n : Nat} : Keeps s (t.canTake n) := by
  unfold State.canTake
  refine h.ite (h.setWord.ite (h.setCan.canEvent.ite (h.ite (((h.txcReserve.ite h).setWord.countStatus.iteThen fun hu =>
      hu.txcWrite).ite (((h.txcReserve.ite h).setWord.countStatus.iteThen fun hu => hu.txcWrite).ite
      ((((h.txcReserve.ite h).setWord.countStatus.iteThen fun hu => hu.txcWrite).ite (h.txcReserve.ite h).setWord.atArm).ite
      ?_))))))
  split
  · exact h
  · exact ((h.txcReserve.ite h).canEnqueueTx ‹State.canEnqueueTx .. = _›).setWord

theorem Keeps.execClassSchedulerFeed (h : Keeps s t) {n : Fin 64} {upset : Fin 7} :
    KeptBy s (execClassSchedulerFeed n upset t) :=
  .next h.canFeed

theorem Keeps.execCanAttemptStart (h : Keeps s t) {n : Fin 64} : KeptBy s (execCanAttemptStart n t) := .next h.canStart

theorem Keeps.execCanAttemptEnd (h : Keeps s t) {n : Fin 64} {outcome : Fin 8} {dataPhase quiet : Bool} :
    KeptBy s (execCanAttemptEnd n outcome dataPhase quiet t) :=
  .next (h.ite (h.canSent.canAfterAttempt.ite h.canFailed.canAfterAttempt))

theorem Keeps.execRecoverDelayExpiry (h : Keeps s t) {n : Fin 64} : KeptBy s (execRecoverDelayExpiry n t) := by
  unfold Machine.execRecoverDelayExpiry
  refine .next ?_
  split
  · exact h
  · exact h.timeTo.canRecoverStart

theorem Keeps.execRecoveryCountDone (h : Keeps s t) {n : Fin 64} : KeptBy s (execRecoveryCountDone n t) :=
  .next (h.canRecovered.ite h)

theorem Keeps.execAtTimeRelease (h : Keeps s t) {n : Fin 64} : KeptBy s (execAtTimeRelease n t) := by
  unfold Machine.execAtTimeRelease
  refine .next ?_
  split
  · exact h
  · exact h.timeTo.setCan

theorem Keeps.execAtTimeLate (h : Keeps s t) {n : Fin 64} : KeptBy s (execAtTimeLate n t) := by
  unfold Machine.execAtTimeLate
  refine .next ?_
  split
  · exact h
  · exact h.ite h.timeTo.atOutcome

theorem Keeps.execXcvrModeApply (h : Keeps s t) {n : Fin 16} : KeptBy s (execXcvrModeApply n t) := by
  unfold Machine.execXcvrModeApply
  refine .next ?_
  split
  · exact h
  · exact h.ite h.setCan

theorem Keeps.execTxdDominantTimeout (h : Keeps s t) {n : Fin 16} : KeptBy s (execTxdDominantTimeout n t) := .next h.incCan

theorem Keeps.execHostTxRecordTake (h : Keeps s t) {n : Fin 64} : KeptBy s (execHostTxRecordTake n t) := .next h.canTake

theorem Keeps.execRxqTailWrite (h : Keeps s t) {n : Fin 64} {w : Word} : KeptBy s (execRxqTailWrite n w t) :=
  .next (h.hosted (h.ite h.canMoveTail))

theorem Keeps.execTxqHeadWrite (h : Keeps s t) {n : Fin 64} {w : Word} : KeptBy s (execTxqHeadWrite n w t) :=
  .next (h.hosted (h.ite h.canMoveTxq))

theorem Keeps.execTxcTailWrite (h : Keeps s t) {n : Fin 64} {w : Word} : KeptBy s (execTxcTailWrite n w t) :=
  .next (h.hosted (h.ite h.canMoveTail))

theorem Keeps.execCanDrainDone (h : Keeps s t) {n : Fin 64} : KeptBy s (execCanDrainDone n t) := .next (h.canDisabled.ite h)

theorem Keeps.execCanDrainTimeout (h : Keeps s t) {n : Fin 64} : KeptBy s (execCanDrainTimeout n t) := by
  unfold Machine.execCanDrainTimeout
  refine .next ?_
  split
  · exact h.timeTo.canForce.ite h
  · exact h

theorem Keeps.execCanIntegration (h : Keeps s t) {n : Fin 64} : KeptBy s (execCanIntegration n t) := .next (h.setF.ite h)

theorem Keeps.canRxErr (h : Keeps s t) {n lec : Nat} {dataPhase : Bool} {k : Nat} : Keeps s (t.canRxErr n lec dataPhase k) :=
  h.canErrCount.recRaise.iteThen fun hu => hu.setF

theorem Keeps.execCanRxError (h : Keeps s t) {n : Fin 64} {lec : Fin 7} {dataPhase dominant : Bool} :
    KeptBy s (execCanRxError n lec dataPhase dominant t) :=
  .next (h.ite h.canRxErr)

/-! ### Operations of LinLane -/

theorem Keeps.setLin (h : Keeps s t) {n : Nat} {v : LinLane} : Keeps s (t.setLin n v) := h.edit

theorem Keeps.incLin (h : Keeps s t) {n i : Nat} : Keeps s (t.incLin n i) := h.inc

theorem Keeps.linEvent (h : Keeps s t) {n bit detail : Nat} : Keeps s (t.linEvent n bit detail) := h.event

theorem Keeps.linActivity (h : Keeps s t) {n : Nat} : Keeps s (t.linActivity n) := h.setLin.setF

theorem Keeps.setPublish (h : Keeps s t) {n id : Nat} {p : Publish} : Keeps s (t.setPublish n id p) := h.setLin

theorem Keeps.linNoResponse (h : Keeps s t) {n : Nat} : Keeps s (t.linNoResponse n) := h.incLin.linEvent

theorem Keeps.linHeader (h : Keeps s t) {n id : Nat} : Keeps s (t.linHeader n id) := h.incLin.linActivity.setLin.edit

theorem Keeps.linRespond (h : Keeps s t) {n id : Nat} {data : List Byte} : Keeps s (t.linRespond n id data) :=
  h.incLin.linActivity.edit

theorem Keeps.linSendBuffer (h : Keeps s t) {n id : Nat} : Keeps s (t.linSendBuffer n id) := h.setPublish.linRespond

theorem Keeps.linTakeDiag (h : Keeps s t) {n m k : Nat} : Keeps s (t.linTakeDiag n m k).2 := by
  induction k generalizing t m with
  | zero => exact h
  | succ k ih =>
    unfold State.linTakeDiag
    split
    · exact h
    · refine Keeps.iteOn Prod.snd (ih h.setQueue.releaseCopy) ?_
      split
      · exact h.takeRead ‹_›
      · exact ih (h.takeRead ‹_›)
      · exact h

theorem Keeps.linPublishWrite (h : Keeps s t) {n u : Nat} : Keeps s (t.linPublishWrite n u) := by
  unfold State.linPublishWrite
  split
  · exact h
  · refine h.setQueue.releaseCopy.ite ?_
    split
    · exact h
    · exact h.takeRead ‹State.takeRead .. = _›
    · exact (h.takeRead ‹State.takeRead .. = _›).incLin.ite (h.takeRead ‹State.takeRead .. = _›).setPublish

theorem Keeps.linSlot (h : Keeps s t) {n : Nat} {k : SlotKind} {id cycles : Nat} : Keeps s (t.linSlot n k id cycles) :=
  h.setLin

theorem Keeps.linPublished (h : Keeps s t) {n id cyc : Nat} : Keeps s (t.linPublished n id cyc) :=
  h.linHeader.linSendBuffer.linSlot.ite h.incLin.linSlot

theorem Keeps.linStartEntry (h : Keeps s t) {n t' e u : Nat} : Keeps s (t.linStartEntry n t' e u) := by
  unfold State.linStartEntry
  dsimp only
  refine h.setF.setF.linSlot.ite ?_
  split
  · exact h.setF.setF.linPublished.ite h.setF.setF.linHeader.linSlot
  · exact h.setF.setF.linHeader.linSlot
  · split
    · exact h.setF.setF.linHeader.linSendBuffer.linSlot
    · exact h.setF.setF.linSlot
  · split
    · exact (h.setF.setF.linTakeDiag.snd ‹State.linTakeDiag .. = _›).linHeader.linRespond.incLin.linSlot
    · exact (h.setF.setF.linTakeDiag.snd ‹State.linTakeDiag .. = _›).linSlot
  · exact h.setF.setF.linHeader.linSlot

theorem Keeps.linStartTable (h : Keeps s t) {n t' u : Nat} : Keeps s (t.linStartTable n t' u) :=
  h.setF.setF.setF.setLin.linStartEntry

theorem Keeps.linStop (h : Keeps s t) {n : Nat} : Keeps s (t.linStop n) := h.setF.setF.setLin

theorem Keeps.linSendSleep (h : Keeps s t) {n : Nat} : Keeps s (t.linSendSleep n) := h.setLin.linHeader.linRespond.linSlot

theorem Keeps.linResume (h : Keeps s t) {n u : Nat} : Keeps s (t.linResume n u) := by
  unfold State.linResume
  dsimp only
  split
  · exact h.setFlag.setLin.linStartEntry
  · exact h.linStartEntry

theorem Keeps.linNextEntry (h : Keeps s t) {n u : Nat} : Keeps s (t.linNextEntry n u) :=
  h.linStartEntry.ite (h.setLin.linResume.ite h.linStartEntry)

theorem Keeps.linReload (h : Keeps s t) {n u : Nat} : Keeps s (t.linReload n u) := h.setLin.setFlag.linStartEntry

theorem Keeps.linCollision (h : Keeps s t) {n u : Nat} : Keeps s (t.linCollision n u) := by
  unfold State.linCollision
  dsimp only
  exact h.setLin.setF.linStartEntry

theorem Keeps.linDisabled (h : Keeps s t) {n : Nat} : Keeps s (t.linDisabled n) := h.linStop.setLin.edit.setF.finishRef

theorem Keeps.linDiscard (h : Keeps s t) {n : Nat} : Keeps s (t.linDiscard n) := h.flushQueue.flushQueue

theorem Keeps.linForce (h : Keeps s t) {n ticket : Nat} : Keeps s (t.linForce n ticket) :=
  h.setLin.linDiscard.iteElse fun hu => hu.linDisabled

theorem Keeps.linBoundary (h : Keeps s t) {n u : Nat} : Keeps s (t.linBoundary n u) := by
  unfold State.linBoundary
  refine h.ite ((((h.timeTo.ite h).iteThen fun hu => hu.linNoResponse).linStop.setF.linEvent.linDisabled.ite
      (((h.timeTo.ite h).iteThen fun hu => hu.linNoResponse).linStop.setF.linEvent.iteThen fun hu => hu.linSendSleep)).ite
      (((h.timeTo.ite h).iteThen fun hu => hu.linNoResponse).linDisabled.ite (((h.timeTo.ite h).iteThen fun hu =>
      hu.linNoResponse).linSendSleep.ite ?_)))
  split
  · exact ((h.timeTo.ite h).iteThen fun hu => hu.linNoResponse).linStartTable
  · exact ((h.timeTo.ite h).iteThen fun hu => hu.linNoResponse).linStop
  · exact ((h.timeTo.ite h).iteThen fun hu => hu.linNoResponse).iteElse fun hu => hu.linReload.ite
      (hu.linCollision.ite hu.linNextEntry)

theorem Keeps.linHeaderIn (h : Keeps s t) {n id u : Nat} : Keeps s (t.linHeaderIn n id u) := by
  unfold State.linHeaderIn
  refine (h.linNoResponse.ite h).setLin.linSlot.ite (Keeps.ite ?_ ((h.linNoResponse.ite h).setLin.linSlot.ite ?_))
  · split
    · exact ((h.linNoResponse.ite h).setLin.linTakeDiag.snd ‹State.linTakeDiag .. = _›).linRespond.incLin.linSlot
    · exact ((h.linNoResponse.ite h).setLin.linTakeDiag.snd ‹State.linTakeDiag .. = _›).linSlot
  · split
    · exact (h.linNoResponse.ite h).setLin.linSendBuffer.linSlot.ite (h.linNoResponse.ite h).setLin.incLin.linSlot
    · exact (h.linNoResponse.ite h).setLin.linSlot
    · exact (h.linNoResponse.ite h).setLin.linSlot

theorem Keeps.linHeaderFault (h : Keeps s t) {n err : Nat} : Keeps s (t.linHeaderFault n err) := h.incLin.linEvent

theorem Keeps.linPulse (h : Keeps s t) {n : Nat} : Keeps s (t.linPulse n) := h.setLin.linActivity.edit

theorem Keeps.execPublishBufferWrite (h : Keeps s t) {n : Fin 16} {upset : Fin 7} :
    KeptBy s (execPublishBufferWrite n upset t) :=
  .next h.linPublishWrite

theorem Keeps.execLinSlotBoundary (h : Keeps s t) {n : Fin 16} {upset : Fin 7} : KeptBy s (execLinSlotBoundary n upset t) :=
  .next h.linBoundary

theorem Keeps.execLinScheduleRestart (h : Keeps s t) {n : Fin 16} : KeptBy s (execLinScheduleRestart n t) := by
  unfold Machine.execLinScheduleRestart
  refine .next ?_
  split
  · exact h.timeTo.linStartTable
  · exact h

theorem Keeps.linResponseEnd (h : Keeps s t) {n : Nat} : Keeps s (t.linResponseEnd n) := h.setLin

theorem Keeps.execLinTxdTimeout (h : Keeps s t) {n : Fin 8} : KeptBy s (execLinTxdTimeout n t) :=
  .next h.incLin.linResponseEnd

theorem Keeps.execWakeupPulseEnd (h : Keeps s t) {n : Fin 16} : KeptBy s (execWakeupPulseEnd n t) := by
  unfold Machine.execWakeupPulseEnd
  refine .next ?_
  split
  · exact h
  · exact h.timeTo.setLin.incLin.linEvent

theorem Keeps.execLinDrainTimeout (h : Keeps s t) {n : Fin 16} : KeptBy s (execLinDrainTimeout n t) := by
  unfold Machine.execLinDrainTimeout
  refine .next ?_
  split
  · exact h.timeTo.linForce.ite h
  · exact h

/-! ### Operations of Ports -/

theorem Keeps.copyBad (h : Keeps s t) {o d : Nat} : Keeps s (t.copyBad o d) := by
  unfold State.copyBad
  split
  · exact h.ite h.dropUnlinked
  · exact h.unqueue.releaseCopy
  · split
    · exact h.egressErase.releaseCopy.ite h.truncate
    · exact h
  · exact h

theorem Keeps.rxDrop (h : Keeps s t) {id : Nat} {f : RxFrame} : Keeps s (t.rxDrop id f) := by
  unfold State.rxDrop
  dsimp only
  split
  · exact h.eraseRx
  · exact (h.eraseRx.setDesc.foldl fun _ _ hu => hu.copyBad).ownerDone

theorem Keeps.egressEnd (h : Keeps s t) {p : Nat} {e : EgressRead} : Keeps s (t.egressEnd p e) :=
  (h.egressErase.tsqDiscard.ite h.egressErase.tsqAbort).iteElse fun hu => hu.releaseCopy

theorem Keeps.rxAbort (h : Keeps s t) {p : Nat} : Keeps s (t.rxAbort p) :=
  h.foldl fun _ _ hu => hu.rxDrop.iteElse fun hv => hv.inc

theorem Keeps.txAbort (h : Keeps s t) {p : Nat} : Keeps s (t.txAbort p) := by
  unfold State.txAbort
  dsimp only
  split
  · refine Keeps.inc (Keeps.ite (Keeps.tsqAbort (Keeps.setPort ?_)) (Keeps.releaseCopy (Keeps.tsqAbort (Keeps.setPort ?_))))
    · split
      · exact h.egressEnd.inc
      · exact h
    · split
      · exact h.egressEnd.inc
      · exact h
  · split
    · exact h.egressEnd.inc
    · exact h

theorem Keeps.clearPause (h : Keeps s t) {p : Nat} : Keeps s (t.clearPause p) := h.setReg.setF.setPort

theorem Keeps.faultSend (h : Keeps s t) {p kind : Nat} : Keeps s (t.faultSend p kind) := h.ite h.setPort.edit

theorem Keeps.anStart (h : Keeps s t) {p : Nat} : Keeps s (t.anStart p) := h.edit.ite h

theorem Keeps.streamCreditsClear (h : Keeps s t) {p : Nat} : Keeps s (t.streamCreditsClear p) :=
  h.foldl fun _ _ hu => hu.setTag

theorem Keeps.portDown (h : Keeps s t) {p : Nat} : Keeps s (t.portDown p) :=
  h.setF.setF.setF.setPort.iteElse fun hu =>
      hu.setF.inc.event.clearPause.setF.rxAbort.txAbort.setPort.streamCreditsClear.startFlush.edit.timeLinkDown

theorem Keeps.portUp (h : Keeps s t) {p : Nat} : Keeps s (t.portUp p) :=
  h.setF.setF.setPort.edit.event.iteThen fun hu => hu.setF.ite hu.setPort.setF.edit

theorem Keeps.portGate (h : Keeps s t) {p : Nat} : Keeps s (t.portGate p) := h.setF.portDown.faultSend

theorem Keeps.portStop (h : Keeps s t) {p ticket : Nat} : Keeps s (t.portStop p ticket) :=
  (h.portDown.faultSend.iteElse fun hu => hu.startFlush).setPort

theorem Keeps.portForce (h : Keeps s t) {p ticket : Nat} : Keeps s (t.portForce p ticket) := h.setPort.ite h.portStop

theorem Keeps.portDisableStep (h : Keeps s t) {p : Nat} : Keeps s (t.portDisableStep p) := by
  unfold State.portDisableStep
  split
  · exact h
  · exact h.portStop.iteElse fun hu => hu.ite h

theorem Keeps.pauseEnd (h : Keeps s t) {p c : Nat} : Keeps s (t.pauseEnd p c) := h.setF.setPort

theorem Keeps.pauseSet (h : Keeps s t) {p c quanta : Nat} : Keeps s (t.pauseSet p c quanta) :=
  h.pauseEnd.ite h.setF.setPort

theorem Keeps.stormExit (h : Keeps s t) {p c : Nat} : Keeps s (t.stormExit p c) := h.ite h.setF.setFlag.setPort.event

theorem Keeps.stormEnter (h : Keeps s t) {p c d : Nat} : Keeps s (t.stormEnter p c d) :=
  h.pauseEnd.setF.setF.inc.setPort.event

theorem Keeps.pauseDue (h : Keeps s t) {p c : Nat} : Keeps s (t.pauseDue p c) := by
  unfold State.pauseDue
  dsimp only
  split
  · refine Keeps.ite (Keeps.stormExit ?_) ?_
    · split
      · refine Keeps.ite (Keeps.stormEnter ?_) ?_
        · split
          · exact h.pauseEnd.ite h
          · exact h
        · split
          · exact h.pauseEnd.ite h
          · exact h
      · split
        · exact h.pauseEnd.ite h
        · exact h
    · split
      · refine Keeps.ite (Keeps.stormEnter ?_) ?_
        · split
          · exact h.pauseEnd.ite h
          · exact h
        · split
          · exact h.pauseEnd.ite h
          · exact h
      · split
        · exact h.pauseEnd.ite h
        · exact h
  · split
    · refine Keeps.ite (Keeps.stormEnter ?_) ?_
      · split
        · exact h.pauseEnd.ite h
        · exact h
      · split
        · exact h.pauseEnd.ite h
        · exact h
    · split
      · exact h.pauseEnd.ite h
      · exact h

theorem Keeps.macControl (h : Keeps s t) {p : Nat} {b : List Byte} : Keeps s (t.macControl p b) :=
  ((h.foldl fun _ _ hu => hu.pauseDue).ite h).inc.iteElse fun hu => (hu.ite ((h.foldl fun _ _ hv => hv.pauseDue).ite
      h).pauseSet.inc).ite ((hu.ite (((h.foldl fun _ _ hv => hv.pauseDue).ite h).foldl fun _ _ hv => hv.pauseSet).inc).ite hu)

theorem Keeps.plcaTurn (h : Keeps s t) {p : Nat} : Keeps s (t.plcaTurn p) := (h.ite h.setPort).iteThen fun hu => hu.edit

theorem Keeps.frameAnew (h : Keeps s t) {p : Nat} : Keeps s (t.frameAnew p) := by
  unfold State.frameAnew
  split
  · exact h
  · exact h.edit

theorem Keeps.plcaUse (h : Keeps s t) {p : Nat} : Keeps s (t.plcaUse p) := h.setPort.ite h

theorem Keeps.plcaBurst (h : Keeps s t) {p : Nat} : Keeps s (t.plcaBurst p) := h.ite h.setPort

theorem Keeps.plcaStop (h : Keeps s t) {p : Nat} : Keeps s (t.plcaStop p) := (h.creditSync.frameAnew.ite h).setPort

theorem Keeps.collDiscard (h : Keeps s t) {p : Nat} {e : EgressRead} {i : Nat} : Keeps s (t.collDiscard p e i) :=
  h.egressEnd.inc.setPort.portDisableStep

theorem Keeps.collision (h : Keeps s t) {p : Nat} {late logical : Bool} : Keeps s (t.collision p late logical) := by
  unfold State.collision
  dsimp only
  split
  · exact h.creditSync
  · exact h.creditSync.setPort.portDisableStep.ite (h.creditSync.inc.collDiscard.ite
      (h.creditSync.inc.collDiscard.ite h.creditSync.inc.draw.setPort.portDisableStep))

theorem Keeps.setMdio (h : Keeps s t) {m : Nat} {l : List (Nat × Nat × List Byte)} : Keeps s (t.setMdio m l) := h.edit

theorem Keeps.mdioStart (h : Keeps s t) {m : Nat} {req : List Byte} {write : Bool} : Keeps s (t.mdioStart m req write) :=
  h.edit.ite h.edit

theorem Keeps.faultAnswer (h : Keeps s t) {p fault : Nat} : Keeps s (t.faultAnswer p fault) := h.ite h.faultSend

theorem Keeps.execLinkDown (h : Keeps s t) {p : Fin 20} {fault : Fin 3} : KeptBy s (execLinkDown p fault t) :=
  .next (h.ite h.portDown.faultAnswer.anStart)

theorem Keeps.speedStart (h : Keeps s t) {p : Nat} : Keeps s (t.speedStart p) := h.setF.ite (h.setF.ite (h.ite h.draw.setF))

theorem Keeps.applyMode (h : Keeps s t) {p : Nat} : Keeps s (t.applyMode p) :=
  h.portDown.faultSend.setF.setPort.streamCreditsClear.iteThen fun hu => hu.speedStart.anStart

theorem Keeps.linkConds (h : Keeps s t) {p m : Nat} {an : Bool} {speed : Nat} : Keeps s (t.linkConds p m an speed) :=
  (h.setF.setF.setF.iteThen fun hu => hu.setF).faultSend.setPort

theorem Keeps.halfDuplexDown (h : Keeps s t) {p : Nat} : Keeps s (t.halfDuplexDown p) :=
  h.portDown.setF.setF.iteElse fun hu => hu.event

theorem Keeps.execLinkUpConditions (h : Keeps s t) {p : Fin 20} {speed : Fin 3} {half : Bool} :
    KeptBy s (execLinkUpConditions p speed half t) :=
  .next (h.ite (h.halfDuplexDown.ite (h.ite h.linkConds)))

theorem Keeps.execLinkHoldExpiry (h : Keeps s t) {p : Fin 20} : KeptBy s (execLinkHoldExpiry p t) := by
  unfold Machine.execLinkHoldExpiry
  refine .next ?_
  split
  · exact h
  · exact h.timeTo.setF.setPort.ite h.timeTo.portUp

theorem Keeps.flushQueues (h : Keeps s t) {qs : List Nat} : Keeps s (t.flushQueues qs) :=
  h.foldl fun _ _ hu => (hu.foldl fun _ _ hv => hv.tsqDiscard).flushQueue

theorem Keeps.flushNext (h : Keeps s t) {rest : List Flush} : Keeps s (t.flushNext rest) := h.edit.iteThen fun hu => hu.setF

theorem Keeps.portFlushed (h : Keeps s t) {p : Nat} : Keeps s (t.portFlushed p) := by
  unfold State.portFlushed
  dsimp only
  split
  · exact h.setF.setPort.edit.finishRef
  · exact h.setF.iteThen fun hu => hu.portUp

theorem Keeps.execFlushScanEnd (h : Keeps s t) : KeptBy s (execFlushScanEnd t) := by
  unfold Machine.execFlushScanEnd
  refine .next ?_
  split
  · exact h
  · dsimp only
    split
    · exact h.timeTo.flushQueues.flushNext.iteElse fun hu => hu.portFlushed
    · exact h.timeTo.flushQueues.flushNext.iteElse fun hu => hu.canFlushed
    · exact h.timeTo.flushQueues.flushNext

theorem Keeps.execEthDrainTimeout (h : Keeps s t) {p : Fin 22} : KeptBy s (execEthDrainTimeout p t) := by
  unfold Machine.execEthDrainTimeout
  refine .next ?_
  split
  · exact h.timeTo.portForce.ite h
  · exact h

theorem Keeps.execPauseTimerExpiry (h : Keeps s t) {p : Fin 12} {c : Fin 8} : KeptBy s (execPauseTimerExpiry p c t) := by
  unfold Machine.execPauseTimerExpiry
  refine .next ?_
  split
  · exact h
  · exact h.timeTo.pauseEnd

theorem Keeps.execPauseRefresh (h : Keeps s t) {p : Fin 12} : KeptBy s (execPauseRefresh p t) := by
  unfold Machine.execPauseRefresh
  refine .next ?_
  split
  · exact h
  · exact h.timeTo.setPort.fcSend

theorem Keeps.execPauseWatchdogExpiry (h : Keeps s t) {p : Fin 12} {c : Fin 8} :
    KeptBy s (execPauseWatchdogExpiry p c t) := by
  unfold Machine.execPauseWatchdogExpiry
  refine .next ?_
  split
  · exact h
  · exact h.timeTo.stormEnter

theorem Keeps.execStormHoldExpiry (h : Keeps s t) {p : Fin 12} {c : Fin 8} : KeptBy s (execStormHoldExpiry p c t) := by
  unfold Machine.execStormHoldExpiry
  refine .next ?_
  split
  · exact h
  · exact h.timeTo.stormExit

theorem Keeps.execPlcaFallback (h : Keeps s t) {i : Fin 8} : KeptBy s (execPlcaFallback i t) :=
  .next (h.plcaStop.setF.inc.event.ite h)

theorem Keeps.execPlcaOkRestore (h : Keeps s t) {i : Fin 8} : KeptBy s (execPlcaOkRestore i t) := .next (h.setF.setPort.ite h)

theorem Keeps.execCollision (h : Keeps s t) {i : Fin 8} {late logical : Bool} : KeptBy s (execCollision i late logical t) :=
  .next h.collision

theorem Keeps.execBackoffExpiry (h : Keeps s t) {i : Fin 8} : KeptBy s (execBackoffExpiry i t) := by
  unfold Machine.execBackoffExpiry
  refine .next ?_
  split
  · exact h
  · exact h.timeTo.creditSync.frameAnew.setPort

theorem Keeps.verifyAgain (h : Keeps s t) {p : Nat} : Keeps s (t.verifyAgain p) := h.setPort.edit.ite h.setPort.setF.inc.event

theorem Keeps.execVerifyTimeExpiry (h : Keeps s t) {p : Fin 12} : KeptBy s (execVerifyTimeExpiry p t) := by
  unfold Machine.execVerifyTimeExpiry
  refine .next ?_
  split
  · exact h
  · exact h.timeTo.verifyAgain

theorem Keeps.execVerifyRespondReceive (h : Keeps s t) {p : Fin 12} : KeptBy s (execVerifyRespondReceive p t) :=
  .next (h.setPort.setF.ite h)

theorem Keeps.mdioNext (h : Keeps s t) {m : Nat} {rest : List (Nat × Nat × List Byte)} : Keeps s (t.mdioNext m rest) := by
  unfold State.mdioNext
  split
  · exact h
  · exact h.mdioStart

theorem Keeps.execMdioAccessDone (h : Keeps s t) {m : Fin 2} {data : BitVec 16} : KeptBy s (execMdioAccessDone m data t) := by
  unfold Machine.execMdioAccessDone
  refine .next ?_
  split
  · exact h
  · exact h.setMdio.finishTicket.mdioNext

theorem Keeps.execTsqTailWrite (h : Keeps s t) {p : Fin 22} {w : Word} : KeptBy s (execTsqTailWrite p w t) :=
  .next (h.hosted h.tsqMoveTail)

/-! ### Operations of Spans -/

theorem Keeps.setSpan (h : Keeps s t) {i : Nat} {v : SpanSt} : Keeps s (t.setSpan i v) := h.edit

theorem Keeps.incSpan (h : Keeps s t) {i k : Nat} : Keeps s (t.incSpan i k) := h.inc

theorem Keeps.spanEvent (h : Keeps s t) {bit : Nat} : Keeps s (t.spanEvent bit) := h.event

theorem Keeps.spanFault (h : Keeps s t) {bit : Nat} : Keeps s (t.spanFault bit) := h.event

theorem Keeps.spanTell (h : Keeps s t) {i kind arg : Nat} : Keeps s (t.spanTell i kind arg) := h.edit.ite h

theorem Keeps.stayLog (h : Keeps s t) {i reason : Nat} {h' : Nat × Nat × Nat} : Keeps s (t.stayLog i reason h') :=
  h.setSpan

theorem Keeps.nodesClose (h : Keeps s t) {i : Nat} : Keeps s (t.nodesClose i) := h.setSpan

theorem Keeps.nodesOpen (h : Keeps s t) {i : Nat} : Keeps s (t.nodesOpen i) := h.setSpan

theorem Keeps.wakeRecord (h : Keeps s t) {source index span detail : Nat} {during : Bool} :
    Keeps s (t.wakeRecord source index span detail during) :=
  h.edit

theorem Keeps.markFalseWake (h : Keeps s t) {i : Nat} : Keeps s (t.markFalseWake i) := by
  unfold State.markFalseWake
  split
  · exact h
  · exact h.edit

theorem Keeps.lineCommand (h : Keeps s t) {i mode : Nat} : Keeps s (t.lineCommand i mode) := h.edit

theorem Keeps.spanDisarm (h : Keeps s t) {i : Nat} : Keeps s (t.spanDisarm i) := h.setF.edit

theorem Keeps.spanXcvrBack (h : Keeps s t) {i : Nat} : Keeps s (t.spanXcvrBack i) :=
  h.foldl fun _ _ hu => hu.ite hu.xcvrCommand

theorem Keeps.linkLanesGate (h : Keeps s t) {i : Nat} {gated : Bool} : Keeps s (t.linkLanesGate i gated) :=
  (h.edit.ite h).iteElse fun hu => hu.edit.hostTarget

theorem Keeps.spanGate (h : Keeps s t) {i : Nat} : Keeps s (t.spanGate i) :=
  (((h.foldl fun _ _ hu => hu.setF).foldl fun _ _ hu => hu.linStop.setF).foldl fun _ _ hu => hu.portGate).linkLanesGate

theorem Keeps.portUngate (h : Keeps s t) {p : Nat} : Keeps s (t.portUngate p) :=
  ((h.setF.iteThen fun hu => hu.plcaStop.setF).iteThen fun hu => hu.speedStart.anStart).ite (h.setF.iteThen fun hu =>
      hu.plcaStop.setF).applyMode

theorem Keeps.spanUngate (h : Keeps s t) {i : Nat} : Keeps s (t.spanUngate i) :=
  ((h.linkLanesGate.foldl fun _ _ hu => hu.setF.setF.ite hu).foldl fun _ _ hu => hu.setF).foldl fun _ _ hu =>
      hu.portUngate.ite hu

theorem Keeps.spanDemand (h : Keeps s t) {i : Nat} : Keeps s (t.spanDemand i) :=
  h.setSpan.setFlag.setFlag.setFlag.setFlag.iteThen fun hu => hu.spanTell

theorem Keeps.spanEnter (h : Keeps s t) {i : Nat} : Keeps s (t.spanEnter i) :=
  (h.setF.stayLog.nodesClose.spanTell.setSpan.setF.foldl fun _ _ hu => hu.setCan).foldl fun _ _ hu => hu.ite
      (hu.setLin.ite hu.linSendSleep)

theorem Keeps.spanPrepare (h : Keeps s t) {i : Nat} : Keeps s (t.spanPrepare i) :=
  h.setF.spanTell.setSpan.ite (h.setF.spanTell.spanEnter.ite h.setF.spanTell.setSpan)

theorem Keeps.kaArm (h : Keeps s t) {i : Nat} : Keeps s (t.kaArm i) := h.setSpan

theorem Keeps.spanAbort (h : Keeps s t) {i : Nat} {h' : Nat × Nat × Nat} : Keeps s (t.spanAbort i h') :=
  h.setF.setSpan.kaArm.incSpan.spanFault.stayLog

theorem Keeps.longArm (h : Keeps s t) {i : Nat} : Keeps s (t.longArm i) := h.setSpan

theorem Keeps.spanAwake (h : Keeps s t) {i : Nat} : Keeps s (t.spanAwake i) :=
  h.setSpan.longArm.kaArm.nodesOpen.setF.setF.incSpan.spanEvent.iteElse fun hu => (hu.foldl fun _ _ hv =>
      hv.linPulse.ite hv).foldl fun _ _ hv => hv.edit.ite hv

theorem Keeps.spanAwakeCheck (h : Keeps s t) {i : Nat} : Keeps s (t.spanAwakeCheck i) := h.spanAwake.ite h

theorem Keeps.carrierTell (h : Keeps s t) : Keeps s t.carrierTell := by
  unfold State.carrierTell
  split
  · exact h
  · exact h.ite h.edit.spanTell

theorem Keeps.spanWaking (h : Keeps s t) {i chan : Nat} : Keeps s (t.spanWaking i chan) :=
  (h.spanDisarm.iteElse fun hu => hu.foldl fun _ _ hv => hv.setLin).setSpan.setF.syncInh.carrierTell

theorem Keeps.spanAsleep (h : Keeps s t) {i : Nat} : Keeps s (t.spanAsleep i) :=
  h.spanGate.setF.incSpan.spanEvent.syncInh.carrierTell

theorem Keeps.spanAsleepCheck (h : Keeps s t) {i : Nat} : Keeps s (t.spanAsleepCheck i) := h.spanAsleep.ite h

theorem Keeps.spanUpdate (h : Keeps s t) {i : Nat} : Keeps s (t.spanUpdate i) :=
  h.spanDemand.carrierTell.iteElse fun hu => hu.spanAbort.ite (hu.setSpan.ite (hu.spanPrepare.ite hu))

theorem Keeps.lineSent (h : Keeps s t) {c mode : Nat} : Keeps s (t.lineSent c mode) :=
  h.edit.spanAsleepCheck.spanAwakeCheck

theorem Keeps.lpRefuse (h : Keeps s t) : Keeps s t.lpRefuse := h.edit.event

theorem Keeps.wakeTell (h : Keeps s t) {i source detail : Nat} : Keeps s (t.wakeTell i source detail) :=
  h.spanTell.spanTell

theorem Keeps.wakeSpan (h : Keeps s t) {i source index detail chan : Nat} {h' : Nat × Nat × Nat} :
    Keeps s (t.wakeSpan i source index detail chan h') :=
  h.wakeRecord.edit.ite ((h.lpRefuse.ite h).wakeRecord.spanWaking.wakeTell.ite
      ((h.lpRefuse.ite h).wakeRecord.incSpan.spanWaking.spanFault.stayLog.spanXcvrBack.lineCommand.wakeTell.ite
      ((h.lpRefuse.ite h).iteThen fun hu => hu.spanAbort)))

theorem Keeps.spanWait (h : Keeps s t) {d : SpanDue} : Keeps s (t.spanWait d) := h.edit

theorem Keeps.wakeBy (h : Keeps s t) {i source index detail chan : Nat} {h' : Nat × Nat × Nat} :
    Keeps s (t.wakeBy i source index detail chan h') := by
  unfold State.wakeBy
  refine h.spanWait.ite ?_
  dsimp only
  split
  · exact h.wakeSpan.iteThen fun hu => hu.wakeSpan
  · exact h.wakeSpan

theorem Keeps.wake (h : Keeps s t) {i source index detail chan : Nat} : Keeps s (t.wake i source index detail chan) :=
  h.wakeBy

theorem Keeps.keepAliveDecide (h : Keeps s t) {i chan node detail : Nat} : Keeps s (t.keepAliveDecide i chan node detail) :=
  h.spanWait.ite (h.spanAbort.ite (h.wakeBy.setSpan.ite h.spanUpdate))

theorem Keeps.keepAlive (h : Keeps s t) {i chan node detail : Nat} {demand : Bool} :
    Keeps s (t.keepAlive i chan node detail demand) :=
  (h.ite h.setSpan.setF).spanDemand.keepAliveDecide

theorem Keeps.kaFrame (h : Keeps s t) {i chan ident detail : Nat} {pay : List Byte} :
    Keeps s (t.kaFrame i chan ident detail pay) := by
  unfold State.kaFrame
  split
  · exact h.incSpan
  · exact h.keepAlive

theorem Keeps.spanSwakeFrame (h : Keeps s t) {n dlc : Nat} {r : List Byte} : Keeps s (t.spanSwakeFrame n dlc r) := by
  unfold State.spanSwakeFrame
  dsimp only
  split
  · exact h.wake.setSpan.ite h
  · exact h

theorem Keeps.spanCanFrame (h : Keeps s t) {n dlc : Nat} {r : List Byte} : Keeps s (t.spanCanFrame n dlc r) :=
  (h.setSpan.iteThen fun hu => hu.kaFrame).spanSwakeFrame

theorem Keeps.spanEthFrame (h : Keeps s t) {p : Nat} {b : List Byte} : Keeps s (t.spanEthFrame p b) :=
  h.setSpan.iteThen fun hu => hu.kaFrame

theorem Keeps.spanLinFrame (h : Keeps s t) {n : Nat} : Keeps s (t.spanLinFrame n) := h.setSpan

theorem Keeps.sleepDrop (h : Keeps s t) {st chan route : Nat} : Keeps s (t.sleepDrop st chan route).2 :=
  Keeps.iteOn Prod.snd h.incSpan (Keeps.iteOn Prod.snd (h.incSpan.iteThen fun hu => hu.wake) h)

theorem Keeps.sleepFilter (h : Keeps s t) {specs : List CopySpec} : Keeps s (t.sleepFilter specs).2 := by
  unfold State.sleepFilter
  dsimp only
  exact Keeps.foldlOn Prod.snd h (fun _ _ hu => Keeps.iteOn Prod.snd hu (Keeps.iteOn Prod.snd hu.sleepDrop hu.sleepDrop))

theorem Keeps.holdSet (h : Keeps s t) {i client : Nat} : Keeps s (t.holdSet i client) := h.ite h.setSpan.setF

theorem Keeps.holdClear (h : Keeps s t) {i client : Nat} : Keeps s (t.holdClear i client) := h.ite h.setSpan.setF

theorem Keeps.idleEnd (h : Keeps s t) {i : Nat} : Keeps s (t.idleEnd i) := h.setSpan.setF.ite h

theorem Keeps.spanDiscard (h : Keeps s t) {i : Nat} : Keeps s (t.spanDiscard i) :=
  (((h.foldl fun _ _ hu => hu.flushQueue).foldl fun _ _ hu => hu.canDiscard).foldl fun _ _ hu =>
      hu.linDiscard.iteThen fun hv => hv.setLin.linStop).foldl fun _ _ hu => hu.foldl fun _ _ hv => (hv.foldl fun _ _ hw3 =>
      hw3.tsqDiscard).flushQueue

theorem Keeps.spanArm (h : Keeps s t) {i : Nat} : Keeps s (t.spanArm i) := h.setSpan.edit

theorem Keeps.spanArmed (h : Keeps s t) {i : Nat} : Keeps s (t.spanArmed i) :=
  (h.edit.setF.setSpan.foldl fun _ _ hu => hu.xcvrCommand).lineCommand.spanAsleepCheck

theorem Keeps.spanArmFail (h : Keeps s t) {i : Nat} : Keeps s (t.spanArmFail i) :=
  h.hatpinDown.spanDisarm.spanXcvrBack.lineCommand.setSpan.setF.setF.longArm.kaArm.nodesOpen.incSpan.spanFault.spanDemand

theorem Keeps.spanStart (h : Keeps s t) {i : Nat} : Keeps s (t.spanStart i) := by
  unfold State.spanStart
  dsimp only
  exact h.ite ((h.setSpan.edit.ite h.setSpan.wakeRecord).foldl fun _ _ hu =>
      hu.setCan).nodesClose.spanWaking.spanXcvrBack.lineCommand.spanAwakeCheck.wakeTell

theorem Keeps.spansBegin (h : Keeps s t) : Keeps s t.spansBegin := h.foldl fun _ _ hu => hu.setSpan.longArm.spanDemand

theorem Keeps.spanSleepOff (h : Keeps s t) {i epoch : Nat} : Keeps s (t.spanSleepOff i epoch) :=
  h.wake.spanDemand.iteThen fun hu => hu.spanAbort

theorem Keeps.execIdleTimerExpiry (h : Keeps s t) {i : Fin 16} : KeptBy s (execIdleTimerExpiry i t) := by
  unfold Machine.execIdleTimerExpiry
  refine .next (h.ite ?_)
  split
  · exact h.spanUpdate
  · exact h.timeTo.idleEnd.spanUpdate

theorem Keeps.execPrepareTimeExpiry (h : Keeps s t) {i : Fin 16} : KeptBy s (execPrepareTimeExpiry i t) := by
  unfold Machine.execPrepareTimeExpiry
  refine .next ?_
  split
  · exact h
  · exact h.timeTo.spanEnter.ite h

theorem Keeps.execFalseWakeExpiry (h : Keeps s t) {i : Fin 16} : KeptBy s (execFalseWakeExpiry i t) := by
  unfold Machine.execFalseWakeExpiry
  refine .next ?_
  split
  · exact h
  · exact h.ite (h.timeTo.spanDemand.setSpan.setF.markFalseWake.incSpan.setSpan.spanEnter.ite
      h.timeTo.spanDemand.setSpan.setF.spanUpdate)

theorem Keeps.execEntryDrainEnd (h : Keeps s t) {i : Fin 16} : KeptBy s (execEntryDrainEnd i t) := by
  unfold Machine.execEntryDrainEnd
  refine .next (Keeps.ite (h.spanArm.ite ?_) h)
  split
  · exact h.timeTo.spanDiscard.spanArm
  · exact h.spanArm

theorem Keeps.armingEnd (h : Keeps s t) {i : Nat} {fails : Bool} : Keeps s (t.armingEnd i fails) :=
  h.ite (h.spanWait.ite (h.spanArmFail.ite h.spanArmed))

theorem Keeps.execArmingConfirmed (h : Keeps s t) {i : Fin 16} {fails : Bool} : KeptBy s (execArmingConfirmed i fails t) :=
  .next h.armingEnd

theorem Keeps.execLanePowerUp (h : Keeps s t) {i : Fin 16} : KeptBy s (execLanePowerUp i t) :=
  .next (h.spanUngate.spanXcvrBack.lineCommand.spanAwakeCheck.ite h)

theorem Keeps.kaSend (h : Keeps s t) {i : Nat} : Keeps s (t.kaSend i) := h.foldl fun _ _ hu => hu.storeFrame.ite hu

theorem Keeps.execKaTxPeriodExpiry (h : Keeps s t) {i : Fin 16} : KeptBy s (execKaTxPeriodExpiry i t) := by
  unfold Machine.execKaTxPeriodExpiry
  refine .next ?_
  split
  · exact h
  · exact h.timeTo.setSpan.iteElse fun hu => hu.kaSend

theorem Keeps.execLongAwakeExpiry (h : Keeps s t) {i : Fin 16} : KeptBy s (execLongAwakeExpiry i t) := by
  unfold Machine.execLongAwakeExpiry
  refine .next ?_
  split
  · exact h
  · exact h.timeTo.setSpan.incSpan.stayLog

theorem Keeps.swakeIn (h : Keeps s t) {n span f kind id : Nat} {rtr : Bool} {dlc data : Nat} :
    Keeps s (t.swakeIn n span f kind id rtr dlc data) :=
  (h.edit.iteThen fun hu => hu.wake).ite (h.ite (h.edit.iteThen fun hu => hu.wake))

theorem Keeps.execSwakeFrame (h : Keeps s t) {n : Fin 16} {kind : Fin 3} {id : BitVec 30} {rtr : Bool} {dlc : BitVec 4} {data
    : BitVec 64} : KeptBy s (execSwakeFrame n kind id rtr dlc data t) := by
  unfold Machine.execSwakeFrame
  refine .next ?_
  split
  · exact h
  · exact h.ite h.swakeIn

theorem Keeps.execWup (h : Keeps s t) {n : Fin 16} : KeptBy s (execWup n t) := by
  unfold Machine.execWup
  refine .next ?_
  split
  · exact h.wake.ite h
  · exact h

theorem Keeps.execWakePin (h : Keeps s t) {pin : Fin 8} {level : Bool} : KeptBy s (execWakePin pin level t) :=
  .next (h.setF.iteElse fun hu => hu.foldl fun _ _ hv => hv.wake)

theorem Keeps.execLinWake (h : Keeps s t) {n : Fin 8} : KeptBy s (execLinWake n t) := by
  unfold Machine.execLinWake
  refine .next ?_
  split
  · exact h.wake
  · exact h

theorem Keeps.execT1sWake (h : Keeps s t) {i : Fin 8} : KeptBy s (execT1sWake i t) := by
  unfold Machine.execT1sWake
  refine .next ?_
  split
  · exact h.wake
  · exact h

theorem Keeps.execWakePatternMatch (h : Keeps s t) {p : Fin 12} {frame : List Byte} :
    KeptBy s (execWakePatternMatch p frame t) := by
  unfold Machine.execWakePatternMatch
  refine .next ?_
  split
  · exact h
  · exact h.inc.event.wake.ite h

theorem Keeps.spanFromMember (h : Keeps s t) {i deck kind arg : Nat} : Keeps s (t.spanFromMember i deck kind arg) := by
  unfold State.spanFromMember
  split
  · exact h.setSpan.spanUpdate
  · exact h.wake.iteElse fun hu => hu.spanTell
  · exact h.setSpan.spanUpdate
  · exact h

theorem Keeps.spansLost (h : Keeps s t) {gone : List Nat} : Keeps s (t.spansLost gone) :=
  h.foldl fun _ _ hu => hu.setSpan.spanUpdate.ite hu

theorem Keeps.spansReport (h : Keeps s t) : Keeps s t.spansReport := by
  unfold State.spansReport
  dsimp only
  exact (h.foldl fun _ _ hu => hu.setSpan.spanTell).edit.carrierTell.foldl fun _ _ hu => hu.spanUpdate

theorem Keeps.spanFromMaster (h : Keeps s t) {i deck kind arg : Nat} : Keeps s (t.spanFromMaster i deck kind arg) := by
  unfold State.spanFromMaster
  refine h.spanWait.ite ?_
  dsimp only
  split
  · exact (h.ite h.setSpan).setSpan.spanUpdate
  · exact (h.ite h.setSpan).iteThen fun hu => hu.spanPrepare
  · exact (h.ite h.setSpan).iteThen fun hu => hu.spanEnter
  · exact (h.ite h.setSpan).wake
  · exact h.ite h.setSpan

theorem Keeps.spanTake (h : Keeps s t) {d : SpanDue} : Keeps s (t.spanTake d) := by
  unfold State.spanTake
  split
  · exact h.wakeBy
  · exact h.keepAliveDecide
  · exact h.spanFromMaster
  · exact h.armingEnd

theorem Keeps.execViaductSpanMessage (h : Keeps s t) {i : Fin 16} {deck : Fin 4} {kind : Fin 7} {arg : Byte} :
    KeptBy s (execViaductSpanMessage i deck kind arg t) :=
  .next ((h.edit.ite h).ite (h.ite (h.spanFromMaster.ite h.spanFromMember)))

/-! ### Operations of Power -/

theorem Keeps.acceptPark (h : Keeps s t) {wakeS : Nat} : Keeps s (t.acceptPark wakeS) := h.crownClear.edit.syncInh

theorem Keeps.deviceWake (h : Keeps s t) : Keeps s t.deviceWake :=
  h.edit.edit.setPower.causewayRelease.ite (h.edit.setPower.ite h)

theorem Keeps.lpEnter (h : Keeps s t) {mode : Nat} : Keeps s (t.lpEnter mode) := h.edit.ite (h.ite (h.edit.ite h.acceptPark))

theorem Keeps.execEntryHoldExpiry (h : Keeps s t) {wakeFirst : Bool} : KeptBy s (execEntryHoldExpiry wakeFirst t) :=
  .next (h.ite (h.ite (h.hbTo.lpRefuse.ite h.hbTo.lpEnter)))

theorem Keeps.execXosc32Stable (h : Keeps s t) : KeptBy s (execXosc32Stable t) :=
  .next (h.edit.setF.iteThen fun hu => hu.acceptPark)

theorem Keeps.crystalWake (h : Keeps s t) : Keeps s t.crystalWake := h.edit.deviceWake.event

theorem Keeps.execXosc32Stop (h : Keeps s t) : KeptBy s (execXosc32Stop t) :=
  .next (h.edit.setF.iteThen fun hu => hu.crystalWake)

theorem Keeps.parkedNow (h : Keeps s t) : Keeps s t.parkedNow := h.edit.edit.setPower

theorem Keeps.execParkSupplyFall (h : Keeps s t) : KeptBy s (execParkSupplyFall t) :=
  .next (((h.parkedNow.iteThen fun hu => hu.deviceWake).ite h.parkedNow.crystalWake).ite h)

theorem Keeps.listeningNow (h : Keeps s t) : Keeps s t.listeningNow := h.edit.edit.setPower

theorem Keeps.execCoreClockStop (h : Keeps s t) : KeptBy s (execCoreClockStop t) :=
  .next ((h.listeningNow.iteThen fun hu => hu.deviceWake).ite h)

theorem Keeps.execListeningWake (h : Keeps s t) : KeptBy s (execListeningWake t) := .next (h.deviceWake.ite h)

theorem Keeps.spansResume (h : Keeps s t) : Keeps s t.spansResume :=
  h.edit.foldl fun _ _ hu => hu.spanWaking.wakeTell.ite hu

theorem Keeps.gatedLost (h : Keeps s t) : Keeps s t.gatedLost := h.foldl fun _ _ hu => hu.domainPut.ite hu

theorem Keeps.execCoreClocksResume (h : Keeps s t) : KeptBy s (execCoreClocksResume t) :=
  .next (h.historyAll.setPower.watchdogAgain.gatedLost.workChoose.spansResume.ite h)

theorem Keeps.execParkedWake (h : Keeps s t) : KeptBy s (execParkedWake t) := .next (h.deviceWake.ite h)

theorem Keeps.execWakeTimerExpiry (h : Keeps s t) : KeptBy s (execWakeTimerExpiry t) := by
  unfold Machine.execWakeTimerExpiry
  refine .next ?_
  split
  · exact h
  · exact h.hbTo.edit.wakeRecord.deviceWake

theorem Keeps.parkOnTime (h : Keeps s t) : Keeps s t.parkOnTime := (h.acceptPark.ite h.edit).ite h

theorem Keeps.execListenToParkExpiry (h : Keeps s t) : KeptBy s (execListenToParkExpiry t) := by
  unfold Machine.execListenToParkExpiry
  refine .next ?_
  split
  · exact h
  · exact h.hbTo.edit.parkOnTime

theorem Keeps.degradeSupply (h : Keeps s t) : Keeps s t.degradeSupply := h.crownClear.edit.setPower.causewayRelease

theorem Keeps.execSupplyQualifyTimeout (h : Keeps s t) : KeptBy s (execSupplyQualifyTimeout t) := by
  unfold Machine.execSupplyQualifyTimeout
  refine .next ?_
  split
  · exact h
  · exact h.hbTo.degradeSupply.ite h

theorem Keeps.supplyRetry (h : Keeps s t) : Keeps s t.supplyRetry := h.ite h.edit.setF.setPower

theorem Keeps.execSupplyRetryExpiry (h : Keeps s t) : KeptBy s (execSupplyRetryExpiry t) := by
  unfold Machine.execSupplyRetryExpiry
  refine .next ?_
  split
  · exact h
  · exact h.hbTo.edit.supplyRetry

theorem Keeps.thermalRetry (h : Keeps s t) {temp : Nat} : Keeps s (t.thermalRetry temp) := h.ite h.edit.setF.setPower

theorem Keeps.execThermalRetryExpiry (h : Keeps s t) {brimTemp : Byte} : KeptBy s (execThermalRetryExpiry brimTemp t) := by
  unfold Machine.execThermalRetryExpiry
  refine .next ?_
  split
  · exact h
  · exact h.hbTo.thermalRetry

theorem Keeps.thermRise (h : Keeps s t) {t' : Nat} : Keeps s (t.thermRise t') :=
  (h.creditSyncAll.iteThen fun hu => hu.setF.event).iteThen fun hu => hu.setF.event

theorem Keeps.setThermFallAt (h : Keeps s t) {o : Option Nat} : Keeps s { t with brim := { t.brim with thermFallAt := o } } :=
  h.edit

theorem Keeps.thermPublish (h : Keeps s t) {crown brim : Nat} : Keeps s (t.thermPublish crown brim) :=
  h.setF.setF.setF.setF.thermRise.setThermFallAt

theorem Keeps.thermCritical (h : Keeps s t) : Keeps s t.thermCritical :=
  h.faultRise.crownClear.edit.setPower.causewayRelease

theorem Keeps.execThermalRead (h : Keeps s t) {crown brimT : Byte} : KeptBy s (execThermalRead crown brimT t) :=
  .next (h.thermPublish.iteThen fun hu => hu.thermCritical.ite hu)

theorem Keeps.thermFall (h : Keeps s t) : Keeps s t.thermFall :=
  h.creditSyncAll.setF.setThermFallAt.event.ite h.creditSyncAll.setF.setThermFallAt

theorem Keeps.execThermalFallTimer (h : Keeps s t) : KeptBy s (execThermalFallTimer t) := by
  unfold Machine.execThermalFallTimer
  refine .next ?_
  split
  · exact h
  · exact h.hbTo.thermFall

theorem Keeps.execInhNvmWrite (h : Keeps s t) {fails : Bool} : KeptBy s (execInhNvmWrite fails t) :=
  .next (h.ite (h.edit.hatpinDown.event.ite h.edit.edit.cwFollow.syncInh))

theorem Keeps.execThermPeakRead (h : Keeps s t) : KeptBy s (execThermPeakRead t) := .next (h.hosted h.setReg.edit)

/-! ### Operations of Hatbox -/

theorem Keeps.syncHbx (h : Keeps s t) : Keeps s t.syncHbx := h.setF.setFlag.setFlag

theorem Keeps.hbxEvent (h : Keeps s t) {bit detail : Nat} : Keeps s (t.hbxEvent bit detail) := h.event

theorem Keeps.incHbx (h : Keeps s t) {i : Nat} : Keeps s (t.incHbx i) := h.inc

theorem Keeps.jobWrite (h : Keeps s t) {client : Nat} {seg : Bool} {addr : Nat} {d : List Byte} :
    Keeps s (t.jobWrite client seg addr d).2 := by
  unfold State.jobWrite
  dsimp only
  exact Keeps.iteOn Prod.snd h (Keeps.iteOn Prod.snd h.writeSeg (h.hostWrite.iteThen fun hu => hu.flushOne))

theorem Keeps.jobRead (h : Keeps s t) {client : Nat} {seg : Bool} {addr len : Nat} :
    Keeps s (t.jobRead client seg addr len).2 :=
  Keeps.iteOn Prod.snd h (Keeps.iteOn Prod.snd h h.hostRead)

theorem Keeps.drbgDraw (h : Keeps s t) {len : Nat} : Keeps s (t.drbgDraw len).2 := h.edit

theorem Keeps.drbgSeed (h : Keeps s t) : Keeps s t.drbgSeed := by
  unfold State.drbgSeed
  dsimp only
  exact h.draw.edit

theorem Keeps.dropCtx (h : Keeps s t) {client ctx : Nat} : Keeps s (t.dropCtx client ctx) := h.edit

theorem Keeps.zeroOuts (h : Keeps s t) {client : Nat} {seg : Bool} {areas : List (Nat × Nat)} :
    Keeps s (t.zeroOuts client seg areas).2 := by
  unfold State.zeroOuts
  dsimp only
  exact Keeps.foldlOn Prod.snd h (fun _ _ hu => hu.jobWrite)

theorem Keeps.dropJob (h : Keeps s t) {j : HbxJob} : Keeps s (t.dropJob j) := h.edit

theorem Keeps.bulkIdle (h : Keeps s t) : Keeps s t.bulkIdle := h.setF.edit.ite h

theorem Keeps.closeCtx (h : Keeps s t) {j : HbxJob} : Keeps s (t.closeCtx j) := h.ite h.dropCtx

theorem Keeps.abortJob (h : Keeps s t) {j : HbxJob} : Keeps s (t.abortJob j) := by
  unfold State.abortJob
  dsimp only
  exact h.dropJob.closeCtx.zeroOuts.incHbx.finishTicket.bulkIdle

theorem Keeps.abortJobs (h : Keeps s t) {lo : Nat} : Keeps s (t.abortJobs lo) := h.foldl fun _ _ hu => hu.abortJob

theorem Keeps.breakJob (h : Keeps s t) {j : HbxJob} {status : Nat} : Keeps s (t.breakJob j status) := by
  unfold State.breakJob
  dsimp only
  exact h.dropJob.closeCtx.zeroOuts.incHbx.finishTicket.bulkIdle

theorem Keeps.failJob (h : Keeps s t) {j : HbxJob} {result : Nat} : Keeps s (t.failJob j result) := by
  unfold State.failJob
  dsimp only
  exact (h.dropJob.closeCtx.zeroOuts.iteThen fun hu => hu.incHbx).incHbx.finishTicket.bulkIdle

theorem Keeps.passJob (h : Keeps s t) {j : HbxJob} {tag : List Byte} : Keeps s (t.passJob j tag) :=
  h.dropJob.incHbx.finishTicket.bulkIdle

theorem Keeps.endJob (h : Keeps s t) {j : HbxJob} : Keeps s (t.endJob j) := by
  unfold State.endJob
  dsimp only
  refine (h.failJob.ite (h.drbgDraw.jobWrite.passJob.ite h.drbgDraw.jobWrite.breakJob)).ite (h.abortJob.ite ?_)
  split
  · exact h.jobRead.jobRead.failJob.ite (h.jobRead.jobRead.jobWrite.breakJob.ite
      (h.jobRead.jobRead.jobWrite.closeCtx.iteElse fun hu => hu.edit).passJob)
  · exact h.jobRead.jobRead.breakJob

theorem Keeps.setEngine (h : Keeps s t) {e : Nat} {v : EngineSt} : Keeps s (t.setEngine e v) := h.edit

theorem Keeps.bulkDrainCheck (h : Keeps s t) : Keeps s t.bulkDrainCheck := by
  unfold State.bulkDrainCheck
  split
  · exact h
  · exact h.setF.abortJobs.bulkIdle.ite h

theorem Keeps.bulkRun (h : Keeps s t) {e : Nat} {j : HbxJob} : Keeps s (t.bulkRun e j) := h.edit.iteThen fun hu => hu.endJob

theorem Keeps.execBulkQuantum (h : Keeps s t) {e : Fin 7} {upset : Fin 4} : KeptBy s (execBulkQuantum e upset t) := by
  unfold Machine.execBulkQuantum
  refine .next ?_
  split
  · exact h.bulkDrainCheck
  · exact h.bulkDrainCheck.setEngine.incHbx.failJob.ite (h.bulkDrainCheck.setEngine.incHbx.eraseSlot.breakJob.ite
      (h.bulkDrainCheck.setEngine.incHbx.breakJob.ite (h.bulkDrainCheck.setEngine.incHbx.flushFailed.breakJob.ite
      h.bulkDrainCheck.setEngine.incHbx.bulkRun)))

theorem Keeps.eraseSlots (h : Keeps s t) {which : Nat → KeySlot → Bool} : Keeps s (t.eraseSlots which) :=
  h.foldl fun _ _ hu => hu.eraseSlot

theorem Keeps.zeroiseRam (h : Keeps s t) {scope : Nat} : Keeps s (t.zeroiseRam scope) :=
  h.abortJobs.eraseSlots.iteElse fun hu => hu.edit.drbgSeed

theorem Keeps.hbxLock (h : Keeps s t) : Keeps s t.hbxLock :=
  h.ite h.setF.hbxEvent.eraseSlots.abortJobs.syncHbx.evqTargetSlept.faultRise

theorem Keeps.invalidateCopies (h : Keeps s t) {fails : Bool} : Keeps s (t.invalidateCopies fails) :=
  (h.hatpinDown.ite h).edit

theorem Keeps.debugOpen (h : Keeps s t) {scope : Nat} : Keeps s (t.debugOpen scope) := h.edit.syncHbx

theorem Keeps.zeroiseEnd (h : Keeps s t) {fails : Bool} : Keeps s (t.zeroiseEnd fails) := by
  unfold State.zeroiseEnd
  split
  · exact h
  · refine Keeps.ite ?_ (Keeps.finishTicket ?_)
    · split
      · exact h.edit.setF.hbxEvent.iteThen fun hu => hu.debugOpen
      · exact h.edit.setF.hbxEvent
    · split
      · exact h.edit.setF.hbxEvent.iteThen fun hu => hu.debugOpen
      · exact h.edit.setF.hbxEvent

theorem Keeps.execPersistInvalidate (h : Keeps s t) {fails : Bool} : KeptBy s (execPersistInvalidate fails t) := by
  unfold Machine.execPersistInvalidate
  refine .next ?_
  split
  · exact h.ite h.invalidateCopies.zeroiseEnd
  · exact h

theorem Keeps.entropyFail (h : Keeps s t) : Keeps s t.entropyFail :=
  (h.edit.hbxEvent.foldl fun _ _ hu => hu.failJob).iteThen fun hu => hu.hbxLock

theorem Keeps.execEntropyFail (h : Keeps s t) : KeptBy s (execEntropyFail t) := .next h.entropyFail

theorem Keeps.execEntropyRetry (h : Keeps s t) {fails : Bool} : KeptBy s (execEntropyRetry fails t) := by
  unfold Machine.execEntropyRetry
  refine .next ?_
  split
  · exact h
  · exact h.timeTo.entropyFail.ite h.timeTo.drbgSeed

theorem Keeps.execChallengeExpiry (h : Keeps s t) : KeptBy s (execChallengeExpiry t) := by
  unfold Machine.execChallengeExpiry
  refine .next ?_
  split
  · exact h
  · exact h.timeTo.edit

/-! ### Operations of Decide -/

theorem Keeps.incFdb (h : Keeps s t) {p i : Nat} : Keeps s (t.incFdb p i) := h.inc

theorem Keeps.incFrer (h : Keeps s t) {f i : Nat} : Keeps s (t.incFrer f i) := h.inc

theorem Keeps.incRoute (h : Keeps s t) {r i : Nat} : Keeps s (t.incRoute r i) := h.inc

theorem Keeps.incRouteDeck (h : Keeps s t) {i : Nat} : Keeps s (t.incRouteDeck i) := h.inc

theorem Keeps.setMeter (h : Keeps s t) {m : Nat} {v : MeterSt} : Keeps s (t.setMeter m v) := h.edit

theorem Keeps.colour (h : Keeps s t) {m len : Nat} {arrivesYellow : Bool} : Keeps s (t.colour m len arrivesYellow).2 :=
  Keeps.iteOn Prod.snd h.setMeter.inc.addCtr (Keeps.iteOn Prod.snd h.setMeter.inc.addCtr h.setMeter.inc.addCtr)

theorem Keeps.setRate (h : Keeps s t) {r : Nat} {v : RateSt} : Keeps s (t.setRate r v) := h.edit

theorem Keeps.rateTake (h : Keeps s t) {r : Nat} : Keeps s (t.rateTake r).2 :=
  Keeps.iteOn Prod.snd h.setRate.inc h.setRate.inc

theorem Keeps.setFrer (h : Keeps s t) {f : Nat} {v : FrerSt} : Keeps s (t.setFrer f v) := h.edit

theorem Keeps.recover (h : Keeps s t) {f : Nat} {b : List Byte} : Keeps s (t.recover f b).2 := by
  unfold State.recover
  refine Keeps.iteOn Prod.snd (Keeps.iteOn Prod.snd h.setFrer.incFrer.incFrer h.incFrer) ?_
  dsimp only
  split
  · exact h.setFrer.incFrer
  · exact Keeps.iteOn Prod.snd (Keeps.iteOn Prod.snd h.setFrer.incFrer h.incFrer) (Keeps.iteOn Prod.snd h.incFrer
      (Keeps.iteOn Prod.snd h.incFrer (Keeps.iteOn Prod.snd h.setFrer.incFrer h.setFrer.incFrer)))

theorem Keeps.postLearn (h : Keeps s t) {p : Nat} {mac : List Byte} {fid : Nat} {move : Bool} :
    Keeps s (t.postLearn p mac fid move) :=
  h.ite (h.incFdb.ite h.edit.payload)

theorem Keeps.learnStep (h : Keeps s t) {p : Nat} {b : List Byte} {fid : Nat} {vlanLearn : Bool} :
    Keeps s (t.learnStep p b fid vlanLearn) := by
  unfold State.learnStep
  refine h.ite ?_
  split
  · exact (h.ite h.incFdb).ite (h.edit.ite (h.postLearn.ite h))
  · exact h.postLearn.ite h

theorem Keeps.drop (h : Keeps s t) {bad : List Nat} : Keeps s (Verdict.drop t bad).st := h

theorem Keeps.destinations (h : Keeps s t) {f : RxFrame} {vid vlan : Nat} {stream : Option Nat} {sIdx : Nat} {yellow popRtag
    : Bool} : Keeps s (t.destinations f vid vlan stream sIdx yellow popRtag).st :=
  Keeps.iteOn Verdict.st h (Keeps.iteOn Verdict.st (h.incFdb.ite h).incFdb (h.incFdb.ite h))

theorem Keeps.colourIf (h : Keeps s t) {c : Prop} {_ : Decidable c} {m len k : Nat} {b : Bool} :
    Keeps s (if c then t.colour m len b else (k, t)).2 := Keeps.iteOn Prod.snd h.colour h

theorem Keeps.recoverIf (h : Keeps s t) {c : Prop} {_ : Decidable c} {fn : Nat} {b : List Byte} {ok : Bool} :
    Keeps s (if c then t.recover fn b else (ok, t)).2 := Keeps.iteOn Prod.snd h.recover h

theorem Keeps.ethDecide (h : Keeps s t) {f : RxFrame} : Keeps s (t.ethDecide f).st := by
  unfold State.ethDecide
  dsimp only
  exact Keeps.iteOn Verdict.st h.incFdb.drop (Keeps.iteOn Verdict.st h.incFdb.drop (Keeps.iteOn Verdict.st h.incFdb.drop
    (Keeps.iteOn Verdict.st h.incFdb.drop (Keeps.iteOn Verdict.st h.incFdb.drop (Keeps.iteOn Verdict.st h.colourIf.incFdb.drop
    (Keeps.iteOn Verdict.st h.colourIf.incFdb.drop (Keeps.iteOn Verdict.st h.colourIf.recoverIf.incFdb.drop
    h.colourIf.recoverIf.learnStep.destinations)))))))

theorem Keeps.fallbackDecide (h : Keeps s t) {f : RxFrame} : Keeps s (t.fallbackDecide f).st :=
  Keeps.iteOn Verdict.st h.incSw.drop h

theorem Keeps.badMet (h : Keeps s t) {bad : List Nat} : Keeps s (t.badMet bad) :=
  h.foldl fun _ _ hu => hu.incRouteDeck.faultRise

theorem Keeps.fallbackEnter (h : Keeps s t) : Keeps s t.fallbackEnter := h.setF.incSw.event.faultRise

theorem Keeps.hardMismatch (h : Keeps s t) : Keeps s t.hardMismatch :=
  h.edit.incSw.event.setF.edit.faultRise.ite (h.edit.incSw.event.iteThen fun hu => hu.fallbackEnter)

theorem Keeps.tableUpset (h : Keeps s t) {u : Upset} : Keeps s (t.tableUpset u) := by
  unfold State.tableUpset
  dsimp only
  split
  · exact h.incRouteDeck.ite h
  · exact (h.incRouteDeck.ite h).iteElse fun hu => hu.edit

theorem Keeps.compared (h : Keeps s t) {twin : Nat} : Keeps s (t.compared twin) := h.incSw.ite (h.hardMismatch.ite h)

theorem Keeps.twin (h : Keeps s t) {u : Upset} {normal fall : State → Verdict} (hnormal : ∀ (u : State), Keeps s u → Keeps s
    (normal u).st) (hfall : ∀ (u : State), Keeps s u → Keeps s (fall u).st) : Keeps s (t.twin u normal fall).2 := by
  unfold State.twin
  dsimp only
  exact Keeps.iteOn Prod.snd ((Keeps.iteOn Prod.snd h.tableUpset.incSw (hfall _ h.tableUpset)).iteThen fun hu =>
      hu.compared).badMet (Keeps.iteOn Prod.snd h.tableUpset.compared.badMet (hnormal _ h.tableUpset).compared.badMet)

theorem Keeps.setRx (h : Keeps s t) {id : Nat} {f : RxFrame} : Keeps s (t.setRx id f) := h.edit

theorem Keeps.refuseLive (h : Keeps s t) {owner : Nat} {late : Bool} {d : Nat} : Keeps s (t.refuseLive owner late d) := by
  unfold State.refuseLive
  split
  · exact h.tsqDiscard.unqueue.dropCopies
  · split
    · exact h.egressErase.tsqDiscard.dropCopies.ite h.truncate
    · exact h.dropCopies
  · exact (h.tsqDiscard.ite h).dropCopies

theorem Keeps.admitLive (h : Keeps s t) {owner port : Nat} {cells live : List Nat} {late : Bool} :
    Keeps s (t.admitLive owner port cells live late).2 := by
  unfold State.admitLive
  dsimp only
  exact Keeps.foldl (Keeps.foldlOn Prod.snd h (fun _ _ hu => hu.admitAll)) fun _ _ hu => hu.refuseLive

theorem Keeps.linkReady (h : Keeps s t) {f : RxFrame} : Keeps s (t.linkReady f).2 := by
  unfold State.linkReady
  refine Keeps.foldlOn Prod.snd h ?_
  intro _ _ hu
  refine Keeps.iteOn Prod.snd ?_ hu
  split
  · exact (hu.enqClosed ‹State.enqClosed .. = _›).tsqDiscard.dropUnlinked
  · exact hu.linkCopy

theorem Keeps.rxFinish (h : Keeps s t) {id : Nat} {f : RxFrame} : Keeps s (t.rxFinish id f) :=
  h.setRx.ite (h.rxDrop.ite h.eraseRx)

theorem Keeps.tsqRefused (h : Keeps s t) {specs : List CopySpec} {live : List Nat} : Keeps s (t.tsqRefused specs live) := by
  unfold State.tsqRefused
  refine h.foldl ?_
  intro _ _ hu
  split
  · exact hu.ite hu.tsqWrite
  · exact hu

theorem Keeps.rxRefused (h : Keeps s t) {id : Nat} {f : RxFrame} {owner cls : Nat} {adm : Bool} :
    Keeps s (t.rxRefused id f owner cls adm) :=
  h.eraseRx.setDesc.frameRefused

theorem Keeps.linkOn (h : Keeps s t) {id : Nat} {f : RxFrame} {owner cls : Nat} : Keeps s (t.linkOn id f owner cls) := by
  unfold State.linkOn
  split
  · exact (h.linkReady.snd ‹State.linkReady .. = _›).rxRefused
  · exact (h.linkReady.snd ‹State.linkReady .. = _›).rxFinish.xoffCheck

theorem Keeps.enqueueRx (h : Keeps s t) {id : Nat} {f : RxFrame} {specs : List CopySpec} :
    Keeps s (t.enqueueRx id f specs) := by
  unfold State.enqueueRx
  dsimp only
  split
  · exact h.eraseRx
  · exact h.sleepFilter.classCells.makeCopies.admitLive.tsqRefused.addCtr.rxRefused.ite
      h.sleepFilter.classCells.makeCopies.admitLive.tsqRefused.addCtr.linkOn

theorem Keeps.twinOf (h : Keeps s t) {u : Upset} {f : RxFrame} : Keeps s (t.twinOf u f).2 :=
  h.twin (fun _ hu => Keeps.iteOn Verdict.st hu hu.ethDecide) fun _ hu => Keeps.iteOn Verdict.st hu hu.fallbackDecide

theorem Keeps.decideRx (h : Keeps s t) {id : Nat} {f : RxFrame} {v : Option Verdict} : Keeps s (t.decideRx id f v) := by
  unfold State.decideRx
  split
  · exact h.enqueueRx
  · exact h.enqueueRx

theorem Keeps.execTwinDecision (h : Keeps s t) {u : Upset} : KeptBy s (execTwinDecision u t) := by
  unfold Machine.execTwinDecision
  refine .next ?_
  split
  · exact h
  · exact h.twinOf.decideRx

theorem Keeps.execShadowIntervalEnd (h : Keeps s t) : KeptBy s (execShadowIntervalEnd t) := by
  unfold Machine.execShadowIntervalEnd
  refine .next ?_
  split
  · exact h
  · exact h.timeTo.edit.setF.setF.event

theorem Keeps.freeMismatch (h : Keeps s t) {detail : Nat} : Keeps s (t.freeMismatch detail) := h.incSw.event.faultRise

theorem Keeps.freeLink (h : Keeps s t) {link : Nat} : Keeps s (t.freeLink link) := by
  unfold State.freeLink
  refine h.incSw.ite (Keeps.ite ?_ h)
  split
  · exact h
  · exact h.setCell.decF.freeMismatch

theorem Keeps.freeDescLink (h : Keeps s t) {link : Nat} : Keeps s (t.freeDescLink link) := by
  unfold State.freeDescLink
  refine h.incSw.ite (Keeps.ite ?_ h)
  split
  · exact h
  · exact h.setDesc.decF.freeMismatch

theorem Keeps.rxOwner (h : Keeps s t) {f : RxFrame} {link : Nat} : Keeps s (t.rxOwner f link).2 := by
  unfold State.rxOwner
  split
  · exact h
  · dsimp only
    split
    · exact h.freeDescLink
    · exact (h.freeDescLink.takeDesc ‹State.takeDesc .. = _›).setDesc

theorem Keeps.cellLacks (h : Keeps s t) {id : Nat} {f : RxFrame} {o : Nat} : Keeps s (t.cellLacks id f o) :=
  (h.foldl fun _ _ hu => hu.refuseCell.refuseLive).rxRefused

theorem Keeps.cellIn (h : Keeps s t) {id : Nat} {f : RxFrame} {o c : Nat} : Keeps s (t.cellIn id f o c) := by
  unfold State.cellIn
  dsimp only
  exact (h.setDesc.ite h).setRx.ite ((h.setDesc.ite h).classCells.admitLive.rxRefused.ite
      (h.setDesc.ite h).classCells.admitLive.linkOn)

theorem Keeps.cellTo (h : Keeps s t) {id : Nat} {f : RxFrame} {o : Nat} {b : List Byte} : Keeps s (t.cellTo id f o b) := by
  unfold State.cellTo
  split
  · exact h.cellLacks
  · exact (h.putCell ‹State.putCell .. = _›).cellIn

theorem Keeps.execCellWrite (h : Keeps s t) {link : Fin 5} : KeptBy s (execCellWrite link t) := by
  unfold Machine.execCellWrite
  refine .next ?_
  split
  · exact h
  · split
    · exact h
    · split
      · exact (h.freeLink.rxOwner.snd ‹State.rxOwner .. = _›).incSw.eraseRx
      · exact (h.freeLink.rxOwner.snd ‹State.rxOwner .. = _›).cellTo

theorem Keeps.setLearnt (h : Keeps s t) {i e : Nat} : Keeps s (t.setLearnt i e) := h.edit

theorem Keeps.learnFrom (h : Keeps s t) {mac : List Byte} {fid : Nat} {move : Bool} {p : Nat} :
    Keeps s (t.learnFrom mac fid move p) := by
  unfold State.learnFrom
  refine h.incFdb.ite ?_
  split
  · exact h.ite h.setLearnt
  · dsimp only
    split
    · exact h.setLearnt
    · split
      · exact h.setLearnt
      · exact h.incFdb

theorem Keeps.execLearnRecordProcess (h : Keeps s t) : KeptBy s (execLearnRecordProcess t) :=
  .next (h.ite (h.evqMoveRd.iteElse fun hu => hu.learnFrom))

theorem Keeps.execAgeingVisit (h : Keeps s t) : KeptBy s (execAgeingVisit t) :=
  .next (h.ite (h.foldl fun _ _ hu => hu.setLearnt.ite hu.setLearnt))

theorem Keeps.forgetPort (h : Keeps s t) {p : Nat} : Keeps s (t.forgetPort p) := h.edit

theorem Keeps.execLinkDownFdbRemoval (h : Keeps s t) {p : Fin 22} : KeptBy s (execLinkDownFdbRemoval p t) :=
  .next (h.forgetPort.ite h)

theorem Keeps.execFrerResetTimeout (h : Keeps s t) {f : Fin 1024} : KeptBy s (execFrerResetTimeout f t) :=
  .next (h.ite h.timeTo.setFrer.incFrer)

theorem Keeps.execTableEccRepair (h : Keeps s t) : KeptBy s (execTableEccRepair t) := by
  unfold Machine.execTableEccRepair
  refine .next ?_
  split
  · exact h
  · exact h.ite ((h.setLearnt.ite h).edit.iteThen fun hu => hu.faultFall)

/-! ### Operations of Egress -/

theorem Keeps.tagQueue (h : Keeps s t) {p q : Nat} : Keeps s (t.tagQueue p q) := by
  unfold State.tagQueue
  split
  · exact h
  · exact h.ite h.setTag

theorem Keeps.tagAll (h : Keeps s t) {p : Nat} {all cands : List Nat} : Keeps s (t.tagAll p all cands) :=
  (h.foldl fun _ _ hu => hu.setTag.ite hu).foldl fun _ _ hu => hu.tagQueue

theorem Keeps.wfqServed (h : Keeps s t) {p q : Nat} : Keeps s (t.wfqServed p q) := h.setPort.setTag

theorem Keeps.select (h : Keeps s t) {p : Nat} {all cands : List Nat} : Keeps s (t.select p all cands).2 := by
  unfold State.select
  dsimp only
  split
  · exact h.tagAll
  · exact h.tagAll.wfqServed

theorem Keeps.gateDrops (h : Keeps s t) {p : Nat} : Keeps s (t.gateDrops p) := by
  unfold State.gateDrops
  refine h.foldl ?_
  intro _ _ hu
  split
  · exact hu
  · dsimp only
    split
    · refine hu.setTag.ite ?_
      split
      · exact hu
      · split
        · exact hu
        · exact hu.tsqDiscard.unqueue.releaseCopy.incGate.ite hu
    · exact hu.setTag

theorem Keeps.startFrame (h : Keeps s t) {p q : Nat} : Keeps s (t.startFrame p q) := by
  unfold State.startFrame
  dsimp only
  split
  · exact h
  · split
    · exact (h.plcaUse.dequeue ‹State.dequeue .. = _›).macsecTxStart.tsqDiscard.releaseCopy
    · exact (h.plcaUse.dequeue ‹State.dequeue .. = _›).macsecTxStart.edit.edit

theorem Keeps.resumeHeld (h : Keeps s t) {p : Nat} : Keeps s (t.resumeHeld p) := by
  unfold State.resumeHeld
  split
  · exact h
  · exact h.creditSync.setPort.edit.ite h

theorem Keeps.gatePreempt (h : Keeps s t) {p : Nat} : Keeps s (t.gatePreempt p) := (h.incGate.ite h).preempt

theorem Keeps.pierStall (h : Keeps s t) {p : Nat} : Keeps s (t.pierStall p) := h.ite (h.inc.ite h)

theorem Keeps.boundary (h : Keeps s t) {p : Nat} : Keeps s (t.boundary p) := by
  unfold State.boundary
  refine h.fcSend.pierFlush.pierStall.gateDrops.tagAll.resumeHeld.ite ?_
  split
  · exact h.fcSend.pierFlush.pierStall.gateDrops.select.snd ‹State.select .. = _›
  · exact (h.fcSend.pierFlush.pierStall.gateDrops.select.snd ‹State.select .. = _›).startFrame

theorem Keeps.deferredGo (h : Keeps s t) {p : Nat} : Keeps s (t.deferredGo p) := by
  unfold State.deferredGo
  split
  · exact h
  · exact h.frameAnew.plcaUse.ite h

theorem Keeps.execEgressSelect (h : Keeps s t) {p : Fin 22} {turn : Bool} : KeptBy s (execEgressSelect p turn t) :=
  .next ((h.wireFree.creditSync.iteThen fun hu => hu.plcaTurn).iteElse fun hu => hu.portDisableStep.ite (hu.ite
      (hu.deferredGo.ite ((hu.gatePreempt.boundary.ite (hu.preempt.boundary.ite hu)).ite hu.boundary))))

theorem Keeps.cellTake (h : Keeps s t) {p : Nat} {e : EgressRead} {c : Nat} : Keeps s (t.cellTake p e c) :=
  h.edit.edit.iteThen fun hu => hu.finishCopy

theorem Keeps.readWait (h : Keeps s t) : Keeps s t.readWait := by
  unfold State.readWait
  split
  · exact h.timeTo
  · exact h

theorem Keeps.execCellRead (h : Keeps s t) {upset : Fin 7} : KeptBy s (execCellRead upset t) := by
  unfold Machine.execCellRead
  refine .next ?_
  split
  · exact h.readWait
  · split
    · exact (h.readWait.readMeets.snd ‹State.readMeets .. = _›).cellTake
    · exact (h.readWait.readMeets.snd ‹State.readMeets .. = _›).readFails

theorem Keeps.dataUnit (h : Keeps s t) {p : Nat} {d : Desc} {b : List Byte} {prot : Option TxSa} :
    Keeps s (t.dataUnit p d b prot) := by
  unfold State.dataUnit
  dsimp only
  split
  · exact h.unitSend
  · exact h.unitSend

theorem Keeps.wireEnd (h : Keeps s t) {p : Nat} {e : EgressRead} : Keeps s (t.wireEnd p e) := h.timeTo

theorem Keeps.frameSent (h : Keeps s t) {p : Nat} {e : EgressRead} : Keeps s (t.frameSent p e) := by
  unfold State.frameSent
  dsimp only
  refine Keeps.portDisableStep (Keeps.pierFlush (Keeps.fcSend ((h.wireEnd.creditSync.edit.setPort.plcaBurst.iteElse fun hu =>
      hu.releaseCopy).edit.tsqAbort.inc.ite ((h.wireEnd.creditSync.edit.setPort.plcaBurst.iteElse fun hu =>
      hu.releaseCopy).dataUnit.ite (Keeps.tsqEntry (Keeps.addCtr (Keeps.inc (Keeps.edit ?_))))))))
  split
  · exact (h.wireEnd.creditSync.edit.setPort.plcaBurst.iteElse fun hu => hu.releaseCopy).macsecProtect
  · exact h.wireEnd.creditSync.edit.setPort.plcaBurst.iteElse fun hu => hu.releaseCopy

theorem Keeps.execFrameTransmitComplete (h : Keeps s t) {p : Fin 22} : KeptBy s (execFrameTransmitComplete p t) := by
  unfold Machine.execFrameTransmitComplete
  refine .next ?_
  split
  · exact h
  · exact h.ite h.frameSent

theorem Keeps.histSample (h : Keeps s t) {q t' : Nat} : Keeps s (t.histSample q t') :=
  (h.timeTo.edit.incQ.iteThen fun hu => hu.incQ).iteThen fun hu => hu.incQ

theorem Keeps.execHistogramSample (h : Keeps s t) {q : Fin 2048} : KeptBy s (execHistogramSample q t) := by
  unfold Machine.execHistogramSample
  refine .next ?_
  split
  · exact h
  · exact h.histSample

/-! ### Operations of Ethernet -/

theorem Keeps.rxPush (h : Keeps s t) {p : Nat} {b : List Byte} {express bad : Bool} {tsReq : Option
    (Nat × Nat)} {srcDeck : Option Nat} {credit : Option (Nat × Nat)} {len : Nat} :
    Keeps s (t.rxPush p b express bad tsReq srcDeck credit len) :=
  h.edit

theorem Keeps.rxCount (h : Keeps s t) {p len : Nat} {b : List Byte} : Keeps s (t.rxCount p len b) :=
  h.inc.addCtr.inc.ite (h.inc.addCtr.iteThen fun hu => hu.inc)

theorem Keeps.rxBad (h : Keeps s t) {p : Nat} {b : List Byte} {express : Bool} {len : Nat} :
    Keeps s (t.rxBad p b express len) :=
  h.ite h.rxPush

theorem Keeps.macAccept (h : Keeps s t) {p len : Nat} {b : List Byte} {express : Bool} :
    Keeps s (t.macAccept p len b express) :=
  h.macControl.ite (h.inc.ite h.rxCount.spanEthFrame.rxPush)

theorem Keeps.rxLpi (h : Keeps s t) {p n : Nat} : Keeps s (t.rxLpi p n) := h.addCtr.ite h

theorem Keeps.execEthFrameReceive (h : Keeps s t) {p : Fin 20} {frame : List Byte} {codeErr fragErr express : Bool} {lpi :
    Byte} : KeptBy s (execEthFrameReceive p frame codeErr fragErr express lpi t) := by
  unfold Machine.execEthFrameReceive
  refine .next (h.rxLpi.ite (h.rxLpi.inc.ite (h.rxLpi.inc.ite (h.rxLpi.inc.ite (h.rxLpi.inc.rxBad.ite
      (h.rxLpi.inc.rxBad.ite ?_))))))
  split
  · exact (h.rxLpi.macsecRx.snd ‹State.macsecRx .. = _›).iteElse fun hu => hu.rxBad
  · exact (h.rxLpi.macsecRx.snd ‹State.macsecRx .. = _›).macAccept

/-! ### Operations of Forward -/

theorem Keeps.canDests (h : Keeps s t) {e chan : Nat} : Keeps s (t.canDests e chan).2 := h.incCan.ite h

theorem Keeps.remoteDests (h : Keeps s t) {e idx chan : Nat} : Keeps s (t.remoteDests e idx chan).2.2 :=
  Keeps.iteOn (Prod.snd ∘ Prod.snd) h.addCtr.incRoute h.addCtr

theorem Keeps.remoteDestsUnless (h : Keeps s t) {c : Prop} {_ : Decidable c} {l l' : List Nat} {e idx chan : Nat} :
    Keeps s (if c then (l, l', t) else t.remoteDests e idx chan).2.2 :=
  Keeps.iteOn (fun p : List Nat × List Nat × State => p.2.2) h h.remoteDests

theorem Keeps.routeSpecs (h : Keeps s t) {f : AggFrame} {idx e : Nat} {fallback : Bool} :
    Keeps s (t.routeSpecs f idx e fallback).2 := by
  unfold State.routeSpecs
  exact h.canDests.remoteDestsUnless

theorem Keeps.storeFurther (h : Keeps s t) {stamp : Nat} {r : List Byte} {specs : List CopySpec} :
    Keeps s (t.storeFurther stamp r specs) :=
  h.ite ((h.foldl fun _ _ hu => hu.incQ).ite h.storeFrame)

theorem Keeps.enqueueRecord (h : Keeps s t) {r : List Byte} {e : Nat} {specs : List CopySpec} :
    Keeps s (t.enqueueRecord r e specs) := by
  unfold State.enqueueRecord
  split
  have hs := h.sleepFilter.snd ‹State.sleepFilter .. = _›
  refine hs.ite (hs.incSw.ite ?_)
  extract_lets lin
  split
  refine (Keeps.snd (Keeps.foldlOn Prod.snd hs ?_) ‹List.foldl .. = _›).storeFurther
  intro _ _ hu
  refine Keeps.iteOn Prod.snd (Keeps.iteOn Prod.snd hu.incCan (Keeps.iteOn Prod.snd hu.storeFurther.pair hu))
    (Keeps.iteOn Prod.snd ?_ hu)
  dsimp only
  split
  · exact hu.incLin
  · exact hu.storeFurther.pair

theorem Keeps.safetyCheck (h : Keeps s t) {fails : Bool} {specs : List CopySpec} : Keeps s (t.safetyCheck fails specs).2 := by
  unfold State.safetyCheck
  split
  · exact Keeps.iteOn Prod.snd h.inc.faultRise h
  · exact h

theorem Keeps.deliver (h : Keeps s t) {r : List Byte} {e : Nat} {rxq : Option Nat} {specs : List CopySpec} :
    Keeps s (t.deliver r e rxq specs) := by
  unfold State.deliver
  refine Keeps.enqueueRecord ?_
  split
  · exact h.rxRecordWrite.ite h
  · exact h

theorem Keeps.applyEntry (h : Keeps s t) {f : AggFrame} {idx e : Nat} {fallback unsafe_ : Bool} :
    Keeps s (t.applyEntry f idx e fallback unsafe_) := by
  unfold State.applyEntry
  dsimp only
  exact Keeps.ite (Keeps.incRoute (Keeps.iteOn Prod.snd h.rateTake h)) (Keeps.ite (Keeps.incRoute (Keeps.routeSpecs
      (Keeps.iteOn Prod.snd h.rateTake h))) (Keeps.ite (Keeps.edit (Keeps.safetyCheck (Keeps.routeSpecs
      (Keeps.iteOn Prod.snd h.rateTake h)))) (Keeps.deliver (Keeps.safetyCheck (Keeps.routeSpecs
      (Keeps.iteOn Prod.snd h.rateTake h))))))

theorem Keeps.unrouted (h : Keeps s t) {f : AggFrame} : Keeps s (t.unrouted f) := (h.rxRecordWrite.ite h.incCan).ite h

theorem Keeps.fallbackApply (h : Keeps s t) {f : AggFrame} {idx : Nat} {unsafe_ : Bool} :
    Keeps s (t.fallbackApply f idx unsafe_) :=
  h.incRouteDeck.ite h.applyEntry

theorem Keeps.aggregate (h : Keeps s t) {f : AggFrame} {unsafe_ : Bool} : Keeps s (t.aggregate f unsafe_).st := by
  unfold State.aggregate
  dsimp only
  exact Keeps.iteOn Verdict.st h.unrouted (Keeps.iteOn Verdict.st h.incRoute.fallbackApply
      (Keeps.iteOn Verdict.st h.incRoute.incRouteDeck h.incRoute.applyEntry))

theorem Keeps.aggregateFallback (h : Keeps s t) {f : AggFrame} {unsafe_ : Bool} :
    Keeps s (t.aggregateFallback f unsafe_).st := by
  unfold State.aggregateFallback
  dsimp only
  exact Keeps.iteOn Verdict.st h.unrouted h.fallbackApply

theorem Keeps.route_ (h : Keeps s t) {f : AggFrame} {u : Upset} : Keeps s (t.route_ f u) :=
  h.twin (fun _ hu => hu.aggregate) fun _ hu => hu.aggregateFallback

theorem Keeps.setFresh (h : Keeps s t) {c : Nat} {v : Fresh} : Keeps s (t.setFresh c v) := h.edit

theorem Keeps.incProfile (h : Keeps s t) {p i : Nat} : Keeps s (t.incProfile p i) := h.inc

theorem Keeps.authRefuse (h : Keeps s t) {j : AuthJob} {reason : Nat} : Keeps s (t.authRefuse j reason) :=
  h.incProfile.hbxEvent.iteThen fun hu => hu.storeFrame

theorem Keeps.freshExhaust (h : Keeps s t) {c : Nat} : Keeps s (t.freshExhaust c) := h.ite h.edit.setFresh.hbxEvent

theorem Keeps.authVerify (h : Keeps s t) {j : AuthJob} {keyFault : Bool} : Keeps s (t.authVerify j keyFault) := by
  unfold State.authVerify
  refine h.authRefuse.ite (h.authRefuse.ite (h.authRefuse.ite (h.authRefuse.ite ?_)))
  split
  · exact h.authRefuse
  · exact h.freshExhaust.authRefuse.ite (h.authRefuse.ite ((h.eraseSlot.ite h).authRefuse.ite h.setFresh.incProfile.deliver))

theorem Keeps.authTrailer (h : Keeps s t) {p : Nat} {pay : List Byte} {keyFault : Bool} :
    Keeps s (t.authTrailer p pay keyFault).2 :=
  Keeps.iteOn Prod.snd h (Keeps.iteOn Prod.snd h (Keeps.iteOn Prod.snd h (Keeps.iteOn Prod.snd h
      (Keeps.iteOn Prod.snd h.freshExhaust (Keeps.iteOn Prod.snd h.eraseSlot (Keeps.iteOn Prod.snd h h.setFresh))))))

theorem Keeps.authNoSpace (h : Keeps s t) {j : AuthJob} (e : t.authNoSpace j = some u) : Keeps s u := by
  simp only [State.authNoSpace] at e
  split at e <;> cases e
  exact h.enqueueRecord

theorem Keeps.authGenerate (h : Keeps s t) {j : AuthJob} {keyFault : Bool} : Keeps s (t.authGenerate j keyFault) := by
  unfold State.authGenerate
  split
  · exact (h.authNoSpace ‹State.authNoSpace .. = _›).authRefuse
  · split
    · exact (h.authTrailer.snd ‹State.authTrailer .. = _›).authRefuse
    · exact (h.authTrailer.snd ‹State.authTrailer .. = _›).incProfile.deliver

theorem Keeps.authTake (h : Keeps s t) {j : AuthJob} : Keeps s (t.authTake j) := h.edit.incHbx

theorem Keeps.execCanAuthVerifyJob (h : Keeps s t) {keyFault : Bool} : KeptBy s (execCanAuthVerifyJob keyFault t) := by
  unfold Machine.execCanAuthVerifyJob
  refine .next ?_
  split
  · exact h
  · exact h.authTake.authVerify

theorem Keeps.execCanAuthGenerateJob (h : Keeps s t) {keyFault : Bool} : KeptBy s (execCanAuthGenerateJob keyFault t) := by
  unfold Machine.execCanAuthGenerateJob
  refine .next ?_
  split
  · exact h
  · exact h.authTake.authGenerate

/-! ### Operations of Can -/

theorem Keeps.canUnknown (h : Keeps s t) {n : Nat} : Keeps s (t.canUnknown n) := h.incCan.canEvent.setF.ite h.canRxErr

theorem Keeps.canAccept (h : Keeps s t) {n : Nat} {f : CanFrame} {age : Nat} {u : Upset} : Keeps s (t.canAccept n f age u) :=
  ((h.ite h.edit).incCan.incCan.incCan.ite ((h.ite h.edit).incCan.incCan.iteThen fun hu =>
      hu.incCan)).recFall.canNotLonely.spanCanFrame.route_

theorem Keeps.execCanFrameReceive (h : Keeps s t) {n : Fin 64} {f : CanFrame} {age : BitVec 32} {u : Upset} :
    KeptBy s (execCanFrameReceive n f age u t) :=
  .next (h.ite (h.canUnknown.ite h.canAccept))

theorem Keeps.xcvrReached (h : Keeps s t) {n m : Nat} : Keeps s (t.xcvrReached n m) :=
  (h.setCan.setF.setFlag.iteThen fun hu => hu.setF).spanAsleepCheck.spanAwakeCheck

theorem Keeps.execXcvrModeReached (h : Keeps s t) {n : Fin 16} : KeptBy s (execXcvrModeReached n t) := by
  unfold Machine.execXcvrModeReached
  refine .next ?_
  split
  · exact h
  · exact h.xcvrReached

/-! ### Operations of Lin -/

theorem Keeps.linSpan (h : Keeps s t) {n : Nat} : Keeps s (t.linSpan n) := h.spanUpdate

theorem Keeps.linDisableStep (h : Keeps s t) {n : Nat} : Keeps s (t.linDisableStep n) := h.linDisabled.ite h

theorem Keeps.linReceived (h : Keeps s t) {n : Nat} {data : List Byte} {u : Upset} : Keeps s (t.linReceived n data u) :=
  (h.incLin.linActivity.iteThen fun hu => hu.setLin).linResponseEnd.spanLinFrame.route_

theorem Keeps.execLinHeaderReceive (h : Keeps s t) {n : Fin 16} {id : BitVec 6} {err : Fin 4} {age : BitVec 32} {upset : Fin
    7} : KeptBy s (execLinHeaderReceive n id err age upset t) :=
  .next (h.ite (h.linActivity.setLin.linHeaderIn.linDisableStep.ite h.linActivity.setLin.linHeaderFault).linSpan)

theorem Keeps.linResponse (h : Keeps s t) {n : Nat} {data : List Byte} {kind : Nat} {u : Upset} :
    Keeps s (t.linResponse n data kind u) :=
  h.incLin.linEvent.linResponseEnd.ite ((h.linReceived.ite h.linActivity).ite (h.incLin.linEvent.linActivity.setLin.ite
      (h.incLin.linEvent.linActivity.linResponseEnd.ite h.linActivity)))

theorem Keeps.execLinResponseReceive (h : Keeps s t) {n : Fin 16} {data : List Byte} {kind : Fin 4} {u : Upset} :
    KeptBy s (execLinResponseReceive n data kind u t) :=
  .next (h.ite h.linResponse.linDisableStep.linSpan)

theorem Keeps.execLinResponseTimeout (h : Keeps s t) {n : Fin 16} : KeptBy s (execLinResponseTimeout n t) :=
  .next (h.timeTo.linNoResponse.linResponseEnd.linDisableStep.ite h)

theorem Keeps.execLinBusIdleTimeout (h : Keeps s t) {n : Fin 16} : KeptBy s (execLinBusIdleTimeout n t) :=
  .next (h.ite h.timeTo.setF.linEvent.setLin.linSpan)

/-! ### Operations of Sge -/

theorem Keeps.setSignal (h : Keeps s t) {i : Nat} {v : Signal} : Keeps s (t.setSignal i v) := h.edit

theorem Keeps.setPdu (h : Keeps s t) {i : Nat} {v : PduSt} : Keeps s (t.setPdu i v) := h.edit

theorem Keeps.setTimer (h : Keeps s t) {i : Nat} {v : PduTimer} : Keeps s (t.setTimer i v) := h.edit

theorem Keeps.setExecutor (h : Keeps s t) {e : Nat} {r : Option Running} : Keeps s (t.setExecutor e r) := h.edit.setF

theorem Keeps.setReady (h : Keeps s t) {l : List SgeJob} : Keeps s (t.setReady l) := h.edit.setF.setF

theorem Keeps.incSge (h : Keeps s t) {i : Nat} : Keeps s (t.incSge i) := h.inc

theorem Keeps.incPdu (h : Keeps s t) {p i : Nat} : Keeps s (t.incPdu p i) := h.inc

theorem Keeps.sgeEvent (h : Keeps s t) {bit detail : Nat} : Keeps s (t.sgeEvent bit detail) := h.event

theorem Keeps.signalWrite (h : Keeps s t) {i value stamp : Nat} : Keeps s (t.signalWrite i value stamp).2 :=
  Keeps.iteOn Prod.snd h.incSge h.setSignal

theorem Keeps.jobDrop (h : Keeps s t) : Keeps s t.jobDrop := h.incSge.sgeEvent

theorem Keeps.pushJob (h : Keeps s t) {pdu : Option Nat} {desc : Nat} {record : List Byte} {program : Nat} {old : Bool} :
    Keeps s (t.pushJob pdu desc record program old) :=
  h.edit.setReady

theorem Keeps.feltRelease (h : Keeps s t) {p : Nat} {old : Bool} : Keeps s (t.feltRelease p old) :=
  h.incSge.incPdu.ite (h.jobDrop.ite h.pushJob)

theorem Keeps.trigger (h : Keeps s t) {p : Nat} {changed old : Bool} : Keeps s (t.trigger p changed old) :=
  h.ite (h.incSge.incPdu.ite (h.setPdu.ite h.feltRelease))

theorem Keeps.missed (h : Keeps s t) {j : SgeJob} : Keeps s (t.missed j) := by
  unfold State.missed
  refine Keeps.ite ?_ h
  dsimp only
  split
  · exact h.incSge.sgeEvent.incPdu
  · exact h.incSge.sgeEvent

theorem Keeps.handPdu (h : Keeps s t) {r : Running} {p : Nat} : Keeps s (t.handPdu r p) :=
  h.setPdu.incPdu.edit.ite h.setPdu.incPdu.enqueueRecord

theorem Keeps.jobEnd (h : Keeps s t) {e : Nat} {r : Running} {whole : Bool} : Keeps s (t.jobEnd e r whole) := by
  unfold State.jobEnd
  dsimp only
  split
  · exact h.setExecutor.finishCopy.missed
  · exact h.setExecutor.iteThen fun hu => hu.handPdu.missed

theorem Keeps.sgeStep (h : Keeps s t) {e op : Nat} {fault : Bool} {f : Running → Nat → State} (hf : ∀ (x : Running)
    (y : Nat), Keeps s (f x y)) : Keeps s (t.sgeStep e op fault f) := by
  unfold State.sgeStep
  split
  · exact h
  · exact h.ite (h.incSge.sgeEvent.faultRise.jobEnd.ite (hf _ _))

theorem Keeps.sgeNext (h : Keeps s t) {e : Nat} {r : Running} {skip : Nat} : Keeps s (t.sgeNext e r skip) := h.setExecutor

theorem Keeps.execEnd (h : Keeps s t) {e : Fin 16} {fault : Bool} : KeptBy s (execEnd e fault t) :=
  .next (h.sgeStep fun _ _ => h.jobEnd)

theorem Keeps.unpackIns (h : Keeps s t) {e : Nat} {r : Running} {w : Nat} : Keeps s (t.unpackIns e r w) := by
  unfold State.unpackIns
  extract_lets pay ps d
  refine h.sgeNext.ite (h.incSge.sgeNext.ite ?_)
  split
  exact (h.signalWrite.snd ‹State.signalWrite .. = _›).sgeNext

theorem Keeps.execUnpack (h : Keeps s t) {e : Fin 16} {fault : Bool} : KeptBy s (execUnpack e fault t) :=
  .next (h.sgeStep fun _ _ => h.unpackIns)

theorem Keeps.execPack (h : Keeps s t) {e : Fin 16} {fault : Bool} : KeptBy s (execPack e fault t) :=
  .next (h.sgeStep fun _ _ => (h.setSignal.ite h).sgeNext)

theorem Keeps.checkFail (h : Keeps s t) {e : Nat} {r : Running} {ctr p : Nat} : Keeps s (t.checkFail e r ctr p) :=
  h.incSge.sgeEvent.jobEnd

theorem Keeps.checkIns (h : Keeps s t) {e : Nat} {r : Running} {w : Nat} : Keeps s (t.checkIns e r w) := by
  unfold State.checkIns
  refine h.checkFail.ite (h.checkFail.ite (Keeps.ite ?_ h.sgeNext))
  split
  · exact h.setPdu.sgeNext
  · exact h.checkFail.ite (h.setPdu.checkFail.ite h.setPdu.sgeNext)

theorem Keeps.execCheck (h : Keeps s t) {e : Fin 16} {fault : Bool} : KeptBy s (execCheck e fault t) :=
  .next (h.sgeStep fun _ _ => h.checkIns)

theorem Keeps.execMatch (h : Keeps s t) {e : Fin 16} {fault : Bool} : KeptBy s (execMatch e fault t) :=
  .next (h.sgeStep fun _ _ => h.sgeNext)

theorem Keeps.execJump (h : Keeps s t) {e : Fin 16} {fault : Bool} : KeptBy s (execJump e fault t) :=
  .next (h.sgeStep fun _ _ => h.setExecutor)

theorem Keeps.execPackk (h : Keeps s t) {e : Fin 16} {fault : Bool} : KeptBy s (execPackk e fault t) :=
  .next (h.sgeStep fun _ _ => h.sgeNext)

theorem Keeps.execEntry (h : Keeps s t) {e : Fin 16} {fault : Bool} : KeptBy s (execEntry e fault t) :=
  .next (h.sgeStep fun _ _ => h.sgeNext)

theorem Keeps.execTrig (h : Keeps s t) {e : Fin 16} {fault : Bool} : KeptBy s (execTrig e fault t) :=
  .next (h.sgeStep fun _ _ => h.trigger.sgeNext)

theorem Keeps.feederTake (h : Keeps s t) {d : Nat} : Keeps s (t.feederTake d) :=
  h.edit.ite (h.finishCopy.jobDrop.ite h.pushJob)

theorem Keeps.execSgeFeederMove (h : Keeps s t) {upset : Fin 7} : KeptBy s (execSgeFeederMove upset t) := by
  unfold Machine.execSgeFeederMove
  refine .next ?_
  split
  · exact h
  · refine h.ite ?_
    split
    · exact h
    · split
      · exact ((h.dequeue ‹State.dequeue .. = _›).readWhole.snd ‹State.readWhole .. = _›).releaseCopy
      · exact ((h.dequeue ‹State.dequeue .. = _›).readWhole.snd ‹State.readWhole .. = _›).feederTake

theorem Keeps.dispatchJob (h : Keeps s t) {e : Nat} {j : SgeJob} : Keeps s (t.dispatchJob e j) := by
  unfold State.dispatchJob
  dsimp only
  split
  · exact h.setReady.setExecutor.incSge
  · exact h.setReady.setPdu.setExecutor.incSge

theorem Keeps.execSgeDispatch (h : Keeps s t) {e : Fin 16} : KeptBy s (execSgeDispatch e t) := by
  unfold Machine.execSgeDispatch
  refine .next (h.ite ?_)
  split
  · exact h
  · exact h.dispatchJob

theorem Keeps.signalTimeout (h : Keeps s t) {i d : Nat} : Keeps s (t.signalTimeout i d) :=
  h.setSignal.incSge.occur.iteThen fun hu => hu.trigger

theorem Keeps.execSignalTimeoutScan (h : Keeps s t) : KeptBy s (execSignalTimeoutScan t) :=
  .next (h.ite (h.foldl fun _ _ hu => hu.signalTimeout.ite hu))

theorem Keeps.timerFire (h : Keeps s t) {p : Nat} : Keeps s (t.timerFire p) := h.setPdu.feltRelease

theorem Keeps.timerAligned (h : Keeps s t) {t' period phase b p d : Nat} : Keeps s (t.timerAligned t' period phase b p d) :=
  h.clockTo.setTimer.iteElse fun hu => hu.timerFire

theorem Keeps.timerFree (h : Keeps s t) {t' period phase b p d : Nat} : Keeps s (t.timerFree t' period phase b p d) :=
  h.timeTo.setTimer.timerFire

theorem Keeps.execPduTimerRelease (h : Keeps s t) {t' : Fin 8192} : KeptBy s (execPduTimerRelease t' t) := by
  unfold Machine.execPduTimerRelease
  refine .next ?_
  split
  · exact h.ite (h.timerAligned.ite (h.ite h.timerFree))
  · exact h

theorem Keeps.execMinGapEnd (h : Keeps s t) {p : Fin 16384} : KeptBy s (execMinGapEnd p t) := by
  unfold Machine.execMinGapEnd
  refine .next ?_
  split
  · exact h
  · exact h.ite h.timeTo.setPdu.feltRelease

/-! ### Operations of Bundle -/

theorem Keeps.setBundle (h : Keeps s t) {b : Nat} {v : Bundle} : Keeps s (t.setBundle b v) := h.edit

theorem Keeps.busId (h : Keeps s t) {chan : Nat} : Keeps s (t.busId chan).2 := by
  unfold State.busId
  dsimp only
  exact Keeps.iteOn Prod.snd h (Keeps.iteOn Prod.snd h h.draw)

theorem Keeps.bundleClose (h : Keeps s t) {b : Nat} : Keeps s (t.bundleClose b) := by
  unfold State.bundleClose
  dsimp only
  exact h.ite (h.setBundle.storeFrame.iteElse fun hu => hu.incSge)

theorem Keeps.bundlePut (h : Keeps s t) {b : Nat} {m : List Byte} : Keeps s (t.bundlePut b m) :=
  h.incSge.ite ((h.bundleClose.ite h).setBundle.iteThen fun hu => hu.bundleClose)

theorem Keeps.bundlerTake (h : Keeps s t) {b u : Nat} : Keeps s (t.bundlerTake b u) := by
  unfold State.bundlerTake
  dsimp only
  split
  · exact h.edit
  · exact h.edit.takeRead ‹State.takeRead .. = _›
  · split
    · exact (h.edit.takeRead ‹State.takeRead .. = _›).busId.incSge
    · exact (h.edit.takeRead ‹State.takeRead .. = _›).busId.bundlePut

theorem Keeps.execBundlerTakeMessage (h : Keeps s t) {upset : Fin 7} : KeptBy s (execBundlerTakeMessage upset t) := by
  unfold Machine.execBundlerTakeMessage
  refine .next (h.ite ?_)
  split
  · exact h
  · exact h.bundlerTake

theorem Keeps.execBundleWindowClose (h : Keeps s t) {b : Fin 1249} : KeptBy s (execBundleWindowClose b t) :=
  .next (h.timeTo.bundleClose.ite h)

theorem Keeps.unbundleMsgs (h : Keeps s t) {stream chan stamp : Nat} {x : Upset} {n : Nat} {d : List Byte} :
    Keeps s (t.unbundleMsgs stream chan stamp x n d) := by
  induction n generalizing t d with
  | zero => exact h
  | succ n ih =>
    unfold State.unbundleMsgs
    extract_lets len typ v
    have hd {c : Prop} {_ : Decidable c} : Keeps s (if c then t.draw else (0, t)).2 := Keeps.iteOn Prod.snd h.draw h
    have hv : Keeps s v := by
      refine h.incSge.ite ?_
      dsimp only
      split
      · exact hd.incSge
      · exact Keeps.ite hd.incSge.incSge hd.incSge.route_
    exact h.ite (h.incSge.ite (ih hv))

theorem Keeps.unbundleFrame (h : Keeps s t) {d : Desc} {b : List Byte} {u : Upset} : Keeps s (t.unbundleFrame d b u) :=
  h.incSge.ite h.unbundleMsgs

theorem Keeps.execUnbundleFrame (h : Keeps s t) {u : Upset} : KeptBy s (execUnbundleFrame u t) := by
  unfold Machine.execUnbundleFrame
  refine .next ?_
  split
  · exact h
  · exact h.edit.finishCopy.unbundleFrame

theorem Keeps.execSgeDrainDone (h : Keeps s t) : KeptBy s (execSgeDrainDone t) := by
  unfold Machine.execSgeDrainDone
  refine .next ?_
  split
  · exact h
  · exact h.ite h.edit.setF.setF.sgeEvent

/-! ### Operations of Trestle -/

theorem Keeps.setPoll (h : Keeps s t) {i : Nat} {v : PollSt} : Keeps s (t.setPoll i v) := h.edit

theorem Keeps.logRead (h : Keeps s t) {wr rd n src w : Nat} : Keeps s (t.logRead wr rd n src w) :=
  h.ite h.setReg.level

theorem Keeps.execIwlRdWrite (h : Keeps s t) {w : Word} : KeptBy s (execIwlRdWrite w t) := .next (h.hosted h.logRead)

theorem Keeps.execPdlRdWrite (h : Keeps s t) {w : Word} : KeptBy s (execPdlRdWrite w t) := .next (h.hosted h.logRead)

theorem Keeps.prefetchRead (h : Keeps s t) {t' a n : Nat} {ahead : Bool} : Keeps s (t.prefetchRead t' a n ahead) := by
  unfold State.prefetchRead
  dsimp only
  split
  · split
    · exact h
    · exact h.edit.ite h.prefetchDrop
  · refine Keeps.ite (Keeps.edit ?_) ?_
    · split
      · exact h
      · exact h.edit.ite h.prefetchDrop
    · split
      · exact h
      · exact h.edit.ite h.prefetchDrop

theorem Keeps.flushIssue (h : Keeps s t) {cls : Nat} : Keeps s (t.flushIssue cls) := h.edit.incTr.ite h

theorem Keeps.flushWrite (h : Keeps s t) {cls addr : Nat} {ring : Option Nat} : Keeps s (t.flushWrite cls addr ring) :=
  h.edit.iteThen fun hu => hu.flushIssue

theorem Keeps.setUnconf (h : Keeps s t) {r n : Nat} : Keeps s (t.setUnconf r n) := h.edit

theorem Keeps.syncRing (h : Keeps s t) {r : Nat} : Keeps s (t.syncRing r) := h.level

theorem Keeps.hrDrop (h : Keeps s t) {r n : Nat} : Keeps s (t.hrDrop r n) := h.setF

theorem Keeps.hrActive (h : Keeps s t) {r : Nat} : Keeps s (t.hrActive r) := h.setFlag.ite (h.setFlag.ite h)

theorem Keeps.ringFault (h : Keeps s t) {r : Nat} : Keeps s (t.ringFault r) :=
  (h.hrDrop.ite h.prefetchDrop).setUnconf.setFlag.edit.edit.setFlag.hrActive.occur

theorem Keeps.ringConfirm (h : Keeps s t) {r n : Nat} : Keeps s (t.ringConfirm r n) :=
  h.setF.setF.setUnconf.hrActive.syncRing

theorem Keeps.flushEnd (h : Keeps s t) {g : FlushGroup} {fails : Bool} : Keeps s (t.flushEnd g fails) :=
  (h.edit.flushFailed.foldl fun _ _ hu => hu.ringFault).ite (h.edit.foldl fun _ _ hu => hu.ringConfirm)

theorem Keeps.ringWrite (h : Keeps s t) {addr : Nat} {d : List Byte} {ring : Option Nat} :
    Keeps s (t.ringWrite addr d ring).2 := by
  unfold State.ringWrite
  split
  · exact (h.hostWrite.snd ‹State.hostWrite .. = _›).flushWrite
  · exact h.hostWrite.snd ‹State.hostWrite .. = _›

theorem Keeps.flushPair (h : Keeps s t) : Keeps s t.flushPair := h.flushIssue.ite h

theorem Keeps.ringBack (h : Keeps s t) {r addr : Nat} {d : List Byte} : Keeps s (t.ringBack r addr d) := by
  unfold State.ringBack
  split
  · exact (h.ringWrite.snd ‹State.ringWrite .. = _›).setUnconf
  · exact ((h.ringWrite.snd ‹State.ringWrite .. = _›).iteThen fun hu => hu.hrDrop).ringFault

theorem Keeps.txBacks (h : Keeps s t) : Keeps s t.txBacks := h.foldl fun _ _ hu => hu.edit.ringBack.hrActive

theorem Keeps.execFlushGroupClose (h : Keeps s t) {cls : Fin 5} : KeptBy s (execFlushGroupClose cls t) := by
  unfold Machine.execFlushGroupClose
  refine .next ?_
  split
  · exact h.txBacks
  · exact (h.txBacks.iteThen fun hu => hu.timeTo).flushIssue

theorem Keeps.execFlushReadCompletion (h : Keeps s t) {cls : Fin 5} {fails : Bool} :
    KeptBy s (execFlushReadCompletion cls fails t) := by
  unfold Machine.execFlushReadCompletion
  refine .next ?_
  split
  · exact h
  · exact h.flushEnd

theorem Keeps.execFlushTimeout (h : Keeps s t) {cls : Fin 5} : KeptBy s (execFlushTimeout cls t) := by
  unfold Machine.execFlushTimeout
  refine .next ?_
  split
  · exact h
  · exact h.timeTo.flushEnd

theorem Keeps.hrMoveHost (h : Keeps s t) {r w : Nat} : Keeps s (t.hrMoveHost r w) := h.setReg.ite h.setFlag

theorem Keeps.hrMoveSeen (h : Keeps s t) {r w : Nat} : Keeps s (t.hrMoveSeen r w) := h.setReg.syncRing.ite h.setFlag

theorem Keeps.hrControl (h : Keeps s t) {r w : Nat} : Keeps s (t.hrControl r w) :=
  (h.setF.ite h).setFlag.hrActive.iteThen fun hu => hu.prefetchDrop

theorem Keeps.execHrHostPtrWrite (h : Keeps s t) {r : Fin 64} {w : Word} : KeptBy s (execHrHostPtrWrite r w t) :=
  .next (h.hosted h.hrMoveHost)

theorem Keeps.execHrSeenWrite (h : Keeps s t) {r : Fin 64} {w : Word} : KeptBy s (execHrSeenWrite r w t) :=
  .next (h.hosted h.hrMoveSeen)

theorem Keeps.execHrCtrlWrite (h : Keeps s t) {r : Fin 64} {w : Word} : KeptBy s (execHrCtrlWrite r w t) :=
  .next (h.hosted h.hrControl)

theorem Keeps.rxWriteback (h : Keeps s t) {d : Desc} {len : Nat} : Keeps s (t.rxWriteback d len).2 := by
  unfold State.rxWriteback
  dsimp only
  exact Keeps.iteOn Prod.snd h.draw h

theorem Keeps.hostShed (h : Keeps s t) {d : Desc} {len : Nat} : Keeps s (t.hostShed d len) :=
  h.creditSync.pass.hostCredit.ite h

theorem Keeps.hrDeliver (h : Keeps s t) {q u : Nat} : Keeps s (t.hrDeliver q u) := by
  refine Keeps.unfolded (by delta State.hrDeliver; exact rfl) ?_
  extract_lets r a
  split
  · exact (h.hostRead.snd ‹State.hostRead .. = _›).ringFault
  have hd := h.hostRead.snd ‹State.hostRead .. = _›
  split
  · exact hd
  · exact hd.takeRead ‹State.takeRead .. = _›
  have hf := hd.takeRead ‹State.takeRead .. = _›
  extract_lets v
  have hv : Keeps s v := hf.hostShed
  refine hv.hrDrop.ite ?_
  split
  · exact (hv.flushPair.ringWrite.snd ‹State.ringWrite .. = _›).hrDrop.ringFault
  · split
    exact ((hv.flushPair.ringWrite.snd ‹State.ringWrite .. = _›).rxWriteback.snd ‹State.rxWriteback .. = _›).ringBack

theorem Keeps.hostSelect (h : Keeps s t) : Keeps s t.hostSelect.2 := by
  unfold State.hostSelect
  dsimp only
  split
  · exact h.tagAll
  · exact h.tagAll.wfqServed

theorem Keeps.execHostRxDeliver (h : Keeps s t) {upset : Fin 7} : KeptBy s (execHostRxDeliver upset t) := by
  unfold Machine.execHostRxDeliver
  refine .next ?_
  split
  · exact h.creditSync.hostSelect.snd ‹State.hostSelect .. = _›
  · exact (h.creditSync.hostSelect.snd ‹State.hostSelect .. = _›).hrDeliver

theorem Keeps.editStore (h : Keeps s t) {v : StoreState} : Keeps s { t with store := v } := h.edit

theorem Keeps.txTake (h : Keeps s t) {n : Nat} {ahead : Bool} : Keeps s (t.txTake n ahead) := by
  have hv : Keeps s { t with store := { t.store with txTurn := n } } := h.editStore
  refine Keeps.unfolded (by delta State.txTake; exact rfl) ?_
  generalize { t with store := { t.store with txTurn := n } } = v at hv ⊢
  extract_lets r _ a
  split
  · exact (hv.hostRead.snd ‹State.hostRead .. = _›).ringFault
  extract_lets w
  have hw : Keeps s w := (hv.hostRead.snd ‹State.hostRead .. = _›).prefetchRead
  refine hw.ringBack.ite ?_
  split
  · exact (hw.hostRead.snd ‹State.hostRead .. = _›).ringFault
  · exact (hw.hostRead.snd ‹State.hostRead .. = _›).editStore.rxPush

theorem Keeps.execHostTxDescriptorFetch (h : Keeps s t) {ahead : Bool} : KeptBy s (execHostTxDescriptorFetch ahead t) := by
  unfold Machine.execHostTxDescriptorFetch
  refine .next ?_
  split
  · exact h.txBacks
  · exact h.txBacks.txTake

theorem Keeps.pollStart (h : Keeps s t) {i : Nat} : Keeps s (t.pollStart i) := h.setPoll

theorem Keeps.execPollDue (h : Keeps s t) {i : Fin 64} : KeptBy s (execPollDue i t) := by
  unfold Machine.execPollDue
  refine .next ?_
  split
  · exact h
  · exact h.timeTo.setPoll.incTr.ite h.timeTo.setPoll

theorem Keeps.pollTaken (h : Keeps s t) {i x : Nat} : Keeps s (t.pollTaken i x) :=
  h.setPoll.iteThen fun hu => hu.occur

theorem Keeps.execPollReadComplete (h : Keeps s t) {i : Fin 64} {fails : Bool} {value : Word} :
    KeptBy s (execPollReadComplete i fails value t) :=
  .next (h.ite (h.setPoll.occur.ite h.setPoll.pollTaken))

/-! ### Operations of Storage -/

theorem Keeps.setStore (h : Keeps s t) {st : Nat} : Keeps s (t.setStore st) := h.ite h.edit.occur

theorem Keeps.storeQuanta (h : Keeps s t) {bytes : Nat} : Keeps s (t.storeQuanta bytes) := h.addCtr

theorem Keeps.endStops (h : Keeps s t) {st : Nat} : Keeps s (t.endStops st) := h.edit.foldl fun _ _ hu => hu.finishTicket

theorem Keeps.recStopped (h : Keeps s t) : Keeps s t.recStopped := h.endStops.ite h

theorem Keeps.editBlock (h : Keeps s t) {a : Nat} {l : List Byte} {o : List Emit} {v : StoreState} :
    Keeps s { t with bar2 := memWrites t.bar2 a l, out := o, store := v } := h.writeBar2.edit

theorem Keeps.blockClose (h : Keeps s t) : Keeps s t.blockClose :=
  h.editBlock.storeQuanta.iteElse fun hu => (hu.editStore.ite hu).occur

theorem Keeps.blocksClose (h : Keeps s t) {n : Nat} : Keeps s (t.blocksClose n) := by
  induction n generalizing t with
  | zero => exact h
  | succ n ih => exact h.ite (ih h.blockClose)

theorem Keeps.recStop (h : Keeps s t) : Keeps s t.recStop := h.edit.blocksClose

theorem Keeps.recTake (h : Keeps s t) {d : Desc} {b : List Byte} : Keeps s (t.recTake d b) := h.edit.incTr.occur.ite h.edit

theorem Keeps.execRecorderCopyConsume (h : Keeps s t) {upset : Fin 7} : KeptBy s (execRecorderCopyConsume upset t) := by
  unfold Machine.execRecorderCopyConsume
  refine .next ?_
  split
  · exact h
  · exact h.takeRead ‹State.takeRead .. = _›
  · exact (h.takeRead ‹State.takeRead .. = _›).iteElse fun hu => hu.recTake

theorem Keeps.execRecorderBlockClose (h : Keeps s t) : KeptBy s (execRecorderBlockClose t) := .next (h.blockClose.ite h)

theorem Keeps.storeAbort (h : Keeps s t) : Keeps s t.storeAbort := by
  unfold State.storeAbort
  refine Keeps.endStops (Keeps.foldl ?_ fun _ _ hu => hu.finishTicket)
  split
  · exact h.edit.finishTicket
  · exact h.edit

theorem Keeps.storeLinkOff (h : Keeps s t) : Keeps s t.storeLinkOff := h.setF.setF.edit

theorem Keeps.nvmeDone (h : Keeps s t) {c : NvmeCmd} {fault : Nat} {data : List Byte} :
    Keeps s (t.nvmeDone c fault data) := by
  unfold State.nvmeDone
  split
  · exact h.recStopped
  · refine h.finishTicket.ite (h.finishTicket.ite ?_)
    dsimp only
    split
    · exact ((h.storeQuanta.ite h).jobWrite.snd ‹State.jobWrite .. = _›).finishTicket
    · exact ((h.storeQuanta.ite h).jobWrite.snd ‹State.jobWrite .. = _›).flushFailed.finishTicket.ite
        ((h.storeQuanta.ite h).jobWrite.snd ‹State.jobWrite .. = _›).finishTicket

theorem Keeps.execNvmeCommandComplete (h : Keeps s t) {i : Fin 64} {fault : Fin 3} {data : List Byte} :
    KeptBy s (execNvmeCommandComplete i fault data t) := by
  unfold Machine.execNvmeCommandComplete
  refine .next ?_
  split
  · exact h
  · exact h.edit.nvmeDone

theorem Keeps.execStorageLinkDown (h : Keeps s t) : KeptBy s (execStorageLinkDown t) :=
  .next (h.ite h.storeAbort.storeLinkOff.setStore)

theorem Keeps.execHealthLogPoll (h : Keeps s t) {critWarn pctUsed : Byte} {temp : BitVec 16} {mediaErrors : BitVec 64} :
    KeptBy s (execHealthLogPoll critWarn pctUsed temp mediaErrors t) := by
  unfold Machine.execHealthLogPoll
  refine .next ?_
  split
  · exact h
  · exact h.timeTo.edit.iteThen fun hu => hu.occur

theorem Keeps.storeBody (h : Keeps s t) {f : State → Resp × State} (hf : ∀ (u : State), Keeps s u → Keeps s (f u).2) :
    Keeps s (t.storeBody f).2 :=
  Keeps.iteOn Prod.snd h.answer (hf _ h)

theorem Keeps.bodyStoreAttach (h : Keeps s t) {a : Ctx} : Keeps s (bodyStoreAttach a t).2 :=
  h.storeBody fun _ hu => Keeps.iteOn Prod.snd hu.answer (Keeps.iteOn Prod.snd hu.answer hu.setStore.pend)

theorem Keeps.attachEnd (h : Keeps s t) {client num : Nat} {e : Ext} : Keeps s (t.attachEnd client num e) :=
  h.setStore.finishTicket.ite (h.setStore.finishTicket.ite (h.setStore.finishTicket.ite
      h.setF.setF.edit.setStore.finishTicket))

theorem Keeps.detachStart (h : Keeps s t) {force : Bool} : Keeps s (t.detachStart force) :=
  ((h.recStop.ite h).iteThen fun hu => hu.storeAbort).setStore

theorem Keeps.bodyStoreDetach (h : Keeps s t) {a : Ctx} : Keeps s (bodyStoreDetach a t).2 :=
  h.storeBody fun _ hu => Keeps.iteOn Prod.snd hu.answer (Keeps.iteOn Prod.snd hu.answer
      (Keeps.iteOn Prod.snd hu.answer hu.detachStart.pend))

theorem Keeps.detachEnd (h : Keeps s t) {client num : Nat} : Keeps s (t.detachEnd client num) :=
  h.storeAbort.storeLinkOff.setStore.finishTicket

theorem Keeps.storeIo (h : Keeps s t) {c : Ctx} {dir : Nat} {f : State → Bulk → List Byte → Nat → Nat → Bool → Resp × State}
    (hf : ∀ (u : State) (x : Bulk) (y : List Byte) (z w : Nat) (v : Bool), Keeps s u → Keeps s (f u x y z w v).2) :
    Keeps s (t.storeIo c dir f).2 := by
  unfold State.storeIo
  split
  · exact h.answer
  · refine Keeps.iteOn Prod.snd h.answer (Keeps.iteOn Prod.snd h.answer ?_)
    split
    · exact (h.bulkRead.snd ‹State.bulkRead .. = _›).answer
    · split
      · exact (h.bulkRead.snd ‹State.bulkRead .. = _›).answer
      · exact hf _ _ _ _ _ _ (h.bulkRead.snd ‹State.bulkRead .. = _›)

theorem Keeps.readStart (h : Keeps s t) {c : Ctx} {b : Bulk} {lba n : Nat} {x : Bool} :
    Keeps s (t.readStart c b lba n x).2 := by
  unfold State.readStart
  dsimp only
  exact h.pend.edit

theorem Keeps.bodyStoreRead (h : Keeps s t) {a : Ctx} : Keeps s (bodyStoreRead a t).2 :=
  h.storeBody fun _ hu => hu.storeIo fun _ _ _ _ _ _ hv => hv.readStart

theorem Keeps.writeStart (h : Keeps s t) {c : Ctx} {d : List Byte} {lba n : Nat} {x : Bool} :
    Keeps s (t.writeStart c d lba n x).2 := by
  unfold State.writeStart
  dsimp only
  exact (h.storeQuanta.ite h).pend.edit

theorem Keeps.bodyStoreWrite (h : Keeps s t) {a : Ctx} : Keeps s (bodyStoreWrite a t).2 :=
  h.storeBody fun _ hu => hu.storeIo fun _ _ _ _ _ _ hv => Keeps.iteOn Prod.snd hv.answer hv.writeStart

theorem Keeps.recLocate (h : Keeps s t) {fresh : Bool} : Keeps s (t.recLocate fresh) := by
  unfold State.recLocate
  dsimp only
  exact h.edit.ite (h.ite h.draw.draw.edit)

theorem Keeps.bodyRecorderStart (h : Keeps s t) {a : Ctx} : Keeps s (bodyRecorderStart a t).2 :=
  h.storeBody fun _ hu => Keeps.iteOn Prod.snd hu.answer (Keeps.iteOn Prod.snd hu.answer (Keeps.iteOn Prod.snd hu.answer
      (Keeps.iteOn Prod.snd hu.answer hu.recLocate.edit.answer)))

theorem Keeps.bodyRecorderStop (h : Keeps s t) {a : Ctx} : Keeps s (bodyRecorderStop a t).2 := by
  unfold Machine.bodyRecorderStop
  dsimp only
  exact h.storeBody fun _ hu => Keeps.iteOn Prod.snd hu.answer (Keeps.iteOn Prod.snd hu.recStop.answer hu.recStop.pend.edit)

theorem Keeps.bodyStoreHealth (h : Keeps s t) {a : Ctx} : Keeps s (bodyStoreHealth a t).2 :=
  h.storeBody fun _ hu => Keeps.iteOn Prod.snd hu.answer hu.answer

/-! ### Operations of Causeway -/

theorem Keeps.watchdogReset (h : Keeps s t) : Keeps s t.watchdogReset :=
  h.crownReset.iteElse fun hu => (hu.setF.ite hu).bootFail

theorem Keeps.execWatchdogService (h : Keeps s t) {token : Byte} {hold fails : Bool} :
    KeptBy s (execWatchdogService token hold fails t) := by
  unfold Machine.execWatchdogService
  refine .next (h.hatpinDown.ite ?_)
  split
  · exact h
  · exact h.watchdogReset.ite h.setF.watchdogWindow.faultFall

theorem Keeps.execWatchdogExpiry (h : Keeps s t) : KeptBy s (execWatchdogExpiry t) := by
  unfold Machine.execWatchdogExpiry
  refine .next ?_
  split
  · exact h
  · exact h.hbTo.watchdogReset

theorem Keeps.execWatchdogWarning (h : Keeps s t) : KeptBy s (execWatchdogWarning t) := by
  unfold Machine.execWatchdogWarning
  refine .next ?_
  split
  · exact h
  · exact h.hbTo.edit.faultRise

theorem Keeps.execLockstepMismatch (h : Keeps s t) {pair : Fin 3} : KeptBy s (execLockstepMismatch pair t) :=
  .next (h.hbxLock.ite h.faultRise)

theorem Keeps.incCw (h : Keeps s t) {p : Nat} {i : Nat} : Keeps s (t.incCw p i) :=
  h.setCwCtrs (ctrs_tabSet_lt (by omega))

theorem Keeps.cwAged (h : Keeps s t) {p : Nat} {ba : Bool} {n : Nat} : Keeps s (t.cwAged p ba n) := by
  induction n generalizing t with
  | zero => exact h
  | succ n ih =>
    unfold State.cwAged
    dsimp only
    split
    · exact (ih h.setRepeater.incCw).ite h
    · exact h

theorem Keeps.cwXcvrs (h : Keeps s t) {p : Nat} : Keeps s (t.cwXcvrs p) := h.setF.setF.ite h

theorem Keeps.noteRecords (h : Keeps s t) {l : List Nat} : Keeps s (t.noteRecords l) := h.edit

theorem Keeps.handoverStart (h : Keeps s t) : Keeps s t.handoverStart := h.foldl fun _ _ hu => hu.setRepeater.ite hu

theorem Keeps.execCausewayTakeover (h : Keeps s t) {p : Fin 4} : KeptBy s (execCausewayTakeover p t) :=
  .next (h.setRepeater.cwXcvrs.handoverStart.ite h)

theorem Keeps.cwTake (h : Keeps s t) {p : Nat} {onB : Bool} {f : CanFrame} : Keeps s (t.cwTake p onB f) :=
  h.setRepeater.iteElse fun hu => hu.incCw.ite hu.setRepeater

theorem Keeps.execCausewayFrameReceive (h : Keeps s t) {p : Fin 4} {onB : Bool} {f : CanFrame} :
    KeptBy s (execCausewayFrameReceive p onB f t) :=
  .next (h.ite h.cwTake.edit)

theorem Keeps.cwEnded (h : Keeps s t) {p : Nat} {ba : Bool} {outcome : Nat} {b : List Byte} {rest : List (List Byte × Nat)} :
    Keeps s (t.cwEnded p ba outcome b rest) :=
  h.edit.setRepeater.incCw.ite (h.setRepeater.incCw.ite h.setRepeater)

theorem Keeps.execCausewayAttemptEnd (h : Keeps s t) {p : Fin 4} {ba : Bool} {outcome : Fin 4} :
    KeptBy s (execCausewayAttemptEnd p ba outcome t) := by
  unfold Machine.execCausewayAttemptEnd
  refine .next ?_
  split
  · exact h.cwAged
  · exact h.cwAged.iteElse fun hu => hu.cwEnded

theorem Keeps.execCausewayRecoveryDone (h : Keeps s t) {p : Fin 4} {ba : Bool} : KeptBy s (execCausewayRecoveryDone p ba t) :=
  .next (h.setRepeater.ite h)

theorem Keeps.execVcc5Loss (h : Keeps s t) : KeptBy s (execVcc5Loss t) :=
  .next (h.edit.foldl fun _ _ hu => hu.setCan.setF.setF)

theorem Keeps.execVcc5Restored (h : Keeps s t) : KeptBy s (execVcc5Restored t) :=
  .next (h.edit.foldl fun _ _ hu => hu.cwXcvrs)

/-! ### Operations of Client -/

theorem Keeps.forceDisable (h : Keeps s t) {c ref : Nat} : Keeps s (t.forceDisable c ref) :=
  (h.portForce.ite h).ite ((h.canForce.ite h).ite ((h.linForce.ite h).ite h))

theorem Keeps.abortTicket (h : Keeps s t) {t' : Ticket} : Keeps s (t.abortTicket t') := by
  unfold State.abortTicket
  refine h.ite ?_
  split
  · exact h.abortJob
  · refine h.finishTicket.edit.edit.setF.ite (h.finishTicket.edit.edit.ite (h.finishTicket.edit.setF.ite
      (h.finishTicket.edit.edit.ite (h.finishTicket.edit.forceDisable.ite (Keeps.ite (h.finishTicket.edit.foldl ?_)
      (h.finishTicket.edit.storeLinkOff.setStore.ite (h.finishTicket.edit.storeAbort.storeLinkOff.setStore.ite (Keeps.ite
      ?_ h.finishTicket.edit.edit))))))))
    · intro _ _ hu
      split
      · exact hu
      · exact hu.setMdio
    · split
      · exact h.finishTicket.edit.edit
      · exact h.finishTicket.edit.edit

theorem Keeps.mbRelease (h : Keeps s t) {n : Nat} {owned : Bool} : Keeps s (t.mbRelease n owned) :=
  h.mbDiscard.setF.setF.syncMbLevel

theorem Keeps.editSeg (h : Keeps s t) {g : GciState} {x : HbxState} {p : PierState}
    (hm : Memory.wf t.gci.seg = true → Memory.wf g.seg = true) : Keeps s { t with gci := g, hbx := x, pier := p } :=
  (h.setSeg hm).edit

theorem Keeps.clientLost (h : Keeps s t) {c : Nat} : Keeps s (t.clientLost c) :=
  ((((h.foldl fun _ _ hu => hu.abortTicket).foldl fun _ _ hu => hu.farAbort).editSeg (Memory.wf_filter _)).foldl
    fun _ _ hu => hu.holdClear.spanUpdate.ite hu).syncTickets.foldl fun _ _ hu => hu.mbRelease.ite hu

theorem Keeps.cascadeClient (h : Keeps s t) : Keeps s t.cascadeClient :=
  h.edit.foldl fun _ _ hu => hu.setF.setF.setF.setF.setF

/-! ### Operations of Pier -/

theorem Keeps.cascEvent (h : Keeps s t) {bit detail : Nat} : Keeps s (t.cascEvent bit detail) := h.event

theorem Keeps.incCasc (h : Keeps s t) {p i : Nat} : Keeps s (t.incCasc p i) := h.inc

theorem Keeps.splitNote (h : Keeps s t) {kind port before leader : Nat} : Keeps s (t.splitNote kind port before leader) :=
  h.edit

theorem Keeps.reqAgain (h : Keeps s t) {d : Nat} {f : FwdReq} : Keeps s (t.reqAgain d f) := by
  unfold State.reqAgain
  dsimp only
  split
  · exact h.pierSend.inc
  · split
    · exact h.pierSend.inc.hostRead.snd ‹State.hostRead .. = _›
    · exact (h.pierSend.inc.hostRead.snd ‹State.hostRead .. = _›).bulkUnits

theorem Keeps.pathChange (h : Keeps s t) {d : Nat} {up : Bool} : Keeps s (t.pathChange d up) :=
  (h.edit.foldl fun _ _ hu => hu.reqAgain).ite h.edit

theorem Keeps.topology (h : Keeps s t) : Keeps s t.topology := by
  unfold State.topology
  refine Keeps.ite (Keeps.foldl (Keeps.ite (Keeps.cascEvent (h.setFlag.setFlag.setF.setF.foldl ?_))
      (h.setFlag.setFlag.setF.setF.foldl ?_)) fun _ _ hu => hu.ite hu.pathChange) (Keeps.foldl (Keeps.evqTargetSlept
      (Keeps.foldl (Keeps.ite (Keeps.cascEvent (h.setFlag.setFlag.setF.setF.foldl ?_)) (h.setFlag.setFlag.setF.setF.foldl
      ?_)) fun _ _ hu => hu.ite hu.pathChange)) fun _ _ hu => hu.evqSignal.ite hu)
  · intro _ _ hu
    refine hu.ite ?_
    dsimp only
    split
    · exact hu.setDeckInfo
    · exact hu
  · intro _ _ hu
    refine hu.ite ?_
    dsimp only
    split
    · exact hu.setDeckInfo
    · exact hu
  · intro _ _ hu
    refine hu.ite ?_
    dsimp only
    split
    · exact hu.setDeckInfo
    · exact hu
  · intro _ _ hu
    refine hu.ite ?_
    dsimp only
    split
    · exact hu.setDeckInfo
    · exact hu

theorem Keeps.setRole (h : Keeps s t) {r : Nat} : Keeps s (t.setRole r) := (h.cascadeClient.ite h).setF

theorem Keeps.sendHello (h : Keeps s t) {p : Nat} : Keeps s (t.sendHello p) := h.setPierPort.pierSend

theorem Keeps.helloPass (h : Keeps s t) {skip : Nat} {body : PierPort → List Byte} : Keeps s (t.helloPass skip body) :=
  h.foldl fun _ _ hu => hu.ite hu.pierSend

theorem Keeps.announce (h : Keeps s t) : Keeps s t.announce := h.foldl fun _ _ hu => hu.sendHello.ite hu

theorem Keeps.newCommitId (h : Keeps s t) : Keeps s t.newCommitId := by
  unfold State.newCommitId
  dsimp only
  exact h.draw.edit.announce

theorem Keeps.pierCredits (h : Keeps s t) {p : Nat} : Keeps s (t.pierCredits p) := h.setPierPort

theorem Keeps.pierHold (h : Keeps s t) {p : Nat} {key : Bool} : Keeps s (t.pierHold p key) := h.setPierPort

theorem Keeps.pierSas (h : Keeps s t) {p : Nat} {key : List Byte} : Keeps s (t.pierSas p key) :=
  h.edit.setAssoc.setAssoc.setF.setF.syncMacsec

theorem Keeps.evtSend (h : Keeps s t) {q : Nat} : Keeps s (t.evtSend q) := h.ite (h.evqComplete.ite h.pierSend)

theorem Keeps.evtSendAll (h : Keeps s t) : Keeps s t.evtSendAll := h.foldl fun _ _ hu => hu.evtSend

theorem Keeps.quarTell (h : Keeps s t) {d : Nat} {on : Bool} {skip : Nat} : Keeps s (t.quarTell d on skip) := h.helloPass

theorem Keeps.quarSet (h : Keeps s t) {d : Nat} {on : Bool} : Keeps s (t.quarSet d on) := h.setFlag.ite h.setDeckInfo

theorem Keeps.quarHeard (h : Keeps s t) {p : Nat} {h' : Hello} : Keeps s (t.quarHeard p h') :=
  (h.quarSet.iteThen fun hu => hu.edit).quarTell

theorem Keeps.ledgerCheck (h : Keeps s t) {d port before : Nat} : Keeps s (t.ledgerCheck d port before) := by
  unfold State.ledgerCheck
  dsimp only
  split
  · exact h.edit
  · exact h.quarSet.quarTell.splitNote.cascEvent.ite h.quarSet.quarTell.splitNote.cascEvent

theorem Keeps.yieldTo0 (h : Keeps s t) {port before : Nat} : Keeps s (t.yieldTo0 port before) :=
  h.edit.setF.setRole.spansReport.iteElse fun hu => hu.edit.ite hu.splitNote

theorem Keeps.halvesJoin (h : Keeps s t) : Keeps s t.halvesJoin :=
  h.ite (h.edit.iteThen fun hu => hu.setRole).evqTargetSlept.evtSendAll.spansReport

theorem Keeps.relink (h : Keeps s t) {port : Nat} : Keeps s (t.relink port) :=
  ((((h.topology.iteThen fun hu => hu.setRole).iteThen fun hu => hu.yieldTo0).iteThen fun hu => (hu.foldl fun _ _ hv =>
      hv.ledgerCheck).iteThen fun hv => hv.setF).iteThen fun hu => hu.halvesJoin).iteElse fun hu =>
      (hu.clientLost.ite hu).spansLost.setF.cascEvent.splitNote.iteThen fun hv => hv.edit

theorem Keeps.setLink (h : Keeps s t) {l : Nat × Nat × Nat} {up : Bool} : Keeps s (t.setLink l up) := h.edit

theorem Keeps.linkFailed (h : Keeps s t) {l : Nat × Nat} : Keeps s (t.linkFailed l) := by
  unfold State.linkFailed
  dsimp only
  split
  · exact h.edit.ite h
  · refine Keeps.foldl (Keeps.relink ?_) fun _ _ hu => hu.pathChange.pathChange.ite hu
    split
    · exact (h.edit.ite h).setLink.setLink
    · exact (h.edit.ite h).setLink

theorem Keeps.pierDomain (h : Keeps s t) {k v inc : Nat} {near : Bool} : Keeps s (t.pierDomain k v inc near) :=
  (h.clockRate.domainFollow.ite h.domainStep).iteThen fun hu => hu.domainPut

theorem Keeps.pierWork (h : Keeps s t) {near stepped back : Bool} : Keeps s (t.pierWork near stepped back) :=
  h.workStep.iteElse fun hu => h.workBleed.ite (h.clockRate.ite hu)

theorem Keeps.clockSetFrom (h : Keeps s t) {o : Option ClockTime} {f inc : ClockTime → Nat} :
    Keeps s (o.elim t fun x => t.clockSet 3 (f x) (inc x)) := by
  cases o with
  | none => exact h
  | some x => exact h.clockSet

theorem Keeps.pierTime (h : Keeps s t) {p : Nat} {ts : List ClockTime} : Keeps s (t.pierTime p ts) := by
  unfold State.pierTime
  refine Keeps.iteThen (Keeps.workChoose (Keeps.foldl h.edit.setF.clockSetFrom ?_)) fun hu => hu.pierWork
  intro _ _ hu
  split
  · exact hu.pierDomain
  · exact hu

theorem Keeps.pierTimeLost (h : Keeps s t) : Keeps s t.pierTimeLost :=
  h.ite (h.edit.setF.timeEvent.setWork.setF.foldl fun _ _ hu => hu.domainPut.ite hu).workChoose

theorem Keeps.quarCommit (h : Keeps s t) {c flags : Nat} : Keeps s (t.quarCommit c flags) := h.quarSet.quarTell.ite h

theorem Keeps.pierAck (h : Keeps s t) {p : Nat} {a : PierAcks} : Keeps s (t.pierAck p a) :=
  (h.setPierPort.foldl fun _ _ hu => hu.evqMoveRd.ite hu).evtSendAll.pierFlush

theorem Keeps.pierRx (h : Keeps s t) {p typ len : Nat} : Keeps s (t.pierRx p typ len) :=
  h.inc.addCtr.incMac.ite (h.inc.addCtr.iteElse fun hu => (hu.setAssoc.iteElse fun hv => hv.macEvent).incMac.incMac)

theorem Keeps.unitBad (h : Keeps s t) {p bad : Nat} : Keeps s (t.unitBad p bad) :=
  h.inc.ite (h.incCasc.ite (h.incMac.ite (h.incMac.macEvent.ite h.incMac)))

theorem Keeps.pierTake (h : Keeps s t) {p cls lseq : Nat} (e : t.pierTake p cls lseq = some u) : Keeps s u := by
  simp only [State.pierTake] at e
  split at e <;> cases e
  exact h.setPierPort

theorem Keeps.transit (h : Keeps s t) {cls typ src dst : Nat} {body : List Byte} : Keeps s (t.transit cls typ src dst body) :=
  h.pierSend

theorem Keeps.execPierSignalDetect (h : Keeps s t) {p : Fin 2} : KeptBy s (execPierSignalDetect p t) :=
  .next (h.setPierPort.ite h)

theorem Keeps.helloBegin (h : Keeps s t) {p : Nat} {v : PierPort} : Keeps s (t.helloBegin p v) := h.setPierPort.sendHello

theorem Keeps.execPierBlockLock (h : Keeps s t) {p : Fin 2} : KeptBy s (execPierBlockLock p t) := by
  unfold Machine.execPierBlockLock
  dsimp only
  exact .next (h.ite h.draw.helloBegin)

theorem Keeps.helloLearn (h : Keeps s t) {h' : Hello} : Keeps s (t.helloLearn h') := h.setDeckInfo

theorem Keeps.helloBook (h : Keeps s t) {h' : Hello} : Keeps s (t.helloBook h') := h.edit.ite h

theorem Keeps.helloRelay (h : Keeps s t) {h' : Hello} {k via port skip : Nat} : Keeps s (t.helloRelay h' k via port skip) :=
  h.helloPass

theorem Keeps.helloTake (h : Keeps s t) {p : Nat} {h' : Hello} : Keeps s (t.helloTake p h') := by
  unfold State.helloTake
  refine h.setPierPort.sendHello.pierCredits.ite ?_
  split
  · exact h.setPierPort.sendHello.pierHold
  · exact h.setPierPort.sendHello.pierSend

theorem Keeps.rekeyBegin (h : Keeps s t) {p step : Nat} : Keeps s (t.rekeyBegin p step) := by
  unfold State.rekeyBegin
  dsimp only
  exact h.draw.setPierPort

theorem Keeps.helloPeer (h : Keeps s t) {p : Nat} {h' : Hello} : Keeps s (t.helloPeer p h') :=
  h.helloTake.iteElse fun hu => h.rekeyBegin.helloTake.ite (hu.ite h.setPierPort)

theorem Keeps.execHello (h : Keeps s t) {p : Fin 2} {h' : Hello} : KeptBy s (execHello p h' t) :=
  .next (h.ite (h.pierRx.linkFailed.helloRelay.ite (h.pierRx.helloLearn.helloBook.setLink.relink.helloRelay.ite
      (h.pierRx.quarHeard.ite ((h.pierRx.iteElse fun hu => hu.pierHold.cascEvent).ite
      (h.pierRx.helloLearn.helloBook.helloRelay.helloPeer.ite h.pierRx.helloLearn.helloBook.helloPeer))))))

theorem Keeps.execKeyConfirm (h : Keeps s t) {p : Fin 2} {mac : BitVec 128} : KeptBy s (execKeyConfirm p mac t) := by
  unfold Machine.execKeyConfirm
  refine .next (h.ite ?_)
  dsimp only
  split
  · exact h.pierRx.pierHold
  · exact h.pierRx.pierSas.pierCredits.ite h.pierRx.pierHold.cascEvent

theorem Keeps.sendKeepalive (h : Keeps s t) {p : Nat} {v : PierPort} : Keeps s (t.sendKeepalive p v) :=
  (h.incCasc.ite h).pierSend.evtSendAll

theorem Keeps.execPierHelloInterval (h : Keeps s t) {p : Fin 2} : KeptBy s (execPierHelloInterval p t) :=
  .next (h.ite (h.timeTo.setPierPort.rekeyBegin.sendHello.ite (h.timeTo.setPierPort.sendHello.ite
      h.timeTo.setPierPort.sendKeepalive)))

theorem Keeps.execKeepalive (h : Keeps s t) {p : Fin 2} {a : PierAcks} {time : List ClockTime} :
    KeptBy s (execKeepalive p a time t) :=
  .next (h.ite (h.pierRx.iteElse fun hu => hu.setPierPort.pierAck.iteThen fun hv => hv.pierTime))

theorem Keeps.execCredit (h : Keeps s t) {p : Fin 2} {back : List (Fin 11 × BitVec 16)} {a : PierAcks} :
    KeptBy s (execCredit p back a t) :=
  .next (h.ite (h.pierRx.iteElse fun hu => hu.setPierPort.pierAck))

theorem Keeps.linksTell (h : Keeps s t) {p rank : Nat} : Keeps s (t.linksTell p rank) :=
  h.helloPass.iteElse fun hu => hu.foldl fun _ _ hv => hv.pierSend

theorem Keeps.peerUp (h : Keeps s t) {p rank : Nat} : Keeps s (t.peerUp p rank) :=
  h.portUp.setF.cascEvent.setLink.relink.linksTell

theorem Keeps.execPierLinkHoldEnd (h : Keeps s t) {p : Fin 2} : KeptBy s (execPierLinkHoldEnd p t) := by
  unfold Machine.execPierLinkHoldEnd
  refine .next ?_
  split
  · exact h
  · exact h.timeTo.setPierPort.peerUp

theorem Keeps.execBringupRetry (h : Keeps s t) {p : Fin 2} : KeptBy s (execBringupRetry p t) := by
  unfold Machine.execBringupRetry
  dsimp only
  refine .next ?_
  split
  · exact h
  · exact h.timeTo.draw.helloBegin

theorem Keeps.peerGone (h : Keeps s t) {p : Nat} {v : PierPort} {lock : Bool} : Keeps s (t.peerGone p v lock) :=
  (h.setPierPort.iteElse fun hu => hu.setPierPort).iteElse fun hu => (hu.portDown.setF.incCasc.cascEvent.iteThen fun hv =>
      hv.pierTimeLost).iteElse fun hv => hv.linkFailed.helloPass

theorem Keeps.execPeerLost (h : Keeps s t) {p : Fin 2} {lock : Bool} : KeptBy s (execPeerLost p lock t) :=
  .next ((h.setPierPort.ite h).ite (h.ite h.timeTo).peerGone)

theorem Keeps.resendUnit (h : Keeps s t) {p : Nat} {u : Nat × Nat × Nat × Nat × List Byte} : Keeps s (t.resendUnit p u) := by
  unfold State.resendUnit
  dsimp only
  exact h.incCasc.unitOut

theorem Keeps.execReplayTimeout (h : Keeps s t) {p : Fin 2} : KeptBy s (execReplayTimeout p t) := by
  unfold Machine.execReplayTimeout
  refine .next ?_
  split
  · exact h
  · exact h.timeTo.setPierPort.foldl fun _ _ hu => hu.resendUnit

theorem Keeps.execEthUnit (h : Keeps s t) {p : Fin 2} {cls : Fin 8} {src : Fin 4} {bad : Fin 6} {frame : List Byte} :
    KeptBy s (execEthUnit p cls src bad frame t) :=
  .next (h.ite (h.unitBad.ite (h.incCasc.ite (h.inc.ite (h.pierRx.iteElse fun hu => hu.creditBack.ite hu.rxPush)))))

theorem Keeps.recordIn (h : Keeps s t) {p cls src dst route : Nat} {record : List Byte} {u : Upset} :
    Keeps s (t.recordIn p cls src dst route record u) :=
  h.ite ((h.ite h.route_).ite (h.ite h.storeFrame))

theorem Keeps.execRecordUnit (h : Keeps s t) {p : Fin 2} {cls : Fin 8} {src dst : Fin 4} {bad : Fin 6} {route : BitVec 14}
    {record : List Byte} {u : Upset} : KeptBy s (execRecordUnit p cls src dst bad route record u t) :=
  .next (h.ite (h.unitBad.ite (h.incCasc.ite (h.pierRx.iteElse fun hu => hu.creditBack.recordIn))))

theorem Keeps.reqIn (h : Keeps s t) {x : ReqSlot} : Keeps s (t.reqIn x) := by
  unfold State.reqIn
  split
  · exact h.pierSend
  · exact h.ite h.edit.slotFeed

theorem Keeps.execReqUnit (h : Keeps s t) {p : Fin 2} {src : Fin 4} {client : Fin 8} {sec : Bool} {num lseq cmd : BitVec 16}
    {q : Req} : KeptBy s (execReqUnit p src client sec num lseq cmd q t) := by
  unfold Machine.execReqUnit
  refine .next ?_
  split
  · exact h.pierRx
  · exact (h.pierRx.pierTake ‹State.pierTake .. = _›).creditBack.transit.ite
      (h.pierRx.pierTake ‹State.pierTake .. = _›).creditBack.reqIn

theorem Keeps.farUpdate (h : Keeps s t) {f : FwdReq} {st num : Nat} : Keeps s (t.farUpdate f st num) := h.edit

theorem Keeps.cplDone (h : Keeps s t) {f : FwdReq} {resp : List Byte} : Keeps s (t.cplDone f resp) :=
  (h.edit.iteThen fun hu => hu.farAbort).ite (h.edit.farUpdate.iteThen fun hu =>
      hu.edit.quarSet.quarTell).syncTickets.mbRespond

theorem Keeps.slotData (h : Keeps s t) {x : ReqSlot} {off : Nat} {data : List Byte} : Keeps s (t.slotData x off data) :=
  h.edit.iteElse fun hu => hu.slotFeed

theorem Keeps.bulkIn (h : Keeps s t) {src num off : Nat} {data : List Byte} : Keeps s (t.bulkIn src num off data) := by
  unfold State.bulkIn
  dsimp only
  split
  · exact h.ite (h.hostWrite.iteElse fun hu => hu.edit)
  · split
    · exact h
    · exact h.hostWrite.iteElse fun hu => hu.edit

theorem Keeps.cplIn (h : Keeps s t) {src num : Nat} {bulk : Bool} {off : Nat} {data : List Byte} :
    Keeps s (t.cplIn src num bulk off data) := by
  unfold State.cplIn
  dsimp only
  split
  · exact h.slotData
  · exact h.bulkIn
  · exact h.cplDone
  · exact h

theorem Keeps.execCplUnit (h : Keeps s t) {p : Fin 2} {src dst : Fin 4} {num lseq : BitVec 16} {bulk : Bool} {off : BitVec
    32} {data : List Byte} : KeptBy s (execCplUnit p src dst num lseq bulk off data t) := by
  unfold Machine.execCplUnit
  refine .next ?_
  split
  · exact h.pierRx
  · exact (h.pierRx.pierTake ‹State.pierTake .. = _›).creditBack.transit.ite
      (h.pierRx.pierTake ‹State.pierTake .. = _›).creditBack.cplIn

theorem Keeps.execEvtUnit (h : Keeps s t) {p : Fin 2} {src dst : Fin 4} {lseq : BitVec 16} {q : Fin 64} {rec : BitVec 128} :
    KeptBy s (execEvtUnit p src dst lseq q rec t) := by
  unfold Machine.execEvtUnit
  refine .next ?_
  split
  · exact h.pierRx
  · exact (h.pierRx.pierTake ‹State.pierTake .. = _›).creditBack.transit.ite
      ((h.pierRx.pierTake ‹State.pierTake .. = _›).creditBack.evqDrop.ite (h.pierRx.pierTake ‹State.pierTake .. =
      _›).creditBack.evqWrite)

theorem Keeps.discovered (h : Keeps s t) : Keeps s t.discovered :=
  (h.topology.setRole.ite h.topology.setRole).ite (h.topology.setRole.spansReport.ite
      h.topology.setRole.setF.cascEvent.splitNote.edit)

theorem Keeps.execDiscoveryDeadline (h : Keeps s t) : KeptBy s (execDiscoveryDeadline t) := by
  unfold Machine.execDiscoveryDeadline
  refine .next ?_
  split
  · exact h
  · exact h.timeTo.edit.discovered

theorem Keeps.actingTurn (h : Keeps s t) : Keeps s t.actingTurn :=
  h.ite (h.edit.setRole.cascEvent.splitNote.spansReport.ite h.edit.evqTargetSlept.evtSendAll.spansReport)

theorem Keeps.execActingDelayExpiry (h : Keeps s t) : KeptBy s (execActingDelayExpiry t) := by
  unfold Machine.execActingDelayExpiry
  refine .next ?_
  split
  · exact h
  · exact h.timeTo.edit.actingTurn

theorem Keeps.execRequestUnreachableTimeout (h : Keeps s t) : KeptBy s (execRequestUnreachableTimeout t) := by
  unfold Machine.execRequestUnreachableTimeout
  refine .next ?_
  split
  · exact h
  · exact h.timeTo.edit.iteElse fun hu => hu.mbRespond

theorem Keeps.bodyCascTopology (h : Keeps s t) {a : Ctx} : Keeps s (bodyCascTopology a t).2 :=
  Keeps.iteOn Prod.snd h.answer h.answer

theorem Keeps.bodyStandbyLinkSet (h : Keeps s t) {a : Ctx} : Keeps s (bodyStandbyLinkSet a t).2 :=
  Keeps.iteOn Prod.snd h.answer (Keeps.iteOn Prod.snd h.busyLock (Keeps.iteOn Prod.snd h.answer h.stage))

theorem Keeps.bodyCascHeal (h : Keeps s t) {a : Ctx} : Keeps s (bodyCascHeal a t).2 :=
  Keeps.iteOn Prod.snd h.answer (Keeps.iteOn Prod.snd h.answer (Keeps.iteOn Prod.snd h.answer
      (Keeps.iteOn Prod.snd h.answer h.edit.quarSet.quarTell.cascEvent.answer)))

theorem Keeps.bodySplitLog (h : Keeps s t) {a : Ctx} : Keeps s (bodySplitLog a t).2 := Keeps.iteOn Prod.snd h.answer h.answer

theorem Keeps.applyStandby (h : Keeps s t) : Keeps s t.applyStandby := h.ite h.edit.relink

/-! ### Operations of Validate -/

theorem Keeps.overlay (h : Keeps s t) {ch : List (Nat × Nat)} : Keeps s (t.overlay ch) :=
  h.edit.foldl fun _ _ hu => hu.edit.ite hu.edit

/-! ### Operations of Commit -/

theorem Keeps.mbUnassign (h : Keeps s t) {n : Nat} : Keeps s (t.mbUnassign n) :=
  h.mbDiscard.setF.setF.setF.setF.setF.syncMbLevel

theorem Keeps.mbAssign (h : Keeps s t) {n c : Nat} : Keeps s (t.mbAssign n c) :=
  h.setF.setF.setF.setF.setF.iteThen fun hu => hu.setF

theorem Keeps.applyClients (h : Keeps s t) {cs : List (Nat × Nat)} : Keeps s (t.applyClients cs) :=
  ((h.foldl fun _ _ hu => hu.clientLost).foldl fun _ _ hu => hu.foldl fun _ _ hv => hv.mbUnassign.ite hv).foldl fun _ _ hu =>
      hu.edit.foldl fun _ _ hv => hv.mbAssign.ite hv

theorem Keeps.applyPools (h : Keeps s t) : Keeps s t.applyPools := h.setF.setF.edit

theorem Keeps.applyPort (h : Keeps s t) {p : Nat} {pids : List Nat} : Keeps s (t.applyPort p pids) :=
  ((((h.applyMode.ite (h.speedStart.ite h)).iteThen fun hu => hu.anStart).iteThen fun hu =>
      hu.plcaStop.setF).iteThen fun hu => hu.xoffCheck).iteThen fun hu => hu.syncMacsec

theorem Keeps.applyCan (h : Keeps s t) {n : Nat} {pids : List Nat} : Keeps s (t.applyCan n pids) :=
  (h.setF.ite h).iteThen fun hu => hu.canFeed

theorem Keeps.applySge (h : Keeps s t) : Keeps s t.applySge := by
  unfold State.applySge
  dsimp only
  split
  · exact (h.foldl fun _ _ hu => hu.setSignal).edit.setF.ite h.edit.setF
  · exact h.ite ((h.edit.setF.foldl fun _ _ hu => hu.bundleClose).ite ((h.edit.setF.foldl fun _ _ hu =>
      hu.finishCopy.ite hu).setReady.foldl fun _ _ hu => hu.setBundle).startFlush)

theorem Keeps.applyBulk (h : Keeps s t) : Keeps s t.applyBulk := by
  unfold State.applyBulk
  split
  · exact h.edit.setF
  · exact h.edit.setF.bulkIdle
  · exact h.setF.abortJobs.bulkIdle

theorem Keeps.startTimer (h : Keeps s t) {t' : Nat} : Keeps s (t.startTimer t') := h.setTimer.ite (h.setTimer.ite h.setTimer)

theorem Keeps.applyQueue (h : Keeps s t) {q : Nat} {pids : List Nat} : Keeps s (t.applyQueue q pids) :=
  (((h.applyQueueDisable.ite h).iteThen fun hu => hu.creditSyncQ.setTag).iteThen fun hu => hu.setBundle).iteElse fun hu =>
    (hu.dropCtrs (fun _ => List.mem_of_mem_filter)).edit

theorem Keeps.applySpan (h : Keeps s t) {i : Nat} {pids : List Nat} : Keeps s (t.applySpan i pids) :=
  ((((h.ite (h.spanStart.ite h.spanSleepOff)).iteElse fun hu => hu.edit).iteThen fun hu => hu.setSpan).iteThen fun hu =>
      hu.kaArm).spanUpdate

theorem Keeps.applyObject (h : Keeps s t) {old : State} {o : Nat} {pids : List Nat} : Keeps s (t.applyObject old o pids) := by
  unfold State.applyObject
  dsimp only
  split
  · exact h.applySpan
  · exact (h.spanUpdate.spanUpdate.ite h).applyPort.ite ((h.spanUpdate.spanUpdate.ite h).iteThen fun hu => hu.applyCan)
  · exact h.applyQueue
  · exact h.ite h.edit
  · exact h.setFrer
  · exact h.setMeter
  · exact h.setRate
  · exact h.setSignal
  · exact h.setPdu.iteThen fun hu => hu.startTimer
  · exact h.startTimer
  · exact h.creditSync.setCredit
  · exact h.setLin.ite h
  · exact h.applyDomain.ite ((h.applySlew.ite h).iteThen fun hu => hu.setWork.workChoose)
  · exact h.applyOutput
  · exact h.syncFault
  · exact h

theorem Keeps.applyDeck (h : Keeps s t) {pids : List Nat} : Keeps s (t.applyDeck pids) :=
  ((((((h.applySge.ite h).iteThen fun hu => hu.applyBulk).iteThen fun hu => hu.foldl fun _ _ hv =>
      hv.prefetchDrop).iteThen fun hu => hu.edit).foldl fun _ _ hu => hu.pollStart.ite hu).iteThen fun hu =>
      hu.edit).iteThen fun hu => hu.applyStandby

theorem Keeps.switchEpoch (h : Keeps s t) {ch : List (Nat × Nat)} {epoch : Nat} : Keeps s (t.switchEpoch ch epoch) :=
  (((((((h.creditSyncAll.ite h).edit.newCommitId.iteElse fun hu => hu.setF.setF).iteThen fun hu => hu.setF).iteThen fun hu =>
      hu.applyPools).foldl fun _ _ hu => hu.applyDeck.ite (hu.ite hu.applyObject)).workChoose.foldl fun _ _ hu =>
      hu.queueMended).foldl fun _ _ hu => hu.applyGateList.ite hu).poolSettle.applyClients.noteRecords.handoverStart

theorem Keeps.commitNow (h : Keeps s t) {d : Draft} {flags : Nat} : Keeps s (t.commitNow d flags).2 :=
  h.dropDraft.switchEpoch.quarCommit

theorem Keeps.useDraft (h : Keeps s t) {d : Draft} : Keeps s (t.useDraft d) := h.edit

theorem Keeps.commitWait (h : Keeps s t) {c : Ctx} {d : Draft} {base flags : Nat} : Keeps s (t.commitWait c d base flags).2 :=
  h.pend.edit

theorem Keeps.bodyCommit (h : Keeps s t) {a : Ctx} : Keeps s (bodyCommit a t).2 := by
  unfold Machine.bodyCommit
  dsimp only
  split
  · exact h.answer
  · refine Keeps.iteOn Prod.snd h.useDraft.answer ?_
    split
    · exact h.useDraft.answer
    · exact Keeps.iteOn Prod.snd h.useDraft.answer (Keeps.iteOn Prod.snd h.useDraft.commitNow.answer h.useDraft.commitWait)

theorem Keeps.popCommit (h : Keeps s t) : Keeps s t.popCommit := h.edit

theorem Keeps.commitTurn (h : Keeps s t) {p : PendCommit} : Keeps s (t.commitTurn p) := by
  unfold State.commitTurn
  dsimp only
  split
  · exact h.finishTicket
  · split
    · exact h.finishTicket
    · exact h.commitNow.finishTicket

theorem Keeps.execEpochSwitch (h : Keeps s t) : KeptBy s (execEpochSwitch t) := by
  unfold Machine.execEpochSwitch
  refine .next ?_
  split
  · exact h
  · exact h.ite h.popCommit.commitTurn

theorem Keeps.execOldEpochRelease (h : Keeps s t) : KeptBy s (execOldEpochRelease t) := .next (h.ite h.timeTo.edit)

/-! ### Operations of Common -/

theorem Keeps.bodyGet (h : Keeps s t) {a : Ctx} : Keeps s (bodyGet a t).2 := by
  unfold Machine.bodyGet
  dsimp only
  split
  · exact h.answer
  · split
    · exact h.answer
    · exact h.answer

theorem Keeps.bodySet (h : Keeps s t) {a : Ctx} : Keeps s (bodySet a t).2 := by
  unfold Machine.bodySet
  dsimp only
  split
  · exact h.answer
  · refine Keeps.iteOn Prod.snd h.busyLock ?_
    split
    · exact h.answer
    · exact h.stage

theorem Keeps.bodyList (h : Keeps s t) {a : Ctx} : Keeps s (bodyList a t).2 := by
  unfold Machine.bodyList
  dsimp only
  split
  · exact h.answer
  · exact Keeps.iteOn Prod.snd h.answer h.answer

theorem Keeps.bodyStats (h : Keeps s t) {a : Ctx} : Keeps s (bodyStats a t).2 := by
  unfold Machine.bodyStats
  refine Keeps.iteOn Prod.snd h.answer (Keeps.iteOn Prod.snd h.answer ?_)
  split
  · exact h.answer
  · exact h.answer

theorem Keeps.clearAccounts (h : Keeps s t) {i : Nat} : Keeps s (t.clearAccounts i) := h.setSpan

theorem Keeps.bodyClearStats (h : Keeps s t) {c : Ctx} : Keeps s (bodyClearStats c t).2 := by
  have hcw : Keeps s { t with brim := { t.brim with cwCtrs := [] } } := h.setCwCtrs fun _ => List.forall_mem_nil _
  unfold Machine.bodyClearStats
  refine Keeps.iteOn Prod.snd h.setAssoc.answer (Keeps.iteOn Prod.snd hcw.answer ?_)
  split
  · exact (h.clearCtrs.clearAccounts.ite h.clearCtrs).answer
  · exact h.answer

theorem Keeps.execGet (h : Keeps s t) {cls : Byte} {q : Req} : KeptBy s (execGet cls q t) :=
  .next (h.request fun _ _ hu => hu.bodyGet)

theorem Keeps.execSet (h : Keeps s t) {cls : Byte} {q : Req} : KeptBy s (execSet cls q t) :=
  .next (h.request fun _ _ hu => hu.bodySet)

theorem Keeps.execList (h : Keeps s t) {cls : Byte} {q : Req} : KeptBy s (execList cls q t) :=
  .next (h.request fun _ _ hu => hu.bodyList)

theorem Keeps.execStats (h : Keeps s t) {cls : Byte} {q : Req} : KeptBy s (execStats cls q t) :=
  .next (h.request fun _ _ hu => hu.bodyStats)

theorem Keeps.execClearStats (h : Keeps s t) {cls : Byte} {q : Req} : KeptBy s (execClearStats cls q t) :=
  .next (h.request fun _ _ hu => hu.bodyClearStats)

/-! ### Operations of Image -/

theorem Keeps.writeSlot (h : Keeps s t) {t' slot gen : Nat} {img : List Byte} : Keeps s (t.writeSlot t' slot gen img) :=
  h.writeFlash

theorem Keeps.bankWrite (h : Keeps s t) {b off : Nat} {d : List Byte} : Keeps s (t.bankWrite b off d) := h.writeBanks

/-! ### Operations of CmdDeck -/

theorem Keeps.bodyIdentify (h : Keeps s t) {a : Ctx} : Keeps s (bodyIdentify a t).2 := h.answer

theorem Keeps.resetConfigStart (h : Keeps s t) {client num : Nat} : Keeps s (t.resetConfigStart client num) := by
  unfold State.resetConfigStart
  exact (((((h.edit.foldl fun _ _ hu => hu.wake).foldl fun _ _ hu => hu.abortTicket).foldl fun _ _ hu =>
      hu.canForce).foldl fun _ _ hu => hu.linForce).foldl fun _ _ hu => hu.portForce).startFlush

theorem Keeps.bodyReset (h : Keeps s t) {a : Ctx} : Keeps s (bodyReset a t).2 := by
  unfold Machine.bodyReset
  dsimp only
  exact Keeps.iteOn Prod.snd h.answer (Keeps.iteOn Prod.snd h.edit.answer h.pend.resetConfigStart)

theorem Keeps.bodyClientSet (h : Keeps s t) {a : Ctx} : Keeps s (bodyClientSet a t).2 :=
  Keeps.iteOn Prod.snd h.answer (Keeps.iteOn Prod.snd h.answer (Keeps.iteOn Prod.snd h.answer
      (Keeps.iteOn Prod.snd h.busy h.stage)))

theorem Keeps.bodyTicketStatus (h : Keeps s t) {a : Ctx} : Keeps s (bodyTicketStatus a t).2 := by
  unfold Machine.bodyTicketStatus
  dsimp only
  split
  · exact h.answer
  · split
    · exact h
    · exact h.freeTicket

theorem Keeps.bodyTicketAbort (h : Keeps s t) {a : Ctx} : Keeps s (bodyTicketAbort a t).2 := by
  unfold Machine.bodyTicketAbort
  dsimp only
  split
  · exact h.answer
  · exact Keeps.iteOn Prod.snd h.answer h.abortTicket.answer

theorem Keeps.setTransfer (h : Keeps s t) {client cmd : Nat} {t' : Option Transfer} : Keeps s (t.setTransfer client cmd t') :=
  h.edit

theorem Keeps.pieceStand (h : Keeps s t) {client cmd : Nat} {p : Piece} : Keeps s (t.pieceStand client cmd p) :=
  h.setTransfer

theorem Keeps.pieceNote (h : Keeps s t) {c : Ctx} {p : Piece} : Keeps s (t.pieceNote c p) := h.pieceStand

theorem Keeps.fwLoaded (h : Keeps s t) {n : Nat} : Keeps s (t.fwLoaded n).2 := Keeps.iteOn Prod.snd h.edit h.edit

theorem Keeps.bodyFwLoad (h : Keeps s t) {a : Ctx} : Keeps s (bodyFwLoad a t).2 := by
  unfold Machine.bodyFwLoad
  dsimp only
  split
  · exact h.answer
  · refine Keeps.iteOn Prod.snd h.answer (Keeps.iteOn Prod.snd h.busyLock (Keeps.iteOn Prod.snd ?_
      (Keeps.iteOn Prod.snd h.answer h.pend)))
    split
    · exact h.answer
    · exact Keeps.iteOn Prod.snd h.pieceNote.bankWrite.edit.answer h.pieceNote.bankWrite.edit.fwLoaded.answer

theorem Keeps.ticketInput (h : Keeps s t) {t' : Ticket} : Keeps s (t.ticketInput t').2 := Keeps.iteOn Prod.snd h h.hostRead

theorem Keeps.fwLoadEnd (h : Keeps s t) {t' : Ticket} : Keeps s (t.fwLoadEnd t') := by
  unfold State.fwLoadEnd
  dsimp only
  split
  · exact (h.ticketInput.snd ‹State.ticketInput .. = _›).finishTicket
  · exact (h.ticketInput.snd ‹State.ticketInput .. = _›).bankWrite.fwLoaded.finishTicket

theorem Keeps.bodyFwVerify (h : Keeps s t) {a : Ctx} : Keeps s (bodyFwVerify a t).2 :=
  Keeps.iteOn Prod.snd h.busyLock (Keeps.iteOn Prod.snd h.answer h.pend)

theorem Keeps.setVerified (h : Keeps s t) {b : Bool} : Keeps s { t with fw := { t.fw with verified := b } } := h.edit

theorem Keeps.fwVerifyEnd (h : Keeps s t) {t' : Ticket} : Keeps s (t.fwVerifyEnd t') := by
  unfold State.fwVerifyEnd
  extract_lets img st st'
  exact h.finishTicket.ite h.setVerified.finishTicket

theorem Keeps.watchdogPet (h : Keeps s t) : Keeps s t.watchdogPet := h.ite h.setF.watchdogWindow.faultFall

theorem Keeps.bodyFwSwitch (h : Keeps s t) {a : Ctx} : Keeps s (bodyFwSwitch a t).2 :=
  Keeps.iteOn Prod.snd h.answer (Keeps.iteOn Prod.snd h.answer (Keeps.iteOn Prod.snd h.busy (h.edit.foldl fun _ _ hu =>
      hu.abortTicket).watchdogPet.setF.edit))

theorem Keeps.bodyFwProgram (h : Keeps s t) {a : Ctx} : Keeps s (bodyFwProgram a t).2 :=
  Keeps.iteOn Prod.snd h.busyLock h.pend

theorem Keeps.fwProgramEnd (h : Keeps s t) {t' : Ticket} {ok : Bool} : Keeps s (t.fwProgramEnd t' ok) :=
  h.finishTicket.ite h.writeSlot.setF.finishTicket

theorem Keeps.configPiece (h : Keeps s t) {at_ : Nat} {p : Piece} : Keeps s (t.configPiece at_ p) :=
  h.writeFlash.ite h.writeFlash

theorem Keeps.configStored (h : Keeps s t) {client cmd : Nat} {p : Piece} : Keeps s (t.configStored client cmd p) :=
  h.pieceStand.configPiece

theorem Keeps.bodyConfigProgram (h : Keeps s t) {a : Ctx} : Keeps s (bodyConfigProgram a t).2 := by
  unfold Machine.bodyConfigProgram
  split
  · exact h.answer
  · refine Keeps.iteOn Prod.snd h.answer (Keeps.iteOn Prod.snd h.busyLock (Keeps.iteOn Prod.snd ?_
      (Keeps.iteOn Prod.snd h.answer h.pend)))
    split
    · exact h.answer
    · exact Keeps.iteOn Prod.snd h.pend h.configStored.answer

theorem Keeps.configPieceEnd (h : Keeps s t) {t' : Ticket} {ok : Bool} : Keeps s (t.configPieceEnd t' ok) := by
  unfold State.configPieceEnd
  dsimp only
  split
  · exact h.finishTicket
  · exact h.writeFlash.setTransfer.finishTicket.ite (h.configStored.finishTicket.ite h.configStored.writeSlot.finishTicket)

theorem Keeps.configProgramEnd (h : Keeps s t) {t' : Ticket} {ok : Bool} : Keeps s (t.configProgramEnd t' ok) := by
  unfold State.configProgramEnd
  dsimp only
  refine h.configPieceEnd.ite ?_
  split
  · exact (h.ticketInput.snd ‹State.ticketInput .. = _›).finishTicket
  · exact (h.ticketInput.snd ‹State.ticketInput .. = _›).finishTicket.ite ((h.ticketInput.snd ‹State.ticketInput .. =
      _›).finishTicket.ite (h.ticketInput.snd ‹State.ticketInput .. = _›).writeSlot.finishTicket)

theorem Keeps.bodySegWrite (h : Keeps s t) {a : Ctx} : Keeps s (bodySegWrite a t).2 :=
  Keeps.iteOn Prod.snd h.answer (Keeps.iteOn Prod.snd h.answer (Keeps.iteOn Prod.snd h.busy
      (Keeps.iteOn Prod.snd h.answer h.writeSeg.answer)))

theorem Keeps.bodySegRead (h : Keeps s t) {a : Ctx} : Keeps s (bodySegRead a t).2 :=
  Keeps.iteOn Prod.snd h.answer (Keeps.iteOn Prod.snd h.answer h.answer)

theorem Keeps.execDeckIdentify (h : Keeps s t) {q : Req} : KeptBy s (execDeckIdentify q t) :=
  .next (h.request fun _ _ hu => hu.bodyIdentify)

theorem Keeps.execDeckReset (h : Keeps s t) {q : Req} : KeptBy s (execDeckReset q t) :=
  .next (h.request fun _ _ hu => hu.bodyReset)

theorem Keeps.execDeckClientSet (h : Keeps s t) {q : Req} : KeptBy s (execDeckClientSet q t) :=
  .next (h.request fun _ _ hu => hu.bodyClientSet)

theorem Keeps.execDeckTicketStatus (h : Keeps s t) {q : Req} : KeptBy s (execDeckTicketStatus q t) :=
  .next (h.request fun _ _ hu => hu.bodyTicketStatus)

theorem Keeps.execDeckTicketAbort (h : Keeps s t) {q : Req} : KeptBy s (execDeckTicketAbort q t) :=
  .next (h.request fun _ _ hu => hu.bodyTicketAbort)

theorem Keeps.execDeckFwLoad (h : Keeps s t) {q : Req} : KeptBy s (execDeckFwLoad q t) :=
  .next (h.request fun _ _ hu => hu.bodyFwLoad)

theorem Keeps.execDeckFwVerify (h : Keeps s t) {q : Req} : KeptBy s (execDeckFwVerify q t) :=
  .next (h.request fun _ _ hu => hu.bodyFwVerify)

theorem Keeps.execDeckFwSwitch (h : Keeps s t) {q : Req} : KeptBy s (execDeckFwSwitch q t) :=
  .next (h.request fun _ _ hu => hu.bodyFwSwitch)

theorem Keeps.execDeckFwProgram (h : Keeps s t) {q : Req} : KeptBy s (execDeckFwProgram q t) :=
  .next (h.request fun _ _ hu => hu.bodyFwProgram)

theorem Keeps.execDeckConfigProgram (h : Keeps s t) {q : Req} : KeptBy s (execDeckConfigProgram q t) :=
  .next (h.request fun _ _ hu => hu.bodyConfigProgram)

theorem Keeps.execDeckSegWrite (h : Keeps s t) {q : Req} : KeptBy s (execDeckSegWrite q t) :=
  .next (h.request fun _ _ hu => hu.bodySegWrite)

theorem Keeps.execDeckSegRead (h : Keeps s t) {q : Req} : KeptBy s (execDeckSegRead q t) :=
  .next (h.request fun _ _ hu => hu.bodySegRead)

/-! ### Operations of CmdChan -/

theorem Keeps.runP (h : Keeps s t) {c : Ctx} {locks : List Nat} {work : State → Nat → State} (hwork : ∀ (u : State)
    (x : Nat), Keeps s u → Keeps s (work u x)) : Keeps s (t.runP c locks work).2 := by
  unfold State.runP
  dsimp only
  split
  · exact (hwork _ _ h.openTicket).freeTicket
  · exact (hwork _ _ h.openTicket).edit

theorem Keeps.pendHatpin (h : Keeps s t) {c : Ctx} {n : Nat} {data : List Byte} {write : Bool} :
    Keeps s (t.pendHatpin c n data write).2 := by
  unfold State.pendHatpin
  dsimp only
  exact h.pend.edit

theorem Keeps.spanBody (h : Keeps s t) {c : Ctx} {f : Nat → Resp × State} (hf : ∀ (x : Nat), Keeps s (f x).2) :
    Keeps s (t.spanBody c f).2 :=
  Keeps.iteOn Prod.snd h.answer (hf _)

theorem Keeps.bodySleepReq (h : Keeps s t) {a : Ctx} : Keeps s (bodySleepReq a t).2 :=
  h.spanBody fun _ => Keeps.iteOn Prod.snd h.answer (Keeps.iteOn Prod.snd h.answer (h.holdClear.iteThen fun hv =>
      hv.idleEnd).spanUpdate.answer)

theorem Keeps.bodyWakeReq (h : Keeps s t) {a : Ctx} : Keeps s (bodyWakeReq a t).2 :=
  h.spanBody fun _ => (h.holdSet.iteThen fun hv => hv.wake).spanUpdate.answer

theorem Keeps.bodySpanState (h : Keeps s t) {a : Ctx} : Keeps s (bodySpanState a t).2 := h.spanBody fun _ => h.answer

theorem Keeps.bodyWakeSources (h : Keeps s t) {a : Ctx} : Keeps s (bodyWakeSources a t).2 :=
  Keeps.iteOn Prod.snd h.answer h.pendHatpin

theorem Keeps.bodyStayAwakeLog (h : Keeps s t) {a : Ctx} : Keeps s (bodyStayAwakeLog a t).2 :=
  h.spanBody fun _ => Keeps.iteOn Prod.snd h.answer (Keeps.iteOn Prod.snd h.answer (Keeps.iteOn Prod.snd h.answer
      (Keeps.iteOn Prod.snd h.answer h.answer)))

theorem Keeps.bodyMemberSet (h : Keeps s t) {a : Ctx} : Keeps s (bodyMemberSet a t).2 :=
  h.spanBody fun _ => Keeps.iteOn Prod.snd h.busyLock (Keeps.iteOn Prod.snd h.answer (Keeps.iteOn Prod.snd h.answer
      (Keeps.iteOn Prod.snd h.answer h.stage)))

theorem Keeps.chanEnable (h : Keeps s t) {c : Nat} {mode : Option Nat} : Keeps s (t.chanEnable c mode) := by
  unfold State.chanEnable
  refine h.ite (Keeps.ite ?_ (h.edit.anStart.iteThen fun hu => hu.setLin.setF))
  dsimp only
  split
  · exact h.setF.setF.xcvrCommand
  · exact h.setF.setF.iteThen fun hu => hu.xcvrCommand

theorem Keeps.bodyChanEnable (h : Keeps s t) {a : Ctx} : Keeps s (bodyChanEnable a t).2 :=
  Keeps.iteOn Prod.snd h.answer (Keeps.iteOn Prod.snd h.answer (Keeps.iteOn Prod.snd h.answer
      (Keeps.iteOn Prod.snd h.answer h.chanEnable.spanUpdate.answer)))

theorem Keeps.chanDisable (h : Keeps s t) {c mode ref : Nat} : Keeps s (t.chanDisable c mode ref) :=
  (h.setPort.portDisableStep.ite h.portForce).ite (((h.setCan.setF.iteThen fun hu => hu.canDisabled).ite h.canForce).ite
      ((h.setLin.iteThen fun hu => hu.linDisabled).ite h.linForce))

theorem Keeps.bodyChanDisable (h : Keeps s t) {a : Ctx} : Keeps s (bodyChanDisable a t).2 := by
  unfold Machine.bodyChanDisable
  dsimp only
  exact Keeps.iteOn Prod.snd h.answer (Keeps.iteOn Prod.snd h.answer (h.runP fun _ _ hu => hu.chanDisable).spanUpdate)

theorem Keeps.bodyLinkState (h : Keeps s t) {a : Ctx} : Keeps s (bodyLinkState a t).2 := by
  unfold Machine.bodyLinkState
  dsimp only
  exact h.answer

theorem Keeps.bodyXcvrMode (h : Keeps s t) {fails : Bool} {a : Ctx} : Keeps s (bodyXcvrMode fails a t).2 :=
  Keeps.iteOn Prod.snd h.answer (Keeps.iteOn Prod.snd h.answer (Keeps.iteOn Prod.snd h.hatpinDown.answer h.xcvrSent.answer))

theorem Keeps.bodyWakePatternSet (h : Keeps s t) {a : Ctx} : Keeps s (bodyWakePatternSet a t).2 :=
  Keeps.iteOn Prod.snd h.answer (Keeps.iteOn Prod.snd h.answer (Keeps.iteOn Prod.snd h.answer h.stage))

theorem Keeps.bodyPauseStormClear (h : Keeps s t) {a : Ctx} : Keeps s (bodyPauseStormClear a t).2 :=
  Keeps.iteOn Prod.snd h.answer (h.foldl fun _ _ hu => hu.stormExit).answer

theorem Keeps.bodyMdio (h : Keeps s t) {write : Bool} {a : Ctx} : Keeps s (bodyMdio write a t).2 := by
  unfold Machine.bodyMdio
  dsimp only
  exact Keeps.iteOn Prod.snd h.answer (Keeps.iteOn Prod.snd h.answer (Keeps.iteOn Prod.snd (Keeps.iteOn Prod.snd
      (h.mdioStart.ite h).answer (h.mdioStart.ite h).draw.answer) (h.mdioStart.ite h).pend.setMdio))

theorem Keeps.execSpanSleepReq (h : Keeps s t) {q : Req} : KeptBy s (execSpanSleepReq q t) :=
  .next (h.request fun _ _ hu => hu.bodySleepReq)

theorem Keeps.execSpanWakeReq (h : Keeps s t) {q : Req} : KeptBy s (execSpanWakeReq q t) :=
  .next (h.request fun _ _ hu => hu.bodyWakeReq)

theorem Keeps.execSpanState (h : Keeps s t) {q : Req} : KeptBy s (execSpanState q t) :=
  .next (h.request fun _ _ hu => hu.bodySpanState)

theorem Keeps.execSpanWakeSources (h : Keeps s t) {q : Req} : KeptBy s (execSpanWakeSources q t) :=
  .next (h.request fun _ _ hu => hu.bodyWakeSources)

theorem Keeps.execSpanStayAwakeLog (h : Keeps s t) {q : Req} : KeptBy s (execSpanStayAwakeLog q t) :=
  .next (h.request fun _ _ hu => hu.bodyStayAwakeLog)

theorem Keeps.execSpanMemberSet (h : Keeps s t) {q : Req} : KeptBy s (execSpanMemberSet q t) :=
  .next (h.request fun _ _ hu => hu.bodyMemberSet)

theorem Keeps.execChanEnable (h : Keeps s t) {q : Req} : KeptBy s (execChanEnable q t) :=
  .next (h.request fun _ _ hu => hu.bodyChanEnable)

theorem Keeps.execChanDisable (h : Keeps s t) {q : Req} : KeptBy s (execChanDisable q t) :=
  .next (h.request fun _ _ hu => hu.bodyChanDisable)

theorem Keeps.execChanLinkState (h : Keeps s t) {q : Req} : KeptBy s (execChanLinkState q t) :=
  .next (h.request fun _ _ hu => hu.bodyLinkState)

theorem Keeps.execChanXcvrMode (h : Keeps s t) {fails : Bool} {q : Req} : KeptBy s (execChanXcvrMode fails q t) :=
  .next (h.request fun _ _ hu => hu.bodyXcvrMode)

theorem Keeps.execEthWakePatternSet (h : Keeps s t) {q : Req} : KeptBy s (execEthWakePatternSet q t) :=
  .next (h.request fun _ _ hu => hu.bodyWakePatternSet)

theorem Keeps.execEthPauseStormClear (h : Keeps s t) {q : Req} : KeptBy s (execEthPauseStormClear q t) :=
  .next (h.request fun _ _ hu => hu.bodyPauseStormClear)

theorem Keeps.execEthMdioRead (h : Keeps s t) {q : Req} : KeptBy s (execEthMdioRead q t) :=
  .next (h.request fun _ _ hu => hu.bodyMdio)

theorem Keeps.execEthMdioWrite (h : Keeps s t) {q : Req} : KeptBy s (execEthMdioWrite q t) :=
  .next (h.request fun _ _ hu => hu.bodyMdio)

/-! ### Operations of CmdCan -/

theorem Keeps.bodyBusOffRecover (h : Keeps s t) {a : Ctx} : Keeps s (bodyBusOffRecover a t).2 :=
  Keeps.iteOn Prod.snd h.answer (Keeps.iteOn Prod.snd h.answer h.canRecoverStart.answer)

theorem Keeps.bodyRestrictedSet (h : Keeps s t) {a : Ctx} : Keeps s (bodyRestrictedSet a t).2 :=
  Keeps.iteOn Prod.snd h.answer (Keeps.iteOn Prod.snd h.answer (Keeps.iteOn Prod.snd (Keeps.iteOn Prod.snd h.answer
      (Keeps.iteOn Prod.snd h.setCan.answer h.setF.answer)) h.setCan.setF.answer))

theorem Keeps.canMismatch (h : Keeps s t) {n : Nat} {want : Bool} : Keeps s (t.canMismatch n want) :=
  h.countStatus.iteThen fun hu => hu.txcReserve.txcWrite

theorem Keeps.bodyTxFrame (h : Keeps s t) {a : Ctx} : Keeps s (bodyTxFrame a t).2 := by
  unfold Machine.bodyTxFrame
  dsimp only
  split
  · exact h.answer
  · refine Keeps.iteOn Prod.snd h.answer (Keeps.iteOn Prod.snd h.answer (Keeps.iteOn Prod.snd h.busy
      (Keeps.iteOn Prod.snd h.canMismatch.answer (Keeps.iteOn Prod.snd (Keeps.iteOn Prod.snd
      ((h.txcReserve.ite h).countStatus.iteThen fun hu => hu.txcWrite).answer (h.txcReserve.ite h).atArm.answer) ?_))))
    split
    · exact h.busy
    · exact ((h.txcReserve.ite h).canEnqueueTx ‹State.canEnqueueTx .. = _›).answer

theorem Keeps.bodyTxAtTime (h : Keeps s t) {a : Ctx} : Keeps s (bodyTxAtTime a t).2 := by
  unfold Machine.bodyTxAtTime
  dsimp only
  split
  · exact h.answer
  · exact Keeps.iteOn Prod.snd h.answer (Keeps.iteOn Prod.snd h.answer (Keeps.iteOn Prod.snd h.answer
      (Keeps.iteOn Prod.snd h.canMismatch.answer (h.txcReserve.ite h).atArm.answer)))

theorem Keeps.bodySwakeSet (h : Keeps s t) {a : Ctx} : Keeps s (bodySwakeSet a t).2 :=
  Keeps.iteOn Prod.snd h.answer (Keeps.iteOn Prod.snd h.answer h.stage)

theorem Keeps.bodyErrorState (h : Keeps s t) {a : Ctx} : Keeps s (bodyErrorState a t).2 := h.answer

theorem Keeps.bodyScheduleSet (h : Keeps s t) {a : Ctx} : Keeps s (bodyScheduleSet a t).2 :=
  Keeps.iteOn Prod.snd h.answer (Keeps.iteOn Prod.snd h.answer (Keeps.iteOn Prod.snd h.answer
      (Keeps.iteOn Prod.snd h.answer h.stage)))

theorem Keeps.bodyScheduleSelect (h : Keeps s t) {a : Ctx} : Keeps s (bodyScheduleSelect a t).2 :=
  Keeps.iteOn Prod.snd h.answer (Keeps.iteOn Prod.snd h.answer (Keeps.iteOn Prod.snd h.answer
      (Keeps.iteOn Prod.snd h.setLin.setLin.answer (h.setLin.iteThen fun hu => hu.linStartTable).answer)))

theorem Keeps.linBody (h : Keeps s t) {c : Ctx} {f : Nat → Resp × State} (hf : ∀ (x : Nat), Keeps s (f x).2) :
    Keeps s (t.linBody c f).2 :=
  Keeps.iteOn Prod.snd h.answer (hf _)

theorem Keeps.bodyGotoSleep (h : Keeps s t) {a : Ctx} : Keeps s (bodyGotoSleep a t).2 :=
  h.linBody fun _ => Keeps.iteOn Prod.snd h.answer (Keeps.iteOn Prod.snd h.setLin.answer h.linSendSleep.answer)

theorem Keeps.bodyWakeupSend (h : Keeps s t) {a : Ctx} : Keeps s (bodyWakeupSend a t).2 :=
  h.linBody fun _ => Keeps.iteOn Prod.snd h.answer h.linPulse.answer

theorem Keeps.bodyResponseSet (h : Keeps s t) {a : Ctx} : Keeps s (bodyResponseSet a t).2 :=
  h.linBody fun _ => Keeps.iteOn Prod.snd h.answer h.stage

theorem Keeps.execCanBusOffRecover (h : Keeps s t) {q : Req} : KeptBy s (execCanBusOffRecover q t) :=
  .next (h.request fun _ _ hu => hu.bodyBusOffRecover)

theorem Keeps.execCanRestrictedSet (h : Keeps s t) {q : Req} : KeptBy s (execCanRestrictedSet q t) :=
  .next (h.request fun _ _ hu => hu.bodyRestrictedSet)

theorem Keeps.execCanTxFrame (h : Keeps s t) {q : Req} : KeptBy s (execCanTxFrame q t) :=
  .next (h.request fun _ _ hu => hu.bodyTxFrame)

theorem Keeps.execCanTxAtTime (h : Keeps s t) {q : Req} : KeptBy s (execCanTxAtTime q t) :=
  .next (h.request fun _ _ hu => hu.bodyTxAtTime)

theorem Keeps.execCanSwakeSet (h : Keeps s t) {q : Req} : KeptBy s (execCanSwakeSet q t) :=
  .next (h.request fun _ _ hu => hu.bodySwakeSet)

theorem Keeps.execCanErrorState (h : Keeps s t) {q : Req} : KeptBy s (execCanErrorState q t) :=
  .next (h.request fun _ _ hu => hu.bodyErrorState)

theorem Keeps.execLinScheduleSet (h : Keeps s t) {q : Req} : KeptBy s (execLinScheduleSet q t) :=
  .next (h.request fun _ _ hu => hu.bodyScheduleSet)

theorem Keeps.execLinScheduleSelect (h : Keeps s t) {q : Req} : KeptBy s (execLinScheduleSelect q t) :=
  .next (h.request fun _ _ hu => hu.bodyScheduleSelect)

theorem Keeps.execLinGotoSleep (h : Keeps s t) {q : Req} : KeptBy s (execLinGotoSleep q t) :=
  .next (h.request fun _ _ hu => hu.bodyGotoSleep)

theorem Keeps.execLinWakeupSend (h : Keeps s t) {q : Req} : KeptBy s (execLinWakeupSend q t) :=
  .next (h.request fun _ _ hu => hu.bodyWakeupSend)

theorem Keeps.execLinResponseSet (h : Keeps s t) {q : Req} : KeptBy s (execLinResponseSet q t) :=
  .next (h.request fun _ _ hu => hu.bodyResponseSet)

/-! ### Operations of CmdForward -/

theorem Keeps.deckBody (h : Keeps s t) {c : Ctx} {f : Unit → Resp × State} (hf : ∀ (x : Unit), Keeps s (f x).2) :
    Keeps s (t.deckBody c f).2 :=
  Keeps.iteOn Prod.snd h.answer (hf _)

theorem Keeps.bodyAddStatic (h : Keeps s t) {a : Ctx} : Keeps s (bodyAddStatic a t).2 := by
  unfold Machine.bodyAddStatic
  refine h.deckBody ?_
  intro _
  refine Keeps.iteOn Prod.snd h.busyLock (Keeps.iteOn Prod.snd h.answer ?_)
  split
  · exact h.answer
  · exact h.stage

theorem Keeps.bodyFdbDelete (h : Keeps s t) {a : Ctx} : Keeps s (bodyFdbDelete a t).2 := by
  unfold Machine.bodyFdbDelete
  refine h.deckBody ?_
  intro _
  refine Keeps.iteOn Prod.snd h.busyLock (Keeps.iteOn Prod.snd h.answer ?_)
  split
  · exact h.answer
  · exact h.stage

theorem Keeps.bodyFdbFlush (h : Keeps s t) {a : Ctx} : Keeps s (bodyFdbFlush a t).2 :=
  h.deckBody fun _ => Keeps.iteOn Prod.snd h.busyLock (Keeps.iteOn Prod.snd h.answer h.pend)

theorem Keeps.fdbFlushTo (h : Keeps s t) {t' : Ticket} {upTo : Nat} : Keeps s (t.fdbFlushTo t' upTo) := h.edit

theorem Keeps.fdbFlushEnd (h : Keeps s t) {t' : Ticket} : Keeps s (t.fdbFlushEnd t') := h.fdbFlushTo.finishTicket

theorem Keeps.bodyFdbLookup (h : Keeps s t) {a : Ctx} : Keeps s (bodyFdbLookup a t).2 := by
  unfold Machine.bodyFdbLookup
  refine h.deckBody ?_
  intro _
  refine Keeps.iteOn Prod.snd h.answer ?_
  split
  · exact h.answer
  · exact h.answer

theorem Keeps.bodyAgeingSet (h : Keeps s t) {a : Ctx} : Keeps s (bodyAgeingSet a t).2 :=
  h.deckBody fun _ => Keeps.iteOn Prod.snd h.busyLock (Keeps.iteOn Prod.snd h.answer h.stage)

theorem Keeps.bodyLearnSet (h : Keeps s t) {a : Ctx} : Keeps s (bodyLearnSet a t).2 :=
  Keeps.iteOn Prod.snd h.answer (Keeps.iteOn Prod.snd h.answer h.stage)

theorem Keeps.bodyDraftOpen (h : Keeps s t) {a : Ctx} : Keeps s (bodyDraftOpen a t).2 :=
  Keeps.iteOn Prod.snd h.answer h.edit.answer

theorem Keeps.bodyDraftDiscard (h : Keeps s t) {a : Ctx} : Keeps s (bodyDraftDiscard a t).2 := by
  unfold Machine.bodyDraftDiscard
  dsimp only
  split
  · exact h.answer
  · exact h.dropDraft.answer

theorem Keeps.bodyDraftStatus (h : Keeps s t) {a : Ctx} : Keeps s (bodyDraftStatus a t).2 := by
  unfold Machine.bodyDraftStatus
  split
  · exact h.answer
  · exact h.answer

theorem Keeps.bodyEpoch (h : Keeps s t) {a : Ctx} : Keeps s (bodyEpoch a t).2 := h.deckBody fun _ => h.answer

theorem Keeps.bodyDirectSet (h : Keeps s t) {a : Ctx} : Keeps s (bodyDirectSet a t).2 :=
  Keeps.iteOn Prod.snd h.answer (Keeps.iteOn Prod.snd h.busyLock (Keeps.iteOn Prod.snd h.answer
      (Keeps.iteOn Prod.snd h.answer (Keeps.iteOn Prod.snd h.answer h.stage))))

theorem Keeps.bodyHashSet (h : Keeps s t) {a : Ctx} : Keeps s (bodyHashSet a t).2 := by
  unfold Machine.bodyHashSet
  refine h.deckBody ?_
  intro _
  refine Keeps.iteOn Prod.snd h.busyLock (Keeps.iteOn Prod.snd h.answer (Keeps.iteOn Prod.snd h.answer
      (Keeps.iteOn Prod.snd ?_ ?_)))
  · split
    · exact h.answer
    · exact h.stage
  · split
    · exact h.answer
    · exact h.stage

theorem Keeps.bodyFallbackSet (h : Keeps s t) {a : Ctx} : Keeps s (bodyFallbackSet a t).2 :=
  Keeps.iteOn Prod.snd h.answer (Keeps.iteOn Prod.snd h.answer h.stage)

theorem Keeps.execFdbAddStatic (h : Keeps s t) {q : Req} : KeptBy s (execFdbAddStatic q t) :=
  .next (h.request fun _ _ hu => hu.bodyAddStatic)

theorem Keeps.execFdbDelete (h : Keeps s t) {q : Req} : KeptBy s (execFdbDelete q t) :=
  .next (h.request fun _ _ hu => hu.bodyFdbDelete)

theorem Keeps.execFdbFlush (h : Keeps s t) {q : Req} : KeptBy s (execFdbFlush q t) :=
  .next (h.request fun _ _ hu => hu.bodyFdbFlush)

theorem Keeps.execFdbLookup (h : Keeps s t) {q : Req} : KeptBy s (execFdbLookup q t) :=
  .next (h.request fun _ _ hu => hu.bodyFdbLookup)

theorem Keeps.execFdbAgeingSet (h : Keeps s t) {q : Req} : KeptBy s (execFdbAgeingSet q t) :=
  .next (h.request fun _ _ hu => hu.bodyAgeingSet)

theorem Keeps.execFdbLearnSet (h : Keeps s t) {q : Req} : KeptBy s (execFdbLearnSet q t) :=
  .next (h.request fun _ _ hu => hu.bodyLearnSet)

theorem Keeps.execRouteDraftOpen (h : Keeps s t) {q : Req} : KeptBy s (execRouteDraftOpen q t) :=
  .next (h.request fun _ _ hu => hu.bodyDraftOpen)

theorem Keeps.execRouteCommit (h : Keeps s t) {q : Req} : KeptBy s (execRouteCommit q t) :=
  .next (h.request fun _ _ hu => hu.bodyCommit)

theorem Keeps.execRouteDraftDiscard (h : Keeps s t) {q : Req} : KeptBy s (execRouteDraftDiscard q t) :=
  .next (h.request fun _ _ hu => hu.bodyDraftDiscard)

theorem Keeps.execRouteDraftStatus (h : Keeps s t) {q : Req} : KeptBy s (execRouteDraftStatus q t) :=
  .next (h.request fun _ _ hu => hu.bodyDraftStatus)

theorem Keeps.execRouteEpoch (h : Keeps s t) {q : Req} : KeptBy s (execRouteEpoch q t) :=
  .next (h.request fun _ _ hu => hu.bodyEpoch)

theorem Keeps.execRouteDirectSet (h : Keeps s t) {q : Req} : KeptBy s (execRouteDirectSet q t) :=
  .next (h.request fun _ _ hu => hu.bodyDirectSet)

theorem Keeps.execRouteHashSet (h : Keeps s t) {q : Req} : KeptBy s (execRouteHashSet q t) :=
  .next (h.request fun _ _ hu => hu.bodyHashSet)

theorem Keeps.execRouteFallbackSet (h : Keeps s t) {q : Req} : KeptBy s (execRouteFallbackSet q t) :=
  .next (h.request fun _ _ hu => hu.bodyFallbackSet)

/-! ### Operations of CmdSig -/

theorem Keeps.tableSet (h : Keeps s t) {c : Ctx} {typ top max pid size : Nat} {ok : Nat → Bool} :
    Keeps s (t.tableSet c typ top max pid size ok).2 :=
  Keeps.iteOn Prod.snd h.answer (Keeps.iteOn Prod.snd h.answer (Keeps.iteOn Prod.snd h.answer
      (Keeps.iteOn Prod.snd h.busyLock (Keeps.iteOn Prod.snd h.answer h.stage))))

theorem Keeps.bodyProgramLoad (h : Keeps s t) {a : Ctx} : Keeps s (bodyProgramLoad a t).2 := h.tableSet

theorem Keeps.bodyPduSet (h : Keeps s t) {a : Ctx} : Keeps s (bodyPduSet a t).2 := h.tableSet

theorem Keeps.bodySignalSet (h : Keeps s t) {a : Ctx} : Keeps s (bodySignalSet a t).2 := h.tableSet

theorem Keeps.bodySignalRead (h : Keeps s t) {a : Ctx} : Keeps s (bodySignalRead a t).2 :=
  Keeps.iteOn Prod.snd h.answer (Keeps.iteOn Prod.snd h.answer h.answer)

theorem Keeps.bodySignalInject (h : Keeps s t) {a : Ctx} : Keeps s (bodySignalInject a t).2 :=
  Keeps.iteOn Prod.snd h.answer h.setSignal.answer

theorem Keeps.bodyAdmission (h : Keeps s t) {a : Ctx} : Keeps s (bodyAdmission a t).2 := by
  unfold Machine.bodyAdmission
  dsimp only
  split
  · exact h.answer
  · exact h.draw.answer

theorem Keeps.execSigProgramLoad (h : Keeps s t) {q : Req} : KeptBy s (execSigProgramLoad q t) :=
  .next (h.request fun _ _ hu => hu.bodyProgramLoad)

theorem Keeps.execSigPduSet (h : Keeps s t) {q : Req} : KeptBy s (execSigPduSet q t) :=
  .next (h.request fun _ _ hu => hu.bodyPduSet)

theorem Keeps.execSigSignalSet (h : Keeps s t) {q : Req} : KeptBy s (execSigSignalSet q t) :=
  .next (h.request fun _ _ hu => hu.bodySignalSet)

theorem Keeps.execSigSignalRead (h : Keeps s t) {q : Req} : KeptBy s (execSigSignalRead q t) :=
  .next (h.request fun _ _ hu => hu.bodySignalRead)

theorem Keeps.execSigSignalInject (h : Keeps s t) {q : Req} : KeptBy s (execSigSignalInject q t) :=
  .next (h.request fun _ _ hu => hu.bodySignalInject)

theorem Keeps.execSigAdmission (h : Keeps s t) {q : Req} : KeptBy s (execSigAdmission q t) :=
  .next (h.request fun _ _ hu => hu.bodyAdmission)

/-! ### Operations of CmdQos -/

theorem Keeps.gateListSet (h : Keeps s t) {c : Ctx} {p : List Byte} : Keeps s (t.gateListSet c p).2 :=
  Keeps.iteOn Prod.snd h.answer (Keeps.iteOn Prod.snd h.busyLock (Keeps.iteOn Prod.snd h.answer
      (Keeps.iteOn Prod.snd h.answer (Keeps.iteOn Prod.snd h.answer h.stage))))

theorem Keeps.bodyGateListSet (h : Keeps s t) {a : Ctx} : Keeps s (bodyGateListSet a t).2 := by
  unfold Machine.bodyGateListSet
  split
  · exact h.gateListSet
  · refine Keeps.iteOn Prod.snd h.answer ?_
    split
    · exact (h.bulkRead.snd ‹State.bulkRead .. = _›).answer
    · split
      · exact (h.bulkRead.snd ‹State.bulkRead .. = _›).answer
      · exact Keeps.iteOn Prod.snd (h.bulkRead.snd ‹State.bulkRead .. = _›).answer
          (h.bulkRead.snd ‹State.bulkRead .. = _›).gateListSet

theorem Keeps.bodyGateState (h : Keeps s t) {a : Ctx} : Keeps s (bodyGateState a t).2 := by
  unfold Machine.bodyGateState
  dsimp only
  exact Keeps.iteOn Prod.snd h.answer (Keeps.iteOn Prod.snd h.answer h.draw.answer)

theorem Keeps.bodyShaperSet (h : Keeps s t) {a : Ctx} : Keeps s (bodyShaperSet a t).2 :=
  Keeps.iteOn Prod.snd h.answer (Keeps.iteOn Prod.snd h.answer h.stage)

theorem Keeps.bodyMeterSet (h : Keeps s t) {a : Ctx} : Keeps s (bodyMeterSet a t).2 := h.tableSet

theorem Keeps.bodyAdmissionSet (h : Keeps s t) {a : Ctx} : Keeps s (bodyAdmissionSet a t).2 :=
  h.deckBody fun _ => Keeps.iteOn Prod.snd h.busyLock (Keeps.iteOn Prod.snd h.answer (Keeps.iteOn Prod.snd h.answer
      (Keeps.iteOn Prod.snd h.answer h.stage)))

theorem Keeps.bodyHistogramSet (h : Keeps s t) {a : Ctx} : Keeps s (bodyHistogramSet a t).2 :=
  Keeps.iteOn Prod.snd h.answer (Keeps.iteOn Prod.snd h.answer h.stage)

theorem mem_foldl_tabErase {α : Type} (key : Nat → Nat) (ks : List Nat) {t : Tab α} :
    ks.foldl (fun t i => tabErase t (key i)) t ⊆ t := by
  induction ks generalizing t with
  | nil => exact List.Subset.refl t
  | cons k ks ih => exact List.Subset.trans ih fun _ => mem_tabErase

theorem Keeps.bodyHistogramRead (h : Keeps s t) {c : Ctx} : Keeps s (bodyHistogramRead c t).2 :=
  Keeps.iteOn Prod.snd h.answer (Keeps.iteOn Prod.snd h.answer ((h.dropCtrs (mem_foldl_tabErase _ _)).ite h).answer)

theorem Keeps.bodyTimeStatus (h : Keeps s t) {a : Ctx} : Keeps s (bodyTimeStatus a t).2 := h.answer

theorem Keeps.bodyWorkingSelect (h : Keeps s t) {a : Ctx} : Keeps s (bodyWorkingSelect a t).2 :=
  Keeps.iteOn Prod.snd h.answer (Keeps.iteOn Prod.snd h.answer (Keeps.iteOn Prod.snd h.answer h.setWork.workSwitch.answer))

theorem Keeps.bodyOutputSet (h : Keeps s t) {a : Ctx} : Keeps s (bodyOutputSet a t).2 :=
  Keeps.iteOn Prod.snd h.answer (Keeps.iteOn Prod.snd h.answer h.stage)

theorem Keeps.bodyCaptureRead (h : Keeps s t) {a : Ctx} : Keeps s (bodyCaptureRead a t).2 :=
  Keeps.iteOn Prod.snd h.answer (Keeps.iteOn Prod.snd h.answer h.setCapture.answer)

theorem Keeps.execQosGateListSet (h : Keeps s t) {q : Req} : KeptBy s (execQosGateListSet q t) :=
  .next (h.request fun _ _ hu => hu.bodyGateListSet)

theorem Keeps.execQosGateState (h : Keeps s t) {q : Req} : KeptBy s (execQosGateState q t) :=
  .next (h.request fun _ _ hu => hu.bodyGateState)

theorem Keeps.execQosShaperSet (h : Keeps s t) {q : Req} : KeptBy s (execQosShaperSet q t) :=
  .next (h.request fun _ _ hu => hu.bodyShaperSet)

theorem Keeps.execQosMeterSet (h : Keeps s t) {q : Req} : KeptBy s (execQosMeterSet q t) :=
  .next (h.request fun _ _ hu => hu.bodyMeterSet)

theorem Keeps.execQosAdmissionSet (h : Keeps s t) {q : Req} : KeptBy s (execQosAdmissionSet q t) :=
  .next (h.request fun _ _ hu => hu.bodyAdmissionSet)

theorem Keeps.execQosHistogramSet (h : Keeps s t) {q : Req} : KeptBy s (execQosHistogramSet q t) :=
  .next (h.request fun _ _ hu => hu.bodyHistogramSet)

theorem Keeps.execQosHistogramRead (h : Keeps s t) {q : Req} : KeptBy s (execQosHistogramRead q t) :=
  .next (h.request fun _ _ hu => hu.bodyHistogramRead)

theorem Keeps.execTimeDomainSet (h : Keeps s t) {q : Req} : KeptBy s (execTimeDomainSet q t) :=
  .next (h.request fun _ _ hu => hu.bodySet)

theorem Keeps.execTimeStatus (h : Keeps s t) {q : Req} : KeptBy s (execTimeStatus q t) :=
  .next (h.request fun _ _ hu => hu.bodyTimeStatus)

theorem Keeps.execTimeWorkingSelect (h : Keeps s t) {q : Req} : KeptBy s (execTimeWorkingSelect q t) :=
  .next (h.request fun _ _ hu => hu.bodyWorkingSelect)

theorem Keeps.execTimeOutputSet (h : Keeps s t) {q : Req} : KeptBy s (execTimeOutputSet q t) :=
  .next (h.request fun _ _ hu => hu.bodyOutputSet)

theorem Keeps.execTimeCaptureRead (h : Keeps s t) {q : Req} : KeptBy s (execTimeCaptureRead q t) :=
  .next (h.request fun _ _ hu => hu.bodyCaptureRead)

/-! ### Operations of CmdSec -/

theorem Keeps.putKey (h : Keeps s t) {p : List Byte} {k : Nat} {key : List Byte} : Keeps s (t.putKey p k key) :=
  h.setSlot.edit.iteThen fun hu => hu.edit

theorem Keeps.bodyKeyInstall (h : Keeps s t) {fails : Bool} {a : Ctx} : Keeps s (bodyKeyInstall fails a t).2 := by
  unfold Machine.bodyKeyInstall
  refine Keeps.iteOn Prod.snd h.answer (Keeps.iteOn Prod.snd h.answer (Keeps.iteOn Prod.snd h.answer
      (Keeps.iteOn Prod.snd h.answer (Keeps.iteOn Prod.snd h.answer (Keeps.iteOn Prod.snd h.answer ?_)))))
  split
  · exact h.answer
  · exact Keeps.iteOn Prod.snd h.answer (Keeps.iteOn Prod.snd h.hatpinDown.answer h.putKey.answer)

theorem Keeps.saRetire (h : Keeps s t) {p i : Nat} : Keeps s (t.saRetire p i) :=
  ((h.setAssoc.iteThen fun hu => hu.setF).iteThen fun hu => hu.edit).syncMacsec

theorem Keeps.abortOn (h : Keeps s t) {k : Nat} : Keeps s (t.abortOn k) := h.foldl fun _ _ hu => hu.abortJob

theorem Keeps.eraseKey (h : Keeps s t) {k : Nat} {persist : Bool} : Keeps s (t.eraseKey k persist) :=
  ((h.edit.ite h).foldl fun _ _ hu => hu.saRetire).eraseSlot

theorem Keeps.bodyKeyErase (h : Keeps s t) {fails : Bool} {a : Ctx} : Keeps s (bodyKeyErase fails a t).2 :=
  Keeps.iteOn Prod.snd h.answer (Keeps.iteOn Prod.snd h.answer (Keeps.iteOn Prod.snd h.answer (Keeps.iteOn Prod.snd h.answer
      (Keeps.iteOn Prod.snd h.abortOn.hatpinDown.answer h.abortOn.eraseKey.answer))))

theorem Keeps.putAssoc (h : Keeps s t) {n i : Nat} {a : SecAssoc} : Keeps s (t.putAssoc n i a) :=
  (h.setAssoc.iteThen fun hu => hu.edit).syncMacsec

theorem Keeps.bodySaInstall (h : Keeps s t) {a : Ctx} : Keeps s (bodySaInstall a t).2 :=
  Keeps.iteOn Prod.snd h.answer (Keeps.iteOn Prod.snd h.answer (Keeps.iteOn Prod.snd h.answer (Keeps.iteOn Prod.snd h.answer
      (Keeps.iteOn Prod.snd h.answer h.putAssoc.answer))))

theorem Keeps.bodySaRetire (h : Keeps s t) {a : Ctx} : Keeps s (bodySaRetire a t).2 :=
  Keeps.iteOn Prod.snd h.answer (Keeps.iteOn Prod.snd h.answer h.saRetire.answer)

theorem Keeps.queueJob (h : Keeps s t) {j : HbxJob} {ref : Nat} : Keeps s (t.queueJob j ref) :=
  h.edit.iteThen fun hu => hu.abortJob

theorem Keeps.bodyJobSubmit (h : Keeps s t) {a : Ctx} : Keeps s (bodyJobSubmit a t).2 := by
  unfold Machine.bodyJobSubmit
  dsimp only
  exact Keeps.iteOn Prod.snd h.answer (Keeps.iteOn Prod.snd h.answer (Keeps.iteOn Prod.snd h.answer
      (Keeps.iteOn Prod.snd h.answer (Keeps.iteOn Prod.snd h.answer (Keeps.iteOn Prod.snd (h.foldl fun _ _ hu =>
      hu.abortJob).dropCtx.zeroOuts.answer (h.runP fun _ _ hu => hu.queueJob))))))

theorem Keeps.bodyJobAbort (h : Keeps s t) {a : Ctx} : Keeps s (bodyJobAbort a t).2 := by
  unfold Machine.bodyJobAbort
  split
  · exact h.answer
  · exact Keeps.iteOn Prod.snd h.answer (Keeps.iteOn Prod.snd h.answer h.abortTicket.answer)

theorem Keeps.bodyLifecycle (h : Keeps s t) {a : Ctx} : Keeps s (bodyLifecycle a t).2 := h.answer

theorem Keeps.takeChallenge (h : Keeps s t) : Keeps s t.takeChallenge.2 := by
  unfold State.takeChallenge
  dsimp only
  split
  · exact h.edit
  · exact h.edit

theorem Keeps.bodyLifecycleAdvance (h : Keeps s t) {key : Nat} {a : Ctx} : Keeps s (bodyLifecycleAdvance key a t).2 := by
  unfold Machine.bodyLifecycleAdvance
  refine Keeps.iteOn Prod.snd h.answer (Keeps.iteOn Prod.snd h.answer (Keeps.iteOn Prod.snd h.answer ?_))
  split
  · split
    · exact (h.takeChallenge.snd ‹State.takeChallenge .. = _›).answer
    · exact Keeps.iteOn Prod.snd (h.takeChallenge.snd ‹State.takeChallenge .. = _›).abortJobs.pend
        (h.takeChallenge.snd ‹State.takeChallenge .. = _›).answer
  · exact h.abortJobs.pend

theorem Keeps.withFuses (h : Keeps s t) (f : Fuses) : Keeps { s with fuses := f } { t with fuses := f } :=
  ⟨h.pending, h.absentVariant, h.freeCount, rfl, h.canonical, h.countersInRange⟩

/-- The end of SEC.LIFECYCLE_ADVANCE burns fuses, and keeps all else; where the burn fails, the fuses too (R410). -/
theorem Keeps.lifecycleEnd (h : Keeps s t) {k : Ticket} {ok copies : Bool} : Keeps s (t.lifecycleEnd k ok copies) ∨
    Keeps { s with fuses := t.lifecycleFuses k.payload } (t.lifecycleEnd k ok copies) := by
  have hf := (h.withFuses (t.lifecycleFuses k.payload)).syncHbx
  cases ok with
  | false => exact .inl h.finishTicket
  | true =>
    refine .inr (Keeps.edit (Keeps.finishTicket ?_))
    split
    · exact hf
    · exact (hf.zeroiseRam.ite hf.zeroiseRam.invalidateCopies).hbxEvent

theorem Keeps.bodyDebugUnlock (h : Keeps s t) {phase1 : Bool} {a : Ctx} : Keeps s (bodyDebugUnlock phase1 a t).2 := by
  unfold Machine.bodyDebugUnlock
  dsimp only
  refine Keeps.iteOn Prod.snd (Keeps.iteOn Prod.snd h.answer (Keeps.iteOn Prod.snd h.answer h.drbgDraw.edit.answer))
      (Keeps.iteOn Prod.snd h.answer (Keeps.iteOn Prod.snd h.answer ?_))
  split
  · exact h.answer
  · refine Keeps.iteOn Prod.snd h.busy ?_
    split
    · exact (h.takeChallenge.snd ‹State.takeChallenge .. = _›).answer
    · exact Keeps.iteOn Prod.snd (h.takeChallenge.snd ‹State.takeChallenge .. = _›).answer (Keeps.iteOn Prod.snd
        (h.takeChallenge.snd ‹State.takeChallenge .. = _›).debugOpen.answer (h.takeChallenge.snd ‹State.takeChallenge .. =
        _›).pend.setF.zeroiseRam.edit)

theorem Keeps.bodySelftest (h : Keeps s t) {a : Ctx} : Keeps s (bodySelftest a t).2 := by
  unfold Machine.bodySelftest
  dsimp only
  exact Keeps.iteOn Prod.snd h.busy h.pend.setF

theorem Keeps.selftestEnd (h : Keeps s t) {t' : Ticket} {ok : Bool} : Keeps s (t.selftestEnd t' ok) := by
  unfold State.selftestEnd
  dsimp only
  exact h.setF.finishTicket.ite h.setF.draw.finishTicket.hbxEvent.hbxLock

theorem Keeps.zeroiseStart (h : Keeps s t) {client scope ref : Nat} : Keeps s (t.zeroiseStart client scope ref) :=
  h.setF.zeroiseRam.edit.iteThen fun hu => hu.zeroiseEnd

theorem Keeps.bodyZeroise (h : Keeps s t) {a : Ctx} : Keeps s (bodyZeroise a t).2 :=
  Keeps.iteOn Prod.snd h.answer (Keeps.iteOn Prod.snd h.busy (h.runP fun _ _ hu => hu.zeroiseStart))

theorem Keeps.bodyFreshnessSet (h : Keeps s t) {a : Ctx} : Keeps s (bodyFreshnessSet a t).2 :=
  Keeps.iteOn Prod.snd h.answer (Keeps.iteOn Prod.snd h.answer (Keeps.iteOn Prod.snd h.answer h.setFresh.answer))

theorem Keeps.execSecKeyInstall (h : Keeps s t) {fails : Bool} {q : Req} : KeptBy s (execSecKeyInstall fails q t) :=
  .next (h.request fun _ _ hu => hu.bodyKeyInstall)

theorem Keeps.execSecKeyErase (h : Keeps s t) {fails : Bool} {q : Req} : KeptBy s (execSecKeyErase fails q t) :=
  .next (h.request fun _ _ hu => hu.bodyKeyErase)

theorem Keeps.execSecSaInstall (h : Keeps s t) {q : Req} : KeptBy s (execSecSaInstall q t) :=
  .next (h.request fun _ _ hu => hu.bodySaInstall)

theorem Keeps.execSecSaRetire (h : Keeps s t) {q : Req} : KeptBy s (execSecSaRetire q t) :=
  .next (h.request fun _ _ hu => hu.bodySaRetire)

theorem Keeps.execSecJobSubmit (h : Keeps s t) {q : Req} : KeptBy s (execSecJobSubmit q t) :=
  .next (h.request fun _ _ hu => hu.bodyJobSubmit)

theorem Keeps.execSecJobAbort (h : Keeps s t) {q : Req} : KeptBy s (execSecJobAbort q t) :=
  .next (h.request fun _ _ hu => hu.bodyJobAbort)

theorem Keeps.execSecLifecycle (h : Keeps s t) {q : Req} : KeptBy s (execSecLifecycle q t) :=
  .next (h.request fun _ _ hu => hu.bodyLifecycle)

theorem Keeps.execSecLifecycleAdvance (h : Keeps s t) {key : Fin 4} {q : Req} : KeptBy s (execSecLifecycleAdvance key q t) :=
  .next (h.request fun _ _ hu => hu.bodyLifecycleAdvance)

theorem Keeps.execSecSelftest (h : Keeps s t) {q : Req} : KeptBy s (execSecSelftest q t) :=
  .next (h.request fun _ _ hu => hu.bodySelftest)

theorem Keeps.execSecZeroise (h : Keeps s t) {q : Req} : KeptBy s (execSecZeroise q t) :=
  .next (h.request fun _ _ hu => hu.bodyZeroise)

theorem Keeps.execSecDebugUnlock (h : Keeps s t) {phase1 : Bool} {q : Req} : KeptBy s (execSecDebugUnlock phase1 q t) :=
  .next (h.request fun _ _ hu => hu.bodyDebugUnlock)

theorem Keeps.execSecFreshnessSet (h : Keeps s t) {q : Req} : KeptBy s (execSecFreshnessSet q t) :=
  .next (h.request fun _ _ hu => hu.bodyFreshnessSet)

/-! ### Operations of CmdEvt -/

theorem Keeps.evqBind (h : Keeps s t) {q target esc prio vector timeout : Nat} :
    Keeps s (t.evqBind q target esc prio vector timeout) :=
  (h.setF.setF.setF.setEvq.setF.setEvq.evqEscalate.ite h.setF.setF.setF.setEvq.setF.setEvq.evqSignal).ite
      h.setF.setF.setF.setEvq.syncIrq

theorem Keeps.bodyEvtBind (h : Keeps s t) {a : Ctx} : Keeps s (bodyEvtBind a t).2 :=
  Keeps.iteOn Prod.snd h.answer (Keeps.iteOn Prod.snd h.answer h.evqBind.answer)

theorem Keeps.coalesce (h : Keeps s t) {q n t' : Nat} : Keeps s (t.coalesce q n t') := h.setEvq

theorem Keeps.bodyCoalesceSet (h : Keeps s t) {a : Ctx} : Keeps s (bodyCoalesceSet a t).2 :=
  Keeps.iteOn Prod.snd h.answer (Keeps.iteOn Prod.snd h.answer (Keeps.iteOn Prod.snd h.answer h.coalesce.answer))

theorem Keeps.sourceRoute (h : Keeps s t) {n q : Nat} : Keeps s (t.sourceRoute n q) :=
  h.ite (h.edit.setRoute.ite h.edit.setRoute.evqRefill)

theorem Keeps.bodySourceEnable (h : Keeps s t) {a : Ctx} : Keeps s (bodySourceEnable a t).2 :=
  Keeps.iteOn Prod.snd h.answer (Keeps.iteOn Prod.snd h.answer (Keeps.iteOn Prod.snd h.answer (Keeps.iteOn Prod.snd h.answer
      (Keeps.iteOn Prod.snd h.answer h.sourceRoute.answer))))

theorem Keeps.bodyQueueState (h : Keeps s t) {a : Ctx} : Keeps s (bodyQueueState a t).2 :=
  Keeps.iteOn Prod.snd h.answer h.answer

theorem Keeps.injectLevel (h : Keeps s t) {src detail q : Nat} : Keeps s (t.injectLevel src detail q) :=
  h.evqDrop.ite h.evqWrite

theorem Keeps.bodyEvtInject (h : Keeps s t) {a : Ctx} : Keeps s (bodyEvtInject a t).2 := by
  unfold Machine.bodyEvtInject
  refine Keeps.iteOn Prod.snd h.answer ?_
  split
  · exact h.answer
  · exact h.occur.answer
  · exact h.payload.answer
  · exact (h.foldl fun _ _ hu => hu.injectLevel).answer

theorem Keeps.stageWrite (h : Keeps s t) {off : Nat} {d : List Byte} : Keeps s (t.stageWrite off d) := h.edit

theorem Keeps.stageStart (h : Keeps s t) {c : Ctx} {len load : Nat} : Keeps s (t.stageStart c len load).2 := by
  unfold State.stageStart
  dsimp only
  exact h.pend.edit

theorem Keeps.stageReady (h : Keeps s t) {c : Ctx} {f : State → Resp × State} (hf : ∀ (u : State), Keeps s u → Keeps s
    (f u).2) : Keeps s (t.stageReady c f).2 :=
  Keeps.iteOn Prod.snd h.answer (Keeps.iteOn Prod.snd h.answer (Keeps.iteOn Prod.snd h.busy (Keeps.iteOn Prod.snd h.busyLock
      (hf _ h))))

theorem Keeps.bodyStageImage (h : Keeps s t) {a : Ctx} : Keeps s (bodyStageImage a t).2 := by
  unfold Machine.bodyStageImage
  refine h.storeBody ?_
  intro _ hu
  refine Keeps.iteOn Prod.snd ?_ (Keeps.iteOn Prod.snd hu.answer (Keeps.iteOn Prod.snd hu.answer (Keeps.iteOn Prod.snd
      (hu.stageReady fun _ hv => Keeps.iteOn Prod.snd hv.answer hv.stageWrite.stageStart) ?_)))
  · split
    · exact hu.answer
    · refine Keeps.iteOn Prod.snd hu.answer (hu.stageReady ?_)
      intro _ hv
      split
      · exact hv.answer
      · exact Keeps.iteOn Prod.snd hv.pieceNote.stageWrite.stageStart hv.pieceNote.stageWrite.answer
  · split
    · exact hu.answer
    · refine Keeps.iteOn Prod.snd hu.answer (hu.stageReady ?_)
      intro _ hv
      refine Keeps.iteOn Prod.snd hv.answer ?_
      split
      · exact (hv.bulkRead.snd ‹State.bulkRead .. = _›).answer
      · exact (hv.bulkRead.snd ‹State.bulkRead .. = _›).stageWrite.stageStart

theorem Keeps.stageEnd (h : Keeps s t) {t' : Ticket} {e : Ext} : Keeps s (t.stageEnd t' e) := by
  unfold State.stageEnd
  dsimp only
  exact h.edit.finishTicket.ite (h.edit.finishTicket.ite (h.edit.finishTicket.ite (h.edit.finishTicket.ite
      (h.edit.bankWrite.fwLoaded.finishTicket.ite (h.edit.finishTicket.ite h.edit.writeSlot.finishTicket)))))

theorem Keeps.execEvtBind (h : Keeps s t) {q : Req} : KeptBy s (execEvtBind q t) :=
  .next (h.request fun _ _ hu => hu.bodyEvtBind)

theorem Keeps.execEvtCoalesceSet (h : Keeps s t) {q : Req} : KeptBy s (execEvtCoalesceSet q t) :=
  .next (h.request fun _ _ hu => hu.bodyCoalesceSet)

theorem Keeps.execEvtSourceEnable (h : Keeps s t) {q : Req} : KeptBy s (execEvtSourceEnable q t) :=
  .next (h.request fun _ _ hu => hu.bodySourceEnable)

theorem Keeps.execEvtQueueState (h : Keeps s t) {q : Req} : KeptBy s (execEvtQueueState q t) :=
  .next (h.request fun _ _ hu => hu.bodyQueueState)

theorem Keeps.execEvtInject (h : Keeps s t) {q : Req} : KeptBy s (execEvtInject q t) :=
  .next (h.request fun _ _ hu => hu.bodyEvtInject)

theorem Keeps.execStoreAttach (h : Keeps s t) {q : Req} : KeptBy s (execStoreAttach q t) :=
  .next (h.request fun _ _ hu => hu.bodyStoreAttach)

theorem Keeps.execStoreDetach (h : Keeps s t) {q : Req} : KeptBy s (execStoreDetach q t) :=
  .next (h.request fun _ _ hu => hu.bodyStoreDetach)

theorem Keeps.execStoreRecorderStart (h : Keeps s t) {q : Req} : KeptBy s (execStoreRecorderStart q t) :=
  .next (h.request fun _ _ hu => hu.bodyRecorderStart)

theorem Keeps.execStoreRecorderStop (h : Keeps s t) {q : Req} : KeptBy s (execStoreRecorderStop q t) :=
  .next (h.request fun _ _ hu => hu.bodyRecorderStop)

theorem Keeps.execStoreRead (h : Keeps s t) {q : Req} : KeptBy s (execStoreRead q t) :=
  .next (h.request fun _ _ hu => hu.bodyStoreRead)

theorem Keeps.execStoreWrite (h : Keeps s t) {q : Req} : KeptBy s (execStoreWrite q t) :=
  .next (h.request fun _ _ hu => hu.bodyStoreWrite)

theorem Keeps.execStoreStageImage (h : Keeps s t) {q : Req} : KeptBy s (execStoreStageImage q t) :=
  .next (h.request fun _ _ hu => hu.bodyStageImage)

theorem Keeps.execStoreHealth (h : Keeps s t) {q : Req} : KeptBy s (execStoreHealth q t) :=
  .next (h.request fun _ _ hu => hu.bodyStoreHealth)

theorem Keeps.execCascTopology (h : Keeps s t) {q : Req} : KeptBy s (execCascTopology q t) :=
  .next (h.request fun _ _ hu => hu.bodyCascTopology)

theorem Keeps.execCascStandbyLinkSet (h : Keeps s t) {q : Req} : KeptBy s (execCascStandbyLinkSet q t) :=
  .next (h.request fun _ _ hu => hu.bodyStandbyLinkSet)

theorem Keeps.execCascHeal (h : Keeps s t) {q : Req} : KeptBy s (execCascHeal q t) :=
  .next (h.request fun _ _ hu => hu.bodyCascHeal)

theorem Keeps.execCascSplitLog (h : Keeps s t) {q : Req} : KeptBy s (execCascSplitLog q t) :=
  .next (h.request fun _ _ hu => hu.bodySplitLog)

/-! ### Operations of BarWrite -/

theorem Keeps.ackWrite (h : Keeps s t) {n : Nat} : Keeps s (t.ackWrite n) := by
  unfold State.ackWrite
  dsimp only
  split
  · exact h.mbAck
  · exact h.mbAck.iteThen fun hu => hu.crownReset

theorem Keeps.mbControl (h : Keeps s t) {n w : Nat} : Keeps s (t.mbControl n w) :=
  (h.mbCancel.ite h).setF.syncMbLevel.iteThen fun hu => hu.ackWrite

theorem Keeps.mbWord (h : Keeps s t) {n tr off w : Nat} : Keeps s (t.mbWord n tr off w) :=
  h.ite (h.mbControl.ite ((h.setF.ite h).ite (h.mbDoorbell.ite (h.writeBar0.ite h))))

theorem Keeps.plainWrite (h : Keeps s t) {a w : Nat} : Keeps s (t.plainWrite a w) := by
  unfold State.plainWrite
  split
  · exact h
  · exact h.setReg

theorem Keeps.canWord (h : Keeps s t) {n a w : Nat} : Keeps s (t.canWord n a w) :=
  h.canMoveTail.ite (h.canMoveTxq.ite (h.canMoveTail.ite h.plainWrite))

theorem Keeps.evtWord (h : Keeps s t) {a w : Nat} : Keeps s (t.evtWord a w) :=
  h.evqComplete.ite (h.evqComplete.ite ((h.ite h.evqMoveRd).ite h.plainWrite))

theorem Keeps.ringWord (h : Keeps s t) {a w : Nat} : Keeps s (t.ringWord a w) := by
  unfold State.ringWord
  exact (h.plainWrite.ite h).ite (h.hrControl.ite (h.hrMoveHost.ite (h.hrMoveSeen.ite h.plainWrite)))

theorem Keeps.busWrite (h : Keeps s t) {a w : Nat} : Keeps s (t.busWrite a w) :=
  h.ite (h.mbWord.ite (h.evtWord.ite (h.ringWord.ite (h.canWord.ite (h.tsqMoveTail.ite (h.convSelect.ite
      ((h.timeSnap.ite h).ite (h.logRead.ite (h.logRead.ite h.plainWrite)))))))))

theorem Keeps.writeFailed (h : Keeps s t) {bar off len req fault : Nat} : Keeps s (t.writeFailed bar off len req fault) :=
  h.iwl

theorem Keeps.hostWriteBar0 (h : Keeps s t) {off len req w : Nat} : Keeps s (t.hostWriteBar0 off len req w) :=
  h.busWrite.ite h.iwl

theorem Keeps.hostWriteBar4 (h : Keeps s t) {off len w : Nat} : Keeps s (t.hostWriteBar4 off len w) :=
  h.msixSet.ite h

theorem memWriteAreas_wf (off : Nat) (l : List (Nat × Byte)) {m : Memory} (hm : Memory.wf m = true) :
    Memory.wf (l.foldl (fun (m : Memory) (kb : Nat × Byte) =>
      if bar2Kind (off + kb.1) = 2 then memWrite m (off + kb.1) kb.2 else m) m) = true := by
  induction l generalizing m with
  | nil => exact hm
  | cons kb l ih =>
    refine ih ?_
    dsimp only
    split
    · exact memWrite_wf _ _ hm
    · exact hm

theorem Keeps.hostWriteBar2 (h : Keeps s t) {off req : Nat} {d : List Byte} : Keeps s (t.hostWriteBar2 off req d) :=
  (h.setBar2 (memWriteAreas_wf off _)).iteThen fun hu => hu.iwl

/-! ### Operations of CmdDiag -/

theorem Keeps.tableEntry (h : Keeps s t) {t' i : Nat} : Keeps s (t.tableEntry t' i).2 := by
  unfold State.tableEntry
  split
  · exact h
  · exact h
  · exact h
  · exact h
  · exact h
  · exact h
  · exact h
  · exact h
  · exact h
  · split
    · exact h
    · exact h.draw

theorem Keeps.tableEntries (h : Keeps s t) {typ bytes i n : Nat} : Keeps s (t.tableEntries typ bytes i n).2 := by
  induction n generalizing t i with
  | zero => exact h
  | succ n ih => exact ih h.tableEntry

theorem Keeps.tableWords (h : Keeps s t) {t' i words : Nat} : Keeps s (t.tableWords t' i words).2 := by
  unfold State.tableWords
  dsimp only
  split
  · exact h
  · exact h.tableEntries

theorem Keeps.bodyDiagRead (h : Keeps s t) {a : Ctx} : Keeps s (bodyDiagRead a t).2 := by
  unfold Machine.bodyDiagRead
  dsimp only
  exact Keeps.iteOn Prod.snd h.answer (Keeps.iteOn Prod.snd (Keeps.iteOn Prod.snd h.answer h.answer)
      (Keeps.iteOn Prod.snd h.pendHatpin (Keeps.iteOn Prod.snd h.answer (Keeps.iteOn Prod.snd h.pend h.tableWords.answer))))

theorem Keeps.diagReadEnd (h : Keeps s t) {t' : Ticket} : Keeps s (t.diagReadEnd t') := by
  unfold State.diagReadEnd
  dsimp only
  exact h.tableWords.finishTicket

theorem Keeps.diagWords (h : Keeps s t) {addr n : Nat} {d : List Byte} : Keeps s (t.diagWords addr d n) := by
  induction n generalizing t addr d with
  | zero => exact h
  | succ n ih => exact h.ite (ih (h.busWrite.ite h.draw.hostWriteBar0))

theorem Keeps.bodyDiagWrite (h : Keeps s t) {a : Ctx} : Keeps s (bodyDiagWrite a t).2 :=
  Keeps.iteOn Prod.snd h.answer (Keeps.iteOn Prod.snd h.answer (Keeps.iteOn Prod.snd
      (Keeps.iteOn Prod.snd h.answer h.pendHatpin) (Keeps.iteOn Prod.snd h.answer
      (Keeps.iteOn Prod.snd h.diagWords.answer h.diagWords))))

theorem Keeps.bodyTableDump (h : Keeps s t) {a : Ctx} : Keeps s (bodyTableDump a t).2 := by
  unfold Machine.bodyTableDump
  split
  · exact h.answer
  · refine Keeps.iteOn Prod.snd h.answer ?_
    split
    · exact (h.bulkRead.snd ‹State.bulkRead .. = _›).answer
    · exact Keeps.iteOn Prod.snd (h.bulkRead.snd ‹State.bulkRead .. = _›).answer (h.bulkRead.snd ‹State.bulkRead .. = _›).pend

theorem Keeps.ticketOutput (h : Keeps s t) {t' : Ticket} {d : List Byte} : Keeps s (t.ticketOutput t' d).2 := h.bulkWrite

theorem Keeps.tableDumpEnd (h : Keeps s t) {t' : Ticket} {lost : Bool} : Keeps s (t.tableDumpEnd t' lost) := by
  unfold State.tableDumpEnd
  dsimp only
  split
  · exact (h.ticketInput.snd ‹State.ticketInput .. = _›).finishTicket
  · refine (h.ticketInput.snd ‹State.ticketInput .. = _›).finishTicket.ite ?_
    split
    · exact ((h.ticketInput.snd ‹State.ticketInput .. = _›).tableEntries.ticketOutput.snd ‹State.ticketOutput .. =
        _›).flushFailed.finishTicket.ite ((h.ticketInput.snd ‹State.ticketInput .. = _›).tableEntries.ticketOutput.snd
        ‹State.ticketOutput .. = _›).finishTicket
    · exact ((h.ticketInput.snd ‹State.ticketInput .. = _›).tableEntries.ticketOutput.snd ‹State.ticketOutput .. =
        _›).finishTicket

theorem Keeps.bodyLoopback (h : Keeps s t) {a : Ctx} : Keeps s (bodyLoopback a t).2 :=
  Keeps.iteOn Prod.snd h.answer (Keeps.iteOn Prod.snd h.answer (Keeps.iteOn Prod.snd h.answer h.pend))

theorem Keeps.loopbackEnd (h : Keeps s t) {t' : Ticket} {x : List Byte} : Keeps s (t.loopbackEnd t' x) := h.finishTicket

theorem Keeps.bodyMirrorSet (h : Keeps s t) {a : Ctx} : Keeps s (bodyMirrorSet a t).2 :=
  Keeps.iteOn Prod.snd h.answer (Keeps.iteOn Prod.snd h.answer (Keeps.iteOn Prod.snd h.answer
      (Keeps.iteOn Prod.snd h.answer h.stage)))

theorem Keeps.freeFill (h : Keeps s t) {l : List Nat} {n : Nat} : Keeps s (t.freeFill l n).2 := by
  induction n generalizing t l with
  | zero => exact h
  | succ n ih =>
    cases l with
    | nil => exact ih h.draw
    | cons x rest => exact ih h

theorem Keeps.bodyAuditStatus (h : Keeps s t) {a : Ctx} : Keeps s (bodyAuditStatus a t).2 := by
  unfold Machine.bodyAuditStatus
  dsimp only
  exact h.freeFill.freeFill.answer

theorem Keeps.bodyFaultStatus (h : Keeps s t) {a : Ctx} : Keeps s (bodyFaultStatus a t).2 := h.answer

theorem Keeps.shadowStart (h : Keeps s t) : Keeps s t.shadowStart := h.setF.edit.ite h

theorem Keeps.bodyFaultClear (h : Keeps s t) {a : Ctx} : Keeps s (bodyFaultClear a t).2 :=
  Keeps.iteOn Prod.snd h.answer (Keeps.iteOn Prod.snd h.answer (h.faultUnlatch.iteThen fun hu => hu.shadowStart).answer)

theorem Keeps.bodyReactionSet (h : Keeps s t) {a : Ctx} : Keeps s (bodyReactionSet a t).2 :=
  Keeps.iteOn Prod.snd h.answer (Keeps.iteOn Prod.snd h.answer h.stage)

theorem Keeps.injectFault (h : Keeps s t) {i : Nat} {full : Bool} {dur : Nat} : Keeps s (t.injectFault i full dur) := by
  unfold State.injectFault
  dsimp only
  exact h.draw.faultRise.iteThen fun hu => hu.edit

theorem Keeps.bodyFaultInject (h : Keeps s t) {a : Ctx} : Keeps s (bodyFaultInject a t).2 :=
  Keeps.iteOn Prod.snd h.answer (Keeps.iteOn Prod.snd h.answer (Keeps.iteOn Prod.snd h.injectFault.answer h.injectFault))

theorem Keeps.bodyFaultLogRead (h : Keeps s t) {a : Ctx} : Keeps s (bodyFaultLogRead a t).2 :=
  Keeps.iteOn Prod.snd h.answer (Keeps.iteOn Prod.snd h.answer h.pendHatpin)

theorem Keeps.bodyWatchdogSet (h : Keeps s t) {a : Ctx} : Keeps s (bodyWatchdogSet a t).2 :=
  Keeps.iteOn Prod.snd h.busyLock (Keeps.iteOn Prod.snd h.answer h.stage)

theorem Keeps.execDiagRead (h : Keeps s t) {q : Req} : KeptBy s (execDiagRead q t) :=
  .next (h.request fun _ _ hu => hu.bodyDiagRead)

theorem Keeps.execDiagWrite (h : Keeps s t) {q : Req} : KeptBy s (execDiagWrite q t) :=
  .next (h.request fun _ _ hu => hu.bodyDiagWrite)

theorem Keeps.execDiagTableDump (h : Keeps s t) {q : Req} : KeptBy s (execDiagTableDump q t) :=
  .next (h.request fun _ _ hu => hu.bodyTableDump)

theorem Keeps.execDiagLoopback (h : Keeps s t) {q : Req} : KeptBy s (execDiagLoopback q t) :=
  .next (h.request fun _ _ hu => hu.bodyLoopback)

theorem Keeps.execDiagMirrorSet (h : Keeps s t) {q : Req} : KeptBy s (execDiagMirrorSet q t) :=
  .next (h.request fun _ _ hu => hu.bodyMirrorSet)

theorem Keeps.execDiagAuditStatus (h : Keeps s t) {q : Req} : KeptBy s (execDiagAuditStatus q t) :=
  .next (h.request fun _ _ hu => hu.bodyAuditStatus)

theorem Keeps.execFaultStatus (h : Keeps s t) {q : Req} : KeptBy s (execFaultStatus q t) :=
  .next (h.request fun _ _ hu => hu.bodyFaultStatus)

theorem Keeps.execFaultClear (h : Keeps s t) {q : Req} : KeptBy s (execFaultClear q t) :=
  .next (h.request fun _ _ hu => hu.bodyFaultClear)

theorem Keeps.execFaultReactionSet (h : Keeps s t) {q : Req} : KeptBy s (execFaultReactionSet q t) :=
  .next (h.request fun _ _ hu => hu.bodyReactionSet)

theorem Keeps.execFaultInject (h : Keeps s t) {q : Req} : KeptBy s (execFaultInject q t) :=
  .next (h.request fun _ _ hu => hu.bodyFaultInject)

theorem Keeps.execFaultLogRead (h : Keeps s t) {q : Req} : KeptBy s (execFaultLogRead q t) :=
  .next (h.request fun _ _ hu => hu.bodyFaultLogRead)

theorem Keeps.execFaultWatchdogSet (h : Keeps s t) {q : Req} : KeptBy s (execFaultWatchdogSet q t) :=
  .next (h.request fun _ _ hu => hu.bodyWatchdogSet)

/-! ### Operations of Bodies -/

theorem Keeps.bodyUnknown (h : Keeps s t) {a : Ctx} : Keeps s (bodyUnknown a t).2 := h.answer

theorem Keeps.segExec (h : Keeps s t) {inner : Nat → Option Body} {c : Ctx}
    (hinner : ∀ k b, inner k = some b → ∀ c u, Keeps s u → Keeps s (b c u).2) : Keeps s (segExec inner c t).2 := by
  unfold Machine.segExec
  dsimp only
  split
  · exact h.answer
  · refine Keeps.iteOn Prod.snd h.answer (Keeps.iteOn Prod.snd h.answer ?_)
    split
    · exact h.answer
    · exact Keeps.iteOn Prod.snd h.answer (Keeps.iteOn Prod.snd h.answer (Keeps.iteOn Prod.snd h.busy (hinner _ _ ‹_› _ _ h)))

theorem Keeps.segBody (h : Keeps s t) {k : Nat} {b : Body} (e : segBody k = some b) {c : Ctx} : Keeps s (b c t).2 := by
  unfold Machine.segBody at e
  split at e <;> cases e
  · exact h.bodyFwLoad
  · exact h.bodyConfigProgram
  · exact h.bodyGateListSet
  · exact h.bodyStoreRead
  · exact h.bodyStoreWrite
  · exact h.bodyStageImage
  · exact h.bodyTableDump

theorem Keeps.bodySegExec (h : Keeps s t) {c : Ctx} : Keeps s (bodySegExec c t).2 :=
  h.segExec fun _ _ e _ _ hu => hu.segBody e

theorem Keeps.deckBodyOf (h : Keeps s t) {verb : Nat} {x : Ext} {a : Ctx} : Keeps s (Machine.deckBody verb x a t).2 := by
  unfold Machine.deckBody
  split
  · exact h.bodyIdentify
  · exact h.bodyReset
  · exact h.bodyClientSet
  · exact h.bodyTicketStatus
  · exact h.bodyTicketAbort
  · exact h.bodyFwLoad
  · exact h.bodyFwVerify
  · exact h.bodyFwSwitch
  · exact h.bodyFwProgram
  · exact h.bodyConfigProgram
  · exact h.bodySegWrite
  · exact h.bodySegExec
  · exact h.bodySegRead
  · exact h.bodyUnknown

theorem Keeps.spanBodyOf (h : Keeps s t) {verb : Nat} {x : Ext} {a : Ctx} : Keeps s (Machine.spanBody verb x a t).2 := by
  unfold Machine.spanBody
  split
  · exact h.bodySleepReq
  · exact h.bodyWakeReq
  · exact h.bodySpanState
  · exact h.bodyWakeSources
  · exact h.bodyStayAwakeLog
  · exact h.bodyMemberSet
  · exact h.bodyUnknown

theorem Keeps.chanBody (h : Keeps s t) {verb : Nat} {x : Ext} {a : Ctx} : Keeps s (chanBody verb x a t).2 := by
  unfold Machine.chanBody
  split
  · exact h.bodyChanEnable
  · exact h.bodyChanDisable
  · exact h.bodyLinkState
  · exact h.bodyXcvrMode
  · exact h.bodyUnknown

theorem Keeps.ethBody (h : Keeps s t) {verb : Nat} {x : Ext} {a : Ctx} : Keeps s (ethBody verb x a t).2 := by
  unfold Machine.ethBody
  split
  · exact h.bodyWakePatternSet
  · exact h.bodyPauseStormClear
  · exact h.bodyMdio
  · exact h.bodyMdio
  · exact h.bodyUnknown

theorem Keeps.canBody (h : Keeps s t) {verb : Nat} {x : Ext} {a : Ctx} : Keeps s (canBody verb x a t).2 := by
  unfold Machine.canBody
  split
  · exact h.bodyBusOffRecover
  · exact h.bodyRestrictedSet
  · exact h.bodyTxFrame
  · exact h.bodyTxAtTime
  · exact h.bodySwakeSet
  · exact h.bodyErrorState
  · exact h.bodyUnknown

theorem Keeps.linBodyOf (h : Keeps s t) {verb : Nat} {x : Ext} {a : Ctx} : Keeps s (Machine.linBody verb x a t).2 := by
  unfold Machine.linBody
  split
  · exact h.bodyScheduleSet
  · exact h.bodyScheduleSelect
  · exact h.bodyGotoSleep
  · exact h.bodyWakeupSend
  · exact h.bodyResponseSet
  · exact h.bodyUnknown

theorem Keeps.fdbBody (h : Keeps s t) {verb : Nat} {x : Ext} {a : Ctx} : Keeps s (fdbBody verb x a t).2 := by
  unfold Machine.fdbBody
  split
  · exact h.bodyAddStatic
  · exact h.bodyFdbDelete
  · exact h.bodyFdbFlush
  · exact h.bodyFdbLookup
  · exact h.bodyAgeingSet
  · exact h.bodyLearnSet
  · exact h.bodyUnknown

theorem Keeps.routeBody (h : Keeps s t) {verb : Nat} {x : Ext} {a : Ctx} : Keeps s (routeBody verb x a t).2 := by
  unfold Machine.routeBody
  split
  · exact h.bodyDraftOpen
  · exact h.bodyCommit
  · exact h.bodyDraftDiscard
  · exact h.bodyDraftStatus
  · exact h.bodyEpoch
  · exact h.bodyDirectSet
  · exact h.bodyHashSet
  · exact h.bodyFallbackSet
  · exact h.bodyUnknown

theorem Keeps.sigBody (h : Keeps s t) {verb : Nat} {x : Ext} {a : Ctx} : Keeps s (sigBody verb x a t).2 := by
  unfold Machine.sigBody
  split
  · exact h.bodyProgramLoad
  · exact h.bodyPduSet
  · exact h.bodySignalSet
  · exact h.bodySignalRead
  · exact h.bodySignalInject
  · exact h.bodyAdmission
  · exact h.bodyUnknown

theorem Keeps.qosBody (h : Keeps s t) {verb : Nat} {x : Ext} {a : Ctx} : Keeps s (qosBody verb x a t).2 := by
  unfold Machine.qosBody
  split
  · exact h.bodyGateListSet
  · exact h.bodyGateState
  · exact h.bodyShaperSet
  · exact h.bodyMeterSet
  · exact h.bodyAdmissionSet
  · exact h.bodyHistogramSet
  · exact h.bodyHistogramRead
  · exact h.bodyUnknown

theorem Keeps.timeBody (h : Keeps s t) {verb : Nat} {x : Ext} {a : Ctx} : Keeps s (timeBody verb x a t).2 := by
  unfold Machine.timeBody
  split
  · exact h.bodySet
  · exact h.bodyTimeStatus
  · exact h.bodyWorkingSelect
  · exact h.bodyOutputSet
  · exact h.bodyCaptureRead
  · exact h.bodyUnknown

theorem Keeps.secBody (h : Keeps s t) {verb : Nat} {x : Ext} {a : Ctx} : Keeps s (secBody verb x a t).2 := by
  unfold Machine.secBody
  split
  · exact h.bodyKeyInstall
  · exact h.bodyKeyErase
  · exact h.bodySaInstall
  · exact h.bodySaRetire
  · exact h.bodyJobSubmit
  · exact h.bodyJobAbort
  · exact h.bodyLifecycle
  · exact h.bodyLifecycleAdvance
  · exact h.bodySelftest
  · exact h.bodyZeroise
  · exact h.bodyDebugUnlock
  · exact h.bodyFreshnessSet
  · exact h.bodyUnknown

theorem Keeps.evtBody (h : Keeps s t) {verb : Nat} {x : Ext} {a : Ctx} : Keeps s (evtBody verb x a t).2 := by
  unfold Machine.evtBody
  split
  · exact h.bodyEvtBind
  · exact h.bodyCoalesceSet
  · exact h.bodySourceEnable
  · exact h.bodyQueueState
  · exact h.bodyEvtInject
  · exact h.bodyUnknown

theorem Keeps.storeBodyOf (h : Keeps s t) {verb : Nat} {x : Ext} {a : Ctx} : Keeps s (Machine.storeBody verb x a t).2 := by
  unfold Machine.storeBody
  split
  · exact h.bodyStoreAttach
  · exact h.bodyStoreDetach
  · exact h.bodyRecorderStart
  · exact h.bodyRecorderStop
  · exact h.bodyStoreRead
  · exact h.bodyStoreWrite
  · exact h.bodyStageImage
  · exact h.bodyStoreHealth
  · exact h.bodyUnknown

theorem Keeps.cascBody (h : Keeps s t) {verb : Nat} {x : Ext} {a : Ctx} : Keeps s (cascBody verb x a t).2 := by
  unfold Machine.cascBody
  split
  · exact h.bodyCascTopology
  · exact h.bodyStandbyLinkSet
  · exact h.bodyCascHeal
  · exact h.bodySplitLog
  · exact h.bodyUnknown

theorem Keeps.diagBody (h : Keeps s t) {verb : Nat} {x : Ext} {a : Ctx} : Keeps s (diagBody verb x a t).2 := by
  unfold Machine.diagBody
  split
  · exact h.bodyDiagRead
  · exact h.bodyDiagWrite
  · exact h.bodyTableDump
  · exact h.bodyLoopback
  · exact h.bodyMirrorSet
  · exact h.bodyAuditStatus
  · exact h.bodyUnknown

theorem Keeps.faultBody (h : Keeps s t) {verb : Nat} {x : Ext} {a : Ctx} : Keeps s (faultBody verb x a t).2 := by
  unfold Machine.faultBody
  split
  · exact h.bodyFaultStatus
  · exact h.bodyFaultClear
  · exact h.bodyReactionSet
  · exact h.bodyFaultInject
  · exact h.bodyFaultLogRead
  · exact h.bodyWatchdogSet
  · exact h.bodyUnknown

theorem Keeps.commonBody (h : Keeps s t) {verb : Nat} {b : Body} (e : commonBody verb = some b) {c : Ctx} :
    Keeps s (b c t).2 := by
  unfold Machine.commonBody at e
  split at e <;> cases e
  · exact h.bodyGet
  · exact h.bodySet
  · exact h.bodyList
  · exact h.bodyStats
  · exact h.bodyClearStats

theorem Keeps.bodyOf (h : Keeps s t) {code : Nat} {x : Ext} {c : Ctx} : Keeps s (bodyOf code x c t).2 := by
  unfold Machine.bodyOf
  rcases e : Machine.commonBody (code % 256) with _ | b
  case some => exact h.commonBody e
  generalize code / 256 = cls
  dsimp only
  split
  · exact h.deckBodyOf
  · exact h.spanBodyOf
  · exact h.chanBody
  · exact h.ethBody
  · exact h.canBody
  · exact h.linBodyOf
  · exact h.fdbBody
  · exact h.routeBody
  · exact h.sigBody
  · exact h.qosBody
  · exact h.timeBody
  · exact h.secBody
  · exact h.evtBody
  · exact h.storeBodyOf
  · exact h.cascBody
  · exact h.diagBody
  · exact h.faultBody
  · exact h.bodyUnknown

theorem Keeps.execDeckSegExec (h : Keeps s t) {q : Req} : KeptBy s (execDeckSegExec q t) :=
  .next (h.request fun _ _ hu => hu.bodySegExec)

/-! ### Operations of Boot -/

theorem Keeps.execVbatPowerOnReset (h : Keeps s t) : KeptBy s (execVbatPowerOnReset t) := by
  have hp : Keeps s (t.setPower pwOff).syncFault := h.setPower.syncFault
  generalize hv : (t.setPower pwOff).syncFault = v at hp
  have hc : Keeps s { cfg := v.brim.nvm, brim := { nvm := v.brim.nvm, keyStore := v.brim.keyStore }, fuses := v.fuses,
                      flash := v.flash, host := v.host, out := v.out, absentVariant := v.absentVariant,
                      freeCount := v.freeCount, pending := v.pending } := by
    refine hp.trans ⟨rfl, rfl, le_rfl, rfl, ?_, ?_⟩
    · rw [State.canonical_iff, State.canonical_iff]
      exact fun ⟨⟨_, _, hhost, hflash, _, _⟩, _⟩ => ⟨⟨rfl, rfl, hhost, hflash, rfl, rfl⟩, rfl⟩
    · rw [State.countersInRange_iff, State.countersInRange_iff]
      exact fun _ => ⟨List.forall_mem_nil _, List.forall_mem_nil _, Nat.two_pow_pos 48⟩
  unfold Machine.execVbatPowerOnReset
  rw [hv]
  exact .next hc.setF.variantPools

theorem Keeps.execBrimResetRelease (h : Keeps s t) : KeptBy s (execBrimResetRelease t) := .next (h.setPower.ite h)

theorem Keeps.nvmLoad (h : Keeps s t) : Keeps s t.nvmLoad :=
  h.edit.syncInh.foldl fun _ _ hu => hu.setRepeater.cwXcvrs.ite hu

theorem Keeps.execBrimNvmLoaded (h : Keeps s t) : KeptBy s (execBrimNvmLoaded t) := .next (h.ite h.nvmLoad)

theorem Keeps.execCrownSupplyFault (h : Keeps s t) : KeptBy s (execCrownSupplyFault t) :=
  .next (h.ite (h.crownReset.degradeSupply.edit.ite (h.crownReset.edit.ite h)))

theorem Keeps.retriesClear (h : Keeps s t) : Keeps s t.retriesClear := h.edit.setF.setPower

theorem Keeps.execBoardReset (h : Keeps s t) : KeptBy s (execBoardReset t) :=
  .next (h.ite (h.crownReset.iteThen fun hu => hu.retriesClear))

theorem Keeps.execPcieReset (h : Keeps s t) : KeptBy s (execPcieReset t) :=
  .next (h.foldl fun _ _ hu => hu.clientLost).edit.setF.setF.evqTargetSlept

theorem Keeps.execSuppliesGood (h : Keeps s t) : KeptBy s (execSuppliesGood t) := .next (h.edit.setPower.ite (h.edit.ite h))

theorem Keeps.strapsTake (h : Keeps s t) {w : Nat} : Keeps s (t.strapsTake w) :=
  h.edit.setF.setF.setF.edit.foldl fun _ _ hu => hu.setF

theorem Keeps.execStrapSample (h : Keeps s t) {a b c : BitVec 5} : KeptBy s (execStrapSample a b c t) :=
  .next (h.ite (h.strapsTake.ite (h.edit.iteThen fun hu => hu.bootFail.crownHalt)))

theorem Keeps.execCrownClocksStable (h : Keeps s t) : KeptBy s (execCrownClocksStable t) := .next (h.edit.setF.ite h)

theorem Keeps.execBootBistDone (h : Keeps s t) {rows : Fin 4} {logic : Bool} : KeptBy s (execBootBistDone rows logic t) :=
  .next (h.ite (h.edit.ite h.bootFail.crownHalt))

theorem Keeps.slotsRestore (h : Keeps s t) : Keeps s t.slotsRestore := h.foldl fun _ _ hu => hu.setSlot.ite hu.faultRise

theorem Keeps.hatboxPass (h : Keeps s t) : Keeps s t.hatboxPass :=
  h.edit.drbgSeed.slotsRestore.syncHbx.edit.setF.ite h.edit.drbgSeed.slotsRestore.syncHbx.setF

theorem Keeps.execHatboxSelftestDone (h : Keeps s t) {ok : Bool} : KeptBy s (execHatboxSelftestDone ok t) :=
  .next (h.ite (h.hatboxPass.ite h.hbxLock.bootFail.crownHalt))

theorem Keeps.flWrite (h : Keeps s t) {rs : List FlRec} : Keeps s (t.flWrite rs) := by
  unfold State.flWrite
  refine h.foldl ?_
  intro _ _ hu
  split
  · exact hu.setPar.setPar.setPar
  · exact hu.setPar.setPar
  · exact hu.setPar

theorem Keeps.flEnable (h : Keeps s t) {rs : List FlRec} : Keeps s (t.flEnable rs) := by
  unfold State.flEnable
  refine h.foldl ?_
  intro _ _ hu
  split
  · exact hu.ite hu.chanEnable
  · exact hu

theorem Keeps.firstLight (h : Keeps s t) {flashOk : Bool} : Keeps s (t.firstLight flashOk) := by
  unfold State.firstLight
  dsimp only
  split
  · exact (h.ite h.bootFail).bootFail
  · split
    · exact (h.ite h.bootFail).bootFail
    · exact (h.ite h.bootFail).bootFail.ite ((h.ite h.bootFail).iteElse fun hu =>
        hu.bootFail).flWrite.flEnable.noteRecords.setF.setF.handoverStart

theorem Keeps.execFirstLightVerify (h : Keeps s t) {flashOk : Bool} : KeptBy s (execFirstLightVerify flashOk t) :=
  .next (h.ite h.firstLight.setF)

theorem Keeps.fwRelease (h : Keeps s t) {fromSlot : Bool} : Keeps s (t.fwRelease fromSlot) :=
  h.edit.edit.syncHbx.setF.watchdogWindow

theorem Keeps.recoveryStart (h : Keeps s t) : Keeps s t.recoveryStart := h.edit.setF

theorem Keeps.firmwareLoad (h : Keeps s t) {flashOk : Bool} : Keeps s (t.firmwareLoad flashOk) := by
  unfold State.firmwareLoad
  dsimp only
  split
  · exact (h.ite h.bootFail).bootFail.recoveryStart
  · exact ((h.ite h.bootFail).iteElse fun hu => hu.bootFail).bankWrite.setF.fwRelease

theorem Keeps.execFirmwareImageVerify (h : Keeps s t) {flashOk : Bool} : KeptBy s (execFirmwareImageVerify flashOk t) :=
  .next (h.ite (h.recoveryStart.ite h.firmwareLoad))

theorem Keeps.firmwareStart (h : Keeps s t) : Keeps s t.firmwareStart :=
  ((h.setF.iteThen fun hu => hu.setF).foldl fun _ _ hu => hu.payload).edit.syncFault.syncInh.edit.spansBegin.newCommitId

theorem Keeps.execFirmwareReady (h : Keeps s t) : KeptBy s (execFirmwareReady t) := .next (h.ite h.firmwareStart)

theorem Keeps.handover (h : Keeps s t) {p : Nat} : Keeps s (t.handover p) := h.setRepeater

theorem Keeps.execCausewayHandover (h : Keeps s t) {p : Fin 4} : KeptBy s (execCausewayHandover p t) :=
  .next (h.handover.ite h)

theorem Keeps.execCausewayHandoverTimeout (h : Keeps s t) {p : Fin 4} : KeptBy s (execCausewayHandoverTimeout p t) := by
  unfold Machine.execCausewayHandoverTimeout
  refine .next ?_
  split
  · exact h
  · exact h.hbTo.handover.occur

theorem Keeps.switchEnd (h : Keeps s t) {mb seq status : Nat} : Keeps s (t.switchEnd mb seq status) :=
  ((h.edit.setF.watchdogPet.edit.foldl fun _ _ hu => hu.spanTake).foldl fun _ _ hu => hu.spanUpdate).iteElse fun hu =>
      hu.mbRespond

theorem Keeps.execSwitchReady (h : Keeps s t) : KeptBy s (execSwitchReady t) := by
  unfold Machine.execSwitchReady
  refine .next ?_
  split
  · exact h
  · exact Keeps.switchEnd (Keeps.syncHbx h.edit)

theorem Keeps.setActive (h : Keeps s t) {b : Nat} : Keeps s { t with fw := { t.fw with active := b } } := h.edit

theorem Keeps.execSwitchReadyTimeout (h : Keeps s t) : KeptBy s (execSwitchReadyTimeout t) := by
  unfold Machine.execSwitchReadyTimeout
  refine .next ?_
  split
  · exact h
  · exact h.timeTo.setActive.switchEnd

theorem Keeps.execHostLinkUp (h : Keeps s t) {gen width : Fin 5} : KeptBy s (execHostLinkUp gen width t) :=
  .next (h.ite h.edit.setF.setF.hostTarget)

theorem Keeps.execPcieConfigWrite (h : Keeps s t) {msixEnable funcMask busMaster : Bool} {bar0 bar2 bar4 : BitVec 64} :
    KeptBy s (execPcieConfigWrite msixEnable funcMask busMaster bar0 bar2 bar4 t) :=
  .next h.edit.hostTarget

/-! ### Operations of Service -/

theorem Keeps.chunkRun (h : Keeps s t) {code : Nat} {p : List Byte} : Keeps s (t.chunkRun code p).2 := by
  unfold State.chunkRun
  dsimp only
  exact h.bodyOf

theorem Keeps.chunk (h : Keeps s t) {code : Nat} {p : List Byte} : Keeps s (t.chunk code p).2 :=
  Keeps.iteOn Prod.snd h (Keeps.iteOn Prod.snd h (Keeps.iteOn Prod.snd (Keeps.iteOn Prod.snd h
      (Keeps.iteOn Prod.snd h h.chunkRun)) (Keeps.iteOn Prod.snd h.chunkRun h)))

theorem Keeps.chunks (h : Keeps s t) {one : State → Nat → List Byte → Bool × State} {cs : List (Nat × List Byte)} (hone : ∀
    (u : State) (x : Nat) (y : List Byte), Keeps s u → Keeps s (one u x y).2) : Keeps s (t.chunks one cs).2 :=
  Keeps.foldlOn Prod.snd h (fun _ _ hu => Keeps.iteOn Prod.snd (hone _ _ _ hu) hu)

theorem Keeps.setDrafts (h : Keeps s t) {l : List Draft} : Keeps s { t with gci := { t.gci with drafts := l } } := h.edit

theorem Keeps.imageApply (h : Keeps s t) {img : List Byte} : Keeps s (t.imageApply img).2 := by
  unfold State.imageApply
  split
  · exact h
  extract_lets d
  split
  have hc := (h.setDrafts.chunks fun _ _ _ hu => hu.chunk).snd ‹State.chunks .. = _›
  exact Keeps.iteOn Prod.snd (hc.dropDraft.switchEpoch.chunks fun _ _ _ hu => hu.chunkRun) hc.dropDraft

theorem Keeps.setCfgVersion (h : Keeps s t) {v r : Nat} :
    Keeps s { t with fw := { t.fw with cfgVersion := v, cfgRequires := r } } := h.edit

theorem Keeps.imageTry (h : Keeps s t) {ks : List Nat} : Keeps s (t.imageTry ks).2 := by
  induction ks generalizing t with
  | nil => exact h
  | cons k ks ih =>
    unfold State.imageTry
    extract_lets img
    split
    · exact ih h
    split
    have hi := h.imageApply.snd ‹State.imageApply .. = _›
    exact Keeps.iteOn Prod.snd hi.setCfgVersion (ih hi)

theorem Keeps.configLoad (h : Keeps s t) {flashOk : Bool} : Keeps s (t.configLoad flashOk) := by
  unfold State.configLoad
  dsimp only
  split
  · exact ((h.ite h.bootFail).imageTry.snd ‹State.imageTry .. = _›).bootFail.setF
  · exact (((h.ite h.bootFail).imageTry.snd ‹State.imageTry .. = _›).iteElse fun hu => hu.bootFail).setF.setF

theorem Keeps.execConfigImageApply (h : Keeps s t) {flashOk : Bool} : KeptBy s (execConfigImageApply flashOk t) :=
  .next (h.ite h.configLoad)

theorem Keeps.lanesReset (h : Keeps s t) : Keeps s t.lanesReset :=
  (h.foldl fun _ _ hu => (hu.setCan.setReg.iteThen fun hv => hv.setF).setReg).foldl fun _ _ hu => hu.setLin.setReg

theorem Keeps.portsReset (h : Keeps s t) : Keeps s t.portsReset :=
  ((h.foldl fun _ _ hu => hu.flushQueues).foldl fun _ _ hu => hu.portDown.setPort.setReg).edit.setF

theorem Keeps.sgeReset (h : Keeps s t) : Keeps s t.sgeReset := (h.foldl fun _ _ hu => hu.finishCopy).edit.setReady.setF

theorem Keeps.eventsReset (h : Keeps s t) : Keeps s t.eventsReset :=
  (h.setRegs (tabWfFrom_filter regDefault _ _)).edit.syncIrq

theorem Keeps.spansReset (h : Keeps s t) : Keeps s t.spansReset :=
  (((h.foldl fun _ _ hu => hu.spanUngate.spanAwake).foldl fun _ _ hu => hu.lineCommand).foldl fun _ _ hu => hu.setReg).edit

theorem Keeps.configReset (h : Keeps s t) : Keeps s t.configReset := h.switchEpoch.edit.setF

theorem Keeps.setResetRunning (h : Keeps s t) {e : EgrState} {b : Bool} :
    Keeps s { t with egr := e, gci := { t.gci with resetRunning := b } } := h.edit

theorem Keeps.resetConfigEnd (h : Keeps s t) {flashOk : Bool} : Keeps s (t.resetConfigEnd flashOk) := by
  unfold State.resetConfigEnd
  extract_lets u _ _ v w
  have hu : Keeps s u := h.sgeReset.portsReset.spansReset.lanesReset.configReset.eventsReset.spansBegin
  have hw : Keeps s w := hu.setResetRunning.firstLight
  exact hw.setF.configLoad.ite hw.setF

/-- The end of a ticket keeps all; that of SEC.LIFECYCLE_ADVANCE keeps all but the fuses. -/
theorem Keeps.ticketEnd (h : Keeps s t) {k : Ticket} {x : Ext} : Keeps s (t.ticketEnd k x) ∨
    k.cmd = 0x0C17 ∧ Keeps { s with fuses := t.lifecycleFuses k.payload } (t.ticketEnd k x) := by
  unfold State.ticketEnd
  dsimp only
  split
  case h_7 hk => exact h.lifecycleEnd.imp_right (And.intro hk)
  all_goals refine .inl ?_
  · exact h.resetConfigEnd.finishTicket.ite h
  · exact h.fwLoadEnd.ite h.finishTicket
  · exact h.fwVerifyEnd
  · exact h.fwProgramEnd
  · exact h.configProgramEnd
  · exact h.fdbFlushEnd.ite h.fdbFlushTo
  · exact h.selftestEnd
  · exact h.attachEnd
  · exact h.detachEnd
  · exact h.stageEnd
  · exact h.diagReadEnd.ite h
  · exact h.tableDumpEnd
  · exact h.loopbackEnd
  · exact h

/-- TICKET_COMPLETE keeps all, or all but the fuses, where it ends the SEC.LIFECYCLE_ADVANCE of a ticket (R410). -/
theorem Keeps.execTicketComplete (h : Keeps s t) {client : Fin 8} {num : Word} {x : Ext} :
    KeptBy s (execTicketComplete client num x t) ∨ ∃ k, t.ticket client num.toNat = some k ∧ k.result = none ∧ k.cmd = 0x0C17 ∧
      KeptBy { s with fuses := t.lifecycleFuses k.payload } (execTicketComplete client num x t) := by
  unfold Machine.execTicketComplete
  split
  · exact .inl (.next h)
  next k hk =>
    split
    · exact .inl (.next h)
    next hr =>
      rcases h.ticketEnd (k := k) (x := x) with he | ⟨hc, he⟩
      · exact .inl (.next he)
      · exact .inr ⟨k, hk, by simpa using hr, hc, .next he⟩

theorem Keeps.execDraftIdleExpiry (h : Keeps s t) {handle : Word} : KeptBy s (execDraftIdleExpiry handle t) := by
  unfold Machine.execDraftIdleExpiry
  refine .next ?_
  split
  · exact h
  · exact h.ite h.timeTo.dropDraft.occur

theorem Keeps.execServiceSlice (h : Keeps s t) {x : Ext} : KeptBy s (execServiceSlice x t) := by
  unfold Machine.execServiceSlice
  refine .next (h.ite ?_)
  split
  · exact h.visitEnd
  · exact h.visit.mbTake.serveTaken fun _ _ hu => hu.bodyOf

theorem Keeps.recoveryRun (h : Keeps s t) : Keeps s t.recoveryRun.2 := Keeps.iteOn Prod.snd h.edit.answer h.fwRelease.answer

theorem Keeps.bodyRecoveryLoad (h : Keeps s t) {a : Ctx} : Keeps s (bodyRecoveryLoad a t).2 := by
  unfold Machine.bodyRecoveryLoad
  dsimp only
  split
  · exact h.answer
  · refine Keeps.iteOn Prod.snd (Keeps.iteOn Prod.snd h.bodyFwLoad.recoveryRun h.bodyFwLoad) (Keeps.iteOn Prod.snd h.answer
      ?_)
    split
    · exact (h.hostRead.snd ‹State.hostRead .. = _›).answer
    · exact Keeps.iteOn Prod.snd (h.hostRead.snd ‹State.hostRead .. = _›).bankWrite.fwLoaded.answer
        (h.hostRead.snd ‹State.hostRead .. = _›).bankWrite.fwLoaded.recoveryRun

theorem Keeps.recoveryBody (h : Keeps s u) {cmd : Nat} {c : Ctx} : Keeps s (t.recoveryBody cmd c u).2 := by
  unfold State.recoveryBody
  split
  · exact h.bodyOf
  split
  · exact h.bodyUnknown
  split
  · exact h.bodyRecoveryLoad
  · refine h.segExec fun k b e c u hu => ?_
    split at e <;> cases e
    exact hu.bodyRecoveryLoad
  · exact h.bodyOf
  · exact h.bodyOf
  · exact h.bodyOf
  · exact h.bodyOf
  · exact h.bodyOf
  · exact h.bodyUnknown

theorem Keeps.execRecoveryServiceRequest (h : Keeps s t) {cmd : BitVec 16} {q : Req} :
    KeptBy s (execRecoveryServiceRequest cmd q t) :=
  .next (h.ite (h.mbWriteReq.mbDoorbell.iteThen fun hu => hu.mbTake.serveTaken fun _ _ hv => hv.recoveryBody))

theorem Keeps.hatpinHead (h : Keeps s t) {a : Option HatpinAccess} : Keeps s (t.hatpinHead a) := h.edit

theorem Keeps.brimWrite (h : Keeps s t) {a w : Nat} : Keeps s (t.brimWrite a w) := h.edit

theorem Keeps.brimRead (h : Keeps s t) {a : Nat} : Keeps s (t.brimRead a).2 := by
  unfold State.brimRead
  split
  · exact h
  · exact h.draw

theorem Keeps.hatpinTicketWord (h : Keeps s t) {a : HatpinAccess} : Keeps s (t.hatpinTicketWord a) := by
  unfold State.hatpinTicketWord
  split
  · exact h.hatpinHead
  extract_lets k
  split
  next d v e =>
    have hv : Keeps s v := by
      refine Keeps.snd ?_ e
      exact Keeps.iteOn Prod.snd h.brimWrite (Keeps.iteOn Prod.snd h.brimRead h)
    exact hv.hatpinHead.finishTicket.ite hv.hatpinHead

theorem Keeps.hatpinWord (h : Keeps s t) {a : HatpinAccess} : Keeps s (t.hatpinWord a) := by
  unfold State.hatpinWord
  split
  · exact h.hatpinHead.xcvrSent.ite h.hatpinHead.lineSent
  · exact h.hatpinTicketWord

theorem Keeps.hatpinFail (h : Keeps s t) : Keeps s t.hatpinFail := by
  unfold State.hatpinFail
  split
  · exact h
  · exact h.edit.ite h.hatpinHead.finishTicket.hatpinDown

theorem Keeps.execHatpinReply (h : Keeps s t) {crcOk : Bool} : KeptBy s (execHatpinReply crcOk t) := by
  unfold Machine.execHatpinReply
  refine .next ?_
  split
  · exact h
  · exact h.hatpinWord.ite h.hatpinFail

theorem Keeps.execHatpinReplyTimeout (h : Keeps s t) : KeptBy s (execHatpinReplyTimeout t) := .next (h.ite h.pass.hatpinFail)

theorem Keeps.execDeckResetAckTimeout (h : Keeps s t) : KeptBy s (execDeckResetAckTimeout t) := by
  unfold Machine.execDeckResetAckTimeout
  refine .next ?_
  split
  · exact h
  · exact h.timeTo.crownReset

/-! ### Operations of Bar -/

theorem Keeps.readOut (h : Keeps s t) {a v : Nat} : Keeps s (t.readOut a v) := h.edit

theorem Keeps.execRegisterWrite (h : Keeps s t) {bar4 : Bool} {off : BitVec 24} {len : BitVec 13} {req : BitVec 16} {w :
    Word} {fault : Fin 3} : KeptBy s (execRegisterWrite bar4 off len req w fault t) :=
  .next (h.hosted (h.hostWriteBar4.ite (h.writeFailed.ite h.hostWriteBar0)))

theorem Keeps.execBar2Write (h : Keeps s t) {off : BitVec 26} {req : BitVec 16} {data : List Byte} {fault : Fin 3} :
    KeptBy s (execBar2Write off req data fault t) :=
  .next (h.hosted (h.writeFailed.ite h.hostWriteBar2))

theorem Keeps.execInboundReadAbort (h : Keeps s t) {bar2 : Bool} {off : BitVec 26} :
    KeptBy s (execInboundReadAbort bar2 off t) :=
  .next (h.hosted h.edit)

theorem Keeps.latchRead (h : Keeps s t) {a : Nat} : Keeps s (t.latchRead a) := by
  unfold State.latchRead
  refine h.readOut.edit.ite (h.readOut.edit.ite ?_)
  split
  · exact h
  · exact h.readOut.edit.ite h.readOut.edit

theorem Keeps.readEffect (h : Keeps s t) {a : Nat} : Keeps s (t.readEffect a) := by
  unfold State.readEffect
  refine h.evqClaim.ite (h.evqClaim.ite ?_)
  split
  · exact h
  · exact h.setReg

theorem Keeps.hostReadBar0 (h : Keeps s t) {a len : Nat} : Keeps s (t.hostReadBar0 a len) :=
  h.readOut.ite (h.latchRead.ite h.readEffect.readOut)

theorem Keeps.bytesOut (h : Keeps s t) {bar a len : Nat} : Keeps s (t.bytesOut bar a len) := h.edit

theorem Keeps.execCounterLowRead (h : Keeps s t) {bar : Fin 3} {off : BitVec 26} {len : BitVec 13} :
    KeptBy s (execCounterLowRead bar off len t) :=
  .next (h.hosted (h.hostReadBar0.ite h.bytesOut))

theorem Keeps.execStrandLoRead (h : Keeps s t) : KeptBy s (execStrandLoRead t) := .next (h.hosted h.latchRead)

theorem Keeps.execSgeReadyRead (h : Keeps s t) : KeptBy s (execSgeReadyRead t) := .next (h.hosted h.readOut.setF)

theorem Keeps.execHrDropsRead (h : Keeps s t) {r : Fin 64} : KeptBy s (execHrDropsRead r t) := .next (h.hosted h.readOut.setF)

theorem Keeps.execEvqDropsRead (h : Keeps s t) {q : Fin 64} : KeptBy s (execEvqDropsRead q t) :=
  .next (h.hosted h.readOut.setF)

theorem Keeps.execMbDoorbell (h : Keeps s t) {n : Fin 16} {spi : Bool} {w : Word} : KeptBy s (execMbDoorbell n spi w t) :=
  .next (h.hosted (h.mbDoorbell.ite h))

theorem Keeps.execAck (h : Keeps s t) {n : Fin 16} {spi : Bool} : KeptBy s (execAck n spi t) :=
  .next (h.hosted (h.ackWrite.ite h))

theorem Keeps.execCancel (h : Keeps s t) {n : Fin 16} {spi : Bool} : KeptBy s (execCancel n spi t) :=
  .next (h.hosted (h.mbCancel.ite h))

theorem Keeps.spiWords (h : Keeps s t) {n off k : Nat} {d : List Byte} : Keeps s (t.spiWords n off d k) := by
  induction k generalizing t off d with
  | zero => exact h
  | succ k ih => exact ih h.mbWord

theorem Keeps.spiApply (h : Keeps s t) {f : List Byte} : Keeps s (t.spiApply f) := by
  unfold State.spiApply
  dsimp only
  exact h.spiWords.ite h

theorem Keeps.misoOut (h : Keeps s t) {d : List Byte} : Keeps s (t.misoOut d) := h.edit

theorem Keeps.execSpiWriteFrame (h : Keeps s t) {frame : List Byte} : KeptBy s (execSpiWriteFrame frame t) :=
  .next (h.hosted (h.misoOut.ite (h.misoOut.ite h.spiApply.misoOut)))

theorem Keeps.execSpiReadFrame (h : Keeps s t) {frame : List Byte} : KeptBy s (execSpiReadFrame frame t) := by
  unfold Machine.execSpiReadFrame
  dsimp only
  exact .next (h.hosted (h.misoOut.ite (h.misoOut.ite h.misoOut)))

theorem Keeps.execSpiReleaseFrame (h : Keeps s t) : KeptBy s (execSpiReleaseFrame t) :=
  .next (h.hosted (h.misoOut.foldl fun _ _ hu => hu.clientLost))

theorem Keeps.execSpiCsEarlyRise (h : Keeps s t) {frame : List Byte} : KeptBy s (execSpiCsEarlyRise frame t) :=
  .next (h.hosted (h.spiApply.ite h))

/-! ### Every command -/

/-- Every command but TICKET_COMPLETE keeps all; of that one `Keeps.execTicketComplete` says the rest. -/
theorem Keeps.exec (h : Keeps s t) {c : Instr} (hc : ∀ client num x, c ≠ .ticketComplete client num x) :
    KeptBy s (exec c t) := by
  cases c with
  | verbGet => exact h.execGet
  | verbSet => exact h.execSet
  | verbList => exact h.execList
  | verbStats => exact h.execStats
  | clearStats => exact h.execClearStats
  | deckIdentify => exact h.execDeckIdentify
  | deckReset => exact h.execDeckReset
  | deckClientSet => exact h.execDeckClientSet
  | deckTicketStatus => exact h.execDeckTicketStatus
  | deckTicketAbort => exact h.execDeckTicketAbort
  | deckFwLoad => exact h.execDeckFwLoad
  | deckFwVerify => exact h.execDeckFwVerify
  | deckFwSwitch => exact h.execDeckFwSwitch
  | deckFwProgram => exact h.execDeckFwProgram
  | deckConfigProgram => exact h.execDeckConfigProgram
  | deckSegWrite => exact h.execDeckSegWrite
  | deckSegExec => exact h.execDeckSegExec
  | deckSegRead => exact h.execDeckSegRead
  | spanSleepReq => exact h.execSpanSleepReq
  | spanWakeReq => exact h.execSpanWakeReq
  | spanState => exact h.execSpanState
  | spanWakeSources => exact h.execSpanWakeSources
  | spanStayAwakeLog => exact h.execSpanStayAwakeLog
  | spanMemberSet => exact h.execSpanMemberSet
  | chanEnable => exact h.execChanEnable
  | chanDisable => exact h.execChanDisable
  | chanLinkState => exact h.execChanLinkState
  | chanXcvrMode => exact h.execChanXcvrMode
  | ethWakePatternSet => exact h.execEthWakePatternSet
  | ethPauseStormClear => exact h.execEthPauseStormClear
  | ethMdioRead => exact h.execEthMdioRead
  | ethMdioWrite => exact h.execEthMdioWrite
  | canBusOffRecover => exact h.execCanBusOffRecover
  | canRestrictedSet => exact h.execCanRestrictedSet
  | canTxFrame => exact h.execCanTxFrame
  | canTxAtTime => exact h.execCanTxAtTime
  | canSwakeSet => exact h.execCanSwakeSet
  | canErrorState => exact h.execCanErrorState
  | linScheduleSet => exact h.execLinScheduleSet
  | linScheduleSelect => exact h.execLinScheduleSelect
  | linGotoSleep => exact h.execLinGotoSleep
  | linWakeupSend => exact h.execLinWakeupSend
  | linResponseSet => exact h.execLinResponseSet
  | fdbAddStatic => exact h.execFdbAddStatic
  | fdbDelete => exact h.execFdbDelete
  | fdbFlush => exact h.execFdbFlush
  | fdbLookup => exact h.execFdbLookup
  | fdbAgeingSet => exact h.execFdbAgeingSet
  | fdbLearnSet => exact h.execFdbLearnSet
  | routeDraftOpen => exact h.execRouteDraftOpen
  | routeCommit => exact h.execRouteCommit
  | routeDraftDiscard => exact h.execRouteDraftDiscard
  | routeDraftStatus => exact h.execRouteDraftStatus
  | routeEpoch => exact h.execRouteEpoch
  | routeDirectSet => exact h.execRouteDirectSet
  | routeHashSet => exact h.execRouteHashSet
  | routeFallbackSet => exact h.execRouteFallbackSet
  | sigProgramLoad => exact h.execSigProgramLoad
  | sigPduSet => exact h.execSigPduSet
  | sigSignalSet => exact h.execSigSignalSet
  | sigSignalRead => exact h.execSigSignalRead
  | sigSignalInject => exact h.execSigSignalInject
  | sigAdmission => exact h.execSigAdmission
  | qosGateListSet => exact h.execQosGateListSet
  | qosGateState => exact h.execQosGateState
  | qosShaperSet => exact h.execQosShaperSet
  | qosMeterSet => exact h.execQosMeterSet
  | qosAdmissionSet => exact h.execQosAdmissionSet
  | qosHistogramSet => exact h.execQosHistogramSet
  | qosHistogramRead => exact h.execQosHistogramRead
  | timeDomainSet => exact h.execTimeDomainSet
  | timeStatus => exact h.execTimeStatus
  | timeWorkingSelect => exact h.execTimeWorkingSelect
  | timeOutputSet => exact h.execTimeOutputSet
  | timeCaptureRead => exact h.execTimeCaptureRead
  | secKeyInstall => exact h.execSecKeyInstall
  | secKeyErase => exact h.execSecKeyErase
  | secSaInstall => exact h.execSecSaInstall
  | secSaRetire => exact h.execSecSaRetire
  | secJobSubmit => exact h.execSecJobSubmit
  | secJobAbort => exact h.execSecJobAbort
  | secLifecycle => exact h.execSecLifecycle
  | secLifecycleAdvance => exact h.execSecLifecycleAdvance
  | secSelftest => exact h.execSecSelftest
  | secZeroise => exact h.execSecZeroise
  | secDebugUnlock => exact h.execSecDebugUnlock
  | secFreshnessSet => exact h.execSecFreshnessSet
  | evtBind => exact h.execEvtBind
  | evtCoalesceSet => exact h.execEvtCoalesceSet
  | evtSourceEnable => exact h.execEvtSourceEnable
  | evtQueueState => exact h.execEvtQueueState
  | evtInject => exact h.execEvtInject
  | storeAttach => exact h.execStoreAttach
  | storeDetach => exact h.execStoreDetach
  | storeRecorderStart => exact h.execStoreRecorderStart
  | storeRecorderStop => exact h.execStoreRecorderStop
  | storeRead => exact h.execStoreRead
  | storeWrite => exact h.execStoreWrite
  | storeStageImage => exact h.execStoreStageImage
  | storeHealth => exact h.execStoreHealth
  | cascTopology => exact h.execCascTopology
  | cascStandbyLinkSet => exact h.execCascStandbyLinkSet
  | cascHeal => exact h.execCascHeal
  | cascSplitLog => exact h.execCascSplitLog
  | diagRead => exact h.execDiagRead
  | diagWrite => exact h.execDiagWrite
  | diagTableDump => exact h.execDiagTableDump
  | diagLoopback => exact h.execDiagLoopback
  | diagMirrorSet => exact h.execDiagMirrorSet
  | diagAuditStatus => exact h.execDiagAuditStatus
  | faultStatus => exact h.execFaultStatus
  | faultClear => exact h.execFaultClear
  | faultReactionSet => exact h.execFaultReactionSet
  | faultInject => exact h.execFaultInject
  | faultLogRead => exact h.execFaultLogRead
  | faultWatchdogSet => exact h.execFaultWatchdogSet
  | registerWrite => exact h.execRegisterWrite
  | bar2Write => exact h.execBar2Write
  | inboundReadAbort => exact h.execInboundReadAbort
  | counterLowRead => exact h.execCounterLowRead
  | strandLoRead => exact h.execStrandLoRead
  | qPeakRead => exact h.execQPeakRead
  | sgeReadyRead => exact h.execSgeReadyRead
  | thermPeakRead => exact h.execThermPeakRead
  | hrDropsRead => exact h.execHrDropsRead
  | evqDropsRead => exact h.execEvqDropsRead
  | mbDoorbell => exact h.execMbDoorbell
  | mbAck => exact h.execAck
  | mbCancel => exact h.execCancel
  | serviceSlice => exact h.execServiceSlice
  | ticketComplete client num x => exact absurd rfl (hc client num x)
  | draftIdleExpiry => exact h.execDraftIdleExpiry
  | spiWriteFrame => exact h.execSpiWriteFrame
  | spiReadFrame => exact h.execSpiReadFrame
  | spiReleaseFrame => exact h.execSpiReleaseFrame
  | spiCsEarlyRise => exact h.execSpiCsEarlyRise
  | epochSwitch => exact h.execEpochSwitch
  | oldEpochRelease => exact h.execOldEpochRelease
  | deckResetAckTimeout => exact h.execDeckResetAckTimeout
  | vbatPowerOnReset => exact h.execVbatPowerOnReset
  | brimResetRelease => exact h.execBrimResetRelease
  | brimNvmLoaded => exact h.execBrimNvmLoaded
  | crownSupplyFault => exact h.execCrownSupplyFault
  | boardReset => exact h.execBoardReset
  | pcieReset => exact h.execPcieReset
  | vcc5Loss => exact h.execVcc5Loss
  | suppliesGood => exact h.execSuppliesGood
  | strapSample => exact h.execStrapSample
  | crownClocksStable => exact h.execCrownClocksStable
  | bootBistDone => exact h.execBootBistDone
  | hatboxSelftestDone => exact h.execHatboxSelftestDone
  | firstLightVerify => exact h.execFirstLightVerify
  | firmwareImageVerify => exact h.execFirmwareImageVerify
  | firmwareReady => exact h.execFirmwareReady
  | configImageApply => exact h.execConfigImageApply
  | causewayHandover => exact h.execCausewayHandover
  | causewayHandoverTimeout => exact h.execCausewayHandoverTimeout
  | switchReady => exact h.execSwitchReady
  | switchReadyTimeout => exact h.execSwitchReadyTimeout
  | hatpinReply => exact h.execHatpinReply
  | hatpinReplyTimeout => exact h.execHatpinReplyTimeout
  | ethFrameReceive => exact h.execEthFrameReceive
  | linkDown => exact h.execLinkDown
  | linkUpConditions => exact h.execLinkUpConditions
  | linkHoldExpiry => exact h.execLinkHoldExpiry
  | pauseTimerExpiry => exact h.execPauseTimerExpiry
  | pauseRefresh => exact h.execPauseRefresh
  | pauseWatchdogExpiry => exact h.execPauseWatchdogExpiry
  | stormHoldExpiry => exact h.execStormHoldExpiry
  | plcaFallback => exact h.execPlcaFallback
  | collision => exact h.execCollision
  | backoffExpiry => exact h.execBackoffExpiry
  | verifyTimeExpiry => exact h.execVerifyTimeExpiry
  | verifyRespondReceive => exact h.execVerifyRespondReceive
  | wakePatternMatch => exact h.execWakePatternMatch
  | mdioAccessDone => exact h.execMdioAccessDone
  | egressSelect => exact h.execEgressSelect
  | frameTransmitComplete => exact h.execFrameTransmitComplete
  | tsqTailWrite => exact h.execTsqTailWrite
  | ethDrainTimeout => exact h.execEthDrainTimeout
  | canFrameReceive => exact h.execCanFrameReceive
  | classSchedulerFeed => exact h.execClassSchedulerFeed
  | canAttemptStart => exact h.execCanAttemptStart
  | canAttemptEnd => exact h.execCanAttemptEnd
  | recoverDelayExpiry => exact h.execRecoverDelayExpiry
  | recoveryCountDone => exact h.execRecoveryCountDone
  | atTimeRelease => exact h.execAtTimeRelease
  | atTimeLate => exact h.execAtTimeLate
  | xcvrModeApply => exact h.execXcvrModeApply
  | xcvrModeReached => exact h.execXcvrModeReached
  | txdDominantTimeout => exact h.execTxdDominantTimeout
  | hostTxRecordTake => exact h.execHostTxRecordTake
  | rxqTailWrite => exact h.execRxqTailWrite
  | txqHeadWrite => exact h.execTxqHeadWrite
  | txcTailWrite => exact h.execTxcTailWrite
  | canDrainDone => exact h.execCanDrainDone
  | canDrainTimeout => exact h.execCanDrainTimeout
  | linSlotBoundary => exact h.execLinSlotBoundary
  | linHeaderReceive => exact h.execLinHeaderReceive
  | linResponseReceive => exact h.execLinResponseReceive
  | linResponseTimeout => exact h.execLinResponseTimeout
  | linBusIdleTimeout => exact h.execLinBusIdleTimeout
  | wakeupPulseEnd => exact h.execWakeupPulseEnd
  | linScheduleRestart => exact h.execLinScheduleRestart
  | linTxdTimeout => exact h.execLinTxdTimeout
  | linDrainTimeout => exact h.execLinDrainTimeout
  | publishBufferWrite => exact h.execPublishBufferWrite
  | learnRecordProcess => exact h.execLearnRecordProcess
  | ageingVisit => exact h.execAgeingVisit
  | linkDownFdbRemoval => exact h.execLinkDownFdbRemoval
  | frerResetTimeout => exact h.execFrerResetTimeout
  | tableEccRepair => exact h.execTableEccRepair
  | twinDecision => exact h.execTwinDecision
  | shadowIntervalEnd => exact h.execShadowIntervalEnd
  | cellWrite => exact h.execCellWrite
  | cellRead => exact h.execCellRead
  | flushScanEnd => exact h.execFlushScanEnd
  | queueDrainDone => exact h.execQueueDrainDone
  | queueDrainTimeout => exact h.execQueueDrainTimeout
  | auditVisit => exact h.execAuditVisit
  | auditPassEnd => exact h.execAuditPassEnd
  | sgeFeederMove => exact h.execSgeFeederMove
  | sgeDispatch => exact h.execSgeDispatch
  | sgeEntry => exact h.execEntry
  | sgeUnpack => exact h.execUnpack
  | sgePack => exact h.execPack
  | sgeCheck => exact h.execCheck
  | sgeMatch => exact h.execMatch
  | sgeJump => exact h.execJump
  | sgePackk => exact h.execPackk
  | sgeTrig => exact h.execTrig
  | sgeEnd => exact h.execEnd
  | signalTimeoutScan => exact h.execSignalTimeoutScan
  | pduTimerRelease => exact h.execPduTimerRelease
  | minGapEnd => exact h.execMinGapEnd
  | bundlerTakeMessage => exact h.execBundlerTakeMessage
  | bundleWindowClose => exact h.execBundleWindowClose
  | unbundleFrame => exact h.execUnbundleFrame
  | sgeDrainDone => exact h.execSgeDrainDone
  | gateEntryStart => exact h.execGateEntryStart
  | gateCycleStart => exact h.execGateCycleStart
  | gateChangeTime => exact h.execGateChangeTime
  | histogramSample => exact h.execHistogramSample
  | gptpMessageReceive => exact h.execGptpMessageReceive
  | syncWatchdogExpiry => exact h.execSyncWatchdogExpiry
  | announceTimeout => exact h.execAnnounceTimeout
  | syncInterval => exact h.execSyncInterval
  | revertHoldExpiry => exact h.execRevertHoldExpiry
  | slewDone => exact h.execSlewDone
  | historyEntryWrite => exact h.execHistoryEntryWrite
  | convGo => exact h.execGo
  | conversionDone => exact h.execConversionDone
  | timeSnap => exact h.execTimeSnap
  | timedOutputLeadingEdge => exact h.execTimedOutputLeadingEdge
  | timedOutputTrailingEdge => exact h.execTimedOutputTrailingEdge
  | captureEdge => exact h.execCaptureEdge
  | xosc32Stable => exact h.execXosc32Stable
  | xosc32Stop => exact h.execXosc32Stop
  | entryHoldExpiry => exact h.execEntryHoldExpiry
  | parkSupplyFall => exact h.execParkSupplyFall
  | coreClockStop => exact h.execCoreClockStop
  | listeningWake => exact h.execListeningWake
  | coreClocksResume => exact h.execCoreClocksResume
  | parkedWake => exact h.execParkedWake
  | wakeTimerExpiry => exact h.execWakeTimerExpiry
  | listenToParkExpiry => exact h.execListenToParkExpiry
  | supplyQualifyTimeout => exact h.execSupplyQualifyTimeout
  | supplyRetryExpiry => exact h.execSupplyRetryExpiry
  | thermalRetryExpiry => exact h.execThermalRetryExpiry
  | thermalRead => exact h.execThermalRead
  | thermalFallTimer => exact h.execThermalFallTimer
  | inhNvmWrite => exact h.execInhNvmWrite
  | idleTimerExpiry => exact h.execIdleTimerExpiry
  | prepareTimeExpiry => exact h.execPrepareTimeExpiry
  | falseWakeExpiry => exact h.execFalseWakeExpiry
  | entryDrainEnd => exact h.execEntryDrainEnd
  | armingConfirmed => exact h.execArmingConfirmed
  | lanePowerUp => exact h.execLanePowerUp
  | kaTxPeriodExpiry => exact h.execKaTxPeriodExpiry
  | longAwakeExpiry => exact h.execLongAwakeExpiry
  | swakeFrame => exact h.execSwakeFrame
  | wup => exact h.execWup
  | wakePin => exact h.execWakePin
  | linWake => exact h.execLinWake
  | t1sWake => exact h.execT1sWake
  | viaductSpanMessage => exact h.execViaductSpanMessage
  | bulkQuantum => exact h.execBulkQuantum
  | canAuthVerifyJob => exact h.execCanAuthVerifyJob
  | canAuthGenerateJob => exact h.execCanAuthGenerateJob
  | entropyFail => exact h.execEntropyFail
  | entropyRetry => exact h.execEntropyRetry
  | challengeExpiry => exact h.execChallengeExpiry
  | persistInvalidate => exact h.execPersistInvalidate
  | doorbellAccept => exact h.execDoorbellAccept
  | coalesceTimeExpiry => exact h.execCoalesceTimeExpiry
  | tgtClaim => exact h.execTgtClaim
  | tgtComplete => exact h.execTgtComplete
  | evqRdPtrWrite => exact h.execEvqRdPtrWrite
  | escTimeoutExpiry => exact h.execEscTimeoutExpiry
  | targetSleepChange => exact h.execTargetSleepChange
  | msixVectorUnmask => exact h.execMsixVectorUnmask
  | flushGroupClose => exact h.execFlushGroupClose
  | flushReadCompletion => exact h.execFlushReadCompletion
  | flushTimeout => exact h.execFlushTimeout
  | iwlRdWrite => exact h.execIwlRdWrite
  | pdlRdWrite => exact h.execPdlRdWrite
  | pollDue => exact h.execPollDue
  | pollReadComplete => exact h.execPollReadComplete
  | hrHostPtrWrite => exact h.execHrHostPtrWrite
  | hrSeenWrite => exact h.execHrSeenWrite
  | hrCtrlWrite => exact h.execHrCtrlWrite
  | hostRxDeliver => exact h.execHostRxDeliver
  | hostTxDescriptorFetch => exact h.execHostTxDescriptorFetch
  | nvmeCommandComplete => exact h.execNvmeCommandComplete
  | storageLinkDown => exact h.execStorageLinkDown
  | healthLogPoll => exact h.execHealthLogPoll
  | recorderCopyConsume => exact h.execRecorderCopyConsume
  | recorderBlockClose => exact h.execRecorderBlockClose
  | pierSignalDetect => exact h.execPierSignalDetect
  | pierBlockLock => exact h.execPierBlockLock
  | hello => exact h.execHello
  | keyConfirm => exact h.execKeyConfirm
  | keepalive => exact h.execKeepalive
  | credit => exact h.execCredit
  | ethUnit => exact h.execEthUnit
  | recordUnit => exact h.execRecordUnit
  | reqUnit => exact h.execReqUnit
  | cplUnit => exact h.execCplUnit
  | evtUnit => exact h.execEvtUnit
  | pierHelloInterval => exact h.execPierHelloInterval
  | pierLinkHoldEnd => exact h.execPierLinkHoldEnd
  | bringupRetry => exact h.execBringupRetry
  | peerLost => exact h.execPeerLost
  | replayTimeout => exact h.execReplayTimeout
  | discoveryDeadline => exact h.execDiscoveryDeadline
  | actingDelayExpiry => exact h.execActingDelayExpiry
  | requestUnreachableTimeout => exact h.execRequestUnreachableTimeout
  | faultInputRise => exact h.execFaultInputRise
  | faultInputFall => exact h.execFaultInputFall
  | lockstepMismatch => exact h.execLockstepMismatch
  | faultInjectEnd => exact h.execFaultInjectEnd
  | watchdogService => exact h.execWatchdogService
  | watchdogExpiry => exact h.execWatchdogExpiry
  | watchdogWarning => exact h.execWatchdogWarning
  | causewayTakeover => exact h.execCausewayTakeover
  | causewayFrameReceive => exact h.execCausewayFrameReceive
  | causewayAttemptEnd => exact h.execCausewayAttemptEnd
  | causewayRecoveryDone => exact h.execCausewayRecoveryDone
  | canIntegration => exact h.execCanIntegration
  | canRxError => exact h.execCanRxError
  | plcaOkRestore => exact h.execPlcaOkRestore
  | vcc5Restored => exact h.execVcc5Restored
  | pdelayInterval => exact h.execPdelayInterval
  | recoveryServiceRequest => exact h.execRecoveryServiceRequest
  | hostLinkUp => exact h.execHostLinkUp
  | pcieConfigWrite => exact h.execPcieConfigWrite

end

/-- Settles O46: by what every command keeps; TICKET_COMPLETE keeps it too where it changes the fuses. -/
theorem everyCommandTakesEffectBesideTheQueue : Obligations.EveryCommandTakesEffectBesideTheQueue := by
  intro c s
  have hs := Keeps.refl s
  by_cases hc : ∀ client num x, c ≠ .ticketComplete client num x
  case pos =>
    obtain ⟨t, e, h⟩ := hs.exec hc
    exact ⟨t, e, h.pending, h.freeCount, h.absentVariant⟩
  case neg =>
    push Not at hc
    obtain ⟨client, num, x, rfl⟩ := hc
    rcases hs.execTicketComplete (client := client) (num := num) (x := x) with ⟨t, e, h⟩ | ⟨_, _, _, _, t, e, h⟩
    · exact ⟨t, e, h.pending, h.freeCount, h.absentVariant⟩
    · exact ⟨t, e, h.pending, h.freeCount, h.absentVariant⟩

end Sys2Proof.Machine

/-! O49: the canonical form of memories and registers, of every step. -/

namespace Sys2Proof.Machine

/-- Every command keeps the canonical form; TICKET_COMPLETE keeps it too where it burns fuses, which hold no memory. -/
theorem exec_keeps_canonical {c : Instr} {s t : State} (hs : s.canonical = true) (e : exec c s = .next t) : t.canonical = true := by
  have hkept : ∀ {v : State}, v.canonical = true → KeptBy v (exec c s) → t.canonical = true := by
    rintro v hv ⟨u, hu, hk⟩
    obtain rfl : u = t := by simpa [hu] using e
    exact hk.canonical hv
  by_cases hc : ∀ client num x, c ≠ .ticketComplete client num x
  case pos => exact hkept hs ((Keeps.refl s).exec hc)
  case neg =>
    push Not at hc
    obtain ⟨client, num, x, rfl⟩ := hc
    rcases (Keeps.refl s).execTicketComplete (client := client) (num := num) (x := x) with h | ⟨k, _, _, _, h⟩
    · exact hkept hs h
    · exact hkept (v := { s with fuses := s.lifecycleFuses k.payload }) hs h

/-- Settles O49: a step idles or runs one command with the queue's rest, and no memory or register is in the queue. -/
theorem everyStepKeepsCanonicalForm : Obligations.EveryStepKeepsCanonicalForm := by
  intro s t hs e
  unfold step at e
  split at e
  case h_1 =>
    obtain rfl : s = t := by simpa using e
    exact hs
  case h_2 c rest _ => exact exec_keeps_canonical (s := { s with pending := rest }) hs e

end Sys2Proof.Machine

/-! O31: service slices, tickets that end, draft expiry, the configuration image, the recovery service and Hatpin replies. -/

namespace Sys2Proof.Machine

/-! ### The configuration image and tickets (R46, R78) -/

theorem execConfigImageApply_due {s : State} (b : Bool) (h : s.crownUp = true ∧ s.getF DeckBootStatus.stage = 7) :
    execConfigImageApply b s = .next (s.configLoad b) := by
  simp [execConfigImageApply, h]

theorem execConfigImageApply_idle {s : State} (b : Bool) (h : s.crownUp = false ∨ s.getF DeckBootStatus.stage ≠ 7) :
    execConfigImageApply b s = .next s := by
  rcases h with h | h <;> simp [execConfigImageApply, h]

theorem execTicketComplete_running {s : State} {t : Ticket} (a : Fin 8) (w : Word) (x : Ext)
    (h : s.ticket a w.toNat = some t ∧ t.result = none) : execTicketComplete a w x s = .next (s.ticketEnd t x) := by
  simp [execTicketComplete, h]

theorem execTicketComplete_idle {s : State} (a : Fin 8) (w : Word) (x : Ext)
    (h : ∀ t, s.ticket a w.toNat = some t → t.result.isSome = true) : execTicketComplete a w x s = .next s := by
  unfold execTicketComplete
  split
  · rfl
  · rw [if_pos (h _ ‹_›)]

/-- DECK.RESET with scope CONFIG ends once no Channel that it forces is in a frame (R558). -/
theorem State.ticketEnd_reset (s : State) {t : Ticket} (x : Ext) (h : t.cmd = 0x0111) : s.ticketEnd t x =
    if s.lanesStill then (s.resetConfigEnd (x.code.val == 0)).finishTicket t.client t.num stDone [] else s := by
  simp [State.ticketEnd, h]

/-! ### Drafts and service slices (R73, R94) -/

theorem execDraftIdleExpiry_free {s : State} {w : Word} {d : Draft}
    (hd : s.gci.drafts.find? (fun d => d.handle == w.toNat) = some d) (hp : s.gci.commits.any (fun p => p.handle == d.handle) = false) :
    execDraftIdleExpiry w s =
      .next (((s.timeTo (strandPlus d.lastUse (secC 60))).dropDraft d.handle).occur (0x010 + d.client)) := by
  simp only [execDraftIdleExpiry, hd, hp, Bool.false_eq_true, if_false]

theorem execDraftIdleExpiry_held {s : State} {w : Word} {d : Draft}
    (hd : s.gci.drafts.find? (fun d => d.handle == w.toNat) = some d) (hp : s.gci.commits.any (fun p => p.handle == d.handle) = true) :
    execDraftIdleExpiry w s = .next s := by
  simp only [execDraftIdleExpiry, hd, hp, if_true]

theorem execDraftIdleExpiry_none {s : State} {w : Word} (hd : s.gci.drafts.find? (fun d => d.handle == w.toNat) = none) :
    execDraftIdleExpiry w s = .next s := by
  simp only [execDraftIdleExpiry, hd]

theorem execServiceSlice_serves {s : State} {c n : Nat} (x : Ext) (h : s.fwServing = true ∧ s.nextServed = some (c, n)) :
    execServiceSlice x s = .next (((s.visit c).mbTake n).serveTaken ((s.visit c).mbRequest n).1 ((s.visit c).mbRequest n).2
      (bodyOf ((s.visit c).mbRequest n).1 x)) := by
  simp [execServiceSlice, h]

theorem execServiceSlice_visitEnd {s : State} (x : Ext) (h : s.fwServing = true ∧ s.nextServed = none) :
    execServiceSlice x s = .next s.visitEnd := by
  simp [execServiceSlice, h]

/-! ### The recovery service (R35) -/

/-- The request as it stands posted: written and its doorbell rung. -/
theorem execRecoveryServiceRequest_client {s : State} {b : BitVec 16} {q : Req} (hc : s.mbClient q.mb = true) :
    execRecoveryServiceRequest b q s =
      .next (let v := (s.mbWriteReq b.toNat q).mbDoorbell q.mb (0x5A5A0000 + q.seq.toNat)
        if s.getF (MbStatus.state q.mb) = mbIdle ∧ q.seq.toNat ≠ s.getF (MbSeq.lastPosted q.mb) ∧ v.fw.recovery = true ∧
          v.crownUp = true then (v.mbTake q.mb).serveTaken b.toNat q (v.recoveryBody b.toNat) else v) := by
  simp [execRecoveryServiceRequest, hc, and_assoc]

/-! ### Hatpin replies (R12) -/

theorem execHatpinReply_head {s : State} {a : HatpinAccess} {l : List HatpinAccess} (b : Bool) (h : s.hatpin.queue = a :: l) :
    execHatpinReply b s = .next (if b then s.hatpinWord a else s.hatpinFail) := by
  simp only [execHatpinReply, h]

/-- A failure before the fourth running is counted, and the access stays at the head. -/
theorem State.hatpinFail_counts {s : State} (h : s.hatpin.queue ≠ [] ∧ s.hatpin.fails < 3) :
    s.hatpinFail = { s with hatpin := { s.hatpin with fails := s.hatpin.fails + 1 } } := by
  obtain ⟨hq, hf⟩ := h
  obtain ⟨a, l, hq⟩ := List.exists_cons_of_ne_nil hq
  simp [State.hatpinFail, hq, hf]

theorem execHatpinReplyTimeout_waiting {s : State} (h : s.hatpin.queue ≠ []) :
    execHatpinReplyTimeout s = .next (s.pass (usC 2)).hatpinFail := by
  simp [execHatpinReplyTimeout, h]

/-- Settles O31: each command by the equation of its case. -/
theorem serviceCommandsComplete : Obligations.ServiceCommandsComplete := by
  unfold Obligations.ServiceCommandsComplete
  refine ⟨fun b _ => execConfigImageApply_due b, fun b _ => execConfigImageApply_idle b,
    fun a w x _ _ => execTicketComplete_running a w x, fun a w x _ => execTicketComplete_idle a w x,
    ?resetStill, ?resetWaits, ?ticketEnds, fun _ _ _ => execDraftIdleExpiry_free, fun _ _ _ => execDraftIdleExpiry_held,
    fun _ _ => execDraftIdleExpiry_none, ?sliceServes, fun x _ => execServiceSlice_visitEnd x, ?sliceIdle,
    ?recoveryServes, ?recoveryPosts, ?recoveryOther, fun b _ _ _ => execHatpinReply_head b, fun _ => State.hatpinFail_counts,
    fun _ => execHatpinReplyTimeout_waiting, ?hatpinIdle, ?resetDue, ?resetNone⟩
  case resetStill =>
    rintro s t x ⟨hc, hl⟩
    rw [s.ticketEnd_reset x hc, if_pos hl]
  case resetWaits =>
    rintro s t x ⟨hc, hl⟩
    rw [s.ticketEnd_reset x hc, if_neg (by simp [hl])]
  case ticketEnds =>
    -- each clause is the arm of its code
    intro s t x
    refine ⟨?_, ?_, ?_, ?_, ?_, ?_, ?_, ?_, ?_, ?_, ?_, ?_, ?_⟩ <;> intro h <;> simp [State.ticketEnd, h, bne]
  case sliceServes =>
    rintro x s c n v h rfl
    exact execServiceSlice_serves x h
  case sliceIdle =>
    intro x s h
    show execServiceSlice x s = _
    simp [execServiceSlice, h]
  case recoveryServes =>
    rintro b q s v ⟨hc, hidle, hnew⟩ rfl ⟨hr, hu⟩
    show execRecoveryServiceRequest b q s = _
    rw [execRecoveryServiceRequest_client hc]
    exact congrArg _ (if_pos ⟨hidle, hnew, hr, hu⟩)
  case recoveryPosts =>
    rintro b q s v hc rfl h
    show execRecoveryServiceRequest b q s = _
    rw [execRecoveryServiceRequest_client hc]
    refine congrArg _ (if_neg ?_)
    rintro ⟨hidle, hnew, hr, hu⟩
    rcases h with h | h | h | h
    · exact h hidle
    · exact hnew h
    · simp [hr] at h
    · simp [hu] at h
  case recoveryOther =>
    intro b q s h
    show execRecoveryServiceRequest b q s = _
    simp [execRecoveryServiceRequest, h]
  case hatpinIdle =>
    intro b s h
    exact ⟨by show execHatpinReply b s = _; simp only [execHatpinReply, h],
      by show execHatpinReplyTimeout s = _; simp [execHatpinReplyTimeout, h]⟩
  case resetDue =>
    intro s m d h
    show execDeckResetAckTimeout s = _
    simp only [execDeckResetAckTimeout, h]
  case resetNone =>
    intro s h
    show execDeckResetAckTimeout s = _
    simp only [execDeckResetAckTimeout, h]

end Sys2Proof.Machine

/-! O60: host writes to BAR2. A write stores its bytes area by area; the log entry of a write to a read-only area changes no byte of
BAR2, because what the event concentrator does reaches registers, its own state and the outputs alone. -/

namespace Sys2Proof.Machine

/-! ### What the event concentrator changes -/

/-- `t` is `s` but for registers, the event concentrator's own state and what has been put out. -/
def EventsOnly (s t : State) : Prop := { t with regs := s.regs, evt := s.evt, out := s.out } = s

section
variable {s t u : State}

@[refl] theorem EventsOnly.refl (s : State) : EventsOnly s s := rfl

/-- Registers, the concentrator's state and the outputs may take any value. -/
theorem EventsOnly.edit (h : EventsOnly s t) {regs : Tab Word} {evt : EvtState} {out : List Emit} :
    EventsOnly s { t with regs := regs, evt := evt, out := out } := h

theorem EventsOnly.bar2 (h : EventsOnly s t) : t.bar2 = s.bar2 := by
  have e := congrArg State.bar2 h
  exact e

theorem EventsOnly.ite {c : Prop} {_ : Decidable c} (h : EventsOnly s t) (h' : EventsOnly s u) :
    EventsOnly s (if c then t else u) := by
  split <;> assumption

theorem EventsOnly.foldl {α : Type} {f : State → α → State} {l : List α} (h : EventsOnly s t)
    (hf : ∀ u x, EventsOnly s u → EventsOnly s (f u x)) : EventsOnly s (l.foldl f t) :=
  List.foldlRecOn l f h fun u hu x _ => hf u x hu

theorem EventsOnly.setF (h : EventsOnly s t) {f : Field} {v : Nat} : EventsOnly s (t.setF f v) := h.edit

theorem EventsOnly.setEvq (h : EventsOnly s t) {q : Nat} {v : EvQueue} : EventsOnly s (t.setEvq q v) := h.edit

theorem EventsOnly.setEvRec (h : EventsOnly s t) {q k : Nat} {r : EvRec} : EventsOnly s (t.setEvRec q k r) := h.edit

theorem EventsOnly.setRoute (h : EventsOnly s t) {src r : Nat} {v : RouteSt} : EventsOnly s (t.setRoute src r v) := h.edit

theorem EventsOnly.syncIrq (h : EventsOnly s t) : EventsOnly s t.syncIrq := h.edit

theorem EventsOnly.msixDeliver (h : EventsOnly s t) {q : Nat} : EventsOnly s (t.msixDeliver q) := by
  unfold State.msixDeliver
  dsimp only
  exact h.ite (h.edit.ite h.edit.setF.setF)

theorem EventsOnly.evqSignal (h : EventsOnly s t) {q : Nat} : EventsOnly s (t.evqSignal q) := by
  have hm : EventsOnly s (if t.getF (EvqStatus.state q) == evqPending && t.evqFor q 3 then t.msixDeliver q else t) :=
    h.msixDeliver.ite h
  exact (hm.setF.setF.ite hm).syncIrq

theorem EventsOnly.evqEscalate (h : EventsOnly s t) {q : Nat} : EventsOnly s (t.evqEscalate q) := h.ite h.setF.evqSignal

theorem EventsOnly.evqEnterPending (h : EventsOnly s t) {q : Nat} : EventsOnly s (t.evqEnterPending q) :=
  h.setEvq.setF.evqEscalate.ite h.setEvq.setF.evqSignal

theorem EventsOnly.evqToIdle (h : EventsOnly s t) {q : Nat} : EventsOnly s (t.evqToIdle q) := h.setEvq.setF.setF.setF.syncIrq

theorem EventsOnly.evqWrite (h : EventsOnly s t) {q : Nat} {r : EvRec} : EventsOnly s (t.evqWrite q r) := by
  have hw := h.setEvRec (q := q) (k := t.evqWr q) (r := { r with lost := (t.evq q).lostMark })
  unfold State.evqWrite
  refine hw.setF.setF.setEvq.ite (hw.setF.setF.setEvq.evqEnterPending.ite ?_)
  split
  · exact hw.setF.setF.setEvq
  · exact hw.setF.setF.setEvq.setEvq

theorem EventsOnly.levelWrite (h : EventsOnly s t) {src detail stamp : Nat} {rq : Nat × Nat} :
    EventsOnly s (t.levelWrite src detail stamp rq) := by
  unfold State.levelWrite
  dsimp only
  exact h.ite (h.setRoute.ite h.setRoute.evqWrite)

theorem EventsOnly.levelRise (h : EventsOnly s t) {src detail : Nat} : EventsOnly s (t.level src true detail) :=
  h.ite (h.edit.foldl fun _ _ hu => hu.levelWrite)

end

theorem State.bar2_logRing (s : State) (wr rd base n src drop : Nat) (e : List Byte) :
    (s.logRing wr rd base n src drop e).bar2 = s.bar2 := by
  unfold State.logRing
  dsimp only
  split
  · rfl
  · exact (EventsOnly.refl _).levelRise.bar2

/-- An entry in the inbound write error log changes no byte of BAR2. -/
theorem State.bar2_iwl (s : State) (cause bar off req len : Nat) : (s.iwl cause bar off req len).bar2 = s.bar2 :=
  s.bar2_logRing ..

/-! ### The bytes stored (R28, R29) -/

/-- The bytes of `l` that fall in a writable area, stored from `off` on. -/
def storeWritable (m : Memory) (off : Nat) (l : List Byte) : Memory :=
  ((List.range l.length).zip l).foldl (fun (m : Memory) (kb : Nat × Byte) =>
    if bar2Kind (off + kb.1) = 2 then memWrite m (off + kb.1) kb.2 else m) m

theorem storeWritable_concat (m : Memory) (off : Nat) (l : List Byte) (b : Byte) : storeWritable m off (l ++ [b]) =
    if bar2Kind (off + l.length) = 2 then memWrite (storeWritable m off l) (off + l.length) b else storeWritable m off l := by
  simp [storeWritable, List.range_succ, List.zip_append]

/-- A byte inside the bytes written and in a writable area reads as written, and every other one as before. -/
theorem memRead_storeWritable (m : Memory) (off : Nat) (l : List Byte) (a : Nat) : memRead (storeWritable m off l) a =
    if off ≤ a ∧ a < off + l.length ∧ bar2Kind a = 2 then l.getD (a - off) 0 else memRead m a := by
  induction l using List.reverseRecOn with
  | nil => simp [storeWritable, show ¬(off ≤ a ∧ a < off ∧ bar2Kind a = 2) by omega]
  | append_singleton l b ih =>
    rw [storeWritable_concat]
    by_cases ha : a = off + l.length
    case pos =>
      -- the last byte: what stood before has not touched it
      subst ha
      rw [if_neg (by omega)] at ih
      split <;> simp_all
    case neg =>
      have hlen : a < off + (l ++ [b]).length ↔ a < off + l.length := by simp; omega
      have hread : memRead (if bar2Kind (off + l.length) = 2 then memWrite (storeWritable m off l) (off + l.length) b
          else storeWritable m off l) a = memRead (storeWritable m off l) a := by
        split
        · exact memRead_memWrite_ne _ _ ha
        · rfl
      rw [hread, ih]
      refine ite_congr (by rw [hlen]) (fun h => ?_) fun _ => rfl
      rw [List.getD_append _ _ _ _ (by omega)]

theorem State.hostWriteBar2_eq (s : State) (off req : Nat) (l : List Byte) : s.hostWriteBar2 off req l =
    if (List.range l.length).any (fun k => bar2Kind (off + k) == 1) then
      State.iwl { s with bar2 := storeWritable s.bar2 off l } iwReadOnly 2 off req l.length
    else { s with bar2 := storeWritable s.bar2 off l } := rfl

/-- Some byte falls in a read-only area. -/
theorem any_bar2Kind_readOnly (off len : Nat) : (List.range len).any (fun k => bar2Kind (off + k) == 1) = true ↔
    ∃ a, off ≤ a ∧ a < off + len ∧ bar2Kind a = 1 := by
  simp only [List.any_eq_true, List.mem_range, beq_iff_eq]
  constructor
  · rintro ⟨k, hk, h⟩
    exact ⟨off + k, by omega, by omega, h⟩
  · rintro ⟨a, h1, h2, h⟩
    exact ⟨a - off, by omega, by rwa [Nat.add_sub_cancel' h1]⟩

theorem State.bar2_hostWriteBar2 (s : State) (off req : Nat) (l : List Byte) :
    (s.hostWriteBar2 off req l).bar2 = storeWritable s.bar2 off l := by
  rw [s.hostWriteBar2_eq]
  split
  · exact State.bar2_iwl ..
  · rfl

/-- Settles O60: the bytes stored byte for byte, and the one log entry by whether some byte falls in a read-only area. -/
theorem bar2WritesStoreOnlyWritableBytes : Obligations.Bar2WritesStoreOnlyWritableBytes := by
  unfold Obligations.Bar2WritesStoreOnlyWritableBytes
  refine ⟨fun o r l s hon => ⟨s.hostWriteBar2 o.toNat r.toNat l, storeWritable s.bar2 o.toNat l, ?runs, s.bar2_hostWriteBar2 ..,
    fun a => memRead_storeWritable .., fun h => ?writable, fun h => ?readOnly⟩, fun o r l f s hoff => ?refused⟩
  case runs =>
    show execBar2Write o r l 0 s = _
    rw [execBar2Write, State.hosted_on hon]
    rfl
  case writable =>
    rw [s.hostWriteBar2_eq, if_neg]
    rw [any_bar2Kind_readOnly]
    rintro ⟨a, h1, h2, h3⟩
    exact h a h1 h2 h3
  case readOnly => rw [s.hostWriteBar2_eq, if_pos ((any_bar2Kind_readOnly ..).2 h)]
  case refused =>
    show execBar2Write o r l f s = _
    rw [execBar2Write, State.hosted_off hoff]

end Sys2Proof.Machine

/-! O58: resets of the Crown die. Every one of them is `crownReset`, which stores registers and repeaters over a state that holds only
what survives; a reset that counts against a firmware slot (R49) stores two more fields of DECK_BOOT_STATUS. -/

namespace Sys2Proof.Machine

/-! ### Stores of registers and repeaters -/

/-- `t` is `s` but for registers and the Causeway's repeaters. -/
def RegsAndRepeaters (s t : State) : Prop := { t with regs := s.regs, brim := { t.brim with repeaters := s.brim.repeaters } } = s

section
variable {s t u : State}

@[refl] theorem RegsAndRepeaters.refl (s : State) : RegsAndRepeaters s s := rfl

theorem RegsAndRepeaters.setReg (h : RegsAndRepeaters s t) {a : Nat} {w : Word} : RegsAndRepeaters s (t.setReg a w) := h

theorem RegsAndRepeaters.setF (h : RegsAndRepeaters s t) {f : Field} {v : Nat} : RegsAndRepeaters s (t.setF f v) := h.setReg

theorem RegsAndRepeaters.setRepeater (h : RegsAndRepeaters s t) {p : Nat} {r : Repeater} :
    RegsAndRepeaters s (t.setRepeater p r) := h

theorem RegsAndRepeaters.ite {c : Prop} {_ : Decidable c} (h : RegsAndRepeaters s t) (h' : RegsAndRepeaters s u) :
    RegsAndRepeaters s (if c then t else u) := by
  split <;> assumption

theorem RegsAndRepeaters.foldl {α : Type} {f : State → α → State} {l : List α} (h : RegsAndRepeaters s t)
    (hf : ∀ u x, RegsAndRepeaters s u → RegsAndRepeaters s (f u x)) : RegsAndRepeaters s (l.foldl f t) :=
  List.foldlRecOn l f h fun u hu x _ => hf u x hu

theorem RegsAndRepeaters.causewayRelease (h : RegsAndRepeaters s t) : RegsAndRepeaters s t.causewayRelease :=
  h.foldl fun _ _ hu => hu.setRepeater.ite (hu.setRepeater.ite hu)

end

theorem State.reg_setF_ne (s : State) {f : Field} (v : Nat) {a : Nat} (h : a ≠ f.off) : (s.setF f v).reg a = s.reg a :=
  s.reg_setReg_ne _ h

theorem State.getF_eq_of_reg {s t : State} (f : Field) (h : t.reg f.off = s.reg f.off) : t.getF f = s.getF f := by
  unfold State.getF
  rw [h]

theorem State.reg_variantPools (s : State) {a : Nat} (h : a ≠ SwSharedFree.off) : s.variantPools.reg a = s.reg a := by
  unfold State.variantPools
  split
  · exact s.reg_setF_ne _ h
  · rfl

theorem State.regs_causewayRelease (s : State) : s.causewayRelease.regs = s.regs := by
  refine List.foldlRecOn (motive := fun t : State => t.regs = s.regs) _ _ rfl fun t ht p _ => ?_
  dsimp only
  split
  · exact ht
  · split <;> exact ht

/-! ### What a Crown-die reset clears (R31, R369) -/

/-- What survives a reset of the Crown die, with every register at its reset value. -/
def State.crownKept (s : State) : State :=
  { cfg := s.brim.nvm, brim := { s.brim with wdClose := none, wdWarnAt := none, parkHeld := false, thermFallAt := none },
    fuses := s.fuses, flash := s.flash, host := s.host, out := s.out, absentVariant := s.absentVariant, freeCount := s.freeCount,
    pending := s.pending }

/-- What survives, with the registers that a reset keeps; those of the CAN Lanes and SW_SHARED_FREE are set after it. -/
def State.crownRegs (s : State) : State :=
  ((((((s.crownKept.setReg DeckResetCause.off (s.reg DeckResetCause.off)).setReg PwrStatus.off (s.reg PwrStatus.off)).setF
    DeckBootStatus.attemptsA (s.getF DeckBootStatus.attemptsA)).setF DeckBootStatus.attemptsB (s.getF DeckBootStatus.attemptsB)).setF
    WdtStatus.nextToken (s.getF WdtStatus.nextToken)).setReg WakePinStatus.off (s.reg WakePinStatus.off)).setF HbxStatus.lifecycle
    s.fuses.lifecycle

theorem State.crownClear_eq (s : State) : s.crownClear =
    (List.range 16).foldl (fun t n => t.setF (CanStatus.xcvrMode n) (s.getF (CanStatus.xcvrMode n))) s.crownRegs.variantPools := rfl

theorem RegsAndRepeaters.crownClear (s : State) : RegsAndRepeaters s.crownKept s.crownClear := by
  have hr : RegsAndRepeaters s.crownKept s.crownRegs :=
    (RegsAndRepeaters.refl s.crownKept).setReg.setReg.setF.setF.setF.setReg.setF
  exact (hr.setF.ite hr).foldl fun _ _ hu => hu.setF

theorem RegsAndRepeaters.crownReset (s : State) (cause : Field) : RegsAndRepeaters s.crownKept (s.crownReset cause) := by
  have hc := (RegsAndRepeaters.crownClear s).setF (f := cause) (v := 1)
  have hw : RegsAndRepeaters s.crownKept (if s.watchdogNow then (s.crownClear.setF cause 1).setF DeckResetCause.watchdog 1
    else s.crownClear.setF cause 1) := hc.setF.ite hc
  exact (hw.setF.ite hw).causewayRelease

/-- The registers of the boot are as `crownRegs` leaves them. -/
theorem State.reg_crownClear_low (s : State) {a : Nat} (h : a < 0x100) : s.crownClear.reg a = s.crownRegs.reg a := by
  rw [s.crownClear_eq, ← s.crownRegs.reg_variantPools (a := a) (by simp only [SwSharedFree.off]; omega)]
  refine List.foldlRecOn (motive := fun t : State => t.reg a = s.crownRegs.variantPools.reg a) _ _ rfl fun t ht n _ => ?_
  rw [t.reg_setF_ne _ (by simp only [CanStatus.xcvrMode, CanStatus.off]; omega), ht]

theorem State.reg_crownClear_resetCause (s : State) : s.crownClear.reg DeckResetCause.off = s.reg DeckResetCause.off := by
  rw [s.reg_crownClear_low (by decide)]
  unfold State.crownRegs
  rw [State.reg_setF_ne _ _ (by decide), State.reg_setReg_ne _ _ (by decide), State.reg_setF_ne _ _ (by decide),
    State.reg_setF_ne _ _ (by decide), State.reg_setF_ne _ _ (by decide), State.reg_setReg_ne _ _ (by decide),
    State.reg_setReg_same]

/-- The boot starts anew, at STAGE 1 (R47). -/
theorem State.stage_crownClear (s : State) : s.crownClear.getF DeckBootStatus.stage = 1 := by
  rw [State.getF_eq_of_reg _ (s.reg_crownClear_low (by decide))]
  unfold State.crownRegs
  rw [State.getF_setF_ne _ _ _ _ (by decide), State.getF_setReg_ne _ _ _ (by decide), State.getF_setF_ne _ _ _ _ (by decide),
    State.getF_setF_ne _ _ _ _ (by decide), State.getF_setF_ne _ _ _ _ (by decide), State.getF_setReg_ne _ _ _ (by decide),
    State.getF_setReg_ne _ _ _ (by decide)]
  show bitsOf (regDefault 0x40).toNat 3 0 = 1
  decide +kernel

/-! ### The causes (R33) -/

/-- Each cause is one bit of DECK_RESET_CAUSE. -/
theorem resetCauses_bit : ∀ f ∈ resetCauses, f = ⟨DeckResetCause.off, f.lo, f.lo⟩ ∧ f.lo < 32 := by decide

theorem resetCauses_off : ∀ f ∈ resetCauses, DeckBootStatus.off ≠ f.off := by decide

/-- Recording a cause sets its bit and leaves the other causes. -/
theorem State.getF_setCause (s : State) {f g : Field} (hf : f ∈ resetCauses) (hg : g ∈ resetCauses) :
    (s.setF g 1).getF f = if f = g then 1 else s.getF f := by
  obtain ⟨ef, hf32⟩ := resetCauses_bit f hf
  obtain ⟨eg, hg32⟩ := resetCauses_bit g hg
  have fhi : f.hi = f.lo := by rw [ef]
  have ghi : g.hi = g.lo := by rw [eg]
  split
  next h =>
    subst h
    rw [s.getF_setF_same _ _ (by omega) (by omega), fhi, Nat.add_sub_cancel_left]
    rfl
  next h =>
    have hne : f.lo ≠ g.lo := fun e => h (by rw [ef, eg, e])
    exact s.getF_setF_ne _ _ _ (.inr (by omega))

/-- A cause recorded where `b`. -/
theorem State.getF_setCause_if (s : State) {f g : Field} (hf : f ∈ resetCauses) (hg : g ∈ resetCauses) (b : Bool) :
    (if b then s.setF g 1 else s).getF f = if f = g ∧ b = true then 1 else s.getF f := by
  cases b
  · simp
  · simpa using s.getF_setCause hf hg

theorem State.stage_setCause (s : State) {g : Field} (hg : g ∈ resetCauses) :
    (s.setF g 1).getF DeckBootStatus.stage = s.getF DeckBootStatus.stage := s.getF_setF_off _ _ _ (resetCauses_off g hg)

theorem State.stage_setCause_if (s : State) {g : Field} (hg : g ∈ resetCauses) (b : Bool) :
    (if b then s.setF g 1 else s).getF DeckBootStatus.stage = s.getF DeckBootStatus.stage := by
  split
  · exact s.stage_setCause hg
  · rfl

/-- A reset sets the bit of its cause, and those of the watchdog and of a FULL reset that end in the same Hatband cycle. -/
theorem State.getF_crownReset (s : State) {f cause : Field} (hf : f ∈ resetCauses) (hc : cause ∈ resetCauses) :
    (s.crownReset cause).getF f = if f = cause ∨ (f = DeckResetCause.watchdog ∧ s.watchdogNow = true) ∨
      (f = DeckResetCause.command ∧ s.fullResetNow = true) then 1 else s.getF f := by
  have hclear : s.crownClear.getF f = s.getF f :=
    State.getF_eq_of_reg f (by rw [(resetCauses_bit f hf).1]; exact s.reg_crownClear_resetCause)
  unfold State.crownReset
  dsimp only
  rw [State.getF_congr f (State.regs_causewayRelease _), State.getF_setCause_if _ hf (by decide),
    State.getF_setCause_if _ hf (by decide), State.getF_setCause _ hf hc, hclear]
  split_ifs <;> tauto

theorem State.stage_crownReset (s : State) {cause : Field} (hc : cause ∈ resetCauses) :
    (s.crownReset cause).getF DeckBootStatus.stage = 1 := by
  unfold State.crownReset
  dsimp only
  rw [State.getF_congr _ (State.regs_causewayRelease _), State.stage_setCause_if _ (by decide), State.stage_setCause_if _ (by decide),
    State.stage_setCause _ hc, s.stage_crownClear]

/-! ### What a reset leaves -/

/-- Every reset of the Crown die in full: its cause recorded, what the Brim die holds kept, the rest at reset values (R15, R31). -/
theorem State.crownReset_leaves (s : State) {cause : Field} (hc : cause ∈ resetCauses) :
    CrownResetLeaves s (s.crownReset cause) cause := by
  have hk := RegsAndRepeaters.crownReset s cause
  have key {α : Type} (π : State → α) := congrArg π hk
  refine ⟨?recorded, ?others, key State.fuses, key State.flash, key State.host, key State.absentVariant, key fun v => v.brim.nvm,
    key fun v => v.brim.keyStore, key fun v => v.brim.faultLog, key fun v => v.brim.wakes, key fun v => v.brim.cwCtrs,
    key State.cfg, key State.oldCfg, key State.ctrs, key State.strand, key State.bar0, key State.bar2,
    key fun v => v.gci.drafts, key fun v => v.gci.tickets, key fun v => v.gci.epoch, key fun v => v.buf.queues,
    key fun v => v.fwd.learnt, key fun v => v.hbx.slots, s.stage_crownReset hc⟩
  case recorded => rw [s.getF_crownReset hc hc, if_pos (.inl rfl)]
  case others =>
    intro f hf hne
    rw [s.getF_crownReset hf hc]
    exact if_congr (or_iff_right hne) rfl rfl

theorem CrownResetLeaves.stage {s t : State} {cause : Field} (h : CrownResetLeaves s t cause) :
    t.getF DeckBootStatus.stage = 1 := by
  obtain ⟨_, _, _, _, _, _, _, _, _, _, _, _, _, _, _, _, _, _, _, _, _, _, _, hstage⟩ := h
  exact hstage

/-- A store into DECK_BOOT_STATUS that spares STAGE takes nothing from what a reset leaves. -/
theorem CrownResetLeaves.setF {s t : State} {cause f : Field} (h : CrownResetLeaves s t cause) (hc : cause ∈ resetCauses)
    (v : Nat) (hoff : f.off = DeckBootStatus.off) (hbits : 3 < f.lo ∧ f.lo ≤ f.hi ∧ f.hi < 32) :
    CrownResetLeaves s (t.setF f v) cause := by
  obtain ⟨hrecorded, hothers, hfuses, hflash, hhost, hvariant, hnvm, hkeys, hlog, hwakes, hcw, hcfg, hold, hctrs, hstrand, hbar0,
    hbar2, hdrafts, htickets, hepoch, hqueues, hlearnt, hslots, hstage⟩ := h
  have hcause : ∀ g ∈ resetCauses, (t.setF f v).getF g = t.getF g := fun g hg =>
    t.getF_setF_off _ _ _ (by rw [hoff]; exact (resetCauses_off g hg).symm)
  refine ⟨(hcause _ hc).trans hrecorded, fun g hg hne => (hcause g hg).trans (hothers g hg hne), hfuses, hflash, hhost, hvariant,
    hnvm, hkeys, hlog, hwakes, hcw, hcfg, hold, hctrs, hstrand, hbar0, hbar2, hdrafts, htickets, hepoch, hqueues, hlearnt, hslots, ?_⟩
  rw [t.getF_setF_ne _ _ _ (.inr (by simp only [DeckBootStatus.stage]; omega)), hstage]

/-- Before firmware runs a boot failure only is noted, in LAST_FAIL and for firmware to report (R48). -/
theorem CrownResetLeaves.bootFail {s t : State} {cause : Field} (h : CrownResetLeaves s t cause) (hc : cause ∈ resetCauses)
    (code : Nat) : CrownResetLeaves s (t.bootFail code) cause := by
  have hf := h.setF hc code (f := DeckBootStatus.lastFail) rfl (by decide)
  have hrun : (t.setF DeckBootStatus.lastFail code).fwRunning = false := by simp [State.fwRunning, hf.stage]
  unfold State.bootFail
  simp only [hrun, Bool.false_eq_true, if_false]
  exact hf

theorem State.watchdogReset_leaves (s : State) : CrownResetLeaves s s.watchdogReset DeckResetCause.watchdog := by
  have hc : DeckResetCause.watchdog ∈ resetCauses := by decide
  have hr := s.crownReset_leaves hc
  unfold State.watchdogReset
  dsimp only
  split
  · exact hr
  · refine CrownResetLeaves.bootFail ?_ hc _
    split
    · split
      · exact hr.setF hc _ rfl (by decide)
      · exact hr.setF hc _ rfl (by decide)
    · exact hr

/-- Settles O58: each of the four commands is a reset of the Crown die, and what two of them do besides spares what it leaves. -/
theorem crownResetsKeepTheBrimDie : Obligations.CrownResetsKeepTheBrimDie := by
  unfold Obligations.CrownResetsKeepTheBrimDie
  refine ⟨?boardPin, ?crownSupply, ?watchdog, ?command⟩
  case boardPin =>
    rintro s ⟨hoff, hparked, hdegraded, hvcc⟩
    refine ⟨_, ?_, s.crownReset_leaves (by decide)⟩
    show execBoardReset s = _
    simp [execBoardReset, hoff, hparked, hdegraded, hvcc]
  case crownSupply =>
    rintro s ⟨hrun, henter, hretries⟩
    refine ⟨{ s.crownReset DeckResetCause.crownSupply with
      fabricOn := false, brim := { (s.crownReset DeckResetCause.crownSupply).brim with supplyBad := true } }, ?_,
      s.crownReset_leaves (by decide)⟩
    show execCrownSupplyFault s = _
    simp [execCrownSupplyFault, hrun, henter, Nat.not_le.2 hretries]
  case watchdog =>
    rintro s v d ⟨hd, rfl⟩
    refine ⟨_, ?_, (s.hbTo d).watchdogReset_leaves⟩
    show execWatchdogExpiry s = _
    simp only [execWatchdogExpiry, hd]
  case command =>
    rintro s v m d ⟨hd, rfl⟩
    refine ⟨_, ?_, (s.timeTo d).crownReset_leaves (by decide)⟩
    show execDeckResetAckTimeout s = _
    simp only [execDeckResetAckTimeout, hd]

end Sys2Proof.Machine

/-! O51: the fuses. Every command but TICKET_COMPLETE keeps them (`Keeps.exec`), and that one burns them only where it ends the
SEC.LIFECYCLE_ADVANCE of a ticket that runs, which adds revocations and touches neither rollback counters nor other values. -/

namespace Sys2Proof.Machine

/-- What a command's one next state keeps. -/
theorem KeptBy.keeps {s t : State} {o : Host.Outcome State Fault Refusal} (h : KeptBy s o) (e : o = .next t) : Keeps s t := by
  obtain ⟨u, rfl, hu⟩ := h
  obtain rfl : u = t := Host.Outcome.next.inj e
  exact hu

/-- A command leaves the fuses as they were, or it completes a running SEC.LIFECYCLE_ADVANCE and burns what that asks for (R410). -/
theorem exec_fuses {i : Instr} {s t : State} (e : exec i s = .next t) :
    t.fuses = s.fuses ∨ ∃ cl n x k, i = .ticketComplete cl n x ∧ s.ticket cl.val n.toNat = some k ∧ k.cmd = 0x0C17 ∧
      k.result = none ∧ t.fuses = s.lifecycleFuses k.payload := by
  have hs := Keeps.refl s
  by_cases hi : ∀ cl n x, i ≠ .ticketComplete cl n x
  case pos => exact .inl ((hs.exec hi).keeps e).fuses
  case neg =>
    push Not at hi
    obtain ⟨cl, n, x, rfl⟩ := hi
    rcases hs.execTicketComplete (client := cl) (num := n) (x := x) with h | ⟨k, hk, hrun, hcmd, h⟩
    · exact .inl (h.keeps e).fuses
    · exact .inr ⟨cl, n, x, k, rfl, hk, hcmd, hrun, (h.keeps e).fuses⟩

/-! ### What a transition burns (R410) -/

theorem bitOf_eq_testBit (x k : Nat) : bitOf x k = x.testBit k := by
  rw [bitOf, Nat.testBit_eq_decide_div_mod_eq, Bool.beq_eq_decide_eq]

theorem State.revoked_lifecycleFuses (s : State) (p : List Byte) (k : Nat) (h : bitOf s.fuses.revoked k = true) :
    bitOf (s.lifecycleFuses p).revoked k = true := by
  rw [bitOf_eq_testBit] at h ⊢
  show (s.fuses.revoked ||| leAt p 1 1).testBit k = true
  rw [Nat.testBit_or, h, Bool.true_or]

/-- Settles O51: a command burns no fuse but where `exec_fuses` says, and that burning only adds revocations. -/
theorem fusesChangeOnlyAtALifecycleAdvance : Obligations.FusesChangeOnlyAtALifecycleAdvance := by
  unfold Obligations.FusesChangeOnlyAtALifecycleAdvance
  refine ⟨?change, ?revoked, ?other⟩
  case change =>
    intro i s t e hne
    rcases exec_fuses e with h | ⟨cl, n, x, k, hi, hk, hcmd, hrun, -⟩
    · exact absurd h hne
    · exact ⟨cl, n, x, k, hi, hk, hcmd, hrun⟩
  case revoked =>
    intro i s t k e hk
    rcases exec_fuses e with h | ⟨_, _, _, _, _, _, _, _, h⟩
    · rwa [h]
    · rw [h]
      exact s.revoked_lifecycleFuses _ k hk
  case other =>
    intro i s t e
    rcases exec_fuses e with h | ⟨_, _, _, _, _, _, _, _, h⟩ <;> (rw [h]; exact ⟨rfl, rfl⟩)

end Sys2Proof.Machine

/-! O47 and O48: the state after reset. Its tables are empty, so that every register reads as the register tables say. -/

namespace Sys2Proof.Machine

/-! ### The registers (R27, R47, R54) -/

/-- After reset every register field reads as the register tables say. -/
theorem State.getF_reset (f : Field) : State.reset.getF f = bitsOf (regDefault f.off).toNat f.hi f.lo := rfl

theorem reg_mbStatus_reset : ∀ n < 16, regDefault (MbStatus.off n) = if n < 4 then 0 else 4 := by decide +kernel

theorem reg_mbOwner_reset : ∀ n < 16, regDefault (MbOwner.off n) = if n < 4 then 0x40020 else 0x18 := by decide +kernel

theorem reg_mbSeq_reset : ∀ n < 16, regDefault (MbSeq.off n) = 0xFFFFFFFF := by decide +kernel

/-- Settles O47: the mailbox registers by their reset words, the boot's by theirs; the tables of the state after reset are empty. -/
theorem resetLeavesMailboxesAndTables : Obligations.ResetLeavesMailboxesAndTables := by
  unfold Obligations.ResetLeavesMailboxesAndTables
  refine ⟨?assigned, ?unassigned, ?sequence, ?stage, ?causes, rfl, rfl, rfl, rfl, rfl⟩
  case assigned =>
    intro n hn
    have hstatus := reg_mbStatus_reset n (by omega)
    have howner := reg_mbOwner_reset n (by omega)
    rw [if_pos hn] at hstatus howner
    simp only [State.getF_reset, MbStatus.state, MbOwner.assigned, MbOwner.client, MbOwner.weight, hstatus, howner]
    decide
  case unassigned =>
    intro n hlo hn
    have hstatus := reg_mbStatus_reset n hn
    have howner := reg_mbOwner_reset n hn
    rw [if_neg (by omega)] at hstatus howner
    simp only [State.getF_reset, MbStatus.state, MbOwner.assigned, MbOwner.transport, hstatus, howner]
    decide
  case sequence =>
    intro n hn
    simp only [State.getF_reset, MbSeq.lastPosted, MbSeq.lastAnswered, MbStatus.protoErr, MbStatus.cancelled, MbStatus.tickets,
      reg_mbSeq_reset n hn, reg_mbStatus_reset n hn]
    split <;> decide
  case stage => decide +kernel
  case causes => decide +kernel

/-- Settles O48: the tables of the state after reset are empty, and its Strand counter is 0. -/
theorem resetIsCanonical : Obligations.ResetIsCanonical := by
  unfold Obligations.ResetIsCanonical
  rw [State.canonical_iff, State.countersInRange_iff]
  exact ⟨⟨⟨rfl, rfl, rfl, rfl, rfl, rfl⟩, rfl⟩, List.forall_mem_nil _, List.forall_mem_nil _, by decide⟩

end Sys2Proof.Machine

/-! O24: power-on, the resets and the supplies, each command by the power states in which it takes effect. -/

namespace Sys2Proof.Machine

theorem execBrimResetRelease_off {s : State} (h : s.brim.power = pwOff) : execBrimResetRelease s = .next (s.setPower pwWaking) := by
  simp [execBrimResetRelease, h]

theorem execBrimResetRelease_on {s : State} (h : s.brim.power ≠ pwOff) : execBrimResetRelease s = .next s := by
  simp [execBrimResetRelease, h]

theorem execBrimNvmLoaded_due {s : State} (h : s.brim.power = pwWaking ∧ s.brim.nvmLoaded = false) :
    execBrimNvmLoaded s = .next s.nvmLoad := by
  simp [execBrimNvmLoaded, h]

theorem execBrimNvmLoaded_idle {s : State} (h : s.brim.power ≠ pwWaking ∨ s.brim.nvmLoaded = true) :
    execBrimNvmLoaded s = .next s := by
  rcases h with h | h <;> simp [execBrimNvmLoaded, h]

theorem execCrownSupplyFault_resets {s : State}
    (h : s.brim.entering ≠ some pwParked ∧ (s.brim.power = pwRunning ∨ s.brim.power = pwListening))
    (hretries : s.brim.power = pwRunning → (s.brim.supplyRetries.filter (fun t => s.brim.hb < t + secC 10)).length < 3) :
    execCrownSupplyFault s = .next { s.crownReset DeckResetCause.crownSupply with
      fabricOn := false, brim := { (s.crownReset DeckResetCause.crownSupply).brim with supplyBad := true } } := by
  obtain ⟨hway, hpower⟩ := h
  have hfew : ¬(s.brim.power = pwRunning ∧ 3 ≤ (s.brim.supplyRetries.filter (fun t => s.brim.hb < t + secC 10)).length) := by
    rintro ⟨hrun, hmany⟩
    exact absurd (hretries hrun) (by omega)
  simp only [execCrownSupplyFault, beq_iff_eq, Bool.and_eq_true, Bool.or_eq_true, decide_eq_true_eq, ge_iff_le, if_neg hway,
    if_neg hfew, if_pos hpower]

theorem execCrownSupplyFault_degrades {s : State} (h : s.brim.entering ≠ some pwParked ∧ s.brim.power = pwRunning)
    (hretries : 3 ≤ (s.brim.supplyRetries.filter (fun t => s.brim.hb < t + secC 10)).length) :
    execCrownSupplyFault s = .next { (s.crownReset DeckResetCause.crownSupply).degradeSupply with
      brim := { (s.crownReset DeckResetCause.crownSupply).degradeSupply.brim with retryAt := none } } := by
  simp [execCrownSupplyFault, h, hretries]

theorem execCrownSupplyFault_idle {s : State}
    (h : s.brim.entering = some pwParked ∨ (s.brim.power ≠ pwRunning ∧ s.brim.power ≠ pwListening)) :
    execCrownSupplyFault s = .next s := by
  rcases h with h | h <;> simp [execCrownSupplyFault, h]

theorem execBoardReset_resets {s : State}
    (h : s.brim.vcc5 = true ∧ s.brim.power ≠ pwOff ∧ s.brim.power ≠ pwParked ∧ s.brim.power ≠ pwDegraded) :
    execBoardReset s = .next (s.crownReset DeckResetCause.boardPin) := by
  simp [execBoardReset, h]

theorem execBoardReset_degraded {s : State} (h : s.brim.vcc5 = true ∧ s.brim.power = pwDegraded) :
    execBoardReset s = .next (s.crownReset DeckResetCause.boardPin).retriesClear := by
  simp [execBoardReset, h, pwOff, pwParked, pwDegraded]

theorem execBoardReset_idle {s : State} (h : s.brim.vcc5 = false ∨ s.brim.power = pwOff ∨ s.brim.power = pwParked) :
    execBoardReset s = .next s := by
  rcases h with h | h | h <;> simp [execBoardReset, h]

theorem execSuppliesGood_releases {s : State}
    (h : s.brim.power = pwWaking ∧ s.brim.prev ≠ pwListening ∧ s.brim.nvmLoaded = true) :
    execSuppliesGood s =
      .next (State.setPower { s with brim := { s.brim with supplyTimer := none, supplyBad := false } } pwRunning) := by
  simp [execSuppliesGood, h]

theorem execSuppliesGood_faultEnds {s : State} (h : s.brim.power = pwRunning ∧ s.brim.supplyBad = true) :
    execSuppliesGood s = .next { s with brim := { s.brim with supplyBad := false } } := by
  simp [execSuppliesGood, h, pwRunning, pwWaking]

theorem execSuppliesGood_idle {s : State}
    (hwaking : s.brim.power = pwWaking → s.brim.prev = pwListening ∨ s.brim.nvmLoaded = false)
    (hrunning : s.brim.power = pwRunning → s.brim.supplyBad = false) : execSuppliesGood s = .next s := by
  have hrelease : ¬((s.brim.power = pwWaking ∧ s.brim.prev ≠ pwListening) ∧ s.brim.nvmLoaded = true) := by
    rintro ⟨⟨hw, hp⟩, hn⟩
    exact (hwaking hw).elim hp (by simp [hn])
  have hend : ¬(s.brim.power = pwRunning ∧ s.brim.supplyBad = true) := by
    rintro ⟨hr, hb⟩
    simp [hrunning hr] at hb
  simp only [execSuppliesGood, beq_iff_eq, bne_iff_ne, Bool.and_eq_true, if_neg hrelease, if_neg hend]

/-- Settles O24: each command by the equation of its case. -/
theorem resetCommandsComplete : Obligations.ResetCommandsComplete := by
  unfold Obligations.ResetCommandsComplete
  refine ⟨?powerOn, fun _ => execBrimResetRelease_off, fun _ => execBrimResetRelease_on, fun _ => execBrimNvmLoaded_due,
    fun _ => execBrimNvmLoaded_idle, ?supplyFault, ?supplyFaultDegrades, fun _ => execCrownSupplyFault_idle,
    fun _ => execBoardReset_resets, fun _ => execBoardReset_degraded, fun _ => execBoardReset_idle, ?pcie,
    fun _ => execSuppliesGood_releases, fun _ => execSuppliesGood_faultEnds, fun _ => execSuppliesGood_idle⟩
  case powerOn =>
    rintro s _ _ rfl rfl
    rfl
  case supplyFault =>
    rintro s _ h hretries rfl
    exact execCrownSupplyFault_resets h hretries
  case supplyFaultDegrades =>
    rintro s _ h hretries rfl
    exact execCrownSupplyFault_degrades h hretries
  case pcie =>
    rintro s _ _ rfl rfl
    rfl

end Sys2Proof.Machine

/-! O25: the steps of boot, each by its stage; the handover of a pair, the end of a switchover and the host's link. -/

namespace Sys2Proof.Machine

/-! ### ROM: straps, clocks and self-tests (R34, R36, R48, R444, R534) -/

theorem execStrapSample_equal {a b c : BitVec 5} {s : State}
    (h : s.crownUp = true ∧ s.getF DeckBootStatus.stage = 1 ∧ s.fw.straps = false) (hequal : a = b ∧ b = c) :
    execStrapSample a b c s = .next (s.strapsTake a.toNat) := by
  simp [execStrapSample, h, hequal]

/-- Samples that differ count an attempt; the tenth halts the boot. -/
theorem execStrapSample_differ {a b c : BitVec 5} {s : State}
    (h : s.crownUp = true ∧ s.getF DeckBootStatus.stage = 1 ∧ s.fw.straps = false) (hdiffer : a ≠ b ∨ b ≠ c) :
    execStrapSample a b c s = .next (if s.fw.strapTries < 9 then { s with fw := { s.fw with strapTries := s.fw.strapTries + 1 } }
      else (State.bootFail { s with fw := { s.fw with strapTries := s.fw.strapTries + 1 } } 0x01).crownHalt) := by
  obtain ⟨hup, hstage, hstraps⟩ := h
  have hne : ¬(a = b ∧ b = c) := not_and_or.2 hdiffer
  have htries : s.fw.strapTries + 1 ≥ 10 ↔ ¬ s.fw.strapTries < 9 := by omega
  simp only [execStrapSample, hup, hstage, hstraps, htries, ite_not, beq_iff_eq, Bool.and_eq_true, if_neg hne]
  rfl

theorem execStrapSample_idle {a b c : BitVec 5} {s : State}
    (h : s.crownUp = false ∨ s.getF DeckBootStatus.stage ≠ 1 ∨ s.fw.straps = true) : execStrapSample a b c s = .next s := by
  rcases h with h | h | h <;> simp [execStrapSample, h]

theorem execCrownClocksStable_due {s : State}
    (h : s.crownUp = true ∧ s.getF DeckBootStatus.stage = 1 ∧ s.fw.straps = true ∧ s.fabricOn = false) :
    execCrownClocksStable s = .next (State.setF { s with fabricOn := true } DeckBootStatus.stage 2) := by
  simp [execCrownClocksStable, h]

theorem execCrownClocksStable_idle {s : State}
    (h : s.crownUp = false ∨ s.getF DeckBootStatus.stage ≠ 1 ∨ s.fw.straps = false ∨ s.fabricOn = true) :
    execCrownClocksStable s = .next s := by
  rcases h with h | h | h | h <;> simp [execCrownClocksStable, h]

theorem execBootBistDone_passes {n : Fin 4} {b : Bool} {s : State}
    (h : s.crownUp = true ∧ s.getF DeckBootStatus.stage = 2 ∧ s.fw.bist = false) (hpass : n.val ≤ 2 ∧ b = true) :
    execBootBistDone n b s = .next { s with fw := { s.fw with bist := true } } := by
  simp [execBootBistDone, h, hpass]

theorem execBootBistDone_fails {n : Fin 4} {b : Bool} {s : State}
    (h : s.crownUp = true ∧ s.getF DeckBootStatus.stage = 2 ∧ s.fw.bist = false) (hfail : 2 < n.val ∨ b = false) :
    execBootBistDone n b s = .next (s.bootFail 0x02).crownHalt := by
  rcases hfail with hrows | hlogic
  · simp [execBootBistDone, h, Nat.not_le.2 hrows]
  · simp [execBootBistDone, h, hlogic]

theorem execBootBistDone_idle {n : Fin 4} {b : Bool} {s : State}
    (h : s.crownUp = false ∨ s.getF DeckBootStatus.stage ≠ 2 ∨ s.fw.bist = true) : execBootBistDone n b s = .next s := by
  rcases h with h | h | h <;> simp [execBootBistDone, h]

theorem execHatboxSelftestDone_due {b : Bool} {s : State}
    (h : s.crownUp = true ∧ s.getF DeckBootStatus.stage = 2 ∧ s.fw.bist = true) :
    execHatboxSelftestDone b s = .next (if b then s.hatboxPass else (s.hbxLock.bootFail 0x03).crownHalt) := by
  simp [execHatboxSelftestDone, h]

theorem execHatboxSelftestDone_idle {b : Bool} {s : State}
    (h : s.crownUp = false ∨ s.getF DeckBootStatus.stage ≠ 2 ∨ s.fw.bist = false) : execHatboxSelftestDone b s = .next s := by
  rcases h with h | h | h <;> simp [execHatboxSelftestDone, h]

/-! ### First-light and firmware (R36, R41, R52) -/

theorem execFirstLightVerify_due {b : Bool} {s : State} (h : s.crownUp = true ∧ s.getF DeckBootStatus.stage = 3) :
    execFirstLightVerify b s = .next ((s.firstLight b).setF DeckBootStatus.stage 4) := by
  simp [execFirstLightVerify, h]

theorem execFirstLightVerify_idle {b : Bool} {s : State} (h : s.crownUp = false ∨ s.getF DeckBootStatus.stage ≠ 3) :
    execFirstLightVerify b s = .next s := by
  rcases h with h | h <;> simp [execFirstLightVerify, h]

theorem execFirmwareImageVerify_due {b : Bool} {s : State} (h : s.crownUp = true ∧ s.getF DeckBootStatus.stage = 4) :
    execFirmwareImageVerify b s = .next (if s.bootSrc == 2 then s.recoveryStart else s.firmwareLoad b) := by
  simp [execFirmwareImageVerify, h]

theorem execFirmwareImageVerify_idle {b : Bool} {s : State} (h : s.crownUp = false ∨ s.getF DeckBootStatus.stage ≠ 4) :
    execFirmwareImageVerify b s = .next s := by
  rcases h with h | h <;> simp [execFirmwareImageVerify, h]

theorem execFirmwareReady_due {s : State} (h : s.crownUp = true ∧ s.getF DeckBootStatus.stage = 5) :
    execFirmwareReady s = .next s.firmwareStart := by
  simp [execFirmwareReady, h]

theorem execFirmwareReady_idle {s : State} (h : s.crownUp = false ∨ s.getF DeckBootStatus.stage ≠ 5) :
    execFirmwareReady s = .next s := by
  rcases h with h | h <;> simp [execFirmwareReady, h]

/-! ### Causeway handover, switchover and the host's link (R39, R52, R53, R463) -/

theorem execCausewayHandover_due {p : Fin 4} {s : State} {t : Nat} (h : s.handoverDue p = some t) :
    execCausewayHandover p s = .next (s.handover p) := by
  simp [execCausewayHandover, h]

theorem execCausewayHandover_idle {p : Fin 4} {s : State} (h : s.handoverDue p = none) :
    execCausewayHandover p s = .next s := by
  simp [execCausewayHandover, h]

theorem execCausewayHandoverTimeout_due {p : Fin 4} {s : State} {t : Nat} (h : s.handoverDue p = some t) :
    execCausewayHandoverTimeout p s = .next (((s.hbTo t).handover p).occur 0x003 p) := by
  simp only [execCausewayHandoverTimeout, h]

theorem execCausewayHandoverTimeout_idle {p : Fin 4} {s : State} (h : s.handoverDue p = none) :
    execCausewayHandoverTimeout p s = .next s := by
  simp only [execCausewayHandoverTimeout, h]

theorem execSwitchReady_running {s : State} {m n a t : Nat} (h : s.fw.switching = some (m, n, a, t)) :
    execSwitchReady s = .next ((State.syncHbx { s with
      fw := { s.fw with loaded := some (s.bankImage a).length, verified := true },
      hbx := { s.hbx with prodFw := s.rootProduction (imgKey s.fwHeader) } }).switchEnd m n stDone) := by
  simp only [execSwitchReady, h]

theorem execSwitchReady_idle {s : State} (h : s.fw.switching = none) : execSwitchReady s = .next s := by
  simp only [execSwitchReady, h]

theorem execSwitchReadyTimeout_running {s : State} {m n a t : Nat} (h : s.fw.switching = some (m, n, a, t)) :
    execSwitchReadyTimeout s =
      .next (State.switchEnd { s.timeTo t with fw := { (s.timeTo t).fw with active := a } } m n stSwitchFailed) := by
  simp only [execSwitchReadyTimeout, h]

theorem execSwitchReadyTimeout_idle {s : State} (h : s.fw.switching = none) : execSwitchReadyTimeout s = .next s := by
  simp only [execSwitchReadyTimeout, h]

theorem execHostLinkUp_trains {g w : Fin 5} {s : State}
    (h : s.pcie.laneGated = false ∧ g.val ≠ 0 ∧ (w.val = 1 ∨ w.val = 2 ∨ w.val = 4)) :
    execHostLinkUp g w s = .next (State.hostTarget ((State.setF { s with pcie := { s.pcie with linkUp := true } }
      TrStatus.hostGen g).setF TrStatus.hostWidth w) (s.targetAsleep 3)) := by
  obtain ⟨hgate, hgen, hwidth⟩ := h
  rcases hwidth with hw | hw | hw <;> simp [execHostLinkUp, hgate, hgen, hw]

theorem execHostLinkUp_idle {g w : Fin 5} {s : State} (h : s.pcie.laneGated = true ∨ g.val = 0 ∨ w.val = 0 ∨ w.val = 3) :
    execHostLinkUp g w s = .next s := by
  rcases h with h | h | h | h <;> simp [execHostLinkUp, h]

/-- Settles O25: each command by the equation of its case. -/
theorem bootCommandsComplete : Obligations.BootCommandsComplete := by
  unfold Obligations.BootCommandsComplete
  refine ⟨fun _ _ _ _ => execStrapSample_equal, ?strapsDiffer, fun _ _ _ _ => execStrapSample_idle,
    fun _ => execCrownClocksStable_due, fun _ => execCrownClocksStable_idle,
    fun _ _ _ => execBootBistDone_passes, fun _ _ _ => execBootBistDone_fails, fun _ _ _ => execBootBistDone_idle,
    fun _ _ => execHatboxSelftestDone_due, fun _ _ => execHatboxSelftestDone_idle,
    fun _ _ => execFirstLightVerify_due, fun _ _ => execFirstLightVerify_idle,
    fun _ _ => execFirmwareImageVerify_due, fun _ _ => execFirmwareImageVerify_idle,
    fun _ => execFirmwareReady_due, fun _ => execFirmwareReady_idle,
    fun _ _ _ h => ⟨execCausewayHandover_due h, execCausewayHandoverTimeout_due h⟩,
    fun _ _ h => ⟨execCausewayHandover_idle h, execCausewayHandoverTimeout_idle h⟩, ?switchDone, ?switchFails,
    fun _ h => ⟨execSwitchReady_idle h, execSwitchReadyTimeout_idle h⟩,
    fun _ _ _ => execHostLinkUp_trains, fun _ _ _ => execHostLinkUp_idle, fun _ _ _ _ _ _ _ => rfl⟩
  case strapsDiffer =>
    rintro a b c s _ h hdiffer rfl
    exact execStrapSample_differ h hdiffer
  case switchDone =>
    rintro s m n a t _ h rfl
    exact execSwitchReady_running h
  case switchFails =>
    rintro s m n a t _ h rfl
    exact execSwitchReadyTimeout_running h

end Sys2Proof.Machine

/-! O3: the image commands of the DECK class. A body that goes PENDING is answered with its new ticket, and DECK.FW_SWITCH keeps its
mailbox SERVING; which of the two a body does is its own equation, by the conditions under which it takes effect. -/

namespace Sys2Proof.Machine

/-- An accepted request whose body goes PENDING is answered with its new ticket (R78). -/
theorem State.request_pends {s : State} {cmd : Nat} {q : Req} {body : Body} {locks : List Nat} (h : s.accepts cmd q = true)
    (hb : body (s.ctx cmd q) (s.served cmd q) = (s.served cmd q).pend (s.ctx cmd q) locks) :
    s.request cmd q body = ((s.served cmd q).openTicket (s.ctx cmd q) locks).2.reply cmd q stPending []
      ((s.served cmd q).openTicket (s.ctx cmd q) locks).1 :=
  State.request_reply h hb (Quiet.openTicket _ _ _) (by decide) (by decide)

/-- A piece of a firmware image stands in the inactive bank, and what was loaded there is gone (R117). -/
def State.pieceBanked (u : State) (c : Ctx) (p : Piece) : State :=
  let v := (u.pieceNote c p).bankWrite (1 - u.fw.active) p.off p.data
  { v with fw := { v.fw with loaded := none, verified := false } }

/-! ### Images by a bulk descriptor or in pieces (R116, R117) -/

section
variable {c : Ctx} {u : State} {b : Bulk} {p : Piece} (hbulk : c.bulk = some b) (hok : b.ok [0] = true)
  (hlock : u.locked c.client [imageLock] = false)
include hbulk hok hlock

theorem bodyFwLoad_bulk (hhost : (b.seg && u.spiMb c.mb) = false) (hlen : b.len ≤ imgMax itFirmware + 224) :
    bodyFwLoad c u = u.pend c [imageLock] := by
  simp [bodyFwLoad, hbulk, hok, hlock, hhost, Nat.not_lt.2 hlen]

theorem bodyFwLoad_piece (hseg : (b.seg && u.spiMb c.mb) = true)
    (hpiece : u.pieceOf c b.len (imgMax itFirmware + 224) = some p) (hlast : p.last = false) :
    bodyFwLoad c u = (u.pieceBanked c p).answer stDone := by
  simp only [bodyFwLoad, hbulk, hok, hlock, hseg, hpiece, hlast]
  rfl

/-- With the last piece the image is checked in its bank. -/
theorem bodyFwLoad_lastPiece (hseg : (b.seg && u.spiMb c.mb) = true)
    (hpiece : u.pieceOf c b.len (imgMax itFirmware + 224) = some p) (hlast : p.last = true) :
    bodyFwLoad c u = ((u.pieceBanked c p).fwLoaded p.total).2.answer ((u.pieceBanked c p).fwLoaded p.total).1 := by
  simp only [bodyFwLoad, hbulk, hok, hlock, hseg, hpiece, hlast]
  rfl

theorem bodyConfigProgram_bulk (hhost : (b.seg && u.spiMb c.mb) = false) (hlen : b.len ≤ imgMax itConfig + 224) :
    bodyConfigProgram c u = u.pend c [imageLock] := by
  simp [bodyConfigProgram, hbulk, hok, hlock, hhost, Nat.not_lt.2 hlen]

/-- A piece is stored and answered; the last one goes PENDING like the command. -/
theorem bodyConfigProgram_piece (hseg : (b.seg && u.spiMb c.mb) = true)
    (hpiece : u.pieceOf c b.len (imgMax itConfig + 224) = some p) :
    bodyConfigProgram c u =
      if p.last then u.pend c [imageLock] else (u.configStored c.client c.cmd p).answer stDone := by
  simp only [bodyConfigProgram, hbulk, hok, hlock, hseg, hpiece]
  rfl

end

/-! ### The image in the inactive bank (R50 to R52, R116) -/

theorem bodyFwVerify_loaded {c : Ctx} {u : State} (hlock : u.locked c.client [imageLock] = false)
    (hload : u.fw.loaded.isSome = true) : bodyFwVerify c u = u.pend c [imageLock] := by
  simp [bodyFwVerify, hlock, Option.isNone_eq_false_iff.2 hload]

theorem bodyFwProgram_unlocked {c : Ctx} {u : State} (hlock : u.locked c.client [imageLock] = false) :
    bodyFwProgram c u = u.pend c [imageLock] := by
  simp [bodyFwProgram, hlock]

/-- What DECK.FW_SWITCH leaves for the new firmware: no draft, no ticket that runs, the watchdog serviced, STAGE 11 (R51, R52). -/
def State.switchPrepared (u : State) : State :=
  (((u.gci.tickets.filter (fun t => t.result.isNone)).foldl (fun (s : State) t => s.abortTicket t)
    { u with gci := { u.gci with drafts := [] } }).watchdogPet.setF DeckBootStatus.stage 11)

theorem bodyFwSwitch_switches {c : Ctx} {u : State} (hflags : leAt c.payload 0 4 ≤ 1) (hverified : u.fw.verified = true)
    (hidle : bitOf (leAt c.payload 0 4) 0 = true ∨
      (u.gci.drafts = [] ∧ u.gci.tickets.filter (fun t => t.result.isNone) = [])) :
    bodyFwSwitch c u = (⟨stHold, [], 0, 0⟩, { u.switchPrepared with fw := { u.switchPrepared.fw with
      switching := some (c.mb, u.switchPrepared.getF (MbSeq.lastPosted c.mb), u.switchPrepared.fw.active,
        u.switchPrepared.after (msC 2)),
      active := 1 - u.switchPrepared.fw.active } }) := by
  have hgo : ¬((!bitOf (leAt c.payload 0 4) 0 && (!u.gci.drafts.isEmpty ||
      !(u.gci.tickets.filter (fun t => t.result.isNone)).isEmpty)) = true) := by
    rcases hidle with hforce | ⟨hdrafts, htickets⟩
    · simp [hforce]
    · simp [hdrafts, htickets]
  simp only [bodyFwSwitch, hverified, if_neg (Nat.not_lt.2 hflags), if_neg hgo, Bool.not_true, Bool.false_eq_true, if_false]
  rfl

/-- Settles O3: what each body gives, answered as an accepted request is. -/
theorem deckImageCommandsComplete : Obligations.DeckImageCommandsComplete := by
  unfold Obligations.DeckImageCommandsComplete
  refine ⟨?loadBulk, ?loadPiece, ?loadLastPiece, ?verify, ?switch, ?program, ?configBulk,
    fun _ _ _ _ => bodyConfigProgram_piece⟩
  case loadBulk =>
    rintro q s _ _ b rfl rfl h hbulk hok hlock hhost hlen
    exact congrArg _ (State.request_pends h (bodyFwLoad_bulk hbulk hok hlock hhost hlen))
  case loadPiece =>
    rintro c u b p _ hbulk hok hlock hseg hpiece hlast rfl
    exact bodyFwLoad_piece hbulk hok hlock hseg hpiece hlast
  case loadLastPiece =>
    rintro c u b p _ hbulk hok hlock hseg hpiece hlast rfl
    exact bodyFwLoad_lastPiece hbulk hok hlock hseg hpiece hlast
  case verify =>
    rintro q s _ _ rfl rfl h hlock hload
    exact congrArg _ (State.request_pends h (bodyFwVerify_loaded hlock hload))
  case switch =>
    rintro q s _ _ _ rfl rfl h hflags hverified hidle rfl
    exact congrArg _ (State.request_finish h (bodyFwSwitch_switches hflags hverified hidle))
  case program =>
    rintro q s _ _ rfl rfl h hlock
    exact congrArg _ (State.request_pends h (bodyFwProgram_unlocked hlock))
  case configBulk =>
    rintro q s _ _ b rfl rfl h hbulk hok hlock hhost hlen
    exact congrArg _ (State.request_pends h (bodyConfigProgram_bulk hbulk hok hlock hhost hlen))

end Sys2Proof.Machine

/-! O52 and O53: requests that a check of R92 refuses. Such a request is answered without its command's body; what answering it
touches is its mailbox, the event concentrator and what the requests share, and in that neither tickets nor what drafts hold. -/

namespace Sys2Proof.Machine

/-! ### What the event concentrator keeps (R450 to R465) -/

/-- A property of states that the event concentrator's own doings keep: changes of its state and of the outputs, and stores of fields
of its registers, which begin at 0x20000. -/
structure ConcentratorKeeps (P : State → Prop) : Prop where
  edit : ∀ {t : State} {evt : EvtState} {out : List Emit}, P t → P { t with evt := evt, out := out }
  setF : ∀ {t : State} {f : Field} {v : Nat}, P t → 0x20000 ≤ f.off → P (t.setF f v)

namespace ConcentratorKeeps

section
variable {P : State → Prop} {t : State}

theorem ite {c : Prop} {_ : Decidable c} {u : State} (h : P t) (h' : P u) : P (if c then t else u) := by
  split <;> assumption

theorem status_off (q : Nat) : 0x20000 ≤ EvqStatus.off q := Nat.le_add_right_of_le (by decide)

theorem wrPtr_off (q : Nat) : 0x20000 ≤ EvqWrPtr.off q := Nat.le_add_right_of_le (by decide)

variable (k : ConcentratorKeeps P)
include k

theorem msixDeliver (h : P t) {q : Nat} : P (t.msixDeliver q) :=
  ite h (ite (k.edit h) (k.setF (k.setF (k.edit h) (status_off q)) (status_off q)))

theorem evqSignal (h : P t) {q : Nat} : P (t.evqSignal q) := by
  have hm : P (if t.getF (EvqStatus.state q) == evqPending && t.evqFor q 3 then t.msixDeliver q else t) := ite (k.msixDeliver h) h
  exact k.edit (ite (k.setF (k.setF hm (status_off q)) (status_off q)) hm)

theorem evqEscalate (h : P t) {q : Nat} : P (t.evqEscalate q) := ite h (k.evqSignal (k.setF h (status_off q)))

theorem evqEnterPending (h : P t) {q : Nat} : P (t.evqEnterPending q) :=
  ite (k.evqEscalate (k.setF (k.edit h) (status_off q))) (k.evqSignal (k.setF (k.edit h) (status_off q)))

theorem evqToIdle (h : P t) {q : Nat} : P (t.evqToIdle q) :=
  k.edit (k.setF (k.setF (k.setF (k.edit h) (status_off q)) (status_off q)) (status_off q))

theorem evqWrite (h : P t) {q : Nat} {r : EvRec} : P (t.evqWrite q r) := by
  have hw : P (((t.setEvRec q (t.evqWr q) { r with lost := (t.evq q).lostMark }).setF (EvqWrPtr.index q)
      ((t.evqWr q + 1) % 64)).setF (EvqWrPtr.wrap q) ((t.evqWr q + 1) % 128 / 64)) :=
    k.setF (k.setF (k.edit h) (wrPtr_off q)) (wrPtr_off q)
  unfold State.evqWrite
  refine ite (k.edit hw) (ite (k.evqEnterPending (k.edit hw)) ?_)
  split
  · exact k.edit hw
  · exact k.edit (k.edit hw)

theorem levelWrite (h : P t) {src detail stamp : Nat} {rq : Nat × Nat} : P (t.levelWrite src detail stamp rq) := by
  unfold State.levelWrite
  exact ite h (ite (k.edit h) (k.evqWrite (k.edit h)))

theorem levelFall (h : P t) {src : Nat} {rq : Nat × Nat} : P (t.levelFall src rq) := by
  have hmine : ∀ {l : List Nat} {v : State} {q : Nat}, P v →
      P (l.foldl (fun v n => v.setEvRec q n { v.evRec q n with src := 0xFFF }) v) :=
    fun {l} _ _ hv => List.foldlRecOn l _ hv fun _ hw _ _ => k.edit hw
  unfold State.levelFall
  exact ite (k.edit h) (ite (k.evqToIdle (hmine (k.edit h))) (ite (k.edit (hmine (k.edit h))) (hmine (k.edit h))))

theorem level (h : P t) {src detail : Nat} {cond : Bool} : P (t.level src cond detail) :=
  ite h (List.foldlRecOn _ _ (k.edit h) fun _ hu _ _ => ite (k.levelWrite hu) (k.levelFall hu))

end

end ConcentratorKeeps

section
variable {s t u : State}

/-! ### What taking and answering a request touches -/

/-- A draft but for when it was last used (R94) and the storage it takes. -/
def Draft.content (d : Draft) : Nat × Nat × List (Nat × Nat) := (d.handle, d.client, d.changes)

/-- What of the state that requests share an answer leaves as it was: tickets, the epoch, segment buffers, a running reset of the
configuration, and what the drafts hold. -/
structure GciKept (g g' : GciState) : Prop where
  tickets : g'.tickets = g.tickets
  epoch : g'.epoch = g.epoch
  seg : g'.seg = g.seg
  resetRunning : g'.resetRunning = g.resetRunning
  drafts : g'.drafts.map Draft.content = g.drafts.map Draft.content

/-- `t` is `s` but for registers, the mailbox blocks, the event concentrator, what has been put out, and what `GciKept` leaves open. -/
structure MailboxOnly (s t : State) : Prop where
  rest : { t with regs := s.regs, evt := s.evt, out := s.out, bar0 := s.bar0, gci := s.gci } = s
  gci : GciKept s.gci t.gci

@[refl] theorem MailboxOnly.refl (s : State) : MailboxOnly s s := ⟨rfl, rfl, rfl, rfl, rfl, rfl⟩

/-- Registers, mailbox blocks, the concentrator's state and the outputs may take any value, and what requests share the values that
`GciKept` lets it. -/
theorem MailboxOnly.edit (h : MailboxOnly s t) {regs : Tab Word} {evt : EvtState} {out : List Emit} {bar0 : Memory} {gci : GciState}
    (htickets : gci.tickets = t.gci.tickets := by rfl) (hepoch : gci.epoch = t.gci.epoch := by rfl)
    (hseg : gci.seg = t.gci.seg := by rfl) (hreset : gci.resetRunning = t.gci.resetRunning := by rfl)
    (hdrafts : gci.drafts.map Draft.content = t.gci.drafts.map Draft.content := by rfl) :
    MailboxOnly s { t with regs := regs, evt := evt, out := out, bar0 := bar0, gci := gci } :=
  ⟨h.rest, htickets.trans h.gci.tickets, hepoch.trans h.gci.epoch, hseg.trans h.gci.seg, hreset.trans h.gci.resetRunning,
    hdrafts.trans h.gci.drafts⟩

/-- What `MailboxOnly` leaves open, written over `s`. -/
theorem MailboxOnly.eq_over (h : MailboxOnly s t) :
    t = { s with regs := t.regs, evt := t.evt, out := t.out, bar0 := t.bar0, gci := t.gci } :=
  congrArg (fun x : State => { x with regs := t.regs, evt := t.evt, out := t.out, bar0 := t.bar0, gci := t.gci }) h.rest

theorem MailboxOnly.ite {c : Prop} {_ : Decidable c} (h : MailboxOnly s t) (h' : MailboxOnly s u) :
    MailboxOnly s (if c then t else u) := by
  split <;> assumption

theorem MailboxOnly.setF (h : MailboxOnly s t) {f : Field} {v : Nat} : MailboxOnly s (t.setF f v) := h.edit

theorem MailboxOnly.concentratorKeeps : ConcentratorKeeps (MailboxOnly s) := ⟨fun h => h.edit, fun h _ => h.setF⟩

theorem MailboxOnly.mbDoorbell (h : MailboxOnly s t) {n w : Nat} : MailboxOnly s (t.mbDoorbell n w) :=
  h.setF.setF.setF.edit.ite h.setF

theorem MailboxOnly.visitEnd (h : MailboxOnly s t) : MailboxOnly s t.visitEnd := h.edit.ite h

theorem MailboxOnly.mbWriteReq (h : MailboxOnly s t) {cmd : Nat} {q : Req} : MailboxOnly s (t.mbWriteReq cmd q) := h.edit.ite h

theorem MailboxOnly.visit (h : MailboxOnly s t) {c : Nat} : MailboxOnly s (t.visit c) := h.edit

theorem MailboxOnly.taken (h : MailboxOnly s t) {cmd : Nat} {q : Req} : MailboxOnly s (t.taken cmd q) :=
  h.visitEnd.mbWriteReq.mbDoorbell.visit.setF

theorem MailboxOnly.draftUse (h : MailboxOnly s t) {cmd : Nat} {q : Req} : MailboxOnly s (t.draftUse cmd q) := by
  have hused : (t.gci.drafts.map fun (d : Draft) => if d.handle == q.txn.toNat then { d with lastUse := t.strand } else d).map
      Draft.content = t.gci.drafts.map Draft.content := by
    rw [List.map_map]
    refine List.map_congr_left fun d _ => ?_
    dsimp only [Function.comp]
    split <;> rfl
  exact (h.edit (hdrafts := hused)).ite h

theorem MailboxOnly.noteRetry (h : MailboxOnly s t) {cmd : Nat} {q : Req} {r : Resp} : MailboxOnly s (t.noteRetry cmd q r) :=
  h.ite h.edit

/-- A mailbox's event leaves the mailboxes' owners as they were. -/
theorem State.transport_syncMbLevel (s : State) (n : Nat) (m : Fin 16) :
    (s.syncMbLevel n).getF (MbOwner.transport m) = s.getF (MbOwner.transport m) := by
  have hm : MbOwner.off m < 0x20000 := by simp only [MbOwner.off]; omega
  refine ConcentratorKeeps.level (P := fun t => t.getF (MbOwner.transport m) = s.getF (MbOwner.transport m)) ⟨fun h => h, ?_⟩ rfl
  intro t f v h hf
  rw [State.getF_setF_off _ _ _ _ (Nat.ne_of_lt (hm.trans_le hf)), h]

/-- The response written and the mailbox in RESPONSE, in a mailbox that is no cascade client's. -/
theorem State.mbRespond_client (s : State) {n : Fin 16} (hn : s.getF (MbOwner.transport n) ≠ 2) (cmd seq : Nat) (r : Resp) :
    ∃ bar0, s.mbRespond n cmd seq r =
      ((State.setF { s with bar0 := bar0 } (MbStatus.state n) mbResponse).setF (MbSeq.lastAnswered n) seq).syncMbLevel n := by
  refine ⟨_, if_neg ?_⟩
  rw [State.transport_syncMbLevel, State.getF_setF_off _ _ _ _ (by simp [MbOwner.transport, MbOwner.off, MbSeq.lastAnswered, MbSeq.off]),
    State.getF_setF_off _ _ _ _ (by simp [MbOwner.transport, MbOwner.off, MbStatus.state, MbStatus.off])]
  rw [Bool.and_eq_true, beq_iff_eq, beq_iff_eq]
  exact fun h => hn h.2

/-- The answer in a mailbox that another Deck's requests do not use (R513). -/
theorem MailboxOnly.mbRespond (h : MailboxOnly s t) {n : Fin 16} {cmd seq : Nat} {r : Resp}
    (hn : t.getF (MbOwner.transport n) ≠ 2) : MailboxOnly s (t.mbRespond n cmd seq r) := by
  obtain ⟨bar0, e⟩ := t.mbRespond_client hn cmd seq r
  rw [e]
  exact concentratorKeeps.level (MailboxOnly.edit h).setF.setF

end

/-! ### Requests that are refused (R61, R92) -/

/-- A command of the catalogue is a request with a body of its own: each of the 116 dispatches to one. -/
theorem exec_gci {i : Instr} {cmd : Nat} {q : Req} (h : gciOf i = some (cmd, q)) (s : State) :
    ∃ body, exec i s = .next (s.request cmd q body) := by
  cases i <;> cases h <;> exact ⟨_, rfl⟩

section
variable {s : State} {cmd : Nat} {q : Req}

/-- A request that a check refuses is answered without its body. -/
theorem State.request_refused (h : s.comes cmd q = true) {r : Resp} (hr : (s.taken cmd q).precheck cmd q = some r) (body : Body) :
    s.request cmd q body =
      (((s.taken cmd q).draftUse cmd q).noteRetry cmd q r).mbRespond q.mb.val cmd q.seq.toNat r := by
  obtain ⟨hm, hidle, hnew, -⟩ := State.comes_spec h
  simp [State.request, hm, h, State.serveTaken, s.taken_lastPosted cmd q hidle hnew, hr]

theorem State.noteRetry_regs (s : State) (cmd : Nat) (q : Req) (r : Resp) : (s.noteRetry cmd q r).regs = s.regs := by
  unfold State.noteRetry
  split <;> rfl

theorem State.taken_transport (s : State) (cmd : Nat) (q : Req) :
    (s.taken cmd q).getF (MbOwner.transport q.mb.val) = s.getF (MbOwner.transport q.mb.val) :=
  (State.getF_congr _ (State.draftUse_regs _ cmd q)).symm.trans (s.served_owner cmd q)

/-- A mailbox reached through PCIe or SPI is none of the cascade's. -/
theorem State.mbClient_transport {n : Nat} (h : s.mbClient n = true) : s.getF (MbOwner.transport n) ≠ 2 := by
  simp only [State.mbClient, State.mbReached, Bool.or_eq_true, Bool.and_eq_true, beq_iff_eq] at h
  omega

/-! ### Headers (R61) -/

theorem headerBad_iff (q : Req) (s : State) :
    headerBad q q.seq.toNat (s.getF (MbOwner.transport q.mb.val) == 1) = true ↔ s.headerRefused q := by
  simp only [headerBad, State.headerRefused, Bool.or_eq_true, Bool.and_eq_true, decide_eq_true_eq, bne_iff_ne, beq_iff_eq, ne_eq,
    not_true_eq_false, false_or, BitVec.toNat_eq, or_assoc, gt_iff_lt]
  rfl

/-- A taken request has the header that its mailbox's transport and its SEQ say. -/
theorem State.headerBad_taken (h : s.comes cmd q = true) :
    headerBad q ((s.taken cmd q).getF (MbSeq.lastPosted q.mb.val)) ((s.taken cmd q).getF (MbOwner.transport q.mb.val) == 1) = true ↔
      s.headerRefused q := by
  obtain ⟨-, hidle, hnew, -⟩ := State.comes_spec h
  rw [s.taken_lastPosted cmd q hidle hnew, s.taken_transport, headerBad_iff]

/-- Neither a switchover nor a running reset of the configuration keeps the taken request (check 1 of R92). -/
theorem State.taken_served (h : s.getF DeckBootStatus.stage ≠ 11 ∧ (s.gci.resetRunning = false ∨ servedInReset cmd = true)) :
    ((s.taken cmd q).getF DeckBootStatus.stage == 11) = false ∧
      ((s.taken cmd q).gci.resetRunning && !servedInReset cmd) = false := by
  rw [s.taken_low cmd q _ (by decide), (MailboxOnly.refl s).taken.gci.resetRunning]
  exact ⟨by simpa using h.1, by rw [Bool.and_eq_false_iff, Bool.not_eq_false']; exact h.2⟩

theorem State.draftUse_refused (h : (s.precheckTxn cmd q).isSome = true) : s.draftUse cmd q = s := by
  simp [State.draftUse, Option.isSome_iff_ne_none.1 h]

/-- A request refused by one of the checks 1 to 7, but not for the time being, changes nothing but by the answer. -/
theorem State.request_refusedTxn (h : s.comes cmd q = true) {st : Nat} (hst : st ≠ stBusyRetry)
    (hr : (s.taken cmd q).precheckTxn cmd q = some ⟨st, [], 0, 0⟩) (body : Body) :
    s.request cmd q body = (s.taken cmd q).reply cmd q st := by
  rw [State.request_refused h (r := ⟨st, [], 0, 0⟩) (by simp [State.precheck, hr]), State.draftUse_refused (by simp [hr]),
    State.noteRetry_of_ne _ _ _ _ hst]
  rfl

end

/-- Settles O52: the request's body does not run, and taking it, noting it and answering it keep what `MailboxOnly` says. -/
theorem firstFailingCheckIsAnswered : Obligations.FirstFailingCheckIsAnswered := by
  intro i cmd q s r hi hc hr
  obtain ⟨body, e⟩ := exec_gci hi s
  have hn : (((s.taken cmd q).draftUse cmd q).noteRetry cmd q r).getF (MbOwner.transport q.mb.val) ≠ 2 := by
    rw [State.getF_congr _ (State.noteRetry_regs ..), State.getF_congr _ (State.draftUse_regs ..), s.taken_transport]
    exact State.mbClient_transport (State.comes_spec hc).1
  have h := (MailboxOnly.refl s).taken.draftUse.noteRetry.mbRespond (cmd := cmd) (seq := q.seq.toNat) (r := r) hn
  refine ⟨_, e.trans (congrArg _ (State.request_refused hc hr body)), rfl, ?_⟩
  generalize State.mbRespond _ _ _ _ _ = t at h
  obtain ⟨htickets, hepoch, hseg, -, hdrafts⟩ := h.gci
  rw [h.eq_over]
  exact ⟨rfl, rfl, rfl, rfl, rfl, rfl, rfl, rfl, rfl, rfl, rfl, rfl, rfl, rfl, rfl, rfl, rfl, rfl, rfl, rfl, htickets, hepoch, hseg,
    hdrafts⟩

/-- Settles O53: what the header and the command's code say is answered by the checks 2 and 3. -/
theorem badHeaderIsAnsweredAndNothingRuns : Obligations.BadHeaderIsAnsweredAndNothingRuns := by
  unfold Obligations.BadHeaderIsAnsweredAndNothingRuns
  refine ⟨?header, ?unknown⟩
  case header =>
    intro i cmd q s hi hc hserved hbad
    obtain ⟨body, e⟩ := exec_gci hi s
    obtain ⟨hstage, hreset⟩ := State.taken_served (q := q) hserved
    have hr : (s.taken cmd q).precheckTxn cmd q = some ⟨stBadHeader, [], 0, 0⟩ := by
      simp [State.precheckTxn, (State.headerBad_taken hc).2 hbad, hstage, hreset]
    rw [e, State.request_refusedTxn hc (by decide) hr body]
  case unknown =>
    rintro i cmd q s hi hc hserved ⟨hgood, hleft⟩ hrow
    obtain ⟨body, e⟩ := exec_gci hi s
    obtain ⟨hstage, hreset⟩ := State.taken_served (q := q) hserved
    have hheader := Bool.eq_false_iff.2 (mt (State.headerBad_taken hc).1 hgood)
    have hr : (s.taken cmd q).precheckTxn cmd q = some ⟨stUnknownCommand, [], 0, 0⟩ := by
      simp [State.precheckTxn, hheader, hleft, hstage, hreset, hrow]
    rw [e, State.request_refusedTxn hc (by decide) hr body]

end Sys2Proof.Machine

/-! O23 and O55: the mailbox registers and the frames of the SPI transport. A doorbell and a CANCEL are each either accepted, and then
change the mailbox, or refused, and then set PROTO_ERR. -/

namespace Sys2Proof.Machine

section
variable {s : State} {n : Nat} {w : Nat}

/-! ### The state machine of a mailbox (R55, R56) -/

theorem State.mbDoorbell_accepted (h : s.getF (MbStatus.state n) = mbIdle ∧ bitsOf w 31 16 = 0x5A5A ∧
      bitsOf w 15 0 ≠ s.getF (MbSeq.lastPosted n)) :
    s.mbDoorbell n w =
      { ((s.setF (MbStatus.state n) mbPosted).setF (MbSeq.lastPosted n) (bitsOf w 15 0)).setF (MbStatus.cancelled n) 0 with
        gci := { s.gci with arrival := tabSet ctrDefault s.gci.arrival n (s.gci.arrivals + 1), arrivals := s.gci.arrivals + 1 } } := by
  obtain ⟨hidle, hring, hnew⟩ := h
  exact if_pos (by simp [hidle, hring, hnew])

theorem State.mbDoorbell_refused (h : s.getF (MbStatus.state n) ≠ mbIdle ∨ bitsOf w 31 16 ≠ 0x5A5A ∨
      bitsOf w 15 0 = s.getF (MbSeq.lastPosted n)) :
    s.mbDoorbell n w = s.setF (MbStatus.protoErr n) 1 := by
  refine if_neg ?_
  rcases h with h | h | h <;> simp [h]

theorem State.mbCancel_posted (h : s.getF (MbStatus.state n) = mbPosted) :
    s.mbCancel n = (s.setF (MbStatus.state n) mbIdle).setF (MbStatus.cancelled n) 1 := if_pos (by simp [h])

theorem State.mbCancel_refused (h : s.getF (MbStatus.state n) ≠ mbPosted) : s.mbCancel n = s.setF (MbStatus.protoErr n) 1 :=
  if_neg (by simp [h])

theorem State.mbAck_response (h : s.getF (MbStatus.state n) = mbResponse) :
    s.mbAck n = (s.setF (MbStatus.state n) mbIdle).syncMbLevel n := if_pos (by simp [h])

/-- An ACK for which no reset waits. -/
theorem State.ackWrite_response (h : s.getF (MbStatus.state n) = mbResponse)
    (hreset : ∀ d, ((s.setF (MbStatus.state n) mbIdle).syncMbLevel n).gci.fullReset ≠ some (n, d)) :
    s.ackWrite n = (s.setF (MbStatus.state n) mbIdle).syncMbLevel n := by
  simp only [State.ackWrite, State.mbAck_response h]
  split
  · rfl
  · next m d hm =>
    refine if_neg fun hn => hreset d ?_
    simp only [Bool.and_eq_true, beq_iff_eq] at hn
    rw [hm, hn.2]

/-- The ACK that a DECK.RESET with scope FULL waits for (R105). -/
theorem State.ackWrite_reset {d : Nat} (h : s.getF (MbStatus.state n) = mbResponse)
    (hreset : ((s.setF (MbStatus.state n) mbIdle).syncMbLevel n).gci.fullReset = some (n, d)) :
    s.ackWrite n = ((s.setF (MbStatus.state n) mbIdle).syncMbLevel n).crownReset DeckResetCause.command := by
  simp [State.ackWrite, State.mbAck_response h, hreset, h]

theorem State.ackWrite_idle (h : s.getF (MbStatus.state n) ≠ mbResponse) : s.ackWrite n = s := by
  have hack : s.mbAck n = s := if_neg (by simp [h])
  simp only [State.ackWrite, hack]
  split
  · rfl
  · simp [h]

/-! ### What PROTO_ERR leaves (R56) -/

theorem State.protoErr_setF (s : State) (n : Nat) : (s.setF (MbStatus.protoErr n) 1).getF (MbStatus.protoErr n) = 1 :=
  s.getF_setF_same _ _ (by simp [MbStatus.protoErr]) (by simp [MbStatus.protoErr])

theorem State.getF_setF_protoErr (s : State) (n : Nat) :
    ∀ f ∈ [MbStatus.state n, MbStatus.cancelled n, MbStatus.tickets n], (s.setF (MbStatus.protoErr n) 1).getF f = s.getF f := by
  intro f hf
  refine s.getF_setF_disj _ f 1 (by simp [MbStatus.protoErr]) (by simp [MbStatus.protoErr]) ?_ ?_ <;>
    fin_cases hf <;> simp [MbStatus.protoErr, MbStatus.state, MbStatus.cancelled, MbStatus.tickets]

theorem State.setF_restored (s : State) (f : Field) (v : Nat) : { s.setF f v with regs := s.regs } = s := rfl

/-! ### A posted mailbox (R55, R56) -/

theorem State.getF_gci (s : State) (g : GciState) (f : Field) : State.getF { s with gci := g } f = s.getF f := rfl

theorem State.getF_mbDoorbell_accepted (h : s.getF (MbStatus.state n) = mbIdle ∧ bitsOf w 31 16 = 0x5A5A ∧
      bitsOf w 15 0 ≠ s.getF (MbSeq.lastPosted n)) :
    (s.mbDoorbell n w).getF (MbStatus.state n) = mbPosted ∧ (s.mbDoorbell n w).getF (MbSeq.lastPosted n) = bitsOf w 15 0 := by
  rw [State.mbDoorbell_accepted h]
  constructor
  · rw [State.getF_gci, State.getF_setF_ne _ _ _ _ (.inr (by simp [MbStatus.cancelled, MbStatus.state])),
      State.getF_setF_off _ _ _ _ (by simp [MbStatus.state, MbStatus.off, MbSeq.lastPosted, MbSeq.off]),
      State.getF_setF_same _ _ _ (by simp [MbStatus.state]) (by simp [MbStatus.state])]
    rfl
  · rw [State.getF_gci, State.getF_setF_off _ _ _ _ (by simp [MbStatus.cancelled, MbStatus.off, MbSeq.lastPosted, MbSeq.off]),
      State.getF_setF_same _ _ _ (by simp [MbSeq.lastPosted]) (by simp [MbSeq.lastPosted])]
    exact Nat.mod_eq_of_lt (bitsOf_lt w 15 0)

end

/-! ### The commands -/

theorem exec_mbDoorbell_reached {s : State} {n : Fin 16} {b : Bool} (w : Word) (h : s.mbReached n (b2n b) = true) :
    exec (.mbDoorbell n b w) s = .next (s.hosted (s.mbDoorbell n w.toNat)) := by
  simp [exec, execMbDoorbell, h]

theorem exec_mbAck_reached {s : State} {n : Fin 16} {b : Bool} (h : s.mbReached n (b2n b) = true) :
    exec (.mbAck n b) s = .next (s.hosted (s.ackWrite n)) := by
  simp [exec, execAck, h]

theorem exec_mbCancel_reached {s : State} {n : Fin 16} {b : Bool} (h : s.mbReached n (b2n b) = true) :
    exec (.mbCancel n b) s = .next (s.hosted (s.mbCancel n)) := by
  simp [exec, execCancel, h]

/-- Settles O23: the mailbox by its state machine, each SPI frame by its opcode and length. -/
theorem mailboxAndSpiCommandsComplete : Obligations.MailboxAndSpiCommandsComplete := by
  unfold Obligations.MailboxAndSpiCommandsComplete
  refine ⟨?doorbell, ?doorbellRefused, ?otherTransport, ?ack, ?ackReset, ?ackIdle, ?cancel, ?cancelRefused, ?writeFrame, ?writeCut,
    ?writeOpcode, ?readFrame, ?readRefused, ?readCut, ?readOpcode, fun _ => rfl, ?early, ?earlyCut⟩
  case doorbell =>
    rintro n b w s v hr h rfl
    rw [exec_mbDoorbell_reached w hr, State.mbDoorbell_accepted h]
    rfl
  case doorbellRefused =>
    intro n b w s hr h
    rw [exec_mbDoorbell_reached w hr, State.mbDoorbell_refused h]
  case otherTransport =>
    intro n b w s h
    simp [exec, execMbDoorbell, execAck, execCancel, h]
  case ack =>
    rintro n b s v hr h ⟨rfl, hreset⟩
    rw [exec_mbAck_reached hr, State.ackWrite_response h hreset]
  case ackReset =>
    rintro n b s v d hr h ⟨rfl, hreset⟩
    rw [exec_mbAck_reached hr, State.ackWrite_reset h hreset]
  case ackIdle =>
    intro n b s hr h
    rw [exec_mbAck_reached hr, State.ackWrite_idle h, s.hosted_self]
  case cancel =>
    intro n b s hr h
    rw [exec_mbCancel_reached hr, State.mbCancel_posted h]
  case cancelRefused =>
    intro n b s hr h
    rw [exec_mbCancel_reached hr, State.mbCancel_refused h]
  case writeFrame =>
    rintro f s k hop ⟨rfl, hlen⟩
    simp [exec, execSpiWriteFrame, hop, Nat.not_lt.2 hlen]
  case writeCut =>
    rintro f s ⟨hop, hlen⟩
    simp [exec, execSpiWriteFrame, hop, hlen]
  case writeOpcode =>
    intro f s hop
    simp [exec, execSpiWriteFrame, hop]
  case readFrame =>
    rintro f s o ⟨hop, hlen⟩ hst rfl
    simp [exec, execSpiReadFrame, hop, Nat.not_lt.2 hlen, hst, show leBytes 1 0xA0 = [0xA0] from rfl]
  case readRefused =>
    rintro f s t ⟨hop, hlen⟩ ⟨rfl, hst⟩
    simp [exec, execSpiReadFrame, hop, Nat.not_lt.2 hlen, hst]
  case readCut =>
    rintro f s ⟨hop, hlen⟩
    simp [exec, execSpiReadFrame, hop, hlen]
  case readOpcode =>
    intro f s hop
    simp [exec, execSpiReadFrame, hop]
  case early =>
    rintro f s ⟨hop, hlen⟩
    simp [exec, execSpiCsEarlyRise, hop, hlen]
  case earlyCut =>
    intro f s h
    show Host.Outcome.next (s.hosted (if _ then _ else _)) = _
    rw [if_neg, s.hosted_self]
    rcases h with h | h <;> simp [h]

/-! ### Doorbells that are refused, repeated or written through BAR0 (R56) -/

/-- A transport reaches a mailbox as before its doorbell. -/
theorem State.mbReached_mbDoorbell (s : State) (n w tr : Nat) : (s.mbDoorbell n w).mbReached n tr = s.mbReached n tr := by
  have howner : ∀ g : Field, g.off = MbOwner.off n → (s.mbDoorbell n w).getF g = s.getF g := fun g hg =>
    s.mbDoorbell_other n w g (by simp [hg, MbOwner.off, MbStatus.off]) (by simp [hg, MbOwner.off, MbSeq.off])
  simp only [State.mbReached, State.flag, howner (MbOwner.assigned n) rfl, howner (MbOwner.transport n) rfl]

theorem State.coreOn_mbDoorbell (s : State) (n w : Nat) : (s.mbDoorbell n w).coreOn = s.coreOn := by
  simp only [State.coreOn, s.mbDoorbell_brim]

/-- A write of MB_DOORBELL through BAR0 is a doorbell through PCIe (R54, R64). -/
theorem State.busWrite_doorbell (s : State) (n : Fin 16) (w : Nat) :
    s.busWrite (mbBase n + 8) w = if s.mbReached n 0 then s.mbDoorbell n w else s := by
  have hn := n.isLt
  have habsent : absentBlock (mbBase n + 8) = false := by
    simp [absentBlock, mbBase]
    omega
  have hblock : (mbBase n + 8 - 0x10000) / 0x1000 = n ∧ (mbBase n + 8) % 0x1000 = 8 := by
    simp only [mbBase]
    omega
  have harea : 0x10000 ≤ mbBase n + 8 ∧ mbBase n + 8 < 0x20000 := by
    simp only [mbBase]
    omega
  rw [State.busWrite, if_neg (by simp [habsent]), if_pos (by simpa using harea), hblock.1, hblock.2]
  cases h : s.mbReached n 0 <;> simp [State.mbWord, h]

/-- Settles O55: a refused doorbell or CANCEL sets PROTO_ERR, and a repeated doorbell is refused because its mailbox is POSTED. -/
theorem refusedDoorbellChangesNothingElse : Obligations.RefusedDoorbellChangesNothingElse := by
  unfold Obligations.RefusedDoorbellChangesNothingElse
  refine ⟨?doorbell, ?cancel, ?repeated, ?bar0, ?off⟩
  case doorbell =>
    rintro n b w s ⟨hon, hr⟩ h
    rw [exec_mbDoorbell_reached w hr, State.mbDoorbell_refused h, State.hosted_on hon]
    exact ⟨_, rfl, s.protoErr_setF n, s.getF_setF_protoErr n, fun _ ha => s.reg_setF_ne _ ha, s.setF_restored _ _⟩
  case cancel =>
    rintro n b s ⟨hon, hr⟩ h
    rw [exec_mbCancel_reached hr, State.mbCancel_refused h, State.hosted_on hon]
    exact ⟨_, rfl, s.protoErr_setF n, s.getF_setF_protoErr n, fun _ ha => s.reg_setF_ne _ ha, s.setF_restored _ _⟩
  case repeated =>
    rintro n b w s ⟨hon, hr⟩ h
    obtain ⟨hposted, hseq⟩ := State.getF_mbDoorbell_accepted h
    have hfirst : exec (.mbDoorbell n b w) s = .next (s.mbDoorbell n w.toNat) := by
      rw [exec_mbDoorbell_reached w hr, State.hosted_on hon]
    have hsecond : exec (.mbDoorbell n b w) (s.mbDoorbell n w.toNat) =
        .next ((s.mbDoorbell n w.toNat).setF (MbStatus.protoErr n) 1) := by
      rw [exec_mbDoorbell_reached w ((s.mbReached_mbDoorbell ..).trans hr), State.hosted_on ((s.coreOn_mbDoorbell ..).trans hon),
        State.mbDoorbell_refused (.inl (by rw [hposted]; decide))]
    refine ⟨_, _, hfirst, hsecond, ?_, State.protoErr_setF .., ?_, rfl, rfl⟩
    · rw [State.getF_setF_protoErr _ _ _ (by simp), hposted]
    · rw [State.getF_setF_off _ _ _ _ (by simp [MbStatus.protoErr, MbStatus.off, MbSeq.lastPosted, MbSeq.off]), hseq]
  case bar0 =>
    intro n req w s
    have hn := n.isLt
    have hoff : (BitVec.ofNat 24 (mbBase n + 8)).toNat = mbBase n + 8 := by
      simp only [BitVec.toNat_ofNat, mbBase]
      omega
    have halign : (4 : BitVec 13).toNat = 4 ∧ (mbBase n + 8) % 4 = 0 := ⟨rfl, by simp only [mbBase]; omega⟩
    rw [exec_registerWrite_bar0, hoff, s.hostWriteBar0_aligned _ _ halign, s.busWrite_doorbell]
    rfl
  case off =>
    intro n b w s hoff
    exact ⟨congrArg _ (State.hosted_off hoff _), congrArg _ (State.hosted_off hoff _)⟩

end Sys2Proof.Machine

/-! O36: units from other Decks, each by the state of its port, its damage, its length and its turn, and the times of discovery. -/

namespace Sys2Proof.Machine

/-! ### Frames and records (R231, R501) -/

section
variable {s : State} {p : Fin 2} {l : List Byte} (c : Fin 8) (d e : Fin 4) {b : Fin 6} (r : BitVec 14) (u : Upset)

theorem execEthUnit_down (h : s.flag (PortStatus.linkUp (20 + p)) = false) : execEthUnit p c d b l s = .next s := by
  simp [execEthUnit, h]

theorem execEthUnit_damaged (h : s.flag (PortStatus.linkUp (20 + p)) = true ∧ b.val ≠ 0) :
    execEthUnit p c d b l s = .next (s.unitBad p b.val) := by
  simp [execEthUnit, h]

/-- What a good frame does, by its length and by whom the port takes frames from. -/
theorem execEthUnit_good (h : s.flag (PortStatus.linkUp (20 + p)) = true ∧ b.val = 0) :
    execEthUnit p c d b l s = .next
      (if l.length < 60 then s.incCasc p 0
       else if s.par (oChan (20 + p)) 0x0103 < l.length + 26 then s.inc (oChan (20 + p)) cEth 7
       else if s.pierShut p utEth then s.pierRx p utEth l.length
       else if (s.pierRx p utEth l.length).apart d then (s.pierRx p utEth l.length).creditBack p c (unitCells l)
       else (s.pierRx p utEth l.length).rxPush (20 + p) (ethFinish l) true false none (some d.val) (some (c.val, unitCells l))) := by
  simp [execEthUnit, h]

theorem execRecordUnit_down (h : s.flag (PortStatus.linkUp (20 + p)) = false) : execRecordUnit p c d e b r l u s = .next s := by
  simp [execRecordUnit, h]

theorem execRecordUnit_damaged (h : s.flag (PortStatus.linkUp (20 + p)) = true ∧ b.val ≠ 0) :
    execRecordUnit p c d e b r l u s = .next (s.unitBad p b.val) := by
  simp [execRecordUnit, h]

theorem execRecordUnit_good (h : s.flag (PortStatus.linkUp (20 + p)) = true ∧ b.val = 0) :
    execRecordUnit p c d e b r l u s = .next
      (if l.length < 16 then s.incCasc p 0
       else if s.pierShut p utRecord then s.pierRx p utRecord (l.length + 2)
       else ((s.pierRx p utRecord (l.length + 2)).creditBack p c (unitCells ((0 : Byte) :: 0 :: l))).recordIn p c d e r.toNat l u) := by
  simp [execRecordUnit, h]

end

/-- Settles O36: each command by the equation of its case. -/
theorem pierUnitCommandsComplete : Obligations.PierUnitCommandsComplete := by
  unfold Obligations.PierUnitCommandsComplete
  refine ⟨?ethTaken, ?ethShut, ?ethLength, ?damaged, ?down, ?record, ?recordShort, ?reqTaken, ?reqTurn, ?cplTaken, ?cplTurn,
    ?evtTaken, ?evtTurn, ?deadline, ?noDeadline, ?acting, ?notActing, ?unreachable, ?noneLost⟩
  case ethTaken =>
    rintro p c d b l s v ⟨hup, hgood, hmin, hmax⟩ ⟨rfl, hshut⟩
    show execEthUnit p c d b l s = _
    rw [execEthUnit_good c d ⟨hup, hgood⟩, if_neg (Nat.not_lt.2 hmin), if_neg (Nat.not_lt.2 hmax), if_neg (by simp [hshut])]
  case ethShut =>
    rintro p c d b l s ⟨hup, hgood, hmin, hmax, hshut⟩
    show execEthUnit p c d b l s = _
    rw [execEthUnit_good c d ⟨hup, hgood⟩, if_neg (Nat.not_lt.2 hmin), if_neg (Nat.not_lt.2 hmax), if_pos hshut]
  case ethLength =>
    intro p c d b l s h
    have hgood := execEthUnit_good (l := l) c d h
    exact ⟨fun hmin => hgood.trans (congrArg _ (if_pos hmin)),
      fun hmin hmax => hgood.trans (congrArg _ ((if_neg (Nat.not_lt.2 hmin)).trans (if_pos hmax)))⟩
  case damaged => exact fun p c d e b r l u s h => ⟨execEthUnit_damaged c d h, execRecordUnit_damaged c d e r u h⟩
  case down => exact fun p c d e b r l u s h => ⟨execEthUnit_down c d h, execRecordUnit_down c d e r u h⟩
  case record =>
    rintro p c d e b r l u s v ⟨hup, hgood, hmin⟩ rfl
    show execRecordUnit p c d e b r l u s = _
    rw [execRecordUnit_good c d e r u ⟨hup, hgood⟩, if_neg (Nat.not_lt.2 hmin)]
  case recordShort =>
    rintro p c d e b r l u s ⟨hup, hgood, hmin⟩
    show execRecordUnit p c d e b r l u s = _
    rw [execRecordUnit_good c d e r u ⟨hup, hgood⟩, if_pos hmin]
  case reqTaken =>
    rintro p d c b n m k q s t r a v ⟨rfl, rfl⟩ ht rfl
    show execReqUnit p d c b n m k q s = _
    simp only [execReqUnit, ht, bne_iff_ne, ne_eq, ite_not]
  case reqTurn =>
    rintro p d c b n m k q s v rfl ht
    show execReqUnit p d c b n m k q s = _
    simp only [execReqUnit, ht]
  case cplTaken =>
    rintro p d e n m b o l s t a v rfl ht rfl
    show execCplUnit p d e n m b o l s = _
    simp only [execCplUnit, ht, bne_iff_ne, ne_eq, ite_not]
  case cplTurn =>
    rintro p d e n m b o l s v rfl ht
    show execCplUnit p d e n m b o l s = _
    simp only [execCplUnit, ht]
  case evtTaken =>
    rintro p d e m n r s t a v rfl ht rfl
    show execEvtUnit p d e m n r s = _
    simp only [execEvtUnit, ht, bne_iff_ne, ge_iff_le]
  case evtTurn =>
    rintro p d e m n r s v rfl ht
    show execEvtUnit p d e m n r s = _
    simp only [execEvtUnit, ht]
  case deadline =>
    rintro s t v ⟨h, rfl⟩
    show execDiscoveryDeadline s = _
    simp only [execDiscoveryDeadline, h]
  case noDeadline =>
    intro s h
    show execDiscoveryDeadline s = _
    simp only [execDiscoveryDeadline, h]
  case acting =>
    rintro s t v ⟨h, rfl⟩
    show execActingDelayExpiry s = _
    simp only [execActingDelayExpiry, h]
  case notActing =>
    intro s h
    show execActingDelayExpiry s = _
    simp only [execActingDelayExpiry, h]
  case unreachable =>
    rintro s f v w h rfl rfl
    show execRequestUnreachableTimeout s = _
    simp only [execRequestUnreachableTimeout, h, ge_iff_le]
  case noneLost =>
    intro s h
    show execRequestUnreachableTimeout s = _
    simp only [execRequestUnreachableTimeout, h]

end Sys2Proof.Machine

/-! O4: the common verbs of every class. What an accepted request is answered with follows from the equation of its body: a query's
body answers in the state as it is, and a configuration command's stages its changes in the caller's draft. -/

namespace Sys2Proof.Machine

-- One theorem at a time: those that wait for the kernel would each hold a thread with its whole stack.
set_option Elab.async false

/-! ### How a body's answer reaches the caller (R60, R92) -/

section
variable {s u : State} {cmd : Nat} {q : Req} {body : Body} {pay : List Byte}

/-- An accepted request whose body takes its effect and answers DONE. -/
theorem State.request_done (h : s.accepts cmd q = true) (hb : body (s.ctx cmd q) (s.served cmd q) = u.answer stDone pay)
    (hq : Quiet (s.served cmd q) u) : s.request cmd q body = u.reply cmd q stDone pay :=
  State.request_reply h hb hq (by decide) (by decide)

/-- An accepted request whose body answers DONE and changes nothing. -/
theorem State.request_query (h : s.accepts cmd q = true)
    (hb : body (s.ctx cmd q) (s.served cmd q) = (s.served cmd q).answer stDone pay) :
    s.request cmd q body = (s.served cmd q).reply cmd q stDone pay :=
  State.request_done h hb (Quiet.refl _)

/-- An accepted request that stages changes in the caller's draft (R90, R93, R95). -/
theorem State.request_stages {d : Draft} {ch : List (Nat × Nat)} (h : s.accepts cmd q = true)
    (hb : body (s.ctx cmd q) (s.served cmd q) = (s.served cmd q).stage (s.ctx cmd q) ch pay)
    (hd : (s.served cmd q).draft (s.ctx cmd q).client (s.ctx cmd q).txn = some d)
    (hfree : (s.served cmd q).locked (s.ctx cmd q).client (ch.map fun kv => lockOf kv.1) = false ∧
      (s.served cmd q).draftRoom (s.ctx cmd q) = true) :
    s.request cmd q body = ((s.served cmd q).putChanges (s.ctx cmd q) d ch).reply cmd q stDone pay :=
  State.request_done h (hb.trans (State.stage_ok hd hfree.1 hfree.2 pay)) (Quiet.of_regs rfl)

end

/-! ### What the bodies answer (R87 to R89) -/

section
variable {c : Ctx} {u : State} {es : List (Nat × Nat × List Byte)} {n m : Nat}

theorem bodyGet_known (hes : getEntries c.payload = .ok es)
    (hgood : firstBad (getJudge (c.cmd / 256) (orefOf c.payload).key) 0 es = none) :
    bodyGet c u = u.answer stDone (c.payload.take 12 ++ u.getEntriesOut c (orefOf c.payload).key es) := by
  simp only [bodyGet, hes, hgood]

theorem bodySet_inRange (hes : getEntries c.payload = .ok es)
    (hgood : firstBad (u.setJudge c (orefOf c.payload).key es) 0 es = none)
    (hlock : u.locked c.client (es.map fun e => lockOf (pkey (orefOf c.payload).key e.1)) = false) :
    bodySet c u = u.stage c (es.map fun e => (pkey (orefOf c.payload).key e.1, leVal e.2.2)) := by
  simp only [bodySet, hes, hgood, hlock, Bool.false_eq_true, if_false]

theorem bodyList_indexed {r : TypeRow} {l : List Nat} (hrow : typeRow (orefOf c.payload).typ = some r) (hidx : r.usesIdx = true)
    (hl : l = u.occupied c (orefOf c.payload)) :
    bodyList c u = u.answer stDone (leBytes 2 (l.take 250).length ++ leBytes 2 0 ++
      leBytes 4 (if l.length ≤ 250 then noIdx else (l.take 250).getLastD 0 + 1) ++ (l.take 250).flatMap (leBytes 4)) := by
  subst hl
  simp only [bodyList, hrow, hidx, Bool.not_true, Bool.false_eq_true, if_false]

/-- The OREF names a secure association. -/
abbrev Ctx.namesAssoc (c : Ctx) : Prop := c.cmd / 256 = cSec ∧ (orefOf c.payload).typ = 0x1C

/-- The OREF names the counters of the Causeway. -/
abbrev Ctx.namesCauseway (c : Ctx) : Prop := c.cmd / 256 = cFault ∧ (orefOf c.payload).typ = 0x01

/-- An object of the SEC class is none of the FAULT class. -/
theorem Ctx.namesCauseway.not_assoc (h : c.namesCauseway) : ¬ c.namesAssoc :=
  fun h' => absurd (h.1.symm.trans h'.1) (by decide)

theorem bodyStats_counters (hcount : statCount (c.cmd / 256) (orefOf c.payload) = some (n, m)) (hassoc : ¬ c.namesAssoc)
    (hcauseway : ¬ c.namesCauseway) :
    bodyStats c u = u.answer stDone (u.ctrBytes (orefOf c.payload).key (c.cmd / 256) n) := by
  unfold bodyStats
  simp only [Bool.and_eq_true, beq_iff_eq]
  rw [if_neg hassoc, if_neg hcauseway, hcount]

theorem bodyStats_assoc (h : c.namesAssoc) :
    bodyStats c u = u.answer stDone (leBytes 8 (u.assoc (orefOf c.payload).chan (orefOf c.payload).idx).nextPn ++
      leBytes 8 (u.assoc (orefOf c.payload).chan (orefOf c.payload).idx).frames ++
      leBytes 8 (u.assoc (orefOf c.payload).chan (orefOf c.payload).idx).octets) := by
  unfold bodyStats
  simp only [Bool.and_eq_true, beq_iff_eq]
  exact if_pos h

theorem bodyStats_causeway (h : c.namesCauseway) :
    bodyStats c u = u.answer stDone ((List.range 16).flatMap fun i => leBytes 8 (tabGet ctrDefault u.brim.cwCtrs i)) := by
  unfold bodyStats
  simp only [Bool.and_eq_true, beq_iff_eq]
  rw [if_neg h.not_assoc]
  exact if_pos h

theorem bodyClearStats_counters (hcount : statCount (c.cmd / 256) (orefOf c.payload) = some (m, n)) (hassoc : ¬ c.namesAssoc)
    (hcauseway : ¬ c.namesCauseway) :
    bodyClearStats c u = State.answer (if c.cmd / 256 == cSpan then
        (u.clearCtrs (orefOf c.payload).key (c.cmd / 256) n).clearAccounts (orefOf c.payload).span
      else u.clearCtrs (orefOf c.payload).key (c.cmd / 256) n) stDone := by
  unfold bodyClearStats
  simp only [Bool.and_eq_true, beq_iff_eq]
  rw [if_neg hassoc, if_neg hcauseway, hcount]

theorem bodyClearStats_assoc (h : c.namesAssoc) :
    bodyClearStats c u = (u.setAssoc (orefOf c.payload).chan (orefOf c.payload).idx
      { u.assoc (orefOf c.payload).chan (orefOf c.payload).idx with frames := 0, octets := 0 }).answer stDone := by
  unfold bodyClearStats
  simp only [Bool.and_eq_true, beq_iff_eq]
  exact if_pos h

theorem bodyClearStats_causeway (h : c.namesCauseway) :
    bodyClearStats c u = State.answer { u with brim := { u.brim with cwCtrs := [] } } stDone := by
  unfold bodyClearStats
  simp only [Bool.and_eq_true, beq_iff_eq]
  rw [if_neg h.not_assoc]
  exact if_pos h

end

/-! ### What CLEAR_STATS leaves -/

/-- Clearing counters changes no register. -/
theorem Quiet.clearCtrs (u : State) (o cls n : Nat) : Quiet u (u.clearCtrs o cls n) := by
  induction n with
  | zero => exact Quiet.refl u
  | succ n ih => exact ih.trans (Quiet.of_regs rfl)

/-- Settles O4: each verb by its body's equation. -/
theorem commonVerbsComplete : Obligations.CommonVerbsComplete := by
  unfold Obligations.CommonVerbsComplete
  refine ⟨?get, ?set, ?list, ?stats, ?statsAssoc, ?statsCauseway, ?clear, ?clearAssoc, ?clearCauseway⟩
  case get =>
    rintro cls q s _ _ es rfl rfl h hes hgood
    exact congrArg _ (State.request_query h (bodyGet_known hes hgood))
  case set =>
    rintro cls q s _ _ d es _ rfl rfl h hes - hgood rfl hd ⟨hlock, hroom⟩
    refine congrArg _ (State.request_stages h (bodySet_inRange hes hgood hlock) hd ⟨?_, hroom⟩)
    rwa [List.map_map]
  case list =>
    rintro cls q s _ _ r l rfl rfl h hrow hidx hl
    exact congrArg _ (State.request_query h (bodyList_indexed hrow hidx hl))
  case stats =>
    rintro cls q s _ _ n m rfl rfl h hcount ⟨hassoc, hcauseway⟩
    exact congrArg _ (State.request_query h (bodyStats_counters hcount hassoc hcauseway))
  case statsAssoc =>
    rintro cls q s _ _ rfl rfl h hassoc
    exact congrArg _ (State.request_query h (bodyStats_assoc hassoc))
  case statsCauseway =>
    rintro cls q s _ _ rfl rfl h hcauseway
    exact congrArg _ (State.request_query h (bodyStats_causeway hcauseway))
  case clear =>
    rintro cls q s _ _ n m rfl rfl h hcount ⟨hassoc, hcauseway⟩
    refine congrArg _ (State.request_done h (bodyClearStats_counters hcount hassoc hcauseway) ?_)
    split
    · exact (Quiet.clearCtrs ..).trans (Quiet.of_regs rfl)
    · exact Quiet.clearCtrs ..
  case clearAssoc =>
    rintro cls q s _ _ rfl rfl h hassoc
    exact congrArg _ (State.request_done h (bodyClearStats_assoc hassoc) (Quiet.of_regs rfl))
  case clearCauseway =>
    rintro cls q s _ _ rfl rfl h hcauseway
    exact congrArg _ (State.request_done h (bodyClearStats_causeway hcauseway) (Quiet.of_regs rfl))

end Sys2Proof.Machine

/-! O1 and O2: the queries and the control commands of the DECK class. -/

namespace Sys2Proof.Machine

-- One theorem at a time: those that wait for the kernel would each hold a thread with its whole stack.
set_option Elab.async false

/-! ### DECK.IDENTIFY (R104) -/

/-- What DECK.IDENTIFY answers a caller: from its first byte, the fields of R104. -/
def State.identity (u : State) (c : Ctx) : List Byte :=
  leBytes 2 (if u.absentVariant then 0x8632 else 0x8640) ++ leBytes 1 Config.stepping.toNat ++
    leBytes 1 u.ownDeck ++ leBytes 4 (imgVersion u.fwHeader) ++ leBytes 4 Config.romVersion.toNat ++ leBytes 4 u.fw.cfgVersion ++
    leBytes 4 u.gci.epoch ++ leBytes 1 u.fuses.lifecycle ++ leBytes 1 (bitsOf (u.reg DeckStraps.bootSrc.off).toNat 4 0) ++
    leBytes 1 (u.getF CascStatus.role) ++ leBytes 1 (bitsOf (setBit (u.getF CascStatus.reachable) u.ownDeck true) 7 0) ++
    sliceB u.fwHeader 0x50 16 ++ leBytes 8 Config.uniqueId.toNat ++ leBytes 1 c.client ++ zeros 3

theorem bodyIdentify_eq (c : Ctx) (u : State) : bodyIdentify c u = u.answer stDone (u.identity c) := rfl

theorem State.identity_length (u : State) (c : Ctx) : (u.identity c).length = 52 := by
  simp [State.identity, zeros]

theorem State.identity_type (u : State) (c : Ctx) : leAt (u.identity c) 0 2 = if u.absentVariant then 0x8632 else 0x8640 := by
  simp only [State.identity, List.append_assoc, leAt_leBytes]
  split <;> rfl

theorem State.identity_deck (u : State) (c : Ctx) : leAt (u.identity c) 3 1 = u.ownDeck % 256 := by
  simp [State.identity, leAt_skip, leAt_leBytes]

theorem State.identity_epoch (u : State) (c : Ctx) : leAt (u.identity c) 0x10 4 = u.gci.epoch % 2 ^ 32 := by
  simp [State.identity, leAt_skip, leAt_leBytes]

theorem State.identity_lifecycle (u : State) (c : Ctx) : leAt (u.identity c) 0x14 1 = u.fuses.lifecycle % 256 := by
  simp [State.identity, leAt_skip, leAt_leBytes]

theorem State.identity_client (u : State) (c : Ctx) : leAt (u.identity c) 0x30 1 = c.client % 256 := by
  simp [State.identity, leAt_append, leAt_leBytes]

/-! ### Tickets (R78, R79, R115) -/

section
variable {c : Ctx} {u : State} {t : Ticket}

theorem bodyTicketStatus_running (ht : u.ticket c.client (leAt c.payload 0 4) = some t) (hr : t.result = none) :
    bodyTicketStatus c u = (⟨stPending, [], leAt c.payload 0 4, 0⟩, u) := by
  simp only [bodyTicketStatus, ht, hr]

theorem bodyTicketStatus_complete {st : Nat} {pay : List Byte} (ht : u.ticket c.client (leAt c.payload 0 4) = some t)
    (hr : t.result = some (st, pay)) :
    bodyTicketStatus c u = (⟨st, pay, leAt c.payload 0 4, 0⟩, u.freeTicket c.client (leAt c.payload 0 4)) := by
  simp only [bodyTicketStatus, ht, hr]

theorem bodyTicketAbort_running (ht : u.ticket c.client (leAt c.payload 0 4) = some t) (hr : t.result = none) :
    bodyTicketAbort c u = (u.abortTicket t).answer stDone := by
  simp only [bodyTicketAbort, ht, hr, Option.isSome_none, Bool.false_eq_true, if_false]

/-! ### Segment buffers (R103) -/

theorem bodySegRead_inRange (hspi : u.spiMb c.mb = true)
    (hrange : 4 ≤ leAt c.payload 4 4 ∧ leAt c.payload 4 4 ≤ 1000 ∧ leAt c.payload 0 4 + leAt c.payload 4 4 ≤ 65536) :
    bodySegRead c u = u.answer stDone (memReads u.gci.seg (c.client * 65536 + leAt c.payload 0 4) (leAt c.payload 4 4)) := by
  obtain ⟨hmin, hmax, hend⟩ := hrange
  simp [bodySegRead, hspi, Nat.not_lt.2 hmin, Nat.not_lt.2 hmax, Nat.not_lt.2 hend]

theorem bodySegWrite_inRange (hlen : (c.payload.drop 4).length % 4 = 0 ∧ (c.payload.drop 4).length ≤ 1000)
    (hspi : u.spiMb c.mb = true) (hbusy : u.segBusy c.client = false)
    (hend : leAt c.payload 0 4 + (c.payload.drop 4).length ≤ 65536) :
    bodySegWrite c u = State.answer { u with gci := { u.gci with
      seg := memWrites u.gci.seg (c.client * 65536 + leAt c.payload 0 4) (c.payload.drop 4) } } stDone := by
  obtain ⟨halign, hmax⟩ := hlen
  simp only [bodySegWrite, hspi, hbusy, halign, gt_iff_lt, Nat.not_lt.2 hmax, Nat.not_lt.2 hend, bne_self_eq_false, Bool.not_true,
    Bool.false_eq_true, decide_false, Bool.or_false, if_false]

/-- The context in which DECK.SEG_EXEC runs its inner command: its code, and the segment buffer as its bulk buffer. -/
def Ctx.inner (c : Ctx) : Ctx :=
  { c with cmd := leAt c.payload 0 2, bulk := some ⟨0, leAt c.payload 4 4, leAt c.payload 8 1, 0, true⟩,
           payload := zeros 8 ++ leBytes 4 (leAt c.payload 4 4) ++ leBytes 1 (leAt c.payload 8 1) ++ zeros 3 }

theorem bodySegExec_runs {r : CmdRow} {body : Body} (hrow : cmdRow (leAt c.payload 0 2) = some r)
    (hbody : segBody (leAt c.payload 0 2) = some body)
    (hright : (u.client c.client).right r.kind (leAt c.payload 0 2 / 256) = true)
    (hsplit : u.getF CascStatus.role = 3 → splitFrozen r = false) (hspi : u.spiMb c.mb = true)
    (hbusy : u.segBusy c.client = false)
    (hrange : leAt c.payload 2 2 = 0 ∧ leAt c.payload 9 3 = 0 ∧ leAt c.payload 8 1 ≤ 2 ∧ rng 1 65536 (leAt c.payload 4 4) = true) :
    bodySegExec c u = body c.inner u := by
  obtain ⟨hres, hres', hdir, hlen⟩ := hrange
  have hgo : (u.getF CascStatus.role == 3 && splitFrozen r) = false := by
    rw [Bool.and_eq_false_iff, beq_eq_false_iff_ne]
    exact or_iff_not_imp_left.2 fun h => hsplit (not_not.1 h)
  simp only [bodySegExec, segExec, hrow, hbody, hright, hgo, hspi, hbusy, hres, hres', hlen, Nat.not_lt.2 hdir, bne_self_eq_false,
    Bool.not_true, Bool.false_eq_true, decide_false, Bool.or_false, if_false]
  rfl

/-! ### DECK.RESET and DECK.CLIENT_SET (R105, R108) -/

theorem bodyReset_full (hscope : leAt c.payload 0 1 = 2) (hconfirm : leAt c.payload 1 3 = 0 ∧ leAt c.payload 4 4 = 0xDECA) :
    bodyReset c u = State.answer { u with gci := { u.gci with fullReset := some (c.mb, u.after (msC 1)) } } stDone := by
  simp [bodyReset, hscope, hconfirm]

theorem bodyReset_config (hscope : leAt c.payload 0 1 = 1) (hconfirm : leAt c.payload 1 3 = 0 ∧ leAt c.payload 4 4 = 0xDECA) :
    bodyReset c u = ((u.pend c []).1, (u.pend c []).2.resetConfigStart c.client (u.pend c []).1.ticket) := by
  simp [bodyReset, hscope, hconfirm]

theorem bodyClientSet_stages {v : Nat} (htyp : (orefOf c.payload).typ = 0x02)
    (hrange : clientSetBad (leAt c.payload 4 4) (leAt c.payload 8 2) (leAt c.payload 10 1) (leAt c.payload 11 1) (leAt c.payload 12 4)
      (leAt c.payload 16 4) = false)
    (hv : v = clientWord (leAt c.payload 8 2) (leAt c.payload 10 1) (leAt c.payload 11 1) (leAt c.payload 12 4) (leAt c.payload 16 4))
    (hlast : u.lastDeckControl (u.draft c.client c.txn) (leAt c.payload 4 4) v = false)
    (hheld : ∀ n, n < 16 → bitOf (leAt c.payload 8 2) n ≠ u.mbOf n (leAt c.payload 4 4) → u.mbHeld n = false) :
    bodyClientSet c u = u.stage c [(pkey (oClient (leAt c.payload 4 4)) (pidRaw 0), v)] := by
  subst hv
  have hfree : (List.range 16).any (fun n => bitOf (leAt c.payload 8 2) n != u.mbOf n (leAt c.payload 4 4) && u.mbHeld n) = false := by
    simp only [List.any_eq_false, List.mem_range, Bool.and_eq_true, bne_iff_ne, not_and, Bool.not_eq_true]
    exact hheld
  simp only [bodyClientSet, htyp, hrange, hlast, hfree, bne_self_eq_false, Bool.false_eq_true, if_false]

end

/-- Settles O1: each query by its body's equation; of the bytes of DECK.IDENTIFY, one lemma a field. -/
theorem deckQueriesComplete : Obligations.DeckQueriesComplete := by
  unfold Obligations.DeckQueriesComplete
  refine ⟨?identify, ?running, ?complete, ?segRead⟩
  case identify =>
    rintro q s _ _ rfl rfl h
    exact ⟨_, congrArg _ (State.request_query h (bodyIdentify_eq _ _)), State.identity_length _ _, State.identity_type _ _,
      State.identity_deck _ _, State.identity_epoch _ _, State.identity_lifecycle _ _, State.identity_client _ _⟩
  case running =>
    rintro q s _ _ t rfl rfl h ht hr
    exact congrArg _ (State.request_reply h (bodyTicketStatus_running ht hr) (Quiet.refl _) (by decide) (by decide))
  case complete =>
    rintro q s _ _ t st pay rfl rfl h ht hr ⟨hhold, hbusy⟩
    exact congrArg _ (State.request_reply h (bodyTicketStatus_complete ht hr) (Quiet.freeTicket _ _ _) hhold hbusy)
  case segRead =>
    rintro q s _ _ rfl rfl h hspi hrange
    exact congrArg _ (State.request_query h (bodySegRead_inRange hspi hrange))

/-- Settles O2: each command by its body's equation; those whose effect may reach mailboxes are finished as firmware finishes them. -/
theorem deckControlCompletes : Obligations.DeckControlCompletes := by
  unfold Obligations.DeckControlCompletes
  refine ⟨?full, ?config, ?clientSet, ?abort, ?segWrite, ?segExec⟩
  case full =>
    rintro q s _ _ rfl rfl h hscope hconfirm
    exact congrArg _ (State.request_done h (bodyReset_full hscope hconfirm) (Quiet.of_regs rfl))
  case config =>
    rintro q s _ _ rfl rfl h hscope hconfirm
    exact congrArg _ (State.request_finish h (bodyReset_config hscope hconfirm))
  case clientSet =>
    rintro q s _ _ d v rfl rfl h htyp hrange hv hd hlast hheld hfree
    exact congrArg _ (State.request_stages h (bodyClientSet_stages htyp hrange hv (by rwa [hd]) hheld) hd hfree)
  case abort =>
    rintro q s _ _ t rfl rfl h ht hr
    exact congrArg _ (State.request_finish h (bodyTicketAbort_running ht hr))
  case segWrite =>
    rintro q s _ _ rfl rfl h hlen hspi hbusy hend
    exact congrArg _ (State.request_done h (bodySegWrite_inRange hlen hspi hbusy hend) (Quiet.of_regs rfl))
  case segExec =>
    rintro q s _ _ r body _ rfl rfl h hrow hbody hright hsplit hspi hbusy hrange rfl
    exact congrArg _ (State.request_finish h (bodySegExec_runs hrow hbody hright hsplit hspi hbusy hrange))

end Sys2Proof.Machine

/-! O6: the commands of the CHAN class. -/

namespace Sys2Proof.Machine

-- One theorem at a time: those that wait for the kernel would each hold a thread with its whole stack.
set_option Elab.async false

section
variable {c : Ctx} {u : State}

/-- The Channel that a command names. -/
abbrev Ctx.chan (c : Ctx) : Nat := (orefOf c.payload).chan

/-! ### CHAN.ENABLE (R39, R110) -/

theorem bodyChanEnable_enabled (hlink : c.chan ≠ 22 ∧ c.chan ≠ 23) (hen : u.chanEnabled c.chan = true) :
    bodyChanEnable c u = u.answer stDone := by
  obtain ⟨hhost, hstore⟩ := hlink
  simp [bodyChanEnable, hhost, hstore, hen]

theorem bodyChanEnable_disabled (hlink : c.chan ≠ 22 ∧ c.chan ≠ 23) (hen : u.chanEnabled c.chan = false)
    (hspan : u.spanState (u.spanOf c.chan) ∉ [spEntering, spAsleep, spWaking])
    (hret : 24 ≤ c.chan ∧ c.chan ≤ 31 → u.cwRetained ((c.chan - 24) / 2) = false) :
    bodyChanEnable c u = ((u.chanEnable c.chan none).spanUpdate (u.spanOf c.chan)).answer stDone := by
  obtain ⟨hhost, hstore⟩ := hlink
  simp only [List.mem_cons, List.not_mem_nil, or_false, not_or] at hspan
  obtain ⟨hentering, hasleep, hwaking⟩ := hspan
  have hfree : ¬(decide (24 ≤ c.chan ∧ c.chan ≤ 31) && u.cwRetained ((c.chan - 24) / 2)) = true := by
    rw [Bool.and_eq_true, decide_eq_true_eq]
    exact fun h => Bool.eq_false_iff.1 (hret h.1) h.2
  simp only [bodyChanEnable, hhost, hstore, hen, beq_eq_false_iff_ne.2 hentering, beq_eq_false_iff_ne.2 hasleep,
    beq_eq_false_iff_ne.2 hwaking, if_neg hfree, decide_false, Bool.or_false, Bool.false_eq_true, if_false]

/-! ### CHAN.DISABLE (R111) -/

/-- The operands of CHAN.DISABLE are in range: no host or storage link, and mode 1 or 2. -/
abbrev Ctx.disableOk (c : Ctx) : Prop :=
  c.chan ≠ 22 ∧ c.chan ≠ 23 ∧ (leAt c.payload 8 1 = 1 ∨ leAt c.payload 8 1 = 2) ∧ leAt c.payload 9 3 = 0

theorem bodyChanDisable_inRange (h : c.disableOk) : bodyChanDisable c u =
    if u.chanEnabled c.chan = true then
      let o := u.runP c [(orefOf c.payload).lock] (fun s ref => s.chanDisable c.chan (leAt c.payload 8 1) ref)
      (o.1, o.2.spanUpdate (o.2.spanOf c.chan))
    else u.answer stDone := by
  obtain ⟨hhost, hstore, hmode, hres⟩ := h
  have hgo : ¬(!(leAt c.payload 8 1 == 1 || leAt c.payload 8 1 == 2)) = true := by
    rcases hmode with hmode | hmode <;> simp [hmode]
  simp only [bodyChanDisable, hhost, hstore, hres, Bool.eq_false_iff.2 hgo, bne_self_eq_false, decide_false, Bool.or_false,
    Bool.false_eq_true, if_false, Bool.not_eq_true', ← Bool.not_eq_true, ite_not]

/-! ### CHAN.XCVR_MODE (R112, R165) -/

theorem bodyXcvrMode_inRange (fails : Bool)
    (h : 24 ≤ c.chan ∧ c.chan ≤ 39 ∧ leAt c.payload 8 1 ≤ 3 ∧ leAt c.payload 9 3 = 0)
    (hnormal : leAt c.payload 8 1 = 0 → u.spanState (u.spanOf c.chan) = spAwake ∧ u.brim.vcc5 = true) :
    bodyXcvrMode fails c u = if fails then u.hatpinDown.answer stAccessFailed
      else (u.xcvrSent (c.chan - 24) (leAt c.payload 8 1)).answer stDone := by
  obtain ⟨hlo, hhi, hmode, hres⟩ := h
  have hgo : ¬(decide (leAt c.payload 8 1 = 0) && (u.spanState (u.spanOf c.chan) != spAwake || !u.brim.vcc5)) = true := by
    rw [Bool.and_eq_true, decide_eq_true_eq]
    rintro ⟨hm, hbad⟩
    simp [hnormal hm] at hbad
  simp only [bodyXcvrMode, hres, gt_iff_lt, Nat.not_lt.2 hlo, Nat.not_lt.2 hhi, Nat.not_lt.2 hmode, if_neg hgo, bne_self_eq_false,
    decide_false, Bool.or_false, Bool.false_eq_true, if_false]

end

/-- Settles O6: each command by its body's equation. -/
theorem channelCommandsComplete : Obligations.ChannelCommandsComplete := by
  unfold Obligations.ChannelCommandsComplete
  refine ⟨?enabled, ?enables, ?disabled, ?disables, ?linkState, ?xcvrMode, ?xcvrFails⟩
  case enabled =>
    rintro q s _ _ rfl rfl h hlink hen
    exact congrArg _ (State.request_query h (bodyChanEnable_enabled hlink hen))
  case enables =>
    rintro q s _ _ rfl rfl h hlink hen hspan hret
    exact congrArg _ (State.request_finish h (bodyChanEnable_disabled hlink hen hspan hret))
  case disabled =>
    rintro q s _ _ rfl rfl h hok hen
    exact congrArg _ (State.request_query h ((bodyChanDisable_inRange hok).trans (if_neg (Bool.eq_false_iff.1 hen))))
  case disables =>
    rintro q s _ _ _ rfl rfl h hok hen rfl
    exact congrArg _ (State.request_finish h ((bodyChanDisable_inRange hok).trans (if_pos hen)))
  case linkState =>
    rintro q s _ _ _ rfl rfl h rfl
    exact congrArg _ (State.request_query h rfl)
  case xcvrMode =>
    rintro q s _ _ rfl rfl h hok hnormal
    exact congrArg _ (State.request_finish h (bodyXcvrMode_inRange false hok hnormal))
  case xcvrFails =>
    rintro q s _ _ rfl rfl h hok hnormal
    exact congrArg _ (State.request_finish h (bodyXcvrMode_inRange true hok hnormal))

end Sys2Proof.Machine

/-! O8: the commands of the CAN class. -/

namespace Sys2Proof.Machine

-- One theorem at a time: those that wait for the kernel would each hold a thread with its whole stack.
set_option Elab.async false

section
variable {c : Ctx} {u : State} {r : List Byte}

/-- The Lane that a command of the CAN class names. -/
abbrev Ctx.canLane (c : Ctx) : Nat := (orefOf c.payload).chan - 24

/-! ### Bus-off and RESTRICTED (R176, R177) -/

theorem bodyBusOffRecover_busOff (hoff : u.getF (CanStatus.errState c.canLane) = 2) :
    bodyBusOffRecover c u =
      State.answer (if u.flag (CanStatus.recovering c.canLane) then u else u.canRecoverStart c.canLane) stDone := by
  simp only [bodyBusOffRecover, hoff, bne_self_eq_false, Bool.false_eq_true, if_false]
  split <;> rfl

theorem bodyRestrictedSet_sets (hval : leAt c.payload 8 4 = 1) (hoff : u.getF (CanStatus.errState c.canLane) ≠ 2) :
    bodyRestrictedSet c u =
      State.answer (if u.flag (CanStatus.restricted c.canLane) then u
        else if (u.canLane c.canLane).inFlight.isSome then
          u.setCan c.canLane { u.canLane c.canLane with restrictPend := true }
        else u.setF (CanStatus.restricted c.canLane) 1) stDone := by
  simp only [bodyRestrictedSet, hval, beq_eq_false_iff_ne.2 hoff, gt_iff_lt, lt_self_iff_false, Bool.false_eq_true, if_false, if_true]
  split
  · rfl
  · split <;> rfl

/-- The Lane without RESTRICTED: none to come, and where it stood, what waits is looked at anew. -/
def State.unrestricted (u : State) (n : Nat) : State :=
  State.setF (u.setCan n { u.canLane n with
    restrictPend := false
    recheck := if u.flag (CanStatus.restricted n) then (u.canLane n).fifo.length else (u.canLane n).recheck
    tried := if u.flag (CanStatus.restricted n) then none else (u.canLane n).tried }) (CanStatus.restricted n) 0

theorem bodyRestrictedSet_clears (hval : leAt c.payload 8 4 = 0) (hoff : u.getF (CanStatus.errState c.canLane) ≠ 2) :
    bodyRestrictedSet c u = (u.unrestricted c.canLane).answer stDone := by
  simp only [bodyRestrictedSet, hval, beq_eq_false_iff_ne.2 hoff, gt_iff_lt, Nat.not_lt_zero, Nat.zero_ne_one, Bool.false_eq_true,
    if_false]
  rfl

/-! ### Transmission on command (R180, R188) -/

/-- The record asks for a completion entry. -/
abbrev wantsCompletion (r : List Byte) : Bool := bitOf (leAt r 14 1) 3

/-- The granule of a completion that the record asks for is set aside. -/
def State.completionReserved (u : State) (n : Nat) (r : List Byte) : State := if wantsCompletion r then u.txcReserve n else u

/-- The place of the completion that the record asks for. -/
def completionOf (r : List Byte) : Option Nat := if wantsCompletion r then some 0xFFFF else none

/-- A completion that is asked for has a granule. -/
theorem completion_granule {n : Nat} (h : wantsCompletion r = true → u.txcFree n ≠ 0) :
    (wantsCompletion r && u.txcFree n == 0) = false := by
  rw [Bool.and_eq_false_iff, beq_eq_false_iff_ne]
  exact or_iff_not_imp_left.2 fun hw => h (Bool.not_eq_false _ ▸ hw)

theorem bodyTxFrame_enqueues {t : State} (hrec : txRecordOf c.payload = some r)
    (hok : u.canClosed c.canLane = false ∧ txRecordOk r = true ∧ u.canCarries c.canLane r = true)
    (hgran : wantsCompletion r = true → u.txcFree c.canLane ≠ 0) (hat : bitOf (leAt r 14 1) 4 = false)
    (hput : (u.completionReserved c.canLane r).canEnqueueTx c.canLane r (completionOf r) = some t) :
    bodyTxFrame c u = t.answer stDone := by
  obtain ⟨hopen, hrecOk, hcarries⟩ := hok
  have hgran := completion_granule hgran
  unfold State.completionReserved completionOf at hput
  simp only [bodyTxFrame, hrec, hopen, hrecOk, hcarries, hgran, hat, hput, Bool.not_true, Bool.false_eq_true, if_false]

theorem bodyTxFrame_arms (hrec : txRecordOf c.payload = some r)
    (hok : u.canClosed c.canLane = false ∧ txRecordOk r = true ∧ u.canCarries c.canLane r = true)
    (hgran : wantsCompletion r = true → u.txcFree c.canLane ≠ 0)
    (hat : bitOf (leAt r 14 1) 4 = true ∧ (u.canLane c.canLane).at_ = none) :
    bodyTxFrame c u =
      ((u.completionReserved c.canLane r).atArm c.canLane (txStored r u.strand) (leAt r 8 6) (completionOf r)).answer stDone := by
  obtain ⟨hopen, hrecOk, hcarries⟩ := hok
  obtain ⟨hat, hfree⟩ := hat
  have hgran := completion_granule hgran
  simp only [bodyTxFrame, hrec, hopen, hrecOk, hcarries, hgran, hat, hfree, Option.isSome_none, Bool.not_true, Bool.false_eq_true,
    if_false, if_true]
  rfl

theorem bodyTxAtTime_arms (hrec : txRecordOf c.payload = some r)
    (hok : u.canClosed c.canLane = false ∧ (u.canLane c.canLane).at_ = none ∧ txRecordOk r = true ∧ u.canCarries c.canLane r = true)
    (hgran : wantsCompletion r = true → u.txcFree c.canLane ≠ 0) :
    bodyTxAtTime c u =
      ((u.completionReserved c.canLane r).atArm c.canLane (txStored r u.strand) (leAt r 8 6) (completionOf r)).answer stDone := by
  obtain ⟨hopen, hfree, hrecOk, hcarries⟩ := hok
  have hgran := completion_granule hgran
  simp only [bodyTxAtTime, hrec, hopen, hfree, hrecOk, hcarries, hgran, Option.isSome_none, Bool.or_false, Bool.not_true,
    Bool.false_eq_true, if_false]
  rfl

/-! ### CAN.SWAKE_SET (R393) -/

theorem bodySwakeSet_stages (hlen : c.payload.length = 28 ∧ (orefOf c.payload).chan ≤ 39)
    (hflags : leAt c.payload 8 1 ≤ 1 ∧ leAt c.payload 9 1 ≤ 3 ∧ leAt c.payload 10 1 ≤ 8 ∧ leAt c.payload 11 1 = 0)
    (hids : leAt c.payload 12 4 < 2 ^ 29 ∧ leAt c.payload 16 4 < 2 ^ 29 ∧
      (bitOf (leAt c.payload 9 1) 0 = false → leAt c.payload 12 4 < 2 ^ 11)) :
    bodySwakeSet c u = u.stage c [(pkey (orefOf c.payload).key pidSwake, leAt c.payload 8 20)] := by
  obtain ⟨hlen, hchan⟩ := hlen
  obtain ⟨hen, hfmt, hdlc, hres⟩ := hflags
  obtain ⟨hid, hmask, hbase⟩ := hids
  have hbase' : (!bitOf (leAt c.payload 9 1) 0 && decide (leAt c.payload 12 4 ≥ 2 ^ 11)) = false := by
    rw [Bool.and_eq_false_iff, Bool.not_eq_false', decide_eq_false_iff_not, ge_iff_le, not_le]
    exact or_iff_not_imp_left.2 fun h => hbase (Bool.not_eq_true _ ▸ h)
  simp only [bodySwakeSet, hlen, Nat.not_lt.2 hchan, Nat.not_lt.2 hen, Nat.not_lt.2 hfmt, Nat.not_lt.2 hdlc, hres,
    Nat.not_le.2 hid, Nat.not_le.2 hmask, hbase', ge_iff_le, Nat.reduceAdd, bne_self_eq_false, decide_false, Bool.or_false,
    Bool.false_eq_true, if_false]

end

/-- Settles O8: each command by its body's equation. -/
theorem canCommandsComplete : Obligations.CanCommandsComplete := by
  unfold Obligations.CanCommandsComplete
  refine ⟨?recover, ?restricts, ?unrestricts, ?txFrame, ?txFrameAt, ?txAtTime, ?swake, ?errorState⟩
  case recover =>
    rintro q s _ _ _ rfl rfl h rfl hoff
    exact congrArg _ (State.request_finish h (bodyBusOffRecover_busOff hoff))
  case restricts =>
    rintro q s _ _ _ rfl rfl h rfl hval hoff
    exact congrArg _ (State.request_finish h (bodyRestrictedSet_sets hval hoff))
  case unrestricts =>
    rintro q s _ _ _ rfl rfl h rfl hval hoff
    exact congrArg _ (State.request_finish h (bodyRestrictedSet_clears hval hoff))
  case txFrame =>
    rintro q s _ _ _ r t rfl rfl h rfl hrec hok hgran hat hput
    exact congrArg _ (State.request_finish h (bodyTxFrame_enqueues hrec hok hgran hat hput))
  case txFrameAt =>
    rintro q s _ _ _ r rfl rfl h rfl hrec hok hgran hat
    exact congrArg _ (State.request_finish h (bodyTxFrame_arms hrec hok hgran hat))
  case txAtTime =>
    rintro q s _ _ _ r rfl rfl h rfl hrec hok hgran
    exact congrArg _ (State.request_finish h (bodyTxAtTime_arms hrec hok hgran))
  case swake =>
    rintro q s _ _ d rfl rfl h hlen hflags hids hd hfree
    exact congrArg _ (State.request_stages h (bodySwakeSet_stages hlen hflags hids) hd hfree)
  case errorState =>
    rintro q s _ _ _ rfl rfl h rfl
    exact congrArg _ (State.request_query h rfl)

end Sys2Proof.Machine

/-! O11: the commands of the ROUTE class. -/

namespace Sys2Proof.Machine

-- One theorem at a time: those that wait for the kernel would each hold a thread with its whole stack.
set_option Elab.async false

section
variable {c : Ctx} {u : State} {d : Draft}

/-- A command of the DECK object. -/
theorem State.deckBody_deck {f : Unit → Resp × State} (h : (orefOf c.payload).typ = 0x01) : u.deckBody c f = f () := by
  simp only [State.deckBody, h, bne_self_eq_false, Bool.false_eq_true, if_false]

/-! ### Drafts (R93, R94, R118) -/

/-- The draft that ROUTE.DRAFT_OPEN opens for a client (R93). -/
def State.freshDraft (u : State) (client : Nat) : Draft :=
  { handle := (Config.handleBase + u.gci.draftCount) % (2 ^ 32 - 1) + 1, client := client, lastUse := u.strand, bytes := 0,
    changes := [] }

theorem bodyDraftOpen_opens (hnone : ∀ e ∈ u.gci.drafts, e.client ≠ c.client) (hroom : u.gci.drafts.length < 4) :
    bodyDraftOpen c u = State.answer { u with gci := { u.gci with
      drafts := u.gci.drafts ++ [u.freshDraft c.client], draftCount := u.gci.draftCount + 1 } } stDone
        (leBytes 4 (u.freshDraft c.client).handle) := by
  have hany : u.gci.drafts.any (fun d => d.client == c.client) = false := by simpa using hnone
  simp only [bodyDraftOpen, hany, Nat.not_le.2 hroom, decide_false, Bool.or_false, Bool.false_eq_true, if_false]
  rfl

theorem bodyDraftDiscard_own (hd : u.draft c.client (leAt c.payload 0 4) = some d) :
    bodyDraftDiscard c u = (u.dropDraft (leAt c.payload 0 4)).answer stDone := by
  simp only [bodyDraftDiscard, hd]

theorem bodyDraftStatus_own (hd : u.draft c.client c.txn = some d) :
    bodyDraftStatus c u = u.answer stDone (leBytes 4 d.bytes ++ leBytes 4 (strandDiff u.strand d.lastUse / msC 1) ++
      leBytes 4 d.objects.length ++ leBytes 4 ((d.objects.drop (leAt c.payload 0 4)).take 124).length ++
      ((d.objects.drop (leAt c.payload 0 4)).take 124).flatMap (fun k => orefBytes (keyOref u.ownDeck k))) := by
  simp only [bodyDraftStatus, hd]

theorem bodyEpoch_deck (h : (orefOf c.payload).typ = 0x01) :
    bodyEpoch c u = u.answer stDone (leBytes 4 u.gci.epoch ++ leBytes 4 u.pier.commitId ++ leBytes 6 u.gci.switchAt ++ zeros 2) :=
  State.deckBody_deck h

/-! ### ROUTE.COMMIT (R96, R97) -/

/-- The checks of R96 pass for the draft that the caller commits. -/
abbrev State.commits (u : State) (c : Ctx) (d : Draft) : Prop :=
  bitsOf (leAt c.payload 4 4) 31 2 = 0 ∧ (u.useDraft d).commitCheck d (leAt c.payload 0 4) (leAt c.payload 4 4) = none

theorem bodyCommit_valid (hd : u.draft c.client c.txn = some d) (hok : u.commits c d) :
    bodyCommit c u =
      if bitOf (leAt c.payload 4 4) 0 = true then
        (u.useDraft d).answer stDone (leBytes 4 0 ++ leBytes 4 ((u.useDraft d).changedCount (finalChanges d.changes)))
      else if ((u.useDraft d).oldCfg.isNone && (u.useDraft d).gci.commits.isEmpty && !(u.useDraft d).dumping) = true then
        ((u.useDraft d).commitNow d (leAt c.payload 4 4)).2.answer stDone ((u.useDraft d).commitNow d (leAt c.payload 4 4)).1
      else (u.useDraft d).commitWait c d (leAt c.payload 0 4) (leAt c.payload 4 4) := by
  obtain ⟨hflags, hcheck⟩ := hok
  simp only [bodyCommit, hd, hflags, hcheck, bne_self_eq_false, Bool.false_eq_true, if_false]

/-- Nothing is in the way of an epoch switch (R97, R120): no older entries, no commit before it, no table dump. -/
theorem State.switchFree_iff (v : State) : (v.oldCfg.isNone && v.gci.commits.isEmpty && !v.dumping) = true ↔
    v.oldCfg = none ∧ v.gci.commits = [] ∧ v.dumping = false := by
  simp [and_assoc]

/-! ### Direct, Hash and Fallback entries (R232, R234, R240) -/

/-- The changes of ROUTE.DIRECT_SET: entries from the one that the OREF names on, with the values of the payload. -/
def Ctx.directChanges (c : Ctx) (n : Nat) : List (Nat × Nat) :=
  (List.range n).map fun i =>
    (pkey (oDirect (orefOf c.payload).chan ((orefOf c.payload).idx + i)) (pidRaw 0), leAt c.payload (12 + 2 * i) 2)

theorem bodyDirectSet_stages {n : Nat}
    (hok : (orefOf c.payload).typ = 0x0B ∧ 1 ≤ n ∧ n ≤ 496 ∧ n = leAt c.payload 8 2 ∧ c.payload.length = 12 + 2 * n ∧
      leAt c.payload 10 2 = 0 ∧ (orefOf c.payload).idx + n ≤ 2048)
    (hvals : ∀ i, i < n → leAt c.payload (12 + 2 * i) 2 < 16384)
    (hlock : u.locked c.client ((c.directChanges n).map fun kv => lockOf kv.1) = false) :
    bodyDirectSet c u = u.stage c (c.directChanges n) := by
  obtain ⟨htyp, hmin, hmax, hn, hlen, hres, hend⟩ := hok
  have hlocks : directLocks (orefOf c.payload) n = (c.directChanges n).map fun kv => lockOf kv.1 := by
    simp only [directLocks, Ctx.directChanges, List.map_map, Nat.min_eq_left (Nat.le_sub_of_add_le' hend), Function.comp_def]
  have hrange : (c.directChanges n).any (fun kv => decide (16384 ≤ kv.2)) = false := by
    simpa [Ctx.directChanges] using hvals
  rw [← hlocks] at hlock
  unfold Ctx.directChanges at hrange
  simp only [bodyDirectSet, ← hn, htyp, hlock, hlen, hres, hrange, Nat.not_lt.2 hmin, Nat.not_lt.2 hmax, Nat.not_lt.2 hend,
    bne_self_eq_false, decide_false, Bool.or_false, Bool.false_eq_true, if_false]
  rfl

/-- The operands of ROUTE.HASH_SET that both of its operations need, and the lock of the bucket. -/
structure State.hashSetOk (u : State) (c : Ctx) : Prop where
  deck : (orefOf c.payload).typ = 0x01
  range : leAt c.payload 8 1 ≤ 63 ∧ leAt c.payload 12 4 < 2 ^ 29 ∧ leAt c.payload 10 2 = 0 ∧ leAt c.payload 18 2 = 0
  here : u.absentVariant = true → leAt c.payload 8 1 < 32
  free : u.locked c.client [lockOf (pkey (oHash (hashBucket (leAt c.payload 8 1) (leAt c.payload 12 4) * 4)) (pidRaw 0))] = false

/-- The Channel of a Hash entry is there on the variant. -/
theorem State.hashSetOk.present (h : u.hashSetOk c) : (u.absentVariant && decide (leAt c.payload 8 1 ≥ 32)) = false := by
  rw [Bool.and_eq_false_iff, decide_eq_false_iff_not, ge_iff_le, not_le]
  exact or_iff_not_imp_left.2 fun hv => h.here (Bool.not_eq_false _ ▸ hv)

theorem bodyHashSet_adds {w : Nat} (h : u.hashSetOk c)
    (hop : leAt c.payload 9 1 = 1 ∧ 1 ≤ leAt c.payload 16 2 ∧ leAt c.payload 16 2 ≤ 16383)
    (hplace : u.hashPlace c (leAt c.payload 8 1) (leAt c.payload 12 4) = some w) :
    bodyHashSet c u = u.stage c [(pkey (oHash w) (pidRaw 0),
      leAt c.payload 12 4 + 2 ^ 29 + leAt c.payload 16 2 * 2 ^ 32 + leAt c.payload 8 1 * 2 ^ 48)] (leBytes 4 w) := by
  obtain ⟨hop, hmin, hmax⟩ := hop
  obtain ⟨hch, hid, hres, hres'⟩ := h.range
  rw [bodyHashSet, State.deckBody_deck h.deck]
  simp only [h.free, h.present, hop, hres, hres', hplace, Nat.not_lt.2 hch, Nat.not_le.2 hid, Nat.not_lt.2 hmin, Nat.not_lt.2 hmax,
    ge_iff_le, bne_self_eq_false, beq_self_eq_true, decide_false, Bool.and_false, Bool.or_false, Bool.not_true,
    Bool.false_eq_true, if_false, show ((1 : Nat) == 2) = false from rfl]

theorem bodyHashSet_removes {w : Nat} (h : u.hashSetOk c) (hop : leAt c.payload 9 1 = 2)
    (hholder : u.hashHolder c (leAt c.payload 8 1) (leAt c.payload 12 4) = some w) :
    bodyHashSet c u = u.stage c [(pkey (oHash w) (pidRaw 0), 0)] (leBytes 4 w) := by
  obtain ⟨hch, hid, hres, hres'⟩ := h.range
  rw [bodyHashSet, State.deckBody_deck h.deck]
  simp only [h.free, h.present, hop, hres, hres', hholder, Nat.not_lt.2 hch, Nat.not_le.2 hid, gt_iff_lt, ge_iff_le, bne_self_eq_false,
    beq_self_eq_true, decide_false, Bool.and_false, Bool.or_false, Bool.or_true, Bool.not_true, Bool.false_and, Bool.false_eq_true,
    if_false, if_true, show ((2 : Nat) == 1) = false from rfl]

theorem bodyFallbackSet_stages (htyp : (orefOf c.payload).typ = 0x0E) (hok : fallbackOk (leAt c.payload 8 32) = true) :
    bodyFallbackSet c u = u.stage c [(pkey (orefOf c.payload).key pidEntry, leAt c.payload 8 32)] := by
  simp only [bodyFallbackSet, htyp, hok, bne_self_eq_false, Bool.not_true, Bool.false_eq_true, if_false]

end

/-- Settles O11: each command by its body's equation; ROUTE.COMMIT by what is in the way of the switch. -/
theorem routeCommandsComplete : Obligations.RouteCommandsComplete := by
  unfold Obligations.RouteCommandsComplete
  refine ⟨?draftOpen, ?commitDry, ?commitNow, ?commitWaits, ?discard, ?status, ?epoch, ?direct, ?hashAdd, ?hashRemove, ?fallback⟩
  case draftOpen =>
    rintro q s _ _ _ rfl rfl h hnone hroom rfl
    exact congrArg _ (State.request_done h (bodyDraftOpen_opens hnone hroom) (Quiet.of_regs rfl))
  case commitDry =>
    rintro q s _ _ d _ rfl rfl h hd rfl hok hdry
    exact congrArg _ (State.request_done h ((bodyCommit_valid hd hok).trans (if_pos hdry)) (Quiet.of_regs rfl))
  case commitNow =>
    rintro q s _ _ d _ rfl rfl h hd rfl hok hdry hfree
    refine congrArg _ (State.request_finish h ((bodyCommit_valid hd hok).trans ((if_neg (Bool.eq_false_iff.1 hdry)).trans ?_)))
    exact if_pos ((State.switchFree_iff _).2 hfree)
  case commitWaits =>
    rintro q s _ _ d _ _ rfl rfl h hd rfl hok hdry hheld rfl
    refine congrArg _ (State.request_finish h ((bodyCommit_valid hd hok).trans ((if_neg (Bool.eq_false_iff.1 hdry)).trans ?_)))
    refine if_neg (mt (State.switchFree_iff _).1 ?_)
    rintro ⟨hold, hcommits, hdump⟩
    simp [hold, hcommits, hdump] at hheld
  case discard =>
    rintro q s _ _ d rfl rfl h hd
    exact congrArg _ (State.request_done h (bodyDraftDiscard_own hd) (Quiet.of_regs rfl))
  case status =>
    rintro q s _ _ d _ rfl rfl h hd rfl
    exact congrArg _ (State.request_query h (bodyDraftStatus_own hd))
  case epoch =>
    rintro q s _ _ rfl rfl h hdeck
    exact congrArg _ (State.request_query h (bodyEpoch_deck hdeck))
  case direct =>
    rintro q s _ _ n _ d rfl rfl h hok hvals rfl hd hfree
    exact congrArg _ (State.request_stages h (bodyDirectSet_stages hok hvals hfree.1) hd hfree)
  case hashAdd =>
    rintro q s _ _ w _ d rfl rfl h hrange ⟨hdeck, hop⟩ hhere hlock hplace rfl hd hfree
    exact congrArg _ (State.request_stages h (bodyHashSet_adds ⟨hdeck, hrange, hhere, hlock⟩ hop hplace) hd hfree)
  case hashRemove =>
    rintro q s _ _ w d rfl rfl h hrange ⟨hdeck, hop⟩ hhere hlock hholder hd hfree
    exact congrArg _ (State.request_stages h (bodyHashSet_removes ⟨hdeck, hrange, hhere, hlock⟩ hop hholder) hd hfree)
  case fallback =>
    rintro q s _ _ d rfl rfl h htyp hok hd hfree
    exact congrArg _ (State.request_stages h (bodyFallbackSet_stages htyp hok) hd hfree)

end Sys2Proof.Machine

/-! O17: the commands of the EVT class. -/

namespace Sys2Proof.Machine

-- One theorem at a time: those that wait for the kernel would each hold a thread with its whole stack.
set_option Elab.async false

section
variable {c : Ctx} {u : State}

theorem bodyEvtBind_binds (h : 16 ≤ leAt c.payload 0 1 ∧ u.bindBad c.payload = false) :
    bodyEvtBind c u = (u.evqBind (leAt c.payload 0 1) (leAt c.payload 1 1)
      (if leAt c.payload 2 1 == 0xFF then 7 else leAt c.payload 2 1) (leAt c.payload 3 1) (leAt c.payload 4 2)
      (leAt c.payload 8 4)).answer stDone (u.bindingBytes (leAt c.payload 0 1)) := by
  obtain ⟨hq, hbad⟩ := h
  simp only [bodyEvtBind, Nat.not_le.2 hq, hbad, Bool.false_eq_true, if_false]

theorem bodyCoalesceSet_sets (hq : (orefOf c.payload).typ = 0x1E ∧ 16 ≤ (orefOf c.payload).idx)
    (hrange : leAt c.payload 8 1 ≠ 0 ∧ leAt c.payload 9 1 = 0 ∧ leAt c.payload 10 2 ≠ 0) :
    bodyCoalesceSet c u = (u.coalesce (orefOf c.payload).idx (leAt c.payload 8 1) (leAt c.payload 10 2)).answer stDone := by
  obtain ⟨htyp, hidx⟩ := hq
  obtain ⟨hcount, hres, htime⟩ := hrange
  simp only [bodyCoalesceSet, htyp, hres, Nat.not_le.2 hidx, beq_eq_false_iff_ne.2 hcount, beq_eq_false_iff_ne.2 htime,
    bne_self_eq_false, Bool.or_false, Bool.false_eq_true, if_false]

theorem bodySourceEnable_moves {k : Nat} (hsrc : (orefOf c.payload).typ = 0x1F ∧ (srcKind (orefOf c.payload).idx).isSome = true)
    (hq : k = leAt c.payload 8 1 ∧ 16 ≤ k ∧ leAt c.payload 9 3 = 0 ∧ (k = 0xFF ∨ (k ≤ 63 ∧ u.getF (EvqStatus.target k) ≠ 7))) :
    bodySourceEnable c u = (u.sourceRoute (orefOf c.payload).idx k).answer stDone := by
  obtain ⟨htyp, hkind⟩ := hsrc
  obtain ⟨rfl, hmin, hres, hto⟩ := hq
  have hnone : (srcKind (orefOf c.payload).idx).isNone = false := Option.isNone_eq_false_iff.2 hkind
  have hrange : (decide (leAt c.payload 8 1 > 63) && leAt c.payload 8 1 != 0xFF) = false := by
    rcases hto with h | ⟨h, -⟩
    · simp [h]
    · simp [Nat.not_lt.2 h]
  have hbound : (leAt c.payload 8 1 != 0xFF && u.getF (EvqStatus.target (leAt c.payload 8 1)) == 7) = false := by
    rcases hto with h | ⟨-, h⟩
    · simp [h]
    · simp [h]
  simp only [bodySourceEnable, htyp, hres, hnone, hrange, hbound, Nat.not_le.2 hmin, bne_self_eq_false, Bool.or_false,
    Bool.false_eq_true, if_false]

theorem bodyQueueState_queue (htyp : (orefOf c.payload).typ = 0x1E) :
    bodyQueueState c u = u.answer stDone (u.bindingBytes (orefOf c.payload).idx ++
      leBytes 1 (u.getF (EvqStatus.state (orefOf c.payload).idx)) ++ leBytes 1 (u.evqFill (orefOf c.payload).idx) ++
      leBytes 1 (u.evq (orefOf c.payload).idx).count ++ [0] ++ leBytes 2 (u.evq (orefOf c.payload).idx).time ++
      leBytes 2 (u.getF (EvqDrops.payloadDrops (orefOf c.payload).idx)) ++ zeros 4) := by
  simp only [bodyQueueState, htyp, bne_self_eq_false, Bool.false_eq_true, if_false]

/-! ### EVT.INJECT, by the kind of the source (R468) -/

section
variable (htyp : (orefOf c.payload).typ = 0x1F)
include htyp

theorem bodyEvtInject_counted (hkind : srcKind (orefOf c.payload).idx = some .counted) :
    bodyEvtInject c u = (u.occur (orefOf c.payload).idx (leAt c.payload 8 4) true).answer stDone := by
  simp only [bodyEvtInject, htyp, hkind, bne_self_eq_false, Bool.false_eq_true, if_false]

theorem bodyEvtInject_payload (hkind : srcKind (orefOf c.payload).idx = some .payload) :
    bodyEvtInject c u = (u.payload (orefOf c.payload).idx 0 true).answer stDone := by
  simp only [bodyEvtInject, htyp, hkind, bne_self_eq_false, Bool.false_eq_true, if_false]

theorem bodyEvtInject_level (hkind : srcKind (orefOf c.payload).idx = some .level) :
    bodyEvtInject c u = ((u.routesOf (orefOf c.payload).idx).foldl (fun (s : State) (rq : Nat × Nat) =>
      s.injectLevel (orefOf c.payload).idx (leAt c.payload 8 4) rq.2) u).answer stDone := by
  simp only [bodyEvtInject, htyp, hkind, bne_self_eq_false, Bool.false_eq_true, if_false]

end

end

/-- Settles O17: each command by its body's equation. -/
theorem evtCommandsComplete : Obligations.EvtCommandsComplete := by
  unfold Obligations.EvtCommandsComplete
  refine ⟨?bind, ?coalesce, ?source, ?queue, ?counted, ?payload, ?level⟩
  case bind =>
    rintro q s _ _ rfl rfl h hok
    exact congrArg _ (State.request_finish h (bodyEvtBind_binds hok))
  case coalesce =>
    rintro q s _ _ rfl rfl h hq hrange
    exact congrArg _ (State.request_finish h (bodyCoalesceSet_sets hq hrange))
  case source =>
    rintro q s _ _ k rfl rfl h hsrc hq
    exact congrArg _ (State.request_finish h (bodySourceEnable_moves hsrc hq))
  case queue =>
    rintro q s _ _ _ rfl rfl h ⟨rfl, htyp⟩
    exact congrArg _ (State.request_query h (bodyQueueState_queue htyp))
  case counted =>
    rintro q s _ _ rfl rfl h htyp hkind
    exact congrArg _ (State.request_finish h (bodyEvtInject_counted htyp hkind))
  case payload =>
    rintro q s _ _ rfl rfl h htyp hkind
    exact congrArg _ (State.request_finish h (bodyEvtInject_payload htyp hkind))
  case level =>
    rintro q s _ _ rfl rfl h htyp hkind
    exact congrArg _ (State.request_finish h (bodyEvtInject_level htyp hkind))

end Sys2Proof.Machine

/-! O20: the commands of the DIAG class. -/

namespace Sys2Proof.Machine

-- One theorem at a time: those that wait for the kernel would each hold a thread with its whole stack.
set_option Elab.async false

section
variable {c : Ctx} {u : State} {n a : Nat}

theorem rng_of_le {lo hi v : Nat} (h : lo ≤ v) (h' : v ≤ hi) : rng lo hi v = true := decide_eq_true ⟨h, h'⟩

/-! ### DIAG.READ (R106) -/

/-- DIAG.READ of a number of words in range, by its space. -/
theorem bodyDiagRead_space (hn : n = leAt c.payload 1 1 ∧ leAt c.payload 2 2 = 0 ∧ 1 ≤ n ∧ n ≤ 250) (hspace : leAt c.payload 0 1 ≤ 2)
    (ha : a = leAt c.payload 4 4) :
    bodyDiagRead c u =
      if leAt c.payload 0 1 = 0 then
        if (a % 4 != 0 || decide (0x1000000 < a + 4 * n)) = true then u.answer stBadValue
        else u.answer stDone (diagHead a n ++ (List.range n).flatMap fun k => leBytes 4 (u.peek (a + 4 * k)))
      else if leAt c.payload 0 1 = 1 then u.pendHatpin c n [] false
      else if (!u.diagRangeOk (a / 2 ^ 24) (a % 2 ^ 24) n) = true then u.answer stBadValue
      else if 64 < n then u.pend c []
      else State.answer (u.tableWords (a / 2 ^ 24) (a % 2 ^ 24) n).2 stDone
        (diagHead a n ++ (u.tableWords (a / 2 ^ 24) (a % 2 ^ 24) n).1) := by
  obtain ⟨rfl, hres, hmin, hmax⟩ := hn
  subst ha
  simp only [bodyDiagRead, hres, rng_of_le hmin hmax, Nat.not_lt.2 hspace, bne_self_eq_false, Bool.not_true, decide_false,
    Bool.or_false, Bool.false_eq_true, if_false]

theorem bodyDiagRead_bar0 (hn : n = leAt c.payload 1 1 ∧ a = leAt c.payload 4 4 ∧ leAt c.payload 2 2 = 0 ∧ 1 ≤ n ∧ n ≤ 250)
    (hspace : leAt c.payload 0 1 = 0 ∧ a % 4 = 0 ∧ a + 4 * n ≤ 0x1000000) :
    bodyDiagRead c u = u.answer stDone (diagHead a n ++ (List.range n).flatMap fun k => leBytes 4 (u.peek (a + 4 * k))) := by
  obtain ⟨hn, ha, hrange⟩ := hn
  obtain ⟨hspace, halign, hend⟩ := hspace
  rw [bodyDiagRead_space ⟨hn, hrange⟩ (by omega) ha, if_pos hspace, if_neg (by simp [halign, Nat.not_lt.2 hend])]

theorem bodyDiagRead_brim (hn : n = leAt c.payload 1 1 ∧ leAt c.payload 2 2 = 0 ∧ 1 ≤ n ∧ n ≤ 250) (hspace : leAt c.payload 0 1 = 1) :
    bodyDiagRead c u = u.pendHatpin c n [] false := by
  rw [bodyDiagRead_space hn (by omega) rfl, if_neg (by omega), if_pos hspace]

theorem bodyDiagRead_table (hn : n = leAt c.payload 1 1 ∧ a = leAt c.payload 4 4 ∧ leAt c.payload 2 2 = 0 ∧ 1 ≤ n ∧ n ≤ 250)
    (hspace : leAt c.payload 0 1 = 2 ∧ u.diagRangeOk (a / 2 ^ 24) (a % 2 ^ 24) n = true) :
    bodyDiagRead c u = if 64 < n then u.pend c []
      else State.answer (u.tableWords (a / 2 ^ 24) (a % 2 ^ 24) n).2 stDone
        (diagHead a n ++ (u.tableWords (a / 2 ^ 24) (a % 2 ^ 24) n).1) := by
  obtain ⟨hn, ha, hrange⟩ := hn
  obtain ⟨hspace, hok⟩ := hspace
  rw [bodyDiagRead_space ⟨hn, hrange⟩ (by omega) ha, if_neg (by omega), if_neg (by omega), if_neg (by rw [hok]; decide)]

/-! ### DIAG.WRITE (R119) -/

/-- DIAG.WRITE of a number of words in range with their bytes, by its space. -/
theorem bodyDiagWrite_space (hn : n = leAt c.payload 1 1 ∧ leAt c.payload 2 2 = 0 ∧ 1 ≤ n ∧ n ≤ 250 ∧ (c.payload.drop 8).length = 4 * n)
    (hspace : leAt c.payload 0 1 ≤ 1) (ha : a = leAt c.payload 4 4) :
    bodyDiagWrite c u =
      if leAt c.payload 0 1 = 1 then
        if (!(u.fuses.lifecycle == 1 || u.fuses.lifecycle == 3)) = true then u.answer stLifecycleDenied
        else u.pendHatpin c n (c.payload.drop 8) true
      else if 0x1000000 < a + 4 * n then u.answer stBadValue
      else if (u.diagWords a (c.payload.drop 8) n).fwServing = true then
        (u.diagWords a (c.payload.drop 8) n).answer stDone (leBytes 1 n ++ zeros 3)
      else (⟨stHold, [], 0, 0⟩, u.diagWords a (c.payload.drop 8) n) := by
  obtain ⟨rfl, hres, hmin, hmax, hlen⟩ := hn
  subst ha
  simp only [bodyDiagWrite, hres, rng_of_le hmin hmax, Nat.not_lt.2 hspace, hlen, bne_self_eq_false, Bool.not_true, decide_false,
    Bool.or_false, Bool.false_eq_true, if_false]

theorem bodyDiagWrite_bar0
    (hn : n = leAt c.payload 1 1 ∧ a = leAt c.payload 4 4 ∧ leAt c.payload 2 2 = 0 ∧ 1 ≤ n ∧ n ≤ 250 ∧ (c.payload.drop 8).length = 4 * n)
    (hspace : leAt c.payload 0 1 = 0 ∧ a + 4 * n ≤ 0x1000000) (hserves : (u.diagWords a (c.payload.drop 8) n).fwServing = true) :
    bodyDiagWrite c u = (u.diagWords a (c.payload.drop 8) n).answer stDone (leBytes 1 n ++ zeros 3) := by
  obtain ⟨hn, ha, hrange⟩ := hn
  obtain ⟨hspace, hend⟩ := hspace
  rw [bodyDiagWrite_space ⟨hn, hrange⟩ (by omega) ha, if_neg (by omega), if_neg (Nat.not_lt.2 hend), if_pos hserves]

theorem bodyDiagWrite_brim
    (hn : n = leAt c.payload 1 1 ∧ leAt c.payload 2 2 = 0 ∧ 1 ≤ n ∧ n ≤ 250 ∧ (c.payload.drop 8).length = 4 * n)
    (hspace : leAt c.payload 0 1 = 1 ∧ (u.fuses.lifecycle = 1 ∨ u.fuses.lifecycle = 3)) :
    bodyDiagWrite c u = u.pendHatpin c n (c.payload.drop 8) true := by
  obtain ⟨hspace, hlife⟩ := hspace
  rw [bodyDiagWrite_space hn (by omega) rfl, if_pos hspace, if_neg]
  rcases hlife with h | h <;> simp [h]

/-! ### Dumps, loopback, mirrors and the audit (R120, R121, R272, R495) -/

theorem bodyTableDump_pends {b : Bulk} {l : List Byte} {v : State} (hbulk : c.bulk = some b ∧ b.ok [2] = true)
    (hread : u.bulkRead c { b with len := 16 } = (some l, v)) (hok : 16 ≤ b.len ∧ v.dumpOk l b.len = true) :
    bodyTableDump c u = v.pend c [] := by
  obtain ⟨hbulk, hdir⟩ := hbulk
  obtain ⟨hlen, hok⟩ := hok
  simp only [bodyTableDump, hbulk, hdir, hread, hok, Nat.not_lt.2 hlen, Bool.not_true, decide_false, Bool.or_false,
    Bool.false_eq_true, if_false]

theorem bodyLoopback_pends {k : Nat} (hk : k = (orefOf c.payload).chan ∧ (orefOf c.payload).typ = 0x04)
    (hok : u.loopBad k c.payload = false ∧ u.chanEnabled k = false) :
    bodyLoopback c u = u.pend c [(orefOf c.payload).lock] := by
  obtain ⟨rfl, htyp⟩ := hk
  obtain ⟨hok, hoff⟩ := hok
  simp only [bodyLoopback, htyp, hok, hoff, bne_self_eq_false, Bool.false_eq_true, if_false]

theorem bodyMirrorSet_stages {t p k : Nat}
    (hops : t = leAt c.payload 8 1 ∧ p = leAt c.payload 9 1 ∧ k = leAt c.payload 10 1 ∧ t ≤ 2 ∧ p ≤ 19 ∧ k ≤ 7 ∧ leAt c.payload 11 1 = 0)
    (hobj : ((orefOf c.payload).typ = 0x04 ∧ (orefOf c.payload).chan ≤ 23) ∨ (orefOf c.payload).typ = 0x0D)
    (hport : t = 2 → (orefOf c.payload).typ = 0x04 ∧ (orefOf c.payload).chan ≠ 23 ∧ (orefOf c.payload).chan ≠ p)
    (hstore : t = 1 → u.absentVariant = false) :
    bodyMirrorSet c u = u.stage c [(pkey (orefOf c.payload).key pidMirror, t + p * 2 ^ 8 + k * 2 ^ 16)] := by
  obtain ⟨rfl, rfl, rfl, ht, hp, hk, hres⟩ := hops
  have hknown : (!((orefOf c.payload).typ == 0x04) && (orefOf c.payload).typ != 0x0D) = false := by
    rcases hobj with ⟨h, -⟩ | h <;> simp [h]
  have hchan : ((orefOf c.payload).typ == 0x04 && decide (23 < (orefOf c.payload).chan)) = false := by
    rcases hobj with ⟨-, h⟩ | h
    · simp [Nat.not_lt.2 h]
    · simp [h]
  have hto : ¬(decide (leAt c.payload 8 1 = 2) && (!((orefOf c.payload).typ == 0x04) || decide ((orefOf c.payload).chan = 23) ||
      decide ((orefOf c.payload).chan = leAt c.payload 9 1))) = true := by
    rw [Bool.and_eq_true, decide_eq_true_eq]
    rintro ⟨h2, hbad⟩
    obtain ⟨htyp, hlink, hself⟩ := hport h2
    simp [htyp, hlink, hself] at hbad
  have hhere : ¬(decide (leAt c.payload 8 1 = 1) && u.absentVariant) = true := by
    rw [Bool.and_eq_true, decide_eq_true_eq]
    rintro ⟨h1, hv⟩
    simp [hstore h1] at hv
  simp only [bodyMirrorSet, hknown, hchan, hres, if_neg hto, if_neg hhere, Nat.not_lt.2 ht, Nat.not_lt.2 hp, Nat.not_lt.2 hk,
    bne_self_eq_false, decide_false, Bool.or_false, Bool.false_eq_true, if_false]

end

/-- Settles O20: each command by its body's equation. -/
theorem diagCommandsComplete : Obligations.DiagCommandsComplete := by
  unfold Obligations.DiagCommandsComplete
  refine ⟨?readBar0, ?readBrim, ?readLong, ?readTable, ?writeBar0, ?writeBrim, ?dump, ?loopback, ?mirror, ?audit⟩
  case readBar0 =>
    rintro q s _ _ n a rfl rfl h hn hspace
    exact congrArg _ (State.request_query h (bodyDiagRead_bar0 hn hspace))
  case readBrim =>
    rintro q s _ _ n _ rfl rfl h hn hspace rfl
    exact congrArg _ (State.request_finish h (bodyDiagRead_brim hn hspace))
  case readLong =>
    rintro q s _ _ n a rfl rfl h hn hspace hlong
    exact congrArg _ (State.request_pends h ((bodyDiagRead_table hn hspace).trans (if_pos hlong)))
  case readTable =>
    rintro q s _ _ n a _ rfl rfl h hn hspace hshort rfl
    exact congrArg _ (State.request_finish h ((bodyDiagRead_table hn hspace).trans (if_neg (Nat.not_lt.2 hshort))))
  case writeBar0 =>
    rintro q s _ _ n a _ rfl rfl h hn hspace ⟨rfl, hserves⟩
    exact congrArg _ (State.request_finish h (bodyDiagWrite_bar0 hn hspace hserves))
  case writeBrim =>
    rintro q s _ _ n _ rfl rfl h hn hspace rfl
    exact congrArg _ (State.request_finish h (bodyDiagWrite_brim hn hspace))
  case dump =>
    rintro q s _ _ b l v rfl rfl h hbulk hread hok
    exact congrArg _ (State.request_finish h (bodyTableDump_pends hbulk hread hok))
  case loopback =>
    rintro q s _ _ k rfl rfl h hk hok
    exact congrArg _ (State.request_pends h (bodyLoopback_pends hk hok))
  case mirror =>
    rintro q s _ _ t p k d rfl rfl h hops hobj hport hstore hd hfree
    exact congrArg _ (State.request_stages h (bodyMirrorSet_stages hops hobj hport hstore) hd hfree)
  case audit =>
    rintro q s _ _ _ _ _ _ rfl rfl h ⟨rfl, rfl⟩ ⟨rfl, rfl⟩
    exact congrArg _ (State.request_finish h rfl)

end Sys2Proof.Machine

/-! O27: gate lists, bundles, the end of an SGE drain, authentication jobs and waiting commits, each command by what it finds due. -/

namespace Sys2Proof.Machine

-- One theorem at a time: those that wait for the kernel would each hold a thread with its whole stack.
set_option Elab.async false

/-! ### Gate lists (R322 to R325) -/

section
variable {p : Fin 22} {s : State} {l : GateList} {a b i : Nat}

theorem execGateEntryStart_next (hl : (s.gate p).oper = some l)
    (he : l.entries[(s.gate p).entry]? = some (a, b, i) ∧ (l.entries[(s.gate p).entry + 1]?).isSome = true)
    (hcycle : (s.gate p).entryStart + i < (s.gate p).cycleStart + l.cycle)
    (hpend : ∀ k c, (s.gate p).pend = some (k, c) → (s.gate p).entryStart + i < c) :
    execGateEntryStart p s =
      .next ((s.clockTo 2 ((s.gate p).entryStart + i)).gateApply p ((s.gate p).entry + 1) ((s.gate p).entryStart + i)) := by
  obtain ⟨he, hnext⟩ := he
  obtain ⟨e, hnext⟩ := Option.isSome_iff_exists.1 hnext
  simp only [execGateEntryStart, hl, he, hnext, ge_iff_le, Nat.not_le.2 hcycle, decide_false, Bool.false_or]
  cases hp : (s.gate p).pend with
  | none => rfl
  | some k => simp [Nat.not_le.2 (hpend k.1 k.2 hp)]

theorem execGateEntryStart_cut (hl : (s.gate p).oper = some l) (he : l.entries[(s.gate p).entry]? = some (a, b, i))
    (hcut : (s.gate p).cycleStart + l.cycle ≤ (s.gate p).entryStart + i ∨
      ∃ k c, (s.gate p).pend = some (k, c) ∧ c ≤ (s.gate p).entryStart + i) :
    execGateEntryStart p s = .next s := by
  simp only [execGateEntryStart, hl, he]
  cases hn : l.entries[(s.gate p).entry + 1]? with
  | none => rfl
  | some e =>
    rcases hcut with h | ⟨k, c, hp, h⟩
    · simp [h]
    · simp [hp, h]

theorem execGateEntryStart_last
    (he : ∀ l, (s.gate p).oper = some l → l.entries[(s.gate p).entry]? = none ∨ l.entries[(s.gate p).entry + 1]? = none) :
    execGateEntryStart p s = .next s := by
  cases hl : (s.gate p).oper with
  | none => simp only [execGateEntryStart, hl]
  | some l => rcases he l hl with h | h <;> simp [execGateEntryStart, hl, h]

theorem execGateCycleStart_starts (hl : (s.gate p).oper = some l)
    (hpend : ∀ k c, (s.gate p).pend = some (k, c) →
      (s.gate p).cycleStart + l.cycle < c ∧ (s.gate p).cycleStart + l.cycle + l.ext ≤ c) :
    execGateCycleStart p s =
      .next (let v := s.clockTo 2 ((s.gate p).cycleStart + l.cycle)
        (v.setGate p { v.gate p with cycleStart := (s.gate p).cycleStart + l.cycle }).gateApply p 0
          ((s.gate p).cycleStart + l.cycle)) := by
  simp only [execGateCycleStart, hl]
  cases hp : (s.gate p).pend with
  | none => rfl
  | some k =>
    obtain ⟨hlt, hext⟩ := hpend k.1 k.2 hp
    simp [Nat.not_le.2 hlt, Nat.not_lt.2 hext]

theorem execGateCycleStart_held {k : GateList} {c : Nat} (hl : (s.gate p).oper = some l)
    (hp : (s.gate p).pend = some (k, c) ∧
      (c ≤ (s.gate p).cycleStart + l.cycle ∨ c < (s.gate p).cycleStart + l.cycle + l.ext)) :
    execGateCycleStart p s = .next s := by
  obtain ⟨hp, h | h⟩ := hp <;> simp [execGateCycleStart, hl, hp, h]

end

/-! ### Bundles and authentication jobs (R307 to R309, R439, R440) -/

theorem execBundlerTakeMessage_takes {u : Fin 7} {s : State} {b : Nat} (h : s.getF SgeStatus.modeActive ≠ 2 ∧ s.bundleTurn = some b) :
    execBundlerTakeMessage u s = .next (s.bundlerTake b u) := by
  simp only [execBundlerTakeMessage, h, beq_eq_false_iff_ne.2 h.1, Bool.false_eq_true, if_false]

theorem execBundlerTakeMessage_idle {u : Fin 7} {s : State} (h : s.getF SgeStatus.modeActive = 2 ∨ s.bundleTurn = none) :
    execBundlerTakeMessage u s = .next s := by
  rcases h with h | h <;> simp [execBundlerTakeMessage, h]

theorem execSgeDrainDone_drained {s : State} (h : s.sge.ending.isSome = true ∧ s.sge.ready = [] ∧ s.sge.running = []) :
    execSgeDrainDone s = .next ((State.setF (State.setF { s with sge := { unbundle := s.sge.unbundle, orders := s.sge.orders } }
      SgeStatus.busy 0) SgeStatus.modeActive 2).sgeEvent 4) := by
  obtain ⟨hending, hready, hrunning⟩ := h
  obtain ⟨e, hending⟩ := Option.isSome_iff_exists.1 hending
  simp [execSgeDrainDone, hending, hready, hrunning]

theorem execSgeDrainDone_idle {s : State} (h : s.sge.ending = none ∨ s.sge.ready ≠ [] ∨ s.sge.running ≠ []) :
    execSgeDrainDone s = .next s := by
  unfold execSgeDrainDone
  cases he : s.sge.ending with
  | none => rfl
  | some e =>
    have hbusy : s.sge.ready ≠ [] ∨ s.sge.running ≠ [] := h.resolve_left (by simp [he])
    rcases hbusy with h | h <;> simp [h]

theorem execCanAuthVerifyJob_oldest {b : Bool} {s : State} {j : AuthJob} (h : s.authNext false = some j) :
    execCanAuthVerifyJob b s = .next ((s.authTake j).authVerify j b) := by
  simp only [execCanAuthVerifyJob, h]

theorem execCanAuthGenerateJob_oldest {b : Bool} {s : State} {j : AuthJob} (h : s.authNext true = some j) :
    execCanAuthGenerateJob b s = .next ((s.authTake j).authGenerate j b) := by
  simp only [execCanAuthGenerateJob, h]

/-! ### Waiting commits (R96, R97, R99) -/

theorem execEpochSwitch_turn {s : State} {p : PendCommit} {l : List PendCommit}
    (h : s.gci.commits = p :: l ∧ s.oldCfg = none ∧ s.dumping = false) : execEpochSwitch s = .next (s.popCommit.commitTurn p) := by
  obtain ⟨hcommits, hold, hdump⟩ := h
  simp [execEpochSwitch, hcommits, hold, hdump]

theorem execEpochSwitch_waits {s : State} (h : s.gci.commits = [] ∨ s.oldCfg.isSome = true ∨ s.dumping = true) :
    execEpochSwitch s = .next s := by
  unfold execEpochSwitch
  cases hc : s.gci.commits with
  | nil => rfl
  | cons p l =>
    have hheld : s.oldCfg.isSome = true ∨ s.dumping = true := h.resolve_left (by simp [hc])
    rcases hheld with h | h <;> simp [h]

section
variable {v : State} {p : PendCommit} {d : Draft}

theorem State.commitTurn_switches (h : v.draft p.client p.handle = some d ∧ v.commitCheck d p.baseEpoch p.flags = none) :
    v.commitTurn p = (v.commitNow d p.flags).2.finishTicket p.client p.ticket stDone (v.commitNow d p.flags).1 := by
  simp only [State.commitTurn, h]

theorem State.commitTurn_fails {st : Nat} {pay : List Byte}
    (h : v.draft p.client p.handle = some d ∧ v.commitCheck d p.baseEpoch p.flags = some (st, pay)) :
    v.commitTurn p = v.finishTicket p.client p.ticket st pay := by
  simp only [State.commitTurn, h]

theorem State.commitTurn_discarded (h : v.draft p.client p.handle = none) :
    v.commitTurn p = v.finishTicket p.client p.ticket stAborted [] := by
  simp only [State.commitTurn, h]

end

/-- Settles O27: each command by the equation of its case. -/
theorem gateBundleAuthCommitCommandsComplete : Obligations.GateBundleAuthCommitCommandsComplete := by
  unfold Obligations.GateBundleAuthCommitCommandsComplete
  refine ⟨?entryNext, ?entryCut, ?entryLast, ?cycleStarts, ?cycleHeld, ?noCycle, ?change, ?noChange,
    fun _ _ _ => execBundlerTakeMessage_takes, fun _ _ => execBundlerTakeMessage_idle, fun _ _ => rfl, ?unbundles, ?noFrame,
    ?drained, fun _ => execSgeDrainDone_idle, fun _ _ _ => execCanAuthVerifyJob_oldest, fun _ _ _ => execCanAuthGenerateJob_oldest,
    ?noJob, ?switches, ?fails, ?discarded, fun _ => execEpochSwitch_waits, ?releases, ?noRelease⟩
  case entryNext =>
    rintro p s _ l a b i _ ⟨rfl, hl⟩ he rfl ⟨hcycle, hpend⟩
    exact execGateEntryStart_next hl he hcycle hpend
  case entryCut =>
    rintro p s _ l a b i _ ⟨rfl, hl⟩ ⟨he, rfl⟩ hcut
    exact execGateEntryStart_cut hl he hcut
  case entryLast =>
    rintro p s _ rfl he
    exact execGateEntryStart_last he
  case cycleStarts =>
    rintro p s _ l _ _ ⟨rfl, hl, rfl⟩ hpend rfl
    exact execGateCycleStart_starts hl hpend
  case cycleHeld =>
    rintro p s _ l k c _ ⟨rfl, hl, rfl⟩ hp
    exact execGateCycleStart_held hl hp
  case noCycle =>
    intro p s h
    show execGateCycleStart p s = _
    simp only [execGateCycleStart, h]
  case change =>
    rintro p s l t _ ⟨h, rfl⟩
    show execGateChangeTime p s = _
    simp only [execGateChangeTime, h]
  case noChange =>
    intro p s h
    show execGateChangeTime p s = _
    simp only [execGateChangeTime, h]
  case unbundles =>
    rintro u s d l _ h rfl
    show execUnbundleFrame u s = _
    simp only [execUnbundleFrame, h]
  case noFrame =>
    intro u s h
    show execUnbundleFrame u s = _
    simp only [execUnbundleFrame, h]
  case drained =>
    rintro s _ h rfl
    exact execSgeDrainDone_drained h
  case noJob =>
    intro b s
    exact ⟨fun h => by show execCanAuthVerifyJob b s = _; simp only [execCanAuthVerifyJob, h],
      fun h => by show execCanAuthGenerateJob b s = _; simp only [execCanAuthGenerateJob, h]⟩
  case switches =>
    rintro s p l _ d _ hturn ⟨rfl, h⟩ rfl
    exact (execEpochSwitch_turn hturn).trans (congrArg _ (State.commitTurn_switches h))
  case fails =>
    rintro s p l _ d st pay hturn ⟨rfl, h⟩
    exact (execEpochSwitch_turn hturn).trans (congrArg _ (State.commitTurn_fails h))
  case discarded =>
    rintro s p l _ hturn ⟨rfl, h⟩
    exact (execEpochSwitch_turn hturn).trans (congrArg _ (State.commitTurn_discarded h))
  case releases =>
    intro s v h hv
    show execOldEpochRelease s = _
    rw [hv]
    simp only [execOldEpochRelease, Option.isNone_eq_false_iff.2 h, Bool.false_eq_true, if_false]
  case noRelease =>
    intro s h
    show execOldEpochRelease s = _
    simp [execOldEpochRelease, h]

end Sys2Proof.Machine

/-! O28: what happens on a CAN Lane, each command by the condition under which it takes effect. -/

namespace Sys2Proof.Machine

-- One theorem at a time: those that wait for the kernel would each hold a thread with its whole stack.
set_option Elab.async false

section
variable {n : Fin 64} {s : State}

/-! ### Frames, attempts and recovery (R157, R168, R171, R176) -/

theorem execCanFrameReceive_hears (f : CanFrame) (a : BitVec 32) (u : Upset) (h : s.canListens n = true ∧ canFrameOk f = true) :
    execCanFrameReceive n f a u s = .next (if s.canKnows n f.kind then s.canAccept n f a.toNat u else s.canUnknown n) := by
  obtain ⟨hl, hf⟩ := h
  cases hk : s.canKnows n f.kind <;> simp [execCanFrameReceive, hl, hf, hk]

theorem execCanFrameReceive_deaf (f : CanFrame) (a : BitVec 32) (u : Upset) (h : s.canListens n = false ∨ canFrameOk f = false) :
    execCanFrameReceive n f a u s = .next s := by
  rcases h with h | h <;> simp [execCanFrameReceive, h]

theorem execCanAttemptEnd_inFlight (k : Fin 8) (a b : Bool) (h : (s.canLane n).inFlight.isSome = true) :
    execCanAttemptEnd n k a b s =
      .next (if k.val = 0 then (s.canSent n).canAfterAttempt n else (s.canFailed n k a b).canAfterAttempt n) := by
  simp only [execCanAttemptEnd, Option.isNone_eq_false_iff.2 h, Bool.false_eq_true, if_false]

theorem execCanAttemptEnd_none (k : Fin 8) (a b : Bool) (h : (s.canLane n).inFlight = none) :
    execCanAttemptEnd n k a b s = .next s := by
  simp [execCanAttemptEnd, h]

theorem execRecoverDelayExpiry_due {t : Nat} (h : (s.canLane n).recoverAt = some t) :
    execRecoverDelayExpiry n s = .next ((s.timeTo t).canRecoverStart n) := by
  simp only [execRecoverDelayExpiry, h]

theorem execRecoverDelayExpiry_none (h : (s.canLane n).recoverAt = none) : execRecoverDelayExpiry n s = .next s := by
  simp only [execRecoverDelayExpiry, h]

theorem execRecoveryCountDone_eq (n : Fin 64) (s : State) : execRecoveryCountDone n s =
    .next (if s.flag (CanStatus.recovering n) = true ∧ s.flag (CanStatus.laneGated n) = false then s.canRecovered n else s) := by
  simp [execRecoveryCountDone]

/-! ### Transmission at a time (R180) -/

theorem execAtTimeRelease_armed {a : AtFrame} (h : (s.canLane n).at_ = some a) :
    execAtTimeRelease n s = .next ((s.timeTo a.at_).setCan n
      { (s.timeTo a.at_).canLane n with at_ := some { a with released := true } }) := by
  simp only [execAtTimeRelease, h]

theorem execAtTimeLate_waiting {a : AtFrame} (h : (s.canLane n).at_ = some a ∧ (s.canLane n).inFlight ≠ some .atTime) :
    execAtTimeLate n s = .next ((s.timeTo (strandPlus a.at_ (usC (s.canPar n 0x0207) + 1))).atOutcome n a csLate) := by
  simp only [execAtTimeLate, h, beq_eq_false_iff_ne.2 h.2, Bool.false_eq_true, if_false]

theorem execAtTimeLate_inFlight {a : AtFrame} (h : (s.canLane n).at_ = some a ∧ (s.canLane n).inFlight = some .atTime) :
    execAtTimeLate n s = .next s := by
  simp only [execAtTimeLate, h, beq_self_eq_true, if_true]

theorem atTime_unarmed (h : (s.canLane n).at_ = none) : execAtTimeRelease n s = .next s ∧ execAtTimeLate n s = .next s := by
  constructor
  · simp only [execAtTimeRelease, h]
  · simp only [execAtTimeLate, h]

/-! ### Integration and errors as receiver (R110, R173, R174) -/

theorem execCanIntegration_ends (h : s.flag (CanStatus.enabled n) = true ∧ s.flag (CanStatus.laneGated n) = false ∧
    (16 ≤ n.val ∨ s.getF (CanStatus.xcvrMode n) ≤ 1)) :
    execCanIntegration n s = .next (s.setF (CanStatus.integrating n) 0) := by
  obtain ⟨hen, hgate, hmode⟩ := h
  rcases hmode with hmode | hmode <;> simp [execCanIntegration, hen, hgate, hmode]

theorem execCanIntegration_idle (h : s.flag (CanStatus.enabled n) = false ∨ s.flag (CanStatus.laneGated n) = true ∨
    (n.val < 16 ∧ 1 < s.getF (CanStatus.xcvrMode n))) :
    execCanIntegration n s = .next s := by
  rcases h with h | h | ⟨hn, hmode⟩
  · simp [execCanIntegration, h]
  · simp [execCanIntegration, h]
  · simp [execCanIntegration, Nat.not_le.2 hn, Nat.not_le.2 hmode]

theorem execCanRxError_counts {k : Fin 7} (a b : Bool) (h : s.canListens n = true ∧ k.val ≠ 0 ∧ k.val ≠ 3) :
    execCanRxError n k a b s = .next (s.canRxErr n k a (if b then 9 else 1)) := by
  obtain ⟨hl, h0, h3⟩ := h
  simp only [execCanRxError, hl, h0, h3, Bool.not_true, decide_false, Bool.or_false, Bool.false_eq_true, if_false]

theorem execCanRxError_idle {k : Fin 7} (a b : Bool) (h : s.canListens n = false ∨ k.val = 0 ∨ k.val = 3) :
    execCanRxError n k a b s = .next s := by
  rcases h with h | h | h <;> simp [execCanRxError, h]

end

/-! ### Transceiver modes (R165, R166) -/

section
variable {n : Fin 16} {s : State}

theorem execXcvrModeApply_applies {m : Nat} (h : (s.canLane n).xcvrPend = some m ∧ (s.canLane n).inFlight = none) :
    execXcvrModeApply n s = .next (s.setCan n { s.canLane n with xcvrPend := none, xcvrGoing := some m }) := by
  simp [execXcvrModeApply, h]

theorem execXcvrModeApply_idle (h : (s.canLane n).xcvrPend = none ∨ (s.canLane n).inFlight.isSome = true) :
    execXcvrModeApply n s = .next s := by
  unfold execXcvrModeApply
  cases hp : (s.canLane n).xcvrPend with
  | none => rfl
  | some m => simp [h.resolve_left (by simp [hp])]

theorem execXcvrModeReached_going {m : Nat} (h : (s.canLane n).xcvrGoing = some m) :
    execXcvrModeReached n s = .next (s.xcvrReached n m) := by
  simp only [execXcvrModeReached, h]

theorem execXcvrModeReached_none (h : (s.canLane n).xcvrGoing = none) : execXcvrModeReached n s = .next s := by
  simp only [execXcvrModeReached, h]

end

/-- Settles O28: each command by the equation of its case. -/
theorem canLaneCommandsComplete : Obligations.CanLaneCommandsComplete := by
  unfold Obligations.CanLaneCommandsComplete
  refine ⟨fun _ f a u _ => execCanFrameReceive_hears f a u, fun _ f a u _ => execCanFrameReceive_deaf f a u, fun _ _ _ => rfl,
    fun _ _ => rfl, fun _ k a b _ => execCanAttemptEnd_inFlight k a b, fun _ k a b _ => execCanAttemptEnd_none k a b,
    fun _ _ _ => execRecoverDelayExpiry_due, fun _ _ => execRecoverDelayExpiry_none, execRecoveryCountDone_eq, ?atRelease,
    fun _ _ _ => execAtTimeLate_waiting, fun _ _ _ => execAtTimeLate_inFlight, fun _ _ => atTime_unarmed,
    fun _ _ _ => execXcvrModeApply_applies, fun _ _ => execXcvrModeApply_idle, fun _ _ _ => execXcvrModeReached_going,
    fun _ _ => execXcvrModeReached_none, fun _ _ => rfl, fun _ _ => execCanIntegration_ends, fun _ _ => execCanIntegration_idle,
    fun _ _ a b _ => execCanRxError_counts a b, fun _ _ a b _ => execCanRxError_idle a b⟩
  case atRelease =>
    rintro n s a v ⟨h, rfl⟩
    exact execAtTimeRelease_armed h

end Sys2Proof.Machine

/-! O30: what happens on a LIN Channel, each command by the condition under which it takes effect. -/

namespace Sys2Proof.Machine

-- One theorem at a time: those that wait for the kernel would each hold a thread with its whole stack.
set_option Elab.async false

section
variable {n : Fin 16} {s : State}

/-! ### Headers and responses received (R199, R202, R203) -/

/-- A responder that runs. -/
theorem execLinHeaderReceive_responder (i : BitVec 6) (e : Fin 4) (a : BitVec 32) (u : Fin 7) {v w : State}
    (h : s.linRuns n = true ∧ s.getF (LinStatus.roleActive n) = 2)
    (hw : v = s.linActivity n ∧ w = v.setLin n { v.linLane n with brk := strandMinus v.strand a.toNat }) :
    execLinHeaderReceive n i e a u s = .next (State.linSpan
      (if e.val = 0 then (w.linHeaderIn n i.toNat u).linDisableStep n else w.linHeaderFault n e.val) n) := by
  obtain ⟨hruns, hrole⟩ := h
  obtain ⟨rfl, rfl⟩ := hw
  simp only [execLinHeaderReceive, hruns, hrole, bne_self_eq_false, Bool.not_true, Bool.or_false, Bool.false_eq_true, if_false]

theorem execLinHeaderReceive_other (i : BitVec 6) (e : Fin 4) (a : BitVec 32) (u : Fin 7)
    (h : s.linRuns n = false ∨ s.getF (LinStatus.roleActive n) ≠ 2) : execLinHeaderReceive n i e a u s = .next s := by
  rcases h with h | h <;> simp [execLinHeaderReceive, h]

theorem execLinResponseReceive_runs (l : List Byte) (k : Fin 4) (u : Upset) (h : s.linRuns n = true) :
    execLinResponseReceive n l k u s = .next (((s.linResponse n l k u).linDisableStep n).linSpan n) := by
  simp only [execLinResponseReceive, h, Bool.not_true, Bool.false_eq_true, if_false]

theorem execLinResponseReceive_stopped (l : List Byte) (k : Fin 4) (u : Upset) (h : s.linRuns n = false) :
    execLinResponseReceive n l k u s = .next s := by
  simp only [execLinResponseReceive, h, Bool.not_false, if_true]

theorem execLinResponseTimeout_subscribed (h : (s.linLane n).slot = .subscribe) :
    execLinResponseTimeout n s =
      .next (((((s.timeTo (s.linLane n).respEnd).incLin n 3).linEvent n 0).linResponseEnd n).linDisableStep n) := by
  simp only [execLinResponseTimeout, h, beq_self_eq_true, if_true]
  rfl

theorem execLinResponseTimeout_other (h : (s.linLane n).slot ≠ .subscribe) : execLinResponseTimeout n s = .next s := by
  simp only [execLinResponseTimeout, beq_eq_false_iff_ne.2 h, Bool.false_eq_true, if_false]

end

section
variable {n : Nat} {s : State}

/-- A correct response in a slot that takes one. -/
theorem State.linResponse_correct (l : List Byte) (u : Upset)
    (h : (s.linLane n).slot = .subscribe ∨ (s.linLane n).slot = .event) :
    s.linResponse n l 0 u = if l.length = s.linLen n (s.linLane n).lastId then s.linReceived n l u else s.linActivity n := by
  have hslot : ((s.linLane n).slot == .subscribe || (s.linLane n).slot == .event) = true := by
    rcases h with h | h <;> simp [h]
  simp [State.linResponse, hslot]

theorem State.linResponse_wrongChecksum (l : List Byte) (u : Upset) (h : (s.linLane n).slot = .subscribe) :
    s.linResponse n l 1 u = (((s.incLin n 4).linEvent n 1).linActivity n).linResponseEnd n := by
  simp [State.linResponse, h]

theorem State.linResponse_incomplete (l : List Byte) (u : Upset) (h : (s.linLane n).slot = .subscribe) :
    s.linResponse n l 2 u = s.linActivity n := by
  simp [State.linResponse, h]

/-- A wrong response in an event-triggered slot is a collision. -/
theorem State.linResponse_collision (l : List Byte) {k : Nat} (u : Upset) (h : (s.linLane n).slot = .event ∧ (k = 1 ∨ k = 2)) :
    s.linResponse n l k u =
      let v := ((s.incLin n 8).linEvent n 3).linActivity n
      v.setLin n { v.linLane n with collided := true } := by
  obtain ⟨hslot, hk⟩ := h
  rcases hk with rfl | rfl <;> simp [State.linResponse, hslot]

theorem State.linResponse_otherSlot (l : List Byte) {k : Nat} (u : Upset)
    (h : (s.linLane n).slot ≠ .subscribe ∧ (s.linLane n).slot ≠ .event ∧ k ≠ 3) : s.linResponse n l k u = s.linActivity n := by
  obtain ⟨hsub, hev, hk⟩ := h
  simp [State.linResponse, hsub, hev, hk]

end

/-! ### Bus idle, restarts, pulses and drains (R111, R196, R200, R201, R206) -/

section
variable {n : Fin 16} {s : State}

/-- A responder's bus that is not idle yet. -/
theorem execLinBusIdleTimeout_idles {v : State}
    (h : s.linRuns n = true ∧ s.getF (LinStatus.roleActive n) = 2 ∧ s.flag (LinStatus.busIdle n) = false)
    (hv : v = State.linEvent ((s.timeTo (strandPlus (s.linLane n).activity (secC 4))).setF (LinStatus.busIdle n) 1) n 6) :
    execLinBusIdleTimeout n s = .next ((v.setLin n { v.linLane n with demand := false }).linSpan n) := by
  obtain ⟨hruns, hrole, hidle⟩ := h
  simp only [execLinBusIdleTimeout, hruns, hrole, hidle, hv, bne_self_eq_false, Bool.not_true, Bool.or_false, Bool.false_eq_true,
    if_false]

theorem execLinBusIdleTimeout_other
    (h : s.linRuns n = false ∨ s.getF (LinStatus.roleActive n) ≠ 2 ∨ s.flag (LinStatus.busIdle n) = true) :
    execLinBusIdleTimeout n s = .next s := by
  rcases h with h | h | h <;> simp [execLinBusIdleTimeout, h]

theorem execLinScheduleRestart_due {a t : Nat} (h : (s.linLane n).restartAt = some a ∧ (s.linLane n).lastTable = some t) :
    execLinScheduleRestart n s = .next ((s.timeTo a).linStartTable n t) := by
  simp only [execLinScheduleRestart, h]

theorem execLinScheduleRestart_none (h : (s.linLane n).restartAt = none ∨ (s.linLane n).lastTable = none) :
    execLinScheduleRestart n s = .next s := by
  rcases h with h | h <;> simp [execLinScheduleRestart, h]

theorem execWakeupPulseEnd_due {t : Nat} {v : State} {b : Bool} (h : (s.linLane n).pulseEnd = some t ∧ v = s.timeTo t)
    (hb : b = (v.getF (LinStatus.roleActive n) == 1 && (v.linLane n).lastTable.isSome && !v.flag (LinStatus.running n) &&
      (v.linLane n).wakeRestart)) :
    execWakeupPulseEnd n s = .next (State.linEvent ((v.setLin n { v.linLane n with
      pulseEnd := none, wakeRestart := false, restartAt := if b then some (v.after (msC 100)) else none }).incLin n 11) n 5) := by
  obtain ⟨hp, rfl⟩ := h
  subst hb
  simp only [execWakeupPulseEnd, hp]

theorem execWakeupPulseEnd_none (h : (s.linLane n).pulseEnd = none) : execWakeupPulseEnd n s = .next s := by
  simp only [execWakeupPulseEnd, h]

theorem execLinDrainTimeout_draining {d : Disabling} (h : (s.linLane n).disabling = some d ∧ d.mode = 1) :
    execLinDrainTimeout n s = .next ((s.timeTo d.deadline).linForce n d.ticket) := by
  simp only [execLinDrainTimeout, h, beq_self_eq_true, if_true]

theorem execLinDrainTimeout_other (h : ∀ d, (s.linLane n).disabling = some d → d.mode ≠ 1) : execLinDrainTimeout n s = .next s := by
  unfold execLinDrainTimeout
  cases hd : (s.linLane n).disabling with
  | none => rfl
  | some d => simp [h d hd]

end

/-- Settles O30: each command by the equation of its case. -/
theorem linLaneCommandsComplete : Obligations.LinLaneCommandsComplete := by
  unfold Obligations.LinLaneCommandsComplete
  refine ⟨fun _ i e a u _ _ _ => execLinHeaderReceive_responder i e a u, fun _ i e a u _ => execLinHeaderReceive_other i e a u,
    fun _ l k u _ => execLinResponseReceive_runs l k u, fun _ l k u _ => execLinResponseReceive_stopped l k u, fun _ _ _ _ => rfl,
    fun _ _ l u => State.linResponse_correct l u, ?subscribed, ?collision, fun _ _ l _ u => State.linResponse_otherSlot l u, ?timeout,
    fun _ _ => execLinResponseTimeout_other, fun _ _ _ => execLinBusIdleTimeout_idles, fun _ _ => execLinBusIdleTimeout_other,
    fun _ _ _ => rfl, fun _ _ _ => rfl, fun _ _ _ _ => execLinScheduleRestart_due, fun _ _ => execLinScheduleRestart_none, ?txd,
    fun _ _ _ _ _ => execWakeupPulseEnd_due, fun _ _ => execWakeupPulseEnd_none, fun _ _ _ => execLinDrainTimeout_draining,
    fun _ _ => execLinDrainTimeout_other⟩
  case subscribed =>
    intro n s l u h
    exact ⟨State.linResponse_wrongChecksum l u h, State.linResponse_incomplete l u h⟩
  case collision =>
    rintro n s l k u _ h rfl
    exact State.linResponse_collision l u h
  case timeout =>
    rintro n s _ h rfl
    exact execLinResponseTimeout_subscribed h
  case txd =>
    rintro n s _ rfl
    rfl

end Sys2Proof.Machine

/-! O33: what happens at an Ethernet port, each command by the condition under which it takes effect. -/

namespace Sys2Proof.Machine

-- One theorem at a time: those that wait for the kernel would each hold a thread with its whole stack.
set_option Elab.async false

/-! ### Links and flushes (R134, R135, R268) -/

section
variable {p : Fin 20} {s : State}

theorem execLinkUpConditions_live (k : Fin 3) (b : Bool) {m : Nat} {a : Bool}
    (h : s.chanEnabled p = true ∧ s.flag (PortStatus.laneGated p) = false)
    (hm : m = s.getF (PortStatus.modeActive p) ∧ a = (s.par (oChan p) 0x0101 == 1)) :
    execLinkUpConditions p k b s = .next (if (m == 4 && a && b) = true then s.halfDuplexDown p
      else if s.flag (PortStatus.linkUp p) then s else s.linkConds p m a k) := by
  obtain ⟨hen, hgate⟩ := h
  obtain ⟨rfl, rfl⟩ := hm
  simp only [execLinkUpConditions, hen, hgate, Bool.not_true, Bool.or_false, Bool.false_eq_true, if_false]

theorem execLinkUpConditions_dead (k : Fin 3) (b : Bool) (h : s.chanEnabled p = false ∨ s.flag (PortStatus.laneGated p) = true) :
    execLinkUpConditions p k b s = .next s := by
  rcases h with h | h <;> simp [execLinkUpConditions, h]

theorem execLinkHoldExpiry_due {t : Nat} {v w : State}
    (h : (s.port p).holdEnd = some t ∧ v = s.timeTo t ∧ w = v.setF (PortStatus.holding p) 0) :
    execLinkHoldExpiry p s = .next (if v.flag (PortStatus.flushing p) then
      w.setPort p { v.port p with holdEnd := none, holdOver := true } else v.portUp p) := by
  obtain ⟨ht, rfl, rfl⟩ := h
  simp only [execLinkHoldExpiry, ht]

theorem execLinkHoldExpiry_none (h : (s.port p).holdEnd = none) : execLinkHoldExpiry p s = .next s := by
  simp only [execLinkHoldExpiry, h]

end

section
variable {s v : State} {f : Flush} {l : List Flush} {p n : Nat}
  (h : s.buf.flushes = f :: l ∧ v = ((s.timeTo (strandPlus f.at_ 65536)).flushQueues f.queues).flushNext l)
include h

theorem execFlushScanEnd_port (hp : f.port = some p) :
    execFlushScanEnd s = .next (if l.any (fun g => g.port == some p) then v else v.portFlushed p) := by
  obtain ⟨hf, rfl⟩ := h
  simp only [execFlushScanEnd, hf, hp]

theorem execFlushScanEnd_can (hn : f.port = none ∧ f.can = some n) :
    execFlushScanEnd s = .next (if l.any (fun g => g.can == some n) then v else v.canFlushed n) := by
  obtain ⟨hf, rfl⟩ := h
  simp only [execFlushScanEnd, hf, hn]

theorem execFlushScanEnd_queues (hq : f.port = none ∧ f.can = none) : execFlushScanEnd s = .next v := by
  obtain ⟨hf, rfl⟩ := h
  simp only [execFlushScanEnd, hf, hq]

end

theorem execFlushScanEnd_none {s : State} (h : s.buf.flushes = []) : execFlushScanEnd s = .next s := by
  simp only [execFlushScanEnd, h]

/-! ### Drains (R111) -/

section
variable {p : Fin 22} {s : State}

theorem execEthDrainTimeout_disabling {d : Disabling} (h : (s.port p).disabling = some d) :
    execEthDrainTimeout p s = .next (if d.mode = 1 then (s.timeTo d.deadline).portForce p d.ticket else s) := by
  simp only [execEthDrainTimeout, h, beq_iff_eq]

theorem execEthDrainTimeout_none (h : (s.port p).disabling = none) : execEthDrainTimeout p s = .next s := by
  simp only [execEthDrainTimeout, h]

end

/-! ### Pause, storms and verification (R138, R141, R142, R147) -/

section
variable {p : Fin 12} {c : Fin 8} {s : State}

theorem execPauseTimerExpiry_due {t : Nat} (h : tabFind (s.port p).rxTimer c = some t) :
    execPauseTimerExpiry p c s = .next ((s.timeTo t).pauseEnd p c) := by
  simp only [execPauseTimerExpiry, h]

theorem execPauseRefresh_due {t : Nat} {v : State} (h : (s.port p).refreshAt = some t ∧ v = s.timeTo t) :
    execPauseRefresh p s = .next ((v.setPort p { v.port p with
      refreshAt := none, fcPend := orMask (v.port p).fcPend (maskOf ((v.fcClasses p).filter (fun c => v.xoffOn p c))) }).fcSend p) := by
  obtain ⟨ht, rfl⟩ := h
  simp only [execPauseRefresh, ht]

theorem execPauseRefresh_none (h : (s.port p).refreshAt = none) : execPauseRefresh p s = .next s := by
  simp only [execPauseRefresh, h]

theorem execPauseWatchdogExpiry_due {t : Nat} (h : tabFind (s.port p).dogAt c = some t) :
    execPauseWatchdogExpiry p c s = .next ((s.timeTo (strandPlus t 1)).stormEnter p c t) := by
  simp only [execPauseWatchdogExpiry, h]

theorem execStormHoldExpiry_due {t : Nat} (h : tabFind (s.port p).stormEnd c = some t) :
    execStormHoldExpiry p c s = .next ((s.timeTo t).stormExit p c) := by
  simp only [execStormHoldExpiry, h]

theorem execVerifyTimeExpiry_due {t : Nat} (h : (s.port p).verifyAt = some t) :
    execVerifyTimeExpiry p s = .next ((s.timeTo t).verifyAgain p) := by
  simp only [execVerifyTimeExpiry, h]

theorem execVerifyTimeExpiry_none (h : (s.port p).verifyAt = none) : execVerifyTimeExpiry p s = .next s := by
  simp only [execVerifyTimeExpiry, h]

theorem execVerifyRespondReceive_eq (p : Fin 12) (s : State) : execVerifyRespondReceive p s =
    .next (if s.getF (PortStatus.verify p) = 1 then
      (s.setPort p { s.port p with verifyAt := none }).setF (PortStatus.verify p) 2 else s) := by
  simp only [execVerifyRespondReceive, beq_iff_eq]

end

/-! ### PLCA and back-off (R144 to R146) -/

section
variable {k : Fin 8} {s : State} {p : Nat}

theorem execPlcaFallback_falls (h : p = 12 + k.val ∧ s.par (oChan p) 0x0300 = 1 ∧ s.flag (PortStatus.plcaOk p) = true ∧
    s.flag (PortStatus.laneGated p) = false) :
    execPlcaFallback k s = .next ((((s.plcaStop p).setF (PortStatus.plcaOk p) 0).inc (oChan p) cEth 29).event
      (PortEvents.plcaFallback p) (0x104 + p * 16)) := by
  obtain ⟨rfl, hen, hok, hgate⟩ := h
  simp only [execPlcaFallback, hen, hok, hgate, beq_self_eq_true, Bool.not_false, Bool.and_self, if_true]

theorem execPlcaFallback_other (h : p = 12 + k.val ∧ (s.par (oChan p) 0x0300 ≠ 1 ∨ s.flag (PortStatus.plcaOk p) = false ∨
    s.flag (PortStatus.laneGated p) = true)) : execPlcaFallback k s = .next s := by
  obtain ⟨rfl, h | h | h⟩ := h <;> simp [execPlcaFallback, h]

theorem execPlcaOkRestore_restores (h : p = 12 + k.val ∧ s.par (oChan p) 0x0300 = 1 ∧ s.flag (PortStatus.laneGated p) = false) :
    execPlcaOkRestore k s = .next ((s.setF (PortStatus.plcaOk p) 1).setPort p { s.port p with
      backoffAt := none, deferred := (s.port p).deferred || (s.port p).backoffAt.isSome }) := by
  obtain ⟨rfl, hen, hgate⟩ := h
  simp only [execPlcaOkRestore, hen, hgate, beq_self_eq_true, Bool.not_false, Bool.and_self, if_true]

theorem execPlcaOkRestore_other (h : p = 12 + k.val ∧ (s.par (oChan p) 0x0300 ≠ 1 ∨ s.flag (PortStatus.laneGated p) = true)) :
    execPlcaOkRestore k s = .next s := by
  obtain ⟨rfl, h | h⟩ := h <;> simp [execPlcaOkRestore, h]

theorem execBackoffExpiry_due {t : Nat} {v : State}
    (h : p = 12 + k.val ∧ (s.port p).backoffAt = some t ∧ v = ((s.timeTo t).creditSync p).frameAnew p) :
    execBackoffExpiry k s = .next (v.setPort p { v.port p with backoffAt := none }) := by
  obtain ⟨rfl, ht, rfl⟩ := h
  simp only [execBackoffExpiry, ht]

theorem execBackoffExpiry_none (h : (s.port (12 + k.val)).backoffAt = none) : execBackoffExpiry k s = .next s := by
  simp only [execBackoffExpiry, h]

end

/-! ### MDIO (R152) -/

section
variable {m : Fin 2} {d : BitVec 16} {s : State}

theorem execMdioAccessDone_running {c n : Nat} {r : List Byte} {l : List (Nat × Nat × List Byte)} {v : State}
    (h : s.mdioQueue m = (c, n, r) :: l)
    (hv : v = State.finishTicket (s.setMdio m l) c n stDone (if s.mdioWrites c n then [] else leBytes 2 d.toNat)) :
    execMdioAccessDone m d s = .next (v.mdioNext m l) := by
  subst hv
  simp only [execMdioAccessDone, h]

theorem execMdioAccessDone_none (h : s.mdioQueue m = []) : execMdioAccessDone m d s = .next s := by
  simp only [execMdioAccessDone, h]

end

/-- Settles O33: each command by the equation of its case. -/
theorem portCommandsComplete : Obligations.PortCommandsComplete := by
  unfold Obligations.PortCommandsComplete
  refine ⟨fun _ _ _ => rfl, fun _ k b _ _ _ => execLinkUpConditions_live k b, fun _ k b _ => execLinkUpConditions_dead k b,
    fun _ _ _ _ _ => execLinkHoldExpiry_due, fun _ _ => execLinkHoldExpiry_none, fun _ _ _ _ _ => execFlushScanEnd_port,
    fun _ _ _ _ _ => execFlushScanEnd_can, fun _ _ _ _ => execFlushScanEnd_queues, fun _ => execFlushScanEnd_none,
    fun _ _ _ => execEthDrainTimeout_disabling, fun _ _ => execEthDrainTimeout_none, fun _ _ _ _ => execPauseTimerExpiry_due,
    fun _ _ _ _ => execPauseRefresh_due, fun _ _ => execPauseRefresh_none, fun _ _ _ _ => execPauseWatchdogExpiry_due,
    fun _ _ _ _ => execStormHoldExpiry_due, ?noTimer, fun _ _ _ => execPlcaFallback_falls, fun _ _ _ => execPlcaFallback_other,
    fun _ _ _ => execPlcaOkRestore_restores, fun _ _ _ => execPlcaOkRestore_other, fun _ _ _ _ => rfl,
    fun _ _ _ _ _ => execBackoffExpiry_due, fun _ _ => execBackoffExpiry_none, fun _ _ _ => execVerifyTimeExpiry_due,
    fun _ _ => execVerifyTimeExpiry_none, execVerifyRespondReceive_eq, fun _ _ _ _ _ _ _ _ => execMdioAccessDone_running,
    fun _ _ _ => execMdioAccessDone_none, fun _ _ _ => rfl⟩
  case noTimer =>
    intro p c s
    exact ⟨fun h => by show execPauseTimerExpiry p c s = _; simp only [execPauseTimerExpiry, h],
      fun h => by show execPauseWatchdogExpiry p c s = _; simp only [execPauseWatchdogExpiry, h],
      fun h => by show execStormHoldExpiry p c s = _; simp only [execStormHoldExpiry, h]⟩

end Sys2Proof.Machine

/-! O54: what commands of kind C and Q leave. `CommittedKept k s t` says what a command of kind `k` leaves of a state `s` on its way to a
state `t`. It is proved once for each operation that such a command is made of, in the order in which the model defines them; the one
operation that touches a draft is `State.stage`, and no query stages. -/

namespace Sys2Proof.Machine

-- One theorem at a time: those that wait for the kernel would each hold a thread with its whole stack.
set_option Elab.async false

/-! ### The relation -/

/-- `t` has of `s` what a configuration command and a query leave, and, for a query, its drafts (R90). -/
structure CommittedKept (k : CmdKind) (s t : State) : Prop where
  cfg : t.cfg = s.cfg
  oldCfg : t.oldCfg = s.oldCfg
  epoch : t.gci.epoch = s.gci.epoch
  fuses : t.fuses = s.fuses
  flash : t.flash = s.flash
  bar2 : t.bar2 = s.bar2
  nvm : t.brim.nvm = s.brim.nvm
  slots : t.hbx.slots = s.hbx.slots
  drafts : k = .q → t.gci.drafts = s.gci.drafts

namespace CommittedKept

@[refl] theorem refl (k : CmdKind) (s : State) : CommittedKept k s s := ⟨rfl, rfl, rfl, rfl, rfl, rfl, rfl, rfl, fun _ => rfl⟩

section
variable {k : CmdKind} {s t u : State}

/-- A change of what `CommittedKept` does not speak of: each such field may take any value, and of the three that hold the epoch, the
drafts, the non-volatile memory and the key slots only those parts must stay. -/
theorem edit (h : CommittedKept k s t) {regs : Tab Word} {ctrs ctrLatch : Tab Nat} {bar0 host : Memory} {out : List Emit}
    {evt : EvtState} {pcie : PcieState} {gci : GciState} {brim : BrimState} {pier : PierState} {time : TimeState} {hbx : HbxState}
    {hatpin : HatpinState} {egr : EgrState} {freeCount : Nat} (hepoch : gci.epoch = t.gci.epoch := by rfl)
    (hdrafts : k = .q → gci.drafts = t.gci.drafts := by exact fun _ => rfl) (hnvm : brim.nvm = t.brim.nvm := by rfl)
    (hslots : hbx.slots = t.hbx.slots := by rfl) :
    CommittedKept k s { t with
      regs := regs, ctrs := ctrs, ctrLatch := ctrLatch, bar0 := bar0, host := host, out := out, evt := evt, pcie := pcie, gci := gci,
      brim := brim, pier := pier, time := time, hbx := hbx, hatpin := hatpin, egr := egr, freeCount := freeCount } where
  cfg := h.cfg
  oldCfg := h.oldCfg
  epoch := hepoch.trans h.epoch
  fuses := h.fuses
  flash := h.flash
  bar2 := h.bar2
  nvm := hnvm.trans h.nvm
  slots := hslots.trans h.slots
  drafts hk := (hdrafts hk).trans (h.drafts hk)

/-! ### Shapes of programs -/

theorem ite {c : Prop} {_ : Decidable c} {v : State} (h : CommittedKept k s u) (h' : CommittedKept k s v) :
    CommittedKept k s (if c then u else v) := by
  split <;> assumption

/-- A choice whether to go on from a state. -/
theorem iteThen {c : Prop} {_ : Decidable c} {v : State} (h : CommittedKept k s u)
    (f : CommittedKept k s u → CommittedKept k s v) : CommittedKept k s (if c then v else u) := (f h).ite h

theorem iteElse {c : Prop} {_ : Decidable c} {v : State} (h : CommittedKept k s u)
    (f : CommittedKept k s u → CommittedKept k s v) : CommittedKept k s (if c then u else v) := h.ite (f h)

/-- A choice between two results, of which the second part is the state. -/
theorem iteSnd {α : Type} {c : Prop} {_ : Decidable c} {a b : α × State} (h : CommittedKept k s a.2) (h' : CommittedKept k s b.2) :
    CommittedKept k s (if c then a else b).2 := by
  split <;> assumption

theorem foldl {α : Type} {f : State → α → State} {l : List α} (h : CommittedKept k s t)
    (hf : ∀ u x, CommittedKept k s u → CommittedKept k s (f u x)) : CommittedKept k s (l.foldl f t) :=
  List.foldlRecOn l f h fun u hu x _ => hf u x hu

/-- The state of a result that has been taken apart. -/
theorem snd {α : Type} {p : α × State} {a : α} (h : CommittedKept k s p.2) (e : p = (a, u)) : CommittedKept k s u := by
  subst e
  exact h

/-! ### Registers, events and free values -/

theorem setF (h : CommittedKept k s t) {f : Field} {v : Nat} : CommittedKept k s (t.setF f v) := h.edit

theorem inc (h : CommittedKept k s t) {o cls i : Nat} : CommittedKept k s (t.inc o cls i) := h.edit

theorem draw (h : CommittedKept k s t) : CommittedKept k s t.draw.2 := h.edit

theorem concentratorKeeps : ConcentratorKeeps (CommittedKept k s) := ⟨fun h => h.edit, fun h _ => h.setF⟩

theorem syncMbLevel (h : CommittedKept k s t) {n : Nat} : CommittedKept k s (t.syncMbLevel n) := concentratorKeeps.level h

theorem occurOn (h : CommittedKept k s t) {src detail : Nat} {inj : Bool} {rq : Nat × Nat} :
    CommittedKept k s (t.occurOn src detail inj rq) := by
  unfold State.occurOn
  dsimp only
  exact h.edit.ite (concentratorKeeps.evqWrite h)

theorem occur (h : CommittedKept k s t) {src detail : Nat} {inj : Bool} : CommittedKept k s (t.occur src detail inj) :=
  h.foldl fun _ _ hu => hu.occurOn

theorem event (h : CommittedKept k s t) {f : Field} {src detail : Nat} : CommittedKept k s (t.event f src detail) := h.setF.occur

/-! ### Units to other Decks (R504 to R509), which MACsec protects -/

theorem setAssoc (h : CommittedKept k s t) {p i : Nat} {v : SecAssoc} : CommittedKept k s (t.setAssoc p i v) := h.edit

theorem incMac (h : CommittedKept k s t) {p i j : Nat} : CommittedKept k s (t.incMac p i j) := h.edit

theorem macEvent (h : CommittedKept k s t) {p bit detail : Nat} : CommittedKept k s (t.macEvent p bit detail) := h.event

theorem macsecFrameStart (h : CommittedKept k s t) {p : Nat} : CommittedKept k s (t.macsecFrameStart p) := by
  unfold State.macsecFrameStart
  split
  · exact h
  · exact h.edit

theorem saStart (h : CommittedKept k s t) {p len : Nat} {bypass : Bool} : CommittedKept k s (t.saStart p len bypass).2 := by
  unfold State.saStart
  refine h.iteSnd (h.macsecFrameStart.incMac.iteSnd ?_)
  dsimp only
  split
  · exact h.macsecFrameStart.incMac
  · exact h.macsecFrameStart.incMac.iteSnd ((h.macsecFrameStart.setAssoc.iteThen fun hu =>
      hu.macEvent).iteThen fun hu => hu.setF.macEvent)

theorem setPierPort (h : CommittedKept k s t) {p : Nat} {v : PierPort} : CommittedKept k s (t.setPierPort p v) := h.edit

theorem unitWire (h : CommittedKept k s t) {p cls typ decks seq : Nat} {body : List Byte} :
    CommittedKept k s (t.unitWire p cls typ decks seq body) :=
  h.edit

theorem unitOut (h : CommittedKept k s t) {p cls typ decks seq : Nat} {body : List Byte} {prot : Option (Option TxSa)} :
    CommittedKept k s (t.unitOut p cls typ decks seq body prot) := by
  unfold State.unitOut
  dsimp only
  refine h.unitWire.ite ?_
  split
  · split
    · exact h
    · exact h.saStart
  · refine unitWire ?_
    split
    · exact h
    · exact h.saStart
  · refine unitWire (incMac (incMac ?_))
    split
    · exact h
    · exact h.saStart

theorem unitSend (h : CommittedKept k s t) {p cls typ decks : Nat} {body : List Byte} {prot : Option (Option TxSa)} :
    CommittedKept k s (t.unitSend p cls typ decks body prot) :=
  h.setPierPort.unitOut

theorem unitFlush (h : CommittedKept k s t) {p n : Nat} : CommittedKept k s (t.unitFlush p n) := by
  induction n generalizing t with
  | zero => exact h
  | succ n ih =>
    unfold State.unitFlush
    refine h.ite ?_
    split
    · exact h
    · exact ih h.setPierPort.unitSend

theorem pierSend (h : CommittedKept k s t) {p cls typ decks : Nat} {body : List Byte} :
    CommittedKept k s (t.pierSend p cls typ decks body) :=
  h.setPierPort.unitFlush

theorem bulkUnits (h : CommittedKept k s t) {deck num : Nat} {d : List Byte} : CommittedKept k s (t.bulkUnits deck num d) :=
  h.foldl fun _ _ hu => hu.pierSend

theorem sendReq (h : CommittedKept k s t) {mb deck client cmd : Nat} {req : List Byte} :
    CommittedKept k s (t.sendReq mb deck client cmd req).2 :=
  pierSend h.edit

/-! ### Mailboxes, answers and tickets (R55, R76 to R79) -/

theorem hostRead (h : CommittedKept k s t) {addr len : Nat} : CommittedKept k s (t.hostRead addr len).2 :=
  h.inc.iteSnd (h.iteSnd h)

theorem bulkRead (h : CommittedKept k s t) {c : Ctx} {b : Bulk} : CommittedKept k s (t.bulkRead c b).2 := h.iteSnd h.hostRead

theorem mbDoorbell (h : CommittedKept k s t) {n w : Nat} : CommittedKept k s (t.mbDoorbell n w) :=
  h.setF.setF.setF.edit.ite h.setF

theorem syncTickets (h : CommittedKept k s t) {c : Nat} : CommittedKept k s (t.syncTickets c) := h.foldl fun _ _ hu => hu.setF.ite hu

theorem openTicket (h : CommittedKept k s t) {c : Ctx} {locks : List Nat} : CommittedKept k s (t.openTicket c locks).2 :=
  syncTickets h.edit

theorem freeTicket (h : CommittedKept k s t) {client num : Nat} : CommittedKept k s (t.freeTicket client num) := syncTickets h.edit

theorem pend (h : CommittedKept k s t) {c : Ctx} {locks : List Nat} : CommittedKept k s (t.pend c locks).2 := by
  unfold State.pend
  dsimp only
  exact h.openTicket

theorem pendHatpin (h : CommittedKept k s t) {c : Ctx} {n : Nat} {data : List Byte} {write : Bool} :
    CommittedKept k s (t.pendHatpin c n data write).2 := by
  unfold State.pendHatpin
  dsimp only
  exact edit h.pend

theorem slotFeed (h : CommittedKept k s t) : CommittedKept k s t.slotFeed := by
  unfold State.slotFeed
  refine h.foldl ?_
  intro _ _ hu
  refine ite ?_ hu
  split
  · exact hu
  · exact mbDoorbell hu.edit

theorem slotSeg (h : CommittedKept k s t) {n : Nat} : CommittedKept k s (t.slotSeg n) := by
  unfold State.slotSeg
  refine h.ite ?_
  split
  · exact h
  · exact h.edit

theorem cplSend (h : CommittedKept k s t) {n : Nat} {resp : List Byte} : CommittedKept k s (t.cplSend n resp) := by
  unfold State.cplSend
  split
  · exact h
  · refine slotFeed (pierSend (setF (edit ?_)))
    split
    · exact h.bulkUnits
    · exact h

theorem mbRespond (h : CommittedKept k s t) {n cmd seq : Nat} {r : Resp} : CommittedKept k s (t.mbRespond n cmd seq r) :=
  h.edit.setF.setF.syncMbLevel.iteThen fun hu => hu.cplSend

theorem noteRetry (h : CommittedKept k s t) {cmd : Nat} {q : Req} {r : Resp} : CommittedKept k s (t.noteRetry cmd q r) := h.ite h.edit

theorem forwardReq (h : CommittedKept k s t) {cmd : Nat} {q : Req} : CommittedKept k s (t.forwardReq cmd q) := by
  unfold State.forwardReq
  dsimp only
  refine h.setF.ite (h.mbRespond.ite ?_)
  split
  · refine mbRespond ?_
    split
    · exact h
    · exact h.hostRead
  · refine bulkUnits (sendReq ?_)
    split
    · exact h
    · exact h.hostRead

theorem post (h : CommittedKept k s t) {cmd : Nat} {q : Req} : CommittedKept k s (t.post cmd q) := by
  have hend : CommittedKept k s t.visitEnd := h.edit.ite h
  have hreq : CommittedKept k s (t.visitEnd.mbWriteReq cmd q) := hend.edit.ite hend
  exact hreq.mbDoorbell

theorem taken (h : CommittedKept k s t) {cmd : Nat} {q : Req} : CommittedKept k s (t.taken cmd q) := setF (edit h.post)

end

/-! ### Requests (R92) -/

section
variable {s t : State} {cmd : Nat} {r : CmdRow} {q : Req}

/-- A query is neither of the two commands of another kind whose requests may use a draft. -/
theorem query_ne (hrow : cmdRow cmd = some r) (hk : r.kind = .q) : cmd ≠ 0x011B ∧ cmd ≠ 0x0811 := by
  have hq : (cmdRow cmd).map CmdRow.kind = some .q := by simp [hrow, hk]
  constructor <;> rintro rfl <;> exact absurd hq (by decide)

/-- Only a configuration command, and ROUTE.COMMIT, use the draft that they name (R94). -/
theorem draftUse (hrow : cmdRow cmd = some r) (h : CommittedKept r.kind s t) : CommittedKept r.kind s (t.draftUse cmd q) := by
  unfold State.draftUse
  simp only [hrow]
  split
  next huses =>
    refine h.edit (hdrafts := fun hk => ?_)
    obtain ⟨hexec, hcommit⟩ := query_ne hrow hk
    simp [ruleRow, hexec, hcommit, hk] at huses
  next => exact h

/-- A command's body leaves what the command leaves. -/
def OfBody (k : CmdKind) (body : Body) : Prop :=
  ∀ ⦃s t : State⦄ ⦃c : Ctx⦄, CommittedKept k s t → CommittedKept k s (body c t).2

theorem serveTaken {body : Body} (hrow : cmdRow cmd = some r) (hbody : OfBody r.kind body) (h : CommittedKept r.kind s t) :
    CommittedKept r.kind s (t.serveTaken cmd q body) := by
  have hused : CommittedKept r.kind s (t.draftUse cmd q) := draftUse hrow h
  unfold State.serveTaken
  dsimp only
  split
  · exact hused.noteRetry.mbRespond
  · exact hused.forwardReq.ite ((hbody hused.slotSeg).iteElse fun hu => hu.noteRetry.mbRespond)

theorem request {body : Body} (hrow : cmdRow cmd = some r) (hbody : OfBody r.kind body) :
    CommittedKept r.kind s (s.request cmd q body) :=
  (refl _ s).ite ((serveTaken hrow hbody (refl _ s).taken).ite (refl _ s).post)

end

/-! ### The bodies of the queries -/

section
variable {k : CmdKind} {s t : State} {c : Ctx}

theorem bodyGet : OfBody k bodyGet := by
  intro s t c h
  unfold Machine.bodyGet
  dsimp only
  split
  · exact h
  · split
    · exact h
    · exact h

theorem bodyList : OfBody k bodyList := by
  intro s t c h
  unfold Machine.bodyList
  dsimp only
  split
  · exact h
  · exact h.iteSnd h

theorem bodyStats : OfBody k bodyStats := by
  intro s t c h
  unfold Machine.bodyStats
  refine h.iteSnd (h.iteSnd ?_)
  split
  · exact h
  · exact h

theorem bodyIdentify : OfBody k bodyIdentify := fun _ _ _ h => h

theorem bodyTicketStatus : OfBody k bodyTicketStatus := by
  intro s t c h
  unfold Machine.bodyTicketStatus
  dsimp only
  split
  · exact h
  · split
    · exact h
    · exact h.freeTicket

theorem bodySegRead : OfBody k bodySegRead := fun _ _ _ h => h.iteSnd (h.iteSnd h)

theorem bodySpanState : OfBody k bodySpanState := fun _ _ _ h => h.iteSnd h

theorem bodyWakeSources : OfBody k bodyWakeSources := fun _ _ _ h => h.iteSnd h.pendHatpin

theorem bodyStayAwakeLog : OfBody k bodyStayAwakeLog := fun _ _ _ h => h.iteSnd (h.iteSnd (h.iteSnd (h.iteSnd (h.iteSnd h))))

theorem bodyLinkState : OfBody k bodyLinkState := fun _ _ _ h => h

theorem mdioStart {m : Nat} {req : List Byte} {write : Bool} (h : CommittedKept k s t) : CommittedKept k s (t.mdioStart m req write) :=
  h.edit.ite h.edit

theorem bodyMdio {write : Bool} : OfBody k (bodyMdio write) := by
  intro s t c h
  unfold Machine.bodyMdio
  dsimp only
  have hstart {m : Nat} {req : List Byte} {b : Prop} {_ : Decidable b} : CommittedKept k s (if b then t.mdioStart m req write else t) :=
    h.mdioStart.ite h
  exact h.iteSnd (h.iteSnd (iteSnd (iteSnd hstart hstart.draw) (edit hstart.pend)))

theorem bodyErrorState : OfBody k bodyErrorState := fun _ _ _ h => h

theorem bodyFdbLookup : OfBody k bodyFdbLookup := by
  intro s t c h
  unfold Machine.bodyFdbLookup
  refine h.iteSnd (h.iteSnd ?_)
  split
  · exact h
  · exact h

theorem bodyDraftStatus : OfBody k bodyDraftStatus := by
  intro s t c h
  unfold Machine.bodyDraftStatus
  split
  · exact h
  · exact h

theorem bodyEpoch : OfBody k bodyEpoch := fun _ _ _ h => h.iteSnd h

theorem bodySignalRead : OfBody k bodySignalRead := fun _ _ _ h => h.iteSnd (h.iteSnd h)

theorem bodyAdmission : OfBody k bodyAdmission := by
  intro s t c h
  unfold Machine.bodyAdmission
  dsimp only
  split
  · exact h
  · exact h.draw

theorem bodyGateState : OfBody k bodyGateState := by
  intro s t c h
  unfold Machine.bodyGateState
  dsimp only
  exact h.iteSnd (h.iteSnd h.draw)

theorem bodyHistogramRead : OfBody k bodyHistogramRead := fun _ _ _ h => h.iteSnd (h.iteSnd (h.edit.ite h))

theorem bodyTimeStatus : OfBody k bodyTimeStatus := fun _ _ _ h => h

theorem bodyCaptureRead : OfBody k bodyCaptureRead := fun _ _ _ h => h.iteSnd (h.iteSnd h.edit)

theorem bodyLifecycle : OfBody k bodyLifecycle := fun _ _ _ h => h

theorem bodyQueueState : OfBody k bodyQueueState := fun _ _ _ h => h.iteSnd h

theorem bodyStoreHealth : OfBody k bodyStoreHealth := fun _ _ _ h => h.iteSnd (h.iteSnd h)

theorem bodyCascTopology : OfBody k bodyCascTopology := fun _ _ _ h => h.iteSnd h

theorem bodySplitLog : OfBody k bodySplitLog := fun _ _ _ h => h.iteSnd h

theorem tableEntry {typ i : Nat} (h : CommittedKept k s t) : CommittedKept k s (t.tableEntry typ i).2 := by
  unfold State.tableEntry
  split
  · exact h
  · exact h
  · exact h
  · exact h
  · exact h
  · exact h
  · exact h
  · exact h
  · exact h
  · split
    · exact h
    · exact h.draw

theorem tableEntries {typ bytes i n : Nat} (h : CommittedKept k s t) : CommittedKept k s (t.tableEntries typ bytes i n).2 := by
  induction n generalizing t i with
  | zero => exact h
  | succ n ih => exact ih h.tableEntry

theorem tableWords {typ i words : Nat} (h : CommittedKept k s t) : CommittedKept k s (t.tableWords typ i words).2 := by
  unfold State.tableWords
  dsimp only
  split
  · exact h
  · exact h.tableEntries

theorem bodyDiagRead : OfBody k bodyDiagRead := by
  intro s t c h
  unfold Machine.bodyDiagRead
  dsimp only
  exact h.iteSnd (iteSnd (h.iteSnd h) (h.pendHatpin.iteSnd (h.iteSnd (h.pend.iteSnd h.tableWords))))

theorem bodyTableDump : OfBody k bodyTableDump := by
  intro s t c h
  unfold Machine.bodyTableDump
  split
  · exact h
  · refine h.iteSnd ?_
    split
    next hread => exact h.bulkRead.snd hread
    next hread =>
      have hu := h.bulkRead.snd hread
      exact hu.iteSnd hu.pend

theorem freeFill {l : List Nat} {n : Nat} (h : CommittedKept k s t) : CommittedKept k s (t.freeFill l n).2 := by
  induction n generalizing t l with
  | zero => exact h
  | succ n ih =>
    cases l with
    | nil => exact ih h.draw
    | cons x rest => exact ih h

theorem bodyAuditStatus : OfBody k bodyAuditStatus := by
  intro s t c h
  unfold Machine.bodyAuditStatus
  dsimp only
  exact h.freeFill.freeFill

theorem bodyFaultStatus : OfBody k bodyFaultStatus := fun _ _ _ h => h

theorem bodyFaultLogRead : OfBody k bodyFaultLogRead := fun _ _ _ h => h.iteSnd (h.iteSnd h.pendHatpin)

end

/-! ### The bodies of the configuration commands, which stage into the caller's draft (R90, R95) -/

section
variable {s t : State} {c : Ctx}

theorem stage (h : CommittedKept .c s t) {changes : List (Nat × Nat)} {pay : List Byte} :
    CommittedKept .c s (t.stage c changes pay).2 := by
  unfold State.stage
  split
  · exact h
  · exact h.iteSnd (h.iteSnd (h.edit (hdrafts := nofun)))

theorem bodySet : OfBody .c bodySet := by
  intro s t c h
  unfold Machine.bodySet
  dsimp only
  split
  · exact h
  · refine h.iteSnd ?_
    split
    · exact h
    · exact h.stage

theorem bodyClientSet : OfBody .c bodyClientSet := fun _ _ _ h => h.iteSnd (h.iteSnd (h.iteSnd (h.iteSnd h.stage)))

theorem bodyMemberSet : OfBody .c bodyMemberSet := fun _ _ _ h => h.iteSnd (h.iteSnd (h.iteSnd (h.iteSnd (h.iteSnd h.stage))))

theorem bodyWakePatternSet : OfBody .c bodyWakePatternSet := fun _ _ _ h => h.iteSnd (h.iteSnd (h.iteSnd h.stage))

theorem bodySwakeSet : OfBody .c bodySwakeSet := fun _ _ _ h => h.iteSnd (h.iteSnd h.stage)

theorem bodyScheduleSet : OfBody .c bodyScheduleSet := fun _ _ _ h => h.iteSnd (h.iteSnd (h.iteSnd (h.iteSnd h.stage)))

theorem bodyResponseSet : OfBody .c bodyResponseSet := fun _ _ _ h => h.iteSnd (h.iteSnd h.stage)

theorem bodyAddStatic : OfBody .c bodyAddStatic := by
  intro s t c h
  unfold Machine.bodyAddStatic
  refine h.iteSnd (h.iteSnd (h.iteSnd ?_))
  split
  · exact h
  · exact h.stage

theorem bodyFdbDelete : OfBody .c bodyFdbDelete := by
  intro s t c h
  unfold Machine.bodyFdbDelete
  refine h.iteSnd (h.iteSnd (h.iteSnd ?_))
  split
  · exact h
  · exact h.stage

theorem bodyAgeingSet : OfBody .c bodyAgeingSet := fun _ _ _ h => h.iteSnd (h.iteSnd (h.iteSnd h.stage))

theorem bodyLearnSet : OfBody .c bodyLearnSet := fun _ _ _ h => h.iteSnd (h.iteSnd h.stage)

theorem bodyDirectSet : OfBody .c bodyDirectSet := fun _ _ _ h =>
  h.iteSnd (h.iteSnd (h.iteSnd (h.iteSnd (h.iteSnd h.stage))))

theorem bodyHashSet : OfBody .c bodyHashSet := by
  intro s t c h
  unfold Machine.bodyHashSet
  refine h.iteSnd (h.iteSnd (h.iteSnd (h.iteSnd (iteSnd ?_ ?_))))
  · split
    · exact h
    · exact h.stage
  · split
    · exact h
    · exact h.stage

theorem bodyFallbackSet : OfBody .c bodyFallbackSet := fun _ _ _ h => h.iteSnd (h.iteSnd h.stage)

theorem tableSet (h : CommittedKept .c s t) {typ top max pid size : Nat} {ok : Nat → Bool} :
    CommittedKept .c s (t.tableSet c typ top max pid size ok).2 :=
  h.iteSnd (h.iteSnd (h.iteSnd (h.iteSnd (h.iteSnd h.stage))))

theorem bodyProgramLoad : OfBody .c bodyProgramLoad := fun _ _ _ h => h.tableSet

theorem bodyPduSet : OfBody .c bodyPduSet := fun _ _ _ h => h.tableSet

theorem bodySignalSet : OfBody .c bodySignalSet := fun _ _ _ h => h.tableSet

theorem gateListSet (h : CommittedKept .c s t) {p : List Byte} : CommittedKept .c s (t.gateListSet c p).2 :=
  h.iteSnd (h.iteSnd (h.iteSnd (h.iteSnd (h.iteSnd h.stage))))

theorem bodyGateListSet : OfBody .c bodyGateListSet := by
  intro s t c h
  unfold Machine.bodyGateListSet
  split
  · exact h.gateListSet
  · refine h.iteSnd ?_
    split
    next hread => exact h.bulkRead.snd hread
    next hread =>
      have hu := h.bulkRead.snd hread
      split
      · exact hu
      · exact hu.iteSnd hu.gateListSet

theorem bodyShaperSet : OfBody .c bodyShaperSet := fun _ _ _ h => h.iteSnd (h.iteSnd h.stage)

theorem bodyMeterSet : OfBody .c bodyMeterSet := fun _ _ _ h => h.tableSet

theorem bodyAdmissionSet : OfBody .c bodyAdmissionSet := fun _ _ _ h =>
  h.iteSnd (h.iteSnd (h.iteSnd (h.iteSnd (h.iteSnd h.stage))))

theorem bodyHistogramSet : OfBody .c bodyHistogramSet := fun _ _ _ h => h.iteSnd (h.iteSnd h.stage)

theorem bodyOutputSet : OfBody .c bodyOutputSet := fun _ _ _ h => h.iteSnd (h.iteSnd h.stage)

theorem bodyStandbyLinkSet : OfBody .c bodyStandbyLinkSet := fun _ _ _ h => h.iteSnd (h.iteSnd (h.iteSnd h.stage))

theorem bodyMirrorSet : OfBody .c bodyMirrorSet := fun _ _ _ h => h.iteSnd (h.iteSnd (h.iteSnd (h.iteSnd h.stage)))

theorem bodyReactionSet : OfBody .c bodyReactionSet := fun _ _ _ h => h.iteSnd (h.iteSnd h.stage)

theorem bodyWatchdogSet : OfBody .c bodyWatchdogSet := fun _ _ _ h => h.iteSnd (h.iteSnd h.stage)

end

end CommittedKept

/-! ### Every query and every configuration command -/

section
variable {i : Instr} {cmd : Nat} {q : Req} {r : CmdRow}

/-- The kinds of the common verbs (R89). -/
def commonKind (verb : Nat) : CmdKind := if verb = 2 then .c else if verb = 5 then .o else .q

/-- Of the codes below the class-specific verbs' (R91) each row is a common verb's. -/
theorem kind_of_common {cls verb : Nat} (hrow : cmdRow (cls * 256 + verb) = some r) (hv : verb < 0x10) : r.kind = commonKind verb := by
  have hverb : (cls * 256 + verb) % 256 = verb := by omega
  unfold cmdRow at hrow
  split at hrow
  next r' hr =>
    cases hrow
    simp only [commonRow, hverb] at hr
    split_ifs at hr <;> cases hr <;> subst verb <;> rfl
  next =>
    have hspecific : ∀ x ∈ cmdRows, 0x10 ≤ x.code % 256 := by decide
    have hcode := hspecific r (List.mem_of_find?_eq_some hrow)
    have he := List.find?_some hrow
    simp only [beq_iff_eq] at he
    omega

/-- Each query is a request whose body leaves what is committed and the drafts. -/
theorem exec_query (hi : gciOf i = some (cmd, q)) (hrow : cmdRow cmd = some r) (hk : r.kind = .q) (s : State) :
    ∃ body, exec i s = .next (s.request cmd q body) ∧ CommittedKept.OfBody .q body := by
  have hq : (cmdRow cmd).map CmdRow.kind = some .q := by simp [hrow, hk]
  cases i with
  | verbGet => cases hi; exact ⟨_, rfl, CommittedKept.bodyGet⟩
  | verbList => cases hi; exact ⟨_, rfl, CommittedKept.bodyList⟩
  | verbStats => cases hi; exact ⟨_, rfl, CommittedKept.bodyStats⟩
  | deckIdentify => cases hi; exact ⟨_, rfl, CommittedKept.bodyIdentify⟩
  | deckTicketStatus => cases hi; exact ⟨_, rfl, CommittedKept.bodyTicketStatus⟩
  | deckSegRead => cases hi; exact ⟨_, rfl, CommittedKept.bodySegRead⟩
  | spanState => cases hi; exact ⟨_, rfl, CommittedKept.bodySpanState⟩
  | spanWakeSources => cases hi; exact ⟨_, rfl, CommittedKept.bodyWakeSources⟩
  | spanStayAwakeLog => cases hi; exact ⟨_, rfl, CommittedKept.bodyStayAwakeLog⟩
  | chanLinkState => cases hi; exact ⟨_, rfl, CommittedKept.bodyLinkState⟩
  | ethMdioRead => cases hi; exact ⟨_, rfl, CommittedKept.bodyMdio⟩
  | canErrorState => cases hi; exact ⟨_, rfl, CommittedKept.bodyErrorState⟩
  | fdbLookup => cases hi; exact ⟨_, rfl, CommittedKept.bodyFdbLookup⟩
  | routeDraftStatus => cases hi; exact ⟨_, rfl, CommittedKept.bodyDraftStatus⟩
  | routeEpoch => cases hi; exact ⟨_, rfl, CommittedKept.bodyEpoch⟩
  | sigSignalRead => cases hi; exact ⟨_, rfl, CommittedKept.bodySignalRead⟩
  | sigAdmission => cases hi; exact ⟨_, rfl, CommittedKept.bodyAdmission⟩
  | qosGateState => cases hi; exact ⟨_, rfl, CommittedKept.bodyGateState⟩
  | qosHistogramRead => cases hi; exact ⟨_, rfl, CommittedKept.bodyHistogramRead⟩
  | timeStatus => cases hi; exact ⟨_, rfl, CommittedKept.bodyTimeStatus⟩
  | timeCaptureRead => cases hi; exact ⟨_, rfl, CommittedKept.bodyCaptureRead⟩
  | secLifecycle => cases hi; exact ⟨_, rfl, CommittedKept.bodyLifecycle⟩
  | evtQueueState => cases hi; exact ⟨_, rfl, CommittedKept.bodyQueueState⟩
  | storeHealth => cases hi; exact ⟨_, rfl, CommittedKept.bodyStoreHealth⟩
  | cascTopology => cases hi; exact ⟨_, rfl, CommittedKept.bodyCascTopology⟩
  | cascSplitLog => cases hi; exact ⟨_, rfl, CommittedKept.bodySplitLog⟩
  | diagRead => cases hi; exact ⟨_, rfl, CommittedKept.bodyDiagRead⟩
  | diagTableDump => cases hi; exact ⟨_, rfl, CommittedKept.bodyTableDump⟩
  | diagAuditStatus => cases hi; exact ⟨_, rfl, CommittedKept.bodyAuditStatus⟩
  | faultStatus => cases hi; exact ⟨_, rfl, CommittedKept.bodyFaultStatus⟩
  | faultLogRead => cases hi; exact ⟨_, rfl, CommittedKept.bodyFaultLogRead⟩
  | verbSet => cases hi; exact absurd (kind_of_common hrow (by decide)) (by rw [hk]; decide)
  | clearStats => cases hi; exact absurd (kind_of_common hrow (by decide)) (by rw [hk]; decide)
  | _ => cases hi <;> exact absurd hq (by decide)

/-- Each configuration command is a request whose body leaves what is committed. -/
theorem exec_configuration (hi : gciOf i = some (cmd, q)) (hrow : cmdRow cmd = some r) (hk : r.kind = .c) (s : State) :
    ∃ body, exec i s = .next (s.request cmd q body) ∧ CommittedKept.OfBody .c body := by
  have hc : (cmdRow cmd).map CmdRow.kind = some .c := by simp [hrow, hk]
  cases i with
  | verbSet => cases hi; exact ⟨_, rfl, CommittedKept.bodySet⟩
  | deckClientSet => cases hi; exact ⟨_, rfl, CommittedKept.bodyClientSet⟩
  | spanMemberSet => cases hi; exact ⟨_, rfl, CommittedKept.bodyMemberSet⟩
  | ethWakePatternSet => cases hi; exact ⟨_, rfl, CommittedKept.bodyWakePatternSet⟩
  | canSwakeSet => cases hi; exact ⟨_, rfl, CommittedKept.bodySwakeSet⟩
  | linScheduleSet => cases hi; exact ⟨_, rfl, CommittedKept.bodyScheduleSet⟩
  | linResponseSet => cases hi; exact ⟨_, rfl, CommittedKept.bodyResponseSet⟩
  | fdbAddStatic => cases hi; exact ⟨_, rfl, CommittedKept.bodyAddStatic⟩
  | fdbDelete => cases hi; exact ⟨_, rfl, CommittedKept.bodyFdbDelete⟩
  | fdbAgeingSet => cases hi; exact ⟨_, rfl, CommittedKept.bodyAgeingSet⟩
  | fdbLearnSet => cases hi; exact ⟨_, rfl, CommittedKept.bodyLearnSet⟩
  | routeDirectSet => cases hi; exact ⟨_, rfl, CommittedKept.bodyDirectSet⟩
  | routeHashSet => cases hi; exact ⟨_, rfl, CommittedKept.bodyHashSet⟩
  | routeFallbackSet => cases hi; exact ⟨_, rfl, CommittedKept.bodyFallbackSet⟩
  | sigProgramLoad => cases hi; exact ⟨_, rfl, CommittedKept.bodyProgramLoad⟩
  | sigPduSet => cases hi; exact ⟨_, rfl, CommittedKept.bodyPduSet⟩
  | sigSignalSet => cases hi; exact ⟨_, rfl, CommittedKept.bodySignalSet⟩
  | qosGateListSet => cases hi; exact ⟨_, rfl, CommittedKept.bodyGateListSet⟩
  | qosShaperSet => cases hi; exact ⟨_, rfl, CommittedKept.bodyShaperSet⟩
  | qosMeterSet => cases hi; exact ⟨_, rfl, CommittedKept.bodyMeterSet⟩
  | qosAdmissionSet => cases hi; exact ⟨_, rfl, CommittedKept.bodyAdmissionSet⟩
  | qosHistogramSet => cases hi; exact ⟨_, rfl, CommittedKept.bodyHistogramSet⟩
  | timeDomainSet => cases hi; exact ⟨_, rfl, CommittedKept.bodySet⟩
  | timeOutputSet => cases hi; exact ⟨_, rfl, CommittedKept.bodyOutputSet⟩
  | cascStandbyLinkSet => cases hi; exact ⟨_, rfl, CommittedKept.bodyStandbyLinkSet⟩
  | diagMirrorSet => cases hi; exact ⟨_, rfl, CommittedKept.bodyMirrorSet⟩
  | faultReactionSet => cases hi; exact ⟨_, rfl, CommittedKept.bodyReactionSet⟩
  | faultWatchdogSet => cases hi; exact ⟨_, rfl, CommittedKept.bodyWatchdogSet⟩
  | verbGet => cases hi; exact absurd (kind_of_common hrow (by decide)) (by rw [hk]; decide)
  | verbList => cases hi; exact absurd (kind_of_common hrow (by decide)) (by rw [hk]; decide)
  | verbStats => cases hi; exact absurd (kind_of_common hrow (by decide)) (by rw [hk]; decide)
  | clearStats => cases hi; exact absurd (kind_of_common hrow (by decide)) (by rw [hk]; decide)
  | _ => cases hi <;> exact absurd hc (by decide)

end

/-- Settles O54: a body of either kind leaves what `CommittedKept` says, and so does the request around it. -/
theorem queriesAndConfigurationCommandsLeaveWhatIsCommitted : Obligations.QueriesAndConfigurationCommandsLeaveWhatIsCommitted := by
  intro i cmd q r s hi hrow hk
  obtain ⟨body, e, hbody⟩ : ∃ body, exec i s = .next (s.request cmd q body) ∧ CommittedKept.OfBody r.kind body := by
    match hkind : r.kind with
    | .q => exact exec_query hi hrow hkind s
    | .c => exact exec_configuration hi hrow hkind s
    | .o => exact absurd hkind hk
  obtain ⟨hcfg, hold, hepoch, hfuses, hflash, hbar2, hnvm, hslots, hdrafts⟩ := CommittedKept.request (s := s) (q := q) hrow hbody
  exact ⟨_, e, hcfg, hold, hepoch, hfuses, hflash, hbar2, hnvm, hslots, hdrafts⟩

end Sys2Proof.Machine

/-! O50: the ranges of the counters, of every step. -/

namespace Sys2Proof.Machine

/-- A command keeps what the state has, but for the fuses, which TICKET_COMPLETE may burn. -/
theorem exec_keeps {c : Instr} {s t : State} (e : exec c s = .next t) : ∃ f, Keeps { s with fuses := f } t := by
  have hkept : ∀ {f : Fuses}, KeptBy { s with fuses := f } (exec c s) → ∃ f, Keeps { s with fuses := f } t := by
    rintro f ⟨u, hu, hk⟩
    obtain rfl : u = t := by simpa [hu] using e
    exact ⟨f, hk⟩
  by_cases hc : ∀ client num x, c ≠ .ticketComplete client num x
  case pos => exact hkept (f := s.fuses) ((Keeps.refl s).exec hc)
  case neg =>
    push Not at hc
    obtain ⟨client, num, x, rfl⟩ := hc
    rcases (Keeps.refl s).execTicketComplete (client := client) (num := num) (x := x) with h | ⟨_, _, _, _, h⟩
    · exact hkept (f := s.fuses) h
    · exact hkept h

/-- Settles O50: a step idles or runs one command, and no counter is in the queue or in the fuses. -/
theorem everyStepKeepsCountersInRange : Obligations.EveryStepKeepsCountersInRange := by
  intro s t hs e
  unfold step at e
  split at e
  case h_1 =>
    obtain rfl : s = t := by simpa using e
    exact hs
  case h_2 c rest _ =>
    obtain ⟨f, hk⟩ := exec_keeps e
    exact hk.countersInRange hs

end Sys2Proof.Machine

/-! O57: the two words of a statistics counter, and ETH.STATS. -/

namespace Sys2Proof.Machine

/-! ### Where the words of a counter stand (R154) -/

/-- The place of a word says which of its counter's two words it is. -/
theorem ctrAt_snd (a : Nat) : ∀ x ∈ ctrAt a, x.2 = (a / 4 % 2 == 1) := by
  simp only [ctrAt]
  repeat' refine iteInduction (motive := fun o : Option (Nat × Bool) => ∀ x ∈ o, x.2 = (a / 4 % 2 == 1))
            (fun _ => ?_) (fun _ => ?_)
  all_goals simp

/-- Two choices by conditions that agree, the one the image of the other. -/
theorem ite_eq_map {α β : Type} {f : α → β} {c c' : Prop} {_ : Decidable c} {_ : Decidable c'}
    {x y : Option β} {x' y' : Option α} (h : c ↔ c') (hx : c' → x = x'.map f) (hy : ¬c' → y = y'.map f) :
    (if c then x else y) = (if c' then x' else y').map f := by
  rw [apply_ite (Option.map f)]
  exact ite_congr (propext h) hx hy

/-- Blocks of whole pairs of words hold both words of each pair. -/
theorem pair_block (m b k : Nat) : (8 * m + 4 - 8 * b) / (8 * k) = (8 * m - 8 * b) / (8 * k) := by
  rw [← Nat.div_div_eq_div_mul, ← Nat.div_div_eq_div_mul, show (8 * m + 4 - 8 * b) / 8 = (8 * m - 8 * b) / 8 by omega]

/-- The high word of a counter follows its low word: each area of counters, and each block of it, holds whole pairs. -/
theorem ctrAt_pair (m : Nat) : ctrAt (8 * m + 4) = (ctrAt (8 * m)).map fun x => (x.1, true) := by
  have hodd : (8 * m + 4) / 4 % 2 = 1 := by omega
  have hcan : (8 * m + 4 - 0x80000) / 0x1000 = (8 * m - 0x80000) / 0x1000 := pair_block m 0x10000 0x200
  have hlin : (8 * m + 4 - 0xC0000) / 0x1000 = (8 * m - 0xC0000) / 0x1000 := pair_block m 0x18000 0x200
  have hport : (8 * m + 4 - 0x100000) / 0x4000 = (8 * m - 0x100000) / 0x4000 := pair_block m 0x20000 0x800
  have hqueue : (8 * m + 4 - 0x200000) / 0x400 = (8 * m - 0x200000) / 0x400 := pair_block m 0x40000 0x80
  simp only [ctrAt, hodd, hcan, hlin, hport, hqueue]
  repeat' refine ite_eq_map ?_ (fun _ => ?_) (fun _ => ?_)
  all_goals simp only [Bool.and_eq_true, decide_eq_true_eq, and_congr_left_iff, Option.map_some, Option.map_none, ckey,
    Option.some.injEq, Prod.mk.injEq, beq_self_eq_true, and_true]
  all_goals omega

/-- A variant has both words of a pair, or neither. -/
theorem absentBlock_pair (m : Nat) : absentBlock (8 * m + 4) = absentBlock (8 * m) := by
  have hqueue : (8 * m + 4 - 0x200000) / 0x400 = (8 * m - 0x200000) / 0x400 := pair_block m 0x40000 0x80
  rw [Bool.eq_iff_iff]
  simp only [absentBlock, hqueue, Bool.or_eq_true, Bool.and_eq_true, decide_eq_true_eq]
  omega

/-- No word of the Strand counter is one of a statistics counter. -/
theorem ctrAt_not_strand {a : Nat} (h : (ctrAt a).isSome = true) : a ≠ StrandLo.off ∧ a ≠ StrandHi.off := by
  constructor
  · rintro rfl
    exact absurd h (by decide)
  · rintro rfl
    exact absurd h (by decide)

/-! ### Reads of a counter's words (R154) -/

/-- A host reads a word at `a`: it is aligned and in BAR0, in a block that the variant has. -/
abbrev State.hasWord (s : State) (a : Nat) : Prop :=
  a % 4 = 0 ∧ a < 0x1000000 ∧ (s.absentVariant = true → absentBlock a = false)

section
variable {s : State} {a k : Nat}

theorem State.peek_counter {high : Bool} (hw : s.hasWord a) (hc : ctrAt a = some (k, high)) :
    s.peek a = if high then (tabFind s.ctrLatch a).getD (tabGet ctrDefault s.ctrs k / 2 ^ 32)
      else tabGet ctrDefault s.ctrs k % 2 ^ 32 := by
  obtain ⟨ha, hlt, hv⟩ := hw
  have hgo : ¬(a % 4 != 0 || 0x1000000 ≤ a || (s.absentVariant && absentBlock a)) = true := by
    simpa [ha, hlt] using hv
  simp only [State.peek, if_neg hgo, hc]

/-- A pair of words, the low one of a counter: the high one is its counter's too, and stands where the low one stands. -/
theorem State.hasWord_high (hw : s.hasWord a) (hlt : a + 4 < 0x1000000) (hc : ctrAt a = some (k, false)) :
    s.hasWord (a + 4) ∧ ctrAt (a + 4) = some (k, true) := by
  obtain ⟨ha, -, hv⟩ := hw
  have hpar : a / 4 % 2 ≠ 1 := beq_eq_false_iff_ne.1 (ctrAt_snd a _ hc).symm
  obtain ⟨m, rfl⟩ : ∃ m, a = 8 * m := ⟨a / 8, by omega⟩
  refine ⟨⟨by omega, hlt, ?_⟩, ?_⟩
  · rwa [absentBlock_pair]
  · rw [ctrAt_pair, hc]
    rfl

theorem exec_counterLowRead_counter {o : BitVec 26} (hon : s.coreOn = true) (hw : s.hasWord o.toNat)
    (hc : (ctrAt o.toNat).isSome = true) : exec (.counterLowRead 0 o 4) s = .next (s.latchRead o.toNat) := by
  obtain ⟨ha, hlt, hv⟩ := hw
  rw [exec_counterLowRead_word, Nat.mod_eq_of_lt (show o.toNat < 2 ^ 24 from hlt), s.hostReadBar0_latching ha hv (.inr (.inr hc)),
    State.hosted_on hon]

theorem exec_counterLowRead_low {o : BitVec 26} (hon : s.coreOn = true) (hw : s.hasWord o.toNat)
    (hc : ctrAt o.toNat = some (k, false)) :
    exec (.counterLowRead 0 o 4) s = .next { s.readOut o.toNat (tabGet ctrDefault s.ctrs k % 2 ^ 32) with
      ctrLatch := tabInsert s.ctrLatch (o.toNat + 4) (tabGet ctrDefault s.ctrs k / 2 ^ 32) } := by
  have hsome : (ctrAt o.toNat).isSome = true := by rw [hc]; rfl
  obtain ⟨hlo, hhi⟩ := ctrAt_not_strand hsome
  rw [exec_counterLowRead_counter hon hw hsome, s.latchRead_ctrLow hc hlo hhi, State.peek_counter hw hc]
  rfl

theorem exec_counterLowRead_high {o : BitVec 26} (hon : s.coreOn = true) (hw : s.hasWord o.toNat)
    (hc : ctrAt o.toNat = some (k, true)) :
    exec (.counterLowRead 0 o 4) s = .next { s.readOut o.toNat
        ((tabFind s.ctrLatch o.toNat).getD (tabGet ctrDefault s.ctrs k / 2 ^ 32)) with
      ctrLatch := tabErase s.ctrLatch o.toNat } := by
  have hsome : (ctrAt o.toNat).isSome = true := by rw [hc]; rfl
  obtain ⟨hlo, hhi⟩ := ctrAt_not_strand hsome
  rw [exec_counterLowRead_counter hon hw hsome, s.latchRead_ctrHigh hc hlo hhi, State.peek_counter hw hc]
  rfl

/-- The high word reads live while nothing is latched for it. -/
theorem State.peek_high_live (hw : s.hasWord a) (hc : ctrAt a = some (k, true)) (hl : tabFind s.ctrLatch a = none) :
    s.peek a = tabGet ctrDefault s.ctrs k / 2 ^ 32 := by
  rw [State.peek_counter hw hc, hl]
  rfl

end

/-- ETH.STATS answers all 32 counters of the port, each as it stands (R153). -/
theorem bodyStats_eth {c : Ctx} {u : State} (hcmd : c.cmd = 0x0404) (htyp : (orefOf c.payload).typ = 0x04) :
    bodyStats c u = u.answer stDone ((List.range 32).flatMap fun i => leBytes 8 (u.ctr (orefOf c.payload).key cEth i)) := by
  have hcls : c.cmd / 256 = cEth := by rw [hcmd]; rfl
  have hcount : statCount (c.cmd / 256) (orefOf c.payload) = some (32, 33) := by
    simp only [hcls, htyp, cEth, statCount]
  rw [bodyStats_counters hcount (fun h => absurd (hcls.symm.trans h.1) (by decide))
    (fun h => absurd (hcls.symm.trans h.1) (by decide)), hcls, State.ctrBytes]

/-- Settles O57: the low word's read latches the high word, whose read finds the latch and uses it up. -/
theorem counterReadsFormOneValue : Obligations.CounterReadsFormOneValue := by
  unfold Obligations.CounterReadsFormOneValue
  refine ⟨?pair, ?off, ?live, ?stats⟩
  case pair =>
    rintro o h s k ⟨hon, ha, hlt, hv⟩ ⟨hc, hh⟩
    have hw : s.hasWord o.toNat := ⟨ha, by omega, hv⟩
    obtain ⟨hwh, hch⟩ := State.hasWord_high hw (by omega) hc
    rw [← hh] at hwh hch
    refine ⟨_, exec_counterLowRead_low hon hw hc, rfl, fun c => ⟨_, exec_counterLowRead_high hon hwh hch, ?latched, ?spent⟩⟩
    case latched =>
      rw [← hh, tabFind_tabInsert_same]
      rfl
    case spent => exact State.peek_high_live hwh hch (tabFind_tabErase_same _ _)
  case off =>
    intro o s hoff
    rw [exec_counterLowRead_word, State.hosted_off hoff]
  case live => exact fun s a k hw h => State.peek_high_live hw h.1 h.2
  case stats =>
    intro q s h htyp
    exact congrArg _ (State.request_query h (bodyStats_eth rfl htyp))

end Sys2Proof.Machine

/-! O7: the commands of the ETH class. -/

namespace Sys2Proof.Machine

-- One theorem at a time: those that wait for the kernel would each hold a thread with its whole stack.
set_option Elab.async false

section
variable {c : Ctx} {u : State}

/-! ### ETH.WAKE_PATTERN_SET and ETH.PAUSE_STORM_CLEAR (R142, R149) -/

theorem bodyWakePatternSet_stages (hlen : c.payload.length = 156 ∧ (orefOf c.payload).typ = 0x17)
    (hrange : leAt c.payload 8 1 ≤ 1 ∧ 1 ≤ leAt c.payload 9 1 ∧ leAt c.payload 9 1 ≤ 128 ∧ leAt c.payload 10 2 = 0 ∧
      leVal ((sliceB c.payload 0x1C 128).drop (leAt c.payload 9 1)) = 0) :
    bodyWakePatternSet c u = u.stage c [(pkey (orefOf c.payload).key (pidRaw 0), leAt c.payload 8 1),
      (pkey (orefOf c.payload).key (pidRaw 1), leAt c.payload 9 1), (pkey (orefOf c.payload).key (pidRaw 2), leAt c.payload 12 16),
      (pkey (orefOf c.payload).key (pidRaw 3), leVal (sliceB c.payload 0x1C 128))] := by
  obtain ⟨hlen, htyp⟩ := hlen
  obtain ⟨hen, hmin, hmax, hres, hpad⟩ := hrange
  simp only [bodyWakePatternSet, hlen, htyp, gt_iff_lt, Nat.not_lt.2 hen, Nat.not_lt.2 hmin, Nat.not_lt.2 hmax, hres, hpad,
    bne_self_eq_false, decide_false, Bool.or_false, Bool.false_eq_true, if_false]

theorem bodyPauseStormClear_port (htyp : (orefOf c.payload).typ = 0x04) :
    bodyPauseStormClear c u = State.answer (((List.range 8).filter fun k => bitOf (leAt c.payload 8 4) k).foldl
      (fun s k => s.stormExit (orefOf c.payload).chan k) u) stDone := by
  simp only [bodyPauseStormClear, htyp, bne_self_eq_false, Bool.false_eq_true, if_false]

/-! ### MDIO (R152) -/

/-- The master that an MDIO access names. -/
abbrev Ctx.mdioMaster (c : Ctx) : Nat := leAt c.payload 0 1

/-- The access takes the last place in its master's queue, under a new ticket. -/
def State.mdioWait (u : State) (c : Ctx) : State :=
  (u.openTicket c []).2.setMdio c.mdioMaster
    ((u.openTicket c []).2.mdioQueue c.mdioMaster ++ [(c.client, (u.openTicket c []).1, c.payload)])

/-- Waiting for the master changes no mailbox but for its tickets. -/
theorem Quiet.mdioWait (u : State) (c : Ctx) : Quiet u (u.mdioWait c) := (Quiet.openTicket u c []).trans (Quiet.of_regs rfl)

variable {write : Bool}

theorem bodyMdio_busy (hok : c.payload.length = 8 ∧ mdioOk c.payload write = true) (hbusy : u.mdioQueue c.mdioMaster ≠ []) :
    bodyMdio write c u = (⟨stPending, [], (u.openTicket c []).1, 0⟩, u.mdioWait c) := by
  obtain ⟨hlen, hfields⟩ := hok
  simp only [bodyMdio, hlen, hfields, List.isEmpty_eq_false_iff.2 hbusy, bne_self_eq_false, Bool.not_true, Bool.false_and,
    Bool.false_eq_true, if_false]
  rfl

theorem bodyMdio_clause45 (hok : c.payload.length = 8 ∧ mdioOk c.payload write = true)
    (hidle : u.mdioQueue c.mdioMaster = [] ∧ leAt c.payload 1 1 = 45) :
    bodyMdio write c u =
      (⟨stPending, [], ((u.mdioStart c.mdioMaster c.payload write).openTicket c []).1, 0⟩,
        (u.mdioStart c.mdioMaster c.payload write).mdioWait c) := by
  obtain ⟨hlen, hfields⟩ := hok
  obtain ⟨hidle, hclause⟩ := hidle
  simp only [bodyMdio, hlen, hfields, hidle, hclause, List.isEmpty_nil, bne_self_eq_false, Bool.not_true, Bool.false_eq_true,
    if_false, if_true]
  rfl

theorem bodyMdio_clause22 (hok : c.payload.length = 8 ∧ mdioOk c.payload write = true)
    (hidle : u.mdioQueue c.mdioMaster = [] ∧ leAt c.payload 1 1 = 22) :
    bodyMdio write c u =
      if write then (u.mdioStart c.mdioMaster c.payload write).answer stDone
      else (u.mdioStart c.mdioMaster c.payload write).draw.2.answer stDone
        (leBytes 2 (u.mdioStart c.mdioMaster c.payload write).draw.1) := by
  obtain ⟨hlen, hfields⟩ := hok
  obtain ⟨hidle, hclause⟩ := hidle
  simp only [bodyMdio, hlen, hfields, hidle, hclause, List.isEmpty_nil, bne_self_eq_false, beq_self_eq_true, Bool.not_true,
    Bool.and_self, Bool.false_eq_true, if_false, if_true]

end

/-- Settles O7: each command by its body's equation. -/
theorem ethCommandsComplete : Obligations.EthCommandsComplete := by
  unfold Obligations.EthCommandsComplete
  refine ⟨?wakePattern, ?stormClear, ?read22, ?readBusy, ?read45, ?write22, ?write45, ?writeBusy⟩
  case wakePattern =>
    rintro q s _ _ d _ _ rfl rfl h hlen hrange ⟨rfl, rfl⟩ hd hfree
    exact congrArg _ (State.request_stages h (bodyWakePatternSet_stages hlen hrange) hd hfree)
  case stormClear =>
    rintro q s _ _ rfl rfl h htyp
    exact congrArg _ (State.request_finish h (bodyPauseStormClear_port htyp))
  case read22 =>
    rintro q s _ _ _ rfl rfl h hok hidle rfl
    exact congrArg _ (State.request_finish h (bodyMdio_clause22 hok hidle))
  case readBusy =>
    rintro q s _ _ _ rfl rfl h hok hbusy rfl
    exact congrArg _ (State.request_reply h (bodyMdio_busy hok hbusy) (Quiet.mdioWait _ _) (by decide) (by decide))
  case read45 =>
    rintro q s _ _ _ rfl rfl h hok hidle rfl
    exact congrArg _ (State.request_finish h (bodyMdio_clause45 hok hidle))
  case write22 =>
    rintro q s _ _ rfl rfl h hok hidle
    exact congrArg _ (State.request_finish h (bodyMdio_clause22 hok hidle))
  case write45 =>
    rintro q s _ _ _ rfl rfl h hok hidle rfl
    exact congrArg _ (State.request_finish h (bodyMdio_clause45 hok hidle))
  case writeBusy =>
    rintro q s _ _ _ rfl rfl h hok hbusy rfl
    exact congrArg _ (State.request_reply h (bodyMdio_busy hok hbusy) (Quiet.mdioWait _ _) (by decide) (by decide))

end Sys2Proof.Machine

/-! O26: drains, audits, egress selection, cell reads, transmissions, samples and Ethernet reception, each command by the condition
under which it takes effect. -/

namespace Sys2Proof.Machine

-- One theorem at a time: those that wait for the kernel would each hold a thread with its whole stack.
set_option Elab.async false

/-! ### Queues: drains and histogram samples (R269, R333, R334) -/

section
variable {q : Fin 2048} {s : State}

theorem execQueueDrainDone_empty {v : State} (h : s.flag (QStatus.draining q) = true ∧ s.queue q = [])
    (hv : v = s.setF (QStatus.draining q) 0) :
    execQueueDrainDone q s = .next { v with buf := { v.buf with drainAt := tabErase s.buf.drainAt q } } := by
  obtain ⟨hdrain, hempty⟩ := h
  subst hv
  simp only [execQueueDrainDone, hdrain, hempty, List.isEmpty_nil, Bool.and_self, if_true]

theorem execQueueDrainDone_other (h : s.flag (QStatus.draining q) = false ∨ s.queue q ≠ []) :
    execQueueDrainDone q s = .next s := by
  rcases h with h | h <;> simp [execQueueDrainDone, h]

theorem execQueueDrainTimeout_due {t : Nat} (h : tabFind s.buf.drainAt q = some t ∧ s.flag (QStatus.draining q) = true) :
    execQueueDrainTimeout q s = .next ((s.timeTo (t - 1)).forceQueue q) := by
  simp only [execQueueDrainTimeout, h, if_true]

theorem execQueueDrainTimeout_other (h : tabFind s.buf.drainAt q = none ∨ s.flag (QStatus.draining q) = false) :
    execQueueDrainTimeout q s = .next s := by
  unfold execQueueDrainTimeout
  cases ht : tabFind s.buf.drainAt q with
  | none => rfl
  | some t => simp [h.resolve_left (by simp [ht])]

theorem execHistogramSample_due {t : Nat} (h : tabFind s.egr.histAt q = some t) :
    execHistogramSample q s = .next (s.histSample q t) := by
  simp only [execHistogramSample, h]

theorem execHistogramSample_none (h : tabFind s.egr.histAt q = none) : execHistogramSample q s = .next s := by
  simp only [execHistogramSample, h]

end

/-! ### Audits (R270 to R272) -/

section
variable {s : State}

theorem execAuditVisit_allocated {c : Fin 262144} {v : Cell} {o : Desc}
    (h : v = s.cell c ∧ o = s.desc v.owner ∧ v.alloc = true) :
    execAuditVisit c s = .next (if o.state ≠ .free ∧ o.gen = v.gen then s.setCell c { v with suspect := false }
      else if v.suspect = false then s.setCell c { v with suspect := true } else s.leakReclaim c) := by
  obtain ⟨rfl, rfl, halloc⟩ := h
  simp only [execAuditVisit, halloc, Bool.not_true, Bool.false_eq_true, if_false, Bool.and_eq_true, bne_iff_ne, beq_iff_eq,
    Bool.not_eq_true']

theorem execAuditVisit_unallocated {c : Fin 262144} (h : (s.cell c).alloc = false) : execAuditVisit c s = .next s := by
  simp [execAuditVisit, h]

theorem execAuditPassEnd_eq {b : BitVec 17} {v : State} {n : Nat}
    (h : n = (65536 - s.liveDescs + b.toNat) % 2 ^ 17 ∧ v = s.auditNote n) :
    execAuditPassEnd b s = .next (if n + s.liveDescs ≠ 65536 ∨ n ≠ v.getF SwFreeDesc.count then
      ((v.incSw 12).event SwEvents.descCountErr 0x02E).faultRise 4 else v) := by
  obtain ⟨rfl, rfl⟩ := h
  simp only [execAuditPassEnd, Bool.or_eq_true, bne_iff_ne]

end

/-! ### Egress selection (R144, R315, R506) -/

/-- The port as EGRESS_SELECT finds it: credits up to date, and a PLCA opportunity begun where its turn has come. -/
def State.egressReady (s : State) (p : Nat) (turn : Bool) : State :=
  if turn && ((s.wireFree p).creditSync p).plcaRuns p && ((s.wireFree p).creditSync p).flag (PortStatus.linkUp p) then
    ((s.wireFree p).creditSync p).plcaTurn p
  else (s.wireFree p).creditSync p

/-- A disable of the port waits for the frame boundary, and not for the port's queues. -/
def State.disableWaits (s : State) (p : Nat) : Bool :=
  match (s.port p).disabling with
  | some d => d.mode != 1
  | none => false

theorem State.disableWaits_of_mode {s : State} {p : Nat} {d : Disabling} (h : (s.port p).disabling = some d) (hm : d.mode ≠ 1) :
    s.disableWaits p = true := by
  simp [State.disableWaits, h, hm]

theorem State.disableWaits_none {s : State} {p : Nat} (h : ∀ d, (s.port p).disabling = some d → d.mode = 1) :
    s.disableWaits p = false := by
  unfold State.disableWaits
  split
  · simp [h _ ‹_›]
  · rfl

section
variable {p : Fin 22} {t : Bool} {s v : State}

theorem execEgressSelect_eq (hv : v = s.egressReady p t) : execEgressSelect p t s = .next (
    if !v.flag (PortStatus.linkUp p) then v
    else if v.disableWaits p then v.portDisableStep p
    else if (v.port p).backoffAt.isSome || !v.plcaMay p then v
    else if (v.port p).deferred then v.deferredGo p
    else if (tabFind v.buf.egress p).isSome then
      (if v.gateWaits p then (v.gatePreempt p).boundary p else if v.expressWaits p then (v.preempt p).boundary p else v)
    else v.boundary p) := by
  subst hv
  rfl

theorem execEgressSelect_goes (hv : v = s.egressReady p t)
    (h : v.flag (PortStatus.linkUp p) = true ∧ (∀ d, (v.port p).disabling = some d → d.mode = 1) ∧
      (v.port p).backoffAt = none ∧ v.plcaMay p = true) :
    execEgressSelect p t s = .next (if (v.port p).deferred then v.deferredGo p
      else if tabFind v.buf.egress p = none then v.boundary p
      else if v.gateWaits p then (v.gatePreempt p).boundary p
      else if v.expressWaits p then (v.preempt p).boundary p else v) := by
  obtain ⟨hup, hstop, hback, hmay⟩ := h
  rw [execEgressSelect_eq hv]
  simp only [hup, State.disableWaits_none hstop, hback, hmay, Option.isSome_none, Bool.not_true, Bool.or_self, Bool.false_eq_true,
    if_false]
  cases tabFind v.buf.egress p with
  | none => rfl
  | some e => rfl

theorem execEgressSelect_down (hv : v = s.egressReady p t) (h : v.flag (PortStatus.linkUp p) = false) :
    execEgressSelect p t s = .next v := by
  rw [execEgressSelect_eq hv]
  simp only [h, Bool.not_false, if_true]

theorem execEgressSelect_disabling (hv : v = s.egressReady p t) (hup : v.flag (PortStatus.linkUp p) = true)
    (h : v.disableWaits p = true) : execEgressSelect p t s = .next (v.portDisableStep p) := by
  rw [execEgressSelect_eq hv]
  simp only [hup, h, Bool.not_true, Bool.false_eq_true, if_false, if_true]

theorem execEgressSelect_held (hv : v = s.egressReady p t) (hstop : v.disableWaits p = false)
    (h : (v.port p).backoffAt.isSome = true ∨ v.plcaMay p = false) : execEgressSelect p t s = .next v := by
  have hheld : ((v.port p).backoffAt.isSome || !v.plcaMay p) = true := by
    rcases h with h | h <;> simp [h]
  rw [execEgressSelect_eq hv]
  simp only [hstop, hheld, Bool.false_eq_true, if_false, if_true, ite_self]

end

/-! ### Cell reads and transmissions (R252, R257, R274, R280, R351) -/

section
variable {u : Fin 7} {s v : State} {p : Nat} {e : EgressRead}

theorem execCellRead_meets (ho : s.readWait.oldestRead = some (p, e)) (hr : s.readWait.readMeets e.desc e.taken u = (true, v)) :
    execCellRead u s = .next (v.cellTake p e (v.nextCell e)) := by
  simp only [execCellRead, ho, hr]

theorem execCellRead_fails (ho : s.readWait.oldestRead = some (p, e)) (hr : s.readWait.readMeets e.desc e.taken u = (false, v)) :
    execCellRead u s = .next (v.readFails p e) := by
  simp only [execCellRead, ho, hr]

theorem execCellRead_none (ho : s.readWait.oldestRead = none) : execCellRead u s = .next s.readWait := by
  simp only [execCellRead, ho]

end

section
variable {p : Fin 22} {s : State}

theorem execFrameTransmitComplete_sent {e : EgressRead}
    (h : tabFind s.buf.egress p = some e ∧ (e.cellsLeft = 0 ∨ e.trunc = true))
    (hgo : (s.port p).backoffAt = none ∧ (s.port p).deferred = false) :
    execFrameTransmitComplete p s = .next (s.frameSent p e) := by
  obtain ⟨he, hread⟩ := h
  obtain ⟨hback, hdef⟩ := hgo
  rcases hread with hread | hread <;> simp [execFrameTransmitComplete, he, hread, hback, hdef]

theorem execFrameTransmitComplete_other (h : (∀ e, tabFind s.buf.egress p = some e → e.cellsLeft ≠ 0 ∧ e.trunc = false) ∨
    (s.port p).backoffAt.isSome = true ∨ (s.port p).deferred = true) : execFrameTransmitComplete p s = .next s := by
  unfold execFrameTransmitComplete
  cases he : tabFind s.buf.egress p with
  | none => rfl
  | some e => rcases h with h | h | h <;> simp [h, he]

end

/-! ### Ethernet reception (R123, R128) -/

/-- A frame whose FCS is right goes on with what MACsec leaves of it; one that MACsec drops may have cut through (R128, R424). -/
def State.rxProtected (s : State) (p : Nat) (l : List Byte) (express : Bool) : State :=
  match s.macsecRx p l with
  | (none, t) => if t.macsecStrict p then t else t.rxBad p l express
  | (some x, t) => t.macAccept p l.length x express

section
variable {p : Fin 20} {l : List Byte} {a b e : Bool} {k : Byte} {s v : State}

theorem execEthFrameReceive_down (h : v = s.rxLpi p k.toNat ∧ v.flag (PortStatus.linkUp p) = false) :
    execEthFrameReceive p l a b e k s = .next v := by
  obtain ⟨rfl, hdown⟩ := h
  simp only [execEthFrameReceive, hdown, Bool.not_false, if_true]

theorem execEthFrameReceive_up {n : Nat}
    (h : v = s.rxLpi p k.toNat ∧ v.flag (PortStatus.linkUp p) = true ∧ n = s.par (oChan p) 0x0103) :
    execEthFrameReceive p l a b e k s = .next (if a then v.inc (oChan p) cEth 4
      else if b && v.preemptOn p then v.inc (oChan p) cEth 5
      else if l.length < 64 then v.inc (oChan p) cEth 6
      else if n < l.length then (v.inc (oChan p) cEth 7).rxBad p (l.take n) e
      else if !fcsOk l then (v.inc (oChan p) cEth 8).rxBad p l e
      else v.rxProtected p l e) := by
  obtain ⟨rfl, hup, rfl⟩ := h
  simp only [execEthFrameReceive, hup, Bool.not_true, Bool.false_eq_true, if_false]
  rfl

end

/-- Settles O26: each command by the equation of its case. -/
theorem bufferAndEgressCommandsComplete : Obligations.BufferAndEgressCommandsComplete := by
  unfold Obligations.BufferAndEgressCommandsComplete
  refine ⟨fun _ _ _ => execQueueDrainDone_empty, fun _ _ => execQueueDrainDone_other, fun _ _ _ => execQueueDrainTimeout_due,
    fun _ _ => execQueueDrainTimeout_other, fun _ _ _ _ => execAuditVisit_allocated, fun _ _ => execAuditVisit_unallocated,
    ?passAgrees, ?passDiffers, ?peak, ?selects, ?stands, fun _ _ _ _ _ => execCellRead_meets, fun _ _ _ _ _ => execCellRead_fails,
    fun _ _ => execCellRead_none, fun _ _ _ => execFrameTransmitComplete_sent, fun _ _ => execFrameTransmitComplete_other,
    fun _ _ _ => execHistogramSample_due, fun _ _ => execHistogramSample_none, fun _ _ _ _ _ _ _ _ _ => execEthFrameReceive_up,
    fun _ _ _ _ _ _ _ _ => execEthFrameReceive_down⟩
  case passAgrees =>
    intro b s v n h hsame
    exact (execAuditPassEnd_eq h).trans (congrArg _ (if_neg fun hdiff => hdiff.elim (· hsame.1) (· hsame.2)))
  case passDiffers =>
    intro b s v n h hdiff
    exact (execAuditPassEnd_eq h).trans (congrArg _ (if_pos hdiff))
  case peak =>
    rintro q s _ rfl
    rfl
  case selects => exact fun p t s v hv => execEgressSelect_goes hv
  case stands =>
    intro p t s v hv
    exact ⟨execEgressSelect_down hv, fun d hup hd hm => execEgressSelect_disabling hv hup (State.disableWaits_of_mode hd hm),
      fun hstop => execEgressSelect_held hv (State.disableWaits_none hstop)⟩

end Sys2Proof.Machine

/-! O38: what happens to a Span, each event by its timer, its state or its armed source. -/

namespace Sys2Proof.Machine

-- One theorem at a time: those that wait for the kernel would each hold a thread with its whole stack.
set_option Elab.async false

section
variable {i : Fin 16} {s : State}

/-! ### Demand holds, PREPARE and false wakes (R382, R383, R390) -/

theorem execIdleTimerExpiry_due {d : Nat} (hs : s.switchover = false) (hd : (s.span i).idleAt = some d) :
    execIdleTimerExpiry i s = .next (((s.timeTo (msEnd d)).idleEnd i).spanUpdate i) := by
  simp only [execIdleTimerExpiry, hs, hd, Bool.false_eq_true, if_false]

theorem execIdleTimerExpiry_judges (hs : s.switchover = false) (hd : (s.span i).idleAt = none) :
    execIdleTimerExpiry i s = .next (s.spanUpdate i) := by
  simp only [execIdleTimerExpiry, hs, hd, Bool.false_eq_true, if_false]

theorem execPrepareTimeExpiry_enters {d : Nat}
    (h : (s.span i).prepareAt = some d ∧ s.spanState i = spPrepare ∧ s.switchover = false) :
    execPrepareTimeExpiry i s = .next ((s.timeTo (msEnd d)).spanEnter i) := by
  simp [execPrepareTimeExpiry, h]

theorem execPrepareTimeExpiry_other (h : (s.span i).prepareAt = none ∨ s.spanState i ≠ spPrepare ∨ s.switchover = true) :
    execPrepareTimeExpiry i s = .next s := by
  unfold execPrepareTimeExpiry
  cases hd : (s.span i).prepareAt with
  | none => rfl
  | some d => rcases h.resolve_left (by simp [hd]) with h | h <;> simp [h]

theorem execFalseWakeExpiry_due {d : Nat} {v w : State}
    (h : (s.span i).falseAt = some d ∧ s.switchover = false ∧ v = (s.timeTo (msEnd d)).spanDemand i)
    (hw : w = (v.setSpan i { v.span i with falseAt := none }).setF (SpanState.falseWakeRun i) 0) :
    execFalseWakeExpiry i s = .next (
      if w.hasDemand i = false ∧ (w.span i).correct = false ∧ w.spanState i = spAwake ∧ w.spanRemote i = false then
        State.spanEnter (State.setSpan ((w.markFalseWake i).incSpan i 4) i
          { ((w.markFalseWake i).incSpan i 4).span i with lastHolder := (0, 0, 0xFF) }) i
      else w.spanUpdate i) := by
  obtain ⟨hd, hs, rfl⟩ := h
  subst hw
  simp only [execFalseWakeExpiry, hd, hs, Bool.false_eq_true, if_false, Bool.and_eq_true, Bool.not_eq_true', beq_iff_eq, and_assoc]

theorem execFalseWakeExpiry_none (h : (s.span i).falseAt = none) : execFalseWakeExpiry i s = .next s := by
  simp only [execFalseWakeExpiry, h]

/-- In a switchover what firmware decides waits (R52). -/
theorem spanTimers_switchover (hs : s.switchover = true) :
    execIdleTimerExpiry i s = .next s ∧ execFalseWakeExpiry i s = .next s := by
  refine ⟨by simp only [execIdleTimerExpiry, hs, if_true], ?_⟩
  unfold execFalseWakeExpiry
  cases (s.span i).falseAt with
  | none => rfl
  | some d => simp only [hs, if_true]

/-! ### Entry, arming and power-up (R385, R387, R389) -/

theorem execEntryDrainEnd_arms (h : s.spanState i = spEntering ∧ (s.span i).step = 0 ∧ s.switchover = false)
    (hd : s.spanDrained i = true ∨ (s.span i).drainAt = none) : execEntryDrainEnd i s = .next (s.spanArm i) := by
  obtain ⟨hstate, hstep, hs⟩ := h
  rcases hd with hd | hd <;> simp [execEntryDrainEnd, hstate, hstep, hs, hd]

theorem execEntryDrainEnd_discards {d : Nat} (h : s.spanState i = spEntering ∧ (s.span i).step = 0 ∧ s.switchover = false)
    (hd : s.spanDrained i = false ∧ (s.span i).drainAt = some d) :
    execEntryDrainEnd i s = .next (((s.timeTo d).spanDiscard i).spanArm i) := by
  obtain ⟨hstate, hstep, hs⟩ := h
  simp [execEntryDrainEnd, hstate, hstep, hs, hd]

theorem execEntryDrainEnd_other (h : s.spanState i ≠ spEntering ∨ (s.span i).step ≠ 0 ∨ s.switchover = true) :
    execEntryDrainEnd i s = .next s := by
  rcases h with h | h | h <;> simp [execEntryDrainEnd, h]

theorem execArmingConfirmed_arming (b : Bool) (h : s.spanState i = spEntering ∧ (s.span i).step = 1) :
    execArmingConfirmed i b s = .next (if s.switchover then s.spanWait (.armed i b)
      else if b then s.spanArmFail i else s.spanArmed i) := by
  obtain ⟨hstate, hstep⟩ := h
  simp only [execArmingConfirmed, State.armingEnd, hstate, hstep, bne_self_eq_false, Bool.or_self, Bool.false_eq_true, if_false]

theorem execArmingConfirmed_other (b : Bool) (h : s.spanState i ≠ spEntering ∨ (s.span i).step ≠ 1) :
    execArmingConfirmed i b s = .next s := by
  rcases h with h | h <;> simp [execArmingConfirmed, State.armingEnd, h]

theorem execLanePowerUp_eq (i : Fin 16) (s : State) : execLanePowerUp i s = .next (if s.spanState i = spWaking then
    (((s.spanUngate i).spanXcvrBack i).lineCommand i 0).spanAwakeCheck i else s) := by
  simp only [execLanePowerUp, beq_iff_eq]

/-! ### Keep-alives and LONG_AWAKE (R391, R401) -/

theorem execKaTxPeriodExpiry_due {d : Nat} {v w : State} (h : (s.span i).kaAt = some d ∧ v = s.timeTo d)
    (hw : w = v.setSpan i { v.span i with
      kaAt := if v.spanPar i 0x010A = 0 then none else some (v.after (msC (v.spanPar i 0x010A))) }) :
    execKaTxPeriodExpiry i s =
      .next (if w.spanState i != spAwake || w.getF (SpanState.holds i) == 0 then w else w.kaSend i) := by
  obtain ⟨hd, rfl⟩ := h
  subst hw
  simp only [execKaTxPeriodExpiry, hd]

theorem execKaTxPeriodExpiry_none (h : (s.span i).kaAt = none) : execKaTxPeriodExpiry i s = .next s := by
  simp only [execKaTxPeriodExpiry, h]

theorem execLongAwakeExpiry_due {d : Nat} {v w : State} (h : (s.span i).longAt = some d ∧ v = s.timeTo d)
    (hw : w = v.setSpan i { v.span i with
      longAt := if v.spanPar i 0x0110 = 0 then none else some (v.after (secC (v.spanPar i 0x0110))) }) :
    execLongAwakeExpiry i s = .next ((w.incSpan i 8).stayLog i 3 (w.longestHolder i)) := by
  obtain ⟨hd, rfl⟩ := h
  subst hw
  simp only [execLongAwakeExpiry, hd]

theorem execLongAwakeExpiry_none (h : (s.span i).longAt = none) : execLongAwakeExpiry i s = .next s := by
  simp only [execLongAwakeExpiry, h]

end

/-! ### Wake sources (R150, R151, R394 to R396) -/

section
variable {n : Fin 16} {s : State}

/-- A transceiver armed with selective wake takes frames, and no wake-up pattern. -/
theorem armedCan_selective {a : ArmedSpan} {f : Nat} (k : Fin 3) (i : BitVec 30) (r : Bool) (d : BitVec 4) (p : BitVec 64)
    (h : s.armedCan n = some (a, f)) (hf : bitsOf f 7 0 ≠ 0) :
    execSwakeFrame n k i r d p s = .next (s.swakeIn n a.span f k i.toNat r d.toNat p.toNat) ∧ execWup n s = .next s := by
  constructor
  · simp only [execSwakeFrame, h, beq_eq_false_iff_ne.2 hf, Bool.false_eq_true, if_false]
  · simp only [execWup, h, beq_eq_false_iff_ne.2 hf, Bool.false_eq_true, if_false]

/-- A transceiver armed without selective wake takes a wake-up pattern, and no frame. -/
theorem armedCan_pattern {a : ArmedSpan} {f : Nat} (k : Fin 3) (i : BitVec 30) (r : Bool) (d : BitVec 4) (p : BitVec 64)
    (h : s.armedCan n = some (a, f)) (hf : bitsOf f 7 0 = 0) :
    execSwakeFrame n k i r d p s = .next s ∧ execWup n s = .next (s.wake a.span wsWup (24 + n) 0 (24 + n)) := by
  constructor
  · simp only [execSwakeFrame, h, hf, beq_self_eq_true, if_true]
  · simp only [execWup, h, hf, beq_self_eq_true, if_true]

theorem armedCan_none (k : Fin 3) (i : BitVec 30) (r : Bool) (d : BitVec 4) (p : BitVec 64) (h : s.armedCan n = none) :
    execSwakeFrame n k i r d p s = .next s ∧ execWup n s = .next s := by
  constructor
  · simp only [execSwakeFrame, h]
  · simp only [execWup, h]

end

theorem execWakePin_eq {k : Fin 8} {b : Bool} {s v : State} (hv : v = s.setF ⟨WakePinStatus.off, k, k⟩ (b2n b)) :
    execWakePin k b s = .next (if bitOf (bitsOf (s.nvmPar (0x1300 + k.val)) 1 0) (if b then 0 else 1) then
      (v.pinSpans k).foldl (fun x i => x.wake i wsPin k (b2n b) 0xFF) v else v) := by
  subst hv
  simp only [execWakePin, Bool.not_eq_true', ← Bool.not_eq_true, ite_not]

section
variable {n : Fin 8} {s : State}

theorem execLinWake_armed {a : ArmedSpan} (h : s.armedChan (88 + n.val) = some a) :
    execLinWake n s = .next (s.wake a.span wsLin (88 + n.val) 0 (88 + n.val)) := by
  simp only [execLinWake, h]

theorem execLinWake_none (h : s.armedChan (88 + n.val) = none) : execLinWake n s = .next s := by
  simp only [execLinWake, h]

theorem execT1sWake_armed {a : ArmedSpan} (h : s.armedChan (12 + n.val) = some a) :
    execT1sWake n s = .next (s.wake a.span wsT1s (12 + n.val) 0 (12 + n.val)) := by
  simp only [execT1sWake, h]

theorem execT1sWake_none (h : s.armedChan (12 + n.val) = none) : execT1sWake n s = .next s := by
  simp only [execT1sWake, h]

end

section
variable {p : Fin 12} {l : List Byte} {s : State}

theorem execWakePatternMatch_wakes {a : ArmedSpan}
    (h : s.armedChan p = some a ∧ s.par (oPattern p) (pidRaw 0) = 1 ∧ s.wakeFrameOk p l = true)
    (hm : patternMatch (s.par (oPattern p) (pidRaw 1)) (s.par (oPattern p) (pidRaw 2))
      (leBytes 128 (s.par (oPattern p) (pidRaw 3))) l = true) :
    execWakePatternMatch p l s = .next (State.wake
      ((s.inc (oChan p) cEth 15).event (PortEvents.wakeMatch p) (0x105 + p.val * 16)) a.span wsPattern p 0 p) := by
  obtain ⟨ha, hen, hok⟩ := h
  simp only [execWakePatternMatch, ha, hen, hok, hm, beq_self_eq_true, Bool.and_self, if_true]

theorem execWakePatternMatch_other
    (h : s.armedChan p = none ∨ s.par (oPattern p) (pidRaw 0) ≠ 1 ∨ s.wakeFrameOk p l = false ∨
      patternMatch (s.par (oPattern p) (pidRaw 1)) (s.par (oPattern p) (pidRaw 2))
        (leBytes 128 (s.par (oPattern p) (pidRaw 3))) l = false) :
    execWakePatternMatch p l s = .next s := by
  unfold execWakePatternMatch
  cases ha : s.armedChan p with
  | none => rfl
  | some a => rcases h.resolve_left (by simp [ha]) with h | h | h <;> simp [h]

end

/-! ### Messages of the Viaduct (R404) -/

section
variable {i : Fin 16} {s : State} (d : Fin 4) (k : Fin 7) (b : Byte)

theorem execViaductSpanMessage_shared (h : s.spanPar i 0x0111 ≠ 0 ∧ s.spanPar i 0x0100 ≠ 0) :
    execViaductSpanMessage i d k b s = .next (if s.getF CascStatus.role = 2 then s.spanFromMaster i d k b.toNat
      else s.spanFromMember i d k b.toNat) := by
  obtain ⟨hvia, hspan⟩ := h
  simp only [execViaductSpanMessage, beq_eq_false_iff_ne.2 hvia, beq_eq_false_iff_ne.2 hspan, beq_iff_eq,
    Bool.false_eq_true, if_false]

theorem execViaductSpanMessage_local (h : s.spanPar i 0x0111 = 0) :
    execViaductSpanMessage i d k b s = .next (if s.getF CascStatus.role ≠ 2 ∧ (k.val ≤ 1 ∨ k.val = 6) then
      { s with out := .spanMessage i 5 0 :: s.out } else s) := by
  simp [execViaductSpanMessage, h]

theorem execViaductSpanMessage_unused (h : s.spanPar i 0x0111 ≠ 0 ∧ s.spanPar i 0x0100 = 0) :
    execViaductSpanMessage i d k b s = .next s := by
  simp [execViaductSpanMessage, h]

end

/-- Settles O38: each event by the equation of its case. -/
theorem spanEventsTakeEffect : Obligations.SpanEventsTakeEffect := by
  unfold Obligations.SpanEventsTakeEffect
  refine ⟨?idle, fun _ _ _ => execPrepareTimeExpiry_enters, fun _ _ => execPrepareTimeExpiry_other,
    fun _ _ _ _ _ => execFalseWakeExpiry_due, fun _ _ => spanTimers_switchover, fun _ _ => execEntryDrainEnd_arms,
    fun _ _ _ => execEntryDrainEnd_discards, fun _ _ => execEntryDrainEnd_other, fun _ b _ => execArmingConfirmed_arming b,
    fun _ b _ => execArmingConfirmed_other b, execLanePowerUp_eq, fun _ _ _ _ _ => execKaTxPeriodExpiry_due,
    fun _ _ _ _ _ => execLongAwakeExpiry_due,
    fun _ _ => ⟨execFalseWakeExpiry_none, execKaTxPeriodExpiry_none, execLongAwakeExpiry_none⟩,
    fun _ k i r d p _ _ _ h => ⟨armedCan_selective k i r d p h, armedCan_pattern k i r d p h⟩,
    fun _ k i r d p _ => armedCan_none k i r d p, fun _ _ _ _ => execWakePin_eq, fun _ _ _ => execLinWake_armed,
    fun _ _ _ => execT1sWake_armed, fun _ _ => ⟨execLinWake_none, execT1sWake_none⟩, fun _ _ _ _ => execWakePatternMatch_wakes,
    fun _ _ _ => execWakePatternMatch_other, fun _ d k b _ => execViaductSpanMessage_shared d k b,
    fun _ d k b _ => execViaductSpanMessage_local d k b, fun _ d k b _ => execViaductSpanMessage_unused d k b⟩
  case idle =>
    intro i s hs
    cases hd : (s.span i).idleAt with
    | none => exact execIdleTimerExpiry_judges hs hd
    | some d => exact execIdleTimerExpiry_due hs hd

end Sys2Proof.Machine

/-! O9: the commands of the LIN class. -/

namespace Sys2Proof.Machine

-- One theorem at a time: those that wait for the kernel would each hold a thread with its whole stack.
set_option Elab.async false

section
variable {c : Ctx} {u : State}

/-- The Lane that a command of the LIN class names. -/
abbrev Ctx.linLane (c : Ctx) : Nat := (orefOf c.payload).chan - 88

/-! ### Schedules and frame tables (R195, R197) -/

theorem bodyScheduleSet_stages
    (hlen : (orefOf c.payload).typ = 0x16 ∧ leAt c.payload 8 2 ≤ 64 ∧ c.payload.length = 12 + 8 * leAt c.payload 8 2 ∧
      leAt c.payload 10 2 = 0)
    (hentries : ∀ i, i < leAt c.payload 8 2 → schedOk (leAt c.payload (12 + 8 * i) 8) = true) :
    bodyScheduleSet c u = u.stage c [(pkey (orefOf c.payload).key (pidRaw 0), leAt c.payload 8 2),
      (pkey (orefOf c.payload).key (pidRaw 1), leVal (c.payload.drop 12))] := by
  obtain ⟨htyp, hcount, hlen, hres⟩ := hlen
  have hall : (List.range (leAt c.payload 8 2)).all (fun i => schedOk (leAt c.payload (12 + 8 * i) 8)) = true :=
    List.all_eq_true.2 fun i hi => hentries i (List.mem_range.1 hi)
  simp only [bodyScheduleSet, htyp, gt_iff_lt, Nat.not_lt.2 hcount, hlen, hres, hall, bne_self_eq_false, Bool.not_true,
    Bool.or_false, Bool.false_eq_true, if_false]

/-- A command that names a LIN Channel. -/
theorem State.linBody_channel {f : Nat → Resp × State} (h : (orefOf c.payload).typ = 0x04) : u.linBody c f = f c.linLane := by
  simp only [State.linBody, h, bne_self_eq_false, Bool.false_eq_true, if_false]

theorem bodyResponseSet_stages (hpad : (orefOf c.payload).typ = 0x04 ∧ leVal ((c.payload.drop 8).drop 60) = 0)
    (hbytes : ∀ b ∈ c.payload.drop 8, linDir b.toNat ≤ 2 ∧ bitOf b.toNat 3 = false ∧ bitOf b.toNat 7 = false) :
    bodyResponseSet c u = u.stage c [(pkey (oChan (88 + c.linLane)) pidFrameTable, leVal (c.payload.drop 8))] := by
  obtain ⟨htyp, hpad⟩ := hpad
  have hall : (c.payload.drop 8).all (fun b => decide (linDir b.toNat ≤ 2) && !bitOf b.toNat 3 && !bitOf b.toNat 7) = true :=
    List.all_eq_true.2 fun b hb => by simp [hbytes b hb]
  simp only [bodyResponseSet, State.linBody_channel htyp, hall, hpad, bne_self_eq_false, Bool.not_true, Bool.or_false,
    Bool.false_eq_true, if_false]

/-! ### Select, sleep and wake-up (R200, R201) -/

/-- The Lane as LIN.SCHEDULE_SELECT leaves it before the table starts: no restart is due, and the table to start is noted as the
last one. -/
def State.linSelecting (u : State) (c : Ctx) : State :=
  u.setLin c.linLane { u.linLane c.linLane with
    restartAt := none
    wakeRestart := false
    lastTable := if leAt c.payload 8 4 = 0 then some (orefOf c.payload).idx else (u.linLane c.linLane).lastTable }

theorem bodyScheduleSelect_commander (harg : (orefOf c.payload).typ = 0x16 ∧ leAt c.payload 8 4 ≤ 1)
    (hawake : u.getF (LinStatus.roleActive c.linLane) = 1 ∧ (u.linLane c.linLane).sleepPend = false ∧
      (u.linLane c.linLane).slot ≠ .sleep) :
    bodyScheduleSelect c u = State.answer
      (if (u.linSelecting c).flag (LinStatus.running c.linLane) || (u.linLane c.linLane).slot != .idle then
        (u.linSelecting c).setLin c.linLane
          { (u.linSelecting c).linLane c.linLane with select := some ((orefOf c.payload).idx, leAt c.payload 8 4) }
      else if leAt c.payload 8 4 = 0 then (u.linSelecting c).linStartTable c.linLane (orefOf c.payload).idx
      else u.linSelecting c) stDone := by
  obtain ⟨htyp, hact⟩ := harg
  obtain ⟨hrole, hpend, hslot⟩ := hawake
  have hready : ¬(u.getF (LinStatus.roleActive c.linLane) != 1 || (u.linLane c.linLane).sleepPend ||
      (u.linLane c.linLane).slot == .sleep) = true := by simp [hrole, hpend, hslot]
  calc bodyScheduleSelect c u
    _ = _ := if_neg (by simp [htyp])
    _ = _ := if_neg (Nat.not_lt.2 hact)
    _ = _ := if_neg hready
    _ = _ := (apply_ite (fun t : State => t.answer stDone) _ _ _).symm

theorem bodyGotoSleep_commander (htyp : (orefOf c.payload).typ = 0x04) (hrole : u.getF (LinStatus.roleActive c.linLane) = 1) :
    bodyGotoSleep c u = State.answer
      (if u.flag (LinStatus.running c.linLane) || (u.linLane c.linLane).slot != .idle then
        u.setLin c.linLane { u.linLane c.linLane with sleepPend := true }
      else u.linSendSleep c.linLane) stDone := by
  simp only [bodyGotoSleep, State.linBody_channel htyp, hrole, bne_self_eq_false, Bool.false_eq_true, if_false]
  split <;> rfl

theorem bodyWakeupSend_pulses (htyp : (orefOf c.payload).typ = 0x04)
    (hidle : u.getF (LinStatus.roleActive c.linLane) ≠ 0 ∧ u.flag (LinStatus.running c.linLane) = false) :
    bodyWakeupSend c u = (u.linPulse c.linLane).answer stDone := by
  obtain ⟨hrole, hrun⟩ := hidle
  simp only [bodyWakeupSend, State.linBody_channel htyp, beq_eq_false_iff_ne.2 hrole, hrun, Bool.or_false, Bool.false_eq_true,
    if_false]

end

/-- Settles O9: each command by its body's equation. -/
theorem linCommandsComplete : Obligations.LinCommandsComplete := by
  unfold Obligations.LinCommandsComplete
  refine ⟨?scheduleSet, ?scheduleSelect, ?gotoSleep, ?wakeupSend, ?responseSet⟩
  case scheduleSet =>
    rintro q s _ _ d _ _ rfl rfl h hlen hentries ⟨rfl, rfl⟩ hd hfree
    exact congrArg _ (State.request_stages h (bodyScheduleSet_stages hlen hentries) hd hfree)
  case scheduleSelect =>
    rintro q s _ _ _ _ rfl rfl h ⟨rfl, harg⟩ hawake rfl
    exact congrArg _ (State.request_finish h (bodyScheduleSelect_commander harg hawake))
  case gotoSleep =>
    rintro q s _ _ _ rfl rfl h ⟨rfl, htyp⟩ hrole
    exact congrArg _ (State.request_finish h (bodyGotoSleep_commander htyp hrole))
  case wakeupSend =>
    rintro q s _ _ _ rfl rfl h ⟨rfl, htyp⟩ hidle
    exact congrArg _ (State.request_finish h (bodyWakeupSend_pulses htyp hidle))
  case responseSet =>
    rintro q s _ _ d _ rfl rfl h ⟨rfl, hpad⟩ hbytes hd hfree
    exact congrArg _ (State.request_stages h (bodyResponseSet_stages hpad hbytes) hd hfree)

end Sys2Proof.Machine

/-! O29: the host's record queues of a CAN Channel and its disable, each command by the condition under which it takes effect. -/

namespace Sys2Proof.Machine

-- One theorem at a time: those that wait for the kernel would each hold a thread with its whole stack.
set_option Elab.async false

/-! ### A pointer that the host moves (R186) -/

section
variable {s : State} {n head tail size w a : Nat}

theorem State.canMoveTail_within (h : a = bitsOf w 11 0 ∧ bitsOf a 10 0 < size ∧
    ringUsed a (s.word tail) size ≤ ringUsed (s.word head) (s.word tail) size) :
    s.canMoveTail n head tail size w = (s.setWord tail a).syncCanLevels n := by
  obtain ⟨rfl, harea, hhead⟩ := h
  unfold ringUsed at hhead
  simp only [State.canMoveTail, ringUsed, ge_iff_le, Nat.not_le.2 harea, gt_iff_lt, Nat.not_lt.2 hhead, decide_false, Bool.or_false,
    Bool.false_eq_true, if_false]

theorem State.canMoveTail_beyond (h : a = bitsOf w 11 0 ∧ (size ≤ bitsOf a 10 0 ∨
    ringUsed (s.word head) (s.word tail) size < ringUsed a (s.word tail) size)) :
    s.canMoveTail n head tail size w = s.canEvent n 4 := by
  obtain ⟨rfl, h⟩ := h
  exact if_pos (by simpa [ringUsed] using h)

theorem State.canMoveTxq_within (h : a = bitsOf w 11 0 ∧ bitsOf a 10 0 < 1536 ∧ ringUsed a (s.word (TxqTail.off n)) 1536 ≤ 1536) :
    s.canMoveTxq n w = (s.setWord (TxqHead.off n) a).setCan n { s.canLane n with ringStopped := false } := by
  obtain ⟨rfl, harea, hring⟩ := h
  simp only [State.canMoveTxq, ge_iff_le, Nat.not_le.2 harea, gt_iff_lt, Nat.not_lt.2 hring, decide_false, Bool.or_false,
    Bool.false_eq_true, if_false]

theorem State.canMoveTxq_beyond (h : a = bitsOf w 11 0 ∧ (1536 ≤ bitsOf a 10 0 ∨ 1536 < ringUsed a (s.word (TxqTail.off n)) 1536)) :
    s.canMoveTxq n w = s.canEvent n 4 := by
  obtain ⟨rfl, h⟩ := h
  exact if_pos (by simpa using h)

end

section
variable {n : Fin 64} {s : State} {w : Word}

/-! ### The three pointer writes at a Channel that the variant has, and at one that it lacks (R3) -/

theorem execRxqTailWrite_has (h : s.lacksCan n = false) :
    execRxqTailWrite n w s = .next (s.hosted (s.canMoveTail n (RxqHead.off n) (RxqTail.off n) 2048 w.toNat)) := by
  simp only [execRxqTailWrite, h, Bool.false_eq_true, if_false]

theorem execTxqHeadWrite_has (h : s.lacksCan n = false) :
    execTxqHeadWrite n w s = .next (s.hosted (s.canMoveTxq n w.toNat)) := by
  simp only [execTxqHeadWrite, h, Bool.false_eq_true, if_false]

theorem execTxcTailWrite_has (h : s.lacksCan n = false) :
    execTxcTailWrite n w s = .next (s.hosted (s.canMoveTail n (TxcHead.off n) (TxcTail.off n) 512 w.toNat)) := by
  simp only [execTxcTailWrite, h, Bool.false_eq_true, if_false]

theorem canPointerWrites_lacking (w : Word) (h : s.lacksCan n = true) :
    execRxqTailWrite n w s = .next s ∧ execTxqHeadWrite n w s = .next s ∧ execTxcTailWrite n w s = .next s := by
  simp only [execRxqTailWrite, execTxqHeadWrite, execTxcTailWrite, h, if_true, State.hosted_self, and_self]

/-! ### Drains (R193) -/

theorem execCanDrainDone_drained (h : s.flag (CanStatus.draining n) = true ∧ s.canIdle n = true) :
    execCanDrainDone n s = .next (s.canDisabled n) := by
  simp only [execCanDrainDone, h, Bool.and_self, if_true]

theorem execCanDrainDone_other (h : s.flag (CanStatus.draining n) = false ∨ s.canIdle n = false) :
    execCanDrainDone n s = .next s := by
  simp only [execCanDrainDone, Bool.and_eq_false_iff.2 h, Bool.false_eq_true, if_false]

theorem execCanDrainTimeout_draining {d : Disabling} (h : (s.canLane n).disabling = some d ∧ d.mode = 1) :
    execCanDrainTimeout n s = .next ((s.timeTo d.deadline).canForce n d.ticket) := by
  simp only [execCanDrainTimeout, h, beq_self_eq_true, if_true]

theorem execCanDrainTimeout_other (h : ∀ d, (s.canLane n).disabling = some d → d.mode ≠ 1) : execCanDrainTimeout n s = .next s := by
  unfold execCanDrainTimeout
  cases hd : (s.canLane n).disabling with
  | none => rfl
  | some d => simp [h d hd]

end

/-- Settles O29: each pointer write by where the pointer moves to, each end of a drain by the equation of its case. -/
theorem canQueueCommandsComplete : Obligations.CanQueueCommandsComplete := by
  unfold Obligations.CanQueueCommandsComplete
  refine ⟨fun _ _ => rfl, ?rxqMoves, ?rxqBeyond, ?txqMoves, ?txqBeyond, ?txcMoves, ?txcBeyond,
    fun _ w _ => canPointerWrites_lacking w, fun _ _ => execCanDrainDone_drained, fun _ _ => execCanDrainDone_other,
    fun _ _ _ => execCanDrainTimeout_draining, fun _ _ => execCanDrainTimeout_other⟩
  case rxqMoves =>
    intro n w s a hn h
    exact (execRxqTailWrite_has hn).trans (by rw [State.canMoveTail_within h])
  case rxqBeyond =>
    intro n w s a hn h
    exact (execRxqTailWrite_has hn).trans (by rw [State.canMoveTail_beyond h])
  case txqMoves =>
    rintro n w s a _ hn h rfl
    exact (execTxqHeadWrite_has hn).trans (by rw [State.canMoveTxq_within h])
  case txqBeyond =>
    intro n w s a hn h
    exact (execTxqHeadWrite_has hn).trans (by rw [State.canMoveTxq_beyond h])
  case txcMoves =>
    intro n w s a hn h
    exact (execTxcTailWrite_has hn).trans (by rw [State.canMoveTail_within h])
  case txcBeyond =>
    intro n w s a hn h
    exact (execTxcTailWrite_has hn).trans (by rw [State.canMoveTail_beyond h])

end Sys2Proof.Machine

/-! O59: ageing of the forwarding table. A visit writes every listed entry once and at its own index, so that the index reads as the
aged entry afterwards; it touches nothing but the table of learnt entries. -/

namespace Sys2Proof.Machine

-- One theorem at a time: those that wait for the kernel would each hold a thread with its whole stack.
set_option Elab.async false

/-! ### Rewriting the entries of a table -/

section
variable {α : Type} [DecidableEq α] {d : Nat → α}

theorem tabFind_eq_none_of_lt : ∀ {t : Tab α} {lo k : Nat}, tabWfFrom d lo t = true → k < lo → tabFind t k = none
  | [], _, _, _, _ => rfl
  | (j, v) :: t, lo, k, hw, hk => by
    simp only [tabWfFrom, Bool.and_eq_true, decide_eq_true_eq] at hw
    obtain ⟨⟨hj, -⟩, ht⟩ := hw
    rw [tabFind, if_neg (by omega), tabFind_eq_none_of_lt ht (by omega)]

/-- Rewriting a table entry by entry: a key that is listed reads as its rewritten entry, every other key as before. -/
theorem tabGet_foldl_tabSet (g : α → α) (i : Nat) : ∀ (l t : Tab α) {lo : Nat}, tabWfFrom d lo l = true →
    tabGet d (l.foldl (fun t kv => tabSet d t kv.1 (g kv.2)) t) i = ((tabFind l i).map g).getD (tabGet d t i)
  | [], _, _, _ => rfl
  | (k, v) :: l, t, lo, hw => by
    simp only [tabWfFrom, Bool.and_eq_true, decide_eq_true_eq] at hw
    obtain ⟨-, hl⟩ := hw
    rw [List.foldl_cons, tabGet_foldl_tabSet g i l _ hl, tabFind]
    by_cases hi : i = k
    · subst hi
      rw [tabFind_eq_none_of_lt hl (Nat.lt_succ_self i), if_pos rfl]
      exact tabGet_tabSet_same d t i (g v)
    · rw [if_neg hi, tabGet_tabSet_ne d t (g v) hi]

/-- A rewriting that keeps the default acts on what every key reads as. -/
theorem tabGet_rewrite (g : α → α) {t : Tab α} (hw : tabWf d t = true) {i : Nat} (hg : g (d i) = d i) :
    tabGet d (t.foldl (fun t kv => tabSet d t kv.1 (g kv.2)) t) i = g (tabGet d t i) := by
  rw [tabGet_foldl_tabSet g i t t hw, tabGet]
  cases tabFind t i with
  | none => exact hg.symm
  | some v => rfl

end

/-! ### An ageing visit (R227) -/

/-- What a visit makes of a learnt entry: without HIT where it had it, and else none. -/
def agedEntry (e : Nat) : Nat := if fdbHit e then setBit e 62 false else 0

/-- The table of learnt entries after a visit. -/
def agedTab (t : Tab Nat) : Tab Nat := t.foldl (fun t kv => tabSet ctrDefault t kv.1 (agedEntry kv.2)) t

theorem tabGet_agedTab {t : Tab Nat} (hw : tabWf ctrDefault t = true) (i : Nat) :
    tabGet ctrDefault (agedTab t) i = agedEntry (tabGet ctrDefault t i) :=
  tabGet_rewrite agedEntry hw (show agedEntry 0 = 0 by decide)

section
variable {s : State}

/-- The state after a visit, which changes the table of learnt entries and nothing else. -/
def State.fdbAged (s : State) : State := { s with fwd := { s.fwd with learnt := agedTab s.fwd.learnt } }

/-- Storing entries one by one stores them in the table of learnt entries and nowhere else. -/
theorem State.foldl_setLearnt (g : Nat → Nat) (s : State) (l : Tab Nat) :
    l.foldl (fun v kv => v.setLearnt kv.1 (g kv.2)) s =
      { s with fwd := { s.fwd with learnt := l.foldl (fun t kv => tabSet ctrDefault t kv.1 (g kv.2)) s.fwd.learnt } } := by
  induction l generalizing s with
  | nil => rfl
  | cons kv l ih => exact ih (s.setLearnt kv.1 (g kv.2))

theorem execAgeingVisit_ages (h : s.fwRunning = true ∧ s.par oDeck pidAgeing ≠ 0) :
    execAgeingVisit s = .next (s.fwd.learnt.foldl (fun v kv => v.setLearnt kv.1 (agedEntry kv.2)) s) := by
  obtain ⟨hrun, hperiod⟩ := h
  have hstore : (fun (v : State) (kv : Nat × Nat) => if fdbHit kv.2 then v.setLearnt kv.1 (setBit kv.2 62 false) else v.setLearnt kv.1 0) =
      fun v kv => v.setLearnt kv.1 (agedEntry kv.2) :=
    funext fun v => funext fun kv => (apply_ite (v.setLearnt kv.1) _ _ _).symm
  simp only [execAgeingVisit, hrun, beq_eq_false_iff_ne.2 hperiod, hstore, Bool.not_true, Bool.or_false, Bool.false_eq_true, if_false]

theorem execAgeingVisit_fdbAged (h : s.fwRunning = true ∧ s.par oDeck pidAgeing ≠ 0) : execAgeingVisit s = .next s.fdbAged :=
  (execAgeingVisit_ages h).trans (congrArg _ (State.foldl_setLearnt agedEntry s s.fwd.learnt))

theorem execAgeingVisit_off (h : s.fwRunning = false ∨ s.par oDeck pidAgeing = 0) : execAgeingVisit s = .next s := by
  rcases h with h | h <;> simp [execAgeingVisit, h]

/-- A static entry stands before what is learnt at its index (R215). -/
theorem State.fdbEntry_static {i : Nat} (h : s.par (oFdb i) (pidRaw 0) ≠ 0) : s.fdbEntry i = s.par (oFdb i) (pidRaw 0) :=
  if_pos (bne_iff_ne.2 h)

end

/-- Settles O59: a visit rewrites each learnt entry in its place, and a static entry is read from the configuration, which it leaves. -/
theorem ageingClearsHitOrRemoves : Obligations.AgeingClearsHitOrRemoves := by
  unfold Obligations.AgeingClearsHitOrRemoves
  refine ⟨?visit, fun s hoff => execAgeingVisit_off (.inr hoff)⟩
  case visit =>
    intro s hw h
    refine ⟨_, execAgeingVisit_fdbAged h, tabGet_agedTab hw, ?static, rfl⟩
    case static =>
      intro i hi
      calc s.fdbAged.fdbEntry i
        _ = s.par (oFdb i) (pidRaw 0) := State.fdbEntry_static (s := s.fdbAged) hi
        _ = s.fdbEntry i := (State.fdbEntry_static hi).symm

end Sys2Proof.Machine

/-! O10: the commands of the FDB class. -/

namespace Sys2Proof.Machine

-- One theorem at a time: those that wait for the kernel would each hold a thread with its whole stack.
set_option Elab.async false

section
variable {c : Ctx} {u : State}

/-- The MAC address and the FID of the key that FDB.ADD_STATIC, FDB.DELETE and FDB.LOOKUP name. -/
abbrev Ctx.fdbMac (c : Ctx) : List Byte := sliceB c.payload 8 6
abbrev Ctx.fdbFid (c : Ctx) : Nat := leAt c.payload 14 2

/-! ### Static entries (R230) -/

/-- FDB.ADD_STATIC and FDB.DELETE first take the lock of the key's bucket. -/
structure State.bucketFree (u : State) (c : Ctx) : Prop where
  deck : (orefOf c.payload).typ = 0x01
  fid : c.fdbFid < 4096
  free : u.locked c.client [fdbLock (fdbBucket c.fdbMac c.fdbFid * 8)] = false

theorem bodyAddStatic_stages {w : Nat} (h : u.bucketFree c) (hvals : leAt c.payload 16 4 < 2 ^ 23 ∧ leAt c.payload 20 4 ≤ 1)
    (hplace : u.fdbPlace c c.fdbMac c.fdbFid = some w) :
    bodyAddStatic c u = u.stage c [(pkey (oFdb w) (pidRaw 0), leVal c.fdbMac + c.fdbFid * 2 ^ 48 + 3 * 2 ^ 60 +
      leAt c.payload 20 4 * 2 ^ 63 + leAt c.payload 16 4 * 2 ^ 64)] (leBytes 4 w) := by
  obtain ⟨hdest, hflags⟩ := hvals
  rw [bodyAddStatic, State.deckBody_deck h.deck]
  simp only [h.free, hplace, ge_iff_le, Nat.not_le.2 h.fid, Nat.not_le.2 hdest, gt_iff_lt, Nat.not_lt.2 hflags, decide_false,
    Bool.and_false, Bool.or_false, Bool.false_eq_true, if_false]

theorem bodyFdbDelete_stages {w : Nat} (h : u.bucketFree c) (hfind : u.fdbFindStatic c c.fdbMac c.fdbFid = some w) :
    bodyFdbDelete c u = u.stage c [(pkey (oFdb w) (pidRaw 0), 0)] := by
  rw [bodyFdbDelete, State.deckBody_deck h.deck]
  simp only [h.free, hfind, ge_iff_le, Nat.not_le.2 h.fid, Bool.and_false, Bool.false_eq_true, if_false]

theorem bodyFdbLookup_finds {w : Nat} (hdeck : (orefOf c.payload).typ = 0x01) (hfid : c.fdbFid < 4096)
    (hlook : u.fdbLook c c.fdbMac c.fdbFid = some w) :
    bodyFdbLookup c u = u.answer stDone (leBytes 4 w ++ leBytes 16 (u.fdbView c w)) := by
  rw [bodyFdbLookup, State.deckBody_deck hdeck]
  simp only [hlook, ge_iff_le, Nat.not_le.2 hfid, if_false]

/-! ### Flush, ageing and learning (R226, R227, R229) -/

theorem bodyFdbFlush_pends (hdeck : (orefOf c.payload).typ = 0x01) (hfree : u.locked c.client fdbLocks = false)
    (hvals : leAt c.payload 8 4 < 2 ^ 23 ∧ leAt c.payload 14 2 = 0 ∧ (leAt c.payload 12 2 = 0xFFFF ∨ leAt c.payload 12 2 ≤ 4095)) :
    bodyFdbFlush c u = u.pend c fdbLocks := by
  obtain ⟨hmask, hres, hvid⟩ := hvals
  have hvlan : (leAt c.payload 12 2 != 0xFFFF && decide (4095 < leAt c.payload 12 2)) = false := by
    rcases hvid with h | h
    · rw [h]; rfl
    · rw [decide_eq_false (Nat.not_lt.2 h), Bool.and_false]
  rw [bodyFdbFlush, State.deckBody_deck hdeck]
  simp only [hfree, hres, hvlan, ge_iff_le, Nat.not_le.2 hmask, gt_iff_lt, bne_self_eq_false, decide_false, Bool.or_false,
    Bool.false_eq_true, if_false]

theorem bodyAgeingSet_stages (hdeck : (orefOf c.payload).typ = 0x01)
    (hperiod : leAt c.payload 8 4 = 0 ∨ (10 ≤ leAt c.payload 8 4 ∧ leAt c.payload 8 4 ≤ 1000000))
    (hfree : u.locked c.client [lockOf (pkey oDeck pidAgeing)] = false) :
    bodyAgeingSet c u = u.stage c [(pkey oDeck pidAgeing, leAt c.payload 8 4)] := by
  have hrange : (leAt c.payload 8 4 == 0 || (decide (10 ≤ leAt c.payload 8 4) && decide (leAt c.payload 8 4 ≤ 1000000))) = true := by
    simpa using hperiod
  rw [bodyAgeingSet, State.deckBody_deck hdeck]
  simp only [hfree, hrange, Bool.not_true, Bool.false_eq_true, if_false]

theorem bodyLearnSet_stages (htyp : (orefOf c.payload).typ = 0x04)
    (hvals : leAt c.payload 8 1 ≤ 1 ∧ leAt c.payload 9 3 = 0 ∧ 1 ≤ leAt c.payload 12 4 ∧ leAt c.payload 12 4 ≤ 32768) :
    bodyLearnSet c u = u.stage c [(pkey (orefOf c.payload).key pidLearnEn, leAt c.payload 8 1),
      (pkey (orefOf c.payload).key pidLearnLimit, leAt c.payload 12 4)] := by
  obtain ⟨hen, hres, hmin, hmax⟩ := hvals
  simp only [bodyLearnSet, htyp, hres, gt_iff_lt, Nat.not_lt.2 hen, Nat.not_lt.2 hmin, Nat.not_lt.2 hmax, bne_self_eq_false,
    decide_false, Bool.or_false, Bool.false_eq_true, if_false]

end

/-- Settles O10: each command by its body's equation. -/
theorem fdbCommandsComplete : Obligations.FdbCommandsComplete := by
  unfold Obligations.FdbCommandsComplete
  refine ⟨?add, ?delete, ?flush, ?lookup, ?ageing, ?learn⟩
  case add =>
    rintro q s _ _ w _ d rfl rfl h hdeck ⟨hfid, hvals⟩ hbucket hplace rfl hd hfree
    exact congrArg _ (State.request_stages h (bodyAddStatic_stages ⟨hdeck, hfid, hbucket⟩ hvals hplace) hd hfree)
  case delete =>
    rintro q s _ _ w d rfl rfl h hdeck hfid hbucket hfind hd hfree
    exact congrArg _ (State.request_stages h (bodyFdbDelete_stages ⟨hdeck, hfid, hbucket⟩ hfind) hd hfree)
  case flush =>
    rintro q s _ _ rfl rfl h hdeck hfree hvals
    exact congrArg _ (State.request_pends h (bodyFdbFlush_pends hdeck hfree hvals))
  case lookup =>
    rintro q s _ _ w rfl rfl h hdeck hfid hlook
    exact congrArg _ (State.request_query h (bodyFdbLookup_finds hdeck hfid hlook))
  case ageing =>
    rintro q s _ _ d rfl rfl h hdeck hperiod hd hfree
    exact congrArg _ (State.request_stages h (bodyAgeingSet_stages hdeck hperiod hfree.1) hd hfree)
  case learn =>
    rintro q s _ _ _ d rfl rfl h htyp hvals rfl hd hfree
    exact congrArg _ (State.request_stages h (bodyLearnSet_stages htyp hvals) hd hfree)

end Sys2Proof.Machine

/-! O32: decisions, cells, the shadow interval and firmware's work on the tables, each command by the condition under which it takes
effect. -/

namespace Sys2Proof.Machine

-- One theorem at a time: those that wait for the kernel would each hold a thread with its whole stack.
set_option Elab.async false

section
variable {s t : State} {u : Upset}

/-! ### The decision and its comparison (R275 to R279) -/

theorem execTwinDecision_waiting {i : Nat} {f : RxFrame} {v : Option Verdict} (hf : s.rxWaiting = some (i, f))
    (hv : (v, t) = s.twinOf u f) : execTwinDecision u s = .next (t.decideRx i f v) := by
  simp only [execTwinDecision, hf, ← hv]

theorem execTwinDecision_none (u : Upset) (h : s.rxWaiting = none) : execTwinDecision u s = .next s := by
  simp only [execTwinDecision, h]

/-- In normal operation a hard mismatch gives no decision (R276). -/
theorem State.twin_normal {a b : State → Verdict} (ht : t = s.tableUpset u ∧ t.flag SwStatus.fallback = false) :
    s.twin u a b = if u.twin.val = 2 then (none, (t.compared 2).badMet (a t).bad)
      else (some (a t), ((a t).st.compared u.twin).badMet (a t).bad) := by
  obtain ⟨rfl, hnormal⟩ := ht
  simp only [State.twin, hnormal, beq_iff_eq, Bool.false_eq_true, if_false]

/-- In Fallback the Fallback logic decides, and a shadow interval compares the pipelines beside it (R278, R279). -/
theorem State.twin_fallback {v : State} {a b : State → Verdict} (ht : t = s.tableUpset u ∧ t.flag SwStatus.fallback = true)
    (hv : v = if u.fall then t.incSw 3 else (b t).st) :
    s.twin u a b = (if u.fall then none else some (b t),
      (if t.flag SwStatus.shadow then v.compared u.twin else v).badMet (b t).bad) := by
  obtain ⟨rfl, hfall⟩ := ht
  subst hv
  cases hu : u.fall <;> simp only [State.twin, hfall, hu, Bool.false_eq_true, if_false, if_true]

theorem execShadowIntervalEnd_runs {d : Nat} {v : State} (h : s.buf.shadowEnd = some d ∧ v = s.timeTo d) :
    execShadowIntervalEnd s = .next (State.event ((State.setF { v with buf := { v.buf with shadowEnd := none } } SwStatus.shadow 0).setF
      SwStatus.fallback 0) SwEvents.fallbackExit 0x02A) := by
  obtain ⟨hend, rfl⟩ := h
  simp only [execShadowIntervalEnd, hend]

theorem execShadowIntervalEnd_none (h : s.buf.shadowEnd = none) : execShadowIntervalEnd s = .next s := by
  simp only [execShadowIntervalEnd, h]

/-! ### Cells (R256, R273) -/

section
variable {k : Fin 5} {i : Nat} {f : RxFrame} {b : List Byte} {l : List (List Byte)} {v : State}

theorem execCellWrite_owned {o : Nat} (hcell : s.oldestCell = some (i, f) ∧ f.todo = b :: l)
    (ho : (s.freeLink k).rxOwner f k = (some o, v)) :
    execCellWrite k s = .next (v.cellTo i { f with owner := some o, todo := l } o b) := by
  obtain ⟨hold, htodo⟩ := hcell
  simp only [execCellWrite, hold, htodo, ho]

theorem execCellWrite_noDesc (hcell : s.oldestCell = some (i, f) ∧ f.todo = b :: l) (ho : (s.freeLink k).rxOwner f k = (none, v)) :
    execCellWrite k s = .next ((v.incSw 10).eraseRx i) := by
  obtain ⟨hold, htodo⟩ := hcell
  simp only [execCellWrite, hold, htodo, ho]

theorem execCellWrite_none (h : ∀ i f, s.oldestCell = some (i, f) → f.todo = []) : execCellWrite k s = .next s := by
  cases hcell : s.oldestCell with
  | none => simp only [execCellWrite, hcell]
  | some p =>
    obtain ⟨i, f⟩ := p
    simp only [execCellWrite, hcell, h i f hcell]

end

/-! ### Learning (R225, R226) -/

theorem execLearnRecordProcess_pops {v : State} {r : EvRec} (h : s.fwRunning = true ∧ s.evqFill 1 ≠ 0)
    (hr : r = s.evRec 1 (s.evqRd 1) ∧ v = s.evqMoveRd 1 ((s.evqRd 1 + 1) % 128)) :
    execLearnRecordProcess s = .next (if r.src = 0x001 then
      v.learnFrom (leBytes 6 r.payload) (bitsOf r.payload 59 48) (bitOf r.payload 60) (bitsOf r.payload 71 64) else v) := by
  obtain ⟨hrun, hfill⟩ := h
  obtain ⟨rfl, rfl⟩ := hr
  simp only [execLearnRecordProcess, hrun, beq_eq_false_iff_ne.2 hfill, bne_iff_ne, ne_eq, ite_not, Bool.not_true, Bool.or_false,
    Bool.false_eq_true, if_false]

theorem execLearnRecordProcess_none (h : s.fwRunning = false ∨ s.evqFill 1 = 0) : execLearnRecordProcess s = .next s := by
  rcases h with h | h <;> simp [execLearnRecordProcess, h]

section
variable {m : List Byte} {a p : Nat} {b : Bool}

/-- A new record of a port that holds as many entries as it may. -/
theorem State.learnFrom_atLimit (h : b = false ∧ s.par (oChan p) pidLearnLimit ≤ s.learntOf p) :
    s.learnFrom m a b p = s.incFdb p 10 := by
  obtain ⟨rfl, hlimit⟩ := h
  exact if_pos (by simp [hlimit])

/-- The limit of a port does not refuse a record: it is one of a move, or the port holds fewer entries. -/
theorem State.learn_admits (h : b = true ∨ s.learntOf p < s.par (oChan p) pidLearnLimit) :
    ¬(!b && decide (s.learntOf p ≥ s.par (oChan p) pidLearnLimit)) = true := by
  rcases h with h | h
  · simp [h]
  · simp [Nat.not_le.2 h]

theorem State.learnFrom_held {i : Nat} (hroom : b = true ∨ s.learntOf p < s.par (oChan p) pidLearnLimit) (hi : s.fdbFind m a = some i) :
    s.learnFrom m a b p = if fdbStatic (s.fdbEntry i) then s
      else s.setLearnt i (leVal m + a * 2 ^ 48 + 5 * 2 ^ 60 + 2 ^ (64 + p)) := by
  simp only [State.learnFrom, if_neg (State.learn_admits hroom), hi]

/-- A record of a key that no way holds: into a free way, else into one that is neither static nor hit. -/
theorem State.learnFrom_new {l : List Nat} {x y : Option Nat} (hroom : b = true ∨ s.learntOf p < s.par (oChan p) pidLearnLimit)
    (hnew : s.fdbFind m a = none ∧ l = (List.range 8).map (fun w => fdbBucket m a * 8 + w))
    (hways : x = l.find? (fun i => !fdbValid (s.fdbEntry i)) ∧
      y = l.find? (fun i => !fdbStatic (s.fdbEntry i) && !fdbHit (s.fdbEntry i))) :
    s.learnFrom m a b p = match x.orElse (fun _ => y) with
      | some i => s.setLearnt i (leVal m + a * 2 ^ 48 + 5 * 2 ^ 60 + 2 ^ (64 + p))
      | none => s.incFdb p 9 := by
  obtain ⟨hnone, rfl⟩ := hnew
  obtain ⟨hx, hy⟩ := hways
  simp only [State.learnFrom, if_neg (State.learn_admits hroom), hnone, ← hx, ← hy]
  cases x <;> cases y <;> rfl

end

/-! ### Ports that go down, recovery functions and entries in error (R209, R221, R229) -/

theorem execLinkDownFdbRemoval_down {p : Fin 22} (h : s.fwRunning = true ∧ p.val ∈ s.fwd.linkDownRemoval) :
    execLinkDownFdbRemoval p s = .next (s.forgetPort p) := by
  simp [execLinkDownFdbRemoval, h]

theorem execLinkDownFdbRemoval_none {p : Fin 22} (h : s.fwRunning = false ∨ p.val ∉ s.fwd.linkDownRemoval) :
    execLinkDownFdbRemoval p s = .next s := by
  rcases h with h | h <;> simp [execLinkDownFdbRemoval, h]

theorem execFrerResetTimeout_resets {f : Fin 1024} (h : (s.frerSt f).passed ≠ []) :
    execFrerResetTimeout f s = .next (State.incFrer
      ((s.timeTo (strandPlus (s.frerSt f).lastPass (msC (bitsOf (s.entry (oFrer f)) 31 16)))).setFrer f {}) f 4) := by
  simp only [execFrerResetTimeout, List.isEmpty_eq_false_iff.2 h, Bool.false_eq_true, if_false]

theorem execFrerResetTimeout_none {f : Fin 1024} (h : (s.frerSt f).passed = []) : execFrerResetTimeout f s = .next s := by
  simp only [execFrerResetTimeout, h, List.isEmpty_nil, if_true]

theorem execTableEccRepair_rewrites {c : Nat} {l : List Nat} {v : State} (h : s.fwd.badEntries = c :: l ∧ s.fwRunning = true)
    (hv : v = if c / 2 ^ 24 = 0 ∧ s.par (oFdb (c % 2 ^ 24)) (pidRaw 0) = 0 then s.setLearnt (c % 2 ^ 24) 0 else s) :
    execTableEccRepair s = .next (if l = [] then State.faultFall { v with fwd := { v.fwd with badEntries := l } } 15
      else { v with fwd := { v.fwd with badEntries := l } }) := by
  obtain ⟨hbad, hrun⟩ := h
  subst hv
  simp only [execTableEccRepair, hbad, hrun, Bool.and_eq_true, beq_iff_eq, List.isEmpty_iff, Bool.not_true, Bool.false_eq_true, if_false]

theorem execTableEccRepair_none (h : s.fwd.badEntries = [] ∨ s.fwRunning = false) : execTableEccRepair s = .next s := by
  cases hbad : s.fwd.badEntries with
  | nil => simp only [execTableEccRepair, hbad]
  | cons c l =>
    have hstopped : s.fwRunning = false := h.resolve_left (by simp [hbad])
    simp only [execTableEccRepair, hbad, hstopped, Bool.not_false, if_true]

end

/-- Settles O32: each command by the condition under which it takes effect; the comparison by the mode it is made in, and learning by
the way that the key takes. -/
theorem decisionCommandsComplete : Obligations.DecisionCommandsComplete := by
  unfold Obligations.DecisionCommandsComplete
  exact ⟨fun _ _ _ _ _ _ => execTwinDecision_waiting, fun u _ => execTwinDecision_none u, fun _ _ _ _ => ⟨rfl, rfl⟩,
    fun _ _ _ _ _ => State.twin_normal, fun _ _ _ _ _ _ => State.twin_fallback,
    fun _ _ _ => execShadowIntervalEnd_runs, fun _ => execShadowIntervalEnd_none,
    fun _ _ _ _ _ _ _ _ => execCellWrite_owned, fun _ _ _ _ _ _ _ => execCellWrite_noDesc, fun _ _ => execCellWrite_none,
    fun _ _ _ => execLearnRecordProcess_pops, fun _ => execLearnRecordProcess_none,
    fun _ _ _ _ _ => State.learnFrom_atLimit, fun _ _ _ _ _ _ => State.learnFrom_held, fun _ _ _ _ _ _ _ _ => State.learnFrom_new,
    fun _ => execAgeingVisit_ages, fun _ => execAgeingVisit_off,
    fun _ _ => execLinkDownFdbRemoval_down, fun _ _ => execLinkDownFdbRemoval_none,
    fun _ _ => execFrerResetTimeout_resets, fun _ _ => execFrerResetTimeout_none,
    fun _ _ _ _ => execTableEccRepair_rewrites, fun _ => execTableEccRepair_none⟩

end Sys2Proof.Machine

/-! O13: QOS.GATE_LIST_SET with its list in a bulk buffer. What the draft then takes is the list (R93, log entry 16), while the statement
asks for room for the request's payload, which is the bulk descriptor alone: a list that is longer than its descriptor may find no room
where the descriptor would. -/

namespace Sys2Proof.Machine

-- One theorem at a time: those that wait for the kernel would each hold a thread with its whole stack.
set_option Elab.async false

section
variable {c : Ctx} {u v : State} {b : Bulk} {p : List Byte} {d : Draft}

/-! ### How a list in range is staged (R320) -/

/-- The changes of QOS.GATE_LIST_SET: the seven values of the admin list that the payload `p` holds. -/
def gateListChanges (p : List Byte) : List (Nat × Nat) :=
  [(pkey (orefOf p).key (pidRaw 0), leAt p 8 1), (pkey (orefOf p).key (pidRaw 1), leAt p 0x0A 2),
    (pkey (orefOf p).key (pidRaw 2), leAt p 0x0C 4), (pkey (orefOf p).key (pidRaw 3), leAt p 0x10 8),
    (pkey (orefOf p).key (pidRaw 4), leAt p 0x18 4), (pkey (orefOf p).key (pidRaw 5), leAt p 0x20 8),
    (pkey (orefOf p).key (pidRaw 6), leVal (sliceB p 0x28 (8 * leAt p 0x0A 2)))]

/-- The payload names a gate, and holds as many entries as it counts, none only where the list is off. -/
abbrev GateListSized (p : List Byte) : Prop :=
  (orefOf p).typ = 0x14 ∧ leAt p 0x0A 2 ≤ 1024 ∧ (leAt p 0x0A 2 = 0 → leAt p 8 1 = 0) ∧ p.length = 40 + 8 * leAt p 0x0A 2

/-- The header and every entry are in range. -/
abbrev GateListInRange (p : List Byte) : Prop :=
  gateHeadOk p = true ∧ ∀ i, i < leAt p 0x0A 2 → gateEntryOk (leAt p (0x28 + 8 * i) 8) = true

theorem State.gateListSet_stages (hsize : GateListSized p) (hrange : GateListInRange p)
    (hfree : u.locked c.client [lockOf (pkey (orefOf p).key (pidRaw 0))] = false) :
    u.gateListSet c p = u.stage { c with payload := p } (gateListChanges p) := by
  obtain ⟨htyp, hmax, hempty, hlen⟩ := hsize
  obtain ⟨hhead, hentries⟩ := hrange
  have hoff : (leAt p 0x0A 2 == 0 && leAt p 8 1 != 0) = false := by simpa using hempty
  have hall : (List.range (leAt p 0x0A 2)).all (fun i => gateEntryOk (leAt p (0x28 + 8 * i) 8)) = true := by simpa using hentries
  simp only [State.gateListSet, htyp, hfree, hlen, hhead, hoff, hall, gt_iff_lt, Nat.not_lt.2 hmax, bne_self_eq_false, decide_false,
    Bool.not_true, Bool.or_false, Bool.false_eq_true, if_false]
  rfl

/-- The request's bulk buffer is read, and gives a list `p` whose OREF is one of the command's. -/
abbrev State.bulkList (u : State) (c : Ctx) (b : Bulk) (p : List Byte) (v : State) : Prop :=
  c.bulk = some b ∧ b.ok [0] = true ∧ u.bulkRead c b = (some p, v) ∧ v.orefBad c p = none

theorem bodyGateListSet_bulk (hbulk : u.bulkList c b p v) (hlen : 40 ≤ p.length) : bodyGateListSet c u = v.gateListSet c p := by
  obtain ⟨hbulk, hok, hread, hobj⟩ := hbulk
  simp only [bodyGateListSet, hbulk, hok, hread, hobj, Nat.not_lt.2 hlen, Bool.not_true, Bool.false_eq_true, if_false]

/-! ### A list for which there is no room (R93) -/

theorem State.stage_full {ch : List (Nat × Nat)} (hd : u.draft c.client c.txn = some d)
    (hfree : u.locked c.client (ch.map fun kv => lockOf kv.1) = false) (hfull : u.draftRoom c = false) :
    u.stage c ch = u.answer stTxnLimit := by
  simp only [State.stage, hd, hfree, hfull, Bool.not_false, Bool.false_eq_true, if_false, if_true]

/-- A list in a bulk buffer for which there is no room is answered TXN_LIMIT, whatever room the request's own payload finds. -/
theorem execQosGateListSet_bulkFull {q : Req} {s : State} (h : s.accepts 0x0A10 q = true)
    (hbulk : (s.served 0x0A10 q).bulkList (s.ctx 0x0A10 q) b p v) (hsize : GateListSized p) (hrange : GateListInRange p)
    (hd : v.draft (s.ctx 0x0A10 q).client (s.ctx 0x0A10 q).txn = some d)
    (hlock : v.locked (s.ctx 0x0A10 q).client [lockOf (pkey (orefOf p).key (pidRaw 0))] = false)
    (hfree : v.locked (s.ctx 0x0A10 q).client ((gateListChanges p).map fun kv => lockOf kv.1) = false)
    (hfull : v.draftRoom { s.ctx 0x0A10 q with payload := p } = false) :
    execQosGateListSet q s = .next (v.finish 0x0A10 q ⟨stTxnLimit, [], 0, 0⟩) := by
  have hlen : 40 ≤ p.length := hsize.2.2.2 ▸ Nat.le_add_right 40 _
  have hbody := (bodyGateListSet_bulk hbulk hlen).trans (State.gateListSet_stages hsize hrange hlock)
  exact congrArg _ (State.request_finish h (hbody.trans
    (State.stage_full (c := { s.ctx 0x0A10 q with payload := p }) hd hfree hfull)))

end

/-! ### The counterexample -/

/-- An admin list of one entry for the gate of Channel 2. -/
def oneEntryList : List Byte :=
  [20, 0, 255, 2, 255, 255, 255, 255, 1, 0, 1, 0, 0, 0, 0, 0, 0, 0, 0, 0, 0, 0, 0, 0, 0, 0, 0, 0, 0, 0, 0, 0,
    0xE8, 3, 0, 0, 0, 0, 0, 0, 1, 0, 0, 0, 5, 0, 0, 0]

/-- A draft of client 0 that leaves 16 bytes of the storage: room for a bulk descriptor, and for no gate list. -/
def crowdedDraft : Draft := ⟨7, 0, 0, 8388592, []⟩

/-- Firmware runs, the host link is up, host memory holds the list, and `crowdedDraft` is open. -/
def crowdedState : State :=
  { regs := [(0x40, 0x8)], gci := { drafts := [crowdedDraft] }, pcie := { linkUp := true, busMaster := true },
    host := memWrites [] 0 oneEntryList }

/-- QOS.GATE_LIST_SET under `crowdedDraft`, with the list in a bulk buffer at host address 0. -/
def bulkListReq : Req := ⟨0, 1, 1, 0, 16, 7, 0, zeros 8 ++ leBytes 4 48 ++ zeros 4⟩

/-- The state after the list has been read from host memory. -/
def crowdedRead : State :=
  ((crowdedState.served 0x0A10 bulkListReq).bulkRead (crowdedState.ctx 0x0A10 bulkListReq) (bulkAt bulkListReq.payload 0)).2

theorem accepts_bulkListReq : crowdedState.accepts 0x0A10 bulkListReq = true := by decide +kernel

theorem bulkList_bulkListReq : (crowdedState.served 0x0A10 bulkListReq).bulkList (crowdedState.ctx 0x0A10 bulkListReq)
    (bulkAt bulkListReq.payload 0) oneEntryList crowdedRead :=
  ⟨by decide +kernel, by decide +kernel, Prod.ext (by decide +kernel) rfl, by decide +kernel⟩

theorem oneEntryList_ok : GateListSized oneEntryList ∧ GateListInRange oneEntryList := by decide +kernel

theorem crowdedRead_draft : crowdedRead.draft (crowdedState.ctx 0x0A10 bulkListReq).client
    (crowdedState.ctx 0x0A10 bulkListReq).txn = some crowdedDraft := by decide +kernel

/-- No lock is in the way, and the storage has room for the descriptor, but not for the list. -/
theorem crowdedRead_room :
    crowdedRead.locked (crowdedState.ctx 0x0A10 bulkListReq).client [lockOf (pkey (orefOf oneEntryList).key (pidRaw 0))] = false ∧
    crowdedRead.locked (crowdedState.ctx 0x0A10 bulkListReq).client ((gateListChanges oneEntryList).map fun kv => lockOf kv.1) = false ∧
    crowdedRead.draftRoom (crowdedState.ctx 0x0A10 bulkListReq) = true ∧
    crowdedRead.draftRoom { crowdedState.ctx 0x0A10 bulkListReq with payload := oneEntryList } = false := by
  decide +kernel

/-- Refutes O13: a gate list in a bulk buffer, of 48 bytes where 16 are left of the draft storage, is answered TXN_LIMIT, as R93 says,
and leaves the draft; the statement, which asks for room for the 16 bytes of its descriptor alone, has it staged. -/
theorem not_qosCommandsComplete : ¬ Obligations.QosCommandsComplete := by
  unfold Obligations.QosCommandsComplete
  rintro ⟨-, hbulkClause, -⟩
  obtain ⟨hsize, hrange⟩ := oneEntryList_ok
  obtain ⟨hlock, hfree, hroom, hfull⟩ := crowdedRead_room
  have hclaim := hbulkClause bulkListReq crowdedState _ _ _ _ _ _ _ _ rfl rfl accepts_bulkListReq bulkList_bulkListReq hsize hrange rfl
    rfl crowdedRead_draft ⟨hlock, hfree, hroom⟩
  have hrefused := execQosGateListSet_bulkFull accepts_bulkListReq bulkList_bulkListReq hsize hrange crowdedRead_draft hlock hfree hfull
  have hbytes := congrArg (fun s : State => s.gci.drafts.map Draft.bytes) (Host.Outcome.next.inj (hclaim.symm.trans hrefused))
  exact absurd hbytes (by decide +kernel)

end Sys2Proof.Machine

/-! O40: the feeder, dispatch, signal timeouts and PDU timers, each command by the condition under which it takes effect. -/

namespace Sys2Proof.Machine

-- One theorem at a time: those that wait for the kernel would each hold a thread with its whole stack.
set_option Elab.async false

section
variable {s : State}

/-! ### Feeder and dispatch (R284, R285) -/

section
variable {u : Fin 7}

theorem execSgeFeederMove_moves {q d : Nat} {v w : State} {b : Bool}
    (hserves : s.feederQueue = some q ∧ s.getF SgeStatus.modeActive ≠ 2)
    (hread : s.dequeue q = some (d, v) ∧ (b, w) = v.readWhole d u) :
    execSgeFeederMove u s = .next (if b then w.feederTake d else w.releaseCopy d) := by
  obtain ⟨hqueue, hmode⟩ := hserves
  obtain ⟨hcopy, hread⟩ := hread
  simp only [execSgeFeederMove, hqueue, hcopy, ← hread, beq_eq_false_iff_ne.2 hmode, Bool.false_eq_true, if_false]
  cases b <;> rfl

theorem execSgeFeederMove_none
    (h : s.feederQueue = none ∨ s.getF SgeStatus.modeActive = 2 ∨ ∃ q, s.feederQueue = some q ∧ s.dequeue q = none) :
    execSgeFeederMove u s = .next s := by
  rcases h with hqueue | hmode | ⟨q, hqueue, hcopy⟩
  · simp only [execSgeFeederMove, hqueue]
  · cases hqueue : s.feederQueue <;> simp only [execSgeFeederMove, hqueue, hmode, beq_self_eq_true, if_true]
  · simp only [execSgeFeederMove, hqueue, hcopy, ite_self]

end

section
variable {e : Fin 16}

theorem execSgeDispatch_takes {j : SgeJob} (hfree : s.executor e = none ∧ s.getF SgeStatus.modeActive ≠ 2)
    (hjob : s.nextJob = some j) : execSgeDispatch e s = .next (s.dispatchJob e j) := by
  obtain ⟨hidle, hmode⟩ := hfree
  simp only [execSgeDispatch, hidle, hjob, beq_eq_false_iff_ne.2 hmode, Option.isSome_none, Bool.or_false, Bool.false_eq_true, if_false]

theorem execSgeDispatch_none (h : s.executor e ≠ none ∨ s.getF SgeStatus.modeActive = 2 ∨ s.nextJob = none) :
    execSgeDispatch e s = .next s := by
  rcases h with hbusy | hmode | hjob
  · simp only [execSgeDispatch, Option.isSome_iff_ne_none.2 hbusy, Bool.true_or, if_true]
  · simp only [execSgeDispatch, hmode, beq_self_eq_true, Bool.or_true, if_true]
  · simp only [execSgeDispatch, hjob, ite_self]

end

/-! ### Signal timeouts (R294) -/

theorem execSignalTimeoutScan_scans (hmode : s.getF SgeStatus.modeActive ≠ 2) :
    execSignalTimeoutScan s = .next ((s.listed 0x10 pidEntry).foldl (fun v kv =>
      if sgTimeout kv.2 ≠ 0 ∧ (v.signal kv.1).timedOut = false ∧ msC (sgTimeout kv.2) < strandDiff v.strand (v.signal kv.1).stamp
      then v.signalTimeout kv.1 kv.2 else v) s) := by
  simp only [execSignalTimeoutScan, beq_eq_false_iff_ne.2 hmode, Bool.and_eq_true, bne_iff_ne, Bool.not_eq_true', decide_eq_true_eq,
    gt_iff_lt, and_assoc, Bool.false_eq_true, if_false]

theorem execSignalTimeoutScan_none (hmode : s.getF SgeStatus.modeActive = 2) : execSignalTimeoutScan s = .next s := by
  simp only [execSignalTimeoutScan, hmode, beq_self_eq_true, if_true]

/-! ### PDU timers (R300) -/

section
variable {t : Fin 8192} {b p d : Nat}

/-- In a mode other than 2 a timer with a boundary fires as what it is. -/
theorem execPduTimerRelease_fires (hdue : (s.timer t).next = some b ∧ s.timerPdu t = some (p, d))
    (hmode : s.getF SgeStatus.modeActive ≠ 2) :
    execPduTimerRelease t s = .next (if (s.timer t).aligned then s.timerAligned t (s.par (oTimer t) 0x0100) (s.par (oTimer t) 0x0101) b p d
      else if s.pduAsleep d then s else s.timerFree t (s.par (oTimer t) 0x0100) (s.par (oTimer t) 0x0101) b p d) := by
  obtain ⟨hnext, hpdu⟩ := hdue
  simp only [execPduTimerRelease, hnext, hpdu, beq_eq_false_iff_ne.2 hmode, Bool.false_eq_true, if_false]

theorem execPduTimerRelease_aligned (hdue : (s.timer t).next = some b ∧ s.timerPdu t = some (p, d))
    (h : s.getF SgeStatus.modeActive ≠ 2 ∧ (s.timer t).aligned = true) :
    execPduTimerRelease t s = .next (s.timerAligned t (s.par (oTimer t) 0x0100) (s.par (oTimer t) 0x0101) b p d) :=
  (execPduTimerRelease_fires hdue h.1).trans (congrArg _ (if_pos h.2))

theorem execPduTimerRelease_free (hdue : (s.timer t).next = some b ∧ s.timerPdu t = some (p, d))
    (h : s.getF SgeStatus.modeActive ≠ 2 ∧ (s.timer t).aligned = false) :
    execPduTimerRelease t s = .next (if s.pduAsleep d then s
      else s.timerFree t (s.par (oTimer t) 0x0100) (s.par (oTimer t) 0x0101) b p d) :=
  (execPduTimerRelease_fires hdue h.1).trans (congrArg _ (if_neg (Bool.eq_false_iff.1 h.2)))

theorem execPduTimerRelease_none (h : (s.timer t).next = none ∨ s.timerPdu t = none ∨ s.getF SgeStatus.modeActive = 2) :
    execPduTimerRelease t s = .next s := by
  cases hnext : (s.timer t).next with
  | none => simp only [execPduTimerRelease, hnext]
  | some b =>
    cases hpdu : s.timerPdu t with
    | none => simp only [execPduTimerRelease, hnext, hpdu]
    | some pd =>
      have hmode : s.getF SgeStatus.modeActive = 2 := by simpa [hnext, hpdu] using h
      simp only [execPduTimerRelease, hnext, hpdu, hmode, beq_self_eq_true, if_true]

end

/-! ### The end of MIN_GAP (R299) -/

section
variable {p : Fin 16384}

theorem execMinGapEnd_releases {t : Nat} {v : State} (h : (s.pdu p).lastDispatch = some t ∧ (s.pdu p).deferred = true)
    (hv : v = s.timeTo (strandPlus t (usC (pdMinGap (s.entry (oPdu p)) * 100)))) :
    execMinGapEnd p s = .next (State.feltRelease (v.setPdu p { v.pdu p with deferred := false }) p) := by
  obtain ⟨hlast, hdeferred⟩ := h
  subst hv
  simp only [execMinGapEnd, hlast, hdeferred, Bool.not_true, Bool.false_eq_true, if_false]

theorem execMinGapEnd_none (h : (s.pdu p).lastDispatch = none ∨ (s.pdu p).deferred = false) : execMinGapEnd p s = .next s := by
  cases hlast : (s.pdu p).lastDispatch with
  | none => simp only [execMinGapEnd, hlast]
  | some t =>
    have hdeferred : (s.pdu p).deferred = false := h.resolve_left (by simp [hlast])
    simp only [execMinGapEnd, hlast, hdeferred, Bool.not_false, if_true]

end

end

/-- Settles O40: each command by the equation of its case. -/
theorem sgeSchedulingComplete : Obligations.SgeSchedulingComplete := by
  unfold Obligations.SgeSchedulingComplete
  exact ⟨fun _ _ _ _ _ _ _ => execSgeFeederMove_moves, fun _ _ => execSgeFeederMove_none,
    fun _ _ _ => execSgeDispatch_takes, fun _ _ => execSgeDispatch_none,
    fun _ => execSignalTimeoutScan_scans, fun _ => execSignalTimeoutScan_none,
    fun _ _ _ _ _ => execPduTimerRelease_aligned, fun _ _ _ _ _ => execPduTimerRelease_free, fun _ _ => execPduTimerRelease_none,
    fun _ _ _ _ => execMinGapEnd_releases, fun _ _ => execMinGapEnd_none⟩

end Sys2Proof.Machine

/-! O12: the commands of the SIG class. -/

namespace Sys2Proof.Machine

-- One theorem at a time: those that wait for the kernel would each hold a thread with its whole stack.
set_option Elab.async false

section
variable {c : Ctx} {u : State}

/-! ### Programs, PDUs and signals (R291, R292, R296) -/

/-- The request names `n` entries of a table: one to `max` of them, `size` bytes each, all below the table's end `top`. -/
abbrev Ctx.NamesEntries (c : Ctx) (typ top max size n : Nat) : Prop :=
  (orefOf c.payload).typ = typ ∧ 1 ≤ n ∧ n ≤ max ∧ n = leAt c.payload 8 2 ∧ c.payload.length = 12 + size * n ∧
    leAt c.payload 10 2 = 0 ∧ (orefOf c.payload).idx + n ≤ top

/-- The changes of a command that stages table entries: those from the OREF's index on, with the values of the payload. -/
def Ctx.entryChanges (c : Ctx) (typ pid size n : Nat) : List (Nat × Nat) :=
  (List.range n).map fun i => (pkey (oIdx typ ((orefOf c.payload).idx + i)) pid, leAt c.payload (12 + size * i) size)

theorem State.tableSet_stages {typ top max pid size n : Nat} {ok : Nat → Bool} (hnames : c.NamesEntries typ top max size n)
    (hvals : ∀ i, i < n → ok (leAt c.payload (12 + size * i) size) = true)
    (hlock : u.locked c.client ((c.entryChanges typ pid size n).map fun kv => lockOf kv.1) = false) :
    u.tableSet c typ top max pid size ok = u.stage c (c.entryChanges typ pid size n) := by
  obtain ⟨htyp, hmin, hmax, hn, hlen, hres, hend⟩ := hnames
  have hrange : (c.entryChanges typ pid size n).any (fun kv => !ok kv.2) = false := by simpa [Ctx.entryChanges] using hvals
  unfold Ctx.entryChanges at hlock hrange ⊢
  simp only [State.tableSet, ← hn, htyp, hlen, hlock, hres, hrange, gt_iff_lt, Nat.not_lt.2 hmin, Nat.not_lt.2 hmax,
    Nat.not_lt.2 hend, bne_self_eq_false, decide_false, Bool.or_false, Bool.false_eq_true, if_false]

/-! ### Signals read and injected (R295) -/

theorem bodySignalRead_slots (h : (orefOf c.payload).typ = 0x10 ∧ 1 ≤ leAt c.payload 8 2 ∧ leAt c.payload 8 2 ≤ 62 ∧
    (orefOf c.payload).idx + leAt c.payload 8 2 ≤ 65536) :
    bodySignalRead c u = u.answer stDone
      ((List.range (leAt c.payload 8 2)).flatMap fun i => (u.signal ((orefOf c.payload).idx + i)).bytes) := by
  obtain ⟨htyp, hmin, hmax, hend⟩ := h
  simp only [bodySignalRead, htyp, gt_iff_lt, Nat.not_lt.2 hmin, Nat.not_lt.2 hmax, Nat.not_lt.2 hend, bne_self_eq_false,
    decide_false, Bool.or_false, Bool.false_eq_true, if_false]

/-- The value that SIG.SIGNAL_INJECT gives signal `k`: extended from WIDTH as R293 keeps it, where the signal is defined. -/
def State.injectedValue (u : State) (c : Ctx) (k : Nat) : Nat :=
  if sgDefined (u.entry (oSignal k)) then
    extend64 (sgSigned (u.entry (oSignal k))) (sgWidth (u.entry (oSignal k))) (leAt c.payload 8 8)
  else leAt c.payload 8 8

/-- The slot of signal `k` as SIG.SIGNAL_INJECT writes it: an accepted write now, with INJECTED set. -/
def State.injected (u : State) (c : Ctx) (k : Nat) : Signal :=
  { value := u.injectedValue c k, stamp := u.strand, valid := true, updated := true, injected := true,
    seq := ((u.signal k).seq + 1) % 256 }

theorem bodySignalInject_writes {k : Nat} (h : k = (orefOf c.payload).idx ∧ (orefOf c.payload).typ = 0x10) :
    bodySignalInject c u = (u.setSignal k (u.injected c k)).answer stDone := by
  obtain ⟨rfl, htyp⟩ := h
  simp only [bodySignalInject, htyp, bne_self_eq_false, Bool.false_eq_true, if_false]
  rfl

/-! ### The admission figures (R305) -/

theorem bodyAdmission_kind {k : Nat} (h : (u.withDraft c).admission.kind = some k) :
    bodyAdmission c u = u.answer stDone (leBytes 4 (ofSigned 32 ((u.withDraft c).admission.slack.fdiv 64)) ++
      orefBytes (keyOref u.ownDeck (oProgram k)) ++ admissionTail (u.withDraft c).admission) := by
  simp only [bodyAdmission, h]

theorem bodyAdmission_noKind (h : (u.withDraft c).admission.kind = none) :
    bodyAdmission c u = State.answer { u with freeCount := u.freeCount + 1 } stDone
      (leBytes 12 (Config.freeValue u.freeCount) ++ admissionTail (u.withDraft c).admission) := by
  simp only [bodyAdmission, h, State.draw]

end

/-- Settles O12: each command by its body's equation. -/
theorem sigCommandsComplete : Obligations.SigCommandsComplete := by
  unfold Obligations.SigCommandsComplete
  refine ⟨?program, ?pdu, ?signal, ?read, ?inject, ?admission, ?admissionNone⟩
  case program =>
    rintro q s _ _ n _ d rfl rfl h hnames rfl hvals hd hfree
    exact congrArg _ (State.request_stages h (State.tableSet_stages hnames hvals hfree.1) hd hfree)
  case pdu =>
    rintro q s _ _ n _ d rfl rfl h hnames rfl hvals hd hfree
    exact congrArg _ (State.request_stages h (State.tableSet_stages hnames hvals hfree.1) hd hfree)
  case signal =>
    rintro q s _ _ n _ d rfl rfl h hnames rfl hvals hd hfree
    exact congrArg _ (State.request_stages h (State.tableSet_stages hnames hvals hfree.1) hd hfree)
  case read =>
    rintro q s _ _ rfl rfl h hnames
    exact congrArg _ (State.request_query h (bodySignalRead_slots hnames))
  case inject =>
    rintro q s _ _ k _ rfl rfl h hsig rfl
    exact congrArg _ (State.request_done h (bodySignalInject_writes hsig) (Quiet.of_regs rfl))
  case admission =>
    rintro q s _ _ _ k rfl rfl h rfl hkind
    exact congrArg _ (State.request_query h (bodyAdmission_kind hkind))
  case admissionNone =>
    rintro q s _ _ _ _ rfl rfl h rfl hkind rfl
    exact congrArg _ (State.request_done h (bodyAdmission_noKind hkind) (Quiet.of_regs rfl))

end Sys2Proof.Machine

/-! O39: the instructions of the signal gateway engine. Each is a step of its executor, which the job of the executor and the opcode at
its program counter decide. -/

namespace Sys2Proof.Machine

-- One theorem at a time: those that wait for the kernel would each hold a thread with its whole stack.
set_option Elab.async false

section
variable {s : State} {e : Fin 16} {b : Bool} {op : Nat} {r : Running}

/-! ### A step of an executor (R288, R291) -/

section
variable {f : Running → Nat → State}

theorem State.sgeStep_runs {w : Nat} (hjob : b = false ∧ s.executor e = some r) (hins : w = s.instr r.old r.pc ∧ insOp w = op) :
    s.sgeStep e op b f = f r w := by
  obtain ⟨rfl, hjob⟩ := hjob
  obtain ⟨rfl, rfl⟩ := hins
  simp only [State.sgeStep, hjob, bne_self_eq_false, Bool.false_eq_true, if_false]

/-- An uncorrectable error of the instruction ends the job short (R291). -/
theorem State.sgeStep_error (h : b = true ∧ s.executor e = some r ∧ insOp (s.instr r.old r.pc) = op) :
    s.sgeStep e op b f = State.jobEnd (((s.incSge 13).sgeEvent 3 r.pc).faultRise 5 r.pc) e r false := by
  obtain ⟨rfl, hjob, rfl⟩ := h
  simp only [State.sgeStep, hjob, bne_self_eq_false, Bool.false_eq_true, if_false, if_true]

theorem State.sgeStep_none (h : s.executor e = none ∨ ∃ r, s.executor e = some r ∧ insOp (s.instr r.old r.pc) ≠ op) :
    s.sgeStep e op b f = s := by
  rcases h with hidle | ⟨r, hjob, hother⟩
  · simp only [State.sgeStep, hidle]
  · simp only [State.sgeStep, hjob, bne_iff_ne.2 hother, if_true]

end

/-! ### The instructions and their opcodes -/

/-- The engine's instructions with the opcodes that R288 gives them. -/
def sgeInstrs (e : Fin 16) (b : Bool) : List (Instr × Nat) :=
  [(.sgeEnd e b, 0), (.sgeUnpack e b, 1), (.sgePack e b, 2), (.sgeCheck e b, 3), (.sgeMatch e b, 4), (.sgeJump e b, 5),
    (.sgePackk e b, 6), (.sgeEntry e b, 7), (.sgeTrig e b, 8)]

/-- Each instruction is a step of its executor at its opcode. -/
theorem exec_sgeInstr {i : Instr} (h : (i, op) ∈ sgeInstrs e b) : ∃ f, exec i s = .next (s.sgeStep e op b f) := by
  simp only [sgeInstrs, List.mem_cons, List.not_mem_nil, or_false, Prod.mk.injEq] at h
  casesm* _ ∨ _ <;> obtain ⟨rfl, rfl⟩ := h <;> exact ⟨_, rfl⟩

theorem exec_sgeInstr_error {i : Instr} (hi : (i, op) ∈ sgeInstrs e b)
    (h : b = true ∧ s.executor e = some r ∧ insOp (s.instr r.old r.pc) = op) :
    exec i s = .next (State.jobEnd (((s.incSge 13).sgeEvent 3 r.pc).faultRise 5 r.pc) e r false) := by
  obtain ⟨f, hf⟩ := exec_sgeInstr hi
  rw [hf, State.sgeStep_error h]

theorem exec_sgeInstr_none {i : Instr} (hi : (i, op) ∈ sgeInstrs e b)
    (h : s.executor e = none ∨ ∃ r, s.executor e = some r ∧ insOp (s.instr r.old r.pc) ≠ op) : exec i s = .next s := by
  obtain ⟨f, hf⟩ := exec_sgeInstr hi
  rw [hf, State.sgeStep_none h]

end

/-- Settles O39: at its own opcode an instruction takes its effect; an error's effect, and when nothing changes, are the same for all. -/
theorem sgeInstructionsComplete : Obligations.SgeInstructionsComplete := by
  unfold Obligations.SgeInstructionsComplete
  refine ⟨?_, ?_, ?pack, ?_, ?_, ?_, ?_, ?_, ?_, fun _ _ _ _ _ _ => exec_sgeInstr_error,
    fun _ _ _ _ _ => exec_sgeInstr_none⟩
  case pack =>
    rintro e b s r w _ _ hjob hins ⟨rfl, rfl⟩
    exact congrArg _ (State.sgeStep_runs hjob hins)
  all_goals exact fun _ _ _ _ _ hjob hins => congrArg _ (State.sgeStep_runs hjob hins)

end Sys2Proof.Machine

/-! O14: the commands of the TIME class. -/

namespace Sys2Proof.Machine

-- One theorem at a time: those that wait for the kernel would each hold a thread with its whole stack.
set_option Elab.async false

section
variable {c : Ctx} {u : State}

theorem bodyWorkingSelect_locked {k : Nat}
    (h : k = (orefOf c.payload).idx ∧ k ≤ 1 ∧ (orefOf c.payload).typ = 0x18 ∧ leAt c.payload 8 4 ≤ 1)
    (hlocked : u.domainState k = dsLocked) :
    bodyWorkingSelect c u =
      State.answer ((u.setWork { u.time.work with primary := some k }).workSwitch k (bitOf (leAt c.payload 8 4) 0)) stDone := by
  obtain ⟨rfl, hidx, htyp, hflags⟩ := h
  simp only [bodyWorkingSelect, htyp, hlocked, gt_iff_lt, Nat.not_lt.2 hidx, Nat.not_lt.2 hflags, bne_self_eq_false, decide_false,
    Bool.or_false, Bool.false_eq_true, if_false]

theorem bodyOutputSet_inRange (htyp : (orefOf c.payload).typ = 0x19) (hrange : outputBad c.payload = false) :
    bodyOutputSet c u =
      u.stage c ((outputVals c.payload).zipIdx.map fun x => (pkey (orefOf c.payload).key (pidRaw x.2), x.1)) := by
  simp only [bodyOutputSet, htyp, hrange, bne_self_eq_false, Bool.false_eq_true, if_false]

/-- What TIME.CAPTURE_READ of `n` records answers from the capture input `v` (R356). -/
def State.captureAnswer (u : State) (o : Nat) (v : CaptureSt) (n : Nat) : List Byte :=
  leBytes 2 (v.recs.take n).length ++ leBytes 2 (min v.dropsSince 65535) ++ zeros 4 ++
    (v.recs.take n).flatMap (u.captureBytes (u.par o 0x0101))

theorem bodyCaptureRead_takes {v : CaptureSt}
    (h : (orefOf c.payload).typ = 0x1A ∧ 1 ≤ leAt c.payload 8 4 ∧ leAt c.payload 8 4 ≤ 16)
    (hv : v = u.capture (orefOf c.payload).idx) :
    bodyCaptureRead c u = State.answer (u.setCapture (orefOf c.payload).idx
      { v with recs := v.recs.drop (leAt c.payload 8 4), dropsSince := 0 }) stDone
      (u.captureAnswer (orefOf c.payload).key v (leAt c.payload 8 4)) := by
  obtain ⟨htyp, hmin, hmax⟩ := h
  subst hv
  simp only [bodyCaptureRead, htyp, gt_iff_lt, Nat.not_lt.2 hmin, Nat.not_lt.2 hmax, bne_self_eq_false, decide_false, Bool.or_false,
    Bool.false_eq_true, if_false]
  rfl

end

/-- Settles O14: each command by its body's equation. -/
theorem timeCommandsComplete : Obligations.TimeCommandsComplete := by
  unfold Obligations.TimeCommandsComplete
  refine ⟨?domainSet, ?status, ?select, ?outputSet, ?captureRead⟩
  case domainSet =>
    rintro q s _ _ es _ d rfl rfl h hes - hgood rfl hd ⟨hlock, hroom⟩
    have hlocks := hlock
    rw [List.map_map] at hlocks
    exact congrArg _ (State.request_stages h (bodySet_inRange hes hgood hlocks) hd ⟨hlock, hroom⟩)
  case status =>
    rintro q s _ _ rfl rfl h
    exact congrArg _ (State.request_query h rfl)
  case select =>
    rintro q s _ _ k rfl rfl h hnames hlocked
    exact congrArg _ (State.request_finish h (bodyWorkingSelect_locked hnames hlocked))
  case outputSet =>
    rintro q s _ _ _ d rfl rfl h htyp hrange rfl hd hfree
    exact congrArg _ (State.request_stages h (bodyOutputSet_inRange htyp hrange) hd hfree)
  case captureRead =>
    rintro q s _ _ v _ rfl rfl h hnames hv rfl
    exact congrArg _ (State.request_done h (bodyCaptureRead_takes hnames hv) (Quiet.of_regs rfl))

end Sys2Proof.Machine

/-! O34: gPTP, the working clock, conversion, timed outputs and captures, each command by the condition under which it takes effect. -/

namespace Sys2Proof.Machine

-- One theorem at a time: those that wait for the kernel would each hold a thread with its whole stack.
set_option Elab.async false

/-! ### gPTP messages (R341, R343) -/

section
variable {s : State} {p : Fin 12} (n : BitVec 7) (k : Fin 6) (a : BitVec 48) (b : BitVec 96)

theorem execGptpMessageReceive_up (h : s.flag (PortStatus.linkUp p) = true) :
    execGptpMessageReceive p n k a b s = .next (s.gptpIn p n.toNat k a.toNat b.toNat) := by
  simp only [execGptpMessageReceive, h, Bool.not_true, Bool.false_eq_true, if_false]

theorem execGptpMessageReceive_down (h : s.flag (PortStatus.linkUp p) = false) : execGptpMessageReceive p n k a b s = .next s := by
  simp only [execGptpMessageReceive, h, Bool.not_false, if_true]

end

/-- Domain `d` takes the Follow_Up of a two-step Sync that it waits for (R341). -/
def State.followUp (v : State) (d p b : Nat) : State :=
  match (v.domain d).twoStep with
  | none => v
  | some t => (v.setDomain d { v.domain d with twoStep := none }).syncDone d p t b

section
variable {s : State} {p n a b : Nat}

/-- Firmware handles messages: it runs, and is not being switched over (R52). -/
abbrev State.fwListens (s : State) : Prop := s.fwRunning = true ∧ s.getF DeckBootStatus.stage ≠ 11

theorem State.gptpIn_sync (h : s.fwListens) :
    s.gptpIn p n 0 a b = (s.slaveDomains p n).foldl (fun v d => (v.syncArrives d).syncDone d p a b) s := by
  simp only [State.gptpIn, h.1, bne_iff_ne.2 h.2, Bool.and_self, Bool.not_true, beq_self_eq_true, Bool.false_eq_true, if_false, if_true]

theorem State.gptpIn_twoStep (h : s.fwListens) : s.gptpIn p n 1 a b = (s.slaveDomains p n).foldl
    (fun v d => (v.syncArrives d).setDomain d { (v.syncArrives d).domain d with twoStep := some a }) s := by
  simp only [State.gptpIn, h.1, bne_iff_ne.2 h.2, Bool.and_self, Bool.not_true, Bool.false_eq_true, if_false]
  rfl

theorem State.gptpIn_followUp (h : s.fwListens) :
    s.gptpIn p n 2 a b = (s.slaveDomains p n).foldl (fun v d => v.followUp d p b) s := by
  simp only [State.gptpIn, h.1, bne_iff_ne.2 h.2, Bool.and_self, Bool.not_true, Bool.false_eq_true, if_false]
  rfl

theorem State.gptpIn_announce (h : s.fwListens) : s.gptpIn p n 3 a b = (s.slaveDomains p n).foldl
    (fun v d => v.setDomain d { v.domain d with annAt := some (v.annDeadline d), gm := some b }) s := by
  simp only [State.gptpIn, h.1, bne_iff_ne.2 h.2, Bool.and_self, Bool.not_true, Bool.false_eq_true, if_false]

theorem State.gptpIn_pdelayReq (h : s.fwListens) : s.gptpIn p n 4 a b =
    if s.gptpPort p then
      { s with out := .gptp p n 10 (s.localTime p s.strand true) :: .gptp p n 3 (s.localTime p a false) :: s.out }
    else s := by
  simp only [State.gptpIn, h.1, bne_iff_ne.2 h.2, Bool.true_and]

/-- The mean link delay that a Pdelay exchange measures: the request left at `t`, the response came at `a`, and the peer took `b`
(R341). -/
def State.pdelayMean (s : State) (p a b t : Nat) : Int :=
  (((strandDiff a t * nominalInc : Nat) : Int) + s.stampCorr p false - s.stampCorr p true - (b : Int)) / 2

theorem State.gptpIn_pdelayResp {t : Nat} (h : s.fwListens) (hreq : tabGet stampDefault s.time.pdelayT1 p = some t) :
    s.gptpIn p n 5 a b = { s with time := { s.time with
      pdelayT1 := tabSet stampDefault s.time.pdelayT1 p none,
      delay := tabSet delayDefault s.time.delay p (some (s.pdelayMean p a b t)) } } := by
  simp only [State.gptpIn, hreq, h.1, bne_iff_ne.2 h.2, Bool.and_self, Bool.not_true, Bool.false_eq_true, if_false, State.pdelayMean]

theorem State.gptpIn_unasked (hreq : tabGet stampDefault s.time.pdelayT1 p = none) : s.gptpIn p n 5 a b = s := by
  simp only [State.gptpIn, hreq]

/-! ### gPTP messages while firmware does not listen: the hardware watchdog sees every Sync, and nothing else happens -/

variable {k : Nat}

theorem State.fwListens_not (h : s.fwRunning = false ∨ s.getF DeckBootStatus.stage = 11) :
    (s.fwRunning && s.getF DeckBootStatus.stage != 11) = false := by
  rcases h with h | h <;> simp [h]

variable (h : s.fwRunning = false ∨ s.getF DeckBootStatus.stage = 11)
include h

theorem State.gptpIn_deafSync (hk : k ≤ 1) : s.gptpIn p n k a b = (s.slaveDomains p n).foldl (fun v d => v.syncArrives d) s := by
  have hdeaf := State.fwListens_not h
  match k, hk with
  | 0, _ | 1, _ => simp only [State.gptpIn, hdeaf, Bool.not_false, if_true]

theorem State.gptpIn_deafOther (hk : 2 ≤ k) : s.gptpIn p n k a b = s := by
  have hdeaf := State.fwListens_not h
  match k, hk with
  | 2, _ | 3, _ => simp only [State.gptpIn, hdeaf, Bool.not_false, if_true]
  | 4, _ => simp only [State.gptpIn, hdeaf, Bool.false_and, Bool.false_eq_true, if_false]
  | k + 5, _ =>
    cases hreq : tabGet stampDefault s.time.pdelayT1 p with
    | none => simp only [State.gptpIn, hreq]
    | some t => simp only [State.gptpIn, hreq, hdeaf, Bool.not_false, if_true]

end

/-! ### The timers of a domain (R341, R343) -/

section
variable {d : Fin 2} {s v w : State} {t : Nat}

theorem execSyncWatchdogExpiry_due (h : (s.domain d).syncAt = some t)
    (hw : w = (s.timeTo t).setDomain d { (s.timeTo t).domain d with syncAt := none }) :
    execSyncWatchdogExpiry d s =
      .next (if w.domainState d = dsUnlocked ∨ w.domainState d = dsLocked then w.domainSet d dsLost else w) := by
  subst hw
  simp only [execSyncWatchdogExpiry, h, Bool.or_eq_true, beq_iff_eq]

theorem execAnnounceTimeout_due (h : (s.domain d).annAt = some t)
    (hw : w = (s.timeTo t).setDomain d { (s.timeTo t).domain d with annAt := none }) :
    execAnnounceTimeout d s =
      .next (if w.domainState d = dsUnlocked ∨ w.domainState d = dsLocked then w.domainSet d dsLost else w) := by
  subst hw
  simp only [execAnnounceTimeout, h, Bool.or_eq_true, beq_iff_eq]

theorem execSyncWatchdogExpiry_none (h : (s.domain d).syncAt = none) : execSyncWatchdogExpiry d s = .next s := by
  simp only [execSyncWatchdogExpiry, h]

theorem execAnnounceTimeout_none (h : (s.domain d).annAt = none) : execAnnounceTimeout d s = .next s := by
  simp only [execAnnounceTimeout, h]

theorem execSyncInterval_sync (h : (s.domain d).masterAt = some t ∧ v = s.timeTo t)
    (hw : w = v.setDomain d { v.domain d with masterAt := some (v.after (logCycles 1 (v.domPar d 0x0104))) }) :
    execSyncInterval d false s = .next (w.gptpMasters d (w.syncMsgs d 0)) := by
  obtain ⟨ht, rfl⟩ := h
  subst hw
  simp only [execSyncInterval, ht, Bool.false_eq_true, if_false]

theorem execSyncInterval_announce (h : (s.domain d).masterAnn = some t ∧ v = s.timeTo t)
    (hw : w = v.setDomain d { v.domain d with masterAnn := some (v.after (logCycles 1 (v.domPar d 0x0107))) }) :
    execSyncInterval d true s = .next (w.gptpMasters d (w.announceMsgs d)) := by
  obtain ⟨ht, rfl⟩ := h
  subst hw
  simp only [execSyncInterval, ht, if_true]

theorem execSyncInterval_noSync (h : (s.domain d).masterAt = none) : execSyncInterval d false s = .next s := by
  simp only [execSyncInterval, h, Bool.false_eq_true, if_false]

theorem execSyncInterval_noAnnounce (h : (s.domain d).masterAnn = none) : execSyncInterval d true s = .next s := by
  simp only [execSyncInterval, h, if_true]

end

section
variable {p : Fin 12} {s w : State}

theorem execPdelayInterval_port (h : s.gptpPort p = true) (hw : w = State.pdelayArm (s.dueTo (tabFind s.time.pdelayAt p)) p) :
    execPdelayInterval p s = .next (if w.flag (PortStatus.linkUp p) = true ∧ w.switchover = false then
      { w with time := { w.time with pdelayT1 := tabSet stampDefault w.time.pdelayT1 p (some w.strand) }, out := .gptp p 0 2 0 :: w.out }
      else w) := by
  subst hw
  simp only [execPdelayInterval, h, Bool.not_true, Bool.and_eq_true, Bool.not_eq_true', Bool.false_eq_true, if_false]

theorem execPdelayInterval_other (h : s.gptpPort p = false) : execPdelayInterval p s = .next s := by
  simp only [execPdelayInterval, h, Bool.not_false, if_true]

end

/-! ### The working clock and the history (R344, R345, R348) -/

section
variable {s v w : State}

theorem execRevertHoldExpiry_reverts {p : Nat} (h : p = s.primary ∧ s.par (oClock 2) 0x0202 = 1)
    (hsrc : s.getF TimeStatus.source ≠ p ∧ s.getF TimeStatus.source ≠ srcFree ∧ s.domainState p = dsLocked) :
    execRevertHoldExpiry s =
      .next ((s.timeTo (strandPlus (s.domain p).lockedAt (secC (s.par (oClock 2) 0x0203)))).workSwitch p) := by
  obtain ⟨rfl, hmode⟩ := h
  obtain ⟨hother, hfree, hlocked⟩ := hsrc
  simp only [execRevertHoldExpiry, hmode, hlocked, bne_iff_ne.2 hother, bne_iff_ne.2 hfree, beq_self_eq_true, Bool.and_self, if_true]

theorem execRevertHoldExpiry_stays {p : Nat} (hp : p = s.primary)
    (h : s.par (oClock 2) 0x0202 ≠ 1 ∨ s.getF TimeStatus.source = p ∨ s.getF TimeStatus.source = srcFree ∨ s.domainState p ≠ dsLocked) :
    execRevertHoldExpiry s = .next s := by
  subst hp
  rcases h with h | h | h | h <;> simp [execRevertHoldExpiry, h]

theorem execSlewDone_slewing {a : Int} {t d : Nat} (h : s.time.work.slew = some (a, t) ∧ d = s.workRef ∧ v = s.hbTo t)
    (hw : w = ((State.setWork v { v.time.work with slew := none }).setF TimeStatus.slewing 0).timeEvent 4) :
    execSlewDone s = .next (w.clockSet 2 (w.clockNow d) (w.clockInc d)) := by
  obtain ⟨hslew, rfl, rfl⟩ := h
  subst hw
  simp only [execSlewDone, hslew]

theorem execSlewDone_none (h : s.time.work.slew = none) : execSlewDone s = .next s := by
  simp only [execSlewDone, h]

theorem execHistoryEntryWrite_eq (hv : v = s.dueTo s.time.histAt) :
    execHistoryEntryWrite s = .next (State.historyAll { v with time := { v.time with histAt := some (v.after 800000) } }) := by
  subst hv
  rfl

/-! ### Conversion (R349) -/

theorem State.convSelect_go {b : Nat} (hb : b < 256) (hv : v = s.setReg ConvSel.off (BitVec.ofNat 32 b))
    (hw : w = v.setF ConvStatus.busy 1) :
    s.convSelect (b + 256) = if v.flag ConvStatus.busy then v else { w with time := { w.time with
      conv := some (v.after 80, (v.reg ConvStrandLo.off).toNat + v.getF ConvStrandHi.strand * 2 ^ 32, b) } } := by
  have hsel : bitsOf (b + 256) 7 0 = b := by
    simp only [bitsOf]
    omega
  have hgo : bitOf (b + 256) 8 = true := by
    simp only [bitOf, beq_iff_eq]
    omega
  subst hw hv
  simp only [State.convSelect, hsel, hgo, Bool.not_true, Bool.false_or]
  rfl

end

/-! ### Timed outputs and captures (R354, R355) -/

section
variable {i : Fin 4} {s : State}

theorem execTimedOutputLeadingEdge_due {t : Nat} {v : State} (h : (s.output i).next = some t)
    (hv : v = (s.clockTo (s.outPar i 3) t).incOutput i 0) :
    execTimedOutputLeadingEdge i s = .next (State.drivePps (v.setOutput i { v.output i with
      next := (if v.outPar i 1 == 1 then some (t + v.outPar i 7) else none), pulse := some (v.strand, t + v.outPar i 6),
      pulseOf := (v.outPar i 3, v.outPar i 2, v.outPar i 6) }) i (1 - v.outPar i 2)) := by
  subst hv
  simp only [execTimedOutputLeadingEdge, h]

theorem execTimedOutputLeadingEdge_none (h : (s.output i).next = none) : execTimedOutputLeadingEdge i s = .next s := by
  simp only [execTimedOutputLeadingEdge, h]

theorem execTimedOutputTrailingEdge_clock {a t : Nat} (h : (s.output i).pulse = some (a, t)) :
    execTimedOutputTrailingEdge i s = .next ((s.clockTo (s.output i).pulseOf.1 t).pulseOver i (s.output i).changed) := by
  simp only [execTimedOutputTrailingEdge, h]

theorem execTimedOutputTrailingEdge_strand {t : Nat} (h : (s.output i).pulse = none ∧ (s.output i).pulseStrand = some t) :
    execTimedOutputTrailingEdge i s = .next ((s.timeTo t).pulseOver i (s.output i).changed) := by
  simp only [execTimedOutputTrailingEdge, h]

theorem execTimedOutputTrailingEdge_none (h : (s.output i).pulse = none ∧ (s.output i).pulseStrand = none) :
    execTimedOutputTrailingEdge i s = .next s := by
  simp only [execTimedOutputTrailingEdge, h]

end

theorem execCaptureEdge_eq (i : Fin 8) (b : Bool) (s : State) : execCaptureEdge i b s =
    .next (if bitOf (s.par (oCapture i) 0x0100) (if b then 1 else 0) then s.captureTake i (b2n b) else s) := by
  simp only [execCaptureEdge, Bool.not_eq_true', ← Bool.not_eq_true, ite_not]

/-- Settles O34: each command by the equation of its case. -/
theorem timeDrivenCommandsComplete : Obligations.TimeDrivenCommandsComplete := by
  unfold Obligations.TimeDrivenCommandsComplete
  refine ⟨fun _ n k a b _ => execGptpMessageReceive_up n k a b, fun _ n k a b _ => execGptpMessageReceive_down n k a b, ?listens,
    fun _ _ _ _ _ _ => State.gptpIn_pdelayResp, fun _ _ _ _ _ => State.gptpIn_unasked,
    fun _ _ _ _ _ _ h => ⟨State.gptpIn_deafSync h, State.gptpIn_deafOther h⟩,
    fun _ _ _ _ => execSyncWatchdogExpiry_due, fun _ _ _ _ => execAnnounceTimeout_due,
    fun _ _ => ⟨execSyncWatchdogExpiry_none, execAnnounceTimeout_none⟩,
    fun _ _ _ _ _ => execSyncInterval_sync, fun _ _ _ _ _ => execSyncInterval_announce,
    fun _ _ => ⟨execSyncInterval_noSync, execSyncInterval_noAnnounce⟩,
    fun _ _ _ => execPdelayInterval_port, fun _ _ => execPdelayInterval_other,
    fun _ _ => execRevertHoldExpiry_reverts, fun _ _ => execRevertHoldExpiry_stays,
    fun _ _ _ _ _ _ => execSlewDone_slewing, fun _ => execSlewDone_none, fun _ _ => execHistoryEntryWrite_eq, ?go,
    fun _ => rfl, fun _ => rfl, fun _ _ _ _ => execTimedOutputLeadingEdge_due, fun _ _ => execTimedOutputLeadingEdge_none,
    fun _ _ _ _ => execTimedOutputTrailingEdge_clock, fun _ _ _ => execTimedOutputTrailingEdge_strand,
    fun _ _ => execTimedOutputTrailingEdge_none, execCaptureEdge_eq⟩
  case listens =>
    exact fun _ _ _ _ _ h => ⟨State.gptpIn_sync h, State.gptpIn_twoStep h, State.gptpIn_followUp h, State.gptpIn_announce h,
      State.gptpIn_pdelayReq h⟩
  case go =>
    exact fun b s _ _ hv hw => congrArg (fun u => Host.Outcome.next (s.hosted u)) (State.convSelect_go b.isLt hv hw)

end Sys2Proof.Machine

/-! O35: bring-up, KEEPALIVE, credit, replay and loss of a Pier link, each command by the step that its port stands at. -/

namespace Sys2Proof.Machine

-- One theorem at a time: those that wait for the kernel would each hold a thread with its whole stack.
set_option Elab.async false

section
variable {p : Fin 2} {s v w : State}

/-! ### Signal and block lock (R502) -/

theorem execPierSignalDetect_begins {u : PierPort} (hu : u = s.pierPort (20 + p))
    (h : s.fwRunning = true ∧ s.chanEnabled (20 + p) = true ∧ u.step = 0) :
    execPierSignalDetect p s = .next (s.setPierPort (20 + p) { u with step := 1 }) := by
  subst hu
  simp only [execPierSignalDetect, h, beq_self_eq_true, Bool.and_self, if_true]

theorem execPierSignalDetect_other
    (h : s.fwRunning = false ∨ s.chanEnabled (20 + p) = false ∨ (s.pierPort (20 + p)).step ≠ 0) :
    execPierSignalDetect p s = .next s := by
  rcases h with h | h | h <;> simp [execPierSignalDetect, h]

theorem execPierBlockLock_begins {x : Nat} (h : (s.pierPort (20 + p)).step = 1) (hx : (x, v) = s.draw) :
    execPierBlockLock p s = .next (v.helloBegin p { v.pierPort (20 + p) with step := 2, ownNonce := x % 2 ^ 128 }) := by
  simp only [execPierBlockLock, ← hx, h, bne_self_eq_false, Bool.false_eq_true, if_false]

theorem execPierBlockLock_other (h : (s.pierPort (20 + p)).step ≠ 1) : execPierBlockLock p s = .next s := by
  simp only [execPierBlockLock, bne_iff_ne.2 h, if_true]

/-! ### HELLO (R502, R510, R511) -/

section
variable {h : Hello}

theorem execHello_early (hstep : (s.pierPort (20 + p)).step < 2) : execHello p h s = .next s := by
  simp only [execHello, hstep, if_true]

/-- What a HELLO's kind says of how it is handled, once HELLOs are exchanged. -/
theorem execHello_exchanged (hstep : 2 ≤ (s.pierPort (20 + p)).step) (hv : v = s.pierRx p utHello (helloOf h).length) :
    execHello p h s = .next
      (if h.kind.val = 2 then (v.linkFailed (h.via.val, 20 + h.port.val)).helloRelay h 2 h.via.val h.port.val p
       else if h.kind.val = 1 then
        (State.relink (((v.helloLearn h).helloBook h).setLink (h.via.val, 20 + h.port.val, h.rank.val) true) (20 + p)).helloRelay
          h 1 h.via.val h.port.val p
       else if 3 ≤ h.kind.val then v.quarHeard p h
       else if v.helloClash h then
        (if (v.pierPort (20 + p)).retryAt.isSome then v else (v.pierHold p false).cascEvent 7 (20 + p))
       else if (v.pierPort (20 + p)).step = 6 then (((v.helloLearn h).helloBook h).helloRelay h 1 v.ownDeck p p).helloPeer p h
       else ((v.helloLearn h).helloBook h).helloPeer p h) := by
  subst hv
  simp only [execHello, Nat.not_lt.2 hstep, if_false, beq_iff_eq, ge_iff_le]

theorem execHello_own (hstep : 2 ≤ (s.pierPort (20 + p)).step ∧ h.kind.val = 0)
    (hv : v = s.pierRx p utHello (helloOf h).length) :
    execHello p h s = .next (if v.helloClash h then
        (if (v.pierPort (20 + p)).retryAt.isSome then v else (v.pierHold p false).cascEvent 7 (20 + p))
      else if (v.pierPort (20 + p)).step = 6 then (((v.helloLearn h).helloBook h).helloRelay h 1 v.ownDeck p p).helloPeer p h
      else ((v.helloLearn h).helloBook h).helloPeer p h) := by
  obtain ⟨hstep, hkind⟩ := hstep
  rw [execHello_exchanged hstep hv, hkind, if_neg (by decide), if_neg (by decide), if_neg (by decide)]

theorem execHello_told (hstep : 2 ≤ (s.pierPort (20 + p)).step ∧ h.kind.val = 1)
    (hv : v = s.pierRx p utHello (helloOf h).length) (hw : w = (v.helloLearn h).helloBook h) :
    execHello p h s = .next (State.helloRelay (State.relink (w.setLink (h.via.val, 20 + h.port.val, h.rank.val) true) (20 + p)) h 1
      h.via.val h.port.val p) := by
  obtain ⟨hstep, hkind⟩ := hstep
  rw [execHello_exchanged hstep hv, if_neg (by omega), if_pos hkind, hw]

theorem execHello_toldGone (hstep : 2 ≤ (s.pierPort (20 + p)).step ∧ h.kind.val = 2)
    (hv : v = s.pierRx p utHello (helloOf h).length) :
    execHello p h s = .next ((v.linkFailed (h.via.val, 20 + h.port.val)).helloRelay h 2 h.via.val h.port.val p) := by
  rw [execHello_exchanged hstep.1 hv, if_pos hstep.2]

theorem execHello_quarantine (hstep : 2 ≤ (s.pierPort (20 + p)).step ∧ 3 ≤ h.kind.val) :
    execHello p h s = .next ((s.pierRx p utHello (helloOf h).length).quarHeard p h) := by
  rw [execHello_exchanged hstep.1 rfl, if_neg (by omega), if_neg (by omega), if_pos hstep.2]

end

/-! ### Key confirmation (R515) -/

section
variable {m : BitVec 128}

theorem execKeyConfirm_keyed {k : List Byte} (h : (s.pierPort (20 + p)).step = 3 ∧ s.pierSecure p = true)
    (hv : v = s.pierRx p utKeyConfirm 16 ∧ v.pierKey = some k) :
    execKeyConfirm p m s = .next (if v.keyConfirm p k == m.toNat then (v.pierSas p k).pierCredits p
      else (v.pierHold p true).cascEvent 8 (20 + p)) := by
  obtain ⟨rfl, hkey⟩ := hv
  simp only [execKeyConfirm, h, hkey, bne_self_eq_false, Bool.not_true, Bool.or_self, Bool.false_eq_true, if_false]

theorem execKeyConfirm_keyless (h : (s.pierPort (20 + p)).step = 3 ∧ s.pierSecure p = true)
    (hv : v = s.pierRx p utKeyConfirm 16 ∧ v.pierKey = none) : execKeyConfirm p m s = .next (v.pierHold p true) := by
  obtain ⟨rfl, hkey⟩ := hv
  simp only [execKeyConfirm, h, hkey, bne_self_eq_false, Bool.not_true, Bool.or_self, Bool.false_eq_true, if_false]

theorem execKeyConfirm_other (h : (s.pierPort (20 + p)).step ≠ 3 ∨ s.pierSecure p = false) : execKeyConfirm p m s = .next s := by
  rcases h with h | h <;> simp [execKeyConfirm, h]

end

/-! ### The interval, KEEPALIVE and CREDIT (R357, R502 to R505) -/

theorem execPierHelloInterval_due {u : PierPort} (h : u = s.pierPort (20 + p) ∧ 2 ≤ u.step) (hv : v = s.timeTo u.nextAt)
    (hw : w = v.setPierPort (20 + p) { u with nextAt := v.after (usC 100) }) :
    execPierHelloInterval p s = .next (if w.rekeyDue p then (w.rekeyBegin p 2).sendHello p
      else if u.step < 5 then w.sendHello p else w.sendKeepalive p u) := by
  obtain ⟨rfl, hstep⟩ := h
  subst hw hv
  simp only [execPierHelloInterval, Nat.not_lt.2 hstep, if_false]

theorem execPierHelloInterval_early (h : (s.pierPort (20 + p)).step < 2) : execPierHelloInterval p s = .next s := by
  simp only [execPierHelloInterval, h, if_true]

section
variable {a : PierAcks} {l : List ClockTime} {b : List (Fin 11 × BitVec 16)}

theorem execKeepalive_heard (h : 5 ≤ (s.pierPort (20 + p)).step ∧ s.pierShut p utKeepalive = false)
    (hv : v = s.pierRx p utKeepalive 6)
    (hw : w = State.pierAck (v.setPierPort (20 + p) { v.pierPort (20 + p) with lastKa := v.strand }) p a) :
    execKeepalive p a l s =
      .next (if (s.pierPort (20 + p)).step == 6 && w.timePort p && !l.isEmpty then w.pierTime p l else w) := by
  subst hw hv
  simp only [execKeepalive, Nat.not_lt.2 h.1, h.2, Bool.false_eq_true, if_false]

theorem execCredit_heard (h : 5 ≤ (s.pierPort (20 + p)).step ∧ s.pierShut p utCredit = false)
    (hv : v = s.pierRx p utCredit (9 * b.length)) :
    execCredit p b a s = .next (State.pierAck (v.setPierPort (20 + p)
      { v.pierPort (20 + p) with used := creditTaken (s.pierPort (20 + p)).used b }) p a) := by
  subst hv
  simp only [execCredit, Nat.not_lt.2 h.1, h.2, Bool.false_eq_true, if_false]

theorem execKeepalive_shut (h : 5 ≤ (s.pierPort (20 + p)).step) (hshut : s.pierShut p utKeepalive = true) :
    execKeepalive p a l s = .next (s.pierRx p utKeepalive 6) := by
  simp only [execKeepalive, Nat.not_lt.2 h, hshut, if_false, if_true]

theorem execCredit_shut (h : 5 ≤ (s.pierPort (20 + p)).step) (hshut : s.pierShut p utCredit = true) :
    execCredit p b a s = .next (s.pierRx p utCredit (9 * b.length)) := by
  simp only [execCredit, Nat.not_lt.2 h, hshut, if_false, if_true]

theorem execKeepalive_early (h : (s.pierPort (20 + p)).step < 5) : execKeepalive p a l s = .next s := by
  simp only [execKeepalive, h, if_true]

theorem execCredit_early (h : (s.pierPort (20 + p)).step < 5) : execCredit p b a s = .next s := by
  simp only [execCredit, h, if_true]

end

/-! ### The link hold, retry, loss and replay (R502 to R504, R509, R517, R520) -/

section
variable {u : PierPort} {t : Nat}

theorem execPierLinkHoldEnd_due (h : u = s.pierPort (20 + p) ∧ u.holdEnd = some t) :
    execPierLinkHoldEnd p s = .next (State.peerUp ((s.timeTo t).setPierPort (20 + p)
      { u with step := 6, rekeying := false, holdEnd := none }) p u.rank) := by
  obtain ⟨rfl, ht⟩ := h
  simp only [execPierLinkHoldEnd, ht]

theorem execPierLinkHoldEnd_none (h : (s.pierPort (20 + p)).holdEnd = none) : execPierLinkHoldEnd p s = .next s := by
  simp only [execPierLinkHoldEnd, h]

theorem execBringupRetry_due {x : Nat} (h : u = s.pierPort (20 + p) ∧ u.retryAt = some t) (hx : (x, w) = (s.timeTo t).draw) :
    execBringupRetry p s = .next (w.helloBegin p
      { u with step := 2, keyHeld := false, retryAt := none, ownNonce := x % 2 ^ 128 }) := by
  obtain ⟨rfl, ht⟩ := h
  simp only [execBringupRetry, ht, ← hx]

theorem execBringupRetry_none (h : (s.pierPort (20 + p)).retryAt = none) : execBringupRetry p s = .next s := by
  simp only [execBringupRetry, h]

theorem execPeerLost_linked (b : Bool) (h : u = s.pierPort (20 + p) ∧ 5 ≤ u.step) :
    execPeerLost p b s = .next (State.peerGone (if b then s else s.timeTo (strandPlus u.lastKa (usC 300))) p u b) := by
  obtain ⟨rfl, hstep⟩ := h
  simp only [execPeerLost, Nat.not_lt.2 hstep, if_false]

theorem execPeerLost_early (b : Bool) (h : (s.pierPort (20 + p)).step < 5) :
    execPeerLost p b s = .next (if b then s.setPierPort (20 + p) {} else s) := by
  simp only [execPeerLost, h, if_true]

theorem execReplayTimeout_due (h : u = s.pierPort (20 + p) ∧ u.resendAt = some t) (hw : w = s.timeTo t) :
    execReplayTimeout p s = .next (u.replay.foldl (fun x r => x.resendUnit p r)
      (w.setPierPort (20 + p) { u with resendAt := some (w.after (usC 20)) })) := by
  obtain ⟨rfl, ht⟩ := h
  subst hw
  simp only [execReplayTimeout, ht]

theorem execReplayTimeout_none (h : (s.pierPort (20 + p)).resendAt = none) : execReplayTimeout p s = .next s := by
  simp only [execReplayTimeout, h]

end

end

/-- Settles O35: each command by the equation of its case. -/
theorem pierLinkCommandsComplete : Obligations.PierLinkCommandsComplete := by
  unfold Obligations.PierLinkCommandsComplete
  exact ⟨fun _ _ _ => execPierSignalDetect_begins, fun _ _ => execPierSignalDetect_other,
    fun _ _ _ _ => execPierBlockLock_begins, fun _ _ => execPierBlockLock_other,
    fun _ _ _ => execHello_early, fun _ _ _ _ => execHello_own, fun _ _ _ _ _ => execHello_told,
    fun _ _ _ _ => execHello_toldGone, fun _ _ _ => execHello_quarantine,
    fun _ _ _ _ _ => execKeyConfirm_keyed, fun _ _ _ _ => execKeyConfirm_keyless, fun _ _ _ => execKeyConfirm_other,
    fun _ _ _ _ _ => execPierHelloInterval_due, fun _ _ => execPierHelloInterval_early,
    fun _ _ _ _ _ _ => execKeepalive_heard, fun _ _ _ _ _ => execCredit_heard,
    fun _ _ _ _ _ h => ⟨execKeepalive_shut h, execCredit_shut h⟩,
    fun _ _ _ _ _ h => ⟨execKeepalive_early h, execCredit_early h⟩,
    fun _ _ _ _ => execPierLinkHoldEnd_due, fun _ _ => execPierLinkHoldEnd_none,
    fun _ _ _ _ _ _ => execBringupRetry_due, fun _ _ => execBringupRetry_none,
    fun _ b _ _ => execPeerLost_linked b, fun _ b _ => execPeerLost_early b,
    fun _ _ _ _ _ => execReplayTimeout_due, fun _ _ => execReplayTimeout_none⟩

end Sys2Proof.Machine

/-! O56: the two words of the Strand counter. -/

namespace Sys2Proof.Machine

-- One theorem at a time: those that wait for the kernel would each hold a thread with its whole stack.
set_option Elab.async false

section
variable {s : State}

/-! ### What the two words read as (R338) -/

/-- A register outside the areas of counters, bytes and event records reads as its live value in every variant. -/
theorem State.peek_register {a : Nat} (ha : a % 4 = 0 ∧ a < 0x1000000 ∧ absentBlock a = false)
    (harea : ctrAt a = none ∧ byteArea a = false ∧ 0x40000 ≤ a) (hreg : (regAt a).isSome = true) : s.peek a = s.regLive a := by
  obtain ⟨halign, htop, hblock⟩ := ha
  obtain ⟨hctr, hbyte, hrecords⟩ := harea
  simp only [State.peek, halign, hblock, hctr, hbyte, hreg, Nat.not_le.2 htop, Nat.not_lt.2 hrecords, bne_self_eq_false, decide_false,
    Bool.and_false, Bool.or_false, Bool.false_eq_true, if_false, if_true]

theorem State.peek_strandLo (s : State) : s.peek StrandLo.off = s.strand % 2 ^ 32 :=
  (State.peek_register (by decide) (by decide) (by decide)).trans (if_pos rfl)

theorem State.peek_strandHi (s : State) :
    s.peek StrandHi.off = (tabFind s.ctrLatch StrandHi.off).getD (s.strand / 2 ^ 32) :=
  (State.peek_register (by decide) (by decide) (by decide)).trans ((if_neg (by decide)).trans (if_pos rfl))

/-! ### The two reads -/

theorem exec_strandLoRead (hon : s.coreOn = true) :
    exec .strandLoRead s = .next { s.readOut StrandLo.off (s.strand % 2 ^ 32) with
      ctrLatch := tabInsert s.ctrLatch StrandHi.off (s.strand / 2 ^ 32) } := by
  show execStrandLoRead s = _
  rw [execStrandLoRead, State.hosted_on hon, State.latchRead_strandLo]

theorem exec_counterLowRead_strandHi (hon : s.coreOn = true) :
    exec (.counterLowRead 0 (BitVec.ofNat 26 StrandHi.off) 4) s =
      .next { s.readOut StrandHi.off (s.peek StrandHi.off) with ctrLatch := tabErase s.ctrLatch StrandHi.off } := by
  have hoff : (BitVec.ofNat 26 StrandHi.off).toNat % 2 ^ 24 = StrandHi.off := by decide
  rw [exec_counterLowRead_word, hoff, State.hosted_on hon,
    s.hostReadBar0_latching (by decide) (fun _ => by decide) (.inr (.inl rfl)), State.latchRead_strandHi]

end

/-- Settles O56: the low word's read latches the high word, which the high word's read finds, whatever has passed, and uses up. -/
theorem strandReadsFormOneValue : Obligations.StrandReadsFormOneValue := by
  unfold Obligations.StrandReadsFormOneValue
  refine ⟨?low, ?live, ?high, ?off⟩
  case low =>
    refine fun s hon => ⟨_, exec_strandLoRead hon, rfl, rfl, fun n => ?_⟩
    rw [State.peek_strandHi]
    show (tabFind (tabInsert s.ctrLatch StrandHi.off (s.strand / 2 ^ 32)) StrandHi.off).getD _ = _
    rw [tabFind_tabInsert_same, Option.getD_some]
  case live => exact fun s => ⟨s.peek_strandLo, fun hnone => by rw [State.peek_strandHi, hnone, Option.getD_none]⟩
  case high =>
    refine fun s hon => ⟨_, exec_counterLowRead_strandHi hon, rfl, rfl, ?_⟩
    rw [State.peek_strandHi]
    show (tabFind (tabErase s.ctrLatch StrandHi.off) StrandHi.off).getD (s.strand / 2 ^ 32) = _
    rw [tabFind_tabErase_same, Option.getD_none]
  case off =>
    refine fun s hoff => ⟨congrArg _ (State.hosted_off hoff _), ?_⟩
    rw [exec_counterLowRead_word, State.hosted_off hoff]

end Sys2Proof.Machine

/-! O45: what a step runs. -/

namespace Sys2Proof.Machine

/-- Settles O45: the two cases of the step. -/
theorem stepRunsTheFrontCommand : Obligations.StepRunsTheFrontCommand := by
  unfold Obligations.StepRunsTheFrontCommand
  refine ⟨?front, ?idle⟩
  case front => exact fun _ _ _ => rfl
  case idle =>
    intro s h
    simp only [step, h]

end Sys2Proof.Machine

/-! O5: the commands of the SPAN class. -/

namespace Sys2Proof.Machine

-- One theorem at a time: those that wait for the kernel would each hold a thread with its whole stack.
set_option Elab.async false

section
variable {c : Ctx} {u v : State}

/-- SPAN.WAKE_SOURCES takes a Span or the Deck, and looks at COUNT alone (R400). -/
theorem bodyWakeSources_pends (hcount : 1 ≤ leAt c.payload 10 2 ∧ leAt c.payload 10 2 ≤ 62) :
    bodyWakeSources c u = u.pendHatpin c (4 * (u.wakesFor c.payload).length) [] false := by
  simp only [bodyWakeSources, gt_iff_lt, Nat.not_lt.2 hcount.1, Nat.not_lt.2 hcount.2, decide_false, Bool.or_false,
    Bool.false_eq_true, if_false]

variable (htyp : (orefOf c.payload).typ = 0x03)
include htyp

theorem State.spanBody_span (f : Nat → Resp × State) : u.spanBody c f = f (orefOf c.payload).span := by
  simp only [State.spanBody, htyp, bne_self_eq_false, Bool.false_eq_true, if_false]

/-! ### Holds and the state of a Span (R392, R407) -/

theorem bodySleepReq_releases (hflags : leAt c.payload 8 4 ≤ 1) (hmay : u.spanPar (orefOf c.payload).span 0x0100 ≠ 0)
    (hv : v = u.holdClear (orefOf c.payload).span c.client) :
    bodySleepReq c u = (State.spanUpdate (if bitOf (leAt c.payload 8 4) 0 = true ∧
      (v.span (orefOf c.payload).span).kaHeard.any (fun t => decide (strandDiff v.strand t < msC 1)) = false
      then v.idleEnd (orefOf c.payload).span else v) (orefOf c.payload).span).answer stDone := by
  subst hv
  simp only [bodySleepReq, State.spanBody_span htyp, gt_iff_lt, Nat.not_lt.2 hflags, beq_eq_false_iff_ne.2 hmay, Bool.and_eq_true,
    Bool.not_eq_true', Bool.false_eq_true, if_false]

theorem bodyWakeReq_holds (hv : v = u.holdSet (orefOf c.payload).span c.client) :
    bodyWakeReq c u = (State.spanUpdate (if v.spanState (orefOf c.payload).span == spAsleep ||
      v.spanState (orefOf c.payload).span == spEntering then v.wake (orefOf c.payload).span wsHost c.client 0 0xFF else v)
      (orefOf c.payload).span).answer stDone := by
  subst hv
  exact State.spanBody_span htyp _

theorem bodySpanState_span {w : SpanSt} (hw : w = u.span (orefOf c.payload).span) :
    bodySpanState c u = u.answer stDone (leBytes 1 (u.spanState (orefOf c.payload).span) ++
      leBytes 1 (bitsOf (u.reg (SpanState.state (orefOf c.payload).span).off).toNat 7 3) ++
      leBytes 1 (u.getF (SpanState.holds (orefOf c.payload).span)) ++ [0] ++ leBytes 4 (u.msLeft w.idleAt) ++
      leBytes 4 (u.msLeft w.prepareAt) ++ leBytes 4 (u.msLeft w.falseAt)) := by
  subst hw
  exact State.spanBody_span htyp _

/-! ### The parts of SPAN.STAY_AWAKE_LOG (R403) -/

section
variable (hres : leAt c.payload 9 3 = 0)
include hres

theorem bodyStayAwakeLog_log (h : leAt c.payload 8 1 = 0 ∧ 1 ≤ leAt c.payload 14 2 ∧ leAt c.payload 14 2 ≤ 62) :
    bodyStayAwakeLog c u = u.answer stDone
      ((((u.span (orefOf c.payload).span).log.drop (leAt c.payload 12 2)).take (leAt c.payload 14 2)).flatMap StayEntry.bytes) := by
  simp [bodyStayAwakeLog, State.spanBody_span htyp, hres, h]

theorem bodyStayAwakeLog_nodes (h : leAt c.payload 8 1 = 1 ∧ 1 ≤ leAt c.payload 14 2 ∧ leAt c.payload 14 2 ≤ 252 ∧
    leAt c.payload 12 2 + leAt c.payload 14 2 ≤ 256) :
    bodyStayAwakeLog c u = u.answer stDone ((List.range (leAt c.payload 14 2)).flatMap fun k =>
      accountMs (u.nodeTotal (orefOf c.payload).span (leAt c.payload 12 2 + k))) := by
  simp [bodyStayAwakeLog, State.spanBody_span htyp, hres, h]

theorem bodyStayAwakeLog_holds (h : leAt c.payload 8 1 = 2 ∧ leAt c.payload 12 2 = 0 ∧ leAt c.payload 14 2 = 8) :
    bodyStayAwakeLog c u = u.answer stDone
      ((List.range 8).flatMap fun k => accountMs (u.holdTotal (orefOf c.payload).span k)) := by
  simp [bodyStayAwakeLog, State.spanBody_span htyp, hres, h]

end

/-! ### SPAN.MEMBER_SET (R109, R19) -/

theorem bodyMemberSet_stages (hch : leAt c.payload 8 1 ≤ 103 ∧ leAt c.payload 9 3 = 0 ∧ u.absentVariant = false)
    (hawake : u.spanState (u.spanOf (leAt c.payload 8 1)) = spAwake ∧ u.spanState (orefOf c.payload).span = spAwake)
    (hlock : u.locked c.client [lockOf (pkey (oChan (leAt c.payload 8 1)) pidSpan)] = false) :
    bodyMemberSet c u = u.stage c [(pkey (oChan (leAt c.payload 8 1)) pidSpan, (orefOf c.payload).span)] := by
  obtain ⟨hmax, hres, hhere⟩ := hch
  simp only [bodyMemberSet, State.spanBody_span htyp, gt_iff_lt, hres, hhere, hlock, hawake, Nat.not_lt.2 hmax, bne_self_eq_false,
    decide_false, Bool.and_false, Bool.false_and, Bool.or_false, Bool.false_eq_true, if_false]

end

/-- An accepted request whose body waits for a Hatpin access is answered with its new ticket (R12, R74). -/
theorem State.request_pendsHatpin {s v : State} {cmd n : Nat} {q : Req} {body : Body} {data : List Byte} {write : Bool}
    (h : s.accepts cmd q = true) (hb : body (s.ctx cmd q) (s.served cmd q) = (s.served cmd q).pendHatpin (s.ctx cmd q) n data write)
    (hv : v = ((s.served cmd q).openTicket (s.ctx cmd q) []).2) :
    s.request cmd q body = State.reply { v with hatpin := { v.hatpin with queue := v.hatpin.queue ++
      [({ client := (s.ctx cmd q).client, ticket := ((s.served cmd q).openTicket (s.ctx cmd q) []).1, left := max n 1, data := data,
          write := write } : HatpinAccess)] } } cmd q stPending [] ((s.served cmd q).openTicket (s.ctx cmd q) []).1 := by
  subst hv
  exact State.request_reply h hb ((Quiet.openTicket _ _ _).trans (Quiet.of_regs rfl)) (by decide) (by decide)

/-- Settles O5: each command by its body's equation. -/
theorem spanCommandsComplete : Obligations.SpanCommandsComplete := by
  unfold Obligations.SpanCommandsComplete
  refine ⟨?sleep, ?wake, ?state, ?sources, ?log, ?nodes, ?holds, ?member⟩
  case sleep =>
    rintro q s _ _ v rfl rfl h htyp hflags hmay hv
    exact congrArg _ (State.request_finish h (bodySleepReq_releases htyp hflags hmay hv))
  case wake =>
    rintro q s _ _ v rfl rfl h htyp hv
    exact congrArg _ (State.request_finish h (bodyWakeReq_holds htyp hv))
  case state =>
    rintro q s _ _ v rfl rfl h htyp hv
    exact congrArg _ (State.request_query h (bodySpanState_span htyp hv))
  case sources =>
    rintro q s _ _ v rfl rfl h hcount hv
    exact congrArg _ (State.request_pendsHatpin h (bodyWakeSources_pends hcount) hv)
  case log =>
    rintro q s _ _ rfl rfl h ⟨htyp, hres⟩ hpart
    exact congrArg _ (State.request_query h (bodyStayAwakeLog_log htyp hres hpart))
  case nodes =>
    rintro q s _ _ rfl rfl h ⟨htyp, hres⟩ hpart
    exact congrArg _ (State.request_query h (bodyStayAwakeLog_nodes htyp hres hpart))
  case holds =>
    rintro q s _ _ rfl rfl h ⟨htyp, hres⟩ hpart
    exact congrArg _ (State.request_query h (bodyStayAwakeLog_holds htyp hres hpart))
  case member =>
    rintro q s _ _ d rfl rfl h ⟨htyp, hch⟩ hawake hd hfree
    exact congrArg _ (State.request_stages h (bodyMemberSet_stages htyp hch hawake hfree.1) hd hfree)

end Sys2Proof.Machine

/-! O15: the commands of the SEC class about keys, associations and freshness values. -/

namespace Sys2Proof.Machine

-- One theorem at a time: those that wait for the kernel would each hold a thread with its whole stack.
set_option Elab.async false

section
variable {c : Ctx} {u : State}

/-! ### SEC.KEY_INSTALL (R415, R416) -/

/-- The checks of SEC.KEY_INSTALL that come before the Hatpin access. -/
theorem bodyKeyInstall_admits {f : Bool} {key : List Byte}
    (hpay : (orefOf c.payload).typ = 0x1B ∧
      (c.payload.drop 18).length = leAt c.payload 9 1 + (if leAt c.payload 15 1 == 1 then 8 else 0) ∧ keyPolicyBad c.payload = false)
    (hempty : (u.slot (orefOf c.payload).idx).empty = true) (hplain : leAt c.payload 15 1 ≠ 1 → u.openLife = true)
    (hwrap : leAt c.payload 15 1 = 1 → u.slotUsable (leAt c.payload 16 2) usWrap [6] = true)
    (hkey : u.keyMaterial c.payload = some key ∧ keyBad c.payload (orefOf c.payload).idx key = false) :
    bodyKeyInstall f c u = if (bitOf (leAt c.payload 14 1) 0 && f) = true then u.hatpinDown.answer stAccessFailed
      else (u.putKey c.payload (orefOf c.payload).idx key).answer stDone := by
  obtain ⟨htyp, hlen, hpol⟩ := hpay
  obtain ⟨hkey, hgood⟩ := hkey
  have hlife : (!(leAt c.payload 15 1 == 1) && !u.openLife) = false := by
    by_cases h : leAt c.payload 15 1 = 1
    · simp [h]
    · simp [hplain h]
  have hunder : (leAt c.payload 15 1 == 1 && !u.slotUsable (leAt c.payload 16 2) usWrap [6]) = false := by
    by_cases h : leAt c.payload 15 1 = 1
    · simp [hwrap h]
    · simp [h]
  simp only [bodyKeyInstall, htyp, hlen, hpol, hempty, hlife, hunder, hkey, hgood, bne_self_eq_false, Bool.not_true, Bool.false_eq_true,
    if_false]

/-! ### SEC.KEY_ERASE (R418) -/

/-- The checks of SEC.KEY_ERASE that come before the Hatpin access. -/
theorem bodyKeyErase_admits {f : Bool}
    (hpay : (orefOf c.payload).typ = 0x1B ∧ leAt c.payload 8 4 ≤ 1 ∧ (u.slot (orefOf c.payload).idx).empty = false)
    (hused : leAt c.payload 8 4 = 0 → u.slotAssocs (orefOf c.payload).idx = [] ∧ u.slotProfiles (orefOf c.payload).idx = []) :
    bodyKeyErase f c u = if ((u.slot (orefOf c.payload).idx).persist && f) = true
      then (u.abortOn (orefOf c.payload).idx).hatpinDown.answer stAccessFailed
      else ((u.abortOn (orefOf c.payload).idx).eraseKey (orefOf c.payload).idx (u.slot (orefOf c.payload).idx).persist).answer
        stDone := by
  obtain ⟨htyp, hflags, hfull⟩ := hpay
  have hfree : (leAt c.payload 8 4 == 0 && (!(u.slotAssocs (orefOf c.payload).idx).isEmpty ||
      !(u.slotProfiles (orefOf c.payload).idx).isEmpty)) = false := by
    by_cases h : leAt c.payload 8 4 = 0
    · simp [hused h]
    · simp [h]
  simp only [bodyKeyErase, htyp, hfull, hfree, gt_iff_lt, Nat.not_lt.2 hflags, bne_self_eq_false, Bool.false_eq_true, if_false]

/-! ### Associations and freshness values (R422, R423, R441) -/

section
variable {n k : Nat} (hobj : n = (orefOf c.payload).chan ∧ k = (orefOf c.payload).idx ∧ (orefOf c.payload).typ = 0x1C)
include hobj

theorem bodySaInstall_installs
    (hfree : u.saBad c.payload n k = false ∧ (u.assoc n k).installed = false ∧ u.sciClash c.payload n k = false)
    (huse : u.slotUsable (leAt c.payload 8 2) (if k ≤ 3 then usMacTx else usMacRx) [suiteType (u.par (oChan n) 0x1001)] = true) :
    bodySaInstall c u = (u.putAssoc n k (saOf c.payload k)).answer stDone := by
  obtain ⟨rfl, rfl, htyp⟩ := hobj
  simp only [bodySaInstall, htyp, hfree, huse, bne_self_eq_false, Bool.not_true, Bool.false_eq_true, if_false]

theorem bodySaRetire_retires (hin : (u.assoc n k).installed = true) : bodySaRetire c u = (u.saRetire n k).answer stDone := by
  obtain ⟨rfl, rfl, htyp⟩ := hobj
  simp only [bodySaRetire, htyp, hin, bne_self_eq_false, Bool.not_true, Bool.false_eq_true, if_false]

end

theorem bodyFreshnessSet_stores
    (hpay : (orefOf c.payload).typ = 0x01 ∧ leAt c.payload 8 2 ≤ 4095 ∧ leAt c.payload 10 2 = 0)
    (hgrows : u.freshRefused (leAt c.payload 8 2) (leAt c.payload 12 4) = false) :
    bodyFreshnessSet c u = State.answer (u.setFresh (leAt c.payload 8 2)
      { u.fresh (leAt c.payload 8 2) with value := leAt c.payload 12 4, state := 1 }) stDone := by
  obtain ⟨htyp, hidx, hres⟩ := hpay
  simp only [bodyFreshnessSet, htyp, hres, hgrows, gt_iff_lt, Nat.not_lt.2 hidx, bne_self_eq_false, decide_false, Bool.or_false,
    Bool.false_eq_true, if_false]

end

/-- The key that stands in its slot is in no register. -/
theorem Quiet.putKey (u : State) (p : List Byte) (k : Nat) (key : List Byte) : Quiet u (u.putKey p k key) := by
  unfold State.putKey
  dsimp only
  split
  · exact Quiet.of_regs rfl
  · exact Quiet.of_regs rfl

/-- Settles O15: each command by its body's equation; the two that write to the Hatpin link by whether that write fails. -/
theorem keyAndAssociationCommandsComplete : Obligations.KeyAndAssociationCommandsComplete := by
  unfold Obligations.KeyAndAssociationCommandsComplete
  refine ⟨?install, ?installFails, ?erase, ?eraseFails, ?saInstall, ?saRetire, ?freshness⟩
  case install =>
    rintro f q s _ _ key rfl rfl h hpay hempty hplain hwrap hkey hwrite
    refine congrArg _ (State.request_done h ((bodyKeyInstall_admits hpay hempty hplain hwrap hkey).trans (if_neg ?_))
      (Quiet.putKey _ _ _ _))
    rcases hwrite with hwrite | hwrite <;> simp [hwrite]
  case installFails =>
    rintro q s _ _ key rfl rfl h hpay hempty hplain hwrap hkey hpersist
    exact congrArg _ (State.request_finish h ((bodyKeyInstall_admits hpay hempty hplain hwrap hkey).trans
      (if_pos (by rw [hpersist, Bool.and_true]))))
  case erase =>
    rintro f q s _ _ rfl rfl h hpay hused hwrite
    refine congrArg _ (State.request_finish h ((bodyKeyErase_admits hpay hused).trans (if_neg ?_)))
    rcases hwrite with hwrite | hwrite <;> simp [hwrite]
  case eraseFails =>
    rintro q s _ _ rfl rfl h hpay hused hpersist
    exact congrArg _ (State.request_finish h ((bodyKeyErase_admits hpay hused).trans (if_pos (by rw [hpersist, Bool.and_true]))))
  case saInstall =>
    rintro q s _ _ n k rfl rfl h hobj hfree huse
    exact congrArg _ (State.request_finish h (bodySaInstall_installs hobj hfree huse))
  case saRetire =>
    rintro q s _ _ n k rfl rfl h hobj hin
    exact congrArg _ (State.request_finish h (bodySaRetire_retires hobj hin))
  case freshness =>
    rintro q s _ _ rfl rfl h hpay hgrows
    exact congrArg _ (State.request_done h (bodyFreshnessSet_stores hpay hgrows) (Quiet.of_regs rfl))

end Sys2Proof.Machine

/-! O16: the commands of the SEC class about jobs, lifecycle, debug, self-test and zeroisation. -/

namespace Sys2Proof.Machine

-- One theorem at a time: those that wait for the kernel would each hold a thread with its whole stack.
set_option Elab.async false

section
variable {c : Ctx} {u v : State}

/-! ### Jobs (R430, R434, R435) -/

theorem bodyJobSubmit_queues {j : HbxJob} (hj : j = u.jobOf c)
    (hok : jobOk j = true ∧ u.par oDeck 0x1110 = 0 ∧ (j.mode = 15 → u.rawOpen = true) ∧ u.jobDenied j = false)
    (hctx : j.first ≠ u.ctxOpen c.client j.ctx) (hroom : u.ctxFull j = false) :
    bodyJobSubmit c u = u.runP c [] fun s ref => s.queueJob j ref := by
  subst hj
  obtain ⟨hok, hmode, hraw, hadmit⟩ := hok
  have hopen : ((u.jobOf c).mode == 15 && !u.rawOpen) = false := by
    by_cases h : (u.jobOf c).mode = 15
    · simp [hraw h]
    · simp [h]
  simp only [bodyJobSubmit, hok, hmode, hopen, hadmit, hroom, beq_eq_false_iff_ne.2 hctx, bne_self_eq_false, Bool.not_true,
    Bool.false_eq_true, if_false]

theorem bodyJobAbort_aborts {t : Ticket} (ht : u.ticket c.client (leAt c.payload 0 4) = some t)
    (hruns : t.cmd = 0x0C14 ∧ t.result = none) : bodyJobAbort c u = (u.abortTicket t).answer stDone := by
  obtain ⟨hcmd, hruns⟩ := hruns
  simp only [bodyJobAbort, ht, hcmd, hruns, bne_self_eq_false, Option.isSome_none, Bool.false_eq_true, if_false]

/-! ### SEC.LIFECYCLE_ADVANCE, by how its transition is authorised (R410, R411) -/

section
variable {f n m r : Nat} (hops : n = u.fuses.lifecycle ∧ m = leAt c.payload 0 1 ∧ r = leAt c.payload 1 1)
include hops

theorem bodyLifecycleAdvance_confirmed
    (hok : lifeAuth n m r = .confirm ∧ c.payload.length = lifeLen n m r ∧ u.lifeBad c.payload = false) :
    bodyLifecycleAdvance f c u = (u.abortJobs 1).pend c [] := by
  obtain ⟨rfl, rfl, rfl⟩ := hops
  obtain ⟨hauth, hlen, hgood⟩ := hok
  have hknown : (LifeAuth.confirm == LifeAuth.bad) = false := rfl
  simp only [bodyLifecycleAdvance, hauth, hlen, hgood, hknown, bne_self_eq_false, Bool.false_eq_true, if_false]

theorem bodyLifecycleAdvance_signed {cls : Option Bool} {ch : List Byte}
    (hok : lifeAuth n m r = .signed cls ∧ c.payload.length = lifeLen n m r ∧ u.lifeBad c.payload = false)
    (hch : u.takeChallenge = (some ch, v))
    (hcls : (match (generalizing := false) cls with
      | some pr => v.rootProduction f == pr
      | none => lifecycleAdmits n (v.rootProduction f)) = true)
    (hsig : v.authorised f (0x80 + m) (v.rootProduction f) ch (c.payload.drop 8) = true) :
    bodyLifecycleAdvance f c u = (v.abortJobs 1).pend c [] := by
  obtain ⟨rfl, rfl, rfl⟩ := hops
  obtain ⟨hauth, hlen, hgood⟩ := hok
  have hknown : (LifeAuth.signed cls == LifeAuth.bad) = false := rfl
  simp only [bodyLifecycleAdvance, hauth, hlen, hgood, hknown, hch, bne_self_eq_false, Bool.false_eq_true, if_false]
  exact if_pos (Bool.and_eq_true_iff.2 ⟨hcls, hsig⟩)

end

/-! ### SEC.DEBUG_UNLOCK (R411, R412) -/

theorem bodyDebugUnlock_challenge (h : c.payload = [] ∧ u.hbx.drbgStopped = false) :
    bodyDebugUnlock false c u = State.answer { u with hbx := { u.hbx with
      challenge := some (Config.drbg (leBytes 48 u.hbx.seed) u.hbx.drawn 32, u.after (secC 60)), drawn := u.hbx.drawn + 1 } }
      stDone (Config.drbg (leBytes 48 u.hbx.seed) u.hbx.drawn 32) := by
  obtain ⟨hpay, hruns⟩ := h
  simp only [bodyDebugUnlock, hpay, List.length_nil, bne_self_eq_false, Bool.not_false, Bool.false_eq_true, if_false, if_true]
  exact if_neg (Bool.eq_false_iff.1 hruns)

/-- What SEC.DEBUG_UNLOCK of PHASE 1 does with an authorised scope `n`. -/
theorem bodyDebugUnlock_authorised {n : Nat} {pr : Bool} {ch : List Byte}
    (hpay : n = leAt c.payload 0 1 ∧ c.payload.length = 100 ∧ 1 ≤ n ∧ n ≤ 7 ∧ leAt c.payload 1 1 ≤ 3 ∧ leAt c.payload 2 2 = 0)
    (hadmit : unlockAdmits u.fuses.lifecycle n = some pr ∧ u.hbx.zeroising = none)
    (hsig : u.takeChallenge = (some ch, v) ∧ v.authorised (leAt c.payload 1 1) n pr ch (c.payload.drop 4) = true) :
    bodyDebugUnlock true c u = if n = 1 then (v.debugOpen 1).answer stDone
      else
        let w := ((v.openTicket c []).2.setF HbxStatus.zeroising 1).zeroiseRam 1
        (⟨stPending, [], (v.openTicket c []).1, 0⟩,
          { w with hbx := { w.hbx with zeroising := some (c.client, (v.openTicket c []).1, 1) } }) := by
  obtain ⟨rfl, hlen, hmin, hmax, hkey, hres⟩ := hpay
  obtain ⟨hadmit, hidle⟩ := hadmit
  obtain ⟨hch, hsig⟩ := hsig
  have hscope : (leAt c.payload 0 1 == 0) = false := beq_eq_false_iff_ne.2 (by omega)
  simp only [bodyDebugUnlock, hlen, hscope, hres, hadmit, hidle, hch, hsig, gt_iff_lt, Nat.not_lt.2 hmax, Nat.not_lt.2 hkey,
    bne_self_eq_false, beq_iff_eq, Option.isSome_none, decide_false, Bool.not_true, Bool.or_false, Bool.false_eq_true, if_false]
  rfl

/-! ### Self-test and zeroisation (R445, R447) -/

theorem bodySelftest_starts (hidle : u.flag HbxStatus.selftestRun = false) :
    bodySelftest c u =
      (⟨stPending, [], (u.openTicket c []).1, 0⟩, (u.openTicket c []).2.setF HbxStatus.selftestRun 1) := by
  simp only [bodySelftest, hidle, Bool.false_eq_true, if_false]
  rfl

theorem bodyZeroise_starts (h : leAt c.payload 0 4 ≤ 2 ∧ u.hbx.zeroising = none) :
    bodyZeroise c u = u.runP c [] fun s ref => s.zeroiseStart c.client (leAt c.payload 0 4) ref := by
  obtain ⟨hscope, hidle⟩ := h
  simp only [bodyZeroise, hidle, gt_iff_lt, Nat.not_lt.2 hscope, Option.isSome_none, Bool.false_eq_true, if_false]

end

/-- Settles O16: each command by its body's equation. -/
theorem hatboxCommandsComplete : Obligations.HatboxCommandsComplete := by
  unfold Obligations.HatboxCommandsComplete
  refine ⟨?submit, ?abort, ?lifecycle, ?confirmed, ?signed, ?selftest, ?zeroise, ?challenge, ?scope, ?unlock⟩
  case submit =>
    rintro q s _ _ j _ rfl rfl h hj hok hctx hroom rfl
    exact congrArg _ (State.request_finish h (bodyJobSubmit_queues hj hok hctx hroom))
  case abort =>
    rintro q s _ _ t rfl rfl h ht hruns
    exact congrArg _ (State.request_finish h (bodyJobAbort_aborts ht hruns))
  case lifecycle =>
    rintro q s _ rfl h
    exact congrArg _ (State.request_query h rfl)
  case confirmed =>
    rintro f q s _ _ n m r rfl rfl h hops hok
    exact congrArg _ (State.request_finish h (bodyLifecycleAdvance_confirmed hops hok))
  case signed =>
    rintro f q s _ _ n m r cls ch v rfl rfl h hops hok hch hcls hsig
    exact congrArg _ (State.request_finish h (bodyLifecycleAdvance_signed hops hok hch hcls hsig))
  case selftest =>
    rintro q s _ _ rfl rfl h hidle
    exact congrArg _ (State.request_finish h (bodySelftest_starts hidle))
  case zeroise =>
    rintro q s _ _ _ rfl rfl h hstart rfl
    exact congrArg _ (State.request_finish h (bodyZeroise_starts hstart))
  case challenge =>
    rintro q s _ _ rfl rfl h hdraws
    exact congrArg _ (State.request_done h (bodyDebugUnlock_challenge hdraws) (Quiet.of_regs rfl))
  case scope =>
    rintro q s _ _ n pr ch v rfl rfl h hpay hadmit hsig hn
    exact congrArg _ (State.request_finish h ((bodyDebugUnlock_authorised hpay hadmit hsig).trans (if_pos hn)))
  case unlock =>
    rintro q s _ _ n pr ch v _ rfl rfl h hpay hadmit hsig hn rfl
    exact congrArg _ (State.request_finish h ((bodyDebugUnlock_authorised hpay hadmit hsig).trans (if_neg hn)))

end Sys2Proof.Machine

/-! O18: the commands of the STORE class. -/

namespace Sys2Proof.Machine

-- One theorem at a time: those that wait for the kernel would each hold a thread with its whole stack.
set_option Elab.async false

section
variable {c : Ctx} {u v : State}

theorem State.storeBody_here (hhere : u.absentVariant = false) (f : State → Resp × State) : u.storeBody f = f u := by
  simp only [State.storeBody, hhere, Bool.false_eq_true, if_false]

/-! ### The device and the recorder (R492, R496, R497) -/

theorem bodyStoreAttach_attaches (hpay : u.absentVariant = false ∧ c.payload = [])
    (hstate : u.store.state = ssDetached ∨ u.store.state = ssFailed) :
    bodyStoreAttach c u = (u.setStore ssAttaching).pend c [] := by
  obtain ⟨hhere, hpay⟩ := hpay
  have hfree : (u.store.state != ssDetached && u.store.state != ssFailed) = false := by
    rcases hstate with h | h <;> simp [h]
  simp only [bodyStoreAttach, State.storeBody_here hhere, hpay, hfree, List.isEmpty_nil, Bool.not_true, Bool.false_eq_true, if_false]

theorem bodyStoreDetach_detaches (hpay : u.absentVariant = false ∧ c.payload.length = 4 ∧ leAt c.payload 0 4 ≤ 1)
    (hstate : u.store.state = ssAttached) :
    bodyStoreDetach c u = State.pend (u.detachStart (leAt c.payload 0 4 = 1)) c [] := by
  obtain ⟨hhere, hlen, hforce⟩ := hpay
  simp only [bodyStoreDetach, State.storeBody_here hhere, hlen, hstate, Nat.not_lt.2 hforce, bne_self_eq_false, Bool.false_eq_true,
    if_false]

theorem bodyRecorderStart_records (hpay : u.absentVariant = false ∧ c.payload.length = 4 ∧ leAt c.payload 0 4 ≤ 1)
    (hready : u.store.state = ssAttached ∧ u.recCount ≠ 0 ∧ u.xtsOk = true) (hv : v = u.recLocate (leAt c.payload 0 4 = 1)) :
    bodyRecorderStart c u = State.answer { v with store := { v.store with recording := true, located := true } } stDone := by
  subst hv
  obtain ⟨hhere, hlen, hfresh⟩ := hpay
  obtain ⟨hstate, hregion, hkey⟩ := hready
  simp only [bodyRecorderStart, State.storeBody_here hhere, hlen, hstate, hkey, Nat.not_lt.2 hfresh, beq_eq_false_iff_ne.2 hregion,
    bne_self_eq_false, Bool.not_true, Bool.or_false, Bool.false_eq_true, if_false]

/-- STORE.RECORDER_STOP, by whether a block is still in flight. -/
theorem bodyRecorderStop_stops (hpay : u.absentVariant = false ∧ c.payload = []) :
    bodyRecorderStop c u = if u.recStop.recInFlight = 0 then u.recStop.answer stDone
      else
        let w := (u.recStop.openTicket c []).2
        (⟨stPending, [], (u.recStop.openTicket c []).1, 0⟩,
          { w with store := { w.store with stopping := w.store.stopping ++ [(c.client, (u.recStop.openTicket c []).1)] } }) := by
  obtain ⟨hhere, hpay⟩ := hpay
  simp only [bodyRecorderStop, State.storeBody_here hhere, hpay, beq_iff_eq, List.isEmpty_nil, Bool.not_true, Bool.false_eq_true,
    if_false]
  rfl

theorem bodyStoreHealth_answers {w : StoreState} (hpay : u.absentVariant = false ∧ c.payload = []) (hw : w = u.store) :
    bodyStoreHealth c u = u.answer stDone (leBytes 1 w.state ++
      leBytes 1 (u.getF TrStatus.storeGen + 16 * u.getF TrStatus.storeWidth) ++ leBytes 1 w.critWarn ++ leBytes 1 w.pctUsed ++
      leBytes 2 w.temp ++ leBytes 2 w.lbaSize ++ leBytes 8 w.nsLbas ++ leBytes 8 w.mediaErrors ++ leBytes 8 w.seq) := by
  subst hw
  obtain ⟨hhere, hpay⟩ := hpay
  simp only [bodyStoreHealth, State.storeBody_here hhere, hpay, List.isEmpty_nil, Bool.not_true, Bool.false_eq_true, if_false]

/-! ### STORE.READ and STORE.WRITE (R493) -/

section
variable {b : Bulk} {l : List Byte} {a n : Nat} {x : Bool}

/-- A transfer whose buffer is read and whose header is in range goes on to its own work. -/
theorem State.storeIo_inRange {dir : Nat} (f : State → Bulk → List Byte → Nat → Nat → Bool → Resp × State)
    (hbulk : c.bulk = some b ∧ b.ok [dir] = true ∧ u.store.state = ssAttached) (hread : u.bulkRead c b = (some l, v))
    (hhead : v.storeHeader b l = .ok (a, n, x)) : u.storeIo c dir f = f v b l a n x := by
  obtain ⟨hbulk, hok, hstate⟩ := hbulk
  simp only [State.storeIo, hbulk, hok, hstate, hread, hhead, bne_self_eq_false, Bool.not_true, Bool.false_eq_true, if_false]

theorem bodyStoreRead_reads
    (hbulk : u.absentVariant = false ∧ c.bulk = some b ∧ b.ok [2] = true ∧ u.store.state = ssAttached)
    (hread : u.bulkRead c b = (some l, v)) (hhead : v.storeHeader b l = .ok (a, n, x)) :
    bodyStoreRead c u = v.readStart c b a n x :=
  (State.storeBody_here hbulk.1 _).trans (State.storeIo_inRange _ hbulk.2 hread hhead)

theorem bodyStoreWrite_writes
    (hbulk : u.absentVariant = false ∧ c.bulk = some b ∧ b.ok [0] = true ∧ u.store.state = ssAttached)
    (hread : u.bulkRead c b = (some l, v)) (hhead : v.storeHeader b l = .ok (a, n, x) ∧ v.lbaBusy a n = false) :
    bodyStoreWrite c u = v.writeStart c l a n x :=
  ((State.storeBody_here hbulk.1 _).trans (State.storeIo_inRange _ hbulk.2 hread hhead.1)).trans
    (if_neg (by rw [hhead.2]; decide))

end

/-! ### STORE.STAGE_IMAGE (R494) -/

section
variable (hready : u.store.state = ssAttached ∧ u.stageCount ≠ 0 ∧ (u.xtsSlot = 0xFFFF ∨ u.xtsOk = true) ∧ u.store.staging = none ∧
  u.locked c.client [imageLock] = false)
include hready

theorem State.stageReady_free (f : State → Resp × State) : u.stageReady c f = f u := by
  obtain ⟨hstate, hregion, hslot, hidle, hlock⟩ := hready
  have hkey : (u.xtsSlot != 0xFFFF && !u.xtsOk) = false := by
    rcases hslot with h | h <;> simp [h]
  simp only [State.stageReady, hstate, hkey, hidle, hlock, beq_eq_false_iff_ne.2 hregion, bne_self_eq_false, Option.isSome_none,
    Bool.or_false, Bool.false_eq_true, if_false]

theorem bodyStageImage_bar2 {n : Nat} (hpay : u.absentVariant = false ∧ c.bulk = none ∧ c.payload.length = 8)
    (hops : n = leAt c.payload 4 4 ∧ leAt c.payload 0 1 = 1 ∧ leAt c.payload 1 1 ≤ 1 ∧ leAt c.payload 2 2 = 0 ∧ n ≤ 16777216 ∧
      n ≤ u.stageCount * u.store.lbaSize) :
    bodyStageImage c u = (u.stageWrite 0 (memReads u.bar2 0x03000000 n)).stageStart c n (leAt c.payload 1 1) := by
  obtain ⟨hhere, hbulk, hlen⟩ := hpay
  obtain ⟨rfl, hsrc, hflags, hres, hmax, hroom⟩ := hops
  have hload : ¬leAt c.payload 1 1 > 1 := Nat.not_lt.2 hflags
  simp [bodyStageImage, State.storeBody_here hhere, State.stageReady_free hready, hbulk, hlen, hsrc, hload, hres, Nat.not_lt.2 hmax,
    Nat.not_lt.2 hroom]

theorem bodyStageImage_bulk {n : Nat} {b : Bulk} {l : List Byte} (hpay : u.absentVariant = false ∧ c.payload.length = 24)
    (hbulk : c.bulk = some b ∧ (b.seg && u.spiMb c.mb) = false ∧ b.ok [0] = true ∧ n ≤ b.len ∧ u.bulkRead c b = (some l, v))
    (hops : n = leAt c.payload 4 4 ∧ leAt c.payload 0 1 = 0 ∧ leAt c.payload 1 1 ≤ 1 ∧ leAt c.payload 2 2 = 0 ∧ n ≤ 16777216 ∧
      n ≤ u.stageCount * u.store.lbaSize) :
    bodyStageImage c u = (v.stageWrite 0 (l.take n)).stageStart c n (leAt c.payload 1 1) := by
  obtain ⟨hhere, hlen⟩ := hpay
  obtain ⟨hbulk, hwhole, hok, hfits, hread⟩ := hbulk
  obtain ⟨rfl, hsrc, hflags, hres, hmax, hroom⟩ := hops
  have hpieces : (c.cmd == 0x0E16 && (some b).any (fun b => b.seg) && u.spiMb c.mb) = false := by
    rw [Option.any_some, Bool.and_assoc, hwhole, Bool.and_false]
  simp only [bodyStageImage, State.storeBody_here hhere, State.stageReady_free hready, hpieces, hbulk, hlen, hsrc, hres, hok, hread,
    gt_iff_lt, Nat.not_lt.2 hflags, Nat.not_lt.2 hmax, Nat.not_lt.2 hroom, Nat.not_lt.2 hfits, bne_self_eq_false, beq_self_eq_true,
    decide_false, Bool.not_true, Bool.or_false, Bool.false_eq_true, Nat.reduceBEq, Nat.reduceLT, if_false, if_true]

theorem bodyStageImage_piece {b : Bulk} {x : Piece}
    (hbulk : u.absentVariant = false ∧ c.cmd = 0x0E16 ∧ c.bulk = some b ∧ b.seg = true ∧ u.spiMb c.mb = true ∧ b.ok [0] = true)
    (hpiece : u.pieceOf c b.len (u.stageCount * u.store.lbaSize) = some x) (hv : v = (u.pieceNote c x).stageWrite x.off x.data) :
    bodyStageImage c u = if x.last then v.stageStart c x.total 0 else (⟨stDone, [], 0, 0⟩, v) := by
  subst hv
  obtain ⟨hhere, hcmd, hbulk, hseg, hspi, hok⟩ := hbulk
  have hpieces : (c.cmd == 0x0E16 && (some b).any (fun b => b.seg) && u.spiMb c.mb) = true := by
    rw [hcmd, Option.any_some, hseg, hspi]
    rfl
  simp only [bodyStageImage, State.storeBody_here hhere, State.stageReady_free hready, hpieces, hbulk, hok, hpiece, Bool.not_true,
    Bool.false_eq_true, if_false, if_true]
  rfl

end

end

/-- Settles O18: each command by its body's equation. -/
theorem storeCommandsComplete : Obligations.StoreCommandsComplete := by
  unfold Obligations.StoreCommandsComplete
  refine ⟨?attach, ?detach, ?start, ?stop, ?stopWaits, ?read, ?write, ?bar2, ?bulk, ?piece, ?health⟩
  case attach =>
    rintro q s _ _ rfl rfl h hpay hstate
    exact congrArg _ (State.request_finish h (bodyStoreAttach_attaches hpay hstate))
  case detach =>
    rintro q s _ _ _ rfl rfl h hpay hstate rfl
    exact congrArg _ (State.request_finish h (bodyStoreDetach_detaches hpay hstate))
  case start =>
    rintro q s _ _ v rfl rfl h hpay hready hv
    exact congrArg _ (State.request_finish h (bodyRecorderStart_records hpay hready hv))
  case stop =>
    rintro q s _ _ rfl rfl h hpay hnone
    exact congrArg _ (State.request_finish h ((bodyRecorderStop_stops hpay).trans (if_pos hnone)))
  case stopWaits =>
    rintro q s _ _ _ rfl rfl h hpay hsome rfl
    exact congrArg _ (State.request_finish h ((bodyRecorderStop_stops hpay).trans (if_neg hsome)))
  case read =>
    rintro q s _ _ b l v a n x _ rfl rfl h hbulk hread hhead rfl
    exact congrArg _ (State.request_finish h (bodyStoreRead_reads hbulk hread hhead))
  case write =>
    rintro q s _ _ b l v a n x _ rfl rfl h hbulk hread hhead rfl
    exact congrArg _ (State.request_finish h (bodyStoreWrite_writes hbulk hread hhead))
  case bar2 =>
    rintro q s _ _ n _ rfl rfl h hpay hops hready rfl
    exact congrArg _ (State.request_finish h (bodyStageImage_bar2 hready hpay hops))
  case bulk =>
    rintro q s _ _ n b l v _ rfl rfl h hpay hbulk hops hready rfl
    exact congrArg _ (State.request_finish h (bodyStageImage_bulk hready hpay hbulk hops))
  case piece => exact fun _ _ _ _ _ hbulk hready => bodyStageImage_piece hready hbulk
  case health =>
    rintro q s _ _ v rfl rfl h hpay hv
    exact congrArg _ (State.request_query h (bodyStoreHealth_answers hpay hv))

end Sys2Proof.Machine

/-! O19: the commands of the CASC class. -/

namespace Sys2Proof.Machine

-- One theorem at a time: those that wait for the kernel would each hold a thread with its whole stack.
set_option Elab.async false

section
variable {c : Ctx} {u : State}

theorem bodyCascTopology_shows {t : Nat × Nat} (hpay : c.payload = []) (ht : t = u.standbyLink.getD (0xFF, 0xFF)) :
    bodyCascTopology c u = u.answer stDone ([u.getF CascStatus.role, u.getF CascStatus.topology, u.getF CascStatus.reachable,
      u.pier.master, t.1, t.2, 0, 0].flatMap (leBytes 1) ++ (List.range 4).flatMap u.deckEntry) := by
  subst ht
  simp only [bodyCascTopology, hpay, List.isEmpty_nil, Bool.not_true, Bool.false_eq_true, if_false]

theorem bodyStandbyLinkSet_stages (htyp : (orefOf c.payload).typ = 0x01)
    (hlink : leAt c.payload 8 1 ≤ 3 ∧ (leAt c.payload 9 1 = 20 ∨ leAt c.payload 9 1 = 21) ∧ leAt c.payload 10 2 = 0)
    (hlock : u.locked c.client [lockOf (pkey oDeck pidStandby)] = false) :
    bodyStandbyLinkSet c u = u.stage c [(pkey oDeck pidStandby, 2 ^ 16 + leAt c.payload 8 1 + leAt c.payload 9 1 * 256)] := by
  obtain ⟨hdeck, hport, hres⟩ := hlink
  have hpier : (leAt c.payload 9 1 != 20 && leAt c.payload 9 1 != 21) = false := by
    rcases hport with h | h <;> simp [h]
  simp only [bodyStandbyLinkSet, htyp, hlock, hres, hpier, gt_iff_lt, Nat.not_lt.2 hdeck, bne_self_eq_false, decide_false,
    Bool.or_false, Bool.false_eq_true, if_false]

theorem bodySplitLog_shows (hpay : c.payload = []) :
    bodySplitLog c u = u.answer stDone (u.pier.splitLog.flatMap SplitRec.bytes) := by
  simp only [bodySplitLog, hpay, List.isEmpty_nil, Bool.not_true, Bool.false_eq_true, if_false]

/-! ### CASC.HEAL of a Deck in quarantine, by its ACTION (R520) -/

section
variable (hpay : c.payload.length = 4 ∧ leAt c.payload 0 1 ≤ 3 ∧ leAt c.payload 2 2 = 0)
include hpay

theorem bodyCascHeal_stays (hquar : u.quarantined (leAt c.payload 0 1) = true) (hact : leAt c.payload 1 1 = 0) :
    bodyCascHeal c u = u.answer stDone := by
  obtain ⟨hlen, hdeck, hres⟩ := hpay
  simp only [bodyCascHeal, hlen, hres, hquar, hact, gt_iff_lt, Nat.not_lt.2 hdeck, Nat.not_lt.2 (Nat.zero_le 1), bne_self_eq_false,
    beq_self_eq_true, decide_false, Bool.not_true, Bool.or_false, Bool.false_eq_true, if_false, if_true]

theorem bodyCascHeal_heals {n : Nat} {r : DeckInfo} {e : Nat × Nat} {v : State}
    (hn : n = leAt c.payload 0 1 ∧ r = u.deckInfo n ∧ u.quarantined n = true)
    (he : e = if n = u.ownDeck then (u.gci.epoch, u.pier.commitId) else (r.epoch, r.commitId)) (hact : leAt c.payload 1 1 = 1)
    (hv : v = { u with pier := { u.pier with ledger := tabInsert u.pier.ledger n e } }) :
    bodyCascHeal c u = (((v.quarSet n false).quarTell n false 2).cascEvent 5 n).answer stDone := by
  subst hv he
  obtain ⟨hlen, hdeck, hres⟩ := hpay
  obtain ⟨rfl, rfl, hquar⟩ := hn
  have hheal : ((1 : Nat) == 0) = false := rfl
  simp only [bodyCascHeal, hlen, hres, hquar, hact, hheal, gt_iff_lt, Nat.not_lt.2 hdeck, Nat.lt_irrefl, bne_self_eq_false,
    beq_iff_eq, decide_false, Bool.not_true, Bool.or_false, Bool.false_eq_true, if_false]

end

end

/-- Settles O19: each command by its body's equation. -/
theorem cascCommandsComplete : Obligations.CascCommandsComplete := by
  unfold Obligations.CascCommandsComplete
  refine ⟨?topology, ?standby, ?stays, ?heals, ?log⟩
  case topology =>
    rintro q s _ _ t rfl rfl h hpay ht
    exact congrArg _ (State.request_query h (bodyCascTopology_shows hpay ht))
  case standby =>
    rintro q s _ _ d rfl rfl h htyp hlink hd hfree
    exact congrArg _ (State.request_stages h (bodyStandbyLinkSet_stages htyp hlink hfree.1) hd hfree)
  case stays =>
    rintro q s _ _ rfl rfl h hpay hquar hact
    exact congrArg _ (State.request_query h (bodyCascHeal_stays hpay hquar hact))
  case heals =>
    rintro q s _ _ n r e v rfl rfl h hpay hn he hact hv
    exact congrArg _ (State.request_finish h (bodyCascHeal_heals hpay hn he hact hv))
  case log =>
    rintro q s _ _ rfl rfl h hpay
    exact congrArg _ (State.request_query h (bodySplitLog_shows hpay))

end Sys2Proof.Machine

/-! O21: the commands of the FAULT class. -/

namespace Sys2Proof.Machine

-- One theorem at a time: those that wait for the kernel would each hold a thread with its whole stack.
set_option Elab.async false

section
variable {c : Ctx} {u v : State} {k : Nat}

theorem bodyFaultClear_clears {l : List Nat} (hk : k = leAt c.payload 0 2 ∧ leAt c.payload 2 2 = 0 ∧ (k ≤ 511 ∨ k = 0xFFFF))
    (hl : l = if k = 0xFFFF then List.range 512 else [k]) (hgone : ∀ n ∈ l, u.faultCond n = false) (hv : v = u.faultUnlatch l) :
    bodyFaultClear c u = State.answer (if l.contains 1 then v.shadowStart else v) stDone := by
  obtain ⟨rfl, hres, hnamed⟩ := hk
  subst hl hv
  have hrange : (decide (511 < leAt c.payload 0 2) && leAt c.payload 0 2 != 0xFFFF) = false := by
    rcases hnamed with h | h
    · simp [Nat.not_lt.2 h]
    · simp [h]
  have hquiet : (if leAt c.payload 0 2 = 0xFFFF then List.range 512 else [leAt c.payload 0 2]).any u.faultCond = false :=
    List.any_eq_false.2 fun n hn => Bool.eq_false_iff.1 (hgone n hn)
  simp only [bodyFaultClear, hres, hrange, hquiet, bne_self_eq_false, Bool.or_false, Bool.false_eq_true, if_false]

theorem bodyReactionSet_stages
    (hrange : (orefOf c.payload).typ = 0x20 ∧ bitsOf (leAt c.payload 8 4) 31 4 = 0 ∧ bitsOf (leAt c.payload 8 4) 1 0 ≠ 3)
    (hleast : rxWeaker (leAt c.payload 8 4) (leastReaction (orefOf c.payload).idx) = false) :
    bodyReactionSet c u = u.stage c [(pkey (orefOf c.payload).key (pidRaw 0), leAt c.payload 8 4)] := by
  obtain ⟨htyp, hres, hreact⟩ := hrange
  simp only [bodyReactionSet, htyp, hres, hleast, beq_eq_false_iff_ne.2 hreact, bne_self_eq_false, Bool.or_false, Bool.false_eq_true,
    if_false]

theorem bodyFaultInject_raises
    (hk : k = leAt c.payload 0 2 ∧ faultAssigned k = true ∧ k ≤ 511 ∧ leAt c.payload 2 2 ≤ 1 ∧ 1 ≤ leAt c.payload 4 4 ∧
      leAt c.payload 4 4 ≤ 1000000)
    (hoff : u.faultCond k = false) (hv : v = u.injectFault k (leAt c.payload 2 2 == 1) (leAt c.payload 4 4))
    (hserves : v.fwServing = true) : bodyFaultInject c u = v.answer stDone := by
  subst hv
  obtain ⟨rfl, hknown, hidx, hflags, hmin, hmax⟩ := hk
  simp only [bodyFaultInject, hknown, hoff, hserves, rng_of_le hmin hmax, Nat.not_lt.2 hidx, Nat.not_lt.2 hflags, Bool.not_true,
    decide_false, Bool.or_false, Bool.false_eq_true, if_false, if_true]

theorem bodyFaultLogRead_pends (hpay : c.payload.length = 4 ∧ 1 ≤ leAt c.payload 2 2 ∧ leAt c.payload 2 2 ≤ 32) :
    bodyFaultLogRead c u = u.pendHatpin c (4 * (u.faultsFor c.payload).length) [] false := by
  obtain ⟨hlen, hmin, hmax⟩ := hpay
  simp only [bodyFaultLogRead, hlen, rng_of_le hmin hmax, bne_self_eq_false, Bool.not_true, Bool.false_eq_true, if_false]

theorem bodyWatchdogSet_stages {ch : List (Nat × Nat)}
    (hrange : leAt c.payload 0 4 ≤ 1000 ∧ 10 ≤ leAt c.payload 4 4 ∧ leAt c.payload 4 4 ≤ 2000 ∧
      leAt c.payload 0 4 < leAt c.payload 4 4 ∧ 50 ≤ leAt c.payload 8 4 ∧ leAt c.payload 8 4 ≤ 5000)
    (hch : ch = [(pkey oDeck (pidWatchdog 0), leAt c.payload 0 4), (pkey oDeck (pidWatchdog 1), leAt c.payload 4 4),
      (pkey oDeck (pidWatchdog 2), leAt c.payload 8 4)])
    (hlock : u.locked c.client (ch.map fun kv => lockOf kv.1) = false) : bodyWatchdogSet c u = u.stage c ch := by
  subst hch
  obtain ⟨hopen, hclose, hclose', hless, hboot, hboot'⟩ := hrange
  have hlocks : u.locked c.client ((List.range 3).map fun i => lockOf (pkey oDeck (pidWatchdog i))) = false := hlock
  simp only [bodyWatchdogSet, hlocks, rng_of_le hclose hclose', rng_of_le hboot hboot', Nat.not_lt.2 hopen, Nat.not_le.2 hless,
    Bool.not_true, decide_false, Bool.or_false, Bool.false_eq_true, if_false]

end

/-- Settles O21: each command by its body's equation. -/
theorem faultCommandsComplete : Obligations.FaultCommandsComplete := by
  unfold Obligations.FaultCommandsComplete
  refine ⟨?status, ?clear, ?reaction, ?inject, ?log, ?watchdog⟩
  case status =>
    rintro q s _ rfl h
    exact congrArg _ (State.request_query h rfl)
  case clear =>
    rintro q s _ _ k l v rfl rfl h hk hl hgone hv
    exact congrArg _ (State.request_finish h (bodyFaultClear_clears hk hl hgone hv))
  case reaction =>
    rintro q s _ _ d rfl rfl h hrange hleast hd hfree
    exact congrArg _ (State.request_stages h (bodyReactionSet_stages hrange hleast) hd hfree)
  case inject =>
    rintro q s _ _ k v rfl rfl h hk hoff hv hserves
    exact congrArg _ (State.request_finish h (bodyFaultInject_raises hk hoff hv hserves))
  case log =>
    rintro q s _ _ _ rfl rfl h hpay rfl
    exact congrArg _ (State.request_finish h (bodyFaultLogRead_pends hpay))
  case watchdog =>
    rintro q s _ _ ch d rfl rfl h hrange hch hd hfree
    exact congrArg _ (State.request_stages h (bodyWatchdogSet_stages hrange hch hfree.1) hd hfree)

end Sys2Proof.Machine

/-! O37: entry into low power, wakes, supplies and temperatures, each command by its time or by the condition under which it takes
effect. -/

namespace Sys2Proof.Machine

-- One theorem at a time: those that wait for the kernel would each hold a thread with its whole stack.
set_option Elab.async false

section
variable {s v : State} {d : Nat}

/-! ### The crystal (R361, R367) -/

theorem execXosc32Stable_eq (hv : v = State.setF { s with brim := { s.brim with xoscOk := true } } PwrStatus.xoscOk 1) :
    execXosc32Stable s = .next (if v.brim.parkHeld = true ∧ v.brim.crystalFail = false ∧
      (v.brim.power = pwRunning ∨ v.brim.power = pwListening) then v.acceptPark v.brim.wakeSecs else v) := by
  subst hv
  simp only [execXosc32Stable, Bool.and_eq_true, Bool.or_eq_true, Bool.not_eq_true', beq_iff_eq, and_assoc]

theorem execXosc32Stop_eq (hv : v = State.setF { s with brim := { s.brim with xoscOk := false } } PwrStatus.xoscOk 0) :
    execXosc32Stop s = .next (if v.brim.power = pwParked then
      (State.deviceWake { v with brim := { v.brim with crystalFail := true } }).event PwrEvents.crystalFail 0x042 else v) := by
  subst hv
  simp only [execXosc32Stop, State.crystalWake, beq_iff_eq]

/-! ### Entry into low power (R366, R368, R371) -/

theorem execEntryHoldExpiry_requests (b : Bool) (h : s.brim.power = pwRunning ∧ s.par oDeck 0x0F00 ≠ 0 ∧ s.fwRunning = true)
    (hrest : s.lpSpansAsleep = true ∧ s.lpRest = true) (hv : v = s.hbTo (s.brim.hb + msC (s.par oDeck 0x0F01))) :
    execEntryHoldExpiry b s = .next (if b then v.lpRefuse else v.lpEnter (s.par oDeck 0x0F00)) := by
  subst hv
  obtain ⟨hpower, hmode, hfw⟩ := h
  simp only [execEntryHoldExpiry, hpower, hfw, hrest, beq_eq_false_iff_ne.2 hmode, bne_self_eq_false, Bool.not_true, Bool.or_false,
    Bool.false_eq_true, if_false]

theorem execEntryHoldExpiry_stays (b : Bool) (h : s.brim.power ≠ pwRunning ∨ s.par oDeck 0x0F00 = 0 ∨ s.fwRunning = false ∨
    s.lpSpansAsleep = false ∨ s.lpRest = false) : execEntryHoldExpiry b s = .next s := by
  rcases h with h | h | h | h | h <;> simp [execEntryHoldExpiry, h]

theorem execParkSupplyFall_parks (h : s.brim.entering = some pwParked) :
    execParkSupplyFall s = .next (if s.parkedNow.brim.xoscOk = false then s.parkedNow.crystalWake
      else if s.parkedNow.brim.wakeLatched then s.parkedNow.deviceWake else s.parkedNow) := by
  simp only [execParkSupplyFall, h, beq_self_eq_true, if_true, ← Bool.not_eq_true, ite_not]

theorem execParkSupplyFall_other (h : s.brim.entering ≠ some pwParked) : execParkSupplyFall s = .next s := by
  simp only [execParkSupplyFall, beq_eq_false_iff_ne.2 h, Bool.false_eq_true, if_false]

theorem execCoreClockStop_listens (h : s.brim.entering = some pwListening ∧ s.brim.power = pwRunning) :
    execCoreClockStop s = .next (if s.listeningNow.brim.wakeLatched then s.listeningNow.deviceWake else s.listeningNow) := by
  simp only [execCoreClockStop, h, beq_self_eq_true, Bool.and_self, if_true]

theorem execCoreClockStop_other (h : s.brim.entering ≠ some pwListening ∨ s.brim.power ≠ pwRunning) :
    execCoreClockStop s = .next s := by
  rcases h with h | h <;> simp [execCoreClockStop, h]

/-! ### Wakes and the two timers of low power (R364, R367, R372) -/

theorem execListeningWake_eq (s : State) :
    execListeningWake s = .next (if s.brim.power = pwListening ∧ s.brim.wakeLatched = true then s.deviceWake else s) := by
  simp only [execListeningWake, Bool.and_eq_true, beq_iff_eq]

theorem execCoreClocksResume_runs (h : s.brim.power = pwWaking ∧ s.brim.prev = pwListening) :
    execCoreClocksResume s = .next (((s.historyAll.setPower pwRunning).watchdogAgain.gatedLost).workChoose.spansResume) := by
  simp only [execCoreClocksResume, h, beq_self_eq_true, Bool.and_self, if_true]

theorem execCoreClocksResume_other (h : s.brim.power ≠ pwWaking ∨ s.brim.prev ≠ pwListening) : execCoreClocksResume s = .next s := by
  rcases h with h | h <;> simp [execCoreClocksResume, h]

theorem execParkedWake_wakes (h : s.brim.power = pwParked ∨ s.brim.entering = some pwParked) (hwake : s.brim.wakeLatched = true) :
    execParkedWake s = .next s.deviceWake := by
  rcases h with h | h <;> simp [execParkedWake, h, hwake]

theorem execParkedWake_stays
    (h : s.brim.wakeLatched = false ∨ (s.brim.power ≠ pwParked ∧ s.brim.entering ≠ some pwParked)) : execParkedWake s = .next s := by
  rcases h with h | h <;> simp [execParkedWake, h]

theorem execWakeTimerExpiry_due (h : s.brim.wakeTimer = some d ∧ v = s.hbTo d) :
    execWakeTimerExpiry s = .next (State.deviceWake (State.wakeRecord { v with brim := { v.brim with wakeTimer := none } }
      wsWakeTimer 0xFF 0xFF 0 false)) := by
  obtain ⟨hd, rfl⟩ := h
  simp only [execWakeTimerExpiry, hd]

theorem execWakeTimerExpiry_none (h : s.brim.wakeTimer = none) : execWakeTimerExpiry s = .next s := by
  simp only [execWakeTimerExpiry, h]

theorem execListenToParkExpiry_due (h : s.brim.parkTimer = some d ∧ v = s.hbTo d) :
    execListenToParkExpiry s = .next (State.parkOnTime { v with brim := { v.brim with parkTimer := none } }) := by
  obtain ⟨hd, rfl⟩ := h
  simp only [execListenToParkExpiry, hd]

theorem execListenToParkExpiry_none (h : s.brim.parkTimer = none) : execListenToParkExpiry s = .next s := by
  simp only [execListenToParkExpiry, h]

theorem State.parkOnTime_listening (h : s.brim.power = pwListening ∧ s.brim.crystalFail = false) :
    s.parkOnTime = if s.brim.xoscOk then s.acceptPark s.brim.wakeSecs else { s with brim := { s.brim with parkHeld := true } } := by
  simp only [State.parkOnTime, h, beq_self_eq_true, Bool.not_false, Bool.and_self, if_true]

/-! ### Degraded and its retries (R367, R373) -/

theorem execSupplyQualifyTimeout_due (h : s.brim.supplyTimer = some d) :
    execSupplyQualifyTimeout s = .next (if s.brim.power = pwWaking then (s.hbTo d).degradeSupply else s) := by
  simp only [execSupplyQualifyTimeout, h, beq_iff_eq]

theorem execSupplyQualifyTimeout_none (h : s.brim.supplyTimer = none) : execSupplyQualifyTimeout s = .next s := by
  simp only [execSupplyQualifyTimeout, h]

theorem execSupplyRetryExpiry_due (h : s.brim.retryAt = some d ∧ v = s.hbTo d) :
    execSupplyRetryExpiry s = .next (State.supplyRetry { v with brim := { v.brim with retryAt := none } }) := by
  obtain ⟨hd, rfl⟩ := h
  simp only [execSupplyRetryExpiry, hd]

theorem execSupplyRetryExpiry_none (h : s.brim.retryAt = none) : execSupplyRetryExpiry s = .next s := by
  simp only [execSupplyRetryExpiry, h]

theorem execThermalRetryExpiry_due (b : Byte) (h : s.brim.thermRetryAt = some d) :
    execThermalRetryExpiry b s = .next ((s.hbTo d).thermalRetry b.toNat) := by
  simp only [execThermalRetryExpiry, h]

theorem execThermalRetryExpiry_none (b : Byte) (h : s.brim.thermRetryAt = none) : execThermalRetryExpiry b s = .next s := by
  simp only [execThermalRetryExpiry, h]

/-! ### Temperatures (R375, R377) -/

theorem execThermalRead_eq (a b : Byte) (hv : v = s.thermPublish a.toNat b.toNat) :
    execThermalRead a b s =
      .next (if (229 ≤ s.getF ThermStatus.crownTemp ∧ 165 ≤ a.toNat - 64) ∨ 170 ≤ b.toNat - 64
        then (if s.brim.power = pwRunning then v.thermCritical else v) else v) := by
  subst hv
  simp only [execThermalRead, Bool.or_eq_true, Bool.and_eq_true, decide_eq_true_eq, beq_iff_eq, ge_iff_le]

theorem execThermalFallTimer_due (h : s.brim.thermFallAt = some d) : execThermalFallTimer s = .next (s.hbTo d).thermFall := by
  simp only [execThermalFallTimer, h]

theorem execThermalFallTimer_none (h : s.brim.thermFallAt = none) : execThermalFallTimer s = .next s := by
  simp only [execThermalFallTimer, h]

/-! ### Brim non-volatile memory (R370, R379, R536) -/

theorem execInhNvmWrite_writes (b : Bool) (h : s.gci.nvmPend ≠ []) (hv : v = { s with gci := { s.gci with nvmPend := [] } }) :
    execInhNvmWrite b s = .next (if b then v.hatpinDown.event PwrEvents.nvmFail 0x041
      else State.syncInh (State.cwFollow { v with brim := { v.brim with
        nvm := s.gci.nvmPend.foldl (fun (m : Tab Nat) kv => tabSet cfgDefault m kv.1 kv.2) s.brim.nvm } })) := by
  subst hv
  simp only [execInhNvmWrite, List.isEmpty_eq_false_iff.2 h, Bool.false_eq_true, if_false]

theorem execInhNvmWrite_none (b : Bool) (h : s.gci.nvmPend = []) : execInhNvmWrite b s = .next s := by
  simp only [execInhNvmWrite, h, List.isEmpty_nil, if_true]

end

/-- Settles O37: each command by the equation of its case. -/
theorem powerCommandsComplete : Obligations.PowerCommandsComplete := by
  unfold Obligations.PowerCommandsComplete
  refine ⟨fun _ _ => execXosc32Stable_eq, fun _ _ => execXosc32Stop_eq,
    fun b _ _ => execEntryHoldExpiry_requests b, fun b _ => execEntryHoldExpiry_stays b,
    fun _ => execParkSupplyFall_parks, fun _ => execParkSupplyFall_other,
    fun _ => execCoreClockStop_listens, fun _ => execCoreClockStop_other,
    execListeningWake_eq, fun _ => execCoreClocksResume_runs, fun _ => execCoreClocksResume_other,
    fun _ => execParkedWake_wakes, fun _ => execParkedWake_stays,
    fun _ _ _ => execWakeTimerExpiry_due, fun _ _ _ => execListenToParkExpiry_due, fun _ => State.parkOnTime_listening,
    fun _ _ => execSupplyQualifyTimeout_due, fun _ _ _ => execSupplyRetryExpiry_due, fun b _ _ => execThermalRetryExpiry_due b,
    fun a b _ _ => execThermalRead_eq a b, fun _ _ => execThermalFallTimer_due, ?noTime,
    fun b _ _ => execInhNvmWrite_writes b, fun b _ => execInhNvmWrite_none b, ?peaks⟩
  case noTime =>
    exact fun b _ => ⟨execWakeTimerExpiry_none, execListenToParkExpiry_none, execSupplyQualifyTimeout_none,
      execSupplyRetryExpiry_none, execThermalRetryExpiry_none b, execThermalFallTimer_none⟩
  case peaks =>
    rintro s _ rfl
    rfl

end Sys2Proof.Machine

/-! O43: the watchdog, lockstep, the Causeway's repeaters and VCC5, each command by the condition under which it takes effect. -/

namespace Sys2Proof.Machine

-- One theorem at a time: those that wait for the kernel would each hold a thread with its whole stack.
set_option Elab.async false

/-! ### Watchdog and lockstep (R446, R527, R533) -/

section
variable {s v : State} {d : Nat} (b : Byte) (h : Bool)

theorem execWatchdogService_inTime (hruns : s.brim.wdClose ≠ none)
    (hdue : b.toNat = s.getF WdtStatus.nextToken ∧ s.brim.wdOpen ≤ s.brim.hb) :
    execWatchdogService b h false s = .next (State.faultFall
      ((s.setF WdtStatus.nextToken (Config.watchdogNext b.toNat % 256)).watchdogWindow false h) 12) := by
  obtain ⟨d, hd⟩ := Option.ne_none_iff_exists'.1 hruns
  simp only [execWatchdogService, hd, ← hdue.1, Nat.not_lt.2 hdue.2, bne_self_eq_false, decide_false, Bool.or_false,
    Bool.false_eq_true, if_false]

theorem execWatchdogService_wrong (hruns : s.brim.wdClose ≠ none)
    (hwrong : b.toNat ≠ s.getF WdtStatus.nextToken ∨ s.brim.hb < s.brim.wdOpen) :
    execWatchdogService b h false s = .next s.watchdogReset := by
  obtain ⟨d, hd⟩ := Option.ne_none_iff_exists'.1 hruns
  rcases hwrong with hwrong | hwrong <;> simp [execWatchdogService, hd, hwrong]

theorem execWatchdogService_lost (s : State) : execWatchdogService b h true s = .next s.hatpinDown := by
  simp only [execWatchdogService, if_true]

theorem execWatchdogService_off (hoff : s.brim.wdClose = none) : execWatchdogService b h false s = .next s := by
  simp only [execWatchdogService, hoff, Bool.false_eq_true, if_false]

theorem execWatchdogExpiry_due (hd : s.brim.wdClose = some d) : execWatchdogExpiry s = .next (s.hbTo d).watchdogReset := by
  simp only [execWatchdogExpiry, hd]

theorem execWatchdogExpiry_none (hd : s.brim.wdClose = none) : execWatchdogExpiry s = .next s := by
  simp only [execWatchdogExpiry, hd]

theorem execWatchdogWarning_due (hd : s.brim.wdWarnAt = some d ∧ v = s.hbTo d) :
    execWatchdogWarning s = .next (State.faultRise { v with brim := { v.brim with wdWarnAt := none } } 12) := by
  obtain ⟨hd, rfl⟩ := hd
  simp only [execWatchdogWarning, hd]

theorem execWatchdogWarning_none (hd : s.brim.wdWarnAt = none) : execWatchdogWarning s = .next s := by
  simp only [execWatchdogWarning, hd]

end

/-! ### Repeaters (R537, R538, R539) -/

section
variable {p : Fin 4} {b : Bool} {s v : State}

theorem execCausewayTakeover_takes {r w : Repeater}
    (h : r = s.repeater p ∧ r.waitUntil ≠ none ∧ r.handedOver = false ∧ r.owns = false)
    (hw : w = { r with
      owns := true, waitUntil := none, ab := { r.ab with calibrated := false }, ba := { r.ba with calibrated := false } }) :
    execCausewayTakeover p s = .next ((s.setRepeater p w).cwXcvrs p).handoverStart := by
  subst hw
  obtain ⟨rfl, hwaits, hover, howns⟩ := h
  simp only [execCausewayTakeover, Option.isSome_iff_ne_none.2 hwaits, hover, howns, Bool.not_false, Bool.and_self, if_true]

theorem execCausewayTakeover_stays {r : Repeater}
    (h : r = s.repeater p ∧ (r.waitUntil = none ∨ r.handedOver = true ∨ r.owns = true)) : execCausewayTakeover p s = .next s := by
  obtain ⟨rfl, h⟩ := h
  rcases h with h | h | h <;> simp [execCausewayTakeover, h]

theorem execCausewayFrameReceive_takes {f : CanFrame}
    (h : s.cwActive p = true ∧ f.kind.val = 0 ∧ ((s.repeater p).dir (!b)).busOff = false) (hv : v = s.cwTake p b f) :
    execCausewayFrameReceive p b f s = .next { v with out := .canAck (2 * p + b2n b) :: v.out } := by
  subst hv
  simp only [execCausewayFrameReceive, h, bne_self_eq_false, Bool.not_true, Bool.or_false, Bool.false_eq_true, if_false]

theorem execCausewayFrameReceive_other {f : CanFrame}
    (h : s.cwActive p = false ∨ f.kind.val ≠ 0 ∨ ((s.repeater p).dir (!b)).busOff = true) :
    execCausewayFrameReceive p b f s = .next s := by
  rcases h with h | h | h <;> simp [execCausewayFrameReceive, h]

theorem execCausewayAttemptEnd_ends {o : Fin 4} {d : RepeatDir} {m : List Byte} {t : Nat} {l : List (List Byte × Nat)}
    (h : v = s.cwAged p b 4 ∧ d = (v.repeater p).dir b ∧ d.fifo = (m, t) :: l)
    (hsends : v.cwActive p = true ∧ d.busOff = false ∧ d.calibrated = true) :
    execCausewayAttemptEnd p b o s = .next (if o.val = 2 then v else v.cwEnded p b o m l) := by
  obtain ⟨rfl, rfl, hhead⟩ := h
  simp only [execCausewayAttemptEnd, hhead, hsends, Bool.not_true, Bool.or_self, Bool.false_or, decide_eq_true_eq]

theorem execCausewayAttemptEnd_none {o : Fin 4} {d : RepeatDir} (h : v = s.cwAged p b 4 ∧ d = (v.repeater p).dir b)
    (hnone : d.fifo = [] ∨ v.cwActive p = false ∨ d.busOff = true ∨ d.calibrated = false) :
    execCausewayAttemptEnd p b o s = .next v := by
  obtain ⟨rfl, rfl⟩ := h
  unfold execCausewayAttemptEnd
  dsimp only
  split
  next => rfl
  next hhead =>
    rcases hnone with h | h | h | h
    · simp [h] at hhead
    all_goals simp [h]

end

/-- Settles O43: each command by the equation of its case. -/
theorem causewayCommandsComplete : Obligations.CausewayCommandsComplete := by
  unfold Obligations.CausewayCommandsComplete
  refine ⟨fun b h _ => execWatchdogService_inTime b h, fun b h _ => execWatchdogService_wrong b h,
    fun b h s => ⟨execWatchdogService_lost b h s, execWatchdogService_off b h⟩,
    fun _ _ => execWatchdogExpiry_due, fun _ _ _ => execWatchdogWarning_due,
    fun _ => ⟨execWatchdogExpiry_none, execWatchdogWarning_none⟩, fun _ _ => rfl,
    fun _ _ _ _ => execCausewayTakeover_takes, fun _ _ _ => execCausewayTakeover_stays,
    fun _ _ _ _ _ => execCausewayFrameReceive_takes, fun _ _ _ _ => execCausewayFrameReceive_other,
    fun _ _ _ _ _ _ _ _ _ => execCausewayAttemptEnd_ends, fun _ _ _ _ _ _ => execCausewayAttemptEnd_none,
    ?recovery, ?loss, ?restored⟩
  case recovery =>
    rintro p b s _ rfl
    rfl
  case loss =>
    rintro s _ rfl
    rfl
  case restored =>
    rintro s _ rfl
    rfl

end Sys2Proof.Machine

/-! O44: Hatbox engines, entropy, storage and fault inputs, each command by its time or by the condition under which it takes
effect. -/

namespace Sys2Proof.Machine

-- One theorem at a time: those that wait for the kernel would each hold a thread with its whole stack.
set_option Elab.async false

/-! ### Engines (R427, R429, R433, R445) -/

section
variable {e : Fin 7} {u : Fin 4} {s v : State}

theorem execBulkQuantum_granted {j : HbxJob} {g : EngineSt} {w : State}
    (h : v = s.bulkDrainCheck ∧ v.grant e 6 (v.engine e) = some (j, g)) (hw : w = (v.setEngine e g).incHbx (3 + j.cls)) :
    execBulkQuantum e u s = .next (if u.val = 1 then w.failJob j 3
      else if u.val = 2 ∧ (w.slot j.slot).typ ≠ 0 then (w.eraseSlot j.slot).breakJob j stPolicyDenied
      else if w.jobDenied j then w.breakJob j stPolicyDenied
      else if u.val = 3 ∧ modeOut j.mode = true ∧ j.seg = false ∧ j.len ≤ j.done + 512
        then (w.flushFailed (j.outAddr + j.len - 1)).breakJob j stBulkFailed
      else w.bulkRun e j) := by
  subst hw
  obtain ⟨rfl, hgrant⟩ := h
  simp only [execBulkQuantum, hgrant, Bool.and_eq_true, Bool.not_eq_true', decide_eq_true_eq, beq_iff_eq, bne_iff_ne, ne_eq,
    ge_iff_le, and_assoc]

theorem execBulkQuantum_idle (h : v = s.bulkDrainCheck ∧ v.grant e 6 (v.engine e) = none) : execBulkQuantum e u s = .next v := by
  obtain ⟨rfl, hgrant⟩ := h
  simp only [execBulkQuantum, hgrant]

end

/-! ### Entropy, challenges and persistent copies (R411, R445, R447) -/

section
variable {s v : State} {d : Nat} (b : Bool)

theorem execEntropyRetry_due (h : s.hbx.retryAt = some d ∧ v = s.timeTo d) :
    execEntropyRetry b s = .next (if b then v.entropyFail else v.drbgSeed) := by
  obtain ⟨hd, rfl⟩ := h
  simp only [execEntropyRetry, hd]

theorem execEntropyRetry_none (h : s.hbx.retryAt = none) : execEntropyRetry b s = .next s := by
  simp only [execEntropyRetry, h]

theorem execChallengeExpiry_due {c : List Byte} (h : s.hbx.challenge = some (c, d) ∧ v = s.timeTo d) :
    execChallengeExpiry s = .next { v with hbx := { v.hbx with challenge := none } } := by
  obtain ⟨hd, rfl⟩ := h
  simp only [execChallengeExpiry, hd]

theorem execChallengeExpiry_none (h : s.hbx.challenge = none) : execChallengeExpiry s = .next s := by
  simp only [execChallengeExpiry, h]

theorem execPersistInvalidate_runs {c t k : Nat} (h : s.hbx.zeroising = some (c, t, k) ∧ k ≠ 0) :
    execPersistInvalidate b s = .next ((s.invalidateCopies b).zeroiseEnd b) := by
  simp only [execPersistInvalidate, h.1, beq_eq_false_iff_ne.2 h.2, Bool.false_eq_true, if_false]

theorem execPersistInvalidate_other (h : s.hbx.zeroising = none ∨ ∃ c t, s.hbx.zeroising = some (c, t, 0)) :
    execPersistInvalidate b s = .next s := by
  rcases h with h | ⟨c, t, h⟩
  · simp only [execPersistInvalidate, h]
  · simp only [execPersistInvalidate, h, beq_self_eq_true, if_true]

end

/-! ### The storage device (R492, R493, R497) -/

section
variable {s : State}

theorem execNvmeCommandComplete_done {k : Fin 64} {u : Fin 3} {l : List Byte} {c : NvmeCmd}
    (h : s.store.laneGated = false ∧ s.store.nvme[k.val]? = some c) :
    execNvmeCommandComplete k u l s =
      .next (State.nvmeDone { s with store := { s.store with nvme := s.store.nvme.erase c } } c u.val l) := by
  simp only [execNvmeCommandComplete, h, Bool.false_eq_true, if_false]

theorem execNvmeCommandComplete_waits {k : Fin 64} {u : Fin 3} {l : List Byte}
    (h : s.store.laneGated = true ∨ s.store.nvme[k.val]? = none) : execNvmeCommandComplete k u l s = .next s := by
  rcases h with h | h <;> simp [execNvmeCommandComplete, h]

theorem execStorageLinkDown_fails (h : s.store.state ≠ ssDetached ∧ s.absentVariant = false) :
    execStorageLinkDown s = .next ((s.storeAbort.storeLinkOff).setStore ssFailed) := by
  simp only [execStorageLinkDown, h.2, beq_eq_false_iff_ne.2 h.1, Bool.or_self, Bool.false_eq_true, if_false]

theorem execStorageLinkDown_other (h : s.store.state = ssDetached ∨ s.absentVariant = true) : execStorageLinkDown s = .next s := by
  rcases h with h | h <;> simp [execStorageLinkDown, h]

theorem State.endStops_waiting {c : Nat × Nat} {l : List (Nat × Nat)} (h : s.store.stopping = c :: l) :
    s.endStops stAborted = (c :: l).foldl (fun v x => v.finishTicket x.1 x.2 stAborted [])
      { s with store := { s.store with stopping := [] } } := by
  rw [State.endStops, h]

section
variable {a b : Byte} {t : BitVec 16} {m : BitVec 64}

theorem execHealthLogPoll_due {d : Nat} {v w : State} (h : s.store.healthAt = some d ∧ v = s.timeTo d)
    (hw : w = { v with store := { v.store with
      critWarn := a.toNat, pctUsed := b.toNat, temp := t.toNat, mediaErrors := m.toNat,
      healthAt := some (strandPlus d (secC 10)) } }) :
    execHealthLogPoll a b t m s = .next (if a.toNat ≠ 0 then w.occur 0x806 else w) := by
  subst hw
  obtain ⟨hd, rfl⟩ := h
  simp only [execHealthLogPoll, hd, bne_iff_ne]

theorem execHealthLogPoll_none (h : s.store.healthAt = none) : execHealthLogPoll a b t m s = .next s := by
  simp only [execHealthLogPoll, h]

end

/-! ### The recorder (R496) -/

section
variable {u : Fin 7}

theorem execRecorderCopyConsume_copy {d : Desc} {b : List Byte} {v : State} (h : s.takeRead 184 u = some (some (d, b), v)) :
    execRecorderCopyConsume u s = .next (if v.store.recording then v.recTake d b else v) := by
  simp only [execRecorderCopyConsume, h, Bool.not_eq_true', ← Bool.not_eq_true, ite_not]

theorem execRecorderCopyConsume_lost {v : State} (h : s.takeRead 184 u = some (none, v)) :
    execRecorderCopyConsume u s = .next v := by
  simp only [execRecorderCopyConsume, h]

theorem execRecorderCopyConsume_none (h : s.takeRead 184 u = none) : execRecorderCopyConsume u s = .next s := by
  simp only [execRecorderCopyConsume, h]

end

theorem execRecorderBlockClose_eq (s : State) :
    execRecorderBlockClose s =
      .next (if s.store.recording = true ∧ 4064 ≤ s.store.recBytes.length then s.blockClose else s) := by
  simp only [execRecorderBlockClose, Bool.and_eq_true, decide_eq_true_eq]

/-! ### Injected faults (R530) -/

variable {n : Fin 512}

theorem execFaultInjectEnd_due {d : Nat} (h : tabFind s.fcu.injected n = some d) :
    execFaultInjectEnd n s = .next ((s.timeTo d).faultFall n) := by
  simp only [execFaultInjectEnd, h]

theorem execFaultInjectEnd_none (h : tabFind s.fcu.injected n = none) : execFaultInjectEnd n s = .next s := by
  simp only [execFaultInjectEnd, h]

end

/-- Settles O44: each command by the equation of its case. -/
theorem hatboxStorageFaultCommandsComplete : Obligations.HatboxStorageFaultCommandsComplete := by
  unfold Obligations.HatboxStorageFaultCommandsComplete
  refine ⟨fun _ _ _ _ _ _ _ => execBulkQuantum_granted, fun _ _ _ _ => execBulkQuantum_idle, fun _ => rfl,
    fun b _ _ _ => execEntropyRetry_due b, fun _ _ _ _ => execChallengeExpiry_due,
    fun b _ _ _ _ => execPersistInvalidate_runs b, fun b _ => execPersistInvalidate_other b,
    fun _ _ _ _ _ => execNvmeCommandComplete_done, fun _ => execStorageLinkDown_fails, fun _ _ _ => State.endStops_waiting,
    fun _ => execStorageLinkDown_other, fun _ _ _ _ _ _ _ _ => execHealthLogPoll_due, ?nothing, ?copy,
    fun _ _ => execRecorderCopyConsume_none, execRecorderBlockClose_eq, fun _ _ _ => rfl, fun _ _ => rfl,
    fun _ _ _ => execFaultInjectEnd_due, fun _ _ => execFaultInjectEnd_none⟩
  case nothing =>
    exact fun _ _ _ _ _ _ _ f _ => ⟨execEntropyRetry_none f, execChallengeExpiry_none, execNvmeCommandComplete_waits,
      execHealthLogPoll_none⟩
  case copy =>
    intro u s x v h
    match x with
    | some (d, b) => exact execRecorderCopyConsume_copy h
    | none => exact execRecorderCopyConsume_lost h

end Sys2Proof.Machine

/-! O42: flush groups, host rings and poll slots, each command by the group, ring, frame or read that waits. -/

namespace Sys2Proof.Machine

-- One theorem at a time: those that wait for the kernel would each hold a thread with its whole stack.
set_option Elab.async false

/-! ### Flush groups (R477, R478) -/

section
variable {c : Fin 5} {s v : State} {g : FlushGroup}

theorem execFlushGroupClose_open
    (h : v = s.txBacks ∧ v.store.groups.find? (fun g => g.cls == c.val && g.issued.isNone) = some g) :
    execFlushGroupClose c s =
      .next (State.flushIssue (if g.rings = [] then v.timeTo (strandPlus g.openedAt (usC 1)) else v) c) := by
  obtain ⟨rfl, hg⟩ := h
  simp only [execFlushGroupClose, hg, List.isEmpty_iff]

theorem execFlushGroupClose_none
    (h : v = s.txBacks ∧ v.store.groups.find? (fun g => g.cls == c.val && g.issued.isNone) = none) :
    execFlushGroupClose c s = .next v := by
  obtain ⟨rfl, hg⟩ := h
  simp only [execFlushGroupClose, hg]

theorem execFlushReadCompletion_oldest (b : Bool) (h : s.flushOldest c = some g) :
    execFlushReadCompletion c b s = .next (s.flushEnd g b) := by
  simp only [execFlushReadCompletion, h]

theorem execFlushReadCompletion_none (b : Bool) (h : s.flushOldest c = none) : execFlushReadCompletion c b s = .next s := by
  simp only [execFlushReadCompletion, h]

theorem execFlushTimeout_oldest (h : s.flushOldest c = some g) :
    execFlushTimeout c s = .next ((s.timeTo (strandPlus (g.issued.getD 0) (msC 10))).flushEnd g true) := by
  simp only [execFlushTimeout, h]

theorem execFlushTimeout_none (h : s.flushOldest c = none) : execFlushTimeout c s = .next s := by
  simp only [execFlushTimeout, h]

end

/-! ### Host rings (R315, R487 to R489) -/

section
variable {s v : State}

theorem execHostRxDeliver_selects {u : Fin 7} {w : State} {k : Nat} (h : v = s.creditSync 22 ∧ (some k, w) = v.hostSelect) :
    execHostRxDeliver u s = .next (w.hrDeliver k u) := by
  obtain ⟨rfl, hsel⟩ := h
  simp only [execHostRxDeliver, ← hsel]

theorem execHostRxDeliver_none {u : Fin 7} {w : State} (h : v = s.creditSync 22 ∧ (none, w) = v.hostSelect) :
    execHostRxDeliver u s = .next w := by
  obtain ⟨rfl, hsel⟩ := h
  simp only [execHostRxDeliver, ← hsel]

theorem execHostTxDescriptorFetch_ring (b : Bool) {t : Nat} (h : v = s.txBacks ∧ v.txRing = some t) :
    execHostTxDescriptorFetch b s = .next (v.txTake t b) := by
  obtain ⟨rfl, ht⟩ := h
  simp only [execHostTxDescriptorFetch, ht]

theorem execHostTxDescriptorFetch_none (b : Bool) (h : v = s.txBacks ∧ v.txRing = none) :
    execHostTxDescriptorFetch b s = .next v := by
  obtain ⟨rfl, ht⟩ := h
  simp only [execHostTxDescriptorFetch, ht]

end

/-! ### Poll slots (R484) -/

section
variable {k : Fin 64} {s v : State}

theorem execPollDue_due {d : Nat} {p : PollSt} (h : (s.poll k).due = some d ∧ v = s.timeTo d)
    (hp : p = { s.poll k with due := some (strandPlus d (usC (plPeriod (v.par oDeck (0x9100 + k.val))))) }) :
    execPollDue k s = .next (if p.busy then (v.setPoll k p).incTr 6 else v.setPoll k { p with busy := true }) := by
  subst hp
  obtain ⟨hd, rfl⟩ := h
  simp only [execPollDue, hd]

theorem execPollDue_none (h : (s.poll k).due = none) : execPollDue k s = .next s := by
  simp only [execPollDue, h]

theorem execPollReadComplete_busy {b : Bool} {w : Word} {e : Nat}
    (h : (s.poll k).busy = true ∧ v = s.setPoll k { s.poll k with busy := false }) (he : e = s.par oDeck (0x9100 + k.val)) :
    execPollReadComplete k b w s = .next (if b then v.occur (0x840 + k) 0xFFFFFFFF
      else v.pollTaken k (if plSpace e == 0 then v.peek (plAddress e) else w.toNat)) := by
  subst he
  obtain ⟨hbusy, rfl⟩ := h
  simp only [execPollReadComplete, hbusy, Bool.not_true, Bool.false_eq_true, if_false]

theorem execPollReadComplete_idle {b : Bool} {w : Word} (h : (s.poll k).busy = false) : execPollReadComplete k b w s = .next s := by
  simp only [execPollReadComplete, h, Bool.not_false, if_true]

end

/-- Settles O42: each command by the equation of its case. -/
theorem trestleCommandsComplete : Obligations.TrestleCommandsComplete := by
  unfold Obligations.TrestleCommandsComplete
  refine ⟨fun _ _ => rfl, fun _ _ => rfl, fun _ _ _ _ => execFlushGroupClose_open, fun _ _ _ => execFlushGroupClose_none,
    fun _ b _ _ => execFlushReadCompletion_oldest b, fun _ _ _ => execFlushTimeout_oldest,
    fun _ b _ h => ⟨execFlushReadCompletion_none b h, execFlushTimeout_none h⟩,
    fun _ _ _ => rfl, fun _ _ _ => rfl, fun _ _ _ => rfl, ?deliver,
    fun b _ _ _ => execHostTxDescriptorFetch_ring b, fun b _ _ => execHostTxDescriptorFetch_none b,
    fun _ _ _ _ _ => execPollDue_due, fun _ _ _ _ _ _ => execPollReadComplete_busy,
    fun _ _ _ _ => ⟨execPollDue_none, execPollReadComplete_idle⟩⟩
  case deliver =>
    intro u s v w q h
    match q with
    | none => exact execHostRxDeliver_none h
    | some k => exact execHostRxDeliver_selects h

end Sys2Proof.Machine

/-! O41: doorbells, coalescing, claims, completion, read pointers, escalation, sleep and MSI-X. What each leaves is proved once for
each operation of the concentrator; what each does, by the condition under which it does so. -/

namespace Sys2Proof.Machine

-- One theorem at a time: those that wait for the kernel would each hold a thread with its whole stack.
set_option Elab.async false

/-! ### What further operations of the concentrator keep (R454 to R465) -/

namespace ConcentratorKeeps

theorem rdPtr_off (q : Nat) : 0x20000 ≤ EvqRdPtr.off q := Nat.le_add_right_of_le (by decide)

theorem drops_off (q : Nat) : 0x20000 ≤ EvqDrops.off q := Nat.le_add_right_of_le (by decide)

section
variable {P : State → Prop} {t : State} (k : ConcentratorKeeps P)
include k

/-- A queue taken by a target. -/
theorem claimed (h : P t) {q n m : Nat} : P ((t.setF (EvqStatus.state q) n).setF (EvqStatus.claimer q) m) :=
  k.setF (k.setF h (status_off q)) (status_off q)

theorem occurOn (h : P t) {src detail : Nat} {inj : Bool} {rq : Nat × Nat} : P (t.occurOn src detail inj rq) := by
  unfold State.occurOn
  exact ite (k.edit h) (k.evqWrite h)

theorem occur (h : P t) {src detail : Nat} {inj : Bool} : P (t.occur src detail inj) :=
  List.foldlRecOn _ _ h fun _ hu _ _ => k.occurOn hu

theorem payload (h : P t) {src pay : Nat} {inj : Bool} : P (t.payload src pay inj) :=
  List.foldlRecOn _ _ h fun _ hu _ _ =>
    ite (k.edit (k.setF hu (drops_off _))) (k.evqWrite hu)

theorem evqRefill (h : P t) {q : Nat} : P (t.evqRefill q) :=
  List.foldlRecOn _ _ (List.foldlRecOn _ _ h fun _ hu _ _ => ite (k.evqWrite (k.edit hu)) hu) fun _ hu _ _ =>
    List.foldlRecOn _ _ hu fun _ hv _ _ => ite (k.levelWrite hv) hv

theorem evqMoveRd (h : P t) {q ptr : Nat} : P (t.evqMoveRd q ptr) :=
  ite (k.setF h (by decide))
    (k.evqRefill (k.setF (k.setF h (rdPtr_off q)) (rdPtr_off q)))

theorem evqClaim (h : P t) {g : Nat} : P (t.evqClaim g).2 := by
  unfold State.evqClaim
  split
  case h_1 => exact h
  case h_2 => exact k.edit (ite (k.claimed h) (k.edit (k.claimed h)))

theorem evqResample (h : P t) {q : Nat} : P (t.evqResample q) :=
  List.foldlRecOn _ _ h fun _ hu _ _ => List.foldlRecOn _ _ hu fun _ hv _ _ => ite (k.evqWrite hv) hv

theorem evqComplete (h : P t) {q g : Nat} : P (t.evqComplete q g) :=
  ite (k.setF h (by decide)) (ite (k.evqEnterPending (k.evqToIdle (k.evqResample h))) (k.evqToIdle (k.evqResample h)))

theorem evqTargetSlept (h : P t) {g : Nat} : P (t.evqTargetSlept g) :=
  k.edit (List.foldlRecOn _ _ h fun _ hu _ _ => ite (k.evqEscalate hu) hu)

theorem escDue (h : P t) {q : Nat} : P (t.escDue q) := by
  have hagain : P ((t.setF (EvqStatus.state q) evqPending).setF (EvqStatus.escalated q) 1) :=
    k.setF (k.setF h (status_off q)) (status_off q)
  exact ite (k.evqEscalate h) (ite (k.edit (ite (k.claimed hagain) hagain)) h)

theorem msixSet (h : P t) {n e : Nat} : P (t.msixSet n e) := by
  unfold State.msixSet
  dsimp only
  split
  case h_1 => exact k.edit (k.edit h)
  case h_2 =>
    exact ite (k.edit (k.edit h)) (k.edit (List.foldlRecOn _ _ (k.msixDeliver (k.edit h)) fun _ hu _ _ => k.claimed hu))

end

end ConcentratorKeeps

/-- `t` has of `s` what every command about events leaves: the committed configuration, the fuses and the commands that wait. -/
structure EventKept (s t : State) : Prop where
  cfg : t.cfg = s.cfg
  fuses : t.fuses = s.fuses
  pending : t.pending = s.pending

namespace EventKept

variable {s t u : State}

@[refl] theorem refl (s : State) : EventKept s s := ⟨rfl, rfl, rfl⟩

theorem ite {c : Prop} {_ : Decidable c} (h : EventKept s t) (h' : EventKept s u) : EventKept s (if c then t else u) := by
  split <;> assumption

theorem concentratorKeeps (s : State) : ConcentratorKeeps (EventKept s) where
  edit h := ⟨h.cfg, h.fuses, h.pending⟩
  setF h _ := ⟨h.cfg, h.fuses, h.pending⟩

theorem pass (h : EventKept s t) {n : Nat} : EventKept s (t.pass n) :=
  ⟨(t.cfg_pass n).trans h.cfg, (t.fuses_pass n).trans h.fuses, (t.pending_pass n).trans h.pending⟩

theorem timeTo (h : EventKept s t) {d : Nat} : EventKept s (t.timeTo d) := h.ite h.pass

theorem hosted (h : EventKept s t) : EventKept s (s.hosted t) := h.ite (refl s)

/-- A command that goes on to such a state answers it. -/
theorem answers (h : EventKept s t) : ∃ v, (.next t : Host.Outcome State Fault Refusal) = .next v ∧ v.cfg = s.cfg ∧
    v.fuses = s.fuses ∧ v.pending = s.pending := ⟨t, rfl, h.cfg, h.fuses, h.pending⟩

end EventKept

/-! ### Doorbells and coalescing (R450, R459) -/

section
variable {a : BitVec 12} {b : BitVec 2} {d : BitVec 32} {p : BitVec 96} {s : State}

theorem execDoorbellAccept_counted (h : srcKind a.toNat = some .counted ∧ b = 0) :
    execDoorbellAccept a b d p s = .next (s.occur a.toNat d.toNat) := by
  obtain ⟨hkind, rfl⟩ := h
  simp only [execDoorbellAccept, hkind]
  rfl

theorem execDoorbellAccept_level (h : srcKind a.toNat = some .level ∧ (b = 1 ∨ b = 2)) :
    execDoorbellAccept a b d p s = .next (s.level a.toNat (b == 1) (if b = 1 then d.toNat else 0)) := by
  obtain ⟨hkind, rfl | rfl⟩ := h
  · simp only [execDoorbellAccept, hkind]
    rfl
  · simp only [execDoorbellAccept, hkind]
    rfl

theorem execDoorbellAccept_payload (h : srcKind a.toNat = some .payload ∧ b = 3) :
    execDoorbellAccept a b d p s = .next (s.payload a.toNat p.toNat) := by
  obtain ⟨hkind, rfl⟩ := h
  simp only [execDoorbellAccept, hkind]
  rfl

/-- A doorbell of another kind than its source's, or of a number never assigned. -/
theorem execDoorbellAccept_other (h : srcKind a.toNat = none ∨ (srcKind a.toNat = some .counted ∧ b ≠ 0) ∨
    (srcKind a.toNat = some .level ∧ (b = 0 ∨ b = 3)) ∨ (srcKind a.toNat = some .payload ∧ b ≠ 3)) :
    execDoorbellAccept a b d p s = .next s := by
  unfold execDoorbellAccept
  dsimp only
  split
  case h_5 => rfl
  all_goals simp_all [BitVec.toNat_eq]

theorem EventKept.doorbell (a : BitVec 12) (b : BitVec 2) (d : BitVec 32) (p : BitVec 96) (s : State) :
    ∃ t, execDoorbellAccept a b d p s = .next t ∧ t.cfg = s.cfg ∧ t.fuses = s.fuses ∧ t.pending = s.pending := by
  have k := EventKept.concentratorKeeps s
  unfold execDoorbellAccept
  refine EventKept.answers ?_
  split
  · exact k.occur (.refl s)
  · exact k.level (.refl s)
  · exact k.level (.refl s)
  · exact k.payload (.refl s)
  · exact .refl s

end

section
variable {q : Fin 64} {s v : State} {d : Nat}

theorem execCoalesceTimeExpiry_due (h : (s.evq q).coalAt = some d ∧ v = s.timeTo d) :
    execCoalesceTimeExpiry q s = .next (if v.getF (EvqStatus.state q) = evqIdle ∧ v.evqNonEmpty q = true then v.evqEnterPending q
      else v.setEvq q { v.evq q with coalAt := none }) := by
  obtain ⟨hd, rfl⟩ := h
  simp only [execCoalesceTimeExpiry, hd, Bool.and_eq_true, beq_iff_eq]

theorem execCoalesceTimeExpiry_none (h : (s.evq q).coalAt = none) : execCoalesceTimeExpiry q s = .next s := by
  simp only [execCoalesceTimeExpiry, h]

theorem EventKept.coalesce (q : Fin 64) (s : State) :
    ∃ t, execCoalesceTimeExpiry q s = .next t ∧ t.cfg = s.cfg ∧ t.fuses = s.fuses ∧ t.pending = s.pending := by
  have k := EventKept.concentratorKeeps s
  unfold execCoalesceTimeExpiry
  refine EventKept.answers ?_
  split
  · exact .refl s
  · exact .ite (k.evqEnterPending (EventKept.refl s).timeTo) (k.edit (EventKept.refl s).timeTo)

end

/-! ### Claims and completion (R461, R462) -/

section
variable {t : Fin 5} {s v : State}

/-- Claiming a queue leaves its target as it was. -/
theorem State.target_claimed (s : State) (q n m : Nat) :
    ((s.setF (EvqStatus.state q) n).setF (EvqStatus.claimer q) m).getF (EvqStatus.target q) = s.getF (EvqStatus.target q) := by
  rw [State.getF_setF_ne, State.getF_setF_ne] <;>
    exact .inr (by simp only [EvqStatus.state, EvqStatus.claimer, EvqStatus.target]; omega)

theorem State.evqClaim_none {g : Nat} (h : s.evqPick g = none) : s.evqClaim g = (0xFFF, s) := by
  simp only [State.evqClaim, h]

/-- A claim of a queue of target 3 with a record leaves its escalation timer, which runs on until COMPLETE (R463). -/
theorem State.evqClaim_host {g q : Nat} (h : s.evqPick g = some q ∧ s.getF (EvqStatus.target q) = 3 ∧ 0 < s.evqFill q) :
    s.evqClaim g = ((s.evRec q (s.evqRd q)).src + q * 2 ^ 12 + 2 ^ 18 + b2n (s.flag (EvqStatus.escalated q)) * 2 ^ 19,
      ((s.setF (EvqStatus.state q) evqClaimed).setF (EvqStatus.claimer q) g).syncIrq) := by
  obtain ⟨hpick, htarget, hfill⟩ := h
  simp only [State.evqClaim, hpick, State.target_claimed, htarget, Nat.ne_of_gt hfill, beq_self_eq_true, if_false, if_true]

theorem execTgtClaim_claims {a : Nat} (h : s.evqClaim t = (a, v)) :
    execTgtClaim t s = .next (s.hosted { v with out := .readData (0x20100 + (t.val - 3) * 8) a :: v.out }) := by
  simp only [execTgtClaim, h]

theorem State.evqComplete_refused {q g : Nat} (h : s.getF (EvqStatus.state q) ≠ evqClaimed ∨ s.getF (EvqStatus.claimer q) ≠ g) :
    s.evqComplete q g = s.setF EvtErr.badComplete 1 := by
  rcases h with h | h <;> simp [State.evqComplete, h]

theorem State.evqComplete_claimer {q g : Nat} (h : s.getF (EvqStatus.state q) = evqClaimed ∧ s.getF (EvqStatus.claimer q) = g)
    (hv : v = s.evqResample q) : s.evqComplete q g =
      if v.evqNonEmpty q = true then (v.evqToIdle q).evqEnterPending q else v.evqToIdle q := by
  subst hv
  simp only [State.evqComplete, h, bne_self_eq_false, Bool.or_self, Bool.false_eq_true, if_false]

end

/-! ### Read pointers (R9, R457) -/

section
variable {q : Fin 64} {b : Bool} {w : Word} {s : State} {n : Nat}

theorem execEvqRdPtrWrite_moves (h : b = false ∨ 16 ≤ q.val) :
    execEvqRdPtrWrite q b w s = .next (s.hosted (s.evqMoveRd q (bitsOf w.toNat 6 0))) := by
  have hown : (b && decide (q.val < 16)) = false := by
    rcases h with h | h <;> simp [h]
  simp only [execEvqRdPtrWrite, hown, Bool.false_eq_true, if_false]

theorem execEvqRdPtrWrite_firmware (h : q.val < 16) : execEvqRdPtrWrite q true w s = .next s := by
  simp only [execEvqRdPtrWrite, h, decide_true, Bool.and_self, if_true, State.hosted_self]

theorem bitsOf_mod_128 (x : Nat) : bitsOf x 6 0 % 128 = bitsOf x 6 0 := by
  unfold bitsOf
  omega

theorem State.evqMoveRd_past {q x : Nat} (h : n = bitsOf x 6 0 ∧ s.evqFill q < (n + 128 - s.evqRd q) % 128) :
    s.evqMoveRd q (bitsOf x 6 0) = s.setF EvtErr.badRdPtr 1 := by
  obtain ⟨rfl, h⟩ := h
  simp only [State.evqMoveRd, bitsOf_mod_128, gt_iff_lt, h, if_true]

theorem State.evqMoveRd_within {q x : Nat} (h : n = bitsOf x 6 0 ∧ (n + 128 - s.evqRd q) % 128 ≤ s.evqFill q) :
    s.evqMoveRd q (bitsOf x 6 0) = ((s.setF (EvqRdPtr.index q) (n % 64)).setF (EvqRdPtr.wrap q) (n / 64)).evqRefill q := by
  obtain ⟨rfl, h⟩ := h
  simp only [State.evqMoveRd, bitsOf_mod_128, gt_iff_lt, Nat.not_lt.2 h, if_false]

end

/-! ### Escalation and sleep (R52, R463) -/

section
variable {q : Fin 64} {s v : State} {d : Nat}

theorem execEscTimeoutExpiry_due (h : (s.evq q).escAt = some d ∧ (16 ≤ q.val ∨ s.getF DeckBootStatus.stage ≠ 11))
    (hv : v = s.timeTo d) : execEscTimeoutExpiry q s = .next (State.escDue (v.setEvq q { v.evq q with escAt := none }) q) := by
  subst hv
  obtain ⟨hd, hruns⟩ := h
  have hfree : (decide (q.val < 16) && s.getF DeckBootStatus.stage == 11) = false := by
    rcases hruns with h | h <;> simp [h]
  simp only [execEscTimeoutExpiry, hd, hfree, Bool.false_eq_true, if_false]

theorem execEscTimeoutExpiry_held (h : (s.evq q).escAt = none ∨ (q.val < 16 ∧ s.getF DeckBootStatus.stage = 11)) :
    execEscTimeoutExpiry q s = .next s := by
  unfold execEscTimeoutExpiry
  split
  case h_1 => rfl
  case h_2 d hd =>
    rcases h with h | h
    · simp [h] at hd
    · simp [h]

theorem State.escDue_pending {q : Nat} (h : s.getF (EvqStatus.state q) = evqPending) : s.escDue q = s.evqEscalate q := by
  simp only [State.escDue, h, beq_self_eq_true, if_true]

theorem EventKept.escTimeout (q : Fin 64) (s : State) :
    ∃ t, execEscTimeoutExpiry q s = .next t ∧ t.cfg = s.cfg ∧ t.fuses = s.fuses ∧ t.pending = s.pending := by
  have k := EventKept.concentratorKeeps s
  unfold execEscTimeoutExpiry
  refine EventKept.answers ?_
  split
  · exact .refl s
  · exact .ite (.refl s) (k.escDue (k.edit (EventKept.refl s).timeTo))

theorem execTargetSleepChange_eq {t : Fin 6} {b : Bool}
    (hv : v = if t.val = 0 then { s with haltA := b } else if t.val = 1 then { s with haltB := b }
      else if t.val = 3 ∧ b = true then { s with pcie := { s.pcie with linkUp := false } } else s) :
    execTargetSleepChange t b s = .next (v.evqTargetSlept t) := by
  subst hv
  simp only [execTargetSleepChange, Bool.and_eq_true, decide_eq_true_eq]

theorem EventKept.sleepChange (t : Fin 6) (b : Bool) (s : State) :
    ∃ v, execTargetSleepChange t b s = .next v ∧ v.cfg = s.cfg ∧ v.fuses = s.fuses ∧ v.pending = s.pending := by
  unfold execTargetSleepChange
  refine EventKept.answers ((EventKept.concentratorKeeps s).evqTargetSlept ?_)
  split_ifs <;> exact ⟨rfl, rfl, rfl⟩

end

/-! ### MSI-X vectors (R30, R465) -/

section
variable {n e : Nat} {s v : State}

theorem bitOf_setBit_same (x i : Nat) (b : Bool) : bitOf (setBit x i b) i = b := by
  have h := bitsOf_setBits_same x i i (if b then 1 else 0)
  rw [bitsOf, Nat.add_sub_cancel_left, pow_one] at h
  rw [bitOf, setBit, h]
  cases b <;> rfl

theorem State.msixSet_idle (hv : v = { s with evt := { s.evt with msixTab := tabSet msixDefault s.evt.msixTab n e } })
    (hnone : v.msixWaiting n = []) : s.msixSet n e = v.syncIrq := by
  subst hv
  simp only [State.msixSet, hnone]

theorem State.msixSet_waits {q : Nat} (hv : v = { s with evt := { s.evt with msixTab := tabSet msixDefault s.evt.msixTab n e } })
    (hone : v.msixWaiting n = [q]) (hmask : bitOf e 96 = false) (hawake : v.targetAsleep 3 = false) :
    s.msixSet n e = (v.msixDeliver q).syncIrq := by
  subst hv
  simp only [State.msixSet, hone, hmask, hawake, Bool.or_self, Bool.false_eq_true, if_false, List.foldl_nil]

end

/-- Settles O41: what each of the eight leaves by what the concentrator keeps, and what it does by the equation of its case. -/
theorem eventCommandsTakeEffect : Obligations.EventCommandsTakeEffect := by
  unfold Obligations.EventCommandsTakeEffect
  refine ⟨EventKept.doorbell, EventKept.coalesce, ?claim, ?complete, ?readPtr, EventKept.escTimeout, EventKept.sleepChange, ?unmask,
    fun _ _ h => execTgtClaim_claims (State.evqClaim_none h), ?claimHost,
    fun _ _ _ h => congrArg (fun v => Host.Outcome.next (State.hosted _ v)) (State.evqComplete_refused h),
    fun _ _ _ _ h hv => congrArg (fun v => Host.Outcome.next (State.hosted _ v)) (State.evqComplete_claimer h hv),
    ?pastWritten, ?within, ?escPending,
    fun _ _ _ h => congrArg _ (State.msixSet_idle h.1 h.2),
    fun _ _ _ _ h hawake => congrArg _ (State.msixSet_waits h.1 h.2 (bitOf_setBit_same _ _ _) hawake),
    fun _ _ _ _ _ => execDoorbellAccept_counted, fun _ _ _ _ _ => execDoorbellAccept_level,
    fun _ _ _ _ _ => execDoorbellAccept_payload, fun _ _ _ _ _ => execDoorbellAccept_other,
    fun _ _ _ _ => execCoalesceTimeExpiry_due, fun _ _ => execCoalesceTimeExpiry_none,
    fun _ _ _ _ => execTgtClaim_claims, fun _ _ _ => rfl, fun _ _ _ _ => execEvqRdPtrWrite_moves,
    fun _ _ _ => execEvqRdPtrWrite_firmware, fun _ _ _ _ => execEscTimeoutExpiry_due, fun _ _ => execEscTimeoutExpiry_held,
    fun _ _ _ _ => execTargetSleepChange_eq, fun _ _ => rfl⟩
  case claim =>
    intro g s
    have k := EventKept.concentratorKeeps s
    exact EventKept.answers (EventKept.hosted (k.edit (k.evqClaim (.refl s))))
  case complete => exact fun _ _ s => EventKept.answers (EventKept.hosted ((EventKept.concentratorKeeps s).evqComplete (.refl s)))
  case readPtr =>
    exact fun _ _ _ s => EventKept.answers (EventKept.hosted (.ite (.refl s) ((EventKept.concentratorKeeps s).evqMoveRd (.refl s))))
  case unmask => exact fun _ s => EventKept.answers ((EventKept.concentratorKeeps s).msixSet (.refl s))
  case claimHost =>
    rintro t s _ q _ h rfl rfl
    exact execTgtClaim_claims (State.evqClaim_host h)
  case pastWritten =>
    rintro q b w s n hown h
    exact (execEvqRdPtrWrite_moves hown).trans (by rw [State.evqMoveRd_past h])
  case within =>
    rintro q b w s n hown h
    exact (execEvqRdPtrWrite_moves hown).trans (by rw [State.evqMoveRd_within h])
  case escPending =>
    rintro q s d v ⟨hd, hq⟩ ⟨rfl, hpend⟩
    exact (execEscTimeoutExpiry_due ⟨hd, .inl hq⟩ rfl).trans (by rw [State.escDue_pending hpend])

end Sys2Proof.Machine
